-- ==== Sys2Proof/Word.lean ====
section
/-! DEFINITION. The word types of the register file and of frames, and the plain types of logical port numbers, times
and byte strings. -/

namespace Sys2Proof

/-- One 32-bit register of BAR0. -/
abbrev Word := BitVec 32

/-- One byte of a frame, an item, a record or a key. -/
abbrev Byte := BitVec 8

/-- A byte string, first byte sent or stored first. -/
abbrev Bytes := List Byte

/-- A TAI time in nanoseconds (R9); 0 means no time. -/
abbrev Tai := Nat

end Sys2Proof
end

