-- ==== Sys2Proof/Syntax.lean ====
section
/-! DEFINITION. The commands of the block: every row of the table of operations and events, with the data that the
outside world brings with it. A command that follows from a register write carries the written values; an event on a
pin, a bus, a link or in host memory carries what the part sees there. Times are TAI ns; a raw capture is in 1/16 ns
(R60). -/

namespace Sys2Proof

/-- The fields of a frame as they stand on a medium or in a record: FORMAT (Table 4.6), ID (Table 4.5), the CAN XL
acceptance field and the payload (for an Ethernet-type frame every byte from the destination address to the FCS,
exclusive). -/
structure Wire where
  kind : Nat          -- 0 classical, 1 FD, 2 XL, 3 Ethernet, 4 T1S, 5 UART, 6 internal
  ide  : Bool
  brs  : Bool
  rtr  : Bool
  esi  : Bool
  id   : Nat
  af   : Nat
  data : Bytes
  deriving DecidableEq, Repr

/-- Words of the doorbell page as an intake slot reads it, by page offset (Table 4.3). -/
abbrev PageWords := List (Nat × Nat)

/-- Is a list of words one of the doorbell page: each at the offset of one of its indices (Table 4.3), of 32 bits? -/
def pageOk (p : PageWords) : Bool :=
  p.all fun (e : Nat × Nat) => decide (0x40 ≤ e.1 ∧ e.1 < 0x340 ∧ e.1 % 4 = 0 ∧ e.2 < 2 ^ 32)

/-- One read of a TX descriptor slot: its 32 bytes, or none where the read failed (R86), and its payload or input
buffer, or none where that read failed. -/
structure DescRead where
  ring    : Nat
  bytes   : Option Bytes
  payload : Option Bytes
  deriving DecidableEq, Repr

/-- The fields of an Announce message that the BMCA compares. -/
structure Announce where
  sender : Nat
  gmId   : Nat
  prio1  : Nat
  cls    : Nat
  acc    : Nat
  oslv   : Nat
  prio2  : Nat
  steps  : Nat
  path   : List Nat := []   -- clock identities of its path trace TLV (Table 3.2)
  deriving DecidableEq, Repr

/-- What a sector of the embedded NVM meets in a write: an erase and whether its verify fails, then the pulses of a
program (0: none) and whether a word reads back uncorrectable (R402). -/
structure SectorWear where
  sector    : Nat
  erased    : Bool
  eraseFail : Bool
  pulses    : Nat
  bad       : Bool
  deriving DecidableEq, Repr

/-- How ISO 11898-1 counts a detected error (R180). -/
inductive ErrCount where
  /-- a receiver detects an error: REC + 1 -/
  | receiver
  /-- a receiver sees a dominant bit first after its error flag, or a bit error in its flag: REC + 8 -/
  | receiverFlag
  /-- a transmitter sends an error flag: TEC + 8 -/
  | transmitter
  /-- a passive transmitter's acknowledge error without a dominant bit in its flag, or a stuff error in arbitration:
  no change -/
  | transmitterExempt
  deriving DecidableEq, Repr

/-- One line of an imager frame between Frame Start and Frame End: did its payload CRC hold, and its pixels' raw
values. -/
structure NestLine where
  crcOk  : Bool
  pixels : List Nat
  deriving DecidableEq, Repr

/-- What a CSI-2 receiver has counted since the last Frame Start or Frame End, beside the lines it hands on: header ECC
corrections, discarded packets, discarded data types and channels, and bad lines of a frame that never ended. -/
structure CsiCounts where
  eccCorr  : Nat
  eccDrop  : Nat
  dtDrop   : Nat
  crcLines : Nat
  deriving DecidableEq, Repr

/-- How one 32-bit access reaches BAR0: the path (R479), the byte enables of the doubleword, and, of the request it belongs to,
the last byte enables and the length in doublewords. -/
structure Access where
  path : Nat
  be   : Nat
  last : Nat
  len  : Nat
  deriving DecidableEq, Repr

/-- A path and byte enables that exist. -/
def Access.ok (a : Access) : Bool := decide (a.path < 4 ∧ a.be < 16 ∧ a.last < 16 ∧ 1 ≤ a.len)

/-- A register service request (Table 17.3): the fields before DATA, and every byte that follows the first 16. -/
structure Request where
  magic   : Nat
  version : Nat
  seq     : Nat
  count   : Nat
  offset  : Nat
  body    : Bytes
  deriving DecidableEq, Repr

/-- A doubleword of BAR0. -/
def bar0 (off : Nat) : Bool := decide (off < 0x4000000 ∧ off % 4 = 0)

/-- Does a UNIT name a unit of the state registry (Table 17.1)? -/
def registryUnit (u : Nat) : Bool :=
  match u / 4096 with
  | 1 => decide (u % 4096 < 80)
  | 2 => decide (u % 4096 < 24)
  | 3 => decide (u % 4096 < 64)
  | 4 => decide (u % 4096 < 64)
  | 5 => decide (u % 4096 < 2)
  | 6 => decide (u % 4096 < 1)
  | _ => false

/-- One constructor for each row of the table of operations and events, in its order. -/
inductive Instr where
  /-- A new beat starts on the TAI timescale and its beat number advances (R21). -/
  | beatBoundary (temp pads : Nat) (bkup : Bool) (bad : List (Nat × Nat)) (t : Tai)
  /-- The intake slot starts: the doorbell page is read, then TX descriptors are fetched (R79). -/
  | intakeSlot (page : Option PageWords) (reads : List DescRead) (t : Tai)
  /-- The commit slot runs: staged sets and class C writes accepted before it are applied, and re-derivations and epoch increments are done (R489). -/
  | commitSlot (demand : Nat) (busy : List Nat) (t : Tai)
  /-- The fabric takes the cipher lock and checks or generates AFA trailers in ingress order (R37). -/
  | authenticationSlot (faults : List Nat) (bad : List (Nat × Nat)) (t : Tai)
  /-- The cipher lock passes round-robin among host and management jobs (R264). -/
  | serviceSlot (mgt : List (Nat × Nat)) (faults : List Nat) (t : Tai)
  /-- Final completions, records, the completion index page and MSI-X messages are written (R36). -/
  | writebackSlot (budget : Nat) (parity ecc : List Nat) (bad : List (Nat × Nat)) (t : Tai)
  /-- The per-beat wired-AND claim arbitration runs in the last 4 us of writeback, and its result takes effect at the boundary that ends it (R326). -/
  | claimWindow (ext cut : Nat) (tick : Bool) (t : Tai)
  /-- A slot ends, and work still due in it is deferred as an overrun (R38). -/
  | slotEnd (demand : Nat) (t : Tai)
  /-- A pending commit with a staged set that has overrun 16 consecutive commit slots is abandoned and its staged sets are dropped (R40). -/
  | beatCommitAbandoned (t : Tai)
  /-- The realignment gap ends, the beat number is set, and the realignment is counted and reported (R24). -/
  | beatRealigned (temp pads : Nat) (t : Tai)
  /-- A write of BEAT_LEN_NEXT with ARM 1 stages a change of beat length (R26). -/
  | beatLenArm (a : Access) (len : Nat) (t : Tai)
  /-- At the first TAI second boundary after the sampled arm, the armed beat length is applied or rejected (R26). -/
  | beatLenChanged (t : Tai)
  /-- A write of BEAT_SLOT_NEXT2 with ARM 1 stages a new set of slot shares (R31). -/
  | beatSlotArm (a : Access) (writeback : Nat) (t : Tai)
  /-- A sampled share set is applied at the next beat boundary, or together with a pending length change (R31). -/
  | beatSlotApply (t : Tai)
  /-- A read of BEAT_PEAKn returns the peak work demanded and clears the register (R43). -/
  | beatPeakRead (path be n : Nat) (t : Tai)
  /-- A Sync, with its Follow_Up where used, from the master yields one measurement, which is judged and fed to the servo (R47). -/
  | syncReceived (p sender origin : Nat) (corr log : Int) (edge16 : Nat) (t : Tai)
  /-- An Announce message enters the BMCA, which may select a master (R50). -/
  | announceReceived (p : Nat) (a : Announce) (t : Tai)
  /-- ANN_TMO announce intervals pass without an Announce, and the master is lost (R46). -/
  | announceReceiptTimeout (t : Tai)
  /-- Four of the master's sync intervals pass without a usable Sync, and the master is lost (R46). -/
  | syncReceiptTimeout (t : Tai)
  /-- While the time unit stays in REFUSING, TIME_JUMP_REFUSED is raised again every 60 s (R55). -/
  | timeJumpRefusedRepeat (t : Tai)
  /-- A port in the master state sends an Announce every announce interval (R50). -/
  | announceTransmit (p : Nat) (t : Tai)
  /-- A master port sends a Sync every sync interval (R49). -/
  | syncTransmit (p edge16 : Nat) (t : Tai)
  /-- A received delay request on a master port is answered under the delay request-response mechanism (R49). -/
  | ptpDelayRequest (p edge16 : Nat) (t : Tai)
  /-- TIME_STEP_CTRL with GO and MODE 1 requests a step by the mean of the last 8 measurements (R56). -/
  | timeStepToMasterMean (a : Access) (t : Tai)
  /-- TIME_STEP_CTRL with GO and MODE 2 requests a step by TIME_STEP_VALUE (R56). -/
  | timeStepByValue (a : Access) (t : Tai)
  /-- At the end of the next commit slot, a step request is accepted or refused against the live routes and the time unit state (R57). -/
  | timeStepEvaluate (t : Tai)
  /-- At the end of its beat, a pending step is applied, the servo's held measurements are discarded, and realignment follows (R58). -/
  | timeStepApply (t : Tai)
  /-- At a beat whose index matches PERIOD and PHASE, a time beacon is queued on each enabled CAN port (R65). -/
  | timeBeaconDue (bad : List (Nat × Nat)) (t : Tai)
  /-- A filtered start edge on a capture unit opens a pair, or closes an open one as START_START (R69). -/
  | captureStart (u : Nat) (edge16 width : Nat) (withStop : Bool)
  /-- A filtered stop edge closes the open pair, or is kept as an orphan flagged ORDER (R69). -/
  | captureStop (u : Nat) (edge16 width : Nat)
  /-- A read of TIME_PTP_DISCARD returns the count and clears the register (R72). -/
  | timePtpDiscardRead (path be : Nat) (t : Tai)
  /-- A FRAME descriptor enters the fabric on logical port 78 and is matched to a route (R88). -/
  | txFrame (ring : Nat) (bad : List (Nat × Nat)) (t : Tai)
  /-- A NOP descriptor passes through intake and completes OK (R84). -/
  | txNop (d : DescRead) (t : Tai)
  /-- Entries of a ring have waited BEATS beats since its last message, which makes the message due (R102). -/
  | msixCoalescingTimer (tx : Bool) (ring : Nat)
  /-- Unmasking a vector with its PBA bit set sends the pending message in the next writeback (R102). -/
  | msixUnmask (v : Nat)
  /-- HIF_CTRL.EN set to 1 starts doorbell fetches and page writes from the next commit slot (R82). -/
  | hostInterfaceEnable (t : Tai)
  /-- HIF_CTRL.EN set to 0 stops doorbell fetches and page writes (R82). -/
  | hostInterfaceDisable (t : Tai)
  /-- Enabling a TX ring zeroes its indices and makes it RUNNING (R103). -/
  | txRingEnable (ring : Nat) (t : Tai)
  /-- Disabling a TX ring stops its fetches, and the ring shows DRAINING (R103). -/
  | txRingDisable (ring : Nat) (t : Tai)
  /-- A DRAINING TX ring shows OFF once every fetched descriptor is final and its completion written (R103). -/
  | txRingDrained (ring : Nat) (t : Tai)
  /-- Enabling an RX ring zeroes its indices and makes it RUNNING; a stream gets its idle item (R103). -/
  | rxRingEnable (ring : Nat) (t : Tai)
  /-- Disabling an RX ring makes it OFF at once and drops entries held or routed to it (R103). -/
  | rxRingDisable (ring : Nat) (t : Tai)
  /-- The link goes down or Bus Master Enable is cleared, and the host interface stops fetching and writing (R104). -/
  | pcieLinkDown (t : Tai)
  /-- The link is up with Bus Master Enable set, and deferred host work resumes at the next intake (R104). -/
  | pcieLinkUp (t : Tai)
  /-- A Function Level Reset returns every HIF register to reset and every ring to OFF (R104). -/
  | functionLevelReset (t : Tai)
  /-- A frame's key is matched against the live route table, and the lowest matching entry fixes its route (R112). -/
  | routeLookup (port : Nat) (w : Wire) (sof16 : Nat) (t : Tai)
  /-- FAB_COMMIT.GO starts validation of the four shadow tables (R115). -/
  | fabCommitGo (a : Access) (t : Tai)
  /-- Validation of the shadow tables completes, and the commit waits for a commit slot or is rejected (R117). -/
  | commitValidationDone (t : Tai)
  /-- At the end of the commit slot after validation, the live tables take the shadow content and the route epoch increments (R115). -/
  | fabCommitApplied (t : Tai)
  /-- A run-ahead egress copy starts before its verdicts, after the lookup and its start offset (R142). -/
  | runAheadCopyStart (ingress egress : Nat) (bad : List (Nat × Nat)) (t : Tai)
  /-- A copy whose ingress verdict is unknown at its abort deadline is cancelled with reason LATE (R147). -/
  | abortDeadline (egress : Nat) (t : Tai)
  /-- A write of FAB_RA_REARM with GO requests re-arming of a route's run-ahead (R157). -/
  | fabRaRearm (a : Access) (route : Nat) (t : Tai)
  /-- At the next commit slot the route's disabled state and cancellation history are cleared (R157). -/
  | fabRaRearmed (route : Nat) (t : Tai)
  /-- A received CAN frame reaches the sixth EOF bit without error and is taken as valid (R146). -/
  | canFrameValid (n : Nat) (w : Wire) (sof16 eof16 : Nat) (bad : List (Nat × Nat)) (t : Tai)
  /-- A frame format above the port's kind raises a protocol exception, and the port waits for 11 recessive bits (R163). -/
  | canpProtoExc (n : Nat) (t : Tai)
  /-- A CAN error detected during reception or transmission updates TEC and REC under ISO 11898-1 (R180). -/
  | canErrorDetected (n code phase : Nat) (tx : Bool) (rule : ErrCount) (sof16 tdcv : Option Nat) (lost : Bool) (t : Tai)
  /-- An egress frame loses arbitration and competes again, or ends as ARB_LOST if one-shot (R177). -/
  | canArbitrationLost (n : Nat) (t : Tai)
  /-- At bus idle the port starts transmitting the head of its highest non-empty class (R128). -/
  | canTxStart (n : Nat) (fault : Bool) (t : Tai)
  /-- An egress frame is sent without error to the end of its EOF and completes OK (R178). -/
  | canTxComplete (n sof16 eof16 : Nat) (tdcv : Option Nat) (t : Tai)
  /-- The 128th sequence of 11 recessive bits returns a bus-off port to ACTIVE with TEC and REC 0 (R181). -/
  | canpBusOn (n seqs : Nat) (t : Tai)
  /-- An INTEGRATING port sees 11 consecutive recessive bits and becomes ACTIVE (R171). -/
  | canIntegrationDone (n : Nat) (lost : Bool) (t : Tai)
  /-- A transmitter held dominant for 2.0 ms is released, and TEC rises by 8 (R188). -/
  | canpTxdTimeout (n phase : Nat) (t : Tai)
  /-- CANP_TIMING_GO.GO requests application of the staged timing registers (R169). -/
  | canpTimingGo (a : Access) (n : Nat) (t : Tai)
  /-- At the next commit slot the staged timing is checked and applied together, or rejected (R169). -/
  | canpTimingApply (n : Nat) (busy : Bool) (t : Tai)
  /-- EN set to 1 at a commit slot takes an OFF port to INTEGRATING, or to BUS_OFF if recovery is pending (R171). -/
  | canPortEnable (n : Nat) (lost : Bool) (t : Tai)
  /-- EN set to 0 at a commit slot takes the port to OFF and drops its queued copies with PORT_DISABLED (R179). -/
  | canPortDisable (n : Nat) (t : Tai)
  /-- LISTEN set to 1 at a commit slot stops all driving and drops queued copies (R174). -/
  | canListenOnly (n : Nat) (t : Tai)
  /-- A read of CANP_LAST_ERR returns the last error and clears the register (R189). -/
  | canpLastErrRead (path be n : Nat) (t : Tai)
  /-- An AWAKE port whose sleep conditions hold at a beat boundary enters SLEEP (R192). -/
  | reefSleep (n : Nat) (busy : Bool) (t : Tai)
  /-- A dominant-recessive-dominant wake pattern wakes a sleeping port in WAKE_MODE 1 (R194). -/
  | wakePattern (n dom1 rec dom2 : Nat) (t : Tai)
  /-- A decoded classical frame matching a wake entry wakes a sleeping port in WAKE_MODE 2 (R195). -/
  | wakeFrame (n : Nat) (w : Wire) (t : Tai)
  /-- At the pre-wake point of a muster span, the Reef controller wakes the port (R203). -/
  | musterPreWake (n : Nat) (t : Tai)
  /-- A write of REEF_PORTn_CTRL.WAKE wakes a sleeping port or restarts an awake port's idle timer (R190). -/
  | reefHostWake (a : Access) (n : Nat) (t : Tai)
  /-- 32 decoder errors without a correct frame wake the port with reason DEC_ERRORS (R196). -/
  | reefDecWake (n : Nat) (t : Tai)
  /-- The receiver reaches normal receive, the port becomes AWAKE, and the CAN port enters INTEGRATING (R190). -/
  | reefWakeComplete (n : Nat) (t : Tai)
  /-- After an EGRESS or HOST wake the port sends its wake pattern or wake frame before its first egress copy (R199). -/
  | reefTxWake (n : Nat) (bad : List (Nat × Nat)) (t : Tai)
  /-- DELAY_US after the wake pattern or frame, the first egress copy may leave (R199). -/
  | reefTxWakeDelay (n : Nat) (t : Tai)
  /-- The awake time reaches a multiple of INSOMNIA_S, and the top keeper is reported (R201). -/
  | reefInsomnia (n : Nat) (t : Tai)
  /-- At the end of an awake span the window's outcome is settled as IN_WINDOW, OUT_OF_WINDOW, VOID or MISSED (R210). -/
  | musterSpanEnd (m : Nat) (t : Tai)
  /-- REEF_COMMIT.GO requests application of the staged REEF configuration (R214). -/
  | reefCommit (a : Access) (t : Tai)
  /-- At the end of the next commit slot the staged REEF set is checked and applied whole, or rejected (R214). -/
  | reefCommitApply (t : Tai)
  /-- A received Ethernet or T1S frame is filtered and classified to pause, PTP, management or lookup (R221). -/
  | ethFrameReceived (port : Nat) (data : Bytes) (edge16 : Nat) (fcsOk unsupported : Bool) (bad : List (Nat × Nat)) (t : Tai)
  /-- An Ethernet-type port starts transmitting an egress copy, protected by MACsec where enabled (R222). -/
  | ethTxStart (port : Nat) (fault : Bool) (t : Tai)
  /-- An Ethernet-type egress copy ends with its FCS and completes (R222). -/
  | ethTxComplete (port edge16 mv : Nat) (t : Tai)
  /-- A lane or the management port gains link and enters UP (R216). -/
  | ethLinkUp (q : Nat) (anDone hiBer fecLock half : Bool) (speed : Nat) (lost : Bool) (t : Tai)
  /-- A lane or the management port loses link and enters TRAINING (R216). -/
  | ethLinkDown (q cause : Nat) (lost : Bool) (t : Tai)
  /-- A write of an SA key register stores key material, and a KEY0 write clears the SA's VALID bit (R224). -/
  | lsecKeyWrite (a : Access) (l chan sa k : Nat) (salt : Bool) (v : Word) (t : Tai)
  /-- The node's PLCA transmit opportunity arrives and a queued frame may be sent (R233). -/
  | t1sTransmitOpportunity (k : Nat) (t : Tai)
  /-- A node-0 T1S port that is UP and holds the claim sends a BEACON to start a PLCA cycle (R234). -/
  | plcaBeacon (k mv : Nat) (t : Tai)
  /-- A BEACON from another node is received on a T1S segment (R235). -/
  | plcaBeaconReceived (k : Nat) (t : Tai)
  /-- A T1S port's PLCA status becomes false (R236). -/
  | t1sPlcaLost (k : Nat) (t : Tai)
  /-- A T1S port's PLCA status becomes true again (R236). -/
  | t1sPlcaOk (k : Nat) (t : Tai)
  /-- A collision is counted and the frame retried, or dropped after 16 attempts (R237). -/
  | t1sCollision (k : Nat) (t : Tai)
  /-- ETH_MDIO_CMD with GO and OP 0 starts a Clause 45 address transaction (R239). -/
  | mdioAddress (a : Access) (phy reg : Nat) (t : Tai)
  /-- ETH_MDIO_CMD with GO and OP 1 starts an MDIO write transaction (R239). -/
  | mdioWrite (a : Access) (phy reg : Nat) (cl45 : Bool) (t : Tai)
  /-- ETH_MDIO_CMD with GO and OP 2 starts an MDIO read transaction (R239). -/
  | mdioRead (a : Access) (phy reg : Nat) (cl45 : Bool) (t : Tai)
  /-- ETH_MDIO_CMD with GO and OP 3 starts a post-read-increment transaction (R239). -/
  | mdioPostReadIncrement (a : Access) (phy reg : Nat) (cl45 : Bool) (t : Tai)
  /-- An MDIO transaction completes, BUSY clears and read data is valid (R239). -/
  | mdioDone (data : Nat) (t : Tai)
  /-- The SMBus WRITE32 command performs one aligned 32-bit register write at the stop condition (R243). -/
  | smbWrite32 (addr : Nat) (v : Word) (pec : Nat) (t : Tai)
  /-- The SMBus READ32 command performs one aligned 32-bit register read and returns the data (R243). -/
  | smbRead32 (addr pads : Nat) (t : Tai)
  /-- The SMBus ID command returns the GLB identity register and BEAT_STATUS (R243). -/
  | smbId (code : Nat) (t : Tai)
  /-- The target releases the bus after holding SCL low for 30 ms (R242). -/
  | smbSclTimeout (t : Tai)
  /-- A UART character is sampled, framed and added to the frame in assembly (R249). -/
  | serCharacter (c : Nat) (line : List Bool) (start16 : Nat) (bad : List (Nat × Nat)) (t : Tai)
  /-- The line stays idle for IDLE_CH character times and closes the frame (R254). -/
  | serIdleClose (c : Nat) (bad : List (Nat × Nat)) (t : Tai)
  /-- An egress copy of kind 5 starts at the next idle moment of the transmitter, with DE lead on RS-485 (R257). -/
  | serTxStart (c : Nat) (fault abandoned : Bool) (t : Tai)
  /-- The last stop bit of a UART egress copy ends, and the copy completes OK (R257). -/
  | serTxComplete (c edge16 : Nat) (t : Tai)
  /-- CIPH_CLR_CTRL with GO stages a clear key load into a slot (R268). -/
  | ciphClearLoad (a : Access) (slot size attr : Nat) (t : Tai)
  /-- At the end of the next commit slot a pending key load goes live with USED 0 (R268). -/
  | keyLoadLive (t : Tai)
  /-- CIPH_KSn_CTRL.RETIRE requests retirement of a key slot (R265). -/
  | keyRetire (a : Access) (n : Nat) (t : Tai)
  /-- At the next commit slot the slot is erased and becomes RETIRED with reason HOST (R265). -/
  | keyRetireApply (n : Nat) (t : Tai)
  /-- USED reaches LIMIT, and the slot retires with reason LIMIT (R269). -/
  | keyLimitReached (n : Nat) (t : Tai)
  /-- LIMIT minus USED falls to WARN, and CIPH_KEY_LOW is raised (R270). -/
  | ciphKeyLow (n : Nat) (t : Tai)
  /-- An alarm source erases every key slot and link cipher key within 2 us and latches the alarm (R274). -/
  | ciphAlarm (source present : Nat) (value : Int) (high : Bool) (t : Tai)
  /-- A write of 1 to a CIPH_ALARM bit clears it only when its condition is absent (R275). -/
  | ciphAlarmClear (ones present : Nat)
  /-- CIPH_FV_SEL with WRITE stages CIPH_FV_DATA into a freshness entry (R286). -/
  | ciphFvWrite (a : Access) (table index : Nat) (t : Tai)
  /-- At the end of the next commit slot the staged freshness value is written (R286). -/
  | fvWriteApply (t : Tai)
  /-- A CRYPTO job with OP 1 computes a CMAC tag (R277). -/
  | cmacGen (mismatches : Nat) (t : Tai)
  /-- A CRYPTO job with OP 2 verifies a truncated CMAC tag (R277). -/
  | cmacVerify (mismatches : Nat) (t : Tai)
  /-- A CRYPTO job with OP 3 runs AES-CTR over the data (R277). -/
  | ctr (mismatches : Nat) (t : Tai)
  /-- A CRYPTO job with OP 4 encrypts with AES-GCM and outputs the tag (R277). -/
  | gcmEnc (mismatches : Nat) (t : Tai)
  /-- A CRYPTO job with OP 5 decrypts with AES-GCM and writes plaintext only if the tag verifies (R277). -/
  | gcmDec (mismatches : Nat) (t : Tai)
  /-- A CRYPTO job with OP 6 exports an exportable key wrapped under a KEK (R277). -/
  | wrap (mismatches : Nat) (t : Tai)
  /-- A CRYPTO job with OP 7 unwraps a key and stages it into the target slot (R277). -/
  | unwrap (mismatches : Nat) (t : Tai)
  /-- A job stopped for the third time completes with SLOT_TOO_SHORT (R38). -/
  | slotTooShort (t : Tai)
  /-- A CSI-2 Frame Start opens an imager frame and discards any open one as NO_END (R298). -/
  | nestFrameStart (csi number : Nat) (c : CsiCounts) (t : Tai)
  /-- A Frame End closes the imager frame, which is accepted and processed, or discarded (R298). -/
  | nestFrameEnd (csi : Nat) (lines : List NestLine) (c : CsiCounts) (t : Tai)
  /-- A frame delivered to port 77 opens a tray context in every enabled set (R309). -/
  | nestTrayIdentity (t : Tai)
  /-- NEST_COMMIT.GO requests application of the staged NEST configuration (R302). -/
  | nestCommit (a : Access) (t : Tai)
  /-- At the end of the next commit slot the staged NEST set is applied whole, or rejected (R302). -/
  | nestCommitApply (t : Tai)
  /-- A partner heartbeat is received and its role, claim, health and epoch recorded (R338). -/
  | halyardHeartbeat (frame : Bytes) (t : Tai)
  /-- A DELTA frame's shadow items are applied over the local copy (R340). -/
  | halyardDelta (frame : Bytes) (t : Tai)
  /-- IMAGE frames carrying the full shadow image are received and applied (R338). -/
  | halyardImage (frame : Bytes) (t : Tai)
  /-- An IMAGE_REQ makes the active unit send a full shadow image (R338). -/
  | halyardImageReq (frame : Bytes) (t : Tai)
  /-- A MARKER from the partner discards the matching held class-7 frames (R346). -/
  | halyardMarker (frame : Bytes) (t : Tai)
  /-- No claim window for 2 beat lengths releases the claim with reason WATCHDOG (R332). -/
  | claimWatchdog (t : Tai)
  /-- A held class-7 frame older than RPL_AGE beats is discarded (R346). -/
  | replayAgeExpiry (t : Tai)
  /-- HAL_CTRL.HANDOVER on the active unit makes it yield the claim in its next window (R351). -/
  | halHandover (a : Access) (t : Tai)
  /-- HAL_CTRL.UNFENCE makes a FENCED unit bid from the next window (R343). -/
  | halUnfence (a : Access) (t : Tai)
  /-- FENCE_BEATS beats without partner evidence let a FENCED unit bid again (R343). -/
  | fenceEvidenceTimeout (t : Tai)
  /-- Eight heartbeats with health lower by YIELD_DIFF make the active unit yield (R352). -/
  | autoYield (t : Tai)
  /-- A close request takes the domain to DRAINING at a beat boundary, diverting or dropping new copies (R363). -/
  | domainClose (d : Nat) (t : Tai)
  /-- A wake request takes an OFF domain to WAKING, or a closing domain back to ON (R357). -/
  | domainWake (d : Nat) (t : Tai)
  /-- A write of PWR_Dd_CTRL.WAKE requests a wake and restarts the idle count (R359). -/
  | pwrCtrlWake (a : Access) (d : Nat) (t : Tai)
  /-- An IDLE domain whose idle condition has held for IDLE_BEATS beats closes (R360). -/
  | domainIdleClose (d : Nat) (t : Tai)
  /-- A DRAINING domain's queues empty, or the second boundary is reached, and it enters ISOLATING (R357). -/
  | domainDrainEnd (d : Nat) (t : Tai)
  /-- No port of an ISOLATING domain is transmitting, and it goes OFF (R358). -/
  | pwrDomainOff (d : Nat) (lost : Bool) (t : Tai)
  /-- A WAKING domain's wake latency elapses, and it is ON with its hold queue returned (R357). -/
  | pwrDomainOn (d : Nat) (lost : Bool) (bad : List (Nat × Nat)) (t : Tai)
  /-- A CAN domain under IDLE is woken ahead of the earliest muster pre-wake point (R361). -/
  | domainMusterWake (d : Nat) (t : Tai)
  /-- T1S activity or a UART RXD edge wakes PD12 or PD13 (R360). -/
  | domainActivityWake (uart : Bool) (unit : Nat) (t : Tai)
  /-- MAIN_SENSE below threshold for MAIN_FILT_US fails main and sheds non-essential domains (R369). -/
  | pwrMainFail (t : Tai)
  /-- MAIN_SENSE returns above its threshold and stability counting starts (R369). -/
  | mainGood (t : Tai)
  /-- The shed window ends and the brace reaches its commit point (R370). -/
  | shedWindowEnd (t : Tai)
  /-- Main stable for 5 ms in SHED aborts the brace into RESTORE (R370). -/
  | pwrBraceAborted (t : Tai)
  /-- The journal commit ends and PATH_BKUP is driven high (R370). -/
  | pwrBraceCommit (progs : List (Nat × Bool)) (t : Tai)
  /-- 1 ms after PATH_BKUP rose, PD21 goes OFF and the gateway is on backup (R370). -/
  | pwrOnBackup (t : Tai)
  /-- Main stable 50 ms with 20 ms in BACKUP starts RESTORE (R370). -/
  | backupReturn (t : Tai)
  /-- Every domain to be restored is ON, and the brace returns to MAIN (R372). -/
  | pwrOnMain (bad : List (Nat × Nat)) (t : Tai)
  /-- In its scheduled beat a unit measures a port's termination, retrying or classing the result (R383). -/
  | termMeasurement (n : Nat) (ohm16 : Option Nat) (t : Tai)
  /-- A fault condition held for its filter or count sets the fault and reports it (R389). -/
  | shrFaultSet (p code : Nat) (value : Int) (held : Nat) (t : Tai)
  /-- A fault's clear condition holds for its time and the fault clears (R389). -/
  | shrFaultCleared (p code held : Nat) (t : Tai)
  /-- At the next bus idle a reversed CAN pair is swapped or unswapped (R381). -/
  | pairSwap (n : Nat) (t : Tai)
  /-- A transceiver at 165 C releases its transmitter and sets THERMAL (R387). -/
  | thermalShutdown (p : Nat) (t : Tai)
  /-- At 150 C or less the transmitter may drive again and THERMAL clears (R387). -/
  | thermalRecovery (p : Nat) (t : Tai)
  /-- A buffered journal entry is programmed and committed by writing STATE (R396). -/
  | journalEntryProgram (pulses : Nat) (bad : Bool) (t : Tai)
  /-- A sector ahead of the write position is erased to keep the margin (R395). -/
  | journalSectorErase (fail : Bool) (t : Tai)
  /-- At beat 0 of every SNAP_S-th second all valid snapshot ranges are latched and journaled (R399). -/
  | snapshotRound (t : Tai)
  /-- NVM_CFG_CMD.SAVE latches the configuration and starts writing it to the non-current bank (R407). -/
  | nvmCfgSave (a : Access) (t : Tai)
  /-- A configuration save completes and the bank is marked valid (R407). -/
  | nvmCfgSaved (ok : Bool) (wear : List SectorWear) (t : Tai)
  /-- The erase of the key backing area after an alarm completes (R405). -/
  | keyBackingEraseDone (wear : List SectorWear) (t : Tai)
  /-- The WRITE command starts reading the image from host memory into the inactive slot (R413). -/
  | nvmUpdWrite (a : Access) (t : Tai)
  /-- The slot is programmed and verification starts, or a DMA or flash failure ends the write (R412). -/
  | updateSlotProgrammed (header : Bytes) (result : Nat) (t : Tai)
  /-- The image checks complete and the state becomes READY or IDLE (R411). -/
  | updateVerified (sigOk digestOk : Bool) (t : Tai)
  /-- The ACTIVATE command is accepted into PREPARING or refused (R414). -/
  | nvmUpdActivate (a : Access) (clean force : Bool) (t : Tai)
  /-- Preparation, with any conversion, completes and QUIESCE starts (R415). -/
  | preparationDone (ok : Bool) (body : List (Nat × Word)) (progs : List (Nat × Bool)) (t : Tai)
  /-- At a boundary with no outstanding descriptors, or after 8 beats, QUIESCE ends and the pause starts (R416). -/
  | quiesceEnd (t : Tai)
  /-- The new firmware's configuration goes live and the state becomes TRIAL (R417). -/
  | pauseEnd (t : Tai)
  /-- The new image fails to start within the pause, and a fallback pause follows (R412). -/
  | pauseStartFailure (t : Tai)
  /-- The CONFIRM command ends TRIAL and raises NVM_MIN_SVN (R418). -/
  | nvmUpdConfirm (a : Access) (t : Tai)
  /-- The FALLBACK command runs a fallback pause to the previous slot (R418). -/
  | nvmUpdFallback (a : Access) (t : Tai)
  /-- The ABORT command ends WRITING or PREPARING (R412). -/
  | nvmUpdAbort (a : Access) (t : Tai)
  /-- CONFIRM_S seconds pass in TRIAL without CONFIRM, and a fallback pause follows (R418). -/
  | confirmTimeout (t : Tai)
  /-- The fallback pause ends with the previous firmware running and the state IDLE (R418). -/
  | nvmFallback (t : Tai)
  /-- A unit still suspect at the second boundary after an observation in a silent state is reported (R428). -/
  | stateSkew (unit : Nat) (t : Tai)
  /-- At the end of the commit slot the registry word is re-derived from the owning block (R429). -/
  | registryRederive (unit : Nat) (t : Tai)
  /-- A register service READ datagram reads COUNT registers and replies with their values (R433). -/
  | serviceRead (src port : Nat) (r : Request) (full : Bool) (pads : Nat) (t : Tai)
  /-- A register service WRITE datagram writes COUNT registers if allowed (R433). -/
  | serviceWrite (src port : Nat) (r : Request) (full : Bool) (t : Tai)
  /-- A SUBSCRIBE datagram adds its source to the notification list (R434). -/
  | serviceSubscribe (src port : Nat) (r : Request) (full : Bool) (t : Tai)
  /-- An UNSUBSCRIBE datagram removes its source from the notification list (R434). -/
  | serviceUnsubscribe (src port : Nat) (r : Request) (full : Bool) (t : Tai)
  /-- A frame delivered to port 79 is sent to each subscriber as a NOTIFY datagram (R434). -/
  | notify (t : Tai)
  /-- The management complex answers ARP for its IPv4 address (R431). -/
  | arpRequest (mac : Bytes) (ip target : Nat) (t : Tai)
  /-- The management complex answers ICMP echo for its IPv4 address (R431). -/
  | icmpEcho (src dst : Nat) (body : Bytes) (t : Tai)
  /-- With V6_EN the management complex answers neighbour discovery (R431). -/
  | neighbourDiscovery (src target : Nat) (t : Tai)
  /-- With V6_EN the management complex answers ICMPv6 echo (R431). -/
  | icmpv6Echo (src dst : Nat) (body : Bytes) (t : Tai)
  /-- MGT_SNAP_GO.GO requests a host snapshot of selected ranges (R437). -/
  | mgtSnapGo (a : Access) (t : Tai)
  /-- In the writeback after the commit slot the selected ranges are latched and written to host memory (R437). -/
  | hostSnapshotLatch (t : Tai)
  /-- An uncorrectable ECC error in packet memory, management SRAM or the freshness tables is handled and reported (R438). -/
  | mgtEccUncorr (area index sel : Nat) (t : Tai)
  /-- A release condition ends and power-on reset is asserted (R442). -/
  | powerOnReset (porst : Bool)
  /-- 2.0 ms after all conditions hold, power-on reset is released, straps latched and the boot ROM starts (R442). -/
  | powerOnResetRelease (unitId recovery main bkup vcan vsds : Bool) (bad : List (Nat × Nat))
  /-- The boot ROM completes its steps, releases the cipher lock and starts the firmware (R445). -/
  | bootHandover (t : Tai)
  /-- The staged configuration bank goes live at the end of the first commit slot after staging (R449). -/
  | bankConfigLive (t : Tai)
  /-- WARM_N low for 10 us restarts the non-always-on domains at once (R452). -/
  | warmReset (bad : List (Nat × Nat)) (t : Tai)
  /-- A write of GLB_RESET with WARM and CONFIRM 0x4830 commits the journal and warm-resets the unit (R453). -/
  | glbReset (a : Access) (v : Word) (progs : List (Nat × Bool)) (bad : List (Nat × Nat)) (t : Tai)
  /-- PERST_N low resets PD17, the PCIe link and the host interface (R451). -/
  | perstReset (t : Tai)
  /-- A write of GLB_LOCK.LOCK 1 requests the configuration lock (R454). -/
  | glbLock (a : Access) (t : Tai)
  /-- At the end of the next commit slot the lock takes effect and clear loads close (R454). -/
  | glbLocked (t : Tai)
  /-- VCAN or VSDS falls below its threshold and its domains go OFF without drain (R443). -/
  | glbRailFault (vsds : Bool) (t : Tai)
  /-- VCAN or VSDS becomes valid again and its domains return through WAKING (R443). -/
  | railReturn (vsds : Bool) (t : Tai)
  /-- A write of PIN_SETw sets the selected GPIO output bits at once (R476). -/
  | pinSet (a : Access) (w : Nat) (v : Word) (t : Tai)
  /-- A write of PIN_CLRw clears the selected GPIO output bits at once (R476). -/
  | pinClr (a : Access) (w : Nat) (v : Word) (t : Tai)
  /-- A write to a register without a row of its own is accepted, range-checked and stored in its timing class (R488). -/
  | registerWrite (a : Access) (off : Nat) (v : Word) (t : Tai)
  /-- At the start of the next commit slot, accepted class C configuration writes take effect (R488). -/
  | configApply (t : Tai)
  /-- A 32-bit write to a W1C register clears the bits written as 1 (R481). -/
  | w1cWrite (a : Access) (off : Nat) (v : Word) (t : Tai)
  /-- A read of the low half of a 64-bit register loads the path's high-half latch (R486). -/
  | registerRead64 (path be off : Nat) (both : Bool) (pads : Nat) (t : Tai)
  /-- A write of the low half of a 64-bit register is staged until the high half is written (R487). -/
  | registerWrite64Low (a : Access) (off : Nat) (v : Word) (t : Tai)
  /-- A write of GLB_AF_CTRL.CLEAR empties the access fault log (R492). -/
  | glbAfClear (a : Access) (t : Tai)
  /-- On a slave or peer-delay port, the delay request interval of 2^LOG_DELAY s expires, a delay request is sent, and its response updates the path delay used by every measurement (R47). -/
  | delayReqInterval (p egress16 : Nat) (resp : Option (Nat × Nat × Int × Nat)) (t : Tai)
  /-- A Halyard frame with a bad CRC is discarded and counted in LINK_CRC_ERR (R337). -/
  | halyardCrcError (t : Tai)
  /-- MAIN_SENSE falls below its threshold, which ends main good, clears MAIN_OK, interrupts any stability count and starts the failure filter (R369). -/
  | mainNotGood (t : Tai)
  /-- A read of the journal read window returns the stored word and counts an ECC correction or an uncorrectable error, raising NVM_ECC_UNCORR or the area's health stage (R400). -/
  | journalWindowRead (path off : Nat) (corrected bad : Bool) (t : Tai)
  deriving DecidableEq, Repr

end Sys2Proof
end

