-- ==== Sys2Proof/Config.lean ====
section
/-! DEFINITION. What an implementation fixes and what the manual leaves open: opaque constants, so that no proof can
see a value of one. A value that may differ from use to use is applied to the state's counter of free values. -/

namespace Sys2Proof

/-- The die identity GLB_UID, "per die" (Table 20.6). -/
opaque Config.uid : BitVec 64

/-- The manufacturer and device ID that the flash answers (NVM_FLASH_ID). -/
opaque Config.flashId : BitVec 24

/-- Does a fraction of a register's unit round up? The manual gives the register's unit and no rounding
(TIME_FREQ.ADJ, TIME_OFFSET, the step of a mean). -/
opaque Config.roundsUp : Rat → Bool

/-- The first packet memory block given to a frame: the manual gives no allocation order (Table 5.2 BLK). -/
opaque Config.block : Nat → Nat

/-- The content of a PAD item, undefined (Table 4.11). -/
opaque Config.padByte : Nat → BitVec 8

/-- REC after a valid frame when it was above 127: ISO 11898-1 gives the range 119-127 (R180). -/
opaque Config.recAfterValid : Nat → Nat

/-- BRS of a frame that becomes CAN FD under CAN_CONVERT or PAYLOAD_CARRY: no field of the route gives it (R120). -/
opaque Config.convertedBrs : Nat → Bool

/-- STATUS of a DROPPED marker whose reason has no code in Table 4.8 (R346). -/
opaque Config.markerStatus : Nat → BitVec 8

/-- STATUS of a host frame that fails an AFA check: Table 11.11 gives no host completion for MAC, FRESHNESS and FORMAT. -/
opaque Config.checkStatus : Nat → BitVec 8

/-- The shadow format version of the firmware (Table 13.5). -/
opaque Config.shadowFmt : BitVec 16

/-- Is a Halyard frame the last of its beat (Table 13.5)? A later command of the beat may send another: free for each beat
index and FSEQ. -/
opaque Config.lastFrame : Nat → Nat → BitVec 1

/-- The shift in 1/16 pixel and the quality in 1/256 that phase correlation finds between two ego-motion regions (R306):
a numeric method whose result the manual does not fix. Its bounds are kept where it is used. -/
opaque Config.phaseShift : List (List Nat) → List (List Nat) → Int × Int × Nat

/-- A line's pixel data as FSUM's CRC-32 takes them: the manual does not give their order of bytes. -/
opaque Config.pixelBytes : List Nat → List (BitVec 8)

/-- A fixed-point field's value for a binary32 value that is no number: the manual gives none. -/
opaque Config.noNumber : BitVec 32 → Int

/-- The payload of a NaN that a binary32 operation gives: the standard leaves it open. -/
opaque Config.nanOf : BitVec 32 → BitVec 32 → BitVec 32

/-- The level of a pad whose function sends a serial character or trace data at the instant. -/
opaque Config.padLevel : Nat → Nat → Bool

/-- The bytes that pad a journal entry to a multiple of 8: the manual gives them no value (R396). -/
opaque Config.journalPad : BitVec 8

/-- The first observation time that the record of a parity error carries where the unit was not suspect: the manual gives
none (R430). -/
opaque Config.skewTime : Nat → BitVec 64

/-- RSEQ in the frame item of a NOTIFY, which no ring numbers: the manual gives none (R434). -/
opaque Config.notifyRseq : Nat → BitVec 16

end Sys2Proof
end

