-- ==== Sys2Proof/Machine/State.lean ====
section
/-! DEFINITION. The state of the gateway as plain data, the reasons a step can stop, and the state at reset.

Registers live in one register file (`regs`: the values software reads back and hardware shows; `live`: the values in
force of the registers whose writes are paced), both listed only where they differ from the reset value of the register
map. Everything the manual gives the machine that no register shows is a structure of its own below. A list of pairs is
a sparse map: keys strictly rise, and no entry equals the default that an unlisted key reads as. -/

namespace Sys2Proof.Machine

/-! ### Stops -/

/-- Why the machine would stop with a fault. The gateway has no command after which the manual stops it: no meaning
raises this. Safe. -/
inductive Fault where
  /-- kept so that the type is inhabited; no meaning answers with it. Safe. -/
  | none
  deriving DecidableEq, Repr

/-- Why a command is not carried out. -/
inductive Refusal where
  /-- the command has no meaning in the model yet: raised by the dispatch only. Safe. -/
  | notModelled (mnemonic : String)
  /-- an operand names a unit, slot, ring, port or index that the part does not have (`Instr.wf` is false): no such
  event can occur. Raised by every meaning on ill-formed operands. Safe. -/
  | noSuchUnit (mnemonic : String)
  deriving DecidableEq, Repr

/-- When a stored value takes effect (Table 20.3). -/
inductive TimingClass where
  | commit      -- class C: at the start of the first commit slot after acceptance
  | staged      -- class S: as a set, when its GO or commit is applied
  | immediate   -- class I: at acceptance
  deriving DecidableEq, Repr

/-- One row of the register map. The masks are over 64 bits for a 64-bit register. -/
structure RegRow where
  base  : Nat
  dims  : List (Nat × Nat) := []   -- strides and counts, outermost first
  wide  : Bool := false            -- a 64-bit register
  st    : Nat := 0                 -- bits that a write stores
  rd    : Nat := 0                 -- bits that a read returns
  w1c   : Nat := 0                 -- bits that a 1 clears
  wo    : Nat := 0                 -- bits that act on a write
  lck   : Nat := 0                 -- bits closed by the configuration lock
  rc    : Bool := false            -- a read clears the register
  bl    : Bool := false            -- byte lanes are honoured
  ctr   : Bool := false            -- a counter (Table 18.4 keeps it through a warm reset)
  cls   : TimingClass := .commit
  reset : Nat := 0
  deriving DecidableEq, Repr

/-! ### Start, straps and access paths (chapters "Start-Up and Reset", "Register Map") -/

/-- What the part is doing as a whole. -/
inductive Phase where
  | powerOnReset   -- power-on reset asserted (R442)
  | boot           -- the boot ROM runs (R445)
  | recovery       -- recovery mode (R447)
  | running        -- firmware started
  | pause          -- the pause of an activation or a fallback (R417)
  deriving DecidableEq, Repr

/-- A high-half latch or a low-half staging register of one access path (R486, R487). -/
structure Half where
  off : Nat
  val : Word
  deriving DecidableEq, Repr

/-- The global unit: the phase, the pins latched at start, the access paths. -/
structure Glb where
  phase     : Phase
  unitStrap : Bool
  recStrap  : Bool
  locked    : Bool                -- the configuration lock (R454)
  latch     : List (Nat × Half)   -- by path: high-half latches
  stage     : List (Nat × Half)   -- by path: low-half staging
  bankStaged : Bool               -- a configuration bank is staged and not yet live (R449)
  warmDue   : Option Nat          -- a warm reset waits for brace state MAIN: its cause (R452)
  cause     : Nat                 -- the cause of the start in progress (Table 18.5a)
  bootSlot  : Nat                 -- the slot that the boot ROM starts (R446)
  bootAlt   : Bool                -- it is not the slot that the pointer named
  bootResult : Nat                -- RESULT of the last failed image check; 0 none
  bootNote  : Option Nat          -- the NVM_FALLBACK cause that the start records
  deriving DecidableEq, Repr

/-- A command field written and not yet acted on (R480, R489): it acts at a commit slot, once its block's domain is
ON. -/
inductive RegCmd where
  | canTiming (port : Nat)
  | reefCommit
  | nestCommit
  | raRearm (route : Nat)
  | fvWrite (table index : Nat) (value : Nat)
  | keyRetire (slot : Nat)
  | step (mode : Nat)
  | nvmSave
  | nvmUpd (bits : Nat)
  | handover
  | unfence
  | snapGo
  | glbLock
  | reefWake (port : Nat)
  | pwrWake (domain : Nat)
  | mdio (op : Nat)
  deriving DecidableEq, Repr

/-! ### The beat -/

/-- What a commit that has overrun holds back as a whole: what was staged before its first overrun (R39, Table 2.4). -/
structure Deferred where
  cmds     : List RegCmd  -- command fields that waited
  loads    : List Nat     -- key slots whose loads waited
  tables   : Bool         -- validated shadow tables waited
  bank     : Bool         -- a staged configuration bank waited
  len      : Bool         -- a length was armed
  shares   : Bool         -- a share set was armed
  deriving DecidableEq, Repr

/-- The beat generator beside its registers. -/
structure BeatUnit where
  start    : Tai     -- TAI start of the beat in progress
  next     : Tai     -- TAI time of the next boundary
  started  : Bool    -- the first beat has run (R448)
  lenSampled   : Bool   -- an armed length has been sampled (R26)
  shareSampled : Bool   -- an armed share set has been sampled (R31)
  shareWithLen : Bool   -- a length was armed when it was sampled (R31)
  demand   : Nat     -- work demanded in the slot in progress, in 1/1,000 of its length
  commitOverruns : Nat  -- consecutive commit slots overrun with a staged set pending (R40)
  gapFrom  : Tai     -- corrected time at which the realignment gap began
  used     : Nat     -- cipher cycles used in the slot in progress (R262)
  intakeRun : Bool   -- the intake slot's work of the beat in progress has been done (R29)
  ended    : Bool    -- the end of the slot in progress has been dealt with (R38)
  beaconRun : Bool   -- the time beacons of the beat in progress have been queued (R65)
  windowRun : Bool   -- the claim window of the beat in progress has run (R33)
  deferred : Option Deferred  -- the commit that waits for a commit slot to complete (R39)
  deriving DecidableEq, Repr

/-! ### Time -/

/-- A foreign master heard in Announce messages (R50). -/
structure Foreign where
  port    : Nat
  sender  : Nat
  gmId    : Nat
  prio1   : Nat
  cls     : Nat
  acc     : Nat
  oslv    : Nat
  prio2   : Nat
  steps   : Nat
  heard   : Nat     -- Announce messages heard
  last    : Tai
  path    : List Nat -- its path trace
  deriving DecidableEq, Repr

/-- A capture source: a GPIO unit or a CAN port (R69-R71). -/
structure CapSource where
  opened  : Option Tai
  waiting : Nat           -- records not yet written, at most 8
  seq     : Nat
  lost    : Nat           -- discarded since the last record
  total   : Nat           -- discarded since reset
  since   : Tai           -- when its duration measurement came into force
  deriving DecidableEq, Repr

/-- A port's time beacon (R65-R67). -/
structure Beacon where
  seq     : Nat                      -- SEQ of the next beacon
  prev    : Option (Nat × Tai)       -- the last completed beacon: SEQ and SOF stamp
  due     : Bool                     -- queued and not yet given its trailer
  sent    : List Nat                 -- SEQ of the beacons queued with a trailer or on the bus, of the timescale in force
  deriving DecidableEq, Repr

/-- The time unit beside its registers. -/
structure TimeUnit where
  now      : Tai                     -- the latest TAI time a command brought
  sender   : Nat                     -- the clock identity of the master
  gm       : Nat                     -- the identity of its grandmaster
  step     : Option Int              -- the pending host step in ns (R58)
  lockStep : Option Int              -- the pending step of first lock (R54, Table 3.1)
  held     : List Rat                -- the last 8 measurements of the master, newest first
  trend    : List (Rat × Rat)        -- the last 16 accepted: local receive time and o_k, newest first
  f        : Rat                     -- frequency correction
  r        : Rat                     -- remaining offset in ns
  rAt      : Tai                     -- the time at which `r` holds
  added    : Rat                     -- phase added by f and s since the reference instant
  delay    : List (Nat × Rat)        -- path delay by PTP port, ns
  syncGap  : List (Nat × Rat)        -- by PTP port: receive time of the last Sync less its origin, ns
  sync     : Option (Tai × Int)      -- the last usable Sync of the master: when, and its stated interval as a power of 2 (R46)
  annSent  : List (Nat × Tai)        -- by PTP port: when its last Announce left (R50)
  syncSent : List (Nat × Tai)        -- by PTP port: when its last Sync left (R49)
  reqSent  : List (Nat × Tai)        -- by PTP port: when its last delay request left (R47)
  refusedAt : Tai                    -- when TIME_JUMP_REFUSED was last raised (R55)
  asymLog  : List (Nat × Tai × Word) -- asymmetry registers changed within a second: offset, when, value before (R62)
  foreign  : List Foreign
  caps     : List (Nat × CapSource)  -- 0-15 GPIO units, 0x80 + n CAN ports
  beacons  : List (Nat × Beacon)     -- by CAN port
  deriving DecidableEq, Repr

/-! ### Events -/

/-- A detail item of an event: 8 bytes for times, ns values, host addresses and 64-bit registers, else 4 (R101). -/
inductive Detail where
  | d4 (v : Int)
  | d8 (v : Int)
  deriving DecidableEq, Repr

/-- A raised event (Table 4.12). -/
structure Event where
  code   : Nat
  unit   : Nat      -- 4096 * kind + index
  epoch  : Nat
  eseq   : Nat
  time   : Tai
  detail : List Detail
  deriving DecidableEq, Repr

/-- Event bookkeeping. -/
structure EventUnit where
  eseq : Nat
  once : List (Nat × Nat)     -- by rate-limited source: 1 + the TAI second in which its event was last raised
  raised : List Event         -- events raised by the last command, in order
  deriving DecidableEq, Repr

/-- The state registry (R421-R430). -/
structure StateWord where
  code  : Nat
  epoch : Nat
  deriving DecidableEq, Repr

/-- A suspect mark: the first observation's time and the beat boundaries passed since (R428). -/
structure Suspect where
  time  : Tai
  beats : Nat
  deriving DecidableEq, Repr

/-! ### Frames, routes and egress copies (chapters "Fabric", "Host Rings") -/

/-- Where a frame in packet memory came from. -/
inductive Origin where
  /-- received or submitted, and routed -/
  | routed
  /-- a time beacon (R65) -/
  | beacon
  /-- a retraction message (R153) -/
  | retraction
  /-- a selective wake frame (R199) -/
  | wakeFrame
  /-- a wake pattern (R199) -/
  | wakePattern
  /-- a PTP message of the time unit (R49, R50) -/
  | ptp
  /-- a datagram or answer of the management complex (R431-R434) -/
  | management
  deriving DecidableEq, Repr


/-- A route entry as fixed for a frame at its lookup (Table 5.4, R118). -/
structure Route where
  index    : Nat
  ctrl     : Nat
  ingress  : Nat
  cls      : Nat
  xlate    : Nat
  key      : Nat
  mask     : Nat
  hkeyRing : Nat
  hkeyDest : Nat
  authProf : Nat
  rxRing   : Nat
  egress   : List Nat   -- ascending
  limiter  : Nat
  outId    : Nat
  auth     : List Nat     -- the authentication profile's four words
  tun      : List Nat     -- the tunnel profile's words
  deriving DecidableEq, Repr

/-- The result of a lookup (R112, R113). -/
inductive Looked where
  | miss
  | route (r : Route)
  deriving DecidableEq, Repr

/-- The host's part of a frame: its descriptor (Table 4.5) and what its completion will say (Table 4.7). -/
structure HostTag where
  ring    : Nat
  tag     : Nat
  cmpl    : Bool
  oneShot : Bool
  dest    : Nat
  gen     : Nat
  deriving DecidableEq, Repr

/-- The outcome of one egress copy of a host frame. -/
structure CopyOutcome where
  port   : Nat
  status : Nat          -- Table 4.8 code; 0 OK
  stamp  : Tai          -- transmit stamp; 0 none
  deriving DecidableEq, Repr

/-- A frame in packet memory: its envelope (Table 5.2) and header. -/
structure Frame where
  origin  : Origin
  ingress : Nat
  wire    : Wire
  stamp   : Tai
  dur     : Option Nat      -- EOF stamp minus SOF stamp (R64)
  route   : Option Route    -- none: a delivered miss or a frame that needs no route
  cls     : Nat
  auth    : Nat             -- 0 no check, 1 verified, 2 failed, 3 pending
  fseq    : Nat
  blk     : Nat
  blocks  : Nat
  replay  : Bool
  woken   : Bool            -- WOKEN_BY
  outWin  : Bool            -- OUT_OF_WINDOW
  host    : Option HostTag
  mkey    : Nat             -- the KEY of its markers on the Halyard link (R346)
  mroute  : Nat             -- the ROUTE of its markers
  opened  : List Nat        -- egress ports whose copies are not yet final
  total   : Nat             -- egress copies made by the route
  done    : List CopyOutcome
  prior   : Option Bool     -- once a copy is lost: was its flow gap-pending before?
  deriving DecidableEq, Repr

/-- An egress copy in a queue: the frame it copies, the frame as it leaves on this port, and its standing. -/
structure Copy where
  fid     : Nat
  port    : Nat
  wire    : Wire
  ready   : Bool            -- false: its AFA verdict or its trailer is awaited
  addAfa  : Bool            -- a trailer is to be generated for it (R291)
  ahead   : Bool            -- it runs ahead of its verdicts (R142)
  attempts : Nat            -- transmission attempts begun
  held    : Bool := false   -- kept in a bus-off hold and not yet sent (R136)
  gap     : Bool := false   -- its tunnel frame carries SEQ_GAP (R135)
  last    : Bool := false   -- the attempt in progress is its last: its queue has been reset (R177)
  deriving DecidableEq, Repr

/-- A frame arriving on a port between its lookup and its validity point. -/
structure Arrival where
  looked : Looked
  rejected : Bool           -- rejected by the acceptance entries (R183)
  fid    : Option Nat       -- the frame in packet memory, once a run-ahead copy has started
  gone   : Bool             -- its admission ahead of its verdict dropped it
  wire   : Wire
  stamp  : Tai              -- its SOF stamp
  at_    : Tai              -- the end of its lookup (R142)
  deriving DecidableEq, Repr

/-- One job of the authentication slot: check a trailer or generate one (R37). -/
inductive AuthJob where
  | check (fid : Nat)
  | gen (fid : Nat)
  | beacon (port : Nat)
  deriving DecidableEq, Repr

/-- A diverted or held class-7 frame of the replay buffer (R345-R349). -/
structure Held where
  copy  : Copy
  age   : Nat               -- beats held
  stamp : Tai
  deriving DecidableEq, Repr

/-- The fabric. -/
structure Fabric where
  frames  : List (Nat × Frame)        -- packet memory, by frame number
  nextFid : Nat
  queues  : List (Nat × List Copy)    -- by 8 * port + class, head first
  sending : List (Nat × Copy)         -- by port: the copy being transmitted
  arrivals : List (Nat × Arrival)     -- by ingress port
  gaps    : List (Nat × Bool)         -- gap-pending flows, by flow number (R135)
  fseqs   : List (Nat × Nat)          -- frames admitted on each route (FSEQ)
  authq   : List AuthJob              -- in the order of ingress completion (R37)
  validated : Bool                    -- a commit has passed validation and waits for a commit slot (R115)
  limLive : List (Nat × Bool)         -- limiters that have been live before (R125, R127)
  history : List (Nat × List Nat)     -- run-ahead cancellations of a route: beat counts, newest first (R156)
  deriving DecidableEq, Repr

/-! ### The host interface -/

/-- A TX ring's indices (R77), the size taken at its enable and its message counters (R102). -/
structure TxRing where
  log2  : Nat
  prod  : Nat
  fetch : Nat
  cack  : Nat
  cprod : Nat
  since : Nat       -- entries written since the ring's last message
  wait  : Nat       -- beats they have waited
  owed  : Nat       -- completions of fetched descriptors not yet written
  dead  : Bool      -- a fault has struck: its completions are discarded (R81)
  gen   : Nat       -- enables so far: a descriptor of an earlier one gets no completion (R104)
  deriving DecidableEq, Repr

/-- An entry bound for an RX ring. -/
inductive RxEntry where
  /-- a frame, as the record of Table 4.9 or as a FRAME item -/
  | frame (fid : Nat) (epoch : Nat) (gap : Bool)
  /-- an item of a record stream: TYPE and payload -/
  | item (type : Nat) (payload : Bytes)
  deriving DecidableEq, Repr

/-- An RX ring. -/
structure RxRing where
  stream : Bool     -- KIND taken at its enable
  log2   : Nat
  prod   : Nat
  ack    : Nat
  rseq   : Nat
  idleDue : Bool    -- the idle item at position 0 is still to be written
  lost   : Nat      -- entries dropped and not yet reported by RING_DROP or LOSS
  queue  : List RxEntry   -- entries due, oldest first: new ones and those held (R99)
  held   : Nat      -- of these, the entries held because the ring was full
  since  : Nat
  wait   : Nat
  deriving DecidableEq, Repr

/-- A completion waiting to be written, or written into its ring's slot (Table 4.7). -/
structure Completion where
  ring   : Nat
  status : Nat
  replay : Bool
  tag    : Nat
  epoch  : Nat
  egTotal : Nat
  egFail : Nat
  time   : Tai
  flow   : Option Nat
  gap    : Bool     -- SEQ_GAP, as it stood when the outcome became final
  deriving DecidableEq, Repr

/-- A TX descriptor as read from a ring (Tables 4.5 and 4.6; 11.5 for CRYPTO), with its payload where its read
succeeded. -/
structure Desc where
  opcode  : Nat
  flags   : Nat
  dest    : Nat
  format  : Nat
  id      : Nat
  len     : Nat
  tag     : Nat
  aux     : Nat
  bufAddr : Nat
  raw     : Bytes          -- all 32 bytes
  payload : Option Bytes   -- none: the payload read failed
  deriving DecidableEq, Repr

/-- A fetched descriptor between intake and its entry into the fabric or the cipher queue. -/
structure Fetched where
  ring : Nat
  gen  : Nat
  desc : Desc
  deriving DecidableEq, Repr

/-- The host interface's state beside its registers. -/
structure HostIf where
  linkReady : Bool              -- an intake slot has begun since the link came up (R104)
  tx       : List (Nat × TxRing)
  rx       : List (Nat × RxRing)
  fetched  : List Fetched       -- fetched FRAME and NOP descriptors, in order
  finals   : List Completion    -- final outcomes whose completions are not yet written
  wbSeq    : Nat
  wbOverrun : Bool
  inOverrun : Bool
  passGap  : List (Nat × Bool)  -- SEQ_GAP passed on by a descriptor without CMPL, by flow (R92)
  passReplay : List (Nat × Bool)
  errVec   : Bool               -- a fault or HIF_CFG_REJECTED awaits its message on HIF_ERR_VEC (R102)
  outputs  : List (Nat × Bytes) -- outputs of CRYPTO jobs, by address, that wait for the link (R104)
  pbaVecs  : List Nat           -- vectors unmasked with their PBA bit set, due in the next writeback
  deriving DecidableEq, Repr

/-! ### Run-ahead -/

/-- A frame of which run-ahead copies have started (R142-R153). -/
structure RaFrame where
  route     : Nat
  ingress   : Nat
  started   : List Nat      -- ports whose copy started ahead
  completed : List Nat      -- ports whose copy completed on the bus
  past      : List Nat      -- ports whose copy has passed its abort deadline (R152)
  valid     : Bool          -- the ingress verdict is known and good
  cancelled : Bool          -- counted as a cancellation
  deriving DecidableEq, Repr

/-! ### CAN ports -/

/-- A CAN port beside its registers. -/
structure CanPort where
  boffAt   : Tai       -- entry into BUS_OFF
  noRetry  : Bool      -- EN 0 or LISTEN 1 took effect during an attempt (R179)
  integrateAfter : Bool -- new timing waits for the frame on the bus to end (R170)
  retractSeq : Nat     -- retractions sent on the port (Table 11.12)
  silent   : Bool      -- an aborted copy's error flag is being driven (R148)
  excepted : Bool      -- a protocol exception waits for 11 recessive bits (R163)
  deriving DecidableEq, Repr

/-! ### Reef -/

/-- The TXWAKE action owed before the first egress copy (R199). -/
inductive TxWake where
  | none | due | running | delay
  deriving DecidableEq, Repr

/-- A CAN port's Reef controller beside its registers. -/
structure ReefPort where
  restart   : Tai        -- last restart of the idle timer
  awakeFrom : Tai        -- entry into AWAKE
  insom     : Nat        -- awake seconds up to which multiples of INSOMNIA_S are dealt with (R201)
  decErrs   : Nat        -- decoder errors since a correct frame
  capturing : Bool       -- between the wake cause and ACTIVE (R197)
  wokeAt    : Tai        -- the wake cause
  woke      : Bool       -- the frame that woke the port awaits its validity (R198)
  txWake    : TxWake
  delayFrom : Tai        -- the end of the pattern or wake frame (R199)
  corr      : List (Nat × Int)   -- pending drift corrections: NODE and CORR, oldest first
  deriving DecidableEq, Repr

/-- A muster window of an entry (R202-R212). -/
structure MusterWin where
  port    : Nat            -- the port that its span keeps awake
  start   : Tai
  opens   : Tai            -- the awake span starts
  closes  : Tai            -- the awake span ends
  report  : Option Nat     -- outcome of its report, 1 or 2
  settled : Option Nat     -- outcome at the span end
  ran     : Bool           -- its start beat ran
  void    : Bool           -- the port was BUS_OFF, OFF or DOWN in the span
  deriving DecidableEq, Repr

/-- The Reef controller. -/
structure Reef where
  ports   : List (Nat × ReefPort)
  windows : List (Nat × List MusterWin)   -- by muster entry, newest first
  deriving DecidableEq, Repr

/-! ### Ethernet, T1S, MDIO, link cipher -/

/-- The MDIO transaction in progress. -/
structure Mdio where
  op   : Nat
  cl45 : Bool
  phy  : Nat
  reg  : Nat
  data : Nat
  deriving DecidableEq, Repr

/-- The protection of one frame on a lane: the key in use at its start, its initialisation vector and SecTAG (R226, R228). -/
structure SecPlan where
  key  : Bytes
  iv   : Bytes
  tag  : Bytes
  conf : Bool
  ofs  : Nat       -- bytes behind the addresses that stay in clear
  an   : Nat
  pn   : Nat
  deriving DecidableEq, Repr

/-- A run-ahead copy on an Ethernet-type wire: when its preamble began, its bytes before padding and protection, how it is
protected, and the length at which its fill ended, once the ingress verdict is known (R150, R230). -/
structure EthTail where
  start : Tai
  bytes : Bytes
  sec   : Option SecPlan
  len   : Option Nat
  deriving DecidableEq, Repr

/-- Ethernet-type ports beside their registers. -/
structure Eth where
  mdio      : Option Mdio
  opportunity : List (Nat × Nat)     -- by T1S port: frames that the node may still start in its transmit opportunity
  retrain   : List (Nat × Bool)      -- by Ethernet port: the link drops when the frame in transmission has ended (R217)
  txSa      : List (Nat × Nat)       -- by lane: 1 the frame on the wire is protected, 2 it leaves in clear beside SAs
  told      : List Nat               -- transmit SAs whose threshold has been told: 4 * lane + AN (R227)
  tails     : List (Nat × EthTail)   -- by port: the run-ahead copy on the wire (R150)
  deriving DecidableEq, Repr

/-! ### Serial channels -/

/-- A UART frame in assembly (R254, Table 10.2). -/
structure SerFrame where
  stamp   : Tai
  bytes   : Bytes
  parity  : Bool
  framing : Bool
  brk     : Bool
  overrun : Bool
  noise   : Bool
  until_  : Tai           -- the end of its last stop bit
  deriving DecidableEq, Repr

/-- A serial channel beside its registers. -/
structure SerChan where
  frame : Option SerFrame
  fifo  : Nat            -- bytes waiting in the receive FIFO
  deUntil : Tai          -- DE stays high, and the receiver deaf, until this time (R258)
  cfgAt  : Tai           -- when the configuration in force was applied
  oldCfg : Nat           -- CFG before it: a character begun earlier completes in the old format (R259)
  oldDiv : Nat           -- and DIV before it
  overrun : Bool         -- characters lost before the next frame opened
  low     : Bool         -- the line was low at the last sample taken (R250, R251)
  seen16  : Nat          -- when that was, in 1/16 ns
  freeAt  : Tai          -- the next frame may start: IFG after the last (R257)
  deriving DecidableEq, Repr

/-! ### Cipher engine and key vault -/

/-- A loaded key's material. -/
structure KeySlot where
  key  : Bytes
  resv : Nat         -- invocation reservation of a PERSIST key (R272)
  deriving DecidableEq, Repr

/-- A staged key load (R268). -/
structure KeyLoad where
  slot  : Nat
  size  : Nat
  attr  : Nat
  limit : Nat
  key   : Bytes
  prior : Nat        -- the slot's state before the load was staged (R40)
  deriving DecidableEq, Repr

/-- A host crypto job (Table 11.5). -/
structure Job where
  ring  : Nat
  gen   : Nat
  tag   : Nat
  cmpl  : Bool
  op    : Nat
  slot  : Nat
  target : Nat
  attr  : Nat
  alen  : Nat
  len   : Nat
  aux   : Nat
  dst   : Nat
  input : Bytes
  blocks : Nat
  stops : Nat        -- times it was stopped at a slot's end
  running : Bool     -- it holds the engine to the end of the slot
  late   : Bool      -- deferred from an earlier service slot (R39)
  deriving DecidableEq, Repr

/-- A job of a management requester, MGT0 to MGT3 (Table 11.1). -/
structure MgtJob where
  code    : Nat      -- the requester: 3 to 6
  cycles  : Nat      -- its cost (R262)
  stops   : Nat
  running : Bool
  late    : Bool
  deriving DecidableEq, Repr

/-- The cipher engine beside its registers. -/
structure Ciph where
  keys    : List (Nat × KeySlot)
  loads   : List KeyLoad
  lanes   : List (Nat × Nat)        -- lane table: 16 * route + lane
  beacon  : List (Nat × Nat)        -- beacon counters by CAN port
  retract : List (Nat × Nat)        -- retraction counters by CAN port
  jobs    : List Job
  mgtJobs : List MgtJob             -- jobs of the management requesters, oldest first
  last    : Nat                     -- the requester served last (R264)
  parity  : List Tai                -- parity mismatches, newest first, at most 3
  present : Nat                     -- alarm conditions present, by Table 11.4 bit
  backing : List (Nat × KeyLoad)    -- PERSIST keys in the key backing area
  backingUsed : List (Nat × Nat)    -- their invocation reservations
  erasing : Bool                    -- the key backing area is being erased
  invalid : List Nat                -- freshness entries marked invalid by an uncorrectable error (R438): table * 65536 + index
  seen    : List (Nat × Nat)        -- every freshness counter at the last authentication slot's end: table * 65536 + index
  deriving DecidableEq, Repr

/-! ### The Crow's Nest (chapter 12) -/

/-- A binary32 value, by its bits. -/
abbrev F32 := BitVec 32

/-- One axis of a track: state and covariance (R311). -/
structure Axis where
  p   : F32
  v   : F32
  p00 : F32
  p01 : F32
  p11 : F32
  deriving DecidableEq, Repr

/-- A track that is not FREE (Tables 12.3 and 12.5). -/
structure Track where
  state   : Nat      -- 1 TENTATIVE, 2 CONFIRMED, 3 COASTING
  set     : Nat
  hits    : Nat
  misses  : Nat      -- consecutive
  time    : Tai
  x       : Axis
  y       : Axis
  t       : Axis
  row     : Nat      -- 0xFF none
  col     : Nat
  ctx     : Option Nat         -- slot of its tray context, while that lives
  traySeq : Nat      -- 0 none
  imgs    : Nat      -- imagers that gave a hit since the previous record
  alarms  : Nat      -- rules that have fired
  holds   : List (Nat × Nat)   -- by rule: consecutive hits at which its condition held
  event   : Nat      -- highest-ranked selected event since the previous writeback; 0 none
  deriving DecidableEq, Repr

/-- An imager frame between Frame Start and Frame End: its CSI-2 number and the configuration in force at its start
(R302). -/
structure NestFrame where
  start  : Tai
  number : Nat
  cfg    : List (Nat × Word)
  deriving DecidableEq, Repr

/-- A tray context (R309). -/
structure TrayCtx where
  seq  : Nat
  slot : Nat
  x    : F32
  y    : F32
  id   : Bytes
  deriving DecidableEq, Repr

/-- An alarm output of the Crow's Nest waiting for packet memory (R320). -/
structure NestOut where
  stop : Bool       -- a stop frame; otherwise an alarm message
  set  : Nat
  wire : Wire
  mkey : Nat        -- RULE and SEQ, as its markers carry them (R346)
  deriving DecidableEq, Repr

/-- The Crow's Nest beside its registers. -/
structure Nest where
  open_   : List (Nat × NestFrame)          -- by imager
  lastStart : List (Nat × Tai)              -- by imager: Frame Start of the last accepted frame
  lastTime : List (Nat × Tai)               -- by imager: its frame time
  regions : List (Nat × List (List Nat))    -- by imager: the ego-motion region of the previous accepted frame
  tracks  : List (Nat × Track)              -- by track index
  deleted : List (Nat × Track)              -- deletions whose records are not yet emitted
  ctxs    : List (Nat × TrayCtx)            -- tray contexts, by 4 * set + context
  traySeq : Nat                             -- identity messages since the Crow's Nest was enabled
  out     : List NestOut                    -- staged alarm outputs
  inbox   : List Frame                      -- frames delivered to port 77
  deriving DecidableEq, Repr

/-! ### The pair -/

/-- What the partner's last heartbeat said (Table 13.6). -/
structure Heartbeat where
  claim  : Nat
  health : Nat
  role   : Nat
  flags  : Nat
  start  : Tai
  epoch  : Nat
  fmt    : Nat      -- SHADOW_FMT of its header
  deriving DecidableEq, Repr

/-- The redundant pair's state beside its registers. -/
structure Hal where
  fseq    : Nat
  replay  : List (Nat × List Held)    -- by egress port
  keepers : List Nat      -- CAN ports whose keeper table changed in the beat in progress (Table 13.7)
  rxFseq  : Option Nat    -- last FSEQ received from the partner
  last    : Option Heartbeat
  heard   : Bool          -- a heartbeat arrived in the beat in progress
  missed  : Nat           -- consecutive missed heartbeats
  since   : Nat           -- beats since the last heartbeat
  strapAt : Option Nat    -- beats since a heartbeat with the own strap (R331)
  activeAt : Option Nat   -- beats since a heartbeat that reported ACTIVE (Table 13.4)
  unseen  : Nat           -- consecutive windows without the partner's presence bit
  lone    : Nat           -- windows still needed before a LONE unit holds the claim (R333)
  image   : Bool          -- a whole image was received; its first delta is awaited
  yieldNext : Bool        -- the next heartbeat carries YIELD (R351)
  yielding  : Bool        -- the beat in progress is the yielding one
  unfenced  : Nat         -- a FENCED unit bids, and why: the reason of its next role change; 0 it does not (R343)
  evidence  : Nat         -- consecutive beats without partner evidence
  evSeen    : Bool        -- partner evidence in the beat in progress
  split     : Bool        -- the split-brain rule has been applied to the absence in progress (R342)
  fmtBad    : Bool        -- HAL_SHADOW_LOST has told of the partner's SHADOW_FMT
  asked     : Bool        -- an IMAGE_REQ awaits its image
  awaited   : List (Nat × List Nat)   -- checked frames whose held copies a SENT marker discarded: ports by frame (R348)
  number    : Nat         -- the claim number of the last window
  lower     : Nat         -- consecutive heartbeats with health lower by YIELD_DIFF (R352)
  windowAt  : Tai         -- the last claim window
  result    : Option Bool -- what takes effect at the coming boundary: claim held or not
  won       : Bool        -- this unit won the previous window
  partnerWon : Bool       -- the partner won the window sampled last
  bid       : Bool        -- this unit bid in its last window
  deriving DecidableEq, Repr

/-! ### Power -/

/-- A domain's requests and counters beside its registers. -/
structure Domain where
  hold    : List Copy        -- dormant hold queue, first to return first
  close   : Option Nat       -- a close request and its reason
  wake    : Option Nat       -- a wake request and its reason
  wakeAt  : Tai              -- when it was made (R357)
  since   : Tai              -- when WAKING began
  idle    : Nat              -- consecutive beat boundaries at which the idle condition held
  mark    : Nat              -- frames or characters counted on the domain's ports at the last boundary (Table 14.3)
  bounds  : Nat              -- beat boundaries since the close
  deriving DecidableEq, Repr

/-- The power manager and the power-path supervisor beside their registers (R369-R373, R443). -/
structure Pwr where
  domains  : List (Nat × Domain)
  good     : Option Tai      -- since when main has stayed good
  fell     : Tai             -- when main last ceased to be good
  entered  : Tai             -- when the brace state was entered
  shedAt   : Tai             -- when SHED was entered
  inBackup : Option Nat      -- RESTORE was entered from BACKUP: ns spent there
  held     : List Event      -- events raised after the commit point, oldest first, at most 8
  vcan     : Bool            -- VCAN is valid
  vsds     : Bool            -- VSDS is valid
  vcanFell : Bool            -- GLB_RAIL_FAULT has told of a fall of VCAN and not of its return
  vsdsFell : Bool            -- the same of VSDS
  deriving DecidableEq, Repr

/-! ### Shroud -/

/-- A line as Shroud follows it. -/
structure ShrLine where
  cls   : Nat                   -- class of the last results: 0 good or normal, else the fault code it counts for
  runs  : Nat                   -- consecutive results of that class
  done  : Option Nat            -- the scheduled beat of the last termination measurement that completed or was missed
  setAt : List (Nat × Tai)      -- faults set, with their times
  acted : Bool                  -- the pair has been swapped for the REVERSED that is set
  deriving DecidableEq, Repr

/-! ### Pins -/

/-- The general-purpose pins beside their registers. -/
structure PinUnit where
  net      : Nat                   -- the levels that the outside gives the pads, as last sampled
  kept     : List (Nat × Bool)     -- the levels that keepers hold
  samples  : List (Nat × Bool)     -- levels of claimed hold pins at the last boundary without the claim
  override : List (Nat × Bool)     -- hold pins that drive the sampled level until they are written
  yielded  : Bool                  -- a window that the partner won has been sampled since the claim was lost
  deriving DecidableEq, Repr

/-! ### Non-volatile storage -/

/-- A journal entry awaiting its programming (Tables 16.3 and 16.4). -/
structure JEntry where
  type : Nat
  time : Tai
  body : Bytes
  deriving DecidableEq, Repr

/-- A journal sector that is not erased: its header's fields and its entries as programmed from offset 32 (Table 16.2). -/
structure JSector where
  sseq   : Nat
  erases : Nat
  first  : Nat
  body   : Bytes
  deriving DecidableEq, Repr

/-- What the map area keeps of a physical sector (R401). -/
structure Wear where
  erases : Nat
  pulses : List Nat      -- of its last 16 programs, newest first
  corr   : Nat           -- correctable reads
  deriving DecidableEq, Repr

/-- A complete configuration image in a bank (Table 16.6): register values by BAR0 offset. -/
structure Bank where
  fmt  : Nat
  gen  : Nat
  time : Tai
  fw   : Nat
  body : List (Nat × Word)
  deriving DecidableEq, Repr

/-- A boot pointer copy (R409). -/
structure BootPtr where
  gen    : Nat
  active : Nat
  trial  : Bool
  boots  : Nat
  deriving DecidableEq, Repr

/-- The embedded NVM, the flash and the update sequence beside their registers. -/
structure Nvm where
  buffer  : List JEntry           -- the 64 KiB buffer in PD21, oldest first
  used    : Nat                   -- bytes of the buffer in use
  lost    : Nat                   -- entries dropped since the last LOSS entry
  sectors : List (Nat × JSector)  -- journal sectors that are not erased, by logical sector
  cur     : Option Nat            -- the sector being written
  jseq    : Nat                   -- entries written since first use
  sseq    : Nat                   -- sectors opened since first use
  wear    : List (Nat × Wear)     -- by physical sector
  moved   : List (Nat × Nat)      -- logical sectors that have moved, by 2048 * area + sector: physical sector
  drawn   : Nat                   -- spares drawn
  drawnJ  : Nat                   -- of these, by the journal
  stages  : List (Nat × Nat)      -- health stages, by area (Table 16.5)
  rated   : List Nat              -- areas of which a sector has passed its rated count
  banks   : List (Nat × Bank)     -- valid banks: 0 A, 1 B
  saving  : Option (Nat × Bank)   -- the save that runs
  ptrs    : List (Nat × BootPtr)  -- boot pointer copies with a valid CRC
  slots   : List (Nat × Bytes)    -- headers of the images programmed, by slot
  minSvn  : Nat                   -- NVM_MIN_SVN, in the map
  target  : Nat                   -- the slot that WRITE writes and ACTIVATE activates
  clean   : Bool                  -- ACTIVATE asked for clean mode
  quiesce : Nat                   -- beat boundaries since QUIESCE began
  fallback : Option Nat           -- a fallback pause runs: its cause
  trialFrom : Tai                 -- the start of TRIAL
  deriving DecidableEq, Repr

/-! ### The state registry and the management complex -/

structure Mgt where
  words    : List (Nat × StateWord)   -- the registry, by UNIT
  suspects : List (Nat × Suspect)     -- by UNIT
  bad      : List Nat                 -- words with a parity error (R430)
  owed     : List (Nat × Tai)         -- by UNIT: re-derivations owed to the next commit slot, first observation time
  inbox    : List Frame               -- frames delivered to port 79
  subs     : List (Nat × Nat)         -- the notification list: source address (IPv6 form) and port, oldest first
  notifies : Nat                      -- notifications sent
  snapDue  : Bool                     -- a host snapshot is latched in the coming writeback (R437)
  snaps    : Nat                      -- host snapshots since power-on reset
  snapHeld : List (Nat × Bytes)       -- the writes of a latched host snapshot that wait for the link
  deriving DecidableEq, Repr


/-! ### What leaves the part -/

/-- One outward effect of a command, in order. -/
inductive Output where
  /-- a PCIe memory write to host memory (R74) -/
  | dmaWrite (addr : Nat) (data : Bytes)
  /-- an MSI-X message of a vector -/
  | msix (vector : Nat) (addr : Nat) (data : Nat)
  /-- a frame begins on a port -/
  | frameStart (port : Nat) (wire : Wire) (ahead : Bool)
  /-- a frame ends on a port; stomped: not as a valid frame, with an inverted FCS or cut as the claim is lost -/
  | frameEnd (port : Nat) (stomped : Bool)
  /-- what follows the bytes that a run-ahead copy began with: the rest of the frame, its fill and its ICV (R150, R230) -/
  | frameTail (port : Nat) (data : Bytes)
  /-- the characters of a serial frame, bit by bit from the start bit to the last stop bit: the first start bit begins at a
  time, a bit lasts 16 sample periods, of 1/64 fabric cycles each (R247, R257) -/
  | serial (port : Nat) (start : Tai) (div64 : Nat) (chars : List (List Bool))
  /-- a 6-bit active error flag on a CAN port (R148) -/
  | errorFlag (port : Nat)
  /-- a wake pattern on a CAN port: dominant, recessive, dominant, each phase so many µs long (R199) -/
  | wakePattern (port phaseUs : Nat)
  /-- a PLCA beacon on a T1S port -/
  | plcaBeacon (port : Nat)
  /-- a PTP message on a PTP port: 0 Sync, 1 Follow_Up, 2 Announce, 3 delay request, 4 delay response, 5 peer delay response
  with its Follow_Up; the time and the fields that it carries; the AN and PN of the transmit SA that protects it on a lane -/
  | ptp (port : Nat) (kind : Nat) (time : Int) (fields : List Nat) (sec : Option (Nat × Nat))
  /-- a PTP message forwarded by the transparent clock: the message as received and its arrival; its correction grows by the
  time it stays in the part and by a path delay in ns (R48, Table 3.2) -/
  | ptpForward (port : Nat) (data : Bytes) (arrived : Tai) (delay : Rat) (sec : Option (Nat × Nat))
  /-- the value answered to a register read -/
  | readData (value : Word)
  /-- the answer of the SMBus target: bytes, or NAK -/
  | smbus (nak : Bool) (data : Bytes)
  /-- an answer or datagram of the management complex, from the port's own MAC address: 1 ARP, 2 ICMP, 3 neighbour
  advertisement, 4 ICMPv6, 5 register service, 6 NOTIFY; the destination address in IPv6 form, the UDP port or 0, and what
  the IP or UDP header (for ARP, the Ethernet header) is followed by -/
  | mgmt (service : Nat) (src : Bytes) (dst port : Nat) (data : Bytes)
  /-- the SMBus target releases the bus -/
  | smbusRelease
  /-- a frame on the Halyard link: TYPE, header and payload (R337) -/
  | halyard (type : Nat) (header : Bytes) (payload : Bytes)
  /-- the bits driven in the claim window -/
  | claimBits (presence : Bool) (number : Nat)
  /-- an MDIO transaction on the management bus -/
  | mdio (op phy reg data : Nat)
  deriving DecidableEq, Repr

/-! ### The whole state -/

/-- The gateway. -/
structure State where
  pending : List Instr               -- commands waiting, first in first out
  out     : List Output              -- outward effects of the last command
  free    : Nat                      -- free values used so far (the model's own counter)
  regs    : List (Nat × Word)        -- registers, by BAR0 offset, where they differ from reset
  live    : List (Nat × Word)        -- values in force of paced registers, where they differ from reset
  paced   : List Nat                 -- class C writes accepted and not yet in force, by offset
  cmds    : List RegCmd              -- command fields written and not yet acted on, oldest first
  glb     : Glb
  beat    : BeatUnit
  time    : TimeUnit
  ev      : EventUnit
  hif     : HostIf
  fab     : Fabric
  ra      : List (Nat × RaFrame)     -- frames with run-ahead copies, by frame number
  can     : List (Nat × CanPort)
  reef    : Reef
  eth     : Eth
  ser     : List (Nat × SerChan)
  ciph    : Ciph
  nest    : Nest
  hal     : Hal
  pwr     : Pwr
  shr     : List (Nat × ShrLine)     -- by logical port; 79 the sense inputs
  pin     : PinUnit
  nvm     : Nvm
  mgt     : Mgt
  deriving DecidableEq, Repr

/-- The machine right after power-on reset: every register at the reset value of the register map, the time unit at
1,000,000,000 ns (R44), every queue, table and buffer empty. -/
def State.reset : State where
  pending := []
  out := []
  free := 0
  regs := []
  live := []
  paced := []
  cmds := []
  glb := { phase := .powerOnReset, unitStrap := false, recStrap := false, locked := false, latch := [], stage := [],
           bankStaged := false, warmDue := none, cause := 1, bootSlot := 0, bootAlt := false, bootResult := 0, bootNote := none }
  beat := { start := 1000000000, next := 1000000000, started := false, lenSampled := false, shareSampled := false,
            demand := 0, commitOverruns := 0, gapFrom := 0, used := 0, intakeRun := false, shareWithLen := false, ended := false,
            beaconRun := false, windowRun := false, deferred := none }
  time := { now := 1000000000, sender := 0, gm := 0, step := none, lockStep := none, syncGap := [], sync := none,
            annSent := [], syncSent := [], reqSent := [], refusedAt := 0, asymLog := [], held := [], trend := [], f := 0, r := 0, rAt := 1000000000,
            added := 0, delay := [], foreign := [], caps := [], beacons := [] }
  ev := { eseq := 0, once := [], raised := [] }
  hif := { linkReady := false, tx := [], rx := [], fetched := [], finals := [], wbSeq := 0, wbOverrun := false, inOverrun := false,
           passGap := [], passReplay := [], errVec := false, pbaVecs := [], outputs := [] }
  fab := { frames := [], nextFid := 0, queues := [], sending := [], arrivals := [], gaps := [], fseqs := [],
           authq := [], validated := false, limLive := [], history := [] }
  ra := []
  can := []
  reef := { ports := [], windows := [] }
  eth := { mdio := none, opportunity := [], retrain := [], txSa := [], told := [], tails := [] }
  ser := []
  ciph := { keys := [], loads := [], lanes := [], beacon := [], retract := [], jobs := [], mgtJobs := [], last := 6, parity := [],
            present := 0, backing := [], backingUsed := [], erasing := false, invalid := [], seen := [] }
  nest := { open_ := [], lastStart := [], lastTime := [], regions := [], tracks := [], deleted := [], ctxs := [], traySeq := 0,
            out := [], inbox := [] }
  hal := { fseq := 0, replay := [], keepers := [], rxFseq := none, last := none, heard := false, missed := 0, since := 2,
           strapAt := none, activeAt := none, unseen := 0, lone := 1, image := false, yieldNext := false, yielding := false, unfenced := 0,
           evidence := 0, evSeen := false, split := false, fmtBad := false, asked := false, awaited := [],
           number := 0, lower := 0, windowAt := 0, result := none, won := false, partnerWon := false, bid := false }
  pwr := { domains := [], good := none, fell := 0, entered := 0, shedAt := 0, inBackup := none, held := [], vcan := true, vsds := true,
           vcanFell := false, vsdsFell := false }
  shr := []
  pin := { net := 0, kept := [], samples := [], override := [], yielded := false }
  nvm := { buffer := [], used := 0, lost := 0, sectors := [], cur := none, jseq := 0, sseq := 0, wear := [], moved := [], drawn := 0,
           drawnJ := 0, stages := [], rated := [], banks := [], saving := none, ptrs := [], slots := [], minSvn := 0, target := 0,
           clean := false, quiesce := 0, fallback := none, trialFrom := 0 }
  mgt := { words := [], suspects := [], bad := [], owed := [], inbox := [], subs := [], notifies := 0, snapDue := false, snaps := 0, snapHeld := [] }

end Sys2Proof.Machine
end

