-- ==== Sys2Proof/Machine/Operands.lean ====
section
/-! DEFINITION. Encodings without state: sparse maps, bit fields, byte order, identifiers, keys, lengths and stamps. -/

namespace Sys2Proof.Machine

/-! ### Sparse maps -/

/-- The value of a key: an unlisted key reads as the default. -/
def SMap.get {α : Type} (d : α) : List (Nat × α) → Nat → α
  | [], _ => d
  | (k, v) :: m, x => if x = k then v else SMap.get d m x

/-- Insert or replace, keys rising. -/
def SMap.put {α : Type} : List (Nat × α) → Nat → α → List (Nat × α)
  | [], x, v => [(x, v)]
  | (k, w) :: m, x, v =>
    if x = k then (x, v) :: m
    else if x < k then (x, v) :: (k, w) :: m
    else (k, w) :: SMap.put m x v

/-- Remove a key. -/
def SMap.del {α : Type} (m : List (Nat × α)) (x : Nat) : List (Nat × α) := m.filter fun e => e.1 != x

/-- Write a value: writing the default removes the entry, so that equal maps are equal lists. -/
def SMap.set {α : Type} [DecidableEq α] (d : α) (m : List (Nat × α)) (x : Nat) (v : α) : List (Nat × α) :=
  if v = d then SMap.del m x else SMap.put m x v

/-- The canonical form: keys strictly rise. -/
def SMap.rising {α : Type} : List (Nat × α) → Bool
  | [] => true
  | [_] => true
  | (k, _) :: (l, w) :: m => decide (k < l) && SMap.rising ((l, w) :: m)

/-! ### Bits and bytes -/

/-- Bits hi to lo of a number (R5). -/
def bits (v hi lo : Nat) : Nat := v / 2 ^ lo % 2 ^ (hi + 1 - lo)

/-- Bit n of a number. -/
def bit (v n : Nat) : Bool := v / 2 ^ n % 2 == 1

/-- A number with bits hi to lo replaced. -/
def setBits (v hi lo f : Nat) : Nat :=
  v - bits v hi lo * 2 ^ lo + f % 2 ^ (hi + 1 - lo) * 2 ^ lo

/-- A Bool as a bit. -/
def b2n (b : Bool) : Nat := if b then 1 else 0

/-- A number's n bytes, least significant first: host memory, registers and the journal (R6). -/
def le : Nat → Nat → Bytes
  | 0, _ => []
  | n + 1, v => BitVec.ofNat 8 v :: le n (v / 256)

/-- A number's n bytes, most significant first: frames (R6). -/
def be (n v : Nat) : Bytes := (le n v).reverse

/-- The number that bytes spell, least significant first. -/
def unLe : Bytes → Nat
  | [] => 0
  | b :: bs => b.toNat + 256 * unLe bs

/-- The number that bytes spell, most significant first. -/
def unBe (bs : Bytes) : Nat := unLe bs.reverse

/-- Bytes padded at the end with a byte up to a length. -/
def padTo (n : Nat) (p : Byte) (bs : Bytes) : Bytes := bs ++ List.replicate (n - bs.length) p

/-- A signed value's two's complement in n bytes. -/
def ofInt (n : Nat) (v : Int) : Nat := (v % (2 ^ (8 * n) : Int)).toNat

/-- A two's complement field of w bits as an integer. -/
def toSigned (w v : Nat) : Int := if 2 ^ (w - 1) ≤ v then (v : Int) - 2 ^ w else v

/-- An integer clamped to the signed range of w bits. -/
def satSigned (w : Nat) (v : Int) : Int := max (-(2 ^ (w - 1))) (min (2 ^ (w - 1) - 1) v)

/-- A count that saturates. -/
def satNat (w v : Nat) : Nat := min (2 ^ w - 1) v

/-- Rounding of a fraction where the manual gives a unit and no rounding. -/
def roundFree (x : Rat) : Int := if Config.roundsUp x then x.ceil else x.floor

/-! ### Stamps (R60, Table 3.3) -/

/-- The capture granularity of a logical port, as a fraction of a nanosecond; GPIO captures use port 127. -/
def grid (port : Nat) : Nat × Nat :=
  if port < 48 then (25, 4)
  else if port < 56 then (8, 1)
  else if port < 60 then (8, 5)
  else if port = 60 then (8, 1)
  else if port < 77 then (25, 4)
  else (4, 1)

/-- A capture in 1/16 ns with its correction in 1/16 ns, rounded down to the source's grid and then to whole ns. -/
def stampOf (port : Nat) (edge16 : Int) : Tai :=
  let (n, d) := grid port
  let k := edge16.toNat * d / (16 * n)
  k * n / d

/-! ### CAN lengths (Table 7.3, R165) -/

/-- The data-field sizes of CAN FD. -/
def fdSizes : List Nat := [0, 1, 2, 3, 4, 5, 6, 7, 8, 12, 16, 20, 24, 32, 48, 64]

/-- The smallest FD data-field size that holds a length. -/
def fdSize (len : Nat) : Nat := (fdSizes.find? (fun n => len ≤ n)).getD 64

/-- The DLC of a CAN data field. -/
def dlcOf (kind len : Nat) : Nat :=
  if kind = 1 then (fdSizes.findIdx? (fun n => len ≤ n)).getD 15 else len

/-- The payload limit of a kind (R84); a remote frame has none. -/
def lenLimit (kind : Nat) (rtr : Bool) : Nat :=
  if kind = 0 then (if rtr then 0 else 8) else if kind = 1 then 64 else 2048

/-- The least payload of a kind (R84). -/
def lenMin (kind : Nat) : Nat :=
  if kind = 2 ∨ kind = 5 then 1 else if kind = 3 ∨ kind = 4 then 14 else 0

/-! ### Identifiers and keys (Table 5.5, R522) -/

/-- An identifier as sent: with IDE 0, its 11 low bits (R522). -/
def idSent (ide : Bool) (id : Nat) : Nat := if ide then id % 2 ^ 29 else id % 2 ^ 11

/-- The key of a CAN frame. -/
def canKey (w : Wire) : Nat :=
  if w.kind = 2 then w.id % 2 ^ 11 + 2 * 2 ^ 30
  else idSent w.ide w.id + b2n w.ide * 2 ^ 29 + w.kind * 2 ^ 30

/-- A frame's FORMAT byte (Table 4.6). -/
def formatOf (w : Wire) : Nat :=
  w.kind + 8 * b2n w.ide + 16 * b2n w.brs + 32 * b2n w.rtr

/-- The identifier word of Table 4.5 that records and envelopes carry; 0 for Ethernet and T1S. -/
def idWord (w : Wire) : Nat :=
  if w.kind = 3 ∨ w.kind = 4 then 0 else if w.kind < 2 then idSent w.ide w.id else w.id

/-- The offset of an Ethernet frame's EtherType: one 802.1Q tag is skipped (R221). -/
def etherAt (d : Bytes) : Nat := if unBe ((d.drop 12).take 2) = 0x8100 then 16 else 12

/-- An Ethernet frame's EtherType. -/
def etherType (d : Bytes) : Nat := unBe ((d.drop (etherAt d)).take 2)

/-- What follows the EtherType. -/
def etherBody (d : Bytes) : Bytes := d.drop (etherAt d + 2)

/-- The key of a tunnel header: the CAN layout of its FORMAT and ID (Table 5.5, Table 5.8). DESIGN CHOICE: a header whose FORMAT is
no CAN kind still gives a key in that layout, its kind in bits [31:30] and above. -/
def tunnelKey (h : Bytes) : Nat :=
  let fmt := unBe ((h.drop 1).take 1)
  let id := unBe ((h.drop 16).take 4)
  canKey { kind := fmt % 8, ide := bit fmt 3, brs := false, rtr := false, esi := false, id := id, af := 0, data := [] }

/-- The key under which a frame from an ingress is looked up by an entry with or without RAW_KEY; none: the entry
cannot match it. -/
def keyFor (etype : Nat) (raw : Bool) (w : Wire) : Option Nat :=
  if w.kind ≤ 2 then some (canKey w)
  else if w.kind = 3 ∨ w.kind = 4 then
    if raw then some (etherType w.data * 2 ^ 16 + unBe ((w.data.drop 10).take 2))
    else if etherType w.data = etype then some (tunnelKey (etherBody w.data))
    else none
  else some w.id

/-- The ID of a host frame of kind 5: its first byte, as Table 10.2 places FIRST, and nothing else (R255). -/
def uartHostId (d : Bytes) : Nat := (d.headD 0#8).toNat * 2 ^ 16

/-- The kind of a logical port (Table 5.1); a CAN port's kind is the configured one. -/
def portKind (canKind : Nat) (port : Nat) : Nat :=
  if port < 48 then canKind
  else if port < 56 then 4
  else if port < 61 then 3
  else if port < 77 then 5
  else 6

/-- The power domain of a logical port's block (Table 14.1, Table 9.1). -/
def domainOf (port : Nat) : Nat :=
  if port < 48 then 7 + port / 12
  else if port < 56 then 12
  else if port < 58 then 14
  else if port < 60 then 15
  else if port = 60 then 22
  else if port < 77 then 13
  else if port = 77 then 18
  else if port = 78 then 17
  else 2

/-- The ports that a domain powers and whose frames it carries ("the egress ports of a domain"). -/
def portsOf (d : Nat) : List Nat :=
  if 7 ≤ d ∧ d ≤ 10 then (List.range 12).map (12 * (d - 7) + ·)
  else if d = 12 then (List.range 8).map (48 + ·)
  else if d = 13 then (List.range 16).map (61 + ·)
  else if d = 14 then [56, 57]
  else if d = 15 then [58, 59]
  else if d = 22 then [60]
  else []

/-- A UNIT field: kind and index (Table 4.12). -/
def unitOf (kind index : Nat) : Nat := 4096 * kind + index

/-- Difference of two free-running 32-bit indices (R77). -/
def idxSub (a b : Nat) : Nat := (a + 2 ^ 32 - b % 2 ^ 32) % 2 ^ 32

end Sys2Proof.Machine
end

