-- ==== Sys2Proof/Machine/Crypto.lean ====
section
/-! DEFINITION. The algorithms of the cipher engine (R261): the AES block cipher, CTR, CMAC, GCM and AES key wrap, and
the CRC-32 of a frame check sequence. The manual names the standards (FIPS 197, NIST SP 800-38A, B, D and F) and gives no
algorithm; the text below is PRESUMED from them. -/

namespace Sys2Proof.Machine

/-! ### AES -/

def xorBytes (a b : Bytes) : Bytes := List.zipWith (· ^^^ ·) a b

/-- Multiplication by x in the field of AES. -/
def xtime (b : Byte) : Byte := if b.msb then (b <<< 1) ^^^ 0x1B#8 else b <<< 1

/-- Multiplication in the field of AES, over n bits of the second factor, least significant first. -/
def gmulBits : Nat → Byte → Byte → Byte
  | 0, _, _ => 0#8
  | n + 1, a, b => (if b.getLsbD 0 then a else 0#8) ^^^ gmulBits n (xtime a) (b >>> 1)

def gmul (a b : Byte) : Byte := gmulBits 8 a b

/-- The inverse in the field, as the 254th power; 0 for 0. -/
def ginv (a : Byte) : Byte :=
  let a2 := gmul a a
  let a3 := gmul a2 a
  let a12 := gmul (gmul a3 a3) (gmul a3 a3)
  let a15 := gmul a12 a3
  let a240 := [1, 2, 3, 4].foldl (fun x _ => gmul x x) a15
  gmul (gmul a240 a12) a2

def subByte (a : Byte) : Byte :=
  let b := ginv a
  b ^^^ b.rotateLeft 1 ^^^ b.rotateLeft 2 ^^^ b.rotateLeft 3 ^^^ b.rotateLeft 4 ^^^ 0x63#8

def invSubByte (a : Byte) : Byte := ginv (a.rotateLeft 1 ^^^ a.rotateLeft 3 ^^^ a.rotateLeft 6 ^^^ 0x05#8)

/-- Cut a byte string into words of four bytes. -/
def words4 : Nat → Bytes → List Bytes
  | 0, _ => []
  | n + 1, b => b.take 4 :: words4 n (b.drop 4)

/-- The key schedule: `4 * (rounds + 1)` words. -/
def keySchedule (key : Bytes) : List Bytes :=
  let nk := key.length / 4
  let step := fun (st : List Bytes × Byte) (i : Nat) =>
    let prev := st.1.getLastD []
    let old := st.1.getD (i - nk) []
    if i % nk = 0 then
      let t := (prev.drop 1 ++ prev.take 1).map subByte
      (st.1 ++ [xorBytes old (xorBytes t [st.2, 0#8, 0#8, 0#8])], xtime st.2)
    else if 6 < nk ∧ i % nk = 4 then (st.1 ++ [xorBytes old (prev.map subByte)], st.2)
    else (st.1 ++ [xorBytes old prev], st.2)
  (((List.range (4 * (nk + 7))).drop nk).foldl step (words4 nk key, 1#8)).1

def roundKey (ks : List Bytes) (r : Nat) : Bytes := ((ks.drop (4 * r)).take 4).flatten

/-- Pick bytes of a block by position. -/
def pick16 (st : Bytes) (ix : List Nat) : Bytes := ix.map fun i => st.getD i 0#8

def shiftRows (st : Bytes) : Bytes := pick16 st [0, 5, 10, 15, 4, 9, 14, 3, 8, 13, 2, 7, 12, 1, 6, 11]
def invShiftRows (st : Bytes) : Bytes := pick16 st [0, 13, 10, 7, 4, 1, 14, 11, 8, 5, 2, 15, 12, 9, 6, 3]

/-- One column times the circulant matrix with the given first row. -/
def mixColumn (m : List Byte) (c : Bytes) : Bytes :=
  (List.range 4).map fun r =>
    (List.range 4).foldl (fun x k => x ^^^ gmul (m.getD ((k + 4 - r) % 4) 0#8) (c.getD k 0#8)) 0#8

def mixWith (m : List Byte) (st : Bytes) : Bytes := (words4 4 st).flatMap (mixColumn m)
def mixColumns (st : Bytes) : Bytes := mixWith [2#8, 3#8, 1#8, 1#8] st
def invMixColumns (st : Bytes) : Bytes := mixWith [0x0E#8, 0x0B#8, 0x0D#8, 0x09#8] st

/-- Encrypt one 16-byte block. -/
def aesEncrypt (key block : Bytes) : Bytes :=
  let ks := keySchedule key
  let rounds := key.length / 4 + 6
  let st := xorBytes block (roundKey ks 0)
  let st := ((List.range rounds).drop 1).foldl
    (fun s r => xorBytes (mixColumns (shiftRows (s.map subByte))) (roundKey ks r)) st
  xorBytes (shiftRows (st.map subByte)) (roundKey ks rounds)

/-- Decrypt one 16-byte block. -/
def aesDecrypt (key block : Bytes) : Bytes :=
  let ks := keySchedule key
  let rounds := key.length / 4 + 6
  let st := xorBytes block (roundKey ks rounds)
  let st := ((List.range rounds).drop 1).foldl
    (fun s r => invMixColumns (xorBytes ((invShiftRows s).map invSubByte) (roundKey ks (rounds - r)))) st
  xorBytes ((invShiftRows st).map invSubByte) (roundKey ks 0)

/-- Cut into blocks of 16 bytes; the last may be short. -/
def blocks16 : Nat → Bytes → List Bytes
  | 0, _ => []
  | n + 1, b => b.take 16 :: blocks16 n (b.drop 16)

def blocksOf (b : Bytes) : List Bytes := blocks16 ((b.length + 15) / 16) b

/-! ### CMAC -/

/-- Doubling in the field of CMAC. -/
def cmacDouble (b : Bytes) : Bytes :=
  let v := unBe b
  be 16 (if 2 ^ 127 ≤ v then Nat.xor (2 * v % 2 ^ 128) 0x87 else 2 * v)

/-- The 16-byte CMAC tag. -/
def cmac (key msg : Bytes) : Bytes :=
  let k1 := cmacDouble (aesEncrypt key (List.replicate 16 0#8))
  let n := max 1 ((msg.length + 15) / 16)
  let bs := blocks16 n msg
  let last := bs.getLastD []
  let last := if last.length = 16 then xorBytes last k1
    else xorBytes (padTo 16 0#8 (last ++ [0x80#8])) (cmacDouble k1)
  (bs.dropLast ++ [last]).foldl (fun c b => aesEncrypt key (xorBytes c b)) (List.replicate 16 0#8)

/-! ### CTR -/

/-- A counter block whose low 32 bits have advanced by n. -/
def ctrAt (icb : Bytes) (n : Nat) : Bytes := icb.take 12 ++ be 4 ((unBe (icb.drop 12) + n) % 2 ^ 32)

/-- CTR over a byte string from an initial counter block. -/
def ctrMode (key icb data : Bytes) : Bytes :=
  ((blocksOf data).zipIdx.map fun (e : Bytes × Nat) => xorBytes e.1 (aesEncrypt key (ctrAt icb e.2))).flatten

/-! ### GCM -/

/-- Multiplication in the field of GHASH: bit 0 of the standard is the most significant. -/
def ghMul : Nat → Nat → Nat → Nat → Nat
  | 0, z, _, _ => z
  | n + 1, z, v, x =>
    let z := if bit x n then Nat.xor z v else z
    let v := if v % 2 = 1 then Nat.xor (v / 2) (0xE1 * 2 ^ 120) else v / 2
    ghMul n z v x

def ghash (h : Nat) (bs : List Bytes) : Nat :=
  bs.foldl (fun y b => ghMul 128 0 h (Nat.xor y (unBe (padTo 16 0#8 b)))) 0

/-- Encrypted or decrypted data and the tag over the given ciphertext, for a 96-bit IV. -/
def gcmTag (key iv aad cipher : Bytes) : Bytes :=
  let h := unBe (aesEncrypt key (List.replicate 16 0#8))
  let s := ghash h (blocksOf aad ++ blocksOf cipher ++ [be 8 (8 * aad.length) ++ be 8 (8 * cipher.length)])
  xorBytes (be 16 s) (aesEncrypt key (iv ++ be 4 1))

def gcmCrypt (key iv data : Bytes) : Bytes := ctrMode key (iv ++ be 4 2) data

/-! ### Key wrap -/

def halves8 : Nat → Bytes → List Bytes
  | 0, _ => []
  | n + 1, b => b.take 8 :: halves8 n (b.drop 8)

/-- Wrap key material of n 64-bit halves: n + 1 halves. -/
def keyWrap (kek material : Bytes) : Bytes :=
  let n := material.length / 8
  let init := (List.replicate 8 0xA6#8, halves8 n material)
  let out := (List.range (6 * n)).foldl (fun (st : Bytes × List Bytes) (t : Nat) =>
    let i := t % n
    let b := aesEncrypt kek (st.1 ++ st.2.getD i [])
    (xorBytes (b.take 8) (be 8 (t + 1)), st.2.set i (b.drop 8))) init
  out.1 ++ out.2.flatten

/-- Unwrap; none: the integrity check fails. -/
def keyUnwrap (kek wrapped : Bytes) : Option Bytes :=
  let n := wrapped.length / 8 - 1
  let init := (wrapped.take 8, halves8 n (wrapped.drop 8))
  let out := (List.range (6 * n)).reverse.foldl (fun (st : Bytes × List Bytes) (t : Nat) =>
    let i := t % n
    let b := aesDecrypt kek (xorBytes st.1 (be 8 (t + 1)) ++ st.2.getD i [])
    (b.take 8, st.2.set i (b.drop 8))) init
  if out.1 = List.replicate 8 0xA6#8 then some out.2.flatten else none

/-! ### CRC-32 -/

/-- One byte of the reflected CRC-32 of IEEE 802.3. -/
def crc32Byte (c : Nat) (b : Byte) : Nat :=
  (List.range 8).foldl (fun x _ => if x % 2 = 1 then Nat.xor (x / 2) 0xEDB88320 else x / 2) (Nat.xor c b.toNat)

def crc32 (d : Bytes) : Nat := Nat.xor (d.foldl crc32Byte (2 ^ 32 - 1)) (2 ^ 32 - 1)

end Sys2Proof.Machine
end

