-- ==== Sys2Proof/Machine/Float.lean ====
section
/-! DEFINITION. Binary32 arithmetic of the Crow's Nest (R299, R311): IEEE 754 operations, each rounded to nearest even,
and the conversions to fixed-point fields. -/

namespace Sys2Proof.Machine

/-- What a binary32 word stands for. -/
inductive FVal where
  | nan
  | inf (neg : Bool)
  | fin (q : Rat)
  deriving DecidableEq, Repr

def F32.neg (x : F32) : Bool := bit x.toNat 31

def F32.val (x : F32) : FVal :=
  let e := bits x.toNat 30 23
  let m := bits x.toNat 22 0
  let sgn : Rat := if x.neg then -1 else 1
  if e = 255 then (if m = 0 then .inf x.neg else .nan)
  else if e = 0 then .fin (sgn * m / 2 ^ 149)
  else .fin (sgn * (2 ^ 23 + m : Nat) * 2 ^ e / 2 ^ 150)

/-- A word of sign, exponent and fraction. -/
def F32.word (neg : Bool) (body : Nat) : F32 := BitVec.ofNat 32 (b2n neg * 2 ^ 31 + body)

def F32.infinity (neg : Bool) : F32 := F32.word neg (255 * 2 ^ 23)

/-- An integer quotient rounded to nearest, ties to even. -/
def nearestEven (n d : Nat) : Nat :=
  let q := n / d
  let r := n % d
  if 2 * r < d then q else if d < 2 * r then q + 1 else q + q % 2

/-- The binary32 word nearest to a rational; `neg` is the sign of a zero. -/
def F32.ofRat (neg : Bool) (x : Rat) : F32 :=
  if x = 0 then F32.word neg 0
  else
    let n := x.num.natAbs
    let d := x.den
    -- 2 ^ (l - 1000) is at most |x|, and 2 ^ (l - 999) is above it
    let g := 1000 + Nat.log2 n - Nat.log2 d
    let l := if n * 2 ^ 1000 < d * 2 ^ g then g - 1 else g
    let e := max l 874
    -- the fraction counts units of 2 ^ (e - 1023)
    let m := nearestEven (n * 2 ^ 1023) (d * 2 ^ e)
    let body := (e - 874) * 2 ^ 23 + m
    if 255 * 2 ^ 23 ≤ body then F32.infinity (decide (x < 0)) else F32.word (decide (x < 0)) body

/-- An integer in binary32. -/
def F32.ofInt (k : Int) : F32 := F32.ofRat false k

/-- A NaN: quiet, with a payload the standard leaves open. -/
def F32.nan (x y : F32) : F32 := Config.nanOf x y ||| 0x7FC00000#32

def F32.flip (x : F32) : F32 := x ^^^ 0x80000000#32

def F32.add (x y : F32) : F32 :=
  match x.val, y.val with
  | .nan, _ => F32.nan x y
  | _, .nan => F32.nan x y
  | .inf a, .inf b => if a = b then x else F32.nan x y
  | .inf _, .fin _ => x
  | .fin _, .inf _ => y
  | .fin p, .fin q => F32.ofRat (x.neg && y.neg) (p + q)

def F32.sub (x y : F32) : F32 :=
  match y.val with
  | .nan => F32.nan x y
  | _ => F32.add x y.flip

def F32.mul (x y : F32) : F32 :=
  let s := x.neg != y.neg
  match x.val, y.val with
  | .nan, _ => F32.nan x y
  | _, .nan => F32.nan x y
  | .inf _, .inf _ => F32.infinity s
  | .inf _, .fin q => if q = 0 then F32.nan x y else F32.infinity s
  | .fin p, .inf _ => if p = 0 then F32.nan x y else F32.infinity s
  | .fin p, .fin q => F32.ofRat s (p * q)

def F32.div (x y : F32) : F32 :=
  let s := x.neg != y.neg
  match x.val, y.val with
  | .nan, _ => F32.nan x y
  | _, .nan => F32.nan x y
  | .inf _, .inf _ => F32.nan x y
  | .inf _, .fin _ => F32.infinity s
  | .fin _, .inf _ => F32.word s 0
  | .fin p, .fin q =>
    if q = 0 then (if p = 0 then F32.nan x y else F32.infinity s) else F32.ofRat s (p / q)

/-- x ≤ y; false when either is no number. -/
def F32.le (x y : F32) : Bool :=
  match x.val, y.val with
  | .nan, _ => false
  | _, .nan => false
  | .inf a, .inf b => a || !b
  | .inf a, .fin _ => a
  | .fin _, .inf b => !b
  | .fin p, .fin q => decide (p ≤ q)

/-- x < y; false when either is no number. -/
def F32.lt (x y : F32) : Bool := F32.le x y && !F32.le y x

/-- floor of a value, where it is finite. -/
def F32.floor (x : F32) : Option Int :=
  match x.val with
  | .fin q => some q.floor
  | _ => none

/-- A saturating signed fixed-point field of w bits in units of 1/scale; the rounding and the value for a NaN are
open. -/
def F32.fixed (w scale : Nat) (x : F32) : Int :=
  match x.val with
  | .nan => toSigned w ((Config.noNumber x % (2 ^ w : Int)).toNat)
  | .inf neg => satSigned w (if neg then -(2 ^ w) else 2 ^ w)
  | .fin q => satSigned w (roundFree (q * scale))

/-- A temperature in 1/64 °C, signed 16-bit; a value outside the field is open (R299). -/
def F32.temp (x : F32) : Int :=
  let open_ := toSigned 16 ((Config.noNumber x % (2 ^ 16 : Int)).toNat)
  match x.val with
  | .fin q =>
    let k := roundFree (q * 64)
    if satSigned 16 k = k then k else open_
  | _ => open_

/-- An exact value rounded to the nearest integer; a tie may go either way. -/
def nearest (q : Rat) : Int := if 2 * q - (2 * q).floor = 0 ∧ (2 * q).floor % 2 = 1 then roundFree q else (q + 1 / 2).floor

end Sys2Proof.Machine
end

