-- ==== Sys2Proof/Machine/RegMap.lean ====
section
/-! DEFINITION. The register map: one row for each register (or array of registers) of the block tables, with the bits
that a write stores, that a read returns, that clear on a 1, that act as commands and that the configuration lock
closes (Table 20.2), its write timing class (Table 20.3) and its reset value. -/

namespace Sys2Proof.Machine

/-- The GLB registers. -/
def RegMap.rowsGLB : List RegRow := [
  /- GLB_RESET -/ { base := 0x40, wo := 0xFFFF0001 },
  /- GLB_RESET_CAUSE -/ { base := 0x44, rd := 0xFFFF00FF },
  /- GLB_BOOT_STATUS -/ { base := 0x48, rd := 0xF1F },
  /- GLB_LOCK -/ { base := 0x4C, st := 0x1, rd := 0x3, lck := 0x1, cls := .staged },
  /- GLB_STRAPS -/ { base := 0x50, rd := 0x3 },
  /- GLB_ID -/ { base := 0x0, rd := 0xFFFFFFFF, reset := 0x1B04830 },
  /- GLB_VENDOR -/ { base := 0x4, rd := 0xFFFF, reset := 0x1F3A },
  /- GLB_UID -/ { base := 0x8, wide := true, rd := 0xFFFFFFFFFFFFFFFF },
  /- GLB_FW_VERSION -/ { base := 0x10, rd := 0xFFFFFFFF },
  /- GLB_FW_BUILD -/ { base := 0x14, rd := 0xFFFFFFFF },
  /- GLB_SCRATCH -/ { base := 0x18, st := 0xFFFFFFFF, rd := 0xFFFFFFFF, bl := true, cls := .immediate },
  /- GLB_TEMP -/ { base := 0x1C, rd := 0xFFFF },
  /- GLB_AF_CNT -/ { base := 0x20, wide := true, rd := 0xFFFFFFFFFFFFFFFF, ctr := true },
  /- GLB_AF_NEXT -/ { base := 0x28, rd := 0xF },
  /- GLB_AF_CTRL -/ { base := 0x2C, wo := 0x1 },
  /- GLB_AFi_ADDR -/ { base := 0x100, dims := [(0x10, 8)], rd := 0xFFFFFFF },
  /- GLB_AFi_INFO -/ { base := 0x104, dims := [(0x10, 8)], rd := 0xFFFFFFFF },
  /- GLB_AFi_TIME -/ { base := 0x108, dims := [(0x10, 8)], wide := true, rd := 0xFFFFFFFFFFFFFFFF }]

/-- The BEAT registers. -/
def RegMap.rowsBEAT : List RegRow := [
  /- BEAT_STATUS -/ { base := 0x10000, rd := 0x1FFF077F, reset := 0x1 },
  /- BEAT_LEN_NEXT -/ { base := 0x10004, st := 0x80000007, rd := 0x80000007, cls := .staged, reset := 0x1 },
  /- BEAT_SLOT_NEXT0 -/ { base := 0x10008, st := 0x3FF03FF, rd := 0x3FF03FF, cls := .staged, reset := 0x640064 },
  /- BEAT_SLOT_NEXT1 -/ { base := 0x1000C, st := 0x3FF03FF, rd := 0x3FF03FF, cls := .staged, reset := 0x12C0190 },
  /- BEAT_SLOT_NEXT2 -/ { base := 0x10010, st := 0x800003FF, rd := 0x800003FF, cls := .staged, reset := 0x64 },
  /- BEAT_SLOT_CUR0 -/ { base := 0x10014, rd := 0x3FF03FF, reset := 0x640064 },
  /- BEAT_SLOT_CUR1 -/ { base := 0x10018, rd := 0x3FF03FF, reset := 0x12C0190 },
  /- BEAT_SLOT_CUR2 -/ { base := 0x1001C, rd := 0x3FF, reset := 0x64 },
  /- BEAT_CFG_ERR -/ { base := 0x10020, rd := 0xF, w1c := 0xF },
  /- BEAT_OVERRUN -/ { base := 0x10024, rd := 0x1F, w1c := 0x1F },
  /- BEAT_LAST_OVR -/ { base := 0x10028, rd := 0x1FFF0007 },
  /- BEAT_LAST_OVR_TIME -/ { base := 0x10030, wide := true, rd := 0xFFFFFFFFFFFFFFFF },
  /- BEAT_OVR_CNTn -/ { base := 0x10040, dims := [(0x8, 5)], wide := true, rd := 0xFFFFFFFFFFFFFFFF, ctr := true },
  /- BEAT_PEAKn -/ { base := 0x10070, dims := [(0x4, 5)], rd := 0x7FF, rc := true },
  /- BEAT_COUNT -/ { base := 0x10088, wide := true, rd := 0xFFFFFFFFFFFFFFFF, ctr := true },
  /- BEAT_REALIGN_CNT -/ { base := 0x10090, rd := 0xFFFFFFFF }]

/-- The TIME registers. -/
def RegMap.rowsTIME : List RegRow := [
  /- TIME_STATUS -/ { base := 0x20000, rd := 0x7F3F, reset := 0x7F00 },
  /- TIME_NOW -/ { base := 0x20008, wide := true, rd := 0xFFFFFFFFFFFFFFFF, reset := 0x3B9ACA00 },
  /- TIME_OFFSET -/ { base := 0x20010, rd := 0xFFFFFFFF },
  /- TIME_FREQ -/ { base := 0x20014, rd := 0xFFFFFFFF },
  /- TIME_SLEW_LIMIT -/ { base := 0x20018, st := 0x3FF, rd := 0x3FF, reset := 0x64 },
  /- TIME_JUMP_THR -/ { base := 0x2001C, st := 0x3FFFFFFF, rd := 0x3FFFFFFF, reset := 0x2710 },
  /- TIME_SERVO -/ { base := 0x20020, st := 0x3FF, rd := 0x3FF, reset := 0xA },
  /- TIME_STEP_CTRL -/ { base := 0x20024, wo := 0x80000003 },
  /- TIME_STEP_VALUE -/ { base := 0x20028, wide := true, st := 0xFFFFFFFFFFFFFFFF, rd := 0xFFFFFFFFFFFFFFFF, cls := .immediate },
  /- TIME_STEP_STATUS -/ { base := 0x20030, rd := 0x7 },
  /- TIME_LAST_STEP -/ { base := 0x20038, wide := true, rd := 0xFFFFFFFFFFFFFFFF },
  /- TIME_PTP_CFG -/ { base := 0x20040, st := 0x17F03, rd := 0x17F03 },
  /- TIME_PTP_PRIO -/ { base := 0x20044, st := 0xFFFF, rd := 0xFFFF, reset := 0xFFF8 },
  /- TIME_PTP_DISCARD -/ { base := 0x20048, rd := 0xFFFFFFFF, rc := true },
  /- TIME_PTP_QUAL -/ { base := 0x2004C, st := 0xFFFFFFFF, rd := 0xFFFFFFFF, reset := 0xFFFFFEF8 },
  /- TIME_PORTp -/ { base := 0x20080, dims := [(0x4, 13)], st := 0xFF3FF1F, rd := 0xFF3FF1F, reset := 0x3000000 },
  /- TIME_ASYM_INn -/ { base := 0x20100, dims := [(0x10, 61)], st := 0xFFFFF, rd := 0xFFFFF },
  /- TIME_ASYM_EGn -/ { base := 0x20104, dims := [(0x10, 61)], st := 0xFFFFF, rd := 0xFFFFF },
  /- TIME_ASYM_LINKn -/ { base := 0x20108, dims := [(0x10, 61)], st := 0xFFFFFF, rd := 0xFFFFFF },
  /- TIME_BCN_CFG -/ { base := 0x20500, st := 0xFFFFFFFF, rd := 0xFFFFFFFF, reset := 0xFA0 },
  /- TIME_BCN_ID -/ { base := 0x20504, st := 0x9FFFFFFF, rd := 0x9FFFFFFF },
  /- TIME_BCN_FMT -/ { base := 0x20508, st := 0x3F07, rd := 0x3F07, reset := 0x2 },
  /- TIME_BCN_EN0 -/ { base := 0x2050C, st := 0xFFFFFFFF, rd := 0xFFFFFFFF },
  /- TIME_BCN_EN1 -/ { base := 0x20510, st := 0xFFFF, rd := 0xFFFF },
  /- TIME_BCN_XL -/ { base := 0x20514, st := 0xFFFF, rd := 0xFFFF },
  /- TIME_BCN_AF -/ { base := 0x20518, st := 0xFFFFFFFF, rd := 0xFFFFFFFF },
  /- TIME_CAPu_CFG -/ { base := 0x20600, dims := [(0x10, 16)], st := 0x837F037F, rd := 0x837F037F },
  /- TIME_CAPu_FILT -/ { base := 0x20604, dims := [(0x10, 16)], st := 0xFF, rd := 0xFF },
  /- TIME_CAPu_STAT -/ { base := 0x20608, dims := [(0x10, 16)], rd := 0xFFFF0F01 },
  /- TIME_CAPu_LOST -/ { base := 0x2060C, dims := [(0x10, 16)], rd := 0xFFFFFFFF },
  /- TIME_CAP_RING -/ { base := 0x20700, st := 0x8000003F, rd := 0x8000003F },
  /- TIME_CANDUR_EN0 -/ { base := 0x20704, st := 0xFFFFFFFF, rd := 0xFFFFFFFF },
  /- TIME_CANDUR_EN1 -/ { base := 0x20708, st := 0xFFFF, rd := 0xFFFF },
  /- TIME_CFG_ERR -/ { base := 0x20710, rd := 0xFF, w1c := 0xFF },
  /- TIME_JUMP_CNT -/ { base := 0x20718, wide := true, rd := 0xFFFFFFFFFFFFFFFF, ctr := true },
  /- TIME_LAST_JUMP -/ { base := 0x20720, wide := true, rd := 0xFFFFFFFFFFFFFFFF }]

/-- The HIF registers. -/
def RegMap.rowsHIF : List RegRow := [
  /- HIF_CTRL -/ { base := 0x30000, st := 0x1, rd := 0x1 },
  /- HIF_STATUS -/ { base := 0x30004, rd := 0x7 },
  /- HIF_DB_BASE_LO -/ { base := 0x30008, st := 0xFFFFF000, rd := 0xFFFFF000 },
  /- HIF_DB_BASE_HI -/ { base := 0x3000C, st := 0xFFFFFFFF, rd := 0xFFFFFFFF },
  /- HIF_CIP_BASE_LO -/ { base := 0x30010, st := 0xFFFFF000, rd := 0xFFFFF000 },
  /- HIF_CIP_BASE_HI -/ { base := 0x30014, st := 0xFFFFFFFF, rd := 0xFFFFFFFF },
  /- HIF_ERR_VEC -/ { base := 0x30018, st := 0xFF, rd := 0xFF, reset := 0xFF },
  /- HIF_CFG_ERR -/ { base := 0x30020, rd := 0x1F, w1c := 0x1F },
  /- HIF_TXFAULT0 -/ { base := 0x30024, rd := 0xFFFFFFFF, w1c := 0xFFFFFFFF },
  /- HIF_TXFAULT1 -/ { base := 0x30028, rd := 0xFFFFFFFF, w1c := 0xFFFFFFFF },
  /- HIF_RXFAULT0 -/ { base := 0x3002C, rd := 0xFFFFFFFF, w1c := 0xFFFFFFFF },
  /- HIF_RXFAULT1 -/ { base := 0x30030, rd := 0xFFFFFFFF, w1c := 0xFFFFFFFF },
  /- HIF_DB_FETCH_CNT -/ { base := 0x30038, wide := true, rd := 0xFFFFFFFFFFFFFFFF, ctr := true },
  /- HIF_DB_ERR_CNT -/ { base := 0x30040, rd := 0xFFFFFFFF },
  /- HIF_TXn_BASE_LO -/ { base := 0x31000, dims := [(0x20, 64)], st := 0xFFFFF000, rd := 0xFFFFF000 },
  /- HIF_TXn_BASE_HI -/ { base := 0x31004, dims := [(0x20, 64)], st := 0xFFFFFFFF, rd := 0xFFFFFFFF },
  /- HIF_TXn_CBASE_LO -/ { base := 0x31008, dims := [(0x20, 64)], st := 0xFFFFF000, rd := 0xFFFFF000 },
  /- HIF_TXn_CBASE_HI -/ { base := 0x3100C, dims := [(0x20, 64)], st := 0xFFFFFFFF, rd := 0xFFFFFFFF },
  /- HIF_TXn_CFG -/ { base := 0x31010, dims := [(0x20, 64)], st := 0xFF1F01, rd := 0xFF1F01, reset := 0x200800 },
  /- HIF_TXn_IRQ -/ { base := 0x31014, dims := [(0x20, 64)], st := 0xFFFFFFFF, rd := 0xFFFFFFFF, reset := 0x100 },
  /- HIF_TXn_STAT -/ { base := 0x31018, dims := [(0x20, 64)], rd := 0xFFFF00F3 },
  /- HIF_RXn_BASE_LO -/ { base := 0x32000, dims := [(0x20, 64)], st := 0xFFFFF000, rd := 0xFFFFF000 },
  /- HIF_RXn_BASE_HI -/ { base := 0x32004, dims := [(0x20, 64)], st := 0xFFFFFFFF, rd := 0xFFFFFFFF },
  /- HIF_RXn_CFG -/ { base := 0x32008, dims := [(0x20, 64)], st := 0xFFFF1F07, rd := 0xFFFF1F07, reset := 0x1000A00 },
  /- HIF_RXn_IRQ -/ { base := 0x3200C, dims := [(0x20, 64)], st := 0xFFFFFFFF, rd := 0xFFFFFFFF, reset := 0x140 },
  /- HIF_RXn_STAT -/ { base := 0x32010, dims := [(0x20, 64)], rd := 0xFFFF00F3 },
  /- HIF_RXn_DROP -/ { base := 0x32018, dims := [(0x20, 64)], wide := true, rd := 0xFFFFFFFFFFFFFFFF, ctr := true },
  /- MSIX_ENTRY -/ { base := 0x38000, dims := [(0x10, 256), (0x4, 3)], st := 0xFFFFFFFF, rd := 0xFFFFFFFF, cls := .immediate },
  /- MSIX_ENTRY, Vector Control -/ { base := 0x3800C, dims := [(0x10, 256)], st := 0x1, rd := 0x1, cls := .immediate },
  /- MSIX_PBA -/ { base := 0x39000, dims := [(0x4, 8)], rd := 0xFFFFFFFF }]

/-- The FAB registers. -/
def RegMap.rowsFAB : List RegRow := [
  /- FAB_CTRL -/ { base := 0x40000, st := 0x3F01, rd := 0x3F01 },
  /- FAB_STATUS -/ { base := 0x40004, rd := 0x3 },
  /- FAB_COMMIT -/ { base := 0x40008, wo := 0x1 },
  /- FAB_COMMIT_RES -/ { base := 0x4000C, rd := 0x3FFF00F3 },
  /- FAB_ROUTE_EPOCH -/ { base := 0x40010, rd := 0xFFFFFFFF },
  /- FAB_FREE -/ { base := 0x40014, rd := 0x1FFFF, reset := 0x10000 },
  /- FAB_HOSTBUF -/ { base := 0x40018, st := 0x1FFFF, rd := 0x1FFFF, reset := 0x2000 },
  /- FAB_TUN_ETYPE -/ { base := 0x4001C, st := 0xFFFF, rd := 0xFFFF, reset := 0x88B5 },
  /- FAB_UNIT_TAG -/ { base := 0x40020, st := 0xFFFF, rd := 0xFFFF },
  /- FAB_CFG_ERR -/ { base := 0x40024, rd := 0xF, w1c := 0xF },
  /- FAB_QRESET_CNT -/ { base := 0x40028, wide := true, rd := 0xFFFFFFFFFFFFFFFF, ctr := true },
  /- FAB_HOSTBUF_WAIT -/ { base := 0x40030, wide := true, rd := 0xFFFFFFFFFFFFFFFF, ctr := true },
  /- FAB_CLASSc -/ { base := 0x40040, dims := [(0x4, 8)], st := 0x1, rd := 0x1 },
  /- FAB_LAST_DISCARDk -/ { base := 0x40060, dims := [(0x4, 4)], rd := 0xFFFFFFFF },
  /- FAB_QCFGp_c -/ { base := 0x41000, dims := [(0x20, 80), (0x4, 8)], st := 0xFFFFFFFF, rd := 0xFFFFFFFF, reset := 0x400400 },
  /- FAB_QSTATp -/ { base := 0x42000, dims := [(0x4, 80)], rd := 0xFFFFFFFF },
  /- FAB_PCNTp_k -/ { base := 0x43000, dims := [(0x80, 80), (0x8, 12)], wide := true, rd := 0xFFFFFFFFFFFFFFFF, ctr := true },
  /- FAB_LIMi_DROP -/ { base := 0x46000, dims := [(0x8, 1024)], wide := true, rd := 0xFFFFFFFFFFFFFFFF, ctr := true },
  /- FAB_LIMi_TOK -/ { base := 0x48000, dims := [(0x4, 1024)], rd := 0xFFFFFFFF },
  /- FAB_HITj -/ { base := 0x50000, dims := [(0x8, 4096)], wide := true, rd := 0xFFFFFFFFFFFFFFFF, ctr := true },
  /- FAB_RA_STATj -/ { base := 0x4A000, dims := [(0x4, 4096)], rd := 0xFFFF007F },
  /- FAB_RA_REARM -/ { base := 0x4E000, wo := 0x80000FFF },
  /- FAB_RA_START_CNT -/ { base := 0x4E008, wide := true, rd := 0xFFFFFFFFFFFFFFFF, ctr := true },
  /- FAB_RA_ABORT_CNT -/ { base := 0x4E010, wide := true, rd := 0xFFFFFFFFFFFFFFFF, ctr := true },
  /- FAB_RA_RETRACT_CNT -/ { base := 0x4E018, wide := true, rd := 0xFFFFFFFFFFFFFFFF, ctr := true },
  /- FAB_RA_FALLBACK_CNT -/ { base := 0x4E020, wide := true, rd := 0xFFFFFFFFFFFFFFFF, ctr := true },
  /- FAB_RA_LAST -/ { base := 0x4E028, rd := 0x7F070FFF }]

/-- The RT registers. -/
def RegMap.rowsRT : List RegRow := [
  /- RT_SHADOW_ROUTE -/ { base := 0x80000, dims := [(0x20, 4096), (0x4, 8)], st := 0xFFFFFFFF, rd := 0xFFFFFFFF, cls := .staged },
  /- RT_SHADOW_LIM -/ { base := 0xA0000, dims := [(0x8, 1024), (0x4, 2)], st := 0xFFFFFFFF, rd := 0xFFFFFFFF, cls := .staged },
  /- RT_SHADOW_AUTH -/ { base := 0xA2000, dims := [(0x10, 64), (0x4, 4)], st := 0xFFFFFFFF, rd := 0xFFFFFFFF, cls := .staged },
  /- RT_SHADOW_TUN -/ { base := 0xA2400, dims := [(0x20, 16), (0x4, 8)], st := 0xFFFFFFFF, rd := 0xFFFFFFFF, cls := .staged },
  /- RT_LIVE_ROUTE -/ { base := 0xC0000, dims := [(0x20, 4096), (0x4, 8)], rd := 0xFFFFFFFF },
  /- RT_LIVE_LIM -/ { base := 0xE0000, dims := [(0x8, 1024), (0x4, 2)], rd := 0xFFFFFFFF },
  /- RT_LIVE_AUTH -/ { base := 0xE2000, dims := [(0x10, 64), (0x4, 4)], rd := 0xFFFFFFFF },
  /- RT_LIVE_TUN -/ { base := 0xE2400, dims := [(0x20, 16), (0x4, 8)], rd := 0xFFFFFFFF }]

/-- The CANP registers. -/
def RegMap.rowsCANP : List RegRow := [
  /- CANP_MODE -/ { base := 0x100000, dims := [(0x1000, 48)], st := 0xFF3F, rd := 0xFF3F, reset := 0xCC02 },
  /- CANP_NBT -/ { base := 0x100004, dims := [(0x1000, 48)], st := 0x7F7FFF1F, rd := 0x7F7FFF1F, cls := .staged, reset := 0x3F3FFE00 },
  /- CANP_DBT -/ { base := 0x100008, dims := [(0x1000, 48)], st := 0x7F7FFF1F, rd := 0x7F7FFF1F, cls := .staged, reset := 0x13133A00 },
  /- CANP_XBT -/ { base := 0x10000C, dims := [(0x1000, 48)], st := 0x7F7FFF1F, rd := 0x7F7FFF1F, cls := .staged, reset := 0x3030A00 },
  /- CANP_TDC -/ { base := 0x100010, dims := [(0x1000, 48)], st := 0x7F7F03, rd := 0x7F7F03, cls := .staged, reset := 0xC3C03 },
  /- CANP_TIMING_GO -/ { base := 0x100014, dims := [(0x1000, 48)], wo := 0x80000000 },
  /- CANP_STATUS -/ { base := 0x100018, dims := [(0x1000, 48)], rd := 0xFF7F3F },
  /- CANP_ECNT -/ { base := 0x10001C, dims := [(0x1000, 48)], rd := 0xFF01FF },
  /- CANP_LAST_ERR -/ { base := 0x100020, dims := [(0x1000, 48)], rd := 0x1F, rc := true },
  /- CANP_CFG_ERR -/ { base := 0x100024, dims := [(0x1000, 48)], rd := 0x3F, w1c := 0x3F },
  /- CANP_ACC_CFG -/ { base := 0x100028, dims := [(0x1000, 48)], st := 0x1, rd := 0x1 },
  /- CANP_CNTk -/ { base := 0x100040, dims := [(0x1000, 48), (0x8, 9)], wide := true, rd := 0xFFFFFFFFFFFFFFFF, ctr := true },
  /- CANP_ACCe_KEY -/ { base := 0x100800, dims := [(0x1000, 48), (0x10, 128)], st := 0xFFFFFFFF, rd := 0xFFFFFFFF },
  /- CANP_ACCe_MASK -/ { base := 0x100804, dims := [(0x1000, 48), (0x10, 128)], st := 0xFFFFFFFF, rd := 0xFFFFFFFF },
  /- CANP_ACCe_CTRL -/ { base := 0x100808, dims := [(0x1000, 48), (0x10, 128)], st := 0x3, rd := 0x3 }]

/-- The REEF registers. -/
def RegMap.rowsREEF : List RegRow := [
  /- REEF_COMMIT -/ { base := 0x140000, wo := 0x80000000, cls := .staged },
  /- REEF_STATUS -/ { base := 0x140004, rd := 0x1, cls := .staged },
  /- REEF_MUS_RING -/ { base := 0x140008, st := 0x8000003F, rd := 0x8000003F, cls := .staged },
  /- REEF_CFG_ERR -/ { base := 0x14000C, rd := 0xF, w1c := 0xF, cls := .staged },
  /- REEF_SLEEP_MAP0 -/ { base := 0x140010, rd := 0xFFFFFFFF, cls := .staged },
  /- REEF_SLEEP_MAP1 -/ { base := 0x140014, rd := 0xFFFF, cls := .staged },
  /- REEF_PORTn_CFG -/ { base := 0x141000, dims := [(0x40, 48)], st := 0xFFFF1F3F, rd := 0xFFFF1F3F, cls := .staged, reset := 0x3E80422 },
  /- REEF_PORTn_IDLE -/ { base := 0x141004, dims := [(0x40, 48)], st := 0xFFFFFFFF, rd := 0xFFFFFFFF, cls := .staged, reset := 0x1407D0 },
  /- REEF_PORTn_INSOM -/ { base := 0x141008, dims := [(0x40, 48)], st := 0xFFFF, rd := 0xFFFF, cls := .staged, reset := 0x12C },
  /- REEF_PORTn_TXWAKE -/ { base := 0x14100C, dims := [(0x40, 48)], st := 0xFFFFFF03, rd := 0xFFFFFF03, cls := .staged, reset := 0x640A00 },
  /- REEF_PORTn_TXWF_ID -/ { base := 0x141010, dims := [(0x40, 48)], st := 0x9FFFFFFF, rd := 0x9FFFFFFF, cls := .staged },
  /- REEF_PORTn_TXWF_DLC -/ { base := 0x141014, dims := [(0x40, 48)], st := 0xF, rd := 0xF, cls := .staged },
  /- REEF_PORTn_TXWF_D0 -/ { base := 0x141018, dims := [(0x40, 48)], st := 0xFFFFFFFF, rd := 0xFFFFFFFF, cls := .staged },
  /- REEF_PORTn_TXWF_D1 -/ { base := 0x14101C, dims := [(0x40, 48)], st := 0xFFFFFFFF, rd := 0xFFFFFFFF, cls := .staged },
  /- REEF_PORTn_CTRL -/ { base := 0x141020, dims := [(0x40, 48)], wo := 0x1, cls := .staged },
  /- REEF_PORTn_STAT -/ { base := 0x141024, dims := [(0x40, 48)], rd := 0xF73, cls := .staged },
  /- REEF_PORTn_AWAKE -/ { base := 0x141028, dims := [(0x40, 48)], rd := 0xFFFFFFFF, cls := .staged },
  /- REEF_WKn_w_KEY -/ { base := 0x142000, dims := [(0x80, 48), (0x20, 4)], st := 0xFFFFFFFF, rd := 0xFFFFFFFF, cls := .staged },
  /- REEF_WKn_w_MASK -/ { base := 0x142004, dims := [(0x80, 48), (0x20, 4)], st := 0xFFFFFFFF, rd := 0xFFFFFFFF, cls := .staged },
  /- REEF_WKn_w_CTRL -/ { base := 0x142008, dims := [(0x80, 48), (0x20, 4)], st := 0xF03, rd := 0xF03, cls := .staged },
  /- REEF_KPn_i_KEY -/ { base := 0x144000, dims := [(0x40, 48), (0x10, 4)], rd := 0xFFFFFFFF, cls := .staged },
  /- REEF_KPn_i_INFO -/ { base := 0x144004, dims := [(0x40, 48), (0x10, 4)], rd := 0x8001FFFF, cls := .staged },
  /- REEF_KPn_i_TIME -/ { base := 0x144008, dims := [(0x40, 48), (0x10, 4)], wide := true, rd := 0xFFFFFFFFFFFFFFFF, cls := .staged },
  /- REEF_CNTn_k -/ { base := 0x145000, dims := [(0x40, 48), (0x8, 8)], wide := true, rd := 0xFFFFFFFFFFFFFFFF, ctr := true, cls := .staged },
  /- REEF_MUSm_CTRL -/ { base := 0x148000, dims := [(0x20, 1024)], st := 0xFF3F01, rd := 0xFF3F01, cls := .staged },
  /- REEF_MUSm_KEY -/ { base := 0x148004, dims := [(0x20, 1024)], st := 0xFFFFFFFF, rd := 0xFFFFFFFF, cls := .staged },
  /- REEF_MUSm_MASK -/ { base := 0x148008, dims := [(0x20, 1024)], st := 0xFFFFFFFF, rd := 0xFFFFFFFF, cls := .staged },
  /- REEF_MUSm_PERIOD -/ { base := 0x14800C, dims := [(0x20, 1024)], st := 0xFFFFFF, rd := 0xFFFFFF, cls := .staged, reset := 0x1 },
  /- REEF_MUSm_PHASE -/ { base := 0x148010, dims := [(0x20, 1024)], st := 0xFFFFFF, rd := 0xFFFFFF, cls := .staged },
  /- REEF_MUSm_WIN -/ { base := 0x148014, dims := [(0x20, 1024)], st := 0xFFFFFFFF, rd := 0xFFFFFFFF, cls := .staged, reset := 0x1 },
  /- REEF_MUSm_GUARD -/ { base := 0x148018, dims := [(0x20, 1024)], st := 0xFFFFFFFF, rd := 0xFFFFFFFF, cls := .staged, reset := 0x1 },
  /- REEF_MUSm_STAT -/ { base := 0x14801C, dims := [(0x20, 1024)], rd := 0xFFFF037F, cls := .staged },
  /- REEF_WKn_w_DATA0 -/ { base := 0x142010, dims := [(0x80, 48), (0x20, 4)], st := 0xFFFFFFFF, rd := 0xFFFFFFFF, cls := .staged },
  /- REEF_WKn_w_DATA1 -/ { base := 0x142014, dims := [(0x80, 48), (0x20, 4)], st := 0xFFFFFFFF, rd := 0xFFFFFFFF, cls := .staged },
  /- REEF_WKn_w_DMASK0 -/ { base := 0x142018, dims := [(0x80, 48), (0x20, 4)], st := 0xFFFFFFFF, rd := 0xFFFFFFFF, cls := .staged },
  /- REEF_WKn_w_DMASK1 -/ { base := 0x14201C, dims := [(0x80, 48), (0x20, 4)], st := 0xFFFFFFFF, rd := 0xFFFFFFFF, cls := .staged }]

/-- The ETH registers. -/
def RegMap.rowsETH : List RegRow := [
  /- ETH_Pq_MODE -/ { base := 0x150000, dims := [(0x400, 5)], st := 0xFFF, rd := 0xFFF },
  /- ETH_Pq_MAC_LO -/ { base := 0x150004, dims := [(0x400, 5)], st := 0xFFFFFFFF, rd := 0xFFFFFFFF },
  /- ETH_Pq_MAC_HI -/ { base := 0x150008, dims := [(0x400, 5)], st := 0xFFFF, rd := 0xFFFF },
  /- ETH_Pq_STATUS -/ { base := 0x15000C, dims := [(0x400, 5)], rd := 0x3F7 },
  /- ETH_Pq_CNTk -/ { base := 0x150040, dims := [(0x400, 5), (0x8, 11)], wide := true, rd := 0xFFFFFFFFFFFFFFFF, ctr := true },
  /- ETH_MDIO_CMD -/ { base := 0x152000, st := 0x1FFF, rd := 0x40001FFF, wo := 0x80000000, cls := .immediate },
  /- ETH_MDIO_DATA -/ { base := 0x152004, st := 0xFFFF, rd := 0xFFFF, cls := .immediate },
  /- ETH_SMB_CFG -/ { base := 0x153000, st := 0x37F, rd := 0x37F, reset := 0x68 },
  /- ETH_SMB_PEC_ERR -/ { base := 0x153008, rd := 0xFFFFFFFF, ctr := true },
  /- ETH_SMB_NAK -/ { base := 0x15300C, rd := 0xFFFFFFFF, ctr := true },
  /- ETH_CFG_ERR -/ { base := 0x153010, rd := 0x1F, w1c := 0x1F }]

/-- The T1S registers. -/
def RegMap.rowsT1S : List RegRow := [
  /- T1S_Ss_CFG -/ { base := 0x160000, dims := [(0x100, 8)], st := 0xFFFFFF03, rd := 0xFFFFFF03, reset := 0x2008FF02 },
  /- T1S_Ss_BURST -/ { base := 0x160004, dims := [(0x100, 8)], st := 0xFFFF, rd := 0xFFFF, reset := 0x8000 },
  /- T1S_Ss_MAC_LO -/ { base := 0x160008, dims := [(0x100, 8)], st := 0xFFFFFFFF, rd := 0xFFFFFFFF },
  /- T1S_Ss_MAC_HI -/ { base := 0x16000C, dims := [(0x100, 8)], st := 0xFFFF, rd := 0xFFFF },
  /- T1S_Ss_STATUS -/ { base := 0x160010, dims := [(0x100, 8)], rd := 0x3F },
  /- T1S_Ss_CNTk -/ { base := 0x160040, dims := [(0x100, 8), (0x8, 10)], wide := true, rd := 0xFFFFFFFFFFFFFFFF, ctr := true },
  /- T1S_CFG_ERR -/ { base := 0x161000, rd := 0x3, w1c := 0x3 }]

/-- The SER registers. -/
def RegMap.rowsSER : List RegRow := [
  /- SER_Cc_CFG -/ { base := 0x170000, dims := [(0x100, 16)], st := 0xFF, rd := 0xFF },
  /- SER_Cc_DIV -/ { base := 0x170004, dims := [(0x100, 16)], st := 0xFFFFFF, rd := 0xFFFFFF, reset := 0x801B2 },
  /- SER_Cc_FRAME -/ { base := 0x170008, dims := [(0x100, 16)], st := 0xFFFFF1F, rd := 0xFFFFF1F, reset := 0x8000D02 },
  /- SER_Cc_DE -/ { base := 0x17000C, dims := [(0x100, 16)], st := 0xFFFFFF, rd := 0xFFFFFF, reset := 0x1010 },
  /- SER_Cc_STATUS -/ { base := 0x170010, dims := [(0x100, 16)], rd := 0x3F },
  /- SER_Cc_CNTk -/ { base := 0x170040, dims := [(0x100, 16), (0x8, 12)], wide := true, rd := 0xFFFFFFFFFFFFFFFF, ctr := true },
  /- SER_CFG_ERR -/ { base := 0x171000, rd := 0x7, w1c := 0x7 }]

/-- The CIPH registers. -/
def RegMap.rowsCIPH : List RegRow := [
  /- CIPH_LOCK -/ { base := 0x180000, rd := 0x7F07 },
  /- CIPH_STATUS -/ { base := 0x180004, rd := 0x3, reset := 0x2 },
  /- CIPH_ALARM -/ { base := 0x180008, rd := 0x1F, w1c := 0x1F },
  /- CIPH_TAMPER_CFG -/ { base := 0x18000C, st := 0xFF03, rd := 0xFF03, lck := 0xFF03, reset := 0xA00 },
  /- CIPH_PARITY_CNT -/ { base := 0x180010, wide := true, rd := 0xFFFFFFFFFFFFFFFF, ctr := true },
  /- CIPH_FV_ADV -/ { base := 0x180018, st := 0xFFF, rd := 0xFFF, reset := 0x100 },
  /- CIPH_CFG_ERR -/ { base := 0x18001C, rd := 0x1F, w1c := 0x1F },
  /- CIPH_CLR_KEYk -/ { base := 0x180020, dims := [(0x4, 8)], st := 0xFFFFFFFF, wo := 0xFFFFFFFF, lck := 0xFFFFFFFF, cls := .immediate },
  /- CIPH_CLR_CTRL -/ { base := 0x180040, st := 0x3F033F, wo := 0x803F033F, lck := 0x803F033F, cls := .immediate },
  /- CIPH_CLR_LIMIT -/ { base := 0x180044, st := 0xFFFFFFFF, wo := 0xFFFFFFFF, lck := 0xFFFFFFFF, cls := .immediate },
  /- CIPH_FV_SEL -/ { base := 0x180048, st := 0x3FFFF, rd := 0x3FFFF, wo := 0x80000000, cls := .immediate },
  /- CIPH_FV_DATA -/ { base := 0x180050, wide := true, st := 0xFFFFFFFFFFFFFFFF, rd := 0xFFFFFFFFFFFFFFFF, cls := .immediate },
  /- CIPH_FV_STAT -/ { base := 0x180058, rd := 0x1 },
  /- CIPH_KSn_STAT -/ { base := 0x180100, dims := [(0x20, 64)], rd := 0xF3F0F },
  /- CIPH_KSn_LIMIT -/ { base := 0x180104, dims := [(0x20, 64)], rd := 0xFFFFFFFF },
  /- CIPH_KSn_USED -/ { base := 0x180108, dims := [(0x20, 64)], wide := true, rd := 0xFFFFFFFFFFFFFFFF },
  /- CIPH_KSn_WARN -/ { base := 0x180110, dims := [(0x20, 64)], st := 0xFFFFFFFF, rd := 0xFFFFFFFF },
  /- CIPH_KSn_CTRL -/ { base := 0x180114, dims := [(0x20, 64)], wo := 0x1 },
  /- CIPH_AFA_CNTk -/ { base := 0x180900, dims := [(0x8, 11)], wide := true, rd := 0xFFFFFFFFFFFFFFFF, ctr := true },
  /- CIPH_AFA_LAST -/ { base := 0x180960, rd := 0x7FFFF },
  /- CIPH_AFA_LAST_TIME -/ { base := 0x180968, wide := true, rd := 0xFFFFFFFFFFFFFFFF }]

/-- The LSEC registers. -/
def RegMap.rowsLSEC : List RegRow := [
  /- LSEC_Ll_CTRL -/ { base := 0x190000, dims := [(0x1000, 4)], st := 0x3FFF, rd := 0x3FFF, reset := 0xE90 },
  /- LSEC_Ll_REPLAY_WIN -/ { base := 0x190004, dims := [(0x1000, 4)], st := 0xFFFFFFFF, rd := 0xFFFFFFFF },
  /- LSEC_Ll_SCI -/ { base := 0x190008, dims := [(0x1000, 4)], wide := true, st := 0xFFFFFFFFFFFFFFFF, rd := 0xFFFFFFFFFFFFFFFF },
  /- LSEC_Ll_PN_THR -/ { base := 0x190010, dims := [(0x1000, 4)], wide := true, st := 0xFFFFFFFFFFFFFFFF, rd := 0xFFFFFFFFFFFFFFFF, reset := 0xC0000000 },
  /- LSEC_Ll_CNTk -/ { base := 0x194000, dims := [(0x100, 4), (0x8, 9)], wide := true, rd := 0xFFFFFFFFFFFFFFFF, ctr := true },
  /- LSEC_CFG_ERR -/ { base := 0x195000, rd := 0x7, w1c := 0x7 },
  /- LSEC_TXSA_KEY -/ { base := 0x190100, dims := [(0x1000, 4), (0x80, 4), (0x4, 8)], st := 0xFFFFFFFF, wo := 0xFFFFFFFF, cls := .immediate },
  /- LSEC_TXSA_SALT -/ { base := 0x190120, dims := [(0x1000, 4), (0x80, 4), (0x4, 3)], st := 0xFFFFFFFF, wo := 0xFFFFFFFF, cls := .immediate },
  /- LSEC_TXSA_SSCI -/ { base := 0x19012C, dims := [(0x1000, 4), (0x80, 4)], st := 0xFFFFFFFF, rd := 0xFFFFFFFF },
  /- LSEC_TXSA_PN -/ { base := 0x190130, dims := [(0x1000, 4), (0x80, 4)], wide := true, st := 0xFFFFFFFFFFFFFFFF, rd := 0xFFFFFFFFFFFFFFFF, reset := 0x1 },
  /- LSEC_TXSA_CTRL -/ { base := 0x190138, dims := [(0x1000, 4), (0x80, 4)], st := 0x1, rd := 0x3 },
  /- LSEC_RXSA_KEY -/ { base := 0x190440, dims := [(0x1000, 4), (0x180, 8), (0x40, 4), (0x4, 8)], st := 0xFFFFFFFF, wo := 0xFFFFFFFF, cls := .immediate },
  /- LSEC_RXSA_SALT -/ { base := 0x190460, dims := [(0x1000, 4), (0x180, 8), (0x40, 4), (0x4, 3)], st := 0xFFFFFFFF, wo := 0xFFFFFFFF, cls := .immediate },
  /- LSEC_RXSA_SSCI -/ { base := 0x19046C, dims := [(0x1000, 4), (0x180, 8), (0x40, 4)], st := 0xFFFFFFFF, rd := 0xFFFFFFFF },
  /- LSEC_RXSA_PN -/ { base := 0x190470, dims := [(0x1000, 4), (0x180, 8), (0x40, 4)], wide := true, st := 0xFFFFFFFFFFFFFFFF, rd := 0xFFFFFFFFFFFFFFFF, reset := 0x1 },
  /- LSEC_RXSA_CTRL -/ { base := 0x190478, dims := [(0x1000, 4), (0x180, 8), (0x40, 4)], st := 0x1, rd := 0x1 },
  /- LSEC_RXSC_SCI -/ { base := 0x190400, dims := [(0x1000, 4), (0x180, 8)], wide := true, st := 0xFFFFFFFFFFFFFFFF, rd := 0xFFFFFFFFFFFFFFFF },
  /- LSEC_RXSC_CTRL -/ { base := 0x190408, dims := [(0x1000, 4), (0x180, 8)], st := 0x1, rd := 0x1 }]

/-- The NEST registers. -/
def RegMap.rowsNEST : List RegRow := [
  /- NEST_CTRL -/ { base := 0x1A0000, st := 0xF, rd := 0xF, cls := .staged, reset := 0x4 },
  /- NEST_COMMIT -/ { base := 0x1A0004, wo := 0x80000000, cls := .staged },
  /- NEST_STATUS -/ { base := 0x1A0008, rd := 0x7F0177, cls := .staged },
  /- NEST_CFG_ERR -/ { base := 0x1A000C, rd := 0x7, w1c := 0x7, cls := .staged },
  /- NEST_TRAYID -/ { base := 0x1A0010, st := 0x1FFF31, rd := 0x1FFF31, cls := .staged, reset := 0x100020 },
  /- NEST_GRID -/ { base := 0x1A0014, st := 0x1F1F, rd := 0x1F1F, cls := .staged, reset := 0xF0F },
  /- NEST_TRAY_EXIT_X -/ { base := 0x1A0028, st := 0xFFFFFFFF, rd := 0xFFFFFFFF, cls := .staged, reset := 0x44800000 },
  /- NEST_TRK_CFG -/ { base := 0x1A0030, st := 0xFF, rd := 0xFF, cls := .staged, reset := 0x53 },
  /- NEST_GATE -/ { base := 0x1A0034, st := 0xFFFFFFFF, rd := 0xFFFFFFFF, cls := .staged, reset := 0x41135C29 },
  /- NEST_SETs_CFG -/ { base := 0x1A0060, dims := [(0x20, 2)], st := 0x1, rd := 0x1, cls := .staged },
  /- NEST_SETs_CNTk -/ { base := 0x1A00A0, dims := [(0x30, 2), (0x8, 6)], wide := true, rd := 0xFFFFFFFFFFFFFFFF, ctr := true, cls := .staged },
  /- NEST_IMGi_CFG -/ { base := 0x1A0100, dims := [(0x100, 2)], st := 0xFF01F7, rd := 0xFF01F7, cls := .staged },
  /- NEST_IMGi_SIZE -/ { base := 0x1A0104, dims := [(0x100, 2)], st := 0x7FF07FF, rd := 0x7FF07FF, cls := .staged, reset := 0x2000280 },
  /- NEST_IMGi_GAIN -/ { base := 0x1A0108, dims := [(0x100, 2)], st := 0xFFFFFFFF, rd := 0xFFFFFFFF, cls := .staged, reset := 0x3C800000 },
  /- NEST_IMGi_OFFSET -/ { base := 0x1A010C, dims := [(0x100, 2)], st := 0xFFFFFFFF, rd := 0xFFFFFFFF, cls := .staged, reset := 0xC2200000 },
  /- NEST_IMGi_LAT -/ { base := 0x1A0110, dims := [(0x100, 2)], st := 0xFFFF, rd := 0xFFFF, cls := .staged },
  /- NEST_IMGi_ROI0 -/ { base := 0x1A0114, dims := [(0x100, 2)], st := 0x7FF07FF, rd := 0x7FF07FF, cls := .staged },
  /- NEST_IMGi_ROI1 -/ { base := 0x1A0118, dims := [(0x100, 2)], st := 0x7FF07FF, rd := 0x7FF07FF, cls := .staged, reset := 0x3FF04FF },
  /- NEST_IMGi_DET -/ { base := 0x1A011C, dims := [(0x100, 2)], st := 0xFFFF, rd := 0xFFFF, cls := .staged, reset := 0x700 },
  /- NEST_IMGi_AREA -/ { base := 0x1A0120, dims := [(0x100, 2)], st := 0xFFFFFFFF, rd := 0xFFFFFFFF, cls := .staged, reset := 0x10000004 },
  /- NEST_IMGi_EGO0 -/ { base := 0x1A0124, dims := [(0x100, 2)], st := 0x7FF07FF, rd := 0x7FF07FF, cls := .staged },
  /- NEST_IMGi_EGO1 -/ { base := 0x1A0128, dims := [(0x100, 2)], st := 0x8000FF77, rd := 0x8000FF77, cls := .staged, reset := 0x4067 },
  /- NEST_IMGi_FRAMES -/ { base := 0x1A0180, dims := [(0x100, 2)], wide := true, rd := 0xFFFFFFFFFFFFFFFF, ctr := true, cls := .staged },
  /- NEST_IMGi_DISCARD -/ { base := 0x1A0188, dims := [(0x100, 2)], wide := true, rd := 0xFFFFFFFFFFFFFFFF, ctr := true, cls := .staged },
  /- NEST_IMGi_LAST -/ { base := 0x1A0190, dims := [(0x100, 2)], rd := 0xFFFF77FF, cls := .staged },
  /- NEST_IMGi_EGO -/ { base := 0x1A0194, dims := [(0x100, 2)], rd := 0xFFFFFFFF, cls := .staged },
  /- NEST_IMGi_EGO_Q -/ { base := 0x1A0198, dims := [(0x100, 2)], rd := 0xFF, cls := .staged },
  /- NEST_IMGi_REF_T -/ { base := 0x1A01A4, dims := [(0x100, 2)], rd := 0xFFFF, cls := .staged },
  /- NEST_IMGi_FSUM -/ { base := 0x1A01A8, dims := [(0x100, 2)], rd := 0xFFFFFFFF, cls := .staged },
  /- NEST_IMGi_CNTk -/ { base := 0x1A01B0, dims := [(0x100, 2), (0x8, 10)], wide := true, rd := 0xFFFFFFFFFFFFFFFF, ctr := true, cls := .staged },
  /- NEST_HOMOGi_k -/ { base := 0x1A0300, dims := [(0x40, 2), (0x4, 9)], st := 0xFFFFFFFF, rd := 0xFFFFFFFF, cls := .staged, reset := 0x3F800000 },
  /- NEST_ALMr_CTRL -/ { base := 0x1A0400, dims := [(0x10, 16)], st := 0x37F7, rd := 0x37F7, cls := .staged, reset := 0x10 },
  /- NEST_ALMr_THR -/ { base := 0x1A0404, dims := [(0x10, 16)], st := 0xFFFFFFFF, rd := 0xFFFFFFFF, cls := .staged, reset := 0x7FFF7FFF },
  /- NEST_ALMr_STOP_ID -/ { base := 0x1A0408, dims := [(0x10, 16)], st := 0x1FFFFFFF, rd := 0x1FFFFFFF, cls := .staged },
  /- NEST_ALMr_STAT -/ { base := 0x1A040C, dims := [(0x10, 16)], rd := 0xFFFF00FF, cls := .staged },
  /- NEST_PITCH_X -/ { base := 0x1A0018, st := 0xFFFFFFFF, rd := 0xFFFFFFFF, cls := .staged, reset := 0x41A00000 },
  /- NEST_PITCH_Y -/ { base := 0x1A001C, st := 0xFFFFFFFF, rd := 0xFFFFFFFF, cls := .staged, reset := 0x41A00000 },
  /- NEST_ORG_X -/ { base := 0x1A0020, st := 0xFFFFFFFF, rd := 0xFFFFFFFF, cls := .staged },
  /- NEST_ORG_Y -/ { base := 0x1A0024, st := 0xFFFFFFFF, rd := 0xFFFFFFFF, cls := .staged },
  /- NEST_Q_POS -/ { base := 0x1A0040, st := 0xFFFFFFFF, rd := 0xFFFFFFFF, cls := .staged, reset := 0x42C80000 },
  /- NEST_R_POS -/ { base := 0x1A0044, st := 0xFFFFFFFF, rd := 0xFFFFFFFF, cls := .staged, reset := 0x3F800000 },
  /- NEST_PV0_POS -/ { base := 0x1A0048, st := 0xFFFFFFFF, rd := 0xFFFFFFFF, cls := .staged, reset := 0x42C80000 },
  /- NEST_Q_T -/ { base := 0x1A004C, st := 0xFFFFFFFF, rd := 0xFFFFFFFF, cls := .staged, reset := 0x3F800000 },
  /- NEST_R_T -/ { base := 0x1A0050, st := 0xFFFFFFFF, rd := 0xFFFFFFFF, cls := .staged, reset := 0x3E800000 },
  /- NEST_PV0_T -/ { base := 0x1A0054, st := 0xFFFFFFFF, rd := 0xFFFFFFFF, cls := .staged, reset := 0x3F800000 },
  /- NEST_SETs_XMIN -/ { base := 0x1A0064, dims := [(0x20, 2)], st := 0xFFFFFFFF, rd := 0xFFFFFFFF, cls := .staged, reset := 0xC4800000 },
  /- NEST_IMGi_COV_XMIN -/ { base := 0x1A0134, dims := [(0x100, 2)], st := 0xFFFFFFFF, rd := 0xFFFFFFFF, cls := .staged, reset := 0xC4800000 },
  /- NEST_SETs_XMAX -/ { base := 0x1A0068, dims := [(0x20, 2)], st := 0xFFFFFFFF, rd := 0xFFFFFFFF, cls := .staged, reset := 0x44800000 },
  /- NEST_IMGi_COV_XMAX -/ { base := 0x1A0138, dims := [(0x100, 2)], st := 0xFFFFFFFF, rd := 0xFFFFFFFF, cls := .staged, reset := 0x44800000 },
  /- NEST_SETs_YMIN -/ { base := 0x1A006C, dims := [(0x20, 2)], st := 0xFFFFFFFF, rd := 0xFFFFFFFF, cls := .staged, reset := 0xC4800000 },
  /- NEST_IMGi_COV_YMIN -/ { base := 0x1A013C, dims := [(0x100, 2)], st := 0xFFFFFFFF, rd := 0xFFFFFFFF, cls := .staged, reset := 0xC4800000 },
  /- NEST_SETs_YMAX -/ { base := 0x1A0070, dims := [(0x20, 2)], st := 0xFFFFFFFF, rd := 0xFFFFFFFF, cls := .staged, reset := 0x44800000 },
  /- NEST_IMGi_COV_YMAX -/ { base := 0x1A0140, dims := [(0x100, 2)], st := 0xFFFFFFFF, rd := 0xFFFFFFFF, cls := .staged, reset := 0x44800000 },
  /- NEST_IMGi_REF0 -/ { base := 0x1A012C, dims := [(0x100, 2)], st := 0x7FF07FF, rd := 0x7FF07FF, cls := .staged },
  /- NEST_IMGi_REF1 -/ { base := 0x1A0130, dims := [(0x100, 2)], st := 0x7FF07FF, rd := 0x7FF07FF, cls := .staged },
  /- NEST_IMGi_EGO_VX -/ { base := 0x1A019C, dims := [(0x100, 2)], rd := 0xFFFFFFFF, cls := .staged },
  /- NEST_IMGi_EGO_VY -/ { base := 0x1A01A0, dims := [(0x100, 2)], rd := 0xFFFFFFFF, cls := .staged },
  /- NEST_AFFINE -/ { base := 0x1A1000, dims := [(0x800, 2), (0x20, 64), (0x4, 6)], st := 0xFFFFFFFF, rd := 0xFFFFFFFF, cls := .staged },
  /- NEST_AFFINE_VALID -/ { base := 0x1A1018, dims := [(0x800, 2), (0x20, 64)], st := 0x1, rd := 0x1, cls := .staged },
  /- NEST_TRAY_CTX -/ { base := 0x1A2000, dims := [(0x100, 2), (0x40, 4), (0x4, 8)], rd := 0xFFFFFFFF, cls := .staged },
  /- NEST_TRACK_WIN -/ { base := 0x1A8000, dims := [(0x30, 2048), (0x4, 12)], rd := 0xFFFFFFFF, cls := .staged }]

/-- The HAL registers. -/
def RegMap.rowsHAL : List RegRow := [
  /- HAL_CTRL -/ { base := 0x1C0000, st := 0x3, rd := 0x3, wo := 0x30 },
  /- HAL_CFG -/ { base := 0x1C0004, st := 0xFFFFFF7F, rd := 0xFFFFFF7F, reset := 0x404040 },
  /- HAL_RPL -/ { base := 0x1C0008, st := 0xFFFFFFFF, rd := 0xFFFFFFFF, reset := 0x804003E8 },
  /- HAL_EVID -/ { base := 0x1C000C, st := 0x1FF, rd := 0x1FF },
  /- HAL_STATUS -/ { base := 0x1C0010, rd := 0x173FF },
  /- HAL_CLAIM -/ { base := 0x1C0014, rd := 0xFFFFFFFF },
  /- HAL_HEALTH -/ { base := 0x1C0018, rd := 0x7FF07FF, reset := 0x1 },
  /- HAL_SKEW -/ { base := 0x1C001C, rd := 0xFFFFFFFF },
  /- HAL_CFG_ERR -/ { base := 0x1C0020, rd := 0x7, w1c := 0x7 },
  /- HAL_LAST_CHANGE -/ { base := 0x1C0028, wide := true, rd := 0xFFFFFFFFFFFFFFFF },
  /- HAL_CNTk -/ { base := 0x1C0040, dims := [(0x8, 12)], wide := true, rd := 0xFFFFFFFFFFFFFFFF, ctr := true }]

/-- The PWR registers. -/
def RegMap.rowsPWR : List RegRow := [
  /- PWR_STATUS -/ { base := 0x1D0000, rd := 0x3F },
  /- PWR_BRACE_CFG -/ { base := 0x1D0004, st := 0xFFFF, rd := 0xFFFF, reset := 0xA14 },
  /- PWR_CFG_ERR -/ { base := 0x1D0008, rd := 0x7, w1c := 0x7 },
  /- PWR_WAKE_SRC -/ { base := 0x1D000C, st := 0xFFFFFF, rd := 0xFFFFFF },
  /- PWR_LAST_FAIL -/ { base := 0x1D0010, wide := true, rd := 0xFFFFFFFFFFFFFFFF },
  /- PWR_CNTk -/ { base := 0x1D0020, dims := [(0x8, 5)], wide := true, rd := 0xFFFFFFFFFFFFFFFF, ctr := true },
  /- PWR_Dd_CFG -/ { base := 0x1D0100, dims := [(0x10, 24)], st := 0xFFFF0007, rd := 0xFFFF0007, reset := 0xFA00004 },
  /- PWR_Dd_STAT -/ { base := 0x1D0104, dims := [(0x10, 24)], rd := 0x1FF00F7, reset := 0x2 },
  /- PWR_Dd_CTRL -/ { base := 0x1D0108, dims := [(0x10, 24)], wo := 0x1 }]

/-- The SHR registers. -/
def RegMap.rowsSHR : List RegRow := [
  /- SHR_CFG -/ { base := 0x1E0000, st := 0xF, rd := 0xF, reset := 0x2 },
  /- SHR_TERM_CFG -/ { base := 0x1E0004, st := 0xFFFFFFFF, rd := 0xFFFFFFFF, reset := 0xFA0 },
  /- SHR_CFG_ERR -/ { base := 0x1E0008, rd := 0x1, w1c := 0x1 },
  /- SHR_SENSE_STAT -/ { base := 0x1E000C, rd := 0x3 },
  /- SHR_ACTIVE -/ { base := 0x1E0010, rd := 0xFFFF },
  /- SHR_CANn_CFG -/ { base := 0x1E1000, dims := [(0x10, 48)], st := 0x3, rd := 0x3, reset := 0x1 },
  /- SHR_CANn_STAT -/ { base := 0x1E1004, dims := [(0x10, 48)], rd := 0x30FFE },
  /- SHR_CANn_TERM -/ { base := 0x1E1008, dims := [(0x10, 48)], rd := 0xFFFFFF },
  /- SHR_T1Ss_STAT -/ { base := 0x1E1400, dims := [(0x10, 8)], rd := 0xF },
  /- SHR_T1Ss_AMP -/ { base := 0x1E1404, dims := [(0x10, 8)], rd := 0xFFF },
  /- SHR_CNTc -/ { base := 0x1E2008, dims := [(0x8, 33)], wide := true, rd := 0xFFFFFFFFFFFFFFFF, ctr := true }]

/-- The NVM registers. -/
def RegMap.rowsNVM : List RegRow := [
  /- NVM_STATUS -/ { base := 0x1F0000, rd := 0x777 },
  /- NVM_SPARES -/ { base := 0x1F0004, rd := 0x3FF03FF, reset := 0x1E8 },
  /- NVM_JCFG -/ { base := 0x1F0008, st := 0xFFFF00F1, rd := 0xFFFF00F1, reset := 0x2580031 },
  /- NVM_JHEAD -/ { base := 0x1F000C, rd := 0xFFFFFFFF },
  /- NVM_JTAIL -/ { base := 0x1F0010, rd := 0xFFFFFFFF },
  /- NVM_JWIN -/ { base := 0x1F0014, st := 0x3FF, rd := 0x3FF },
  /- NVM_SECT_SEL -/ { base := 0x1F0018, st := 0x73FF, rd := 0x73FF },
  /- NVM_SECT_ERASES -/ { base := 0x1F001C, rd := 0xFFFFFFFF },
  /- NVM_SECT_STAT -/ { base := 0x1F0020, rd := 0x7FF3FF3F },
  /- NVM_CFG_CMD -/ { base := 0x1F0028, wo := 0x1 },
  /- NVM_CFG_STAT -/ { base := 0x1F002C, rd := 0xF0F },
  /- NVM_BANKb -/ { base := 0x1F0030, dims := [(0x4, 2)], rd := 0xFFFFFFFF },
  /- NVM_UPD_SRC -/ { base := 0x1F0040, wide := true, st := 0xFFFFFFFFFFFFFFFF, rd := 0xFFFFFFFFFFFFFFFF },
  /- NVM_UPD_LEN -/ { base := 0x1F0048, st := 0x1FFFFFF, rd := 0x1FFFFFF },
  /- NVM_UPD_CTRL -/ { base := 0x1F004C, wo := 0x31F },
  /- NVM_UPD_STATUS -/ { base := 0x1F0050, rd := 0xFF3F0F },
  /- NVM_UPD_TMO -/ { base := 0x1F0054, st := 0xFFFF, rd := 0xFFFF, reset := 0x258 },
  /- NVM_UPD_LEFT -/ { base := 0x1F0058, rd := 0xFFFF },
  /- NVM_SLOTs_VER -/ { base := 0x1F0060, dims := [(0x20, 2)], rd := 0xFFFFFFFF },
  /- NVM_SLOTs_SVN -/ { base := 0x1F0064, dims := [(0x20, 2)], rd := 0xFFFFFFFF },
  /- NVM_SLOTs_FMT -/ { base := 0x1F0068, dims := [(0x20, 2)], rd := 0xFFFFFFFF },
  /- NVM_SLOTs_STAT -/ { base := 0x1F006C, dims := [(0x20, 2)], rd := 0xF1 },
  /- NVM_MIN_SVN -/ { base := 0x1F00A0, rd := 0xFFFFFFFF },
  /- NVM_FLASH_ID -/ { base := 0x1F00A4, rd := 0xFFFFFF },
  /- NVM_CFG_ERR -/ { base := 0x1F00A8, rd := 0x3, w1c := 0x3 },
  /- NVM_SNAPr_BASE -/ { base := 0x1F0100, dims := [(0x10, 32)], st := 0xFFFFFFF, rd := 0xFFFFFFF },
  /- NVM_SNAPr_CTRL -/ { base := 0x1F0104, dims := [(0x10, 32)], st := 0x8000FFFF, rd := 0x8000FFFF },
  /- NVM_SNAPr_STRIDE -/ { base := 0x1F0108, dims := [(0x10, 32)], st := 0xFFFFFFF, rd := 0xFFFFFFF },
  /- NVM_CNTk -/ { base := 0x1F0400, dims := [(0x8, 8)], wide := true, rd := 0xFFFFFFFFFFFFFFFF, ctr := true }]

/-- The PIN registers. -/
def RegMap.rowsPIN : List RegRow := [
  /- PIN_CFGp -/ { base := 0x200000, dims := [(0x8, 128)], st := 0xFFFFF, rd := 0xFFFFF, lck := 0x1800, reset := 0x62000 },
  /- PIN_STATp -/ { base := 0x200004, dims := [(0x8, 128)], rd := 0x1F },
  /- PIN_OUTw -/ { base := 0x200400, dims := [(0x4, 4)], st := 0xFFFFFFFF, rd := 0xFFFFFFFF, bl := true, cls := .immediate },
  /- PIN_OEw -/ { base := 0x200410, dims := [(0x4, 4)], st := 0xFFFFFFFF, rd := 0xFFFFFFFF, bl := true, cls := .immediate },
  /- PIN_SETw -/ { base := 0x200420, dims := [(0x4, 4)], wo := 0xFFFFFFFF, bl := true },
  /- PIN_CLRw -/ { base := 0x200430, dims := [(0x4, 4)], wo := 0xFFFFFFFF, bl := true },
  /- PIN_INw -/ { base := 0x200440, dims := [(0x4, 4)], rd := 0xFFFFFFFF },
  /- PIN_CFG_ERR -/ { base := 0x200450, rd := 0x3, w1c := 0x3 },
  /- PIN_MULTI_IN -/ { base := 0x200454, rd := 0xFFFF }]

/-- The MGT registers. -/
def RegMap.rowsMGT : List RegRow := [
  /- MGT_STATUS -/ { base := 0x210000, rd := 0x1F01 },
  /- MGT_VIEW_TIME -/ { base := 0x210008, wide := true, rd := 0xFFFFFFFFFFFFFFFF },
  /- MGT_SKEW_LAST -/ { base := 0x210010, rd := 0xFFFFFFFF },
  /- MGT_SKEW_TIME -/ { base := 0x210018, wide := true, rd := 0xFFFFFFFFFFFFFFFF },
  /- MGT_NET_CFG -/ { base := 0x210020, st := 0xFFFF0007, rd := 0xFFFF0007, reset := 0x12DE0000 },
  /- MGT_NET_IP4 -/ { base := 0x210024, st := 0xFFFFFFFF, rd := 0xFFFFFFFF },
  /- MGT_NET_PREFIX -/ { base := 0x210028, st := 0xFF3F, rd := 0xFF3F, reset := 0x4018 },
  /- MGT_NET_IP6k -/ { base := 0x210030, dims := [(0x4, 4)], st := 0xFFFFFFFF, rd := 0xFFFFFFFF },
  /- MGT_NET_PEERp_k -/ { base := 0x210040, dims := [(0x10, 4), (0x4, 4)], st := 0xFFFFFFFF, rd := 0xFFFFFFFF },
  /- MGT_SNAP_ADDR -/ { base := 0x210080, wide := true, st := 0xFFFFFFFFFFFFFFFF, rd := 0xFFFFFFFFFFFFFFFF },
  /- MGT_SNAP_RANGES -/ { base := 0x210088, st := 0xFFFFFFFF, rd := 0xFFFFFFFF },
  /- MGT_SNAP_GO -/ { base := 0x21008C, wo := 0x80000000 },
  /- MGT_SNAP_STAT -/ { base := 0x210090, rd := 0xFFFF0001 },
  /- MGT_CFG_ERR -/ { base := 0x210094, rd := 0x7, w1c := 0x7 },
  /- MGT_CNTk -/ { base := 0x210100, dims := [(0x8, 12)], wide := true, rd := 0xFFFFFFFFFFFFFFFF, ctr := true },
  /- MGT_PORTn -/ { base := 0x211000, dims := [(0x4, 80)], rd := 0xFFFF00FF, reset := 0x10000 },
  /- MGT_PDd -/ { base := 0x211200, dims := [(0x4, 24)], rd := 0xFFFF00FF, reset := 0x10002 },
  /- MGT_TXRn -/ { base := 0x211300, dims := [(0x4, 64)], rd := 0xFFFF00FF, reset := 0x10000 },
  /- MGT_RXRn -/ { base := 0x211400, dims := [(0x4, 64)], rd := 0xFFFF00FF, reset := 0x10000 },
  /- MGT_TSETs -/ { base := 0x211500, dims := [(0x4, 2)], rd := 0xFFFF00FF, reset := 0x10000 },
  /- MGT_PARTNER -/ { base := 0x211600, rd := 0xFFFF00FF, reset := 0x10000 }]

/-- The rows of the block that an offset lies in (Table 20.1). -/
def RegMap.block (off : Nat) : List RegRow :=
  if off < 0x10000 then RegMap.rowsGLB
  else if off < 0x20000 then RegMap.rowsBEAT
  else if off < 0x30000 then RegMap.rowsTIME
  else if off < 0x40000 then RegMap.rowsHIF
  else if off < 0x80000 then RegMap.rowsFAB
  else if off < 0x100000 then RegMap.rowsRT
  else if off < 0x140000 then RegMap.rowsCANP
  else if off < 0x150000 then RegMap.rowsREEF
  else if off < 0x160000 then RegMap.rowsETH
  else if off < 0x170000 then RegMap.rowsT1S
  else if off < 0x180000 then RegMap.rowsSER
  else if off < 0x190000 then RegMap.rowsCIPH
  else if off < 0x1A0000 then RegMap.rowsLSEC
  else if off < 0x1C0000 then RegMap.rowsNEST
  else if off < 0x1D0000 then RegMap.rowsHAL
  else if off < 0x1E0000 then RegMap.rowsPWR
  else if off < 0x1F0000 then RegMap.rowsSHR
  else if off < 0x200000 then RegMap.rowsNVM
  else if off < 0x210000 then RegMap.rowsPIN
  else if off < 0x220000 then RegMap.rowsMGT
  else []

/-- Does the array of strides reach the relative offset, within `size` bytes of an element? -/
def RegMap.reaches (size : Nat) : List (Nat × Nat) → Nat → Bool
  | [], rel => rel < size
  | (stride, count) :: ds, rel => rel / stride < count && RegMap.reaches size ds (rel % stride)

/-- The relative offset left in the innermost element. -/
def RegMap.inner : List (Nat × Nat) → Nat → Nat
  | [], rel => rel
  | (stride, _) :: ds, rel => RegMap.inner ds (rel % stride)

/-- Does the row cover the doubleword at this offset? -/
def RegRow.covers (r : RegRow) (off : Nat) : Bool :=
  r.base ≤ off && RegMap.reaches (if r.wide then 8 else 4) r.dims (off - r.base)

/-- The row that covers a doubleword offset; none: the offset is unmapped (R478). -/
def RegMap.find (off : Nat) : Option RegRow := (RegMap.block off).find? (fun r => r.covers off)

/-- The high half of a 64-bit register? -/
def RegRow.isHigh (r : RegRow) (off : Nat) : Bool :=
  r.wide && RegMap.inner r.dims (off - r.base) == 4

/-- A 64-bit mask's half for a doubleword. -/
def RegRow.half (r : RegRow) (off : Nat) (m : Nat) : Word :=
  if r.isHigh off then BitVec.ofNat 32 (m / 2 ^ 32) else BitVec.ofNat 32 m

/-- Reset values that depend on an index: the interrupt vectors (Table 4.13), RX ring 63, the MSI-X mask bits, the
domain registers (Table 14.7) and the homographies (Table 12.9). -/
def RegMap.indexedReset (off : Nat) : Option Nat :=
  if 0x31000 ≤ off ∧ off < 0x31800 ∧ off % 32 = 0x14 then some (0x100 + (off - 0x31000) / 32)
  else if 0x32000 ≤ off ∧ off < 0x32800 ∧ off % 32 = 0x0C then some (0x140 + (off - 0x32000) / 32)
  else if off = 0x327E8 then some 0x01001006
  else if 0x38000 ≤ off ∧ off < 0x39000 ∧ off % 16 = 0x0C then some 1
  else if 0x1D0100 ≤ off ∧ off < 0x1D0280 then
    let d := (off - 0x1D0100) / 16
    let closed := d = 18 ∨ d = 19 ∨ d = 20 ∨ d = 23
    if off % 16 = 0 then some (if closed then 0x0FA00001 else 0x0FA00004)
    else if off % 16 = 4 then some (if closed then 0 else 2)
    else none
  else if 0x1A0300 ≤ off ∧ off < 0x1A0380 then
    let k := (off - 0x1A0300) % 0x40 / 4
    some (if k = 0 ∨ k = 4 ∨ k = 8 then 0x3F800000 else 0)
  else none

/-- The reset value of a doubleword of BAR0. -/
def RegMap.resetOf (off : Nat) : Word :=
  match RegMap.indexedReset off with
  | some v => BitVec.ofNat 32 v
  | none =>
    match RegMap.find off with
    | some r => r.half off r.reset
    | none => 0#32

end Sys2Proof.Machine
end

