-- ==== Sys2Proof/Machine/RegNames.lean ====
section
/-! DEFINITION. The names of the BAR0 registers and of their fields, by the offsets and bit positions of the register
maps (Tables 2.6, 3.6, 4.13, 5.3, 5.10, 6.5, 7.7, 8.4, 9.7, 9.10, 9.13, 10.3, 11.14, 12.9, 13.9, 14.7, 15.4, 16.12,
17.5, 18.5, 19.14 and 20.6). A register name keeps its index letters, and the indices are its arguments. -/

namespace Sys2Proof.Machine


-- GLB
def Reg.GLB_RESET : Nat := 0x40
def Reg.GLB_RESET_CAUSE : Nat := 0x44
def Reg.GLB_BOOT_STATUS : Nat := 0x48
def Reg.GLB_LOCK : Nat := 0x4C
def Reg.GLB_STRAPS : Nat := 0x50
def Reg.GLB_ID : Nat := 0x0
def Reg.GLB_VENDOR : Nat := 0x4
def Reg.GLB_UID : Nat := 0x8
def Reg.GLB_FW_VERSION : Nat := 0x10
def Reg.GLB_FW_BUILD : Nat := 0x14
def Reg.GLB_SCRATCH : Nat := 0x18
def Reg.GLB_TEMP : Nat := 0x1C
def Reg.GLB_AF_CNT : Nat := 0x20
def Reg.GLB_AF_NEXT : Nat := 0x28
def Reg.GLB_AF_CTRL : Nat := 0x2C
def Reg.GLB_AFi_ADDR (i : Nat) : Nat := 0x100 + 0x10 * i
def Reg.GLB_AFi_INFO (i : Nat) : Nat := 0x104 + 0x10 * i
def Reg.GLB_AFi_TIME (i : Nat) : Nat := 0x108 + 0x10 * i

-- BEAT
def Reg.BEAT_STATUS : Nat := 0x10000
def Reg.BEAT_LEN_NEXT : Nat := 0x10004
def Reg.BEAT_SLOT_NEXT0 : Nat := 0x10008
def Reg.BEAT_SLOT_NEXT1 : Nat := 0x1000C
def Reg.BEAT_SLOT_NEXT2 : Nat := 0x10010
def Reg.BEAT_SLOT_CUR0 : Nat := 0x10014
def Reg.BEAT_SLOT_CUR1 : Nat := 0x10018
def Reg.BEAT_SLOT_CUR2 : Nat := 0x1001C
def Reg.BEAT_CFG_ERR : Nat := 0x10020
def Reg.BEAT_OVERRUN : Nat := 0x10024
def Reg.BEAT_LAST_OVR : Nat := 0x10028
def Reg.BEAT_LAST_OVR_TIME : Nat := 0x10030
def Reg.BEAT_OVR_CNTn (n : Nat) : Nat := 0x10040 + 8 * n
def Reg.BEAT_PEAKn (n : Nat) : Nat := 0x10070 + 4 * n
def Reg.BEAT_COUNT : Nat := 0x10088
def Reg.BEAT_REALIGN_CNT : Nat := 0x10090

-- TIME
def Reg.TIME_STATUS : Nat := 0x20000
def Reg.TIME_NOW : Nat := 0x20008
def Reg.TIME_OFFSET : Nat := 0x20010
def Reg.TIME_FREQ : Nat := 0x20014
def Reg.TIME_SLEW_LIMIT : Nat := 0x20018
def Reg.TIME_JUMP_THR : Nat := 0x2001C
def Reg.TIME_SERVO : Nat := 0x20020
def Reg.TIME_STEP_CTRL : Nat := 0x20024
def Reg.TIME_STEP_VALUE : Nat := 0x20028
def Reg.TIME_STEP_STATUS : Nat := 0x20030
def Reg.TIME_LAST_STEP : Nat := 0x20038
def Reg.TIME_PTP_CFG : Nat := 0x20040
def Reg.TIME_PTP_PRIO : Nat := 0x20044
def Reg.TIME_PTP_DISCARD : Nat := 0x20048
def Reg.TIME_PTP_QUAL : Nat := 0x2004C
def Reg.TIME_PORTp (p : Nat) : Nat := 0x20080 + 4 * p
def Reg.TIME_ASYM_INn (n : Nat) : Nat := 0x20100 + 0x10 * n
def Reg.TIME_ASYM_EGn (n : Nat) : Nat := 0x20104 + 0x10 * n
def Reg.TIME_ASYM_LINKn (n : Nat) : Nat := 0x20108 + 0x10 * n
def Reg.TIME_BCN_CFG : Nat := 0x20500
def Reg.TIME_BCN_ID : Nat := 0x20504
def Reg.TIME_BCN_FMT : Nat := 0x20508
def Reg.TIME_BCN_EN0 : Nat := 0x2050C
def Reg.TIME_BCN_EN1 : Nat := 0x20510
def Reg.TIME_BCN_XL : Nat := 0x20514
def Reg.TIME_BCN_AF : Nat := 0x20518
def Reg.TIME_CAPu_CFG (u : Nat) : Nat := 0x20600 + 0x10 * u
def Reg.TIME_CAPu_FILT (u : Nat) : Nat := 0x20604 + 0x10 * u
def Reg.TIME_CAPu_STAT (u : Nat) : Nat := 0x20608 + 0x10 * u
def Reg.TIME_CAPu_LOST (u : Nat) : Nat := 0x2060C + 0x10 * u
def Reg.TIME_CAP_RING : Nat := 0x20700
def Reg.TIME_CANDUR_EN0 : Nat := 0x20704
def Reg.TIME_CANDUR_EN1 : Nat := 0x20708
def Reg.TIME_CFG_ERR : Nat := 0x20710
def Reg.TIME_JUMP_CNT : Nat := 0x20718
def Reg.TIME_LAST_JUMP : Nat := 0x20720

-- HIF
def Reg.HIF_CTRL : Nat := 0x30000
def Reg.HIF_STATUS : Nat := 0x30004
def Reg.HIF_DB_BASE_LO : Nat := 0x30008
def Reg.HIF_DB_BASE_HI : Nat := 0x3000C
def Reg.HIF_CIP_BASE_LO : Nat := 0x30010
def Reg.HIF_CIP_BASE_HI : Nat := 0x30014
def Reg.HIF_ERR_VEC : Nat := 0x30018
def Reg.HIF_CFG_ERR : Nat := 0x30020
def Reg.HIF_TXFAULT0 : Nat := 0x30024
def Reg.HIF_TXFAULT1 : Nat := 0x30028
def Reg.HIF_RXFAULT0 : Nat := 0x3002C
def Reg.HIF_RXFAULT1 : Nat := 0x30030
def Reg.HIF_DB_FETCH_CNT : Nat := 0x30038
def Reg.HIF_DB_ERR_CNT : Nat := 0x30040
def Reg.HIF_TXn_BASE_LO (n : Nat) : Nat := 0x31000 + 0x20 * n
def Reg.HIF_TXn_BASE_HI (n : Nat) : Nat := 0x31004 + 0x20 * n
def Reg.HIF_TXn_CBASE_LO (n : Nat) : Nat := 0x31008 + 0x20 * n
def Reg.HIF_TXn_CBASE_HI (n : Nat) : Nat := 0x3100C + 0x20 * n
def Reg.HIF_TXn_CFG (n : Nat) : Nat := 0x31010 + 0x20 * n
def Reg.HIF_TXn_IRQ (n : Nat) : Nat := 0x31014 + 0x20 * n
def Reg.HIF_TXn_STAT (n : Nat) : Nat := 0x31018 + 0x20 * n
def Reg.HIF_RXn_BASE_LO (n : Nat) : Nat := 0x32000 + 0x20 * n
def Reg.HIF_RXn_BASE_HI (n : Nat) : Nat := 0x32004 + 0x20 * n
def Reg.HIF_RXn_CFG (n : Nat) : Nat := 0x32008 + 0x20 * n
def Reg.HIF_RXn_IRQ (n : Nat) : Nat := 0x3200C + 0x20 * n
def Reg.HIF_RXn_STAT (n : Nat) : Nat := 0x32010 + 0x20 * n
def Reg.HIF_RXn_DROP (n : Nat) : Nat := 0x32018 + 0x20 * n
def Reg.MSIX_ENTRY (v : Nat) (w : Nat) : Nat := 0x38000 + 0x10 * v + 4 * w
def Reg.MSIX_PBA (w : Nat) : Nat := 0x39000 + 4 * w

-- FAB
def Reg.FAB_CTRL : Nat := 0x40000
def Reg.FAB_STATUS : Nat := 0x40004
def Reg.FAB_COMMIT : Nat := 0x40008
def Reg.FAB_COMMIT_RES : Nat := 0x4000C
def Reg.FAB_ROUTE_EPOCH : Nat := 0x40010
def Reg.FAB_FREE : Nat := 0x40014
def Reg.FAB_HOSTBUF : Nat := 0x40018
def Reg.FAB_TUN_ETYPE : Nat := 0x4001C
def Reg.FAB_UNIT_TAG : Nat := 0x40020
def Reg.FAB_CFG_ERR : Nat := 0x40024
def Reg.FAB_QRESET_CNT : Nat := 0x40028
def Reg.FAB_HOSTBUF_WAIT : Nat := 0x40030
def Reg.FAB_CLASSc (c : Nat) : Nat := 0x40040 + 4 * c
def Reg.FAB_LAST_DISCARDk (k : Nat) : Nat := 0x40060 + 4 * k
def Reg.FAB_QCFGp_c (p : Nat) (c : Nat) : Nat := 0x41000 + 0x20 * p + 4 * c
def Reg.FAB_QSTATp (p : Nat) : Nat := 0x42000 + 4 * p
def Reg.FAB_PCNTp_k (p : Nat) (k : Nat) : Nat := 0x43000 + 0x80 * p + 8 * k
def Reg.FAB_LIMi_DROP (i : Nat) : Nat := 0x46000 + 8 * i
def Reg.FAB_LIMi_TOK (i : Nat) : Nat := 0x48000 + 4 * i
def Reg.FAB_HITj (j : Nat) : Nat := 0x50000 + 8 * j
def Reg.FAB_RA_STATj (j : Nat) : Nat := 0x4A000 + 4 * j
def Reg.FAB_RA_REARM : Nat := 0x4E000
def Reg.FAB_RA_START_CNT : Nat := 0x4E008
def Reg.FAB_RA_ABORT_CNT : Nat := 0x4E010
def Reg.FAB_RA_RETRACT_CNT : Nat := 0x4E018
def Reg.FAB_RA_FALLBACK_CNT : Nat := 0x4E020
def Reg.FAB_RA_LAST : Nat := 0x4E028

-- RT
def Reg.RT_SHADOW_ROUTE (j : Nat) (w : Nat) : Nat := 0x80000 + 0x20 * j + 4 * w
def Reg.RT_SHADOW_LIM (i : Nat) (w : Nat) : Nat := 0xA0000 + 8 * i + 4 * w
def Reg.RT_SHADOW_AUTH (a : Nat) (w : Nat) : Nat := 0xA2000 + 0x10 * a + 4 * w
def Reg.RT_SHADOW_TUN (t : Nat) (w : Nat) : Nat := 0xA2400 + 0x20 * t + 4 * w
def Reg.RT_LIVE_ROUTE (j : Nat) (w : Nat) : Nat := 0xC0000 + 0x20 * j + 4 * w
def Reg.RT_LIVE_LIM (i : Nat) (w : Nat) : Nat := 0xE0000 + 8 * i + 4 * w
def Reg.RT_LIVE_AUTH (a : Nat) (w : Nat) : Nat := 0xE2000 + 0x10 * a + 4 * w
def Reg.RT_LIVE_TUN (t : Nat) (w : Nat) : Nat := 0xE2400 + 0x20 * t + 4 * w

-- CANP
def Reg.CANP_MODE (n : Nat) : Nat := 0x100000 + 0x1000 * n
def Reg.CANP_NBT (n : Nat) : Nat := 0x100004 + 0x1000 * n
def Reg.CANP_DBT (n : Nat) : Nat := 0x100008 + 0x1000 * n
def Reg.CANP_XBT (n : Nat) : Nat := 0x10000C + 0x1000 * n
def Reg.CANP_TDC (n : Nat) : Nat := 0x100010 + 0x1000 * n
def Reg.CANP_TIMING_GO (n : Nat) : Nat := 0x100014 + 0x1000 * n
def Reg.CANP_STATUS (n : Nat) : Nat := 0x100018 + 0x1000 * n
def Reg.CANP_ECNT (n : Nat) : Nat := 0x10001C + 0x1000 * n
def Reg.CANP_LAST_ERR (n : Nat) : Nat := 0x100020 + 0x1000 * n
def Reg.CANP_CFG_ERR (n : Nat) : Nat := 0x100024 + 0x1000 * n
def Reg.CANP_ACC_CFG (n : Nat) : Nat := 0x100028 + 0x1000 * n
def Reg.CANP_CNTk (n : Nat) (k : Nat) : Nat := 0x100040 + 0x1000 * n + 8 * k
def Reg.CANP_ACCe_KEY (n : Nat) (e : Nat) : Nat := 0x100800 + 0x1000 * n + 0x10 * e
def Reg.CANP_ACCe_MASK (n : Nat) (e : Nat) : Nat := 0x100804 + 0x1000 * n + 0x10 * e
def Reg.CANP_ACCe_CTRL (n : Nat) (e : Nat) : Nat := 0x100808 + 0x1000 * n + 0x10 * e

-- REEF
def Reg.REEF_COMMIT : Nat := 0x140000
def Reg.REEF_STATUS : Nat := 0x140004
def Reg.REEF_MUS_RING : Nat := 0x140008
def Reg.REEF_CFG_ERR : Nat := 0x14000C
def Reg.REEF_SLEEP_MAP0 : Nat := 0x140010
def Reg.REEF_SLEEP_MAP1 : Nat := 0x140014
def Reg.REEF_PORTn_CFG (n : Nat) : Nat := 0x141000 + 0x40 * n
def Reg.REEF_PORTn_IDLE (n : Nat) : Nat := 0x141004 + 0x40 * n
def Reg.REEF_PORTn_INSOM (n : Nat) : Nat := 0x141008 + 0x40 * n
def Reg.REEF_PORTn_TXWAKE (n : Nat) : Nat := 0x14100C + 0x40 * n
def Reg.REEF_PORTn_TXWF_ID (n : Nat) : Nat := 0x141010 + 0x40 * n
def Reg.REEF_PORTn_TXWF_DLC (n : Nat) : Nat := 0x141014 + 0x40 * n
def Reg.REEF_PORTn_TXWF_D0 (n : Nat) : Nat := 0x141018 + 0x40 * n
def Reg.REEF_PORTn_TXWF_D1 (n : Nat) : Nat := 0x14101C + 0x40 * n
def Reg.REEF_PORTn_CTRL (n : Nat) : Nat := 0x141020 + 0x40 * n
def Reg.REEF_PORTn_STAT (n : Nat) : Nat := 0x141024 + 0x40 * n
def Reg.REEF_PORTn_AWAKE (n : Nat) : Nat := 0x141028 + 0x40 * n
def Reg.REEF_WKn_w_KEY (n : Nat) (w : Nat) : Nat := 0x142000 + 0x80 * n + 0x20 * w
def Reg.REEF_WKn_w_MASK (n : Nat) (w : Nat) : Nat := 0x142004 + 0x80 * n + 0x20 * w
def Reg.REEF_WKn_w_CTRL (n : Nat) (w : Nat) : Nat := 0x142008 + 0x80 * n + 0x20 * w
def Reg.REEF_KPn_i_KEY (n : Nat) (i : Nat) : Nat := 0x144000 + 0x40 * n + 0x10 * i
def Reg.REEF_KPn_i_INFO (n : Nat) (i : Nat) : Nat := 0x144004 + 0x40 * n + 0x10 * i
def Reg.REEF_KPn_i_TIME (n : Nat) (i : Nat) : Nat := 0x144008 + 0x40 * n + 0x10 * i
def Reg.REEF_CNTn_k (n : Nat) (k : Nat) : Nat := 0x145000 + 0x40 * n + 8 * k
def Reg.REEF_MUSm_CTRL (m : Nat) : Nat := 0x148000 + 0x20 * m
def Reg.REEF_MUSm_KEY (m : Nat) : Nat := 0x148004 + 0x20 * m
def Reg.REEF_MUSm_MASK (m : Nat) : Nat := 0x148008 + 0x20 * m
def Reg.REEF_MUSm_PERIOD (m : Nat) : Nat := 0x14800C + 0x20 * m
def Reg.REEF_MUSm_PHASE (m : Nat) : Nat := 0x148010 + 0x20 * m
def Reg.REEF_MUSm_WIN (m : Nat) : Nat := 0x148014 + 0x20 * m
def Reg.REEF_MUSm_GUARD (m : Nat) : Nat := 0x148018 + 0x20 * m
def Reg.REEF_MUSm_STAT (m : Nat) : Nat := 0x14801C + 0x20 * m
def Reg.REEF_WKn_w_DATA0 (n : Nat) (w : Nat) : Nat := 0x142010 + 0x80 * n + 0x20 * w
def Reg.REEF_WKn_w_DATA1 (n : Nat) (w : Nat) : Nat := 0x142014 + 0x80 * n + 0x20 * w
def Reg.REEF_WKn_w_DMASK0 (n : Nat) (w : Nat) : Nat := 0x142018 + 0x80 * n + 0x20 * w
def Reg.REEF_WKn_w_DMASK1 (n : Nat) (w : Nat) : Nat := 0x14201C + 0x80 * n + 0x20 * w

-- ETH
def Reg.ETH_Pq_MODE (q : Nat) : Nat := 0x150000 + 0x400 * q
def Reg.ETH_Pq_MAC_LO (q : Nat) : Nat := 0x150004 + 0x400 * q
def Reg.ETH_Pq_MAC_HI (q : Nat) : Nat := 0x150008 + 0x400 * q
def Reg.ETH_Pq_STATUS (q : Nat) : Nat := 0x15000C + 0x400 * q
def Reg.ETH_Pq_CNTk (q : Nat) (k : Nat) : Nat := 0x150040 + 0x400 * q + 8 * k
def Reg.ETH_MDIO_CMD : Nat := 0x152000
def Reg.ETH_MDIO_DATA : Nat := 0x152004
def Reg.ETH_SMB_CFG : Nat := 0x153000
def Reg.ETH_SMB_PEC_ERR : Nat := 0x153008
def Reg.ETH_SMB_NAK : Nat := 0x15300C
def Reg.ETH_CFG_ERR : Nat := 0x153010

-- T1S
def Reg.T1S_Ss_CFG (s : Nat) : Nat := 0x160000 + 0x100 * s
def Reg.T1S_Ss_BURST (s : Nat) : Nat := 0x160004 + 0x100 * s
def Reg.T1S_Ss_MAC_LO (s : Nat) : Nat := 0x160008 + 0x100 * s
def Reg.T1S_Ss_MAC_HI (s : Nat) : Nat := 0x16000C + 0x100 * s
def Reg.T1S_Ss_STATUS (s : Nat) : Nat := 0x160010 + 0x100 * s
def Reg.T1S_Ss_CNTk (s : Nat) (k : Nat) : Nat := 0x160040 + 0x100 * s + 8 * k
def Reg.T1S_CFG_ERR : Nat := 0x161000

-- SER
def Reg.SER_Cc_CFG (c : Nat) : Nat := 0x170000 + 0x100 * c
def Reg.SER_Cc_DIV (c : Nat) : Nat := 0x170004 + 0x100 * c
def Reg.SER_Cc_FRAME (c : Nat) : Nat := 0x170008 + 0x100 * c
def Reg.SER_Cc_DE (c : Nat) : Nat := 0x17000C + 0x100 * c
def Reg.SER_Cc_STATUS (c : Nat) : Nat := 0x170010 + 0x100 * c
def Reg.SER_Cc_CNTk (c : Nat) (k : Nat) : Nat := 0x170040 + 0x100 * c + 8 * k
def Reg.SER_CFG_ERR : Nat := 0x171000

-- CIPH
def Reg.CIPH_LOCK : Nat := 0x180000
def Reg.CIPH_STATUS : Nat := 0x180004
def Reg.CIPH_ALARM : Nat := 0x180008
def Reg.CIPH_TAMPER_CFG : Nat := 0x18000C
def Reg.CIPH_PARITY_CNT : Nat := 0x180010
def Reg.CIPH_FV_ADV : Nat := 0x180018
def Reg.CIPH_CFG_ERR : Nat := 0x18001C
def Reg.CIPH_CLR_KEYk (k : Nat) : Nat := 0x180020 + 4 * k
def Reg.CIPH_CLR_CTRL : Nat := 0x180040
def Reg.CIPH_CLR_LIMIT : Nat := 0x180044
def Reg.CIPH_FV_SEL : Nat := 0x180048
def Reg.CIPH_FV_DATA : Nat := 0x180050
def Reg.CIPH_FV_STAT : Nat := 0x180058
def Reg.CIPH_KSn_STAT (n : Nat) : Nat := 0x180100 + 0x20 * n
def Reg.CIPH_KSn_LIMIT (n : Nat) : Nat := 0x180104 + 0x20 * n
def Reg.CIPH_KSn_USED (n : Nat) : Nat := 0x180108 + 0x20 * n
def Reg.CIPH_KSn_WARN (n : Nat) : Nat := 0x180110 + 0x20 * n
def Reg.CIPH_KSn_CTRL (n : Nat) : Nat := 0x180114 + 0x20 * n
def Reg.CIPH_AFA_CNTk (k : Nat) : Nat := 0x180900 + 8 * k
def Reg.CIPH_AFA_LAST : Nat := 0x180960
def Reg.CIPH_AFA_LAST_TIME : Nat := 0x180968

-- LSEC
def Reg.LSEC_Ll_CTRL (l : Nat) : Nat := 0x190000 + 0x1000 * l
def Reg.LSEC_Ll_REPLAY_WIN (l : Nat) : Nat := 0x190004 + 0x1000 * l
def Reg.LSEC_Ll_SCI (l : Nat) : Nat := 0x190008 + 0x1000 * l
def Reg.LSEC_Ll_PN_THR (l : Nat) : Nat := 0x190010 + 0x1000 * l
def Reg.LSEC_Ll_CNTk (l : Nat) (k : Nat) : Nat := 0x194000 + 0x100 * l + 8 * k
def Reg.LSEC_CFG_ERR : Nat := 0x195000
def Reg.LSEC_TXSA_KEY (l : Nat) (a : Nat) (k : Nat) : Nat := 0x190100 + 0x1000 * l + 0x80 * a + 4 * k
def Reg.LSEC_TXSA_SALT (l : Nat) (a : Nat) (k : Nat) : Nat := 0x190120 + 0x1000 * l + 0x80 * a + 4 * k
def Reg.LSEC_TXSA_SSCI (l : Nat) (a : Nat) : Nat := 0x19012C + 0x1000 * l + 0x80 * a
def Reg.LSEC_TXSA_PN (l : Nat) (a : Nat) : Nat := 0x190130 + 0x1000 * l + 0x80 * a
def Reg.LSEC_TXSA_CTRL (l : Nat) (a : Nat) : Nat := 0x190138 + 0x1000 * l + 0x80 * a
def Reg.LSEC_RXSA_KEY (l : Nat) (c : Nat) (a : Nat) (k : Nat) : Nat := 0x190440 + 0x1000 * l + 0x180 * c + 0x40 * a + 4 * k
def Reg.LSEC_RXSA_SALT (l : Nat) (c : Nat) (a : Nat) (k : Nat) : Nat := 0x190460 + 0x1000 * l + 0x180 * c + 0x40 * a + 4 * k
def Reg.LSEC_RXSA_SSCI (l : Nat) (c : Nat) (a : Nat) : Nat := 0x19046C + 0x1000 * l + 0x180 * c + 0x40 * a
def Reg.LSEC_RXSA_PN (l : Nat) (c : Nat) (a : Nat) : Nat := 0x190470 + 0x1000 * l + 0x180 * c + 0x40 * a
def Reg.LSEC_RXSA_CTRL (l : Nat) (c : Nat) (a : Nat) : Nat := 0x190478 + 0x1000 * l + 0x180 * c + 0x40 * a
def Reg.LSEC_RXSC_SCI (l : Nat) (c : Nat) : Nat := 0x190400 + 0x1000 * l + 0x180 * c
def Reg.LSEC_RXSC_CTRL (l : Nat) (c : Nat) : Nat := 0x190408 + 0x1000 * l + 0x180 * c

-- NEST
def Reg.NEST_CTRL : Nat := 0x1A0000
def Reg.NEST_COMMIT : Nat := 0x1A0004
def Reg.NEST_STATUS : Nat := 0x1A0008
def Reg.NEST_CFG_ERR : Nat := 0x1A000C
def Reg.NEST_TRAYID : Nat := 0x1A0010
def Reg.NEST_GRID : Nat := 0x1A0014
def Reg.NEST_TRAY_EXIT_X : Nat := 0x1A0028
def Reg.NEST_TRK_CFG : Nat := 0x1A0030
def Reg.NEST_GATE : Nat := 0x1A0034
def Reg.NEST_SETs_CFG (s : Nat) : Nat := 0x1A0060 + 0x20 * s
def Reg.NEST_SETs_CNTk (s : Nat) (k : Nat) : Nat := 0x1A00A0 + 0x30 * s + 8 * k
def Reg.NEST_IMGi_CFG (i : Nat) : Nat := 0x1A0100 + 0x100 * i
def Reg.NEST_IMGi_SIZE (i : Nat) : Nat := 0x1A0104 + 0x100 * i
def Reg.NEST_IMGi_GAIN (i : Nat) : Nat := 0x1A0108 + 0x100 * i
def Reg.NEST_IMGi_OFFSET (i : Nat) : Nat := 0x1A010C + 0x100 * i
def Reg.NEST_IMGi_LAT (i : Nat) : Nat := 0x1A0110 + 0x100 * i
def Reg.NEST_IMGi_ROI0 (i : Nat) : Nat := 0x1A0114 + 0x100 * i
def Reg.NEST_IMGi_ROI1 (i : Nat) : Nat := 0x1A0118 + 0x100 * i
def Reg.NEST_IMGi_DET (i : Nat) : Nat := 0x1A011C + 0x100 * i
def Reg.NEST_IMGi_AREA (i : Nat) : Nat := 0x1A0120 + 0x100 * i
def Reg.NEST_IMGi_EGO0 (i : Nat) : Nat := 0x1A0124 + 0x100 * i
def Reg.NEST_IMGi_EGO1 (i : Nat) : Nat := 0x1A0128 + 0x100 * i
def Reg.NEST_IMGi_FRAMES (i : Nat) : Nat := 0x1A0180 + 0x100 * i
def Reg.NEST_IMGi_DISCARD (i : Nat) : Nat := 0x1A0188 + 0x100 * i
def Reg.NEST_IMGi_LAST (i : Nat) : Nat := 0x1A0190 + 0x100 * i
def Reg.NEST_IMGi_EGO (i : Nat) : Nat := 0x1A0194 + 0x100 * i
def Reg.NEST_IMGi_EGO_Q (i : Nat) : Nat := 0x1A0198 + 0x100 * i
def Reg.NEST_IMGi_REF_T (i : Nat) : Nat := 0x1A01A4 + 0x100 * i
def Reg.NEST_IMGi_FSUM (i : Nat) : Nat := 0x1A01A8 + 0x100 * i
def Reg.NEST_IMGi_CNTk (i : Nat) (k : Nat) : Nat := 0x1A01B0 + 0x100 * i + 8 * k
def Reg.NEST_HOMOGi_k (i : Nat) (k : Nat) : Nat := 0x1A0300 + 0x40 * i + 4 * k
def Reg.NEST_ALMr_CTRL (r : Nat) : Nat := 0x1A0400 + 0x10 * r
def Reg.NEST_ALMr_THR (r : Nat) : Nat := 0x1A0404 + 0x10 * r
def Reg.NEST_ALMr_STOP_ID (r : Nat) : Nat := 0x1A0408 + 0x10 * r
def Reg.NEST_ALMr_STAT (r : Nat) : Nat := 0x1A040C + 0x10 * r
def Reg.NEST_PITCH_X : Nat := 0x1A0018
def Reg.NEST_PITCH_Y : Nat := 0x1A001C
def Reg.NEST_ORG_X : Nat := 0x1A0020
def Reg.NEST_ORG_Y : Nat := 0x1A0024
def Reg.NEST_Q_POS : Nat := 0x1A0040
def Reg.NEST_R_POS : Nat := 0x1A0044
def Reg.NEST_PV0_POS : Nat := 0x1A0048
def Reg.NEST_Q_T : Nat := 0x1A004C
def Reg.NEST_R_T : Nat := 0x1A0050
def Reg.NEST_PV0_T : Nat := 0x1A0054
def Reg.NEST_SETs_XMIN (s : Nat) : Nat := 0x1A0064 + 0x20 * s
def Reg.NEST_IMGi_COV_XMIN (i : Nat) : Nat := 0x1A0134 + 0x100 * i
def Reg.NEST_SETs_XMAX (s : Nat) : Nat := 0x1A0068 + 0x20 * s
def Reg.NEST_IMGi_COV_XMAX (i : Nat) : Nat := 0x1A0138 + 0x100 * i
def Reg.NEST_SETs_YMIN (s : Nat) : Nat := 0x1A006C + 0x20 * s
def Reg.NEST_IMGi_COV_YMIN (i : Nat) : Nat := 0x1A013C + 0x100 * i
def Reg.NEST_SETs_YMAX (s : Nat) : Nat := 0x1A0070 + 0x20 * s
def Reg.NEST_IMGi_COV_YMAX (i : Nat) : Nat := 0x1A0140 + 0x100 * i
def Reg.NEST_IMGi_REF0 (i : Nat) : Nat := 0x1A012C + 0x100 * i
def Reg.NEST_IMGi_REF1 (i : Nat) : Nat := 0x1A0130 + 0x100 * i
def Reg.NEST_IMGi_EGO_VX (i : Nat) : Nat := 0x1A019C + 0x100 * i
def Reg.NEST_IMGi_EGO_VY (i : Nat) : Nat := 0x1A01A0 + 0x100 * i
def Reg.NEST_AFFINE (i : Nat) (s : Nat) (w : Nat) : Nat := 0x1A1000 + 0x800 * i + 0x20 * s + 4 * w
def Reg.NEST_AFFINE_VALID (i : Nat) (s : Nat) : Nat := 0x1A1018 + 0x800 * i + 0x20 * s
def Reg.NEST_TRAY_CTX (s : Nat) (c : Nat) (w : Nat) : Nat := 0x1A2000 + 0x100 * s + 0x40 * c + 4 * w
def Reg.NEST_TRACK_WIN (t : Nat) (w : Nat) : Nat := 0x1A8000 + 0x30 * t + 4 * w

-- HAL
def Reg.HAL_CTRL : Nat := 0x1C0000
def Reg.HAL_CFG : Nat := 0x1C0004
def Reg.HAL_RPL : Nat := 0x1C0008
def Reg.HAL_EVID : Nat := 0x1C000C
def Reg.HAL_STATUS : Nat := 0x1C0010
def Reg.HAL_CLAIM : Nat := 0x1C0014
def Reg.HAL_HEALTH : Nat := 0x1C0018
def Reg.HAL_SKEW : Nat := 0x1C001C
def Reg.HAL_CFG_ERR : Nat := 0x1C0020
def Reg.HAL_LAST_CHANGE : Nat := 0x1C0028
def Reg.HAL_CNTk (k : Nat) : Nat := 0x1C0040 + 8 * k

-- PWR
def Reg.PWR_STATUS : Nat := 0x1D0000
def Reg.PWR_BRACE_CFG : Nat := 0x1D0004
def Reg.PWR_CFG_ERR : Nat := 0x1D0008
def Reg.PWR_WAKE_SRC : Nat := 0x1D000C
def Reg.PWR_LAST_FAIL : Nat := 0x1D0010
def Reg.PWR_CNTk (k : Nat) : Nat := 0x1D0020 + 8 * k
def Reg.PWR_Dd_CFG (d : Nat) : Nat := 0x1D0100 + 0x10 * d
def Reg.PWR_Dd_STAT (d : Nat) : Nat := 0x1D0104 + 0x10 * d
def Reg.PWR_Dd_CTRL (d : Nat) : Nat := 0x1D0108 + 0x10 * d

-- SHR
def Reg.SHR_CFG : Nat := 0x1E0000
def Reg.SHR_TERM_CFG : Nat := 0x1E0004
def Reg.SHR_CFG_ERR : Nat := 0x1E0008
def Reg.SHR_SENSE_STAT : Nat := 0x1E000C
def Reg.SHR_ACTIVE : Nat := 0x1E0010
def Reg.SHR_CANn_CFG (n : Nat) : Nat := 0x1E1000 + 0x10 * n
def Reg.SHR_CANn_STAT (n : Nat) : Nat := 0x1E1004 + 0x10 * n
def Reg.SHR_CANn_TERM (n : Nat) : Nat := 0x1E1008 + 0x10 * n
def Reg.SHR_T1Ss_STAT (s : Nat) : Nat := 0x1E1400 + 0x10 * s
def Reg.SHR_T1Ss_AMP (s : Nat) : Nat := 0x1E1404 + 0x10 * s
def Reg.SHR_CNTc (c : Nat) : Nat := 0x1E2000 + 8 * c

-- NVM
def Reg.NVM_STATUS : Nat := 0x1F0000
def Reg.NVM_SPARES : Nat := 0x1F0004
def Reg.NVM_JCFG : Nat := 0x1F0008
def Reg.NVM_JHEAD : Nat := 0x1F000C
def Reg.NVM_JTAIL : Nat := 0x1F0010
def Reg.NVM_JWIN : Nat := 0x1F0014
def Reg.NVM_SECT_SEL : Nat := 0x1F0018
def Reg.NVM_SECT_ERASES : Nat := 0x1F001C
def Reg.NVM_SECT_STAT : Nat := 0x1F0020
def Reg.NVM_CFG_CMD : Nat := 0x1F0028
def Reg.NVM_CFG_STAT : Nat := 0x1F002C
def Reg.NVM_BANKb (b : Nat) : Nat := 0x1F0030 + 4 * b
def Reg.NVM_UPD_SRC : Nat := 0x1F0040
def Reg.NVM_UPD_LEN : Nat := 0x1F0048
def Reg.NVM_UPD_CTRL : Nat := 0x1F004C
def Reg.NVM_UPD_STATUS : Nat := 0x1F0050
def Reg.NVM_UPD_TMO : Nat := 0x1F0054
def Reg.NVM_UPD_LEFT : Nat := 0x1F0058
def Reg.NVM_SLOTs_VER (s : Nat) : Nat := 0x1F0060 + 0x20 * s
def Reg.NVM_SLOTs_SVN (s : Nat) : Nat := 0x1F0064 + 0x20 * s
def Reg.NVM_SLOTs_FMT (s : Nat) : Nat := 0x1F0068 + 0x20 * s
def Reg.NVM_SLOTs_STAT (s : Nat) : Nat := 0x1F006C + 0x20 * s
def Reg.NVM_MIN_SVN : Nat := 0x1F00A0
def Reg.NVM_FLASH_ID : Nat := 0x1F00A4
def Reg.NVM_CFG_ERR : Nat := 0x1F00A8
def Reg.NVM_SNAPr_BASE (r : Nat) : Nat := 0x1F0100 + 0x10 * r
def Reg.NVM_SNAPr_CTRL (r : Nat) : Nat := 0x1F0104 + 0x10 * r
def Reg.NVM_SNAPr_STRIDE (r : Nat) : Nat := 0x1F0108 + 0x10 * r
def Reg.NVM_CNTk (k : Nat) : Nat := 0x1F0400 + 8 * k

-- PIN
def Reg.PIN_CFGp (p : Nat) : Nat := 0x200000 + 8 * p
def Reg.PIN_STATp (p : Nat) : Nat := 0x200004 + 8 * p
def Reg.PIN_OUTw (w : Nat) : Nat := 0x200400 + 4 * w
def Reg.PIN_OEw (w : Nat) : Nat := 0x200410 + 4 * w
def Reg.PIN_SETw (w : Nat) : Nat := 0x200420 + 4 * w
def Reg.PIN_CLRw (w : Nat) : Nat := 0x200430 + 4 * w
def Reg.PIN_INw (w : Nat) : Nat := 0x200440 + 4 * w
def Reg.PIN_CFG_ERR : Nat := 0x200450
def Reg.PIN_MULTI_IN : Nat := 0x200454

-- MGT
def Reg.MGT_STATUS : Nat := 0x210000
def Reg.MGT_VIEW_TIME : Nat := 0x210008
def Reg.MGT_SKEW_LAST : Nat := 0x210010
def Reg.MGT_SKEW_TIME : Nat := 0x210018
def Reg.MGT_NET_CFG : Nat := 0x210020
def Reg.MGT_NET_IP4 : Nat := 0x210024
def Reg.MGT_NET_PREFIX : Nat := 0x210028
def Reg.MGT_NET_IP6k (k : Nat) : Nat := 0x210030 + 4 * k
def Reg.MGT_NET_PEERp_k (p : Nat) (k : Nat) : Nat := 0x210040 + 0x10 * p + 4 * k
def Reg.MGT_SNAP_ADDR : Nat := 0x210080
def Reg.MGT_SNAP_RANGES : Nat := 0x210088
def Reg.MGT_SNAP_GO : Nat := 0x21008C
def Reg.MGT_SNAP_STAT : Nat := 0x210090
def Reg.MGT_CFG_ERR : Nat := 0x210094
def Reg.MGT_CNTk (k : Nat) : Nat := 0x210100 + 8 * k
def Reg.MGT_PORTn (n : Nat) : Nat := 0x211000 + 4 * n
def Reg.MGT_PDd (d : Nat) : Nat := 0x211200 + 4 * d
def Reg.MGT_TXRn (n : Nat) : Nat := 0x211300 + 4 * n
def Reg.MGT_RXRn (n : Nat) : Nat := 0x211400 + 4 * n
def Reg.MGT_TSETs (s : Nat) : Nat := 0x211500 + 4 * s
def Reg.MGT_PARTNER : Nat := 0x211600

/-- A field of a 32-bit register: the register's offset and the field's top and bottom bits. -/
structure Fld where
  off : Nat
  hi : Nat
  lo : Nat
  deriving DecidableEq, Repr

-- GLB
def Fld.GLB_RESET_WARM : Fld := ⟨Reg.GLB_RESET, 0, 0⟩
def Fld.GLB_RESET_CONFIRM : Fld := ⟨Reg.GLB_RESET, 31, 16⟩
def Fld.GLB_RESET_CAUSE_CAUSE : Fld := ⟨Reg.GLB_RESET_CAUSE, 7, 0⟩
def Fld.GLB_RESET_CAUSE_STARTS : Fld := ⟨Reg.GLB_RESET_CAUSE, 31, 16⟩
def Fld.GLB_BOOT_STATUS_RECOVERY : Fld := ⟨Reg.GLB_BOOT_STATUS, 0, 0⟩
def Fld.GLB_BOOT_STATUS_FW_RUNNING : Fld := ⟨Reg.GLB_BOOT_STATUS, 1, 1⟩
def Fld.GLB_BOOT_STATUS_SLOT : Fld := ⟨Reg.GLB_BOOT_STATUS, 2, 2⟩
def Fld.GLB_BOOT_STATUS_BANK : Fld := ⟨Reg.GLB_BOOT_STATUS, 3, 3⟩
def Fld.GLB_BOOT_STATUS_ALT_SLOT : Fld := ⟨Reg.GLB_BOOT_STATUS, 4, 4⟩
def Fld.GLB_BOOT_STATUS_RESULT : Fld := ⟨Reg.GLB_BOOT_STATUS, 11, 8⟩
def Fld.GLB_LOCK_LOCK : Fld := ⟨Reg.GLB_LOCK, 0, 0⟩
def Fld.GLB_LOCK_PENDING : Fld := ⟨Reg.GLB_LOCK, 1, 1⟩
def Fld.GLB_STRAPS_UNIT_ID : Fld := ⟨Reg.GLB_STRAPS, 0, 0⟩
def Fld.GLB_STRAPS_RECOVERY : Fld := ⟨Reg.GLB_STRAPS, 1, 1⟩
def Fld.GLB_ID_DEVICE : Fld := ⟨Reg.GLB_ID, 15, 0⟩
def Fld.GLB_ID_STEPPING : Fld := ⟨Reg.GLB_ID, 23, 16⟩
def Fld.GLB_ID_FAMILY : Fld := ⟨Reg.GLB_ID, 31, 24⟩
def Fld.GLB_VENDOR_PCI_VID : Fld := ⟨Reg.GLB_VENDOR, 15, 0⟩
def Fld.GLB_TEMP_T : Fld := ⟨Reg.GLB_TEMP, 15, 0⟩
def Fld.GLB_AF_NEXT_NEXT : Fld := ⟨Reg.GLB_AF_NEXT, 2, 0⟩
def Fld.GLB_AF_NEXT_WRAPPED : Fld := ⟨Reg.GLB_AF_NEXT, 3, 3⟩
def Fld.GLB_AF_CTRL_CLEAR : Fld := ⟨Reg.GLB_AF_CTRL, 0, 0⟩
def Fld.GLB_AFi_ADDR_OFFSET (i : Nat) : Fld := ⟨Reg.GLB_AFi_ADDR i, 27, 0⟩

-- BEAT
def Fld.BEAT_STATUS_LEN_CUR : Fld := ⟨Reg.BEAT_STATUS, 2, 0⟩
def Fld.BEAT_STATUS_TIME_LOCKED : Fld := ⟨Reg.BEAT_STATUS, 3, 3⟩
def Fld.BEAT_STATUS_REALIGNING : Fld := ⟨Reg.BEAT_STATUS, 4, 4⟩
def Fld.BEAT_STATUS_LEN_ARMED : Fld := ⟨Reg.BEAT_STATUS, 5, 5⟩
def Fld.BEAT_STATUS_SLOT_ARMED : Fld := ⟨Reg.BEAT_STATUS, 6, 6⟩
def Fld.BEAT_STATUS_SLOT_CUR : Fld := ⟨Reg.BEAT_STATUS, 10, 8⟩
def Fld.BEAT_STATUS_BEAT_NUM : Fld := ⟨Reg.BEAT_STATUS, 28, 16⟩
def Fld.BEAT_LEN_NEXT_LEN : Fld := ⟨Reg.BEAT_LEN_NEXT, 2, 0⟩
def Fld.BEAT_LEN_NEXT_ARM : Fld := ⟨Reg.BEAT_LEN_NEXT, 31, 31⟩
def Fld.BEAT_SLOT_NEXT0_INTAKE : Fld := ⟨Reg.BEAT_SLOT_NEXT0, 9, 0⟩
def Fld.BEAT_SLOT_NEXT0_COMMIT : Fld := ⟨Reg.BEAT_SLOT_NEXT0, 25, 16⟩
def Fld.BEAT_SLOT_NEXT1_AUTH : Fld := ⟨Reg.BEAT_SLOT_NEXT1, 9, 0⟩
def Fld.BEAT_SLOT_NEXT1_SERVICE : Fld := ⟨Reg.BEAT_SLOT_NEXT1, 25, 16⟩
def Fld.BEAT_SLOT_NEXT2_WRITEBACK : Fld := ⟨Reg.BEAT_SLOT_NEXT2, 9, 0⟩
def Fld.BEAT_SLOT_NEXT2_ARM : Fld := ⟨Reg.BEAT_SLOT_NEXT2, 31, 31⟩
def Fld.BEAT_SLOT_CUR0_LO : Fld := ⟨Reg.BEAT_SLOT_CUR0, 9, 0⟩
def Fld.BEAT_SLOT_CUR0_HI : Fld := ⟨Reg.BEAT_SLOT_CUR0, 25, 16⟩
def Fld.BEAT_SLOT_CUR1_LO : Fld := ⟨Reg.BEAT_SLOT_CUR1, 9, 0⟩
def Fld.BEAT_SLOT_CUR1_HI : Fld := ⟨Reg.BEAT_SLOT_CUR1, 25, 16⟩
def Fld.BEAT_SLOT_CUR2_WRITEBACK : Fld := ⟨Reg.BEAT_SLOT_CUR2, 9, 0⟩
def Fld.BEAT_CFG_ERR_LEN_CODE : Fld := ⟨Reg.BEAT_CFG_ERR, 0, 0⟩
def Fld.BEAT_CFG_ERR_SLOT_RANGE : Fld := ⟨Reg.BEAT_CFG_ERR, 1, 1⟩
def Fld.BEAT_CFG_ERR_SLOT_SUM : Fld := ⟨Reg.BEAT_CFG_ERR, 2, 2⟩
def Fld.BEAT_CFG_ERR_SLOT_MIN_TIME : Fld := ⟨Reg.BEAT_CFG_ERR, 3, 3⟩
def Fld.BEAT_OVERRUN_SLOT : Fld := ⟨Reg.BEAT_OVERRUN, 4, 0⟩
def Fld.BEAT_LAST_OVR_SLOT : Fld := ⟨Reg.BEAT_LAST_OVR, 2, 0⟩
def Fld.BEAT_LAST_OVR_BEAT_NUM : Fld := ⟨Reg.BEAT_LAST_OVR, 28, 16⟩
def Fld.BEAT_PEAKn_USED (n : Nat) : Fld := ⟨Reg.BEAT_PEAKn n, 10, 0⟩

-- TIME
def Fld.TIME_STATUS_STATE : Fld := ⟨Reg.TIME_STATUS, 2, 0⟩
def Fld.TIME_STATUS_EVER_LOCKED : Fld := ⟨Reg.TIME_STATUS, 3, 3⟩
def Fld.TIME_STATUS_SLEW_CLAMPED : Fld := ⟨Reg.TIME_STATUS, 4, 4⟩
def Fld.TIME_STATUS_STEP_PENDING : Fld := ⟨Reg.TIME_STATUS, 5, 5⟩
def Fld.TIME_STATUS_MASTER_PORT : Fld := ⟨Reg.TIME_STATUS, 14, 8⟩
def Fld.TIME_SLEW_LIMIT_PPM : Fld := ⟨Reg.TIME_SLEW_LIMIT, 9, 0⟩
def Fld.TIME_JUMP_THR_NS : Fld := ⟨Reg.TIME_JUMP_THR, 29, 0⟩
def Fld.TIME_SERVO_TAU_MS : Fld := ⟨Reg.TIME_SERVO, 9, 0⟩
def Fld.TIME_STEP_CTRL_MODE : Fld := ⟨Reg.TIME_STEP_CTRL, 1, 0⟩
def Fld.TIME_STEP_CTRL_GO : Fld := ⟨Reg.TIME_STEP_CTRL, 31, 31⟩
def Fld.TIME_STEP_STATUS_RESULT : Fld := ⟨Reg.TIME_STEP_STATUS, 2, 0⟩
def Fld.TIME_PTP_CFG_PROFILE : Fld := ⟨Reg.TIME_PTP_CFG, 1, 0⟩
def Fld.TIME_PTP_CFG_DOMAIN : Fld := ⟨Reg.TIME_PTP_CFG, 14, 8⟩
def Fld.TIME_PTP_CFG_GM_CAPABLE : Fld := ⟨Reg.TIME_PTP_CFG, 16, 16⟩
def Fld.TIME_PTP_PRIO_PRIORITY2 : Fld := ⟨Reg.TIME_PTP_PRIO, 7, 0⟩
def Fld.TIME_PTP_PRIO_PRIORITY1 : Fld := ⟨Reg.TIME_PTP_PRIO, 15, 8⟩
def Fld.TIME_PTP_QUAL_CLOCK_CLASS : Fld := ⟨Reg.TIME_PTP_QUAL, 7, 0⟩
def Fld.TIME_PTP_QUAL_CLOCK_ACCURACY : Fld := ⟨Reg.TIME_PTP_QUAL, 15, 8⟩
def Fld.TIME_PTP_QUAL_OSLV : Fld := ⟨Reg.TIME_PTP_QUAL, 31, 16⟩
def Fld.TIME_PORTp_EN (p : Nat) : Fld := ⟨Reg.TIME_PORTp p, 0, 0⟩
def Fld.TIME_PORTp_ROLE (p : Nat) : Fld := ⟨Reg.TIME_PORTp p, 2, 1⟩
def Fld.TIME_PORTp_P2P (p : Nat) : Fld := ⟨Reg.TIME_PORTp p, 3, 3⟩
def Fld.TIME_PORTp_ONE_STEP (p : Nat) : Fld := ⟨Reg.TIME_PORTp p, 4, 4⟩
def Fld.TIME_PORTp_LOG_SYNC (p : Nat) : Fld := ⟨Reg.TIME_PORTp p, 11, 8⟩
def Fld.TIME_PORTp_LOG_DELAY (p : Nat) : Fld := ⟨Reg.TIME_PORTp p, 15, 12⟩
def Fld.TIME_PORTp_TRANSPORT (p : Nat) : Fld := ⟨Reg.TIME_PORTp p, 17, 16⟩
def Fld.TIME_PORTp_LOG_ANNOUNCE (p : Nat) : Fld := ⟨Reg.TIME_PORTp p, 23, 20⟩
def Fld.TIME_PORTp_ANN_TMO (p : Nat) : Fld := ⟨Reg.TIME_PORTp p, 27, 24⟩
def Fld.TIME_ASYM_INn_IN (n : Nat) : Fld := ⟨Reg.TIME_ASYM_INn n, 19, 0⟩
def Fld.TIME_ASYM_EGn_EG (n : Nat) : Fld := ⟨Reg.TIME_ASYM_EGn n, 19, 0⟩
def Fld.TIME_ASYM_LINKn_LINK (n : Nat) : Fld := ⟨Reg.TIME_ASYM_LINKn n, 23, 0⟩
def Fld.TIME_BCN_CFG_PERIOD : Fld := ⟨Reg.TIME_BCN_CFG, 15, 0⟩
def Fld.TIME_BCN_CFG_PHASE : Fld := ⟨Reg.TIME_BCN_CFG, 31, 16⟩
def Fld.TIME_BCN_ID_ID : Fld := ⟨Reg.TIME_BCN_ID, 28, 0⟩
def Fld.TIME_BCN_ID_IDE : Fld := ⟨Reg.TIME_BCN_ID, 31, 31⟩
def Fld.TIME_BCN_FMT_XL : Fld := ⟨Reg.TIME_BCN_FMT, 0, 0⟩
def Fld.TIME_BCN_FMT_BRS : Fld := ⟨Reg.TIME_BCN_FMT, 1, 1⟩
def Fld.TIME_BCN_FMT_AFA12 : Fld := ⟨Reg.TIME_BCN_FMT, 2, 2⟩
def Fld.TIME_BCN_FMT_KEY_SLOT : Fld := ⟨Reg.TIME_BCN_FMT, 13, 8⟩
def Fld.TIME_BCN_EN1_PORTS : Fld := ⟨Reg.TIME_BCN_EN1, 15, 0⟩
def Fld.TIME_BCN_XL_SDT : Fld := ⟨Reg.TIME_BCN_XL, 7, 0⟩
def Fld.TIME_BCN_XL_VCID : Fld := ⟨Reg.TIME_BCN_XL, 15, 8⟩
def Fld.TIME_CAPu_CFG_START_PIN (u : Nat) : Fld := ⟨Reg.TIME_CAPu_CFG u, 6, 0⟩
def Fld.TIME_CAPu_CFG_START_EDGE (u : Nat) : Fld := ⟨Reg.TIME_CAPu_CFG u, 9, 8⟩
def Fld.TIME_CAPu_CFG_STOP_PIN (u : Nat) : Fld := ⟨Reg.TIME_CAPu_CFG u, 22, 16⟩
def Fld.TIME_CAPu_CFG_STOP_EDGE (u : Nat) : Fld := ⟨Reg.TIME_CAPu_CFG u, 25, 24⟩
def Fld.TIME_CAPu_CFG_EN (u : Nat) : Fld := ⟨Reg.TIME_CAPu_CFG u, 31, 31⟩
def Fld.TIME_CAPu_FILT_FILT (u : Nat) : Fld := ⟨Reg.TIME_CAPu_FILT u, 7, 0⟩
def Fld.TIME_CAPu_STAT_OPEN (u : Nat) : Fld := ⟨Reg.TIME_CAPu_STAT u, 0, 0⟩
def Fld.TIME_CAPu_STAT_BUF (u : Nat) : Fld := ⟨Reg.TIME_CAPu_STAT u, 11, 8⟩
def Fld.TIME_CAPu_STAT_SEQ (u : Nat) : Fld := ⟨Reg.TIME_CAPu_STAT u, 31, 16⟩
def Fld.TIME_CAP_RING_RING : Fld := ⟨Reg.TIME_CAP_RING, 5, 0⟩
def Fld.TIME_CAP_RING_EN : Fld := ⟨Reg.TIME_CAP_RING, 31, 31⟩
def Fld.TIME_CANDUR_EN1_PORTS : Fld := ⟨Reg.TIME_CANDUR_EN1, 15, 0⟩
def Fld.TIME_CFG_ERR_SLEW_RANGE : Fld := ⟨Reg.TIME_CFG_ERR, 0, 0⟩
def Fld.TIME_CFG_ERR_JUMP_RANGE : Fld := ⟨Reg.TIME_CFG_ERR, 1, 1⟩
def Fld.TIME_CFG_ERR_PORT_ROLE : Fld := ⟨Reg.TIME_CFG_ERR, 2, 2⟩
def Fld.TIME_CFG_ERR_BCN_FORMAT : Fld := ⟨Reg.TIME_CFG_ERR, 3, 3⟩
def Fld.TIME_CFG_ERR_BCN_PERIOD : Fld := ⟨Reg.TIME_CFG_ERR, 4, 4⟩
def Fld.TIME_CFG_ERR_CAP_RING : Fld := ⟨Reg.TIME_CFG_ERR, 5, 5⟩
def Fld.TIME_CFG_ERR_TAU_RANGE : Fld := ⟨Reg.TIME_CFG_ERR, 6, 6⟩
def Fld.TIME_CFG_ERR_PTP_DOMAIN : Fld := ⟨Reg.TIME_CFG_ERR, 7, 7⟩

-- HIF
def Fld.HIF_CTRL_EN : Fld := ⟨Reg.HIF_CTRL, 0, 0⟩
def Fld.HIF_STATUS_RUNNING : Fld := ⟨Reg.HIF_STATUS, 0, 0⟩
def Fld.HIF_STATUS_LINK_UP : Fld := ⟨Reg.HIF_STATUS, 1, 1⟩
def Fld.HIF_STATUS_DB_ERR : Fld := ⟨Reg.HIF_STATUS, 2, 2⟩
def Fld.HIF_DB_BASE_LO_ADDR : Fld := ⟨Reg.HIF_DB_BASE_LO, 31, 12⟩
def Fld.HIF_CIP_BASE_LO_ADDR : Fld := ⟨Reg.HIF_CIP_BASE_LO, 31, 12⟩
def Fld.HIF_ERR_VEC_VEC : Fld := ⟨Reg.HIF_ERR_VEC, 7, 0⟩
def Fld.HIF_CFG_ERR_BASE_BUSY : Fld := ⟨Reg.HIF_CFG_ERR, 0, 0⟩
def Fld.HIF_CFG_ERR_RING_SIZE : Fld := ⟨Reg.HIF_CFG_ERR, 1, 1⟩
def Fld.HIF_CFG_ERR_RING63_KIND : Fld := ⟨Reg.HIF_CFG_ERR, 2, 2⟩
def Fld.HIF_CFG_ERR_QUOTA_ZERO : Fld := ⟨Reg.HIF_CFG_ERR, 3, 3⟩
def Fld.HIF_CFG_ERR_HOLD_LIM_RANGE : Fld := ⟨Reg.HIF_CFG_ERR, 4, 4⟩
def Fld.HIF_TXn_BASE_LO_ADDR (n : Nat) : Fld := ⟨Reg.HIF_TXn_BASE_LO n, 31, 12⟩
def Fld.HIF_TXn_CBASE_LO_ADDR (n : Nat) : Fld := ⟨Reg.HIF_TXn_CBASE_LO n, 31, 12⟩
def Fld.HIF_TXn_CFG_EN (n : Nat) : Fld := ⟨Reg.HIF_TXn_CFG n, 0, 0⟩
def Fld.HIF_TXn_CFG_LOG2 (n : Nat) : Fld := ⟨Reg.HIF_TXn_CFG n, 12, 8⟩
def Fld.HIF_TXn_CFG_QUOTA (n : Nat) : Fld := ⟨Reg.HIF_TXn_CFG n, 23, 16⟩
def Fld.HIF_TXn_IRQ_VEC (n : Nat) : Fld := ⟨Reg.HIF_TXn_IRQ n, 7, 0⟩
def Fld.HIF_TXn_IRQ_THRESH (n : Nat) : Fld := ⟨Reg.HIF_TXn_IRQ n, 23, 8⟩
def Fld.HIF_TXn_IRQ_BEATS (n : Nat) : Fld := ⟨Reg.HIF_TXn_IRQ n, 31, 24⟩
def Fld.HIF_TXn_STAT_STATE (n : Nat) : Fld := ⟨Reg.HIF_TXn_STAT n, 1, 0⟩
def Fld.HIF_TXn_STAT_FAULT (n : Nat) : Fld := ⟨Reg.HIF_TXn_STAT n, 7, 4⟩
def Fld.HIF_TXn_STAT_OUTSTANDING (n : Nat) : Fld := ⟨Reg.HIF_TXn_STAT n, 31, 16⟩
def Fld.HIF_RXn_BASE_LO_ADDR (n : Nat) : Fld := ⟨Reg.HIF_RXn_BASE_LO n, 31, 12⟩
def Fld.HIF_RXn_CFG_EN (n : Nat) : Fld := ⟨Reg.HIF_RXn_CFG n, 0, 0⟩
def Fld.HIF_RXn_CFG_KIND (n : Nat) : Fld := ⟨Reg.HIF_RXn_CFG n, 1, 1⟩
def Fld.HIF_RXn_CFG_POLICY (n : Nat) : Fld := ⟨Reg.HIF_RXn_CFG n, 2, 2⟩
def Fld.HIF_RXn_CFG_LOG2 (n : Nat) : Fld := ⟨Reg.HIF_RXn_CFG n, 12, 8⟩
def Fld.HIF_RXn_CFG_HOLD_LIM (n : Nat) : Fld := ⟨Reg.HIF_RXn_CFG n, 31, 16⟩
def Fld.HIF_RXn_IRQ_VEC (n : Nat) : Fld := ⟨Reg.HIF_RXn_IRQ n, 7, 0⟩
def Fld.HIF_RXn_IRQ_THRESH (n : Nat) : Fld := ⟨Reg.HIF_RXn_IRQ n, 23, 8⟩
def Fld.HIF_RXn_IRQ_BEATS (n : Nat) : Fld := ⟨Reg.HIF_RXn_IRQ n, 31, 24⟩
def Fld.HIF_RXn_STAT_STATE (n : Nat) : Fld := ⟨Reg.HIF_RXn_STAT n, 1, 0⟩
def Fld.HIF_RXn_STAT_FAULT (n : Nat) : Fld := ⟨Reg.HIF_RXn_STAT n, 7, 4⟩
def Fld.HIF_RXn_STAT_HELD (n : Nat) : Fld := ⟨Reg.HIF_RXn_STAT n, 31, 16⟩

-- FAB
def Fld.FAB_CTRL_MISS_DELIVER : Fld := ⟨Reg.FAB_CTRL, 0, 0⟩
def Fld.FAB_CTRL_MISS_RING : Fld := ⟨Reg.FAB_CTRL, 13, 8⟩
def Fld.FAB_STATUS_COMMIT : Fld := ⟨Reg.FAB_STATUS, 1, 0⟩
def Fld.FAB_COMMIT_GO : Fld := ⟨Reg.FAB_COMMIT, 0, 0⟩
def Fld.FAB_COMMIT_RES_RESULT : Fld := ⟨Reg.FAB_COMMIT_RES, 1, 0⟩
def Fld.FAB_COMMIT_RES_REASON : Fld := ⟨Reg.FAB_COMMIT_RES, 7, 4⟩
def Fld.FAB_COMMIT_RES_ENTRY : Fld := ⟨Reg.FAB_COMMIT_RES, 27, 16⟩
def Fld.FAB_COMMIT_RES_TABLE : Fld := ⟨Reg.FAB_COMMIT_RES, 29, 28⟩
def Fld.FAB_FREE_BLOCKS : Fld := ⟨Reg.FAB_FREE, 16, 0⟩
def Fld.FAB_HOSTBUF_BLOCKS : Fld := ⟨Reg.FAB_HOSTBUF, 16, 0⟩
def Fld.FAB_TUN_ETYPE_ETYPE : Fld := ⟨Reg.FAB_TUN_ETYPE, 15, 0⟩
def Fld.FAB_UNIT_TAG_TAG : Fld := ⟨Reg.FAB_UNIT_TAG, 15, 0⟩
def Fld.FAB_CFG_ERR_WIN_BUSY : Fld := ⟨Reg.FAB_CFG_ERR, 0, 0⟩
def Fld.FAB_CFG_ERR_HOSTBUF_RANGE : Fld := ⟨Reg.FAB_CFG_ERR, 1, 1⟩
def Fld.FAB_CFG_ERR_QCFG_RANGE : Fld := ⟨Reg.FAB_CFG_ERR, 2, 2⟩
def Fld.FAB_CFG_ERR_MISS_RING : Fld := ⟨Reg.FAB_CFG_ERR, 3, 3⟩
def Fld.FAB_CLASSc_WOE (c : Nat) : Fld := ⟨Reg.FAB_CLASSc c, 0, 0⟩
def Fld.FAB_QCFGp_c_DEPTH (p : Nat) (c : Nat) : Fld := ⟨Reg.FAB_QCFGp_c p c, 15, 0⟩
def Fld.FAB_QCFGp_c_HOLD (p : Nat) (c : Nat) : Fld := ⟨Reg.FAB_QCFGp_c p c, 31, 16⟩
def Fld.FAB_QSTATp_NONEMPTY (p : Nat) : Fld := ⟨Reg.FAB_QSTATp p, 7, 0⟩
def Fld.FAB_QSTATp_HELD (p : Nat) : Fld := ⟨Reg.FAB_QSTATp p, 15, 8⟩
def Fld.FAB_QSTATp_FRAMES (p : Nat) : Fld := ⟨Reg.FAB_QSTATp p, 31, 16⟩
def Fld.FAB_RA_STATj_ACTIVE (j : Nat) : Fld := ⟨Reg.FAB_RA_STATj j, 0, 0⟩
def Fld.FAB_RA_STATj_DISABLED (j : Nat) : Fld := ⟨Reg.FAB_RA_STATj j, 1, 1⟩
def Fld.FAB_RA_STATj_REASON (j : Nat) : Fld := ⟨Reg.FAB_RA_STATj j, 3, 2⟩
def Fld.FAB_RA_STATj_WINDOW (j : Nat) : Fld := ⟨Reg.FAB_RA_STATj j, 6, 4⟩
def Fld.FAB_RA_STATj_CANCELS (j : Nat) : Fld := ⟨Reg.FAB_RA_STATj j, 31, 16⟩
def Fld.FAB_RA_REARM_ROUTE : Fld := ⟨Reg.FAB_RA_REARM, 11, 0⟩
def Fld.FAB_RA_REARM_GO : Fld := ⟨Reg.FAB_RA_REARM, 31, 31⟩
def Fld.FAB_RA_LAST_ROUTE : Fld := ⟨Reg.FAB_RA_LAST, 11, 0⟩
def Fld.FAB_RA_LAST_REASON : Fld := ⟨Reg.FAB_RA_LAST, 18, 16⟩
def Fld.FAB_RA_LAST_INGRESS : Fld := ⟨Reg.FAB_RA_LAST, 30, 24⟩

-- CANP
def Fld.CANP_MODE_EN (n : Nat) : Fld := ⟨Reg.CANP_MODE n, 0, 0⟩
def Fld.CANP_MODE_KIND (n : Nat) : Fld := ⟨Reg.CANP_MODE n, 2, 1⟩
def Fld.CANP_MODE_LISTEN (n : Nat) : Fld := ⟨Reg.CANP_MODE n, 3, 3⟩
def Fld.CANP_MODE_XL_FAST (n : Nat) : Fld := ⟨Reg.CANP_MODE n, 4, 4⟩
def Fld.CANP_MODE_TERM_EN (n : Nat) : Fld := ⟨Reg.CANP_MODE n, 5, 5⟩
def Fld.CANP_MODE_PAD (n : Nat) : Fld := ⟨Reg.CANP_MODE n, 15, 8⟩
def Fld.CANP_NBT_BRP_M1 (n : Nat) : Fld := ⟨Reg.CANP_NBT n, 4, 0⟩
def Fld.CANP_NBT_TSEG1_M1 (n : Nat) : Fld := ⟨Reg.CANP_NBT n, 15, 8⟩
def Fld.CANP_NBT_TSEG2_M1 (n : Nat) : Fld := ⟨Reg.CANP_NBT n, 22, 16⟩
def Fld.CANP_NBT_SJW_M1 (n : Nat) : Fld := ⟨Reg.CANP_NBT n, 30, 24⟩
def Fld.CANP_DBT_BRP_M1 (n : Nat) : Fld := ⟨Reg.CANP_DBT n, 4, 0⟩
def Fld.CANP_DBT_TSEG1_M1 (n : Nat) : Fld := ⟨Reg.CANP_DBT n, 15, 8⟩
def Fld.CANP_DBT_TSEG2_M1 (n : Nat) : Fld := ⟨Reg.CANP_DBT n, 22, 16⟩
def Fld.CANP_DBT_SJW_M1 (n : Nat) : Fld := ⟨Reg.CANP_DBT n, 30, 24⟩
def Fld.CANP_XBT_BRP_M1 (n : Nat) : Fld := ⟨Reg.CANP_XBT n, 4, 0⟩
def Fld.CANP_XBT_TSEG1_M1 (n : Nat) : Fld := ⟨Reg.CANP_XBT n, 15, 8⟩
def Fld.CANP_XBT_TSEG2_M1 (n : Nat) : Fld := ⟨Reg.CANP_XBT n, 22, 16⟩
def Fld.CANP_XBT_SJW_M1 (n : Nat) : Fld := ⟨Reg.CANP_XBT n, 30, 24⟩
def Fld.CANP_TDC_FD_EN (n : Nat) : Fld := ⟨Reg.CANP_TDC n, 0, 0⟩
def Fld.CANP_TDC_XL_EN (n : Nat) : Fld := ⟨Reg.CANP_TDC n, 1, 1⟩
def Fld.CANP_TDC_FD_OFS (n : Nat) : Fld := ⟨Reg.CANP_TDC n, 14, 8⟩
def Fld.CANP_TDC_XL_OFS (n : Nat) : Fld := ⟨Reg.CANP_TDC n, 22, 16⟩
def Fld.CANP_TIMING_GO_GO (n : Nat) : Fld := ⟨Reg.CANP_TIMING_GO n, 31, 31⟩
def Fld.CANP_STATUS_STATE (n : Nat) : Fld := ⟨Reg.CANP_STATUS n, 2, 0⟩
def Fld.CANP_STATUS_BOFF_PENDING (n : Nat) : Fld := ⟨Reg.CANP_STATUS n, 3, 3⟩
def Fld.CANP_STATUS_TX_ENABLED (n : Nat) : Fld := ⟨Reg.CANP_STATUS n, 4, 4⟩
def Fld.CANP_STATUS_TIMING_PENDING (n : Nat) : Fld := ⟨Reg.CANP_STATUS n, 5, 5⟩
def Fld.CANP_STATUS_TDCV (n : Nat) : Fld := ⟨Reg.CANP_STATUS n, 14, 8⟩
def Fld.CANP_STATUS_BOFF_SEQ (n : Nat) : Fld := ⟨Reg.CANP_STATUS n, 23, 16⟩
def Fld.CANP_ECNT_TEC (n : Nat) : Fld := ⟨Reg.CANP_ECNT n, 8, 0⟩
def Fld.CANP_ECNT_REC (n : Nat) : Fld := ⟨Reg.CANP_ECNT n, 23, 16⟩
def Fld.CANP_LAST_ERR_CODE (n : Nat) : Fld := ⟨Reg.CANP_LAST_ERR n, 2, 0⟩
def Fld.CANP_LAST_ERR_PHASE (n : Nat) : Fld := ⟨Reg.CANP_LAST_ERR n, 3, 3⟩
def Fld.CANP_LAST_ERR_DIR (n : Nat) : Fld := ⟨Reg.CANP_LAST_ERR n, 4, 4⟩
def Fld.CANP_CFG_ERR_NBT_RANGE (n : Nat) : Fld := ⟨Reg.CANP_CFG_ERR n, 0, 0⟩
def Fld.CANP_CFG_ERR_DBT_RANGE (n : Nat) : Fld := ⟨Reg.CANP_CFG_ERR n, 1, 1⟩
def Fld.CANP_CFG_ERR_XBT_RANGE (n : Nat) : Fld := ⟨Reg.CANP_CFG_ERR n, 2, 2⟩
def Fld.CANP_CFG_ERR_TDC_REQUIRED (n : Nat) : Fld := ⟨Reg.CANP_CFG_ERR n, 3, 3⟩
def Fld.CANP_CFG_ERR_KIND_LIVE (n : Nat) : Fld := ⟨Reg.CANP_CFG_ERR n, 4, 4⟩
def Fld.CANP_CFG_ERR_KIND_CODE (n : Nat) : Fld := ⟨Reg.CANP_CFG_ERR n, 5, 5⟩
def Fld.CANP_ACC_CFG_DEFAULT (n : Nat) : Fld := ⟨Reg.CANP_ACC_CFG n, 0, 0⟩
def Fld.CANP_ACCe_CTRL_VALID (n : Nat) (e : Nat) : Fld := ⟨Reg.CANP_ACCe_CTRL n e, 0, 0⟩
def Fld.CANP_ACCe_CTRL_REJECT (n : Nat) (e : Nat) : Fld := ⟨Reg.CANP_ACCe_CTRL n e, 1, 1⟩

-- REEF
def Fld.REEF_COMMIT_GO : Fld := ⟨Reg.REEF_COMMIT, 31, 31⟩
def Fld.REEF_STATUS_PENDING : Fld := ⟨Reg.REEF_STATUS, 0, 0⟩
def Fld.REEF_MUS_RING_RING : Fld := ⟨Reg.REEF_MUS_RING, 5, 0⟩
def Fld.REEF_MUS_RING_EN : Fld := ⟨Reg.REEF_MUS_RING, 31, 31⟩
def Fld.REEF_CFG_ERR_RANGE : Fld := ⟨Reg.REEF_CFG_ERR, 0, 0⟩
def Fld.REEF_CFG_ERR_SPAN : Fld := ⟨Reg.REEF_CFG_ERR, 1, 1⟩
def Fld.REEF_CFG_ERR_NOT_WAKEABLE : Fld := ⟨Reg.REEF_CFG_ERR, 2, 2⟩
def Fld.REEF_CFG_ERR_MUS_RING : Fld := ⟨Reg.REEF_CFG_ERR, 3, 3⟩
def Fld.REEF_SLEEP_MAP1_PORTS : Fld := ⟨Reg.REEF_SLEEP_MAP1, 15, 0⟩
def Fld.REEF_PORTn_CFG_SLEEP_EN (n : Nat) : Fld := ⟨Reg.REEF_PORTn_CFG n, 0, 0⟩
def Fld.REEF_PORTn_CFG_WAKE_MODE (n : Nat) : Fld := ⟨Reg.REEF_PORTn_CFG n, 2, 1⟩
def Fld.REEF_PORTn_CFG_QUAL (n : Nat) : Fld := ⟨Reg.REEF_PORTn_CFG n, 3, 3⟩
def Fld.REEF_PORTn_CFG_FORCE_AWAKE (n : Nat) : Fld := ⟨Reg.REEF_PORTn_CFG n, 4, 4⟩
def Fld.REEF_PORTn_CFG_DEC_WAKE_EN (n : Nat) : Fld := ⟨Reg.REEF_PORTn_CFG n, 5, 5⟩
def Fld.REEF_PORTn_CFG_FILT (n : Nat) : Fld := ⟨Reg.REEF_PORTn_CFG n, 12, 8⟩
def Fld.REEF_PORTn_CFG_WUP_TMO (n : Nat) : Fld := ⟨Reg.REEF_PORTn_CFG n, 31, 16⟩
def Fld.REEF_PORTn_IDLE_IDLE_MS (n : Nat) : Fld := ⟨Reg.REEF_PORTn_IDLE n, 15, 0⟩
def Fld.REEF_PORTn_IDLE_POST_MUS_MS (n : Nat) : Fld := ⟨Reg.REEF_PORTn_IDLE n, 31, 16⟩
def Fld.REEF_PORTn_INSOM_INSOMNIA_S (n : Nat) : Fld := ⟨Reg.REEF_PORTn_INSOM n, 15, 0⟩
def Fld.REEF_PORTn_TXWAKE_MODE (n : Nat) : Fld := ⟨Reg.REEF_PORTn_TXWAKE n, 1, 0⟩
def Fld.REEF_PORTn_TXWAKE_PHASE_US (n : Nat) : Fld := ⟨Reg.REEF_PORTn_TXWAKE n, 15, 8⟩
def Fld.REEF_PORTn_TXWAKE_DELAY_US (n : Nat) : Fld := ⟨Reg.REEF_PORTn_TXWAKE n, 31, 16⟩
def Fld.REEF_PORTn_TXWF_ID_ID (n : Nat) : Fld := ⟨Reg.REEF_PORTn_TXWF_ID n, 28, 0⟩
def Fld.REEF_PORTn_TXWF_ID_IDE (n : Nat) : Fld := ⟨Reg.REEF_PORTn_TXWF_ID n, 31, 31⟩
def Fld.REEF_PORTn_TXWF_DLC_DLC (n : Nat) : Fld := ⟨Reg.REEF_PORTn_TXWF_DLC n, 3, 0⟩
def Fld.REEF_PORTn_CTRL_WAKE (n : Nat) : Fld := ⟨Reg.REEF_PORTn_CTRL n, 0, 0⟩
def Fld.REEF_PORTn_STAT_STATE (n : Nat) : Fld := ⟨Reg.REEF_PORTn_STAT n, 1, 0⟩
def Fld.REEF_PORTn_STAT_LAST_REASON (n : Nat) : Fld := ⟨Reg.REEF_PORTn_STAT n, 6, 4⟩
def Fld.REEF_PORTn_STAT_CAP (n : Nat) : Fld := ⟨Reg.REEF_PORTn_STAT n, 10, 8⟩
def Fld.REEF_PORTn_STAT_POST_MUS (n : Nat) : Fld := ⟨Reg.REEF_PORTn_STAT n, 11, 11⟩
def Fld.REEF_WKn_w_CTRL_VALID (n : Nat) (w : Nat) : Fld := ⟨Reg.REEF_WKn_w_CTRL n w, 0, 0⟩
def Fld.REEF_WKn_w_CTRL_DLC_EN (n : Nat) (w : Nat) : Fld := ⟨Reg.REEF_WKn_w_CTRL n w, 1, 1⟩
def Fld.REEF_WKn_w_CTRL_DLC (n : Nat) (w : Nat) : Fld := ⟨Reg.REEF_WKn_w_CTRL n w, 11, 8⟩
def Fld.REEF_KPn_i_INFO_COUNT (n : Nat) (i : Nat) : Fld := ⟨Reg.REEF_KPn_i_INFO n i, 15, 0⟩
def Fld.REEF_KPn_i_INFO_OWN (n : Nat) (i : Nat) : Fld := ⟨Reg.REEF_KPn_i_INFO n i, 16, 16⟩
def Fld.REEF_KPn_i_INFO_VALID (n : Nat) (i : Nat) : Fld := ⟨Reg.REEF_KPn_i_INFO n i, 31, 31⟩
def Fld.REEF_MUSm_CTRL_VALID (m : Nat) : Fld := ⟨Reg.REEF_MUSm_CTRL m, 0, 0⟩
def Fld.REEF_MUSm_CTRL_PORT (m : Nat) : Fld := ⟨Reg.REEF_MUSm_CTRL m, 13, 8⟩
def Fld.REEF_MUSm_CTRL_NODE (m : Nat) : Fld := ⟨Reg.REEF_MUSm_CTRL m, 23, 16⟩
def Fld.REEF_MUSm_PERIOD_BEATS (m : Nat) : Fld := ⟨Reg.REEF_MUSm_PERIOD m, 23, 0⟩
def Fld.REEF_MUSm_PHASE_BEATS (m : Nat) : Fld := ⟨Reg.REEF_MUSm_PHASE m, 23, 0⟩
def Fld.REEF_MUSm_WIN_LEN (m : Nat) : Fld := ⟨Reg.REEF_MUSm_WIN m, 15, 0⟩
def Fld.REEF_MUSm_WIN_SLOT_OFS (m : Nat) : Fld := ⟨Reg.REEF_MUSm_WIN m, 31, 16⟩
def Fld.REEF_MUSm_GUARD_GUARD (m : Nat) : Fld := ⟨Reg.REEF_MUSm_GUARD m, 15, 0⟩
def Fld.REEF_MUSm_GUARD_CORR_THR (m : Nat) : Fld := ⟨Reg.REEF_MUSm_GUARD m, 31, 16⟩
def Fld.REEF_MUSm_STAT_MISSES (m : Nat) : Fld := ⟨Reg.REEF_MUSm_STAT m, 3, 0⟩
def Fld.REEF_MUSm_STAT_MULT_LOG (m : Nat) : Fld := ⟨Reg.REEF_MUSm_STAT m, 6, 4⟩
def Fld.REEF_MUSm_STAT_DRIFT_SUSPECT (m : Nat) : Fld := ⟨Reg.REEF_MUSm_STAT m, 8, 8⟩
def Fld.REEF_MUSm_STAT_CARD_LOST (m : Nat) : Fld := ⟨Reg.REEF_MUSm_STAT m, 9, 9⟩
def Fld.REEF_MUSm_STAT_DRIFT (m : Nat) : Fld := ⟨Reg.REEF_MUSm_STAT m, 31, 16⟩

-- ETH
def Fld.ETH_Pq_MODE_EN (q : Nat) : Fld := ⟨Reg.ETH_Pq_MODE q, 0, 0⟩
def Fld.ETH_Pq_MODE_PCS (q : Nat) : Fld := ⟨Reg.ETH_Pq_MODE q, 3, 1⟩
def Fld.ETH_Pq_MODE_FEC (q : Nat) : Fld := ⟨Reg.ETH_Pq_MODE q, 5, 4⟩
def Fld.ETH_Pq_MODE_AN_EN (q : Nat) : Fld := ⟨Reg.ETH_Pq_MODE q, 6, 6⟩
def Fld.ETH_Pq_MODE_PROMISC (q : Nat) : Fld := ⟨Reg.ETH_Pq_MODE q, 7, 7⟩
def Fld.ETH_Pq_MODE_TX_POL (q : Nat) : Fld := ⟨Reg.ETH_Pq_MODE q, 8, 8⟩
def Fld.ETH_Pq_MODE_RX_POL (q : Nat) : Fld := ⟨Reg.ETH_Pq_MODE q, 9, 9⟩
def Fld.ETH_Pq_MODE_RGMII_DLY (q : Nat) : Fld := ⟨Reg.ETH_Pq_MODE q, 11, 10⟩
def Fld.ETH_Pq_MAC_HI_MAC (q : Nat) : Fld := ⟨Reg.ETH_Pq_MAC_HI q, 15, 0⟩
def Fld.ETH_Pq_STATUS_STATE (q : Nat) : Fld := ⟨Reg.ETH_Pq_STATUS q, 2, 0⟩
def Fld.ETH_Pq_STATUS_AN_DONE (q : Nat) : Fld := ⟨Reg.ETH_Pq_STATUS q, 4, 4⟩
def Fld.ETH_Pq_STATUS_HI_BER (q : Nat) : Fld := ⟨Reg.ETH_Pq_STATUS q, 5, 5⟩
def Fld.ETH_Pq_STATUS_FEC_LOCK (q : Nat) : Fld := ⟨Reg.ETH_Pq_STATUS q, 6, 6⟩
def Fld.ETH_Pq_STATUS_HALF (q : Nat) : Fld := ⟨Reg.ETH_Pq_STATUS q, 7, 7⟩
def Fld.ETH_Pq_STATUS_SPEED (q : Nat) : Fld := ⟨Reg.ETH_Pq_STATUS q, 9, 8⟩
def Fld.ETH_MDIO_CMD_PHYAD : Fld := ⟨Reg.ETH_MDIO_CMD, 4, 0⟩
def Fld.ETH_MDIO_CMD_REG : Fld := ⟨Reg.ETH_MDIO_CMD, 9, 5⟩
def Fld.ETH_MDIO_CMD_CL45 : Fld := ⟨Reg.ETH_MDIO_CMD, 10, 10⟩
def Fld.ETH_MDIO_CMD_OP : Fld := ⟨Reg.ETH_MDIO_CMD, 12, 11⟩
def Fld.ETH_MDIO_CMD_BUSY : Fld := ⟨Reg.ETH_MDIO_CMD, 30, 30⟩
def Fld.ETH_MDIO_CMD_GO : Fld := ⟨Reg.ETH_MDIO_CMD, 31, 31⟩
def Fld.ETH_MDIO_DATA_DATA : Fld := ⟨Reg.ETH_MDIO_DATA, 15, 0⟩
def Fld.ETH_SMB_CFG_ADDR : Fld := ⟨Reg.ETH_SMB_CFG, 6, 0⟩
def Fld.ETH_SMB_CFG_PEC_REQ : Fld := ⟨Reg.ETH_SMB_CFG, 8, 8⟩
def Fld.ETH_SMB_CFG_WRITE_EN : Fld := ⟨Reg.ETH_SMB_CFG, 9, 9⟩
def Fld.ETH_CFG_ERR_PCS_CODE : Fld := ⟨Reg.ETH_CFG_ERR, 0, 0⟩
def Fld.ETH_CFG_ERR_FEC_MODE : Fld := ⟨Reg.ETH_CFG_ERR, 1, 1⟩
def Fld.ETH_CFG_ERR_MAC_ADDR : Fld := ⟨Reg.ETH_CFG_ERR, 2, 2⟩
def Fld.ETH_CFG_ERR_MDIO_BUSY : Fld := ⟨Reg.ETH_CFG_ERR, 3, 3⟩
def Fld.ETH_CFG_ERR_SMB_ADDR : Fld := ⟨Reg.ETH_CFG_ERR, 4, 4⟩

-- T1S
def Fld.T1S_Ss_CFG_EN (s : Nat) : Fld := ⟨Reg.T1S_Ss_CFG s, 0, 0⟩
def Fld.T1S_Ss_CFG_PLCA_EN (s : Nat) : Fld := ⟨Reg.T1S_Ss_CFG s, 1, 1⟩
def Fld.T1S_Ss_CFG_NODE_ID (s : Nat) : Fld := ⟨Reg.T1S_Ss_CFG s, 15, 8⟩
def Fld.T1S_Ss_CFG_NODE_CNT (s : Nat) : Fld := ⟨Reg.T1S_Ss_CFG s, 23, 16⟩
def Fld.T1S_Ss_CFG_TO_TIMER (s : Nat) : Fld := ⟨Reg.T1S_Ss_CFG s, 31, 24⟩
def Fld.T1S_Ss_BURST_MAX_BC (s : Nat) : Fld := ⟨Reg.T1S_Ss_BURST s, 7, 0⟩
def Fld.T1S_Ss_BURST_BTMR (s : Nat) : Fld := ⟨Reg.T1S_Ss_BURST s, 15, 8⟩
def Fld.T1S_Ss_MAC_HI_MAC (s : Nat) : Fld := ⟨Reg.T1S_Ss_MAC_HI s, 15, 0⟩
def Fld.T1S_Ss_STATUS_STATE (s : Nat) : Fld := ⟨Reg.T1S_Ss_STATUS s, 2, 0⟩
def Fld.T1S_Ss_STATUS_PLCA_STATUS (s : Nat) : Fld := ⟨Reg.T1S_Ss_STATUS s, 3, 3⟩
def Fld.T1S_Ss_STATUS_BEACONING (s : Nat) : Fld := ⟨Reg.T1S_Ss_STATUS s, 4, 4⟩
def Fld.T1S_Ss_STATUS_POL_CORRECTED (s : Nat) : Fld := ⟨Reg.T1S_Ss_STATUS s, 5, 5⟩
def Fld.T1S_CFG_ERR_NODE : Fld := ⟨Reg.T1S_CFG_ERR, 0, 0⟩
def Fld.T1S_CFG_ERR_MAC_ADDR : Fld := ⟨Reg.T1S_CFG_ERR, 1, 1⟩

-- SER
def Fld.SER_Cc_CFG_EN (c : Nat) : Fld := ⟨Reg.SER_Cc_CFG c, 0, 0⟩
def Fld.SER_Cc_CFG_DATA7 (c : Nat) : Fld := ⟨Reg.SER_Cc_CFG c, 1, 1⟩
def Fld.SER_Cc_CFG_PARITY (c : Nat) : Fld := ⟨Reg.SER_Cc_CFG c, 4, 2⟩
def Fld.SER_Cc_CFG_STOP2 (c : Nat) : Fld := ⟨Reg.SER_Cc_CFG c, 5, 5⟩
def Fld.SER_Cc_CFG_RS485 (c : Nat) : Fld := ⟨Reg.SER_Cc_CFG c, 6, 6⟩
def Fld.SER_Cc_CFG_RE_MODE (c : Nat) : Fld := ⟨Reg.SER_Cc_CFG c, 7, 7⟩
def Fld.SER_Cc_DIV_INT (c : Nat) : Fld := ⟨Reg.SER_Cc_DIV c, 17, 0⟩
def Fld.SER_Cc_DIV_FRAC (c : Nat) : Fld := ⟨Reg.SER_Cc_DIV c, 23, 18⟩
def Fld.SER_Cc_FRAME_IDLE_CH (c : Nat) : Fld := ⟨Reg.SER_Cc_FRAME c, 3, 0⟩
def Fld.SER_Cc_FRAME_DELIM_EN (c : Nat) : Fld := ⟨Reg.SER_Cc_FRAME c, 4, 4⟩
def Fld.SER_Cc_FRAME_DELIM (c : Nat) : Fld := ⟨Reg.SER_Cc_FRAME c, 15, 8⟩
def Fld.SER_Cc_FRAME_MAX_LEN (c : Nat) : Fld := ⟨Reg.SER_Cc_FRAME c, 27, 16⟩
def Fld.SER_Cc_DE_LEAD (c : Nat) : Fld := ⟨Reg.SER_Cc_DE c, 7, 0⟩
def Fld.SER_Cc_DE_LAG (c : Nat) : Fld := ⟨Reg.SER_Cc_DE c, 15, 8⟩
def Fld.SER_Cc_DE_IFG (c : Nat) : Fld := ⟨Reg.SER_Cc_DE c, 23, 16⟩
def Fld.SER_Cc_STATUS_STATE (c : Nat) : Fld := ⟨Reg.SER_Cc_STATUS c, 2, 0⟩
def Fld.SER_Cc_STATUS_RX_FRAME (c : Nat) : Fld := ⟨Reg.SER_Cc_STATUS c, 3, 3⟩
def Fld.SER_Cc_STATUS_TX_BUSY (c : Nat) : Fld := ⟨Reg.SER_Cc_STATUS c, 4, 4⟩
def Fld.SER_Cc_STATUS_DE (c : Nat) : Fld := ⟨Reg.SER_Cc_STATUS c, 5, 5⟩
def Fld.SER_CFG_ERR_DIV_RANGE : Fld := ⟨Reg.SER_CFG_ERR, 0, 0⟩
def Fld.SER_CFG_ERR_PARITY_CODE : Fld := ⟨Reg.SER_CFG_ERR, 1, 1⟩
def Fld.SER_CFG_ERR_FRAME_RANGE : Fld := ⟨Reg.SER_CFG_ERR, 2, 2⟩

-- CIPH
def Fld.CIPH_LOCK_OWNER : Fld := ⟨Reg.CIPH_LOCK, 2, 0⟩
def Fld.CIPH_LOCK_PEND : Fld := ⟨Reg.CIPH_LOCK, 14, 8⟩
def Fld.CIPH_STATUS_ALARM_LATCHED : Fld := ⟨Reg.CIPH_STATUS, 0, 0⟩
def Fld.CIPH_STATUS_CLEAR_LOAD_OPEN : Fld := ⟨Reg.CIPH_STATUS, 1, 1⟩
def Fld.CIPH_ALARM_SOURCE : Fld := ⟨Reg.CIPH_ALARM, 4, 0⟩
def Fld.CIPH_TAMPER_CFG_EN : Fld := ⟨Reg.CIPH_TAMPER_CFG, 0, 0⟩
def Fld.CIPH_TAMPER_CFG_ACTIVE_HIGH : Fld := ⟨Reg.CIPH_TAMPER_CFG, 1, 1⟩
def Fld.CIPH_TAMPER_CFG_FILT_US : Fld := ⟨Reg.CIPH_TAMPER_CFG, 15, 8⟩
def Fld.CIPH_FV_ADV_ADV : Fld := ⟨Reg.CIPH_FV_ADV, 11, 0⟩
def Fld.CIPH_CFG_ERR_CLR_SIZE : Fld := ⟨Reg.CIPH_CFG_ERR, 0, 0⟩
def Fld.CIPH_CFG_ERR_CLR_ATTR : Fld := ⟨Reg.CIPH_CFG_ERR, 1, 1⟩
def Fld.CIPH_CFG_ERR_CLR_CLOSED : Fld := ⟨Reg.CIPH_CFG_ERR, 2, 2⟩
def Fld.CIPH_CFG_ERR_FV_INDEX : Fld := ⟨Reg.CIPH_CFG_ERR, 3, 3⟩
def Fld.CIPH_CFG_ERR_ALARM : Fld := ⟨Reg.CIPH_CFG_ERR, 4, 4⟩
def Fld.CIPH_CLR_CTRL_SLOT : Fld := ⟨Reg.CIPH_CLR_CTRL, 5, 0⟩
def Fld.CIPH_CLR_CTRL_SIZE : Fld := ⟨Reg.CIPH_CLR_CTRL, 9, 8⟩
def Fld.CIPH_CLR_CTRL_ATTR : Fld := ⟨Reg.CIPH_CLR_CTRL, 21, 16⟩
def Fld.CIPH_CLR_CTRL_GO : Fld := ⟨Reg.CIPH_CLR_CTRL, 31, 31⟩
def Fld.CIPH_FV_SEL_INDEX : Fld := ⟨Reg.CIPH_FV_SEL, 15, 0⟩
def Fld.CIPH_FV_SEL_TABLE : Fld := ⟨Reg.CIPH_FV_SEL, 17, 16⟩
def Fld.CIPH_FV_SEL_WRITE : Fld := ⟨Reg.CIPH_FV_SEL, 31, 31⟩
def Fld.CIPH_FV_STAT_PENDING : Fld := ⟨Reg.CIPH_FV_STAT, 0, 0⟩
def Fld.CIPH_KSn_STAT_STATE (n : Nat) : Fld := ⟨Reg.CIPH_KSn_STAT n, 1, 0⟩
def Fld.CIPH_KSn_STAT_SIZE (n : Nat) : Fld := ⟨Reg.CIPH_KSn_STAT n, 3, 2⟩
def Fld.CIPH_KSn_STAT_ATTR (n : Nat) : Fld := ⟨Reg.CIPH_KSn_STAT n, 13, 8⟩
def Fld.CIPH_KSn_STAT_REASON (n : Nat) : Fld := ⟨Reg.CIPH_KSn_STAT n, 19, 16⟩
def Fld.CIPH_KSn_CTRL_RETIRE (n : Nat) : Fld := ⟨Reg.CIPH_KSn_CTRL n, 0, 0⟩
def Fld.CIPH_AFA_LAST_ROUTE : Fld := ⟨Reg.CIPH_AFA_LAST, 11, 0⟩
def Fld.CIPH_AFA_LAST_LANE : Fld := ⟨Reg.CIPH_AFA_LAST, 15, 12⟩
def Fld.CIPH_AFA_LAST_REASON : Fld := ⟨Reg.CIPH_AFA_LAST, 18, 16⟩

-- LSEC
def Fld.LSEC_Ll_CTRL_TX_EN (l : Nat) : Fld := ⟨Reg.LSEC_Ll_CTRL l, 0, 0⟩
def Fld.LSEC_Ll_CTRL_RX_EN (l : Nat) : Fld := ⟨Reg.LSEC_Ll_CTRL l, 1, 1⟩
def Fld.LSEC_Ll_CTRL_SUITE (l : Nat) : Fld := ⟨Reg.LSEC_Ll_CTRL l, 3, 2⟩
def Fld.LSEC_Ll_CTRL_CONF (l : Nat) : Fld := ⟨Reg.LSEC_Ll_CTRL l, 4, 4⟩
def Fld.LSEC_Ll_CTRL_CONF_OFS (l : Nat) : Fld := ⟨Reg.LSEC_Ll_CTRL l, 6, 5⟩
def Fld.LSEC_Ll_CTRL_INCLUDE_SCI (l : Nat) : Fld := ⟨Reg.LSEC_Ll_CTRL l, 7, 7⟩
def Fld.LSEC_Ll_CTRL_VALIDATE (l : Nat) : Fld := ⟨Reg.LSEC_Ll_CTRL l, 9, 8⟩
def Fld.LSEC_Ll_CTRL_REPLAY_PROT (l : Nat) : Fld := ⟨Reg.LSEC_Ll_CTRL l, 10, 10⟩
def Fld.LSEC_Ll_CTRL_PTP_BYPASS (l : Nat) : Fld := ⟨Reg.LSEC_Ll_CTRL l, 11, 11⟩
def Fld.LSEC_Ll_CTRL_TX_AN (l : Nat) : Fld := ⟨Reg.LSEC_Ll_CTRL l, 13, 12⟩
def Fld.LSEC_CFG_ERR_TX_SA : Fld := ⟨Reg.LSEC_CFG_ERR, 0, 0⟩
def Fld.LSEC_CFG_ERR_ONE_STEP : Fld := ⟨Reg.LSEC_CFG_ERR, 1, 1⟩
def Fld.LSEC_CFG_ERR_RANGE : Fld := ⟨Reg.LSEC_CFG_ERR, 2, 2⟩
def Fld.LSEC_TXSA_CTRL_VALID (l : Nat) (a : Nat) : Fld := ⟨Reg.LSEC_TXSA_CTRL l a, 0, 0⟩
def Fld.LSEC_TXSA_CTRL_EXHAUSTED (l : Nat) (a : Nat) : Fld := ⟨Reg.LSEC_TXSA_CTRL l a, 1, 1⟩
def Fld.LSEC_RXSA_CTRL_VALID (l : Nat) (c : Nat) (a : Nat) : Fld := ⟨Reg.LSEC_RXSA_CTRL l c a, 0, 0⟩
def Fld.LSEC_RXSC_CTRL_VALID (l : Nat) (c : Nat) : Fld := ⟨Reg.LSEC_RXSC_CTRL l c, 0, 0⟩

-- NEST
def Fld.NEST_CTRL_EN : Fld := ⟨Reg.NEST_CTRL, 0, 0⟩
def Fld.NEST_CTRL_SPLIT : Fld := ⟨Reg.NEST_CTRL, 1, 1⟩
def Fld.NEST_CTRL_OUT_MODE : Fld := ⟨Reg.NEST_CTRL, 3, 2⟩
def Fld.NEST_COMMIT_GO : Fld := ⟨Reg.NEST_COMMIT, 31, 31⟩
def Fld.NEST_STATUS_SET0 : Fld := ⟨Reg.NEST_STATUS, 2, 0⟩
def Fld.NEST_STATUS_SET1 : Fld := ⟨Reg.NEST_STATUS, 6, 4⟩
def Fld.NEST_STATUS_PENDING : Fld := ⟨Reg.NEST_STATUS, 8, 8⟩
def Fld.NEST_STATUS_HELD : Fld := ⟨Reg.NEST_STATUS, 22, 16⟩
def Fld.NEST_CFG_ERR_RANGE : Fld := ⟨Reg.NEST_CFG_ERR, 0, 0⟩
def Fld.NEST_CFG_ERR_WINDOW : Fld := ⟨Reg.NEST_CFG_ERR, 1, 1⟩
def Fld.NEST_CFG_ERR_ROUTE : Fld := ⟨Reg.NEST_CFG_ERR, 2, 2⟩
def Fld.NEST_TRAYID_SLOT_SRC : Fld := ⟨Reg.NEST_TRAYID, 0, 0⟩
def Fld.NEST_TRAYID_SLOT_LEN : Fld := ⟨Reg.NEST_TRAYID, 5, 4⟩
def Fld.NEST_TRAYID_SLOT_OFS : Fld := ⟨Reg.NEST_TRAYID, 15, 8⟩
def Fld.NEST_TRAYID_ID_LEN : Fld := ⟨Reg.NEST_TRAYID, 20, 16⟩
def Fld.NEST_GRID_ROWS_M1 : Fld := ⟨Reg.NEST_GRID, 4, 0⟩
def Fld.NEST_GRID_COLS_M1 : Fld := ⟨Reg.NEST_GRID, 12, 8⟩
def Fld.NEST_TRK_CFG_CONF_HITS : Fld := ⟨Reg.NEST_TRK_CFG, 3, 0⟩
def Fld.NEST_TRK_CFG_MAX_MISS : Fld := ⟨Reg.NEST_TRK_CFG, 7, 4⟩
def Fld.NEST_SETs_CFG_EGO_IMG (s : Nat) : Fld := ⟨Reg.NEST_SETs_CFG s, 0, 0⟩
def Fld.NEST_IMGi_CFG_EN (i : Nat) : Fld := ⟨Reg.NEST_IMGi_CFG i, 0, 0⟩
def Fld.NEST_IMGi_CFG_LANES (i : Nat) : Fld := ⟨Reg.NEST_IMGi_CFG i, 2, 1⟩
def Fld.NEST_IMGi_CFG_VC (i : Nat) : Fld := ⟨Reg.NEST_IMGi_CFG i, 5, 4⟩
def Fld.NEST_IMGi_CFG_RAW16 (i : Nat) : Fld := ⟨Reg.NEST_IMGi_CFG i, 6, 6⟩
def Fld.NEST_IMGi_CFG_TABLE (i : Nat) : Fld := ⟨Reg.NEST_IMGi_CFG i, 7, 7⟩
def Fld.NEST_IMGi_CFG_SET (i : Nat) : Fld := ⟨Reg.NEST_IMGi_CFG i, 8, 8⟩
def Fld.NEST_IMGi_CFG_BAD_LINES (i : Nat) : Fld := ⟨Reg.NEST_IMGi_CFG i, 23, 16⟩
def Fld.NEST_IMGi_SIZE_WIDTH (i : Nat) : Fld := ⟨Reg.NEST_IMGi_SIZE i, 10, 0⟩
def Fld.NEST_IMGi_SIZE_HEIGHT (i : Nat) : Fld := ⟨Reg.NEST_IMGi_SIZE i, 26, 16⟩
def Fld.NEST_IMGi_LAT_LAT_US (i : Nat) : Fld := ⟨Reg.NEST_IMGi_LAT i, 15, 0⟩
def Fld.NEST_IMGi_ROI0_U0 (i : Nat) : Fld := ⟨Reg.NEST_IMGi_ROI0 i, 10, 0⟩
def Fld.NEST_IMGi_ROI0_V0 (i : Nat) : Fld := ⟨Reg.NEST_IMGi_ROI0 i, 26, 16⟩
def Fld.NEST_IMGi_ROI1_U1 (i : Nat) : Fld := ⟨Reg.NEST_IMGi_ROI1 i, 10, 0⟩
def Fld.NEST_IMGi_ROI1_V1 (i : Nat) : Fld := ⟨Reg.NEST_IMGi_ROI1 i, 26, 16⟩
def Fld.NEST_IMGi_DET_T_DET (i : Nat) : Fld := ⟨Reg.NEST_IMGi_DET i, 15, 0⟩
def Fld.NEST_IMGi_AREA_AREA_MIN (i : Nat) : Fld := ⟨Reg.NEST_IMGi_AREA i, 15, 0⟩
def Fld.NEST_IMGi_AREA_AREA_MAX (i : Nat) : Fld := ⟨Reg.NEST_IMGi_AREA i, 31, 16⟩
def Fld.NEST_IMGi_EGO0_X0 (i : Nat) : Fld := ⟨Reg.NEST_IMGi_EGO0 i, 10, 0⟩
def Fld.NEST_IMGi_EGO0_Y0 (i : Nat) : Fld := ⟨Reg.NEST_IMGi_EGO0 i, 26, 16⟩
def Fld.NEST_IMGi_EGO1_LW (i : Nat) : Fld := ⟨Reg.NEST_IMGi_EGO1 i, 2, 0⟩
def Fld.NEST_IMGi_EGO1_LH (i : Nat) : Fld := ⟨Reg.NEST_IMGi_EGO1 i, 6, 4⟩
def Fld.NEST_IMGi_EGO1_MIN_Q (i : Nat) : Fld := ⟨Reg.NEST_IMGi_EGO1 i, 15, 8⟩
def Fld.NEST_IMGi_EGO1_EN (i : Nat) : Fld := ⟨Reg.NEST_IMGi_EGO1 i, 31, 31⟩
def Fld.NEST_IMGi_LAST_DETS (i : Nat) : Fld := ⟨Reg.NEST_IMGi_LAST i, 10, 0⟩
def Fld.NEST_IMGi_LAST_REASON (i : Nat) : Fld := ⟨Reg.NEST_IMGi_LAST i, 14, 12⟩
def Fld.NEST_IMGi_LAST_FSEQ (i : Nat) : Fld := ⟨Reg.NEST_IMGi_LAST i, 31, 16⟩
def Fld.NEST_IMGi_EGO_DU (i : Nat) : Fld := ⟨Reg.NEST_IMGi_EGO i, 15, 0⟩
def Fld.NEST_IMGi_EGO_DV (i : Nat) : Fld := ⟨Reg.NEST_IMGi_EGO i, 31, 16⟩
def Fld.NEST_IMGi_EGO_Q_Q (i : Nat) : Fld := ⟨Reg.NEST_IMGi_EGO_Q i, 7, 0⟩
def Fld.NEST_IMGi_REF_T_T (i : Nat) : Fld := ⟨Reg.NEST_IMGi_REF_T i, 15, 0⟩
def Fld.NEST_ALMr_CTRL_COND (r : Nat) : Fld := ⟨Reg.NEST_ALMr_CTRL r, 2, 0⟩
def Fld.NEST_ALMr_CTRL_PERSIST (r : Nat) : Fld := ⟨Reg.NEST_ALMr_CTRL r, 7, 4⟩
def Fld.NEST_ALMr_CTRL_SET (r : Nat) : Fld := ⟨Reg.NEST_ALMr_CTRL r, 8, 8⟩
def Fld.NEST_ALMr_CTRL_STOP_EN (r : Nat) : Fld := ⟨Reg.NEST_ALMr_CTRL r, 9, 9⟩
def Fld.NEST_ALMr_CTRL_STOP_KIND (r : Nat) : Fld := ⟨Reg.NEST_ALMr_CTRL r, 10, 10⟩
def Fld.NEST_ALMr_CTRL_STOP_IDE (r : Nat) : Fld := ⟨Reg.NEST_ALMr_CTRL r, 12, 12⟩
def Fld.NEST_ALMr_CTRL_STOP_BRS (r : Nat) : Fld := ⟨Reg.NEST_ALMr_CTRL r, 13, 13⟩
def Fld.NEST_ALMr_THR_T_ALM (r : Nat) : Fld := ⟨Reg.NEST_ALMr_THR r, 15, 0⟩
def Fld.NEST_ALMr_THR_RATE_ALM (r : Nat) : Fld := ⟨Reg.NEST_ALMr_THR r, 31, 16⟩
def Fld.NEST_ALMr_STOP_ID_ID (r : Nat) : Fld := ⟨Reg.NEST_ALMr_STOP_ID r, 28, 0⟩
def Fld.NEST_ALMr_STAT_SEQ (r : Nat) : Fld := ⟨Reg.NEST_ALMr_STAT r, 7, 0⟩
def Fld.NEST_ALMr_STAT_FIRED (r : Nat) : Fld := ⟨Reg.NEST_ALMr_STAT r, 31, 16⟩
def Fld.NEST_IMGi_REF0_U0 (i : Nat) : Fld := ⟨Reg.NEST_IMGi_REF0 i, 10, 0⟩
def Fld.NEST_IMGi_REF0_V0 (i : Nat) : Fld := ⟨Reg.NEST_IMGi_REF0 i, 26, 16⟩
def Fld.NEST_IMGi_REF1_U1 (i : Nat) : Fld := ⟨Reg.NEST_IMGi_REF1 i, 10, 0⟩
def Fld.NEST_IMGi_REF1_V1 (i : Nat) : Fld := ⟨Reg.NEST_IMGi_REF1 i, 26, 16⟩
def Fld.NEST_AFFINE_VALID_VALID (i : Nat) (s : Nat) : Fld := ⟨Reg.NEST_AFFINE_VALID i s, 0, 0⟩

-- HAL
def Fld.HAL_CTRL_CLAIM_EN : Fld := ⟨Reg.HAL_CTRL, 0, 0⟩
def Fld.HAL_CTRL_PAIR_EN : Fld := ⟨Reg.HAL_CTRL, 1, 1⟩
def Fld.HAL_CTRL_HANDOVER : Fld := ⟨Reg.HAL_CTRL, 4, 4⟩
def Fld.HAL_CTRL_UNFENCE : Fld := ⟨Reg.HAL_CTRL, 5, 5⟩
def Fld.HAL_CFG_PRIORITY : Fld := ⟨Reg.HAL_CFG, 3, 0⟩
def Fld.HAL_CFG_AUTO_YIELD : Fld := ⟨Reg.HAL_CFG, 4, 4⟩
def Fld.HAL_CFG_EVIDENCE_EN : Fld := ⟨Reg.HAL_CFG, 5, 5⟩
def Fld.HAL_CFG_STBY_LANE_TX : Fld := ⟨Reg.HAL_CFG, 6, 6⟩
def Fld.HAL_CFG_FENCE_BEATS : Fld := ⟨Reg.HAL_CFG, 15, 8⟩
def Fld.HAL_CFG_YIELD_DIFF : Fld := ⟨Reg.HAL_CFG, 23, 16⟩
def Fld.HAL_CFG_BIAS : Fld := ⟨Reg.HAL_CFG, 31, 24⟩
def Fld.HAL_RPL_MATCH_NS : Fld := ⟨Reg.HAL_RPL, 15, 0⟩
def Fld.HAL_RPL_RPL_AGE : Fld := ⟨Reg.HAL_RPL, 23, 16⟩
def Fld.HAL_RPL_RPL_DEPTH : Fld := ⟨Reg.HAL_RPL, 31, 24⟩
def Fld.HAL_EVID_T1S : Fld := ⟨Reg.HAL_EVID, 7, 0⟩
def Fld.HAL_EVID_CAN_BCN : Fld := ⟨Reg.HAL_EVID, 8, 8⟩
def Fld.HAL_STATUS_ROLE : Fld := ⟨Reg.HAL_STATUS, 2, 0⟩
def Fld.HAL_STATUS_CLAIMED : Fld := ⟨Reg.HAL_STATUS, 3, 3⟩
def Fld.HAL_STATUS_PRESENCE : Fld := ⟨Reg.HAL_STATUS, 4, 4⟩
def Fld.HAL_STATUS_PARTNER_LOST : Fld := ⟨Reg.HAL_STATUS, 5, 5⟩
def Fld.HAL_STATUS_LINK_UP : Fld := ⟨Reg.HAL_STATUS, 6, 6⟩
def Fld.HAL_STATUS_SHADOW_VALID : Fld := ⟨Reg.HAL_STATUS, 7, 7⟩
def Fld.HAL_STATUS_SKEW : Fld := ⟨Reg.HAL_STATUS, 8, 8⟩
def Fld.HAL_STATUS_LINE_FAULT : Fld := ⟨Reg.HAL_STATUS, 9, 9⟩
def Fld.HAL_STATUS_PARTNER_ROLE : Fld := ⟨Reg.HAL_STATUS, 14, 12⟩
def Fld.HAL_STATUS_STRAP : Fld := ⟨Reg.HAL_STATUS, 16, 16⟩
def Fld.HAL_CLAIM_LOCAL : Fld := ⟨Reg.HAL_CLAIM, 15, 0⟩
def Fld.HAL_CLAIM_WINNER : Fld := ⟨Reg.HAL_CLAIM, 31, 16⟩
def Fld.HAL_HEALTH_SCORE : Fld := ⟨Reg.HAL_HEALTH, 10, 0⟩
def Fld.HAL_HEALTH_PARTNER : Fld := ⟨Reg.HAL_HEALTH, 26, 16⟩
def Fld.HAL_CFG_ERR_RANGE : Fld := ⟨Reg.HAL_CFG_ERR, 0, 0⟩
def Fld.HAL_CFG_ERR_EVIDENCE : Fld := ⟨Reg.HAL_CFG_ERR, 1, 1⟩
def Fld.HAL_CFG_ERR_HANDOVER : Fld := ⟨Reg.HAL_CFG_ERR, 2, 2⟩

-- PWR
def Fld.PWR_STATUS_BRACE : Fld := ⟨Reg.PWR_STATUS, 2, 0⟩
def Fld.PWR_STATUS_MAIN_OK : Fld := ⟨Reg.PWR_STATUS, 3, 3⟩
def Fld.PWR_STATUS_BKUP_OK : Fld := ⟨Reg.PWR_STATUS, 4, 4⟩
def Fld.PWR_STATUS_PATH_BKUP : Fld := ⟨Reg.PWR_STATUS, 5, 5⟩
def Fld.PWR_BRACE_CFG_MAIN_FILT_US : Fld := ⟨Reg.PWR_BRACE_CFG, 7, 0⟩
def Fld.PWR_BRACE_CFG_SHED_MS : Fld := ⟨Reg.PWR_BRACE_CFG, 15, 8⟩
def Fld.PWR_CFG_ERR_POLICY : Fld := ⟨Reg.PWR_CFG_ERR, 0, 0⟩
def Fld.PWR_CFG_ERR_RANGE : Fld := ⟨Reg.PWR_CFG_ERR, 1, 1⟩
def Fld.PWR_CFG_ERR_DEPENDENCY : Fld := ⟨Reg.PWR_CFG_ERR, 2, 2⟩
def Fld.PWR_WAKE_SRC_T1S_ACT : Fld := ⟨Reg.PWR_WAKE_SRC, 7, 0⟩
def Fld.PWR_WAKE_SRC_UART_EDGE : Fld := ⟨Reg.PWR_WAKE_SRC, 23, 8⟩
def Fld.PWR_Dd_CFG_POLICY (d : Nat) : Fld := ⟨Reg.PWR_Dd_CFG d, 1, 0⟩
def Fld.PWR_Dd_CFG_ON (d : Nat) : Fld := ⟨Reg.PWR_Dd_CFG d, 2, 2⟩
def Fld.PWR_Dd_CFG_IDLE_BEATS (d : Nat) : Fld := ⟨Reg.PWR_Dd_CFG d, 31, 16⟩
def Fld.PWR_Dd_STAT_STATE (d : Nat) : Fld := ⟨Reg.PWR_Dd_STAT d, 2, 0⟩
def Fld.PWR_Dd_STAT_REASON (d : Nat) : Fld := ⟨Reg.PWR_Dd_STAT d, 7, 4⟩
def Fld.PWR_Dd_STAT_HELD (d : Nat) : Fld := ⟨Reg.PWR_Dd_STAT d, 24, 16⟩
def Fld.PWR_Dd_CTRL_WAKE (d : Nat) : Fld := ⟨Reg.PWR_Dd_CTRL d, 0, 0⟩

-- SHR
def Fld.SHR_CFG_CONFIRM : Fld := ⟨Reg.SHR_CFG, 3, 0⟩
def Fld.SHR_TERM_CFG_PERIOD : Fld := ⟨Reg.SHR_TERM_CFG, 15, 0⟩
def Fld.SHR_TERM_CFG_PHASE : Fld := ⟨Reg.SHR_TERM_CFG, 31, 16⟩
def Fld.SHR_CFG_ERR_RANGE : Fld := ⟨Reg.SHR_CFG_ERR, 0, 0⟩
def Fld.SHR_SENSE_STAT_MAIN_REVERSED : Fld := ⟨Reg.SHR_SENSE_STAT, 0, 0⟩
def Fld.SHR_SENSE_STAT_BKUP_REVERSED : Fld := ⟨Reg.SHR_SENSE_STAT, 1, 1⟩
def Fld.SHR_ACTIVE_COUNT : Fld := ⟨Reg.SHR_ACTIVE, 15, 0⟩
def Fld.SHR_CANn_CFG_TERM_MEAS_EN (n : Nat) : Fld := ⟨Reg.SHR_CANn_CFG n, 0, 0⟩
def Fld.SHR_CANn_CFG_SWAP_EN (n : Nat) : Fld := ⟨Reg.SHR_CANn_CFG n, 1, 1⟩
def Fld.SHR_CANn_STAT_FAULTS (n : Nat) : Fld := ⟨Reg.SHR_CANn_STAT n, 11, 1⟩
def Fld.SHR_CANn_STAT_SWAPPED (n : Nat) : Fld := ⟨Reg.SHR_CANn_STAT n, 16, 16⟩
def Fld.SHR_CANn_STAT_THERMAL (n : Nat) : Fld := ⟨Reg.SHR_CANn_STAT n, 17, 17⟩
def Fld.SHR_CANn_TERM_OHM16 (n : Nat) : Fld := ⟨Reg.SHR_CANn_TERM n, 15, 0⟩
def Fld.SHR_CANn_TERM_MISSED (n : Nat) : Fld := ⟨Reg.SHR_CANn_TERM n, 23, 16⟩
def Fld.SHR_T1Ss_STAT_FAULTS (s : Nat) : Fld := ⟨Reg.SHR_T1Ss_STAT s, 3, 0⟩
def Fld.SHR_T1Ss_AMP_MV (s : Nat) : Fld := ⟨Reg.SHR_T1Ss_AMP s, 11, 0⟩

-- NVM
def Fld.NVM_STATUS_JHEALTH : Fld := ⟨Reg.NVM_STATUS, 2, 0⟩
def Fld.NVM_STATUS_CHEALTH : Fld := ⟨Reg.NVM_STATUS, 6, 4⟩
def Fld.NVM_STATUS_JREADONLY : Fld := ⟨Reg.NVM_STATUS, 8, 8⟩
def Fld.NVM_STATUS_CFG_DIRTY : Fld := ⟨Reg.NVM_STATUS, 9, 9⟩
def Fld.NVM_STATUS_CFG_BUSY : Fld := ⟨Reg.NVM_STATUS, 10, 10⟩
def Fld.NVM_SPARES_FREE : Fld := ⟨Reg.NVM_SPARES, 9, 0⟩
def Fld.NVM_SPARES_JOURNAL : Fld := ⟨Reg.NVM_SPARES, 25, 16⟩
def Fld.NVM_JCFG_EN : Fld := ⟨Reg.NVM_JCFG, 0, 0⟩
def Fld.NVM_JCFG_PULSE_WARN : Fld := ⟨Reg.NVM_JCFG, 7, 4⟩
def Fld.NVM_JCFG_SNAP_S : Fld := ⟨Reg.NVM_JCFG, 31, 16⟩
def Fld.NVM_JWIN_BASE : Fld := ⟨Reg.NVM_JWIN, 9, 0⟩
def Fld.NVM_SECT_SEL_SECTOR : Fld := ⟨Reg.NVM_SECT_SEL, 9, 0⟩
def Fld.NVM_SECT_SEL_AREA : Fld := ⟨Reg.NVM_SECT_SEL, 14, 12⟩
def Fld.NVM_SECT_STAT_PULSES : Fld := ⟨Reg.NVM_SECT_STAT, 5, 0⟩
def Fld.NVM_SECT_STAT_ECC_CORR : Fld := ⟨Reg.NVM_SECT_STAT, 15, 8⟩
def Fld.NVM_SECT_STAT_RETIRED : Fld := ⟨Reg.NVM_SECT_STAT, 16, 16⟩
def Fld.NVM_SECT_STAT_OVER_RATED : Fld := ⟨Reg.NVM_SECT_STAT, 17, 17⟩
def Fld.NVM_SECT_STAT_PHYS : Fld := ⟨Reg.NVM_SECT_STAT, 30, 20⟩
def Fld.NVM_CFG_CMD_SAVE : Fld := ⟨Reg.NVM_CFG_CMD, 0, 0⟩
def Fld.NVM_CFG_STAT_A_VALID : Fld := ⟨Reg.NVM_CFG_STAT, 0, 0⟩
def Fld.NVM_CFG_STAT_B_VALID : Fld := ⟨Reg.NVM_CFG_STAT, 1, 1⟩
def Fld.NVM_CFG_STAT_CURRENT : Fld := ⟨Reg.NVM_CFG_STAT, 2, 2⟩
def Fld.NVM_CFG_STAT_NONE : Fld := ⟨Reg.NVM_CFG_STAT, 3, 3⟩
def Fld.NVM_CFG_STAT_RESULT : Fld := ⟨Reg.NVM_CFG_STAT, 11, 8⟩
def Fld.NVM_BANKb_CFG_FMT (b : Nat) : Fld := ⟨Reg.NVM_BANKb b, 15, 0⟩
def Fld.NVM_BANKb_GEN (b : Nat) : Fld := ⟨Reg.NVM_BANKb b, 31, 16⟩
def Fld.NVM_UPD_LEN_BYTES : Fld := ⟨Reg.NVM_UPD_LEN, 24, 0⟩
def Fld.NVM_UPD_CTRL_WRITE : Fld := ⟨Reg.NVM_UPD_CTRL, 0, 0⟩
def Fld.NVM_UPD_CTRL_ACTIVATE : Fld := ⟨Reg.NVM_UPD_CTRL, 1, 1⟩
def Fld.NVM_UPD_CTRL_CONFIRM : Fld := ⟨Reg.NVM_UPD_CTRL, 2, 2⟩
def Fld.NVM_UPD_CTRL_FALLBACK : Fld := ⟨Reg.NVM_UPD_CTRL, 3, 3⟩
def Fld.NVM_UPD_CTRL_ABORT : Fld := ⟨Reg.NVM_UPD_CTRL, 4, 4⟩
def Fld.NVM_UPD_CTRL_CLEAN : Fld := ⟨Reg.NVM_UPD_CTRL, 8, 8⟩
def Fld.NVM_UPD_CTRL_FORCE : Fld := ⟨Reg.NVM_UPD_CTRL, 9, 9⟩
def Fld.NVM_UPD_STATUS_STATE : Fld := ⟨Reg.NVM_UPD_STATUS, 3, 0⟩
def Fld.NVM_UPD_STATUS_RESULT : Fld := ⟨Reg.NVM_UPD_STATUS, 11, 8⟩
def Fld.NVM_UPD_STATUS_TRIAL : Fld := ⟨Reg.NVM_UPD_STATUS, 12, 12⟩
def Fld.NVM_UPD_STATUS_SLOT : Fld := ⟨Reg.NVM_UPD_STATUS, 13, 13⟩
def Fld.NVM_UPD_STATUS_TRIAL_BOOTS : Fld := ⟨Reg.NVM_UPD_STATUS, 23, 16⟩
def Fld.NVM_UPD_TMO_CONFIRM_S : Fld := ⟨Reg.NVM_UPD_TMO, 15, 0⟩
def Fld.NVM_UPD_LEFT_S : Fld := ⟨Reg.NVM_UPD_LEFT, 15, 0⟩
def Fld.NVM_SLOTs_FMT_CFG_FMT (s : Nat) : Fld := ⟨Reg.NVM_SLOTs_FMT s, 15, 0⟩
def Fld.NVM_SLOTs_FMT_SHADOW_FMT (s : Nat) : Fld := ⟨Reg.NVM_SLOTs_FMT s, 31, 16⟩
def Fld.NVM_SLOTs_STAT_VALID (s : Nat) : Fld := ⟨Reg.NVM_SLOTs_STAT s, 0, 0⟩
def Fld.NVM_SLOTs_STAT_REASON (s : Nat) : Fld := ⟨Reg.NVM_SLOTs_STAT s, 7, 4⟩
def Fld.NVM_FLASH_ID_JEDEC_ID : Fld := ⟨Reg.NVM_FLASH_ID, 23, 0⟩
def Fld.NVM_CFG_ERR_RANGE : Fld := ⟨Reg.NVM_CFG_ERR, 0, 0⟩
def Fld.NVM_CFG_ERR_SNAP : Fld := ⟨Reg.NVM_CFG_ERR, 1, 1⟩
def Fld.NVM_SNAPr_BASE_BASE (r : Nat) : Fld := ⟨Reg.NVM_SNAPr_BASE r, 27, 0⟩
def Fld.NVM_SNAPr_CTRL_N (r : Nat) : Fld := ⟨Reg.NVM_SNAPr_CTRL r, 7, 0⟩
def Fld.NVM_SNAPr_CTRL_REPEAT (r : Nat) : Fld := ⟨Reg.NVM_SNAPr_CTRL r, 15, 8⟩
def Fld.NVM_SNAPr_CTRL_VALID (r : Nat) : Fld := ⟨Reg.NVM_SNAPr_CTRL r, 31, 31⟩
def Fld.NVM_SNAPr_STRIDE_STRIDE (r : Nat) : Fld := ⟨Reg.NVM_SNAPr_STRIDE r, 27, 0⟩

-- PIN
def Fld.PIN_CFGp_FUNC (p : Nat) : Fld := ⟨Reg.PIN_CFGp p, 3, 0⟩
def Fld.PIN_CFGp_OR_FUNC (p : Nat) : Fld := ⟨Reg.PIN_CFGp p, 7, 4⟩
def Fld.PIN_CFGp_SLEEP (p : Nat) : Fld := ⟨Reg.PIN_CFGp p, 10, 8⟩
def Fld.PIN_CFGp_CLAIMED (p : Nat) : Fld := ⟨Reg.PIN_CFGp p, 11, 11⟩
def Fld.PIN_CFGp_HOLD (p : Nat) : Fld := ⟨Reg.PIN_CFGp p, 12, 12⟩
def Fld.PIN_CFGp_DRIVE (p : Nat) : Fld := ⟨Reg.PIN_CFGp p, 14, 13⟩
def Fld.PIN_CFGp_FAST (p : Nat) : Fld := ⟨Reg.PIN_CFGp p, 15, 15⟩
def Fld.PIN_CFGp_PULL (p : Nat) : Fld := ⟨Reg.PIN_CFGp p, 17, 16⟩
def Fld.PIN_CFGp_SCHMITT (p : Nat) : Fld := ⟨Reg.PIN_CFGp p, 18, 18⟩
def Fld.PIN_CFGp_OD (p : Nat) : Fld := ⟨Reg.PIN_CFGp p, 19, 19⟩
def Fld.PIN_STATp_LEVEL (p : Nat) : Fld := ⟨Reg.PIN_STATp p, 0, 0⟩
def Fld.PIN_STATp_DRIVING (p : Nat) : Fld := ⟨Reg.PIN_STATp p, 1, 1⟩
def Fld.PIN_STATp_SLEEPING (p : Nat) : Fld := ⟨Reg.PIN_STATp p, 2, 2⟩
def Fld.PIN_STATp_KEEPER (p : Nat) : Fld := ⟨Reg.PIN_STATp p, 3, 3⟩
def Fld.PIN_STATp_GATED (p : Nat) : Fld := ⟨Reg.PIN_STATp p, 4, 4⟩
def Fld.PIN_CFG_ERR_RANGE : Fld := ⟨Reg.PIN_CFG_ERR, 0, 0⟩
def Fld.PIN_CFG_ERR_DE_SAFE : Fld := ⟨Reg.PIN_CFG_ERR, 1, 1⟩
def Fld.PIN_MULTI_IN_SER_RXD : Fld := ⟨Reg.PIN_MULTI_IN, 15, 0⟩

-- MGT
def Fld.MGT_STATUS_FW_RUNNING : Fld := ⟨Reg.MGT_STATUS, 0, 0⟩
def Fld.MGT_STATUS_SVC_PENDING : Fld := ⟨Reg.MGT_STATUS, 12, 8⟩
def Fld.MGT_SKEW_LAST_UNIT : Fld := ⟨Reg.MGT_SKEW_LAST, 15, 0⟩
def Fld.MGT_SKEW_LAST_REG_STATE : Fld := ⟨Reg.MGT_SKEW_LAST, 23, 16⟩
def Fld.MGT_SKEW_LAST_BLK_STATE : Fld := ⟨Reg.MGT_SKEW_LAST, 31, 24⟩
def Fld.MGT_NET_CFG_EN : Fld := ⟨Reg.MGT_NET_CFG, 0, 0⟩
def Fld.MGT_NET_CFG_WRITE_EN : Fld := ⟨Reg.MGT_NET_CFG, 1, 1⟩
def Fld.MGT_NET_CFG_V6_EN : Fld := ⟨Reg.MGT_NET_CFG, 2, 2⟩
def Fld.MGT_NET_CFG_UDP_PORT : Fld := ⟨Reg.MGT_NET_CFG, 31, 16⟩
def Fld.MGT_NET_PREFIX_LEN4 : Fld := ⟨Reg.MGT_NET_PREFIX, 5, 0⟩
def Fld.MGT_NET_PREFIX_LEN6 : Fld := ⟨Reg.MGT_NET_PREFIX, 15, 8⟩
def Fld.MGT_SNAP_GO_GO : Fld := ⟨Reg.MGT_SNAP_GO, 31, 31⟩
def Fld.MGT_SNAP_STAT_PENDING : Fld := ⟨Reg.MGT_SNAP_STAT, 0, 0⟩
def Fld.MGT_SNAP_STAT_SEQ : Fld := ⟨Reg.MGT_SNAP_STAT, 31, 16⟩
def Fld.MGT_CFG_ERR_RANGE : Fld := ⟨Reg.MGT_CFG_ERR, 0, 0⟩
def Fld.MGT_CFG_ERR_SNAP_BUSY : Fld := ⟨Reg.MGT_CFG_ERR, 1, 1⟩
def Fld.MGT_CFG_ERR_NET_ADDR : Fld := ⟨Reg.MGT_CFG_ERR, 2, 2⟩
def Fld.MGT_PORTn_STATE (n : Nat) : Fld := ⟨Reg.MGT_PORTn n, 7, 0⟩
def Fld.MGT_PORTn_EPOCH (n : Nat) : Fld := ⟨Reg.MGT_PORTn n, 31, 16⟩
def Fld.MGT_PDd_STATE (d : Nat) : Fld := ⟨Reg.MGT_PDd d, 7, 0⟩
def Fld.MGT_PDd_EPOCH (d : Nat) : Fld := ⟨Reg.MGT_PDd d, 31, 16⟩
def Fld.MGT_TXRn_STATE (n : Nat) : Fld := ⟨Reg.MGT_TXRn n, 7, 0⟩
def Fld.MGT_TXRn_EPOCH (n : Nat) : Fld := ⟨Reg.MGT_TXRn n, 31, 16⟩
def Fld.MGT_RXRn_STATE (n : Nat) : Fld := ⟨Reg.MGT_RXRn n, 7, 0⟩
def Fld.MGT_RXRn_EPOCH (n : Nat) : Fld := ⟨Reg.MGT_RXRn n, 31, 16⟩
def Fld.MGT_TSETs_STATE (s : Nat) : Fld := ⟨Reg.MGT_TSETs s, 7, 0⟩
def Fld.MGT_TSETs_EPOCH (s : Nat) : Fld := ⟨Reg.MGT_TSETs s, 31, 16⟩
def Fld.MGT_PARTNER_STATE : Fld := ⟨Reg.MGT_PARTNER, 7, 0⟩
def Fld.MGT_PARTNER_EPOCH : Fld := ⟨Reg.MGT_PARTNER, 31, 16⟩

end Sys2Proof.Machine
end

