-- ==== Sys2Proof/Machine/Ops.lean ====
section
/-! DEFINITION. The named operations over the register file, the values in force, the outputs and the free values. -/

namespace Sys2Proof.Machine

/-! ### The register file -/

/-- The present value of a doubleword of BAR0: an unlisted register holds its reset value. -/
def State.reg (s : State) (off : Nat) : Word :=
  match s.regs.find? (fun e => e.1 == off) with
  | some e => e.2
  | none => RegMap.resetOf off

/-- Write a doubleword of the register file, keeping it sparse and sorted. -/
def State.setReg (s : State) (off : Nat) (v : Word) : State :=
  { s with regs := SMap.set (RegMap.resetOf off) s.regs off v }

/-- The value in force of a paced register. -/
def State.liveReg (s : State) (off : Nat) : Word :=
  match s.live.find? (fun e => e.1 == off) with
  | some e => e.2
  | none => RegMap.resetOf off

/-- Put a value in force. -/
def State.setLive (s : State) (off : Nat) (v : Word) : State :=
  { s with live := SMap.set (RegMap.resetOf off) s.live off v }

/-- A field as it reads. -/
def State.get (s : State) (f : Fld) : Nat := bits (s.reg f.off).toNat f.hi f.lo

/-- Hardware writes a field. -/
def State.put (s : State) (f : Fld) (v : Nat) : State :=
  s.setReg f.off (BitVec.ofNat 32 (setBits (s.reg f.off).toNat f.hi f.lo v))

/-- A field of the value in force. -/
def State.cur (s : State) (f : Fld) : Nat := bits (s.liveReg f.off).toNat f.hi f.lo

/-- Put a field in force. -/
def State.putCur (s : State) (f : Fld) (v : Nat) : State :=
  s.setLive f.off (BitVec.ofNat 32 (setBits (s.liveReg f.off).toNat f.hi f.lo v))

/-- A one-bit field in force. -/
def State.on (s : State) (f : Fld) : Bool := s.cur f == 1

/-- A 64-bit register. -/
def State.reg64 (s : State) (off : Nat) : Nat := (s.reg off).toNat + 2 ^ 32 * (s.reg (off + 4)).toNat

/-- Write a 64-bit register. -/
def State.setReg64 (s : State) (off : Nat) (v : Nat) : State :=
  (s.setReg off (BitVec.ofNat 32 v)).setReg (off + 4) (BitVec.ofNat 32 (v / 2 ^ 32))

/-- A 64-bit value in force. -/
def State.live64 (s : State) (off : Nat) : Nat := (s.liveReg off).toNat + 2 ^ 32 * (s.liveReg (off + 4)).toNat

/-- Add to a 64-bit counter. -/
def State.count (s : State) (off : Nat) (n : Nat := 1) : State := s.setReg64 off (s.reg64 off + n)

/-- Add to a 32-bit counter. -/
def State.count32 (s : State) (off : Nat) (n : Nat := 1) : State :=
  s.setReg off (s.reg off + BitVec.ofNat 32 n)

/-- Set bits of a register (W1C flags). -/
def State.orReg (s : State) (off : Nat) (m : Nat) : State := s.setReg off (s.reg off ||| BitVec.ofNat 32 m)

/-- Software's write as it stands and as it is in force: a hardware change of a software field (an ARM bit, an EN bit
that a command names) shows in both. -/
def State.putBoth (s : State) (f : Fld) (v : Nat) : State := (s.put f v).putCur f v

/-! ### Outputs and free values -/

/-- Something leaves the part. -/
def State.emit (s : State) (o : Output) : State := { s with out := s.out ++ [o] }

/-- The next free value's index. -/
def State.draw (s : State) : Nat × State := (s.free, { s with free := s.free + 1 })

/-- A command begins: the outputs and events of the one before are gone. -/
def State.begin (s : State) : State := { s with out := [], ev := { s.ev with raised := [] } }

/-- A timed command begins at a TAI time; the time kept never runs backwards between two steps (R53). -/
def State.at (s : State) (t : Tai) : State := { s.begin with time := { s.time with now := max s.time.now t } }

/-- A command on well-formed operands has its effect; on others it names a unit that does not exist. -/
def runIf (ok : Bool) (mnemonic : String) (t : State) : Host.Outcome State Fault Refusal :=
  if ok then .next t else .refused (.noSuchUnit mnemonic)

/-- A command's effect is on everything but the queue of the commands that wait. -/
def keepQueue (s : State) (o : Host.Outcome State Fault Refusal) : Host.Outcome State Fault Refusal :=
  match o with
  | .next t => .next { t with pending := s.pending }
  | .fault f => .fault f
  | .refused r => .refused r

/-- While power-on reset is asserted nothing but its own commands has an effect: every block stays in its reset state, and
every transmitter and output is off (R442, R451). -/
def unlessHeld (s : State) (o : Host.Outcome State Fault Refusal) : Host.Outcome State Fault Refusal :=
  keepQueue s
    (match o with
     | .next t => .next (if s.glb.phase = .powerOnReset then s.begin else t)
     | .fault f => .fault f
     | .refused r => .refused r)

/-! ### Port counters (Table 5.11) and configured kinds -/

/-- The configured kind of a CAN port in force. -/
def State.canKind (s : State) (p : Nat) : Nat := s.cur (Fld.CANP_MODE_KIND p)

/-- The kind of a logical port. -/
def State.kindOf (s : State) (port : Nat) : Nat := portKind (s.canKind port) port

/-- Count at a port: 0 RX_ACCEPT, 1 TX, 2 NOROUTE, 3 FILTERED, 4 POLICED, 5 NOBUF, 6 XLATE, 7 QFULL, 8 QRESET,
9 BUSOFF, 10 DOMAIN, 11 PORTDOWN. -/
def State.countPort (s : State) (port k : Nat) (n : Nat := 1) : State := s.count (Reg.FAB_PCNTp_k port k) n

/-- Does this unit hold the claim? -/
def State.claimed (s : State) : Bool := s.get Fld.HAL_STATUS_CLAIMED == 1

/-- A domain's state code (Table 14.2): 0 OFF, 1 WAKING, 2 ON, 3 DRAINING, 4 ISOLATING. -/
def State.domain (s : State) (d : Nat) : Nat := s.get (Fld.PWR_Dd_STAT_STATE d)

/-- Is a domain isolated: OFF or WAKING (Table 14.2)? -/
def State.isolated (s : State) (d : Nat) : Bool := decide (s.domain d ≤ 1)

/-- The beat length in ns for a code (Table 2.1). -/
def beatNs (code : Nat) : Nat := 125000 * 2 ^ code

/-- The beat length in force. -/
def State.beatLen (s : State) : Nat := beatNs (s.get Fld.BEAT_STATUS_LEN_CUR)

/-- The share in force of a slot: 0 intake to 4 writeback. -/
def State.share (s : State) (slot : Nat) : Nat :=
  match slot with
  | 0 => s.get Fld.BEAT_SLOT_CUR0_LO
  | 1 => s.get Fld.BEAT_SLOT_CUR0_HI
  | 2 => s.get Fld.BEAT_SLOT_CUR1_LO
  | 3 => s.get Fld.BEAT_SLOT_CUR1_HI
  | _ => s.get Fld.BEAT_SLOT_CUR2_WRITEBACK

/-- The start of a slot in the beat in progress (R29). -/
def State.slotStart (s : State) (slot : Nat) : Tai :=
  s.beat.start + s.beatLen * (((List.range slot).map s.share).sum) / 1000

/-- Is a beat in progress with its slots running (R25, R448)? -/
def State.slotsRun (s : State) : Bool := s.beat.started && s.get Fld.BEAT_STATUS_SLOT_CUR != 7

/-- The end of a slot's work: writeback ends where the claim window begins (R29, R33, R38). -/
def State.slotStop (s : State) (slot : Nat) : Tai := if slot < 4 then s.slotStart (slot + 1) else s.beat.next - 4000

/-- May slot `k` run now: is it its time in the beat, and has no later slot run (R29, R33)? -/
def State.slotOpen (s : State) (k : Nat) : Bool :=
  s.slotsRun && decide (s.get Fld.BEAT_STATUS_SLOT_CUR ≤ k) && !(s.get Fld.BEAT_STATUS_SLOT_CUR == k && s.beat.ended) && decide (s.slotStart k ≤ s.time.now) &&
  decide (s.time.now ≤ s.slotStop k)

/-- May a single step of the commit slot act: is the slot due and not yet run, with no deferred commit before it (R34, R39)? -/
def State.commitDue (s : State) : Bool :=
  s.slotOpen 1 && s.get Fld.BEAT_STATUS_SLOT_CUR == 0 && s.beat.deferred.isNone

/-- The TAI second in progress. -/
def State.second (s : State) : Nat := s.time.now / 1000000000

/-- The absolute index of the beat in progress (R65, R202). -/
def State.beatIndex (s : State) : Nat := s.beat.start / s.beatLen

/-- Fabric clock cycles of a slot (Table 2.1: 800 MHz). -/
def State.slotCycles (s : State) (slot : Nat) : Nat := s.beatLen * 4 / 5 * s.share slot / 1000

end Sys2Proof.Machine
end

