-- ==== Sys2Proof/Machine/Flags.lean ====
section
/-! DEFINITION. Status that every block raises in one way: events, once-per-second limits, the journal buffer, the state
registry with its observations, and the inlet of the RX rings. -/

namespace Sys2Proof.Machine

/-! ### Record bytes -/

/-- A detail item's bytes, least significant first (R101). -/
def Detail.bytes : Detail → Bytes
  | .d4 v => le 4 (if 2 ^ 32 ≤ v then 2 ^ 32 - 1 else ofInt 4 v)
  | .d8 v => le 8 (ofInt 8 v)

/-- A 4-byte detail item. -/
def n4 (v : Nat) : Detail := .d4 v

/-- An 8-byte detail item. -/
def n8 (v : Nat) : Detail := .d8 v

/-- The 32 bytes of an EVENT item payload (Table 4.12). -/
def Event.bytes (e : Event) : Bytes :=
  le 2 e.code ++ le 2 e.unit ++ le 2 e.epoch ++ le 2 e.eseq ++ le 8 e.time ++
    padTo 16 0 ((e.detail.map Detail.bytes).flatten.take 16)

/-! ### Once in each TAI second -/

/-- Has this source been silent in the TAI second in progress? -/
def State.firstInSecond (s : State) (key : Nat) : Bool := SMap.get 0 s.ev.once key != s.second + 1

/-- The source has spoken in this TAI second. -/
def State.spoke (s : State) (key : Nat) : State :=
  { s with ev := { s.ev with once := SMap.set 0 s.ev.once key (s.second + 1) } }

/-! ### The registry's words (R421, R423) -/

/-- A unit's word after power-on reset: the code of its reset state and epoch 1. -/
def wordReset (unit : Nat) : StateWord :=
  if unit / 4096 = 2 then
    let d := unit % 4096
    { code := if d = 18 ∨ d = 19 ∨ d = 20 ∨ d = 23 then 0 else 2, epoch := 1 }
  else { code := 0, epoch := 1 }

/-- A unit's word. -/
def State.word (s : State) (unit : Nat) : StateWord := SMap.get (wordReset unit) s.mgt.words unit

/-- Write a unit's word. -/
def State.setWord (s : State) (unit : Nat) (w : StateWord) : State :=
  { s with mgt := { s.mgt with words := SMap.set (wordReset unit) s.mgt.words unit w } }

/-- The next epoch: it wraps from 0xFFFF to 1 (R423). -/
def nextEpoch (e : Nat) : Nat := if e = 0xFFFF then 1 else e + 1

/-- Is epoch a newer than epoch b (R423)? -/
def epochNewer (a b : Nat) : Bool :=
  let d := (a + 65536 - b) % 65536
  decide (1 ≤ d ∧ d ≤ 32767)

/-- The epoch an entry carries for a unit: 0 for the device, key slots and capture units (Table 4.12). -/
def State.epochOf (s : State) (unit : Nat) : Nat :=
  if unit / 4096 = 0 ∨ unit / 4096 = 7 ∨ unit / 4096 = 8 then 0 else (s.word unit).epoch

/-! ### The journal buffer (R398) -/

/-- The bytes an entry takes: header, body, padding to a multiple of 8 (R396). -/
def JEntry.size (e : JEntry) : Nat := 16 + (e.body.length + 7) / 8 * 8

/-- Is journaling on: PD21 ON, NVM_JCFG.EN in force and the journal below stage 4? -/
def State.journaling (s : State) : Bool :=
  s.domain 21 == 2 && s.on Fld.NVM_JCFG_EN && decide (s.get Fld.NVM_STATUS_JHEALTH < 4)

/-- The LOSS entry due before the next entry (R398). -/
def lossEntry (time : Tai) (lost : Nat) : JEntry := { type := 6, time := time, body := le 4 (satNat 32 lost) ++ le 4 0 }

/-- Put an entry into the 64 KiB journal buffer; one that finds it full is dropped and counted in JDROP. -/
def State.buffer (s : State) (e : JEntry) : State :=
  if s.journaling then
    let due := if s.nvm.lost = 0 then [e] else [lossEntry e.time s.nvm.lost, e]
    let size := (due.map JEntry.size).sum
    if s.nvm.used + size ≤ 65536 then
      { s with nvm := { s.nvm with buffer := s.nvm.buffer ++ due, used := s.nvm.used + size, lost := 0 } }
    else ({ s with nvm := { s.nvm with lost := s.nvm.lost + 1 } }).count (Reg.NVM_CNTk 1)
  else s

/-! ### The inlet of the RX rings (R99) -/

/-- A ring that has never been enabled. -/
def RxRing.fresh : RxRing :=
  { stream := false, log2 := 0, prod := 0, ack := 0, rseq := 0, idleDue := false, lost := 0, queue := [], held := 0,
    since := 0, wait := 0 }

/-- A TX ring that has never been enabled. -/
def TxRing.fresh : TxRing :=
  { log2 := 0, prod := 0, fetch := 0, cack := 0, cprod := 0, since := 0, wait := 0, owed := 0, dead := false, gen := 0 }

/-- A TX ring. -/
def State.txRing (s : State) (n : Nat) : TxRing := SMap.get TxRing.fresh s.hif.tx n

/-- Write a TX ring. -/
def State.setTxRing (s : State) (n : Nat) (r : TxRing) : State :=
  { s with hif := { s.hif with tx := SMap.set TxRing.fresh s.hif.tx n r } }

/-- An RX ring. -/
def State.rxRing (s : State) (n : Nat) : RxRing := SMap.get RxRing.fresh s.hif.rx n

/-- Write an RX ring. -/
def State.setRxRing (s : State) (n : Nat) (r : RxRing) : State :=
  { s with hif := { s.hif with rx := SMap.set RxRing.fresh s.hif.rx n r } }

/-- An entry is dropped: HIF_RXn_DROP counts it, and RING_DROP or a LOSS item will tell (R99). -/
def State.rxDrop (s : State) (n : Nat) : State :=
  let r := s.rxRing n
  (s.count (Reg.HIF_RXn_DROP n)).setRxRing n { r with lost := r.lost + 1 }

/-- Address an entry to an RX ring: a frame needs a RUNNING ring, an item a RUNNING record stream (R99). -/
def State.toRing (s : State) (n : Nat) (e : RxEntry) : State :=
  let r := s.rxRing n
  let stream := match e with
    | .item .. => true
    | .frame .. => false
  if s.get (Fld.HIF_RXn_STAT_STATE n) = 1 ∧ (stream = true → r.stream = true) then
    s.setRxRing n { r with queue := r.queue ++ [e] }
  else s.rxDrop n

/-! ### Events (R100, R101) -/

/-- An event is journaled and goes to the device event stream. DESIGN CHOICE (log 106): while ring 63 is OFF or in FAULT the
event is not counted in HIF_RX63_DROP. -/
def State.spread (s : State) (e : Event) : State :=
  let s := if s.get (Fld.HIF_RXn_STAT_STATE 63) = 1 then s.toRing 63 (.item 0x20 e.bytes) else s
  s.buffer { type := 1, time := e.time, body := e.bytes }

/-- Raise an event: it takes the next ESEQ, is journaled, and goes to RX ring 63 while that ring is RUNNING. Between the
commit point of a brace and RESTORE it is held in PD00, up to 8 of them (R373). -/
def State.raiseWith (s : State) (epoch : Nat) (code unit : Nat) (detail : List Detail) : State :=
  let e : Event := { code := code, unit := unit, epoch := epoch, eseq := (s.ev.eseq + 1) % 65536,
                     time := s.time.now, detail := detail }
  let s := { s with ev := { s.ev with eseq := e.eseq, raised := s.ev.raised ++ [e] } }
  let brace := s.get Fld.PWR_STATUS_BRACE
  if 2 ≤ brace ∧ brace ≤ 4 then
    if s.pwr.held.length < 8 then { s with pwr := { s.pwr with held := s.pwr.held ++ [e] } } else s
  else s.spread e

/-- After a journal entry: NVM_JOURNAL_LOSS (0x1206) once in a TAI second when an entry was dropped (R398). -/
def State.lossCheck (before s : State) : State :=
  if before.nvm.lost < s.nvm.lost ∧ s.firstInSecond 0x1206 then
    (s.spoke 0x1206).raiseWith 0 0x1206 0 [n4 s.nvm.lost]
  else s

/-- Raise an event of a unit with the unit's epoch. -/
def State.raise (s : State) (code unit : Nat) (detail : List Detail) : State :=
  State.lossCheck s (s.raiseWith (s.epochOf unit) code unit detail)

/-- Raise an event only the first time in a TAI second for its key. -/
def State.raiseOnce (s : State) (key code unit : Nat) (detail : List Detail) : State :=
  if s.firstInSecond key then (s.spoke key).raise code unit detail else s

/-- Journal an entry that is no event. -/
def State.log (s : State) (type : Nat) (body : Bytes) : State :=
  State.lossCheck s (s.buffer { type := type, time := s.time.now, body := body })

/-- A block rejects a value: its CFG_ERR bit is set and its CFG_REJECTED event raised with a copy of the register. -/
def State.cfgReject (s : State) (f : Fld) (code : Nat) (unit : Nat := 0) : State :=
  let s := s.put f 1
  s.raise code unit [n4 (s.reg f.off).toNat]

/-! ### The Halyard link (R337, Table 13.5) -/

/-- A frame leaves on the Halyard link: its header counts the frames of the lane. -/
def State.halSend (s : State) (type : Nat) (imageEnd : Bool) (payload : Bytes) : State :=
  let fseq := (s.hal.fseq + 1) % 65536
  let header := le 1 1 ++ le 1 type ++ le 1 ((Config.lastFrame s.beatIndex fseq).toNat + 2 * b2n imageEnd) ++
    le 1 (s.get Fld.HAL_STATUS_STRAP + 2 * s.get Fld.HAL_STATUS_ROLE) ++ le 4 s.beatIndex ++ le 2 payload.length ++
    le 2 fseq ++ le 2 Config.shadowFmt.toNat ++ le 2 0
  ({ s with hal := { s.hal with fseq := fseq } }).emit (.halyard type header payload)

/-- Partner evidence in the beat in progress (R343). -/
def State.partnerEvidence (s : State) : State := { s with hal := { s.hal with evSeen := true } }

/-- Does a frame carry the identifier of time beacons? -/
def State.beaconId (s : State) (w : Wire) : Bool :=
  let id := s.cur Fld.TIME_BCN_ID_ID
  if s.on Fld.TIME_BCN_FMT_XL then w.kind == 2 && w.id % 2 ^ 11 == id % 2 ^ 11
  else w.kind != 2 && w.ide == s.on Fld.TIME_BCN_ID_IDE && idSent w.ide w.id == idSent w.ide id

/-! ### Transitions and observations (R422, R428) -/

/-- A transition message reaches the registry; one that fails its parity check is counted in MSG_DROP. -/
def State.message (s : State) (unit code : Nat) (lost : Bool := false) : State :=
  if lost then s.count (Reg.MGT_CNTk 7)
  else
    let w := s.word unit
    let e := nextEpoch w.epoch
    let s := s.setWord unit { code := code, epoch := e }
    let s := { s with mgt := { s.mgt with suspects := SMap.del s.mgt.suspects unit } }
    s.log 2 (le 2 unit ++ le 1 w.code ++ le 1 code ++ le 2 e ++ le 10 0)

/-- The silent states of a unit (Table 17.1). -/
def silentCode (unit code : Nat) : Bool :=
  let k := unit / 4096
  let i := unit % 4096
  if k = 1 then
    if i < 48 then code == 0 || code == 5 || code == 6
    else if i < 77 then code == 0 || code == 6
    else code == 0
  else if k = 2 then code == 0 || code == 1
  else if k = 3 ∨ k = 4 then code == 0
  else if k = 5 then code == 0 || code == 6
  else false

/-- Is the unit's live word in a silent state? A word with a parity error is taken as silent (R430). -/
def State.silent (s : State) (unit : Nat) : Bool :=
  s.mgt.bad.contains unit || silentCode unit (s.word unit).code

/-- An observation of traffic on a unit: a silent word marks it suspect, with the time of the first observation. -/
def State.observe (s : State) (unit : Nat) : State :=
  if s.silent unit ∧ (s.mgt.suspects.any fun e => e.1 == unit) = false then
    { s with mgt := { s.mgt with
        suspects := SMap.put s.mgt.suspects unit { time := s.time.now, beats := 0 } } }
  else s

/-- An observation on a port, and with it on the domain that powers it (Table 17.2). -/
def State.observePort (s : State) (p : Nat) : State :=
  (s.observe (unitOf 1 p)).observe (unitOf 2 (domainOf p))

end Sys2Proof.Machine
end

