-- ==== Sys2Proof/Machine/ShrOps.lean ====
section
/-! DEFINITION. Shroud's faults: set, cleared, counted and reported (chapter "Shroud", R384, R385, R389, R390). Places are the
logical ports of the CAN and T1S lines, and 79 for the sense inputs. -/

namespace Sys2Proof.Machine

/-- A line without a fault or a measurement. -/
def ShrLine.fresh : ShrLine := { cls := 0, runs := 0, done := none, setAt := [], acted := false }

def State.shrOf (s : State) (p : Nat) : ShrLine := SMap.get ShrLine.fresh s.shr p
def State.setShr (s : State) (p : Nat) (x : ShrLine) : State := { s with shr := SMap.set ShrLine.fresh s.shr p x }

/-- Is a fault set at a place? -/
def State.faulted (s : State) (p code : Nat) : Bool := (s.shrOf p).setAt.any fun e => e.1 == code

/-- The action that a fault code carries (Tables 15.2 and 15.3). -/
def State.shrAction (s : State) (p code : Nat) : Nat :=
  if code = 0x09 then (if s.on (Fld.SHR_CANn_CFG_SWAP_EN p) then 2 else 0)
  else if code = 0x0B ∨ code = 0x13 then 1
  else if code = 0x12 then 3
  else if code = 0x20 ∨ code = 0x21 then 4
  else 0

/-- The status registers show a fault set or cleared. -/
def State.shrShow (s : State) (p code : Nat) (set : Bool) : State :=
  let v := b2n set
  if p < 48 then
    let r := Reg.SHR_CANn_STAT p
    let s := s.setReg r (BitVec.ofNat 32 (setBits (s.reg r).toNat code code v))
    if code = 0x0B then s.put (Fld.SHR_CANn_STAT_THERMAL p) v else s
  else if p < 56 then
    let r := Reg.SHR_T1Ss_STAT (p - 48)
    let s := s.setReg r (BitVec.ofNat 32 (setBits (s.reg r).toNat (code - 0x10) (code - 0x10) v))
    if code = 0x12 then s.put (Fld.T1S_Ss_STATUS_POL_CORRECTED (p - 48)) v else s
  else if code = 0x20 then s.put Fld.SHR_SENSE_STAT_MAIN_REVERSED v
  else
    let s := s.put Fld.SHR_SENSE_STAT_BKUP_REVERSED v
    if set then s.put Fld.PWR_STATUS_BKUP_OK 0 else s

/-- The UNIT of a place's events. -/
def shrUnit (p : Nat) : Nat := if p < 56 then unitOf 1 p else 0

/-- A fault is set: counted, shown, and reported once in a TAI second (R389, R390). -/
def State.shrSet (s : State) (p code : Nat) (value : Int) : State :=
  if s.faulted p code then s
  else
    let x := s.shrOf p
    let s := s.setShr p { x with setAt := x.setAt ++ [(code, s.time.now)], acted := if code = 0x09 then false else x.acted }
    let s := ((s.shrShow p code true).count (Reg.SHR_CNTc code)).put Fld.SHR_ACTIVE_COUNT (s.get Fld.SHR_ACTIVE_COUNT + 1)
    s.raiseOnce (0x1101 * 65536 + 256 * code + p) 0x1101 (shrUnit p) [n4 code, n4 (s.shrAction p code), .d4 value]

/-- A fault is cleared. -/
def State.shrClear (s : State) (p code : Nat) : State :=
  let x := s.shrOf p
  match x.setAt.find? fun e => e.1 == code with
  | none => s
  | some e =>
    let s := s.setShr p { x with setAt := x.setAt.filter fun e => e.1 != code }
    let s := (s.shrShow p code false).put Fld.SHR_ACTIVE_COUNT (s.get Fld.SHR_ACTIVE_COUNT - 1)
    s.raiseOnce (0x1102 * 65536 + 256 * code + p) 0x1102 (shrUnit p) [n4 code, n8 e.2]

/-- One result joins the consecutive results of its class; the CONFIRM-th sets the class's fault, or for class 0 clears every
fault of the list. A fault class that is set clears the others. -/
def State.shrConfirm (s : State) (p cls : Nat) (codes : List Nat) (value : Int) : State :=
  let x := s.shrOf p
  let runs := if x.cls = cls then x.runs + 1 else 1
  let s := s.setShr p { x with cls := cls, runs := runs }
  if runs < s.cur Fld.SHR_CFG_CONFIRM then s
  else
    let s := (codes.filter fun c => c != cls).foldl (fun (s : State) c => s.shrClear p c) s
    if cls = 0 then s else s.shrSet p cls value

/-- The amplitude at the MDI of a frame or BEACON that a T1S port has sent (R385). -/
def State.shrAmplitude (s : State) (port mv : Nat) : State :=
  let s := s.put (Fld.SHR_T1Ss_AMP_MV (port - 48)) (satNat 12 mv)
  s.shrConfirm port (if mv < 300 then 0x10 else if 1500 < mv then 0x11 else 0) [0x10, 0x11] mv

end Sys2Proof.Machine
end

