-- ==== Sys2Proof/Machine/Routes.lean ====
section
/-! DEFINITION. The route tables: their layouts, the lookup, commit validation with the run-ahead duration rule, and the
commit's go-live instant (chapters "Fabric, Routes and Traffic Classes", "Run-Ahead Forwarding"). -/

namespace Sys2Proof.Machine

/-- A doubleword of the register file as a number. -/
def State.w (s : State) (off : Nat) : Nat := (s.reg off).toNat

/-! ### Layouts (Table 5.4, R110, R125) -/

/-- A route entry read from a table: `rd w` is its word w. -/
def parseRoute (index : Nat) (rd : Nat → Nat) : Route :=
  let eg := rd 4 + 2 ^ 32 * rd 5 + 2 ^ 64 * bits (rd 6) 15 0
  { index := index, ctrl := bits (rd 0) 7 0, ingress := bits (rd 0) 14 8, cls := bits (rd 0) 18 16,
    xlate := bits (rd 0) 31 24, key := rd 1, mask := rd 2, hkeyRing := bits (rd 3) 7 0, hkeyDest := bits (rd 3) 14 8,
    authProf := bits (rd 3) 21 16, rxRing := bits (rd 3) 29 24,
    egress := (List.range 80).filter (fun p => bit eg p), limiter := bits (rd 6) 31 16, outId := rd 7,
    auth := [], tun := [] }

def Route.valid (r : Route) : Bool := bit r.ctrl 0
def Route.runAhead (r : Route) : Bool := bit r.ctrl 1
def Route.afaCheck (r : Route) : Bool := bit r.ctrl 2
def Route.afaAdd (r : Route) : Bool := bit r.ctrl 3
def Route.deliverFailed (r : Route) : Bool := bit r.ctrl 4
def Route.rawKey (r : Route) : Bool := bit r.ctrl 5
/-- The external egress ports. -/
def Route.external (r : Route) : List Nat := r.egress.filter (· < 77)
/-- The internal egress ports. -/
def Route.internal (r : Route) : List Nat := r.egress.filter (77 ≤ ·)

/-- The fields of an authentication profile that a route's snapshot holds (R110, Table 11.10). -/
def Route.authWord (r : Route) (i : Nat) : Nat := r.auth.getD i 0
def Route.keySlot (r : Route) : Nat := bits (r.authWord 0) 5 0
def Route.afa12 (r : Route) : Bool := bit (r.authWord 0) 8
def Route.retractId (r : Route) : Nat := r.authWord 1
def Route.acceptWin (r : Route) : Nat := if bits (r.authWord 2) 15 0 = 0 then 1024 else bits (r.authWord 2) 15 0
def Route.fvShift (r : Route) : Nat := bits (r.authWord 2) 20 16
def Route.fvBits (r : Route) : Nat := min 4 (bits (r.authWord 2) 26 24)
def Route.strip (r : Route) : Bool := bit (r.authWord 2) 27
def Route.altEn (r : Route) : Bool := bit (r.authWord 2) 28
def Route.altSlot (r : Route) : Nat := bits (r.authWord 3) 5 0

/-- The live entry of a route index, with snapshots of its authentication and tunnel profiles. -/
def State.liveRoute (s : State) (j : Nat) : Route :=
  let r := parseRoute j (fun w => s.w (Reg.RT_LIVE_ROUTE j w))
  { r with auth := (List.range 4).map (fun w => s.w (Reg.RT_LIVE_AUTH r.authProf w)),
           tun := (List.range 8).map (fun w => s.w (Reg.RT_LIVE_TUN (r.outId % 16) w)) }

/-- The indices of the valid entries of a route table, ascending: a valid entry's word 0 is listed. -/
def State.validRoutes (s : State) (base : Nat) : List Nat :=
  s.regs.filterMap fun e =>
    if base ≤ e.1 ∧ e.1 < base + 0x20000 ∧ (e.1 - base) % 32 = 0 ∧ bit e.2.toNat 0 then some ((e.1 - base) / 32) else none

def State.liveRoutes (s : State) : List Route := (s.validRoutes 0xC0000).map s.liveRoute

/-- A limiter's RATE, EN, UNIT and BURST from its two words. -/
def limRate (w0 : Nat) : Nat := bits w0 23 0
def limEn (w0 : Nat) : Bool := bit w0 24
def limBytes (w0 : Nat) : Bool := bit w0 25
def limBurst (w1 : Nat) : Nat := bits w1 15 0

/-! ### Lookup (R111-R113) -/

/-- Does an entry match a frame on an ingress port? For ingress 78, `host` is the TX ring and the descriptor's DEST. -/
def Route.matches (etype : Nat) (ingress : Nat) (host : Option (Nat × Nat)) (w : Wire) (r : Route) : Bool :=
  r.ingress == ingress &&
  (match keyFor etype r.rawKey w with
   | some k => (Nat.xor r.key k).land r.mask == 0
   | none => false) &&
  (match host with
   | some (ring, dest) => ingress != 78 || (r.hkeyDest == dest && (bit r.hkeyRing 7 || r.hkeyRing % 64 == ring))
   | none => ingress != 78)

/-- The lowest-numbered matching live entry. -/
def State.lookup (s : State) (ingress : Nat) (host : Option (Nat × Nat)) (w : Wire) : Looked :=
  match s.liveRoutes.find? (fun r => r.matches (s.cur Fld.FAB_TUN_ETYPE_ETYPE) ingress host w) with
  | some r => .route r
  | none => .miss

/-- A lookup that chose a route counts in FAB_HITj. -/
def State.looked (s : State) (ingress : Nat) (host : Option (Nat × Nat)) (w : Wire) : Looked × State :=
  let l := s.lookup ingress host w
  match l with
  | .route r => (l, s.count (Reg.FAB_HITj r.index))
  | .miss => (l, s)

/-! ### Bit times (R167) and the duration rule (R140, R141, Table 6.2) -/

/-- Cycles of the 160 MHz CAN clock in one bit of a timing register. -/
def bitCycles (v : Nat) : Nat := (bits v 4 0 + 1) * (1 + (bits v 15 8 + 1) + (bits v 22 16 + 1))

/-- A CAN port's nominal and FD data bit times in cycles, as in force. -/
def State.canBits (s : State) (p : Nat) : Nat × Nat :=
  (bitCycles (s.liveReg (Reg.CANP_NBT p)).toNat, bitCycles (s.liveReg (Reg.CANP_DBT p)).toNat)

/-- A frame format of the duration rule: kind, IDE, BRS. -/
abbrev Fmt := Nat × Bool × Bool

/-- Cycles from SOF to the end of the control field, without stuff bits. -/
def headCycles (f : Fmt) (b : Nat × Nat) : Nat :=
  let d := if f.2.2 then b.2 else b.1
  if f.1 = 0 then (if f.2.1 then 39 else 19) * b.1
  else (if f.2.1 then 36 else 17) * b.1 + 5 * d

/-- Cycles of a data field of `n` bytes with `st` stuff bits. -/
def dataCycles (f : Fmt) (b : Nat × Nat) (n st : Nat) : Nat :=
  (8 * n + st) * (if f.1 = 1 ∧ f.2.2 then b.2 else b.1)

/-- Cycles of the CRC field, with `st` stuff bits for a classical frame, and the CRC delimiter. -/
def crcCycles (f : Fmt) (b : Nat × Nat) (n st : Nat) : Nat :=
  if f.1 = 0 then (15 + st + 1) * b.1
  else ((if n ≤ 16 then 27 else 32) + 1) * (if f.2.2 then b.2 else b.1)

/-- The data-field sizes of an ingress kind. -/
def sizesOf (kind : Nat) : List Nat := if kind = 0 then List.range 9 else fdSizes

/-- The duration rule for a CAN egress, one size: D_eg ≥ D_rem + 2 µs (320 cycles), at both ends of the range of S. -/
def durationCan (fi fe : Fmt) (bi be : Nat × Nat) (n : Nat) : Bool :=
  [0, 8 * n / 4].all fun st =>
    let deg := headCycles fe be + dataCycles fe be n st + crcCycles fe be n 0 + 2 * be.1
    let rem := dataCycles fi bi n (st + 2) + crcCycles fi bi n 3 + 2 * bi.1 + 6 * bi.1
    decide (rem + 320 ≤ deg)

/-- The rate of an Ethernet-type port in Mbit/s (R235, Tables 9.3 and 9.7). -/
def State.ethMbit (s : State) (p : Nat) : Nat :=
  if p < 56 then 10
  else
    let q := p - 56
    let pcs := s.cur (Fld.ETH_Pq_MODE_PCS q)
    if q = 4 then (if pcs = 1 then 10 else if pcs = 2 then 100 else 1000)
    else if pcs = 1 then 1000
    else if pcs = 2 then
      (let sp := s.get (Fld.ETH_Pq_STATUS_SPEED q)
       if sp = 0 then 10 else if sp = 1 then 100 else 1000)
    else if pcs = 3 then 2500
    else if pcs = 4 then 10000
    else 25000

/-- The duration rule for an Ethernet-type egress: preamble, SFD and 2,116 bytes, or 2,148 on a protected lane. -/
def State.durationEth (s : State) (fi : Fmt) (bi : Nat × Nat) (p n : Nat) : Bool :=
  let bytes := if 56 ≤ p ∧ p < 60 ∧ s.on (Fld.LSEC_Ll_CTRL_TX_EN (p - 56)) then 2156 else 2124
  -- in units of 6.25 ns / rate: D_eg = bytes * 8 * 160 cycles per Mbit/s
  let rem := crcCycles fi bi n 3 + 2 * bi.1 + 6 * bi.1
  decide ((rem + 320) * s.ethMbit p ≤ bytes * 8 * 160)

/-- The ingress formats that an entry's key lets through (R140): kinds up to the port's, both identifier lengths and
both values of BRS where the key does not fix them. -/
def routeFormats (kind : Nat) (r : Route) : List Fmt :=
  let kinds := (List.range (kind + 1)).filter fun k =>
    k ≤ 1 && ((bits r.mask 31 30 != 3) || bits r.key 31 30 == k)
  let ides := if bit r.mask 29 then [bit r.key 29] else [false, true]
  kinds.flatMap fun k => ides.flatMap fun i => (if k = 1 then [false, true] else [false]).map fun b => (k, i, b)

/-- The egress formats of an ingress format: unchanged under XLATE 0; under CAN_CONVERT the kind and IDE of OUT_ID, and
BRS as received for an FD frame, either value for a frame that becomes FD. -/
def egressFormats (r : Route) (f : Fmt) : List Fmt :=
  if r.xlate = 1 then
    let k := bits r.outId 31 30
    let i := bit r.outId 29
    if k = 1 ∧ f.1 = 0 then [(1, i, false), (1, i, true)] else [(k, i, f.2.2)]
  else [f]

/-- Does the duration rule hold for every external egress of a route, at the timing in force? -/
def State.duration (s : State) (r : Route) : Bool :=
  let bi := s.canBits r.ingress
  (routeFormats (s.canKind r.ingress) r).all fun f =>
    (sizesOf f.1).all fun n =>
      r.external.all fun p =>
        if p < 48 then (egressFormats r f).all fun g => durationCan f g bi (s.canBits p) n
        else s.durationEth f bi p n

/-- The conditions of Table 6.1 beside the duration rule. -/
def State.raAllowed (s : State) (r : Route) : Bool :=
  decide (r.ingress < 48) && decide (s.canKind r.ingress ≤ 1) && !r.afaAdd && decide (r.xlate ≠ 3 ∧ r.xlate ≠ 4) &&
  r.external.all fun p =>
    if p < 48 then decide (s.canKind p ≤ 1 ∧ r.xlate ≤ 1)
    else decide (48 ≤ p ∧ p ≤ 60 ∧ r.xlate = 2) && !r.afaCheck

/-! ### Validation (R117, R122, R139, R315, R523, Table 5.6) -/

/-- The possible ingress kinds of a route (R523, R315). -/
def State.ingressKinds (s : State) (r : Route) : List Nat :=
  if r.ingress = 78 then
    if r.hkeyDest < 48 then
      if bits r.mask 31 30 = 3 then [bits r.key 31 30]
      else (List.range (s.canKind r.hkeyDest + 1))
    else [s.kindOf r.hkeyDest]
  else if r.ingress = 77 then
    if bits r.mask 31 30 = 3 ∧ bits r.key 31 30 ≤ 1 then [bits r.key 31 30] else [6]
  else [s.kindOf r.ingress]

/-- Can a translation carry an ingress kind to an egress port (Table 5.7)? -/
def State.xlateAllowed (s : State) (r : Route) (k p : Nat) : Bool :=
  let out := bits r.outId 31 30
  let pk := s.kindOf p
  if r.xlate = 0 then
    if k ≤ 2 then decide (p < 48 ∧ k ≤ pk) else if k = 3 ∨ k = 4 then decide (pk = 3 ∨ pk = 4) else decide (k = 5 ∧ pk = 5)
  else if r.xlate = 1 then decide (k ≤ 2 ∧ p < 48 ∧ out ≤ 2 ∧ out ≤ pk ∧ k ≤ out)
  else if r.xlate = 2 then decide ((k ≤ 2 ∨ k = 5) ∧ (pk = 3 ∨ pk = 4))
  else if r.xlate = 3 then decide ((k = 3 ∨ k = 4) ∧ p < 48)
  else if r.xlate = 4 then
    if p < 48 then decide (k ≤ 5 ∧ (out = 1 ∨ out = 2) ∧ out ≤ pk ∧ out ≠ k) else decide (k ≤ 5 ∧ pk = 5 ∧ k ≠ 5)
  else false

/-- Can a translation take a frame of an ingress kind at all (Table 5.7, its ingress column, and what OUT_ID must hold under
CAN_CONVERT)? It stands for a route without external egress too. -/
def xlateTakes (r : Route) (k : Nat) : Bool :=
  let out := bits r.outId 31 30
  if r.xlate = 0 then true
  else if r.xlate = 1 then decide (k ≤ 2 ∧ out ≤ 2 ∧ k ≤ out)
  else if r.xlate = 2 then decide (k ≤ 2 ∨ k = 5)
  else if r.xlate = 3 then decide (k = 3 ∨ k = 4)
  else decide (k ≤ 5)

/-- Kinds 3 and 4 count as one kind. -/
def kindClass (k : Nat) : Nat := if k = 4 then 3 else k

/-- Is an identifier conversion safe from narrowing (R122)? -/
def narrowSafe (r : Route) : Bool :=
  r.xlate != 1 || bit r.outId 29 || (bit r.mask 29 && !bit r.key 29) || bits r.mask 28 11 == 2 ^ 18 - 1

/-- The reason codes that a valid shadow route entry breaks, ascending. -/
def State.routeReasons (s : State) (r : Route) (rd : Nat → Nat) : List Nat :=
  let ext := r.external
  let host := r.ingress = 78
  let ing := s.ingressKinds r
  let c (n : Nat) (b : Bool) : List Nat := if b then [n] else []
  c 1 (bits (rd 0) 7 6 != 0 || bit (rd 0) 15 || bits (rd 0) 23 19 != 0 || bit (rd 3) 6 || bit (rd 3) 15 ||
       bits (rd 3) 23 22 != 0 || bits (rd 3) 31 30 != 0) ++
  c 2 (decide (79 < r.ingress)) ++
  c 3 (r.egress.contains r.ingress) ++
  c 4 (!(ext.all fun p => kindClass (s.kindOf p) == kindClass (s.kindOf (ext.headD 0))) ||
       decide (4 < r.xlate) || !(ing.all fun k => xlateTakes r k) || !(ext.all fun p => ing.all fun k => s.xlateAllowed r k p)) ++
  c 5 (r.runAhead && !(s.raAllowed r && s.duration r)) ++
  c 6 (r.egress.contains 78 && r.rxRing == 63) ++
  c 7 (r.limiter != 0xFFFF && (decide (1023 < r.limiter) || !limEn (s.w (Reg.RT_SHADOW_LIM r.limiter 0)))) ++
  c 8 ((r.afaCheck && r.afaAdd) ||
       (r.afaCheck && !(decide (r.ingress < 48) || (decide host && ing.all (· ≤ 2)))) ||
       (r.afaAdd && (ext.isEmpty || ext.any (48 ≤ ·)))) ++
  c 9 (!narrowSafe r) ++
  c 11 (decide host && (r.xlate == 3 || r.xlate == 4))

/-- The shadow route of an index. -/
def State.shadowRoute (s : State) (j : Nat) : Route := parseRoute j (fun w => s.w (Reg.RT_SHADOW_ROUTE j w))

def natDedup (l : List Nat) : List Nat := l.foldl (fun a x => if a.contains x then a else a ++ [x]) []

/-- Insert into an ascending list. -/
def natInsert (x : Nat) : List Nat → List Nat
  | [] => [x]
  | y :: l => if x ≤ y then x :: y :: l else y :: natInsert x l

def natSort (l : List Nat) : List Nat := l.foldr natInsert []

/-- The first failing entry of the shadow tables and its lowest reason: (table, entry, reason). -/
def State.validate (s : State) : Option (Nat × Nat × Nat) :=
  let rs := (s.validRoutes 0x80000).map s.shadowRoute
  let route := rs.findSome? fun r =>
    ((s.routeReasons r (fun w => s.w (Reg.RT_SHADOW_ROUTE r.index w))).head?).map fun c => (0, r.index, c)
  let lims := natSort (natDedup ((rs.map (·.limiter)).filter (· ≤ 1023)))
  let lim := lims.findSome? fun i =>
    let w0 := s.w (Reg.RT_SHADOW_LIM i 0)
    let w1 := s.w (Reg.RT_SHADOW_LIM i 1)
    if bits w0 31 26 != 0 ∨ bits w1 31 16 != 0 then some (1, i, 1)
    else if limEn w0 ∧ (limRate w0 = 0 ∨ limBurst w1 = 0) then some (1, i, 10) else none
  let auths := natSort (natDedup ((rs.filter fun r => r.afaCheck || r.afaAdd).map (·.authProf)))
  let auth := auths.findSome? fun a =>
    let w (k : Nat) := s.w (Reg.RT_SHADOW_AUTH a k)
    if bits (w 0) 7 6 != 0 ∨ bits (w 0) 31 9 != 0 ∨ bits (w 2) 23 21 != 0 ∨ bits (w 2) 31 29 != 0 ∨
       bits (w 3) 31 6 != 0 then some (2, a, 1)
    else if 28 < bits (w 2) 20 16 then some (2, a, 13) else none
  let tuns := natSort (natDedup ((rs.filter fun r => r.xlate == 2).map (fun r => r.outId % 16)))
  let tun := tuns.findSome? fun t =>
    let w (k : Nat) := s.w (Reg.RT_SHADOW_TUN t k)
    if bits (w 1) 31 17 != 0 ∨ bits (w 2) 31 16 != 0 ∨ ((List.range 5).any fun k => w (k + 3) != 0) then some (3, t, 1)
    else none
  route <|> lim <|> auth <|> tun

/-! ### The commit (R115-R117, R127, R157, R158) -/

/-- FAB_COMMIT.GO: validation starts; while a commit is pending the GO is ignored (R116). -/
def State.commitGo (s : State) : State :=
  if s.get Fld.FAB_STATUS_COMMIT = 0 then
    (s.put Fld.FAB_STATUS_COMMIT 1).setReg Reg.FAB_COMMIT_RES 1#32
  else s

/-- Validation ends. -/
def State.commitValidated (s : State) : State :=
  if s.get Fld.FAB_STATUS_COMMIT = 1 then
    match s.validate with
    | none => ({ s with fab := { s.fab with validated := true } }).put Fld.FAB_STATUS_COMMIT 2
    | some (table, entry, reason) =>
      let s := s.put Fld.FAB_STATUS_COMMIT 0
      let s := s.setReg Reg.FAB_COMMIT_RES
        (BitVec.ofNat 32 (3 + reason * 2 ^ 4 + entry * 2 ^ 16 + table * 2 ^ 28))
      s.raise 0x0502 0 [n4 table, n4 entry, n4 reason]
  else s

/-- Run-ahead of a route is disabled: 1 CANCELS, 2 RATE, 3 UNRETRACTED. -/
def State.raDisable (s : State) (j reason : Nat) (ingress : Nat) : State :=
  let s := ((s.put (Fld.FAB_RA_STATj_DISABLED j) 1).put (Fld.FAB_RA_STATj_REASON j) reason).put (Fld.FAB_RA_STATj_ACTIVE j) 0
  s.raise 0x050B (unitOf 1 ingress) [n4 j, n4 reason]

/-- The disabled state and the cancellation history of a route are cleared. -/
def State.raClear (s : State) (j : Nat) (ingress : Nat) : State :=
  let was := s.get (Fld.FAB_RA_STATj_DISABLED j) = 1
  let s := ((s.put (Fld.FAB_RA_STATj_DISABLED j) 0).put (Fld.FAB_RA_STATj_REASON j) 0).put (Fld.FAB_RA_STATj_WINDOW j) 0
  let s := { s with fab := { s.fab with history := SMap.del s.fab.history j } }
  if was then s.raise 0x050C (unitOf 1 ingress) [n4 j] else s

/-- FAB_RA_STATj.ACTIVE shows whether the live entry runs ahead and is not disabled. -/
def State.raShow (s : State) (j : Nat) : State :=
  let r := s.liveRoute j
  s.put (Fld.FAB_RA_STATj_ACTIVE j)
    (b2n (r.valid && r.runAhead && s.get (Fld.FAB_RA_STATj_DISABLED j) == 0))

/-- The routes whose run-ahead is disabled, ascending. -/
def State.raDisabled (s : State) : List Nat :=
  s.regs.filterMap fun (e : Nat × Word) =>
    if 0x4A000 ≤ e.1 ∧ e.1 < 0x4E000 ∧ e.1 % 4 = 0 ∧ bit e.2.toNat 1 then some ((e.1 - 0x4A000) / 4) else none

/-- Every live run-ahead route, or those that use one CAN port, is checked against the duration rule; a route that
breaks it is disabled with RATE unless it is disabled already (R158). -/
def State.raRecheck (s : State) (port : Option Nat) : State :=
  s.liveRoutes.foldl (fun s r =>
    let uses : Bool := match port with
      | none => true
      | some p => r.ingress == p || r.egress.contains p
    if r.runAhead ∧ uses ∧ s.get (Fld.FAB_RA_STATj_DISABLED r.index) = 0 ∧ s.duration r = false then
      s.raDisable r.index 2 r.ingress
    else s) s

/-- A re-arm takes effect: the route's state and history are cleared; one that still breaks the duration rule is
disabled again at once with RATE (R157, R158). -/
def State.raRearm (s : State) (j : Nat) : State :=
  let r := s.liveRoute j
  if r.valid ∧ r.runAhead ∧ s.duration r = false then
    let s := { s with fab := { s.fab with history := SMap.del s.fab.history j } }
    ((s.put (Fld.FAB_RA_STATj_WINDOW j) 0).put (Fld.FAB_RA_STATj_DISABLED j) 1).put (Fld.FAB_RA_STATj_REASON j) 2
  else (s.raClear j r.ingress).raShow j

/-- A live limiter that goes live for the first time starts full; one that is changed keeps its count, clipped to the
new BURST, or takes BURST when UNIT changes (R125, R127). -/
def State.limGoLive (old s : State) (i : Nat) : State :=
  let w0 := s.w (Reg.RT_LIVE_LIM i 0)
  let full := limBurst (s.w (Reg.RT_LIVE_LIM i 1)) * 256
  let known := SMap.get false old.fab.limLive i
  let tok := s.w (Reg.FAB_LIMi_TOK i)
  let tok := if !known || limBytes w0 != limBytes (old.w (Reg.RT_LIVE_LIM i 0)) then full else min tok full
  if limEn w0 then
    let s := s.setReg (Reg.FAB_LIMi_TOK i) (BitVec.ofNat 32 tok)
    { s with fab := { s.fab with limLive := SMap.set false s.fab.limLive i true } }
  else if known then s.setReg (Reg.FAB_LIMi_TOK i) (BitVec.ofNat 32 (min tok full))
  else s

/-- The live window takes the content of the shadow window. -/
def State.copyTables (s : State) : State :=
  let keep := s.regs.filter fun e => decide (e.1 < 0xC0000)
  let shadow := (s.regs.filter fun e => decide (0x80000 ≤ e.1 ∧ e.1 < 0xC0000)).map fun e => (e.1 + 0x40000, e.2)
  let rest := s.regs.filter fun e => decide (0x100000 ≤ e.1)
  { s with regs := keep ++ shadow ++ rest }

/-- The commit goes live: the tables, the limiters, the epoch, the run-ahead states, the event. -/
def State.commitApply (s : State) : State :=
  if s.fab.validated then
    let s := { s with fab := { s.fab with validated := false } }
    let old := s
    let was := s.validRoutes 0xC0000
    let s := s.copyTables
    let lims := (old.fab.limLive.map (·.1)) ++
      (s.regs.filterMap fun e => if 0xE0000 ≤ e.1 ∧ e.1 < 0xE2000 then some ((e.1 - 0xE0000) / 8) else none)
    let s := (natSort (natDedup lims)).foldl (fun s i => State.limGoLive old s i) s
    let epoch := (s.w Reg.FAB_ROUTE_EPOCH + 1) % 2 ^ 32
    let s := s.setReg Reg.FAB_ROUTE_EPOCH (BitVec.ofNat 32 epoch)
    let s := (s.put Fld.FAB_STATUS_COMMIT 0).setReg Reg.FAB_COMMIT_RES 2#32
    let touched := natSort (natDedup (was ++ s.validRoutes 0xC0000 ++ s.raDisabled))
    let s := touched.foldl (fun s j =>
      let r := s.liveRoute j
      if r.valid ∧ r.runAhead then s else s.raClear j r.ingress) s
    let s := s.raRecheck none
    let s := touched.foldl State.raShow s
    s.raise 0x0501 0 [n4 epoch]
  else s

/-- The commit is abandoned (R40, R116): RESULT 3 with REASON 12, no FAB_COMMIT_REJECTED. -/
def State.commitAbandon (s : State) : State :=
  if s.fab.validated then
    (({ s with fab := { s.fab with validated := false } }).put Fld.FAB_STATUS_COMMIT 0).setReg Reg.FAB_COMMIT_RES (BitVec.ofNat 32 (3 + 12 * 2 ^ 4))
  else s

end Sys2Proof.Machine
end

