-- ==== Sys2Proof/Machine/Fabric.lean ====
section
/-! DEFINITION. The fabric: frames in packet memory, queues, egress copies and their outcomes, translation, admission and
internal delivery (chapter "Fabric, Routes and Traffic Classes", R89-R92, R199, R345-R347, R363). -/

namespace Sys2Proof.Machine

/-- The value of a listed key. -/
def SMap.look {α : Type} (m : List (Nat × α)) (k : Nat) : Option α := (m.find? fun e => e.1 == k).map (·.2)

/-! ### Frames -/

def State.frame? (s : State) (fid : Nat) : Option Frame := SMap.look s.fab.frames fid

def State.setFrame (s : State) (fid : Nat) (f : Frame) : State :=
  { s with fab := { s.fab with frames := SMap.put s.fab.frames fid f } }

/-- Packet memory blocks of a payload length (R130). -/
def blocksFor (len : Nat) : Nat := (32 + len + 255) / 256

/-- Free packet memory blocks. -/
def State.freeBlocks (s : State) : Nat := s.get Fld.FAB_FREE_BLOCKS

/-- Put a frame into packet memory. -/
def State.alloc (s : State) (f : Frame) : Nat × State :=
  let fid := s.fab.nextFid
  let s := s.put Fld.FAB_FREE_BLOCKS (s.freeBlocks - f.blocks)
  (fid, { s with fab := { s.fab with frames := SMap.put s.fab.frames fid f, nextFid := fid + 1 } })

/-- The receive FIFOs of the serial channels empty into packet memory while there is room beyond the host reserve (R256). -/
def State.fifosEmpty (s : State) : State :=
  if s.cur Fld.FAB_HOSTBUF_BLOCKS < s.freeBlocks then
    { s with ser := s.ser.map fun (e : Nat × SerChan) => (e.1, { e.2 with fifo := 0 }) }
  else s

/-- A frame leaves packet memory. -/
def State.release (s : State) (fid : Nat) : State :=
  match s.frame? fid with
  | none => s
  | some f =>
    let s := (s.put Fld.FAB_FREE_BLOCKS (s.freeBlocks + f.blocks)).fifosEmpty
    { s with fab := { s.fab with frames := SMap.del s.fab.frames fid }, ra := SMap.del s.ra fid }

/-- A frame's flow: its route, and for a host frame its TX ring; the delivered misses of a port form a flow (R134, R113). -/
def Frame.flow (f : Frame) : Nat :=
  match f.route with
  | some r => r.index * 64 + (match f.host with | some h => h.ring | none => 0)
  | none => 4096 * 64 + f.ingress

/-- A flow becomes gap-pending (R135). -/
def State.gap (s : State) (flow : Nat) : State :=
  { s with fab := { s.fab with gaps := SMap.set false s.fab.gaps flow true } }

/-- Is a flow gap-pending? -/
def State.gapped (s : State) (flow : Nat) : Bool := SMap.get false s.fab.gaps flow

/-- SEQ_GAP has been written for a flow. -/
def State.clearGap (s : State) (flow : Nat) : State :=
  { s with fab := { s.fab with gaps := SMap.set false s.fab.gaps flow false } }

/-- A frame whose flow it makes gap-pending keeps how the flow stood before, for its own completion. -/
def Frame.marked (f : Frame) (s : State) : Frame :=
  if f.prior.isNone then { f with prior := some (s.gapped f.flow) } else f

/-- A frame is lost, or one of its copies: its flow becomes gap-pending (R135). -/
def State.lose (s : State) (fid : Nat) : State :=
  match s.frame? fid with
  | some f => (s.setFrame fid (f.marked s)).gap f.flow
  | none => s

/-! ### Queues -/

def State.queue (s : State) (port cls : Nat) : List Copy := SMap.get [] s.fab.queues (8 * port + cls)

/-- The copy in transmission on a port. -/
def State.sending (s : State) (port : Nat) : Option Copy := SMap.look s.fab.sending port

/-- Frames in a queue, with the one of its class in transmission. -/
def State.queueLen (s : State) (port cls : Nat) : Nat :=
  (s.queue port cls).length +
  (match s.sending port with
   | some c => (match s.frame? c.fid with | some f => b2n (f.cls == cls) | none => 0)
   | none => 0)

/-- FAB_QSTATp shows the queues of a port: HELD while the port is bus-off (R136). -/
def State.showQueues (s : State) (port : Nat) : State :=
  let full := (List.range 8).map fun c => (c, s.queueLen port c)
  let mask := (full.map fun e => if e.2 = 0 then 0 else 2 ^ e.1).sum
  let boff := port < 48 ∧ s.get (Fld.CANP_STATUS_STATE port) = 4
  let s := s.put (Fld.FAB_QSTATp_NONEMPTY port) mask
  let s := s.put (Fld.FAB_QSTATp_HELD port) (if boff then mask else 0)
  s.put (Fld.FAB_QSTATp_FRAMES port) (satNat 16 (full.map (·.2)).sum)

def State.setQueue (s : State) (port cls : Nat) (q : List Copy) : State :=
  ({ s with fab := { s.fab with queues := SMap.set [] s.fab.queues (8 * port + cls) q } }).showQueues port

def State.setSending (s : State) (port : Nat) (c : Option Copy) : State :=
  let m := match c with
    | some c => SMap.put s.fab.sending port c
    | none => SMap.del s.fab.sending port
  ({ s with fab := { s.fab with sending := m } }).showQueues port

/-- The copy that the port would transmit next: the head of the highest class whose head is ready (R128). -/
def State.pick (s : State) (port : Nat) : Option (Nat × Copy) :=
  [7, 6, 5, 4, 3, 2, 1, 0].findSome? fun c =>
    match s.queue port c with
    | h :: _ => if h.ready then some (c, h) else none
    | [] => none

/-! ### CAN ports and their Reef controllers -/

/-- A CAN port at rest. -/
def CanPort.fresh : CanPort :=
  { boffAt := 0, noRetry := false, integrateAfter := false, retractSeq := 0, silent := false, excepted := false }

def State.canOf (s : State) (n : Nat) : CanPort := SMap.get CanPort.fresh s.can n

def State.setCan (s : State) (n : Nat) (p : CanPort) : State := { s with can := SMap.set CanPort.fresh s.can n p }

/-- A Reef controller that has not managed its port yet. -/
def ReefPort.fresh : ReefPort :=
  { restart := 0, awakeFrom := 0, insom := 0, decErrs := 0, capturing := false, wokeAt := 0, woke := false, txWake := .none,
    delayFrom := 0, corr := [] }

def State.reefOf (s : State) (n : Nat) : ReefPort := SMap.get ReefPort.fresh s.reef.ports n

def State.setReef (s : State) (n : Nat) (p : ReefPort) : State :=
  { s with reef := { s.reef with ports := SMap.set ReefPort.fresh s.reef.ports n p } }

/-! ### Outcomes (R89-R92, R135, R137, R346) -/

/-- A host descriptor's outcome is final: its completion waits for the next writeback, or, without CMPL, its indications
pass to the flow's next completion (R92). -/
def State.hostFinal (s : State) (h : HostTag) (status unit egTotal egFail : Nat) (time : Tai) (flow : Option Nat)
    (replay : Bool) : State :=
  let r := s.txRing h.ring
  let live := h.gen == r.gen
  let gap := match flow with
    | some fl => s.gapped fl
    | none => false
  if h.cmpl && live && !r.dead then
    let c : Completion := { ring := h.ring, status := status, replay := replay, tag := h.tag, epoch := s.epochOf unit,
                            egTotal := egTotal, egFail := egFail, time := time, flow := flow, gap := gap }
    let s := match flow with
      | some fl => s.clearGap fl
      | none => s
    { s with hif := { s.hif with finals := s.hif.finals ++ [c] } }
  else
    let s := if live then
        (s.setTxRing h.ring { r with owed := r.owed - (if h.cmpl then 1 else 0) }).put (Fld.HIF_TXn_STAT_OUTSTANDING h.ring)
          (s.get (Fld.HIF_TXn_STAT_OUTSTANDING h.ring) - 1)
      else s
    match (if h.cmpl then none else flow) with
    | none => s
    | some fl =>
      let s := s.clearGap fl
      { s with hif := { s.hif with
          passGap := SMap.set false s.hif.passGap fl (SMap.get false s.hif.passGap fl || gap),
          passReplay := SMap.set false s.hif.passReplay fl (SMap.get false s.hif.passReplay fl || replay) } }

/-- Insert an outcome in ascending port order. -/
def outcomeInsert (o : CopyOutcome) : List CopyOutcome → List CopyOutcome
  | [] => [o]
  | p :: l => if o.port ≤ p.port then o :: p :: l else p :: outcomeInsert o l

/-- The outcome of a dropped copy for whose reason Table 4.8 has no code; a host frame meets it only at a failed AFA
check. -/
def noCode : Nat := 0x100

/-- All copies of a frame are final: the reporting unit of R90, the completion, the memory. A loss of its own makes its flow
gap-pending only after its completion (DEDUCED from the worked example of chapter 4). -/
def State.frameFinal (s : State) (fid : Nat) (f : Frame) : State :=
  let own := f.prior.isSome && f.host.isSome && s.gapped f.flow
  let s := if own ∧ f.prior = some false then s.clearGap f.flow else s
  let s := match f.host with
    | none => s
    | some h =>
      let fails : List CopyOutcome := f.done.filter (fun o => o.status != 0)
      match fails with
      | o :: _ =>
        let (n, s) := s.draw
        let status := if o.status = noCode then (Config.checkStatus n).toNat else o.status
        s.hostFinal h status (unitOf 1 o.port) f.total fails.length 0 (some f.flow) f.replay
      | [] =>
        let o := f.done.headD { port := 0, status := 0, stamp := 0 }
        s.hostFinal h 0 (unitOf 1 o.port) f.total 0 o.stamp (some f.flow) f.replay
  let s := if own then s.gap f.flow else s
  s.release fid

/-- Is the egress of a port a claimed output stage (Table 13.8)? A UART channel's is when the pin that carries its TXD is
claimed. -/
def State.claimedEgress (s : State) (port : Nat) : Bool :=
  if port < 56 then true
  else if port < 61 then !s.on Fld.HAL_CFG_STBY_LANE_TX
  else if port < 77 then
    (List.range 128).any fun p =>
      (s.cur (Fld.PIN_CFGp_FUNC p) == 1 || s.cur (Fld.PIN_CFGp_OR_FUNC p) == 1) && p % 16 == port - 61 && s.cur (Fld.PIN_CFGp_CLAIMED p) == 1
  else false

/-- May a frame of class 7 be held and replayed: a routed one, or a retraction (R349)? -/
def Frame.replayable (f : Frame) : Bool := f.origin == .routed || f.origin == .retraction

/-- A MARKER for a class-7 copy to a claimed port (R346), from the active unit of a pair. Its STATUS is free where
Table 4.8 has no code for the reason. -/
def State.marker (s : State) (f : Frame) (port status : Nat) : State :=
  if s.claimed ∧ s.on Fld.HAL_CTRL_PAIR_EN ∧ f.cls = 7 ∧ f.replayable ∧ s.claimedEgress port then
    let kind := if f.ingress = 78 then 1 else if f.ingress = 77 then 2 else 0
    let (n, s) := s.draw
    let code := if status = noCode then [Config.markerStatus n] else le 1 status
    s.halSend 4 false (le 1 kind ++ le 1 (b2n (status != 0)) ++ le 1 port ++ code ++ le 2 f.mroute ++ le 2 0 ++ le 8 f.mkey)
  else s

/-- An egress copy of a frame is final; `lost`: the flow becomes gap-pending. -/
def State.copyFinal (s : State) (fid port status : Nat) (stamp : Tai) (lost : Bool) : State :=
  let s := if lost then s.lose fid else s
  match s.frame? fid with
  | none => s
  | some f =>
    let s := s.marker f port status
    -- a wake frame that is not sent holds the port's copies back no longer (R199)
    let s := if f.origin = .wakeFrame ∧ status ≠ 0 then s.setReef port { s.reefOf port with txWake := .none } else s
    let f := { f with opened := f.opened.filter (· != port),
                      done := outcomeInsert { port := port, status := status, stamp := stamp } f.done }
    if f.opened = [] ∧ f.auth ≠ 3 then s.frameFinal fid f else s.setFrame fid f

/-- A frame with no copy left open and its verdict known is final. -/
def State.settle (s : State) (fid : Nat) : State :=
  match s.frame? fid with
  | some f => if f.opened = [] ∧ f.auth ≠ 3 then s.frameFinal fid f else s
  | none => s

/-- A copy is dropped: counted at its egress port, its flow gap-pending. -/
def State.dropCopy (s : State) (c : Copy) (counter status : Nat) : State :=
  (s.countPort c.port counter).copyFinal c.fid c.port status 0 true

/-- A copy dropped because its CAN port is off, being disabled or listen-only: also TX_REFUSED (R174, R179). -/
def State.refuseCopy (s : State) (c : Copy) : State :=
  (s.count (Reg.CANP_CNTk c.port 6)).dropCopy c 11 0x0D

/-! ### Queue reset (R132, R133) -/

/-- The envelope of a frame (Table 5.2) as four words. -/
def State.envelope (s : State) (f : Frame) : List Nat :=
  let r := f.route
  let flags := f.cls + 8 * b2n (match r with | some r => r.runAhead | none => false) + 16 * b2n (s.gapped f.flow) +
    32 * b2n f.replay + 64 * b2n (s.on (Fld.FAB_CLASSc_WOE f.cls))
  [ f.ingress + 2 ^ 8 * formatOf f.wire + 2 ^ 16 * flags + 2 ^ 24 * f.auth,
    (match r with | some r => r.index | none => 0) + 2 ^ 16 * f.fseq,
    idWord f.wire,
    f.wire.data.length + 2 ^ 16 * f.blk ]

/-- The copy in transmission from a queue is not sent again if its attempt fails (R177). -/
def State.lastTry (s : State) (port cls : Nat) : State :=
  match s.sending port with
  | none => s
  | some c =>
    if (s.frame? c.fid).map (·.cls) = some cls then s.setSending port (some { c with last := true }) else s

/-- A queue is reset: every frame in it is discarded; one in transmission completes. -/
def State.queueReset (s : State) (port cls : Nat) : State :=
  let q := s.queue port cls
  let n := q.length
  let s := s.lastTry port cls
  let s := match q.head? with
    | none => s
    | some c => (match s.frame? c.fid with
      | none => s
      | some f => ((List.range 4).zip (s.envelope f)).foldl
          (fun (s : State) (e : Nat × Nat) => s.setReg (Reg.FAB_LAST_DISCARDk e.1) (BitVec.ofNat 32 e.2)) s)
  let s := s.setQueue port cls []
  let s := q.foldl (fun s c => s.dropCopy c 8 0x07) s
  let s := s.count Reg.FAB_QRESET_CNT n
  s.raise 0x0503 (unitOf 1 port) [n4 port, n4 cls, n4 n]

/-- Queues whose two sets of pointers differ are reset (R132). -/
def State.resetQueues (s : State) (bad : List (Nat × Nat)) : State :=
  bad.foldl (fun (s : State) (e : Nat × Nat) => s.queueReset e.1 e.2) s

/-! ### Translation (R119-R124, R166, R522) -/

/-- The configured PAD byte of a CAN port. -/
def State.padByte (s : State) (port : Nat) : Byte := BitVec.ofNat 8 (s.cur (Fld.CANP_MODE_PAD port))

/-- SDT and VCID of an XL frame, which survive a conversion to XL; 0 from any other frame. -/
def xlFields (w : Wire) : Nat := if w.kind = 2 then bits w.id 31 16 * 2 ^ 16 else 0

/-- A CAN frame of the target form: kind, IDE and identifier in CAN key layout, with a payload. -/
def toCan (key : Nat) (brs : Bool) (w : Wire) (data : Bytes) : Wire :=
  let kind := bits key 31 30
  let ide := bit key 29 && kind != 2
  let id := if bit key 29 then bits key 28 0 else bits key 10 0
  if kind = 2 then
    { kind := 2, ide := false, brs := false, rtr := false, esi := false, id := id % 2 ^ 11 + xlFields w,
      af := if w.kind = 2 then w.af else 0, data := data }
  else { kind := kind, ide := ide, brs := brs && kind == 1, rtr := false, esi := false, id := id, af := 0, data := data }

/-- The CAN frame inside a tunnel frame's body; none: not valid (R123). -/
def decap (body : Bytes) : Option Wire :=
  let fmt := unBe ((body.drop 1).take 1)
  let kind := fmt % 8
  let id := unBe ((body.drop 16).take 4)
  let len := unBe ((body.drop 20).take 2)
  let af := unBe ((body.drop 24).take 4)
  let rest := body.drop (if kind = 2 then 28 else 24)
  let ide := bit fmt 3
  let brs := bit fmt 4
  let rtr := bit fmt 5
  if body.length < 24 ∨ unBe (body.take 1) ≠ 1 ∨ 2 < kind ∨ bits fmt 7 6 ≠ 0 ∨ (kind ≠ 1 ∧ brs = true) ∨
     (kind ≠ 0 ∧ rtr = true) ∨ (kind = 2 ∧ (ide = true ∨ bits id 15 12 ≠ 0)) ∨ (kind < 2 ∧ bits id 31 29 ≠ 0) ∨
     lenLimit kind rtr < len ∨ len < lenMin kind ∨ rest.length < len ∨ (kind = 2 ∧ body.length < 28) then none
  else some { kind := kind, ide := ide, brs := brs, rtr := rtr, esi := false,
              id := if kind < 2 then idSent ide id else id, af := if kind = 2 then af else 0, data := rest.take len }

/-- Does admission drop the frame under reason XLATE (R123)? DESIGN CHOICE: an empty payload is below the least length of a CAN XL
or UART frame, but it does not exceed the limit, so it is carried with length 0; and under TUNNEL_DECAP on a RAW_KEY route the
EtherType is not looked at: what follows it is taken as a tunnel header. -/
def State.xlateDrop (s : State) (r : Route) (w : Wire) : Bool :=
  if r.xlate = 3 then
    match decap (etherBody w.data) with
    | none => true
    | some c => r.external.any fun p => decide (s.canKind p < c.kind)
  else if r.xlate = 4 then
    r.external.any fun p =>
      let k := if p < 48 then bits r.outId 31 30 else 5
      decide (lenLimit k false < w.data.length)
  else false

/-- The frame as it is queued for an external egress port. A frame to be encapsulated stays as it is until it leaves. -/
def State.translate (s : State) (r : Route) (w : Wire) (port : Nat) : Wire :=
  let brs := if w.kind = 1 then w.brs else Config.convertedBrs s.free
  if r.xlate = 1 then
    let id := (r.outId.land r.mask) % 2 ^ 29 ||| (w.id % 2 ^ 29).land (2 ^ 29 - 1 - r.mask % 2 ^ 29)
    let kind := bits r.outId 31 30
    let data := if kind = 2 ∧ (w.rtr ∨ w.data = []) then [s.padByte port] else if w.rtr then [] else w.data
    let t := toCan (bits r.outId 31 29 * 2 ^ 29 + id % 2 ^ 29) brs w data
    if kind = 0 then { t with rtr := w.rtr } else t
  else if r.xlate = 3 then (decap (etherBody w.data)).getD w
  else if r.xlate = 4 then
    if port < 48 then toCan r.outId brs w w.data
    else { kind := 5, ide := false, brs := false, rtr := false, esi := false, id := 0, af := 0, data := w.data }
  else w

/-! ### Waking for egress (R199, R363) -/

/-- A port in SLEEP wakes: WAKING, with its reason (R190). -/
def State.reefWake (s : State) (n reason : Nat) : State :=
  if s.get (Fld.REEF_PORTn_STAT_STATE n) = 2 then
    let s := (s.put (Fld.REEF_PORTn_STAT_STATE n) 3).put (Fld.REEF_PORTn_STAT_LAST_REASON n) reason
    let s := (s.put (Fld.REEF_PORTn_STAT_CAP n) 0).count (Reg.REEF_CNTn_k n 1)
    let tx := if (reason = 3 ∨ reason = 5) ∧ s.cur (Fld.REEF_PORTn_TXWAKE_MODE n) ≠ 0 then TxWake.due else TxWake.none
    s.setReef n { s.reefOf n with capturing := true, wokeAt := s.time.now, txWake := tx, woke := decide (reason = 2) }
  else s

/-- A domain that no wake or close has ever been requested of. -/
def Domain.fresh : Domain :=
  { hold := [], close := none, wake := none, wakeAt := 0, since := 0, idle := 0, mark := 0, bounds := 0 }

def State.dom (s : State) (d : Nat) : Domain := SMap.get Domain.fresh s.pwr.domains d

def State.setDom (s : State) (d : Nat) (x : Domain) : State :=
  let s := { s with pwr := { s.pwr with domains := SMap.set Domain.fresh s.pwr.domains d x } }
  s.put (Fld.PWR_Dd_STAT_HELD d) x.hold.length

/-! ### Offering a copy to its port -/

/-- Hold a class-7 copy in its port's replay buffer; a full buffer discards its oldest (R347). -/
def State.replayHold (s : State) (c : Copy) (stamp : Tai) : State :=
  let held := SMap.get [] s.hal.replay c.port
  let s := if s.cur Fld.HAL_RPL_RPL_DEPTH ≤ held.length then
      (match held with
       | [] => s
       | h :: rest =>
         let s := { s with hal := { s.hal with replay := SMap.set [] s.hal.replay c.port rest } }
         let s := (s.count (Reg.HAL_CNTk 11)).copyFinal h.copy.fid c.port 0x0B 0 false
         s.raiseOnce (0x0F0C * 65536 + c.port) 0x0F0C (unitOf 1 c.port) [n4 c.port, n8 (s.reg64 (Reg.HAL_CNTk 11))])
    else s
  let held := SMap.get [] s.hal.replay c.port
  { s with hal := { s.hal with replay := SMap.set [] s.hal.replay c.port (held ++ [{ copy := c, age := 0, stamp := stamp }]) } }

/-- Queue a copy behind its class. -/
def State.enqueue (s : State) (c : Copy) (cls : Nat) : State :=
  s.setQueue c.port cls (s.queue c.port cls ++ [c])

/-! ### Ethernet-type ports that are not UP (R218), and T1S opportunities (R233) -/

/-- The state code of an Ethernet-type port (Table 9.2). -/
def State.ethState (s : State) (port : Nat) : Nat :=
  if port < 56 then s.get (Fld.T1S_Ss_STATUS_STATE (port - 48)) else s.get (Fld.ETH_Pq_STATUS_STATE (port - 56))

/-- Copies that reach the head of their queue while the port is not UP are dropped. -/
def State.dropHeads (port : Nat) : Nat → State → State
  | 0, s => s
  | k + 1, s =>
    match s.pick port with
    | none => s
    | some (cls, c) =>
      let s := s.setQueue port cls ((s.queue port cls).drop 1)
      let s := s.count (if port < 56 then Reg.T1S_Ss_CNTk (port - 48) 9 else Reg.ETH_Pq_CNTk (port - 56) 10)
      let s := if s.ethState port = 6 then s.dropCopy c 10 0x05 else s.dropCopy c 11 0x0D
      State.dropHeads port k s

/-- Has thermal shutdown released a T1S port's transmitter (R387)? -/
def State.released (s : State) (port : Nat) : Bool := decide (48 ≤ port ∧ port < 56) && s.faulted port 0x13

def State.linkDrops (s : State) (port : Nat) : State :=
  if 48 ≤ port ∧ port ≤ 60 ∧ (s.ethState port ≠ 2 ∨ s.released port = true) then
    State.dropHeads port (([0, 1, 2, 3, 4, 5, 6, 7].map fun c => (s.queue port c).length).sum) s
  else s

/-! ### Domains that close and return (R357, R362-R365) -/

/-- A domain changes state, with the reason of its transition; its word follows (R357). -/
def State.setDomain (s : State) (d st reason : Nat) (lost : Bool := false) : State :=
  ((s.put (Fld.PWR_Dd_STAT_STATE d) st).put (Fld.PWR_Dd_STAT_REASON d) reason).message (unitOf 2 d) st lost

/-- A copy reaches its port: the port's mode (R174, R179), the bus-off hold (R136), with `limit` the depth limit (R131), the queue,
the sleeping port (R199). -/
def State.place (s : State) (c : Copy) (f : Frame) (limit : Bool) : State :=
  let cls := f.cls
  let q := 65536 * 8
  if c.port < 48 ∧ (s.get (Fld.CANP_STATUS_STATE c.port) = 0 ∨ s.on (Fld.CANP_MODE_LISTEN c.port)) then s.refuseCopy c
  else if c.port < 48 ∧ s.get (Fld.CANP_STATUS_STATE c.port) = 4 ∧
      s.cur (Fld.FAB_QCFGp_c_HOLD c.port cls) ≤ (s.queue c.port cls).length then
    (s.dropCopy c 9 0x04).raiseOnce (0x0507 * q + 8 * c.port + cls) 0x0507 (unitOf 1 c.port) [n4 c.port, n4 cls]
  else if limit = true ∧ f.ingress ≠ 78 ∧ s.cur (Fld.FAB_QCFGp_c_DEPTH c.port cls) ≤ s.queueLen c.port cls then
    (s.dropCopy c 7 noCode).raiseOnce (0x0506 * q + 8 * c.port + cls) 0x0506 (unitOf 1 c.port) [n4 c.port, n4 cls]
  else
    let s := (s.enqueue c cls).linkDrops c.port
    if c.port < 48 ∧ s.get (Fld.REEF_PORTn_STAT_STATE c.port) = 2 then s.reefWake c.port 3 else s

/-- A frame of a hold queue returns behind the queue of its port and class, to be sent store-and-forward (R365). -/
def State.giveBack (s : State) (c : Copy) : State :=
  match s.frame? c.fid with
  | none => s
  | some f => s.place { c with ahead := false } f false

/-- A domain's hold queue returns, in hold order. -/
def State.returnHeld (s : State) (d : Nat) : State :=
  let x := s.dom d
  let s := s.setDom d { x with hold := [], close := none, wake := none, bounds := 0, idle := 0 }
  x.hold.foldl (fun (s : State) (c : Copy) => s.giveBack c) s

/-- A closing domain is woken: ON at once, with its held frames (Table 14.2, R365). -/
def State.domainBack (s : State) (d reason : Nat) : State :=
  ((s.setDomain d 2 reason).returnHeld d).raise 0x1001 (unitOf 2 d) [n4 reason, n8 0]

/-- One domain is asked to wake: no effect while it is WAKING or ON; an earlier request's reason stands. -/
def State.wakeOne (s : State) (d reason : Nat) : State :=
  let st := s.domain d
  let x := s.dom d
  if st = 3 ∨ st = 4 then s.domainBack d reason
  else if st = 0 ∧ x.wake.isNone then s.setDom d { x with wake := some reason, wakeAt := s.time.now }
  else s

/-- The domains that a domain requires, the first to wake first (R362). -/
def needs (d : Nat) : List Nat := if d = 18 then [19] else if d = 20 then [19, 18] else []

/-- A wake request: the domains required wake first, with reason DEPENDENCY (R362). -/
def State.requestWake (s : State) (d reason : Nat) : State :=
  ((needs d).foldl (fun (s : State) e => s.wakeOne e 5) s).wakeOne d reason

/-- The domain rules drop a copy: DOMAIN at its port, and TX_LINK_DROP where an Ethernet-type port is DOWN (R218, R363). -/
def State.dropDomain (s : State) (c : Copy) : State :=
  let s := if 48 ≤ c.port ∧ c.port ≤ 60 ∧ s.ethState c.port = 6 then
      s.count (if c.port < 56 then Reg.T1S_Ss_CNTk (c.port - 48) 9 else Reg.ETH_Pq_CNTk (c.port - 56) 10)
    else s
  s.dropCopy c 10 0x05

/-- A copy finds its domain's hold queue full (R363). -/
def State.dropHoldFull (s : State) (d : Nat) (c : Copy) : State :=
  s.dropDomain c |>.raiseOnce (0x1003 * 65536 + d) 0x1003 (unitOf 2 d) [n4 1]

/-- Divert a copy to its domain's dormant hold queue, or drop it with DOMAIN_DOWN (R363). -/
def State.divert (s : State) (c : Copy) (cls : Nat) : State :=
  let d := domainOf c.port
  let x := s.dom d
  if s.on (Fld.FAB_CLASSc_WOE cls) then
    if x.hold.length < 256 then
      (s.setDom d { x with hold := x.hold ++ [c] }).requestWake d 2
    else s.dropHoldFull d c
  else s.dropDomain c

/-- Frames that a T1S node may still start in its transmit opportunity. -/
def State.opportunity (s : State) (port : Nat) : Nat := SMap.get 0 s.eth.opportunity port

def State.setOpportunity (s : State) (port n : Nat) : State :=
  { s with eth := { s.eth with opportunity := SMap.set 0 s.eth.opportunity port n } }

/-- Offer an egress copy to its external port: the fabric core is powered, a port that takes none (R174, R179), the claim (R345), the
domain (R363), then what the port itself says. -/
def State.offer (s : State) (c : Copy) (f : Frame) : State :=
  let cls := f.cls
  if s.domain 4 ≠ 2 then s.copyFinal c.fid c.port noCode 0 false
  else if c.port < 48 ∧ (s.get (Fld.CANP_STATUS_STATE c.port) = 0 ∨ s.on (Fld.CANP_MODE_LISTEN c.port)) then s.refuseCopy c
  else if !s.claimed && s.claimedEgress c.port then
    if cls = 7 ∧ f.replayable ∧ (c.port < 56 ∨ 61 ≤ c.port) then s.replayHold c f.stamp
    else (s.count (Reg.HAL_CNTk 7)).copyFinal c.fid c.port 0x0B 0 false
  else if s.domain (domainOf c.port) ≠ 2 then s.divert c cls
  else s.place c f true

/-! ### Internal delivery -/

/-- Deliver a frame to an internal port: 78 the route's RX ring (or the miss ring), 77 the Crow's Nest, 79 the management
complex. The copy to 78 is final when its record is written. -/
def State.deliver (s : State) (fid port : Nat) : State :=
  match s.frame? fid with
  | none => s
  | some f =>
    if port = 78 then
      let ring := match f.route with | some r => r.rxRing | none => s.cur Fld.FAB_CTRL_MISS_RING
      if s.get (Fld.HIF_RXn_STAT_STATE ring) = 1 then
        let gap := s.gapped f.flow && f.prior.getD true
        let s := if gap ∧ f.prior = none then s.clearGap f.flow else s
        s.toRing ring (.frame fid (s.epochOf (unitOf 1 f.ingress)) gap)
      else (s.rxDrop ring).copyFinal fid 78 0 0 false
    else
      let s := s.countPort port 1
      let s := if port = 77 then { s with nest := { s.nest with inbox := s.nest.inbox ++ [f] } }
        else { s with mgt := { s.mgt with inbox := s.mgt.inbox ++ [f] } }
      s.copyFinal fid port 0 0 false

/-- Deliver a frame to all internal ports still open. -/
def State.deliverInternal (s : State) (fid : Nat) : State :=
  match s.frame? fid with
  | none => s
  | some f => (f.opened.filter (77 ≤ ·)).foldl (fun s p => s.deliver fid p) s

/-! ### Admission (R113, R126, R130) -/

/-- A frame at its validity point, or submitted by the host. -/
structure Inbound where
  ingress : Nat
  wire    : Wire
  stamp   : Tai
  dur     : Option Nat
  replay  : Bool
  woken   : Bool
  outWin  : Bool
  host    : Option HostTag
  mkey    : Nat
  quiet   : Bool := false   -- delivered by wake capture: no observation (Table 17.2)
  deriving DecidableEq, Repr

/-- The frame as it enters packet memory. -/
def Inbound.frame (i : Inbound) (r : Option Route) (ports : List Nat) (auth fseq : Nat) (blk : Nat) : Frame :=
  { origin := .routed, ingress := i.ingress, wire := i.wire, stamp := i.stamp, dur := i.dur, route := r,
    cls := (match r with | some r => r.cls | none => 0), auth := auth, fseq := fseq, blk := blk,
    blocks := blocksFor i.wire.data.length, replay := i.replay, woken := i.woken, outWin := i.outWin, host := i.host,
    mkey := i.mkey, mroute := (match r with | some r => r.index | none => 0), opened := ports, total := ports.length, done := [], prior := none }

/-- An ingress drop: counted at the ingress port, its flow gap-pending; a host descriptor ends with the status. -/
def State.dropIngress (s : State) (i : Inbound) (r : Route) (counter status : Nat) : State :=
  let s := s.countPort i.ingress counter
  let flow := r.index * 64 + (match i.host with | some h => h.ring | none => 0)
  let s := match i.host with
    | none => s
    | some h => s.hostFinal h status (unitOf 3 h.ring) 0 0 0 (some flow) i.replay
  s.gap flow

/-- The limiter: does the frame pass, and the state after (R126)? -/
def State.police (s : State) (r : Route) (len : Nat) : Bool × State :=
  if 1023 < r.limiter then (true, s)
  else
    let w0 := s.w (Reg.RT_LIVE_LIM r.limiter 0)
    if limEn w0 then
      let cost := 256 * (if limBytes w0 then len else 1)
      let tok := s.w (Reg.FAB_LIMi_TOK r.limiter)
      if cost ≤ tok then (true, s.setReg (Reg.FAB_LIMi_TOK r.limiter) (BitVec.ofNat 32 (tok - cost))) else (false, s)
    else (true, s)

/-- Has packet memory room for a frame from a port other than 78 (R130)? -/
def State.roomFor (s : State) (i : Inbound) : Bool :=
  decide (i.ingress = 78 ∨ s.cur Fld.FAB_HOSTBUF_BLOCKS < s.freeBlocks)

/-- The key that FAB_NO_ROUTE carries: a tunnel frame's tunnel key, otherwise the raw key. -/
def missKey (etype : Nat) (w : Wire) : Nat :=
  match keyFor etype false w with
  | some k => k
  | none => (keyFor etype true w).getD 0

/-- A frame that matches no entry (R113). -/
def State.miss (s : State) (i : Inbound) : State :=
  let s := s.countPort i.ingress 2
  let s := s.raiseOnce (0x0505 * 65536 + i.ingress) 0x0505 (unitOf 1 i.ingress)
    [n4 i.ingress, n4 (missKey (s.cur Fld.FAB_TUN_ETYPE_ETYPE) i.wire)]
  match i.host with
  | some h => s.hostFinal h 0x01 (unitOf 3 h.ring) 0 0 0 none false
  | none =>
    if s.on Fld.FAB_CTRL_MISS_DELIVER then
      if s.roomFor i then
        let (fid, s) := s.alloc (i.frame none [78] 0 0 (Config.block s.free % 65536))
        ({ s with free := s.free + 1 }).deliver fid 78
      else
        let s := (s.countPort i.ingress 5).gap (4096 * 64 + i.ingress)
        s.raiseOnce (0x0508 * 65536 + i.ingress) 0x0508 (unitOf 1 i.ingress) [n4 i.ingress, n4 s.freeBlocks]
    else s

/-- The bytes of an AFA trailer (R279). -/
def trailerLen (afa12 : Bool) : Nat := if afa12 then 12 else 6

/-- The lane of a frame on a route, as an index of the lane table. -/
def laneIndex (r : Route) (w : Wire) : Nat :=
  let i := if w.kind = 2 then w.id % 2 ^ 11 else idSent w.ide w.id
  16 * r.index + i / 2 ^ r.fvShift % 2 ^ r.fvBits

/-- A failure of frame authentication is recorded and reported, the first of a route in a TAI second as an event (R289). -/
def State.afaRecord (s : State) (r : Route) (lane reason ingress : Nat) : State :=
  let s := ((s.put Fld.CIPH_AFA_LAST_ROUTE r.index).put Fld.CIPH_AFA_LAST_LANE lane).put Fld.CIPH_AFA_LAST_REASON reason
  let s := s.setReg64 Reg.CIPH_AFA_LAST_TIME s.time.now
  s.raiseOnce (0x0C06 * 65536 + r.index) 0x0C06 (unitOf 1 ingress) [n4 r.index, n4 reason, n4 lane]

/-- Does the trailer of an AFA_ADD route not fit a frame (R291, Table 11.11)? -/
def State.noRoom (s : State) (r : Route) (w : Wire) : Bool :=
  r.external.any fun p =>
    let t := s.translate r w p
    t.rtr || decide (lenLimit t.kind false < t.data.length + trailerLen r.afa12)

/-- A frame without room for its trailer fails its generation at admission. -/
def State.dropNoRoom (s : State) (i : Inbound) (r : Route) : State :=
  let lane := laneIndex r (s.translate r i.wire (r.external.headD 0)) % 16
  let s := (s.count (Reg.CIPH_AFA_CNTk 8)).afaRecord r lane 6 i.ingress
  let flow := r.index * 64 + (match i.host with | some h => h.ring | none => 0)
  let s := match i.host with
    | none => s
    | some h => s.hostFinal h 0x2E (unitOf 3 h.ring) 0 0 0 (some flow) i.replay
  s.gap flow

/-- Admission of a frame with its lookup. `ahead`: the frame is admitted before its verdict, for a run-ahead copy; its
copies then wait. The frame's number, if it was admitted. -/
def State.admitWith (s : State) (ahead : Bool) (i : Inbound) (l : Looked) : Option Nat × State :=
  match l with
  | .miss => (none, if ahead then s else s.miss i)
  | .route r =>
    if r.egress = [] then
      let s := s.countPort i.ingress 3
      match i.host with
      | none => (none, s)
      | some h => (none, s.hostFinal h 0 (unitOf 3 h.ring) 0 0 0 (some (r.index * 64 + h.ring)) i.replay)
    else
      let (pass, s) := s.police r i.wire.data.length
      if !pass then
        let s := (s.count (Reg.FAB_LIMi_DROP r.limiter)).dropIngress i r 4 0x06
        (none, s.raiseOnce (0x0504 * 65536 + r.limiter) 0x0504 (unitOf 1 i.ingress) [n4 r.limiter, n4 r.index])
      else if !s.roomFor i then
        let s := s.dropIngress i r 5 0
        (none, s.raiseOnce (0x0508 * 65536 + i.ingress) 0x0508 (unitOf 1 i.ingress) [n4 i.ingress, n4 s.freeBlocks])
      else if s.xlateDrop r i.wire then (none, s.dropIngress i r 6 0)
      else if r.afaAdd && s.noRoom r i.wire then (none, s.dropNoRoom i r)
      else
        let fseq := (SMap.get 0 s.fab.fseqs r.index + 1) % 65536
        let s := s.countPort i.ingress 0
        let s := if i.quiet then s else s.observePort i.ingress
        let s := { s with fab := { s.fab with fseqs := SMap.set 0 s.fab.fseqs r.index fseq } }
        let f := i.frame (some r) r.egress (if r.afaCheck then 3 else 0) fseq (Config.block s.free % 65536)
        let (fid, s) := s.alloc f
        let s := { s with free := s.free + 1 }
        let ready := !ahead && !r.afaCheck && !r.afaAdd
        let s := r.external.foldl (fun s p =>
          s.offer { fid := fid, port := p, wire := s.translate r i.wire p, ready := ready, addAfa := r.afaAdd,
                    ahead := false, attempts := 0 } f) s
        let s := { s with free := s.free + 1 }
        if ahead then (some fid, s)
        else if r.afaCheck then (some fid, { s with fab := { s.fab with authq := s.fab.authq ++ [.check fid] } })
        else
          let s := if r.afaAdd then { s with fab := { s.fab with authq := s.fab.authq ++ [.gen fid] } } else s
          (some fid, s.deliverInternal fid)

/-- Admission of a whole frame. -/
def State.enter (s : State) (i : Inbound) (l : Looked) : State := (s.admitWith false i l).2

/-! ### Readiness and removal by frame -/

/-- Change the queued copies of a frame, wherever they wait. -/
def State.mapCopies (s : State) (g : Copy → Copy) : State :=
  let onQ := fun e : Nat × List Copy => (e.1, e.2.map g)
  let onD := fun e : Nat × Domain => (e.1, { e.2 with hold := e.2.hold.map g })
  let onR := fun e : Nat × List Held => (e.1, e.2.map fun h => { h with copy := g h.copy })
  { s with
    fab := { s.fab with queues := s.fab.queues.map onQ },
    pwr := { s.pwr with domains := s.pwr.domains.map onD },
    hal := { s.hal with replay := s.hal.replay.map onR } }

/-- The copies of a frame may leave: its verdicts are good. -/
def State.readyCopies (s : State) (fid : Nat) : State :=
  let s := s.mapCopies fun c => if c.fid = fid then { c with ready := true } else c
  match s.frame? fid with
  | none => s
  | some f => f.opened.foldl State.linkDrops s

/-- Remove the waiting copies of a frame, wherever they wait; the ports they were for. -/
def State.withdraw (s : State) (fid : Nat) : List Copy × State :=
  let mine := fun c : Copy => c.fid == fid
  let got := (s.fab.queues.flatMap fun e => e.2.filter mine) ++
    (s.pwr.domains.flatMap fun e => e.2.hold.filter mine) ++
    (s.hal.replay.flatMap fun e => (e.2.map (·.copy)).filter mine)
  let onQ := fun e : Nat × List Copy => (e.1, e.2.filter fun c => !mine c)
  let s := { s with fab := { s.fab with queues := (s.fab.queues.map onQ).filter fun e => !e.2.isEmpty } }
  let s := { s with hal := { s.hal with replay :=
    (s.hal.replay.map fun (e : Nat × List Held) => (e.1, e.2.filter fun (h : Held) => !mine h.copy)).filter (fun e => !e.2.isEmpty) } }
  let s := s.pwr.domains.foldl (fun (s : State) (e : Nat × Domain) =>
    s.setDom e.1 { e.2 with hold := e.2.hold.filter fun c => !mine c }) s
  (got, got.foldl (fun s c => s.showQueues c.port) s)

/-- Put the head copy of a port into transmission. -/
def State.startCopy (s : State) (port cls : Nat) (c : Copy) : State :=
  let s := s.setQueue port cls ((s.queue port cls).drop 1)
  let s := s.setSending port (some c)
  if ((s.frame? c.fid).map (·.origin)) = some .wakeFrame then s else s.observePort port

/-- A copy in transmission goes back to the head of its queue. -/
def State.requeue (s : State) (port : Nat) (c : Copy) : State :=
  match s.frame? c.fid with
  | none => s.setSending port none
  | some f => (s.setSending port none).setQueue port f.cls (c :: s.queue port f.cls)

end Sys2Proof.Machine
end

