-- ==== Sys2Proof/WellFormed.lean ====
section
/-! DEFINITION. Which commands can occur at all: an operand names a unit, port, ring, slot, entry or code that the part
has. A command whose operand names none is ill-formed, and its meaning refuses it as noSuchUnit. -/

namespace Sys2Proof

/-- Does every operand name something that the part has? -/
def Instr.wf (i : Instr) : Bool :=
  match i with
  | .beatBoundary temp _ _ bad _ => decide (temp < 65536 ∧ bad.all (fun q => decide (q.1 < 77 ∧ q.2 < 8)) = true)
  | .intakeSlot page reads _ => decide (page.all pageOk = true ∧ (reads.all fun d => decide (d.ring < 64)) = true)
  | .commitSlot _ busy _ => decide ((busy.all fun n => decide (n < 48)) = true)
  | .authenticationSlot _ bad _ => decide (bad.all (fun q => decide (q.1 < 77 ∧ q.2 < 8)) = true)
  | .serviceSlot mgt _ _ => decide (mgt.all (fun e => decide (3 ≤ e.1 ∧ e.1 ≤ 6)) = true)
  | .writebackSlot _ parity ecc bad _ => decide (bad.all (fun q => decide (q.1 < 77 ∧ q.2 < 8)) = true ∧ parity.all registryUnit = true ∧ (ecc.all fun k => decide (k = 0 ∨ k = 2 ∨ k = 4)) = true)
  | .claimWindow ext cut _ _ => decide (ext < 524288 ∧ cut < 524288)
  | .slotEnd _ _ => true
  | .beatCommitAbandoned _ => true
  | .beatRealigned temp _ _ => decide (temp < 65536)
  | .beatLenArm a len _ => decide (a.ok = true ∧ len < 8)
  | .beatLenChanged _ => true
  | .beatSlotArm a writeback _ => decide (a.ok = true ∧ writeback < 1024)
  | .beatSlotApply _ => true
  | .beatPeakRead path be n _ => decide (path < 4 ∧ be < 16 ∧ n < 5)
  | .syncReceived p _ _ _ _ _ _ => decide (p < 13)
  | .announceReceived p _ _ => decide (p < 13)
  | .announceReceiptTimeout _ => true
  | .syncReceiptTimeout _ => true
  | .timeJumpRefusedRepeat _ => true
  | .announceTransmit p _ => decide (p < 13)
  | .syncTransmit p _ _ => decide (p < 13)
  | .ptpDelayRequest p _ _ => decide (p < 13)
  | .timeStepToMasterMean a _ => decide (a.ok = true)
  | .timeStepByValue a _ => decide (a.ok = true)
  | .timeStepEvaluate _ => true
  | .timeStepApply _ => true
  | .timeBeaconDue bad _ => decide (bad.all (fun q => decide (q.1 < 77 ∧ q.2 < 8)) = true)
  | .captureStart u _ _ _ => decide (u < 16)
  | .captureStop u _ _ => decide (u < 16)
  | .timePtpDiscardRead path be _ => decide (path < 4 ∧ be < 16)
  | .txFrame ring bad _ => decide (ring < 64 ∧ bad.all (fun q => decide (q.1 < 77 ∧ q.2 < 8)) = true)
  | .txNop d _ => decide (d.ring < 64 ∧ d.bytes.all (fun b => b.headD 0#8 == 3#8) = true)
  | .msixCoalescingTimer _ ring => decide (ring < 64)
  | .msixUnmask v => decide (v < 256)
  | .hostInterfaceEnable _ => true
  | .hostInterfaceDisable _ => true
  | .txRingEnable ring _ => decide (ring < 64)
  | .txRingDisable ring _ => decide (ring < 64)
  | .txRingDrained ring _ => decide (ring < 64)
  | .rxRingEnable ring _ => decide (ring < 64)
  | .rxRingDisable ring _ => decide (ring < 64)
  | .pcieLinkDown _ => true
  | .pcieLinkUp _ => true
  | .functionLevelReset _ => true
  | .routeLookup port _ _ _ => decide (port < 77)
  | .fabCommitGo a _ => decide (a.ok = true)
  | .commitValidationDone _ => true
  | .fabCommitApplied _ => true
  | .runAheadCopyStart ingress egress bad _ => decide (ingress < 48 ∧ egress < 77 ∧ bad.all (fun q => decide (q.1 < 77 ∧ q.2 < 8)) = true)
  | .abortDeadline egress _ => decide (egress < 77)
  | .fabRaRearm a route _ => decide (a.ok = true ∧ route < 4096)
  | .fabRaRearmed route _ => decide (route < 4096)
  | .canFrameValid n w _ _ bad _ => decide (n < 48 ∧ w.kind ≤ 2 ∧ bad.all (fun q => decide (q.1 < 77 ∧ q.2 < 8)) = true)
  | .canpProtoExc n _ => decide (n < 48)
  | .canErrorDetected n code phase _ _ _ _ _ _ => decide (n < 48 ∧ 1 ≤ code ∧ code ≤ 6 ∧ phase ≤ 1)
  | .canArbitrationLost n _ => decide (n < 48)
  | .canTxStart n _ _ => decide (n < 48)
  | .canTxComplete n _ _ _ _ => decide (n < 48)
  | .canpBusOn n _ _ => decide (n < 48)
  | .canIntegrationDone n _ _ => decide (n < 48)
  | .canpTxdTimeout n phase _ => decide (n < 48 ∧ phase ≤ 1)
  | .canpTimingGo a n _ => decide (a.ok = true ∧ n < 48)
  | .canpTimingApply n _ _ => decide (n < 48)
  | .canPortEnable n _ _ => decide (n < 48)
  | .canPortDisable n _ => decide (n < 48)
  | .canListenOnly n _ => decide (n < 48)
  | .canpLastErrRead path be n _ => decide (path < 4 ∧ be < 16 ∧ n < 48)
  | .reefSleep n _ _ => decide (n < 48)
  | .wakePattern n _ _ _ _ => decide (n < 48)
  | .wakeFrame n w _ => decide (n < 48 ∧ w.kind ≤ 2)
  | .musterPreWake n _ => decide (n < 48)
  | .reefHostWake a n _ => decide (a.ok = true ∧ n < 48)
  | .reefDecWake n _ => decide (n < 48)
  | .reefWakeComplete n _ => decide (n < 48)
  | .reefTxWake n bad _ => decide (n < 48 ∧ bad.all (fun q => decide (q.1 < 77 ∧ q.2 < 8)) = true)
  | .reefTxWakeDelay n _ => decide (n < 48)
  | .reefInsomnia n _ => decide (n < 48)
  | .musterSpanEnd m _ => decide (m < 1024)
  | .reefCommit a _ => decide (a.ok = true)
  | .reefCommitApply _ => true
  | .ethFrameReceived port _ _ _ _ bad _ => decide (48 ≤ port ∧ port ≤ 60 ∧ bad.all (fun q => decide (q.1 < 77 ∧ q.2 < 8)) = true)
  | .ethTxStart port _ _ => decide (48 ≤ port ∧ port ≤ 60)
  | .ethTxComplete port _ _ _ => decide (48 ≤ port ∧ port ≤ 60)
  | .ethLinkUp q _ _ _ _ _ _ _ => decide (q < 5)
  | .ethLinkDown q cause _ _ => decide (q < 5 ∧ cause < 4)
  | .lsecKeyWrite a l chan sa k salt _ _ => decide (a.ok = true ∧ l < 4 ∧ chan < 9 ∧ sa < 4 ∧ k < 8 ∧ (salt = false ∨ k < 3))
  | .t1sTransmitOpportunity k _ => decide (k < 8)
  | .plcaBeacon k _ _ => decide (k < 8)
  | .plcaBeaconReceived k _ => decide (k < 8)
  | .t1sPlcaLost k _ => decide (k < 8)
  | .t1sPlcaOk k _ => decide (k < 8)
  | .t1sCollision k _ => decide (k < 8)
  | .mdioAddress a phy reg _ => decide (a.ok = true ∧ phy < 32 ∧ reg < 32)
  | .mdioWrite a phy reg _ _ => decide (a.ok = true ∧ phy < 32 ∧ reg < 32)
  | .mdioRead a phy reg _ _ => decide (a.ok = true ∧ phy < 32 ∧ reg < 32)
  | .mdioPostReadIncrement a phy reg _ _ => decide (a.ok = true ∧ phy < 32 ∧ reg < 32)
  | .mdioDone _ _ => true
  | .smbWrite32 addr _ pec _ => decide (addr < 4294967296 ∧ pec < 3)
  | .smbRead32 addr _ _ => decide (addr < 4294967296)
  | .smbId code _ => decide (code < 256 ∧ code ≠ 0x10 ∧ code ≠ 0x11)
  | .smbSclTimeout _ => true
  | .serCharacter c _ _ bad _ => decide (c < 16 ∧ bad.all (fun q => decide (q.1 < 77 ∧ q.2 < 8)) = true)
  | .serIdleClose c bad _ => decide (c < 16 ∧ bad.all (fun q => decide (q.1 < 77 ∧ q.2 < 8)) = true)
  | .serTxStart c _ _ _ => decide (c < 16)
  | .serTxComplete c _ _ => decide (c < 16)
  | .ciphClearLoad a slot size attr _ => decide (a.ok = true ∧ slot < 64 ∧ size < 4 ∧ attr < 64)
  | .keyLoadLive _ => true
  | .keyRetire a n _ => decide (a.ok = true ∧ n < 64)
  | .keyRetireApply n _ => decide (n < 64)
  | .keyLimitReached n _ => decide (n < 64)
  | .ciphKeyLow n _ => decide (n < 64)
  | .ciphAlarm source _ _ _ _ => decide (source < 5)
  | .ciphAlarmClear _ _ => true
  | .ciphFvWrite a table index _ => decide (a.ok = true ∧ table < 4 ∧ index < 65536)
  | .fvWriteApply _ => true
  | .cmacGen _ _ => true
  | .cmacVerify _ _ => true
  | .ctr _ _ => true
  | .gcmEnc _ _ => true
  | .gcmDec _ _ => true
  | .wrap _ _ => true
  | .unwrap _ _ => true
  | .slotTooShort _ => true
  | .nestFrameStart csi _ _ _ => decide (csi < 2)
  | .nestFrameEnd csi _ _ _ => decide (csi < 2)
  | .nestTrayIdentity _ => true
  | .nestCommit a _ => decide (a.ok = true)
  | .nestCommitApply _ => true
  | .halyardHeartbeat frame _ => decide (frame.length = 48)
  | .halyardDelta frame _ => decide (16 ≤ frame.length ∧ frame.length ≤ 1040)
  | .halyardImage frame _ => decide (16 ≤ frame.length ∧ frame.length ≤ 1040)
  | .halyardImageReq frame _ => decide (16 ≤ frame.length ∧ frame.length ≤ 1040)
  | .halyardMarker frame _ => decide (16 ≤ frame.length ∧ frame.length ≤ 1040)
  | .claimWatchdog _ => true
  | .replayAgeExpiry _ => true
  | .halHandover a _ => decide (a.ok = true)
  | .halUnfence a _ => decide (a.ok = true)
  | .fenceEvidenceTimeout _ => true
  | .autoYield _ => true
  | .domainClose d _ => decide (d < 24)
  | .domainWake d _ => decide (d < 24)
  | .pwrCtrlWake a d _ => decide (a.ok = true ∧ d < 24)
  | .domainIdleClose d _ => decide (d < 24)
  | .domainDrainEnd d _ => decide (d < 24)
  | .pwrDomainOff d _ _ => decide (d < 24)
  | .pwrDomainOn d _ bad _ => decide (d < 24 ∧ bad.all (fun q => decide (q.1 < 77 ∧ q.2 < 8)) = true)
  | .domainMusterWake d _ => decide (7 ≤ d ∧ d ≤ 10)
  | .domainActivityWake uart unit _ => decide ((uart = true ∧ unit < 16) ∨ unit < 8)
  | .pwrMainFail _ => true
  | .mainGood _ => true
  | .shedWindowEnd _ => true
  | .pwrBraceAborted _ => true
  | .pwrBraceCommit _ _ => true
  | .pwrOnBackup _ => true
  | .backupReturn _ => true
  | .pwrOnMain bad _ => decide (bad.all (fun q => decide (q.1 < 2 ∧ (q.2 = 7 ∨ q.2 = 8))) = true)
  | .termMeasurement n _ _ => decide (n < 48)
  | .shrFaultSet p code _ _ _ => decide ((p < 48 ∧ 0x04 ≤ code ∧ code ≤ 0x0A) ∨ (48 ≤ p ∧ p < 56 ∧ code = 0x12) ∨ (p = 79 ∧ (code = 0x20 ∨ code = 0x21)))
  | .shrFaultCleared p code _ _ => decide ((p < 48 ∧ 0x04 ≤ code ∧ code ≤ 0x0A) ∨ (48 ≤ p ∧ p < 56 ∧ code = 0x12) ∨ (p = 79 ∧ (code = 0x20 ∨ code = 0x21)))
  | .pairSwap n _ => decide (n < 48)
  | .thermalShutdown p _ => decide (p < 56)
  | .thermalRecovery p _ => decide (p < 56)
  | .journalEntryProgram _ _ _ => true
  | .journalSectorErase _ _ => true
  | .snapshotRound _ => true
  | .nvmCfgSave a _ => decide (a.ok = true)
  | .nvmCfgSaved _ _ _ => true
  | .keyBackingEraseDone _ _ => true
  | .nvmUpdWrite a _ => decide (a.ok = true)
  | .updateSlotProgrammed header result _ => decide (header.length = 256 ∧ (result = 0 ∨ result = 2 ∨ result = 3))
  | .updateVerified _ _ _ => true
  | .nvmUpdActivate a _ _ _ => decide (a.ok = true)
  | .preparationDone _ _ _ _ => true
  | .quiesceEnd _ => true
  | .pauseEnd _ => true
  | .pauseStartFailure _ => true
  | .nvmUpdConfirm a _ => decide (a.ok = true)
  | .nvmUpdFallback a _ => decide (a.ok = true)
  | .nvmUpdAbort a _ => decide (a.ok = true)
  | .confirmTimeout _ => true
  | .nvmFallback _ => true
  | .stateSkew unit _ => decide (registryUnit unit = true)
  | .registryRederive unit _ => decide (registryUnit unit = true)
  | .serviceRead _ port _ _ _ _ => decide (port < 65536)
  | .serviceWrite _ port _ _ _ => decide (port < 65536)
  | .serviceSubscribe _ port _ _ _ => decide (port < 65536)
  | .serviceUnsubscribe _ port _ _ _ => decide (port < 65536)
  | .notify _ => true
  | .arpRequest mac ip target _ => decide (mac.length = 6 ∧ ip < 4294967296 ∧ target < 4294967296)
  | .icmpEcho src dst _ _ => decide (src < 4294967296 ∧ dst < 4294967296)
  | .neighbourDiscovery src target _ => decide (src < 340282366920938463463374607431768211456 ∧ target < 340282366920938463463374607431768211456)
  | .icmpv6Echo src dst _ _ => decide (src < 340282366920938463463374607431768211456 ∧ dst < 340282366920938463463374607431768211456)
  | .mgtSnapGo a _ => decide (a.ok = true)
  | .hostSnapshotLatch _ => true
  | .mgtEccUncorr area index sel _ => decide (area < 3 ∧ (area = 0 → sel < 640) ∧ (area = 2 → sel < 4 ∧ index < 65536))
  | .powerOnReset _ => true
  | .powerOnResetRelease _ _ _ _ _ _ bad => decide (bad.all (fun q => decide (q.1 < 2 ∧ (q.2 = 7 ∨ q.2 = 8))) = true)
  | .bootHandover _ => true
  | .bankConfigLive _ => true
  | .warmReset bad _ => decide (bad.all (fun q => decide (q.1 < 2 ∧ (q.2 = 7 ∨ q.2 = 8))) = true)
  | .glbReset a _ _ bad _ => decide (a.ok = true ∧ bad.all (fun q => decide (q.1 < 2 ∧ (q.2 = 7 ∨ q.2 = 8))) = true)
  | .perstReset _ => true
  | .glbLock a _ => decide (a.ok = true)
  | .glbLocked _ => true
  | .glbRailFault _ _ => true
  | .railReturn _ _ => true
  | .pinSet a w _ _ => decide (a.ok = true ∧ w < 4)
  | .pinClr a w _ _ => decide (a.ok = true ∧ w < 4)
  | .registerWrite a off _ _ => decide (a.ok = true ∧ bar0 off = true)
  | .configApply _ => true
  | .w1cWrite a off _ _ => decide (a.ok = true ∧ bar0 off = true)
  | .registerRead64 path be off both _ _ => decide (path < 4 ∧ be < 16 ∧ bar0 off = true ∧ (both = false ∨ (path = 0 ∧ be = 15 ∧ off % 8 = 0)))
  | .registerWrite64Low a off _ _ => decide (a.ok = true ∧ bar0 off = true ∧ off % 8 = 0)
  | .glbAfClear a _ => decide (a.ok = true)
  | .delayReqInterval p _ _ _ => decide (p < 13)
  | .halyardCrcError _ => true
  | .mainNotGood _ => true
  | .journalWindowRead path off _ _ _ => decide (path < 4 ∧ 0x220000 ≤ off ∧ off < 0x230000 ∧ off % 4 = 0)

end Sys2Proof
end

