-- ==== Sys2Proof/Machine/Capture.lean ====
section
/-! DEFINITION. Start-stop pairs and capture records: the GPIO capture units and the CAN duration pairs (R64, R69-R71,
Table 3.5). A source is a capture unit 0-15 or 0x80 + n for CAN port n. -/

namespace Sys2Proof.Machine

/-- A source with no pair open. -/
def CapSource.fresh : CapSource := { opened := none, waiting := 0, seq := 0, lost := 0, total := 0, since := 0 }

def State.capOf (s : State) (src : Nat) : CapSource := SMap.get CapSource.fresh s.time.caps src

/-- Write a source; a capture unit shows it in TIME_CAPu_STAT and TIME_CAPu_LOST. -/
def State.setCap (s : State) (src : Nat) (c : CapSource) : State :=
  let s := { s with time := { s.time with caps := SMap.set CapSource.fresh s.time.caps src c } }
  if src < 16 then
    let s := (s.put (Fld.TIME_CAPu_STAT_OPEN src) (b2n c.opened.isSome)).put (Fld.TIME_CAPu_STAT_BUF src) c.waiting
    (s.put (Fld.TIME_CAPu_STAT_SEQ src) c.seq).setReg (Reg.TIME_CAPu_LOST src) (BitVec.ofNat 32 c.total)
  else s

/-- Flags of a capture record. -/
def capSame : Nat := 1
def capOrder : Nat := 2
def capStartStart : Nat := 4

/-- A closed pair becomes a capture record, unless its source holds 8 that are not yet written (R71). DESIGN CHOICE
(log 104): a pair whose STOP lies below its START, which only a backward step between them can make, has DURATION 0. -/
def State.capRecord (s : State) (src flags : Nat) (start stop : Tai) : State :=
  let c := s.capOf src
  if s.on Fld.TIME_CAP_RING_EN then
    if c.waiting < 8 then
      let ring := s.cur Fld.TIME_CAP_RING_RING
      let epoch := if src < 16 then (s.word (unitOf 2 1)).epoch else (s.word (unitOf 1 (src - 0x80))).epoch
      let dur := if flags = 0 then stop - start else 0
      let body := le 1 src ++ le 1 flags ++ le 2 epoch ++ le 2 c.seq ++ le 2 (satNat 16 c.lost) ++ le 8 start ++
        le 8 stop ++ le 8 dur
      let open_ := s.get (Fld.HIF_RXn_STAT_STATE ring) = 1 ∧ (s.rxRing ring).stream = true
      (s.setCap src { c with waiting := c.waiting + (if open_ then 1 else 0), seq := (c.seq + 1) % 65536,
                             lost := 0 }).toRing ring (.item 0x30 body)
    else
      let s := s.setCap src { c with lost := c.lost + 1, total := c.total + 1 }
      s.raise 0x0308 (if src < 16 then unitOf 8 src else unitOf 1 (src - 0x80)) [n4 src, n4 (c.total + 1)]
  else s

/-- A start edge: it opens a pair; one already open is closed with no stop. -/
def State.capStart (s : State) (src : Nat) (t : Tai) : State :=
  let s := match (s.capOf src).opened with
    | some t0 => s.capRecord src capStartStart t0 0
    | none => s
  s.setCap src { s.capOf src with opened := some t }

/-- A stop edge: it closes the open pair, or is kept as an orphan. The start stamp of a complete pair. -/
def State.capStop (s : State) (src : Nat) (t : Tai) : Option Tai × State :=
  match (s.capOf src).opened with
  | some t0 => (some t0, s.setCap src { s.capOf src with opened := none })
  | none => (none, s.capRecord src capOrder 0 t)

/-- A start edge on a capture unit, alone or in one capture slot with a stop edge (R69). -/
def State.captureStart (s : State) (u : Nat) (t : Tai) (withStop : Bool) : State :=
  if withStop then
    match (s.capOf u).opened with
    | some t0 =>
      let s := (s.setCap u { s.capOf u with opened := none }).capRecord u 0 t0 t
      s.capStart u t
    | none => s.capRecord u capSame t t
  else s.capStart u t

/-- A stop edge on a capture unit. -/
def State.captureStop (s : State) (u : Nat) (t : Tai) : State :=
  match s.capStop u t with
  | (some t0, s) => s.capRecord u 0 t0 t
  | (none, s) => s

/-- Is an input of a capture unit in use? -/
def State.capEnabled (s : State) (u : Nat) (edge : Fld) : Bool := s.on (Fld.TIME_CAPu_CFG_EN u) && s.cur edge != 0

/-- Are duration pairs measured on a CAN port (R64)? -/
def State.canDur (s : State) (n : Nat) : Bool :=
  if n < 32 then bit (s.liveReg Reg.TIME_CANDUR_EN0).toNat n else bit (s.liveReg Reg.TIME_CANDUR_EN1).toNat (n - 32)

/-- The pair of a frame that reached its last EOF bit: its duration, where the pair is complete. -/
def State.canPair (s : State) (n : Nat) (sof eof : Tai) : Option Nat × State :=
  let src := 0x80 + n
  if s.canDur n then
    if sof < (s.capOf src).since then
      let (_, s) := s.capStop src eof
      (none, s)
    else
      let (_, s) := (s.capStart src sof).capStop src eof
      (some (eof - sof), s)
  else (none, s)

/-- The SOF of a frame that an error destroys opens a pair that a later SOF closes. -/
def State.canOpen (s : State) (n : Nat) (sof : Tai) : State := if s.canDur n then s.capStart (0x80 + n) sof else s

/-- Does the filter of a capture unit let an edge through? FILT ignores edges whose new level lasts less than FILT times
4 ns (R70); `width`: how long it lasts, in ns. -/
def State.capPasses (s : State) (u width : Nat) : Bool := decide (s.cur (Fld.TIME_CAPu_FILT_FILT u) * 4 ≤ width)

/-! ### Meanings -/

/-- CAPTURE_START: a start edge at a time in 1/16 ns whose new level lasts `width` ns; `withStop`: a stop edge that the
filter lets through falls in the same slot (R69, R70). -/
def execCaptureStart (u : Nat) (edge16 width : Nat) (withStop : Bool) (s : State) : Host.Outcome State Fault Refusal :=
  unlessHeld s <|
  let t := stampOf 127 edge16
  let s := s.at (edge16 / 16)
  runIf (Instr.captureStart u edge16 width withStop).wf "CAPTURE_START"
    (if s.capEnabled u (Fld.TIME_CAPu_CFG_START_EDGE u) && s.capPasses u width then
       s.captureStart u t (withStop && s.capEnabled u (Fld.TIME_CAPu_CFG_STOP_EDGE u)) else s)

/-- CAPTURE_STOP: a stop edge alone in its capture slot, whose new level lasts `width` ns (R69, R70). -/
def execCaptureStop (u : Nat) (edge16 width : Nat) (s : State) : Host.Outcome State Fault Refusal :=
  unlessHeld s <|
  let t := stampOf 127 edge16
  let s := s.at (edge16 / 16)
  runIf (Instr.captureStop u edge16 width).wf "CAPTURE_STOP"
    (if s.capEnabled u (Fld.TIME_CAPu_CFG_STOP_EDGE u) && s.capPasses u width then s.captureStop u t else s)

end Sys2Proof.Machine
end

