-- ==== Sys2Proof/Machine/ReefOps.lean ====
section
/-! DEFINITION. The Reef controller's shared operations: wake entries, keeper tables, muster windows, reports,
corrections and records (R195, R200-R213), and the shadow items they send (Table 13.7). -/

namespace Sys2Proof.Machine

/-! ### The shadow stream -/

/-- A DELTA item of the active unit of a pair (R337-R339, Table 13.7). -/
def State.delta (s : State) (cls index : Nat) (body : Bytes) : State :=
  if s.claimed ∧ s.on Fld.HAL_CTRL_PAIR_EN then
    s.halSend 2 false (le 1 cls ++ le 1 0 ++ le 2 body.length ++ le 4 index ++ body)
  else s

/-! ### Wake entries (R195) -/

/-- Does one data byte match: an unmasked bit counts only within the frame's data? -/
def wakeByte (want mask : Nat) (got : Option Byte) : Bool :=
  match got with
  | some b => (Nat.xor b.toNat want).land mask == 0
  | none => mask == 0

/-- Does a classical data frame match wake entry w of port n? -/
def State.wakeMatch (s : State) (n w : Nat) (f : Wire) : Bool :=
  let key := (s.liveReg (Reg.REEF_WKn_w_KEY n w)).toNat
  let mask := (s.liveReg (Reg.REEF_WKn_w_MASK n w)).toNat
  let data := (s.liveReg (Reg.REEF_WKn_w_DATA0 n w)).toNat + 2 ^ 32 * (s.liveReg (Reg.REEF_WKn_w_DATA1 n w)).toNat
  let dmask := (s.liveReg (Reg.REEF_WKn_w_DMASK0 n w)).toNat + 2 ^ 32 * (s.liveReg (Reg.REEF_WKn_w_DMASK1 n w)).toNat
  s.on (Fld.REEF_WKn_w_CTRL_VALID n w) && f.kind == 0 && !f.rtr && (Nat.xor key (canKey f)).land mask == 0 &&
  (!s.on (Fld.REEF_WKn_w_CTRL_DLC_EN n w) || f.data.length == s.cur (Fld.REEF_WKn_w_CTRL_DLC n w)) &&
  (List.range 8).all fun i => wakeByte (bits data (8 * i + 7) (8 * i)) (bits dmask (8 * i + 7) (8 * i)) f.data[i]?

/-- Does a frame match a valid wake entry of the port? -/
def State.wakeAny (s : State) (n : Nat) (f : Wire) : Bool := (List.range 4).any fun w => s.wakeMatch n w f

/-! ### Keeper tables (R200) -/

/-- Bring the keeper with the lowest COUNT, the oldest on a tie, to the front. -/
def State.keeperVictim (s : State) (n : Nat) : Nat :=
  let score := fun i => (if s.get (Fld.REEF_KPn_i_INFO_VALID n i) = 0 then 0
    else 1 + s.get (Fld.REEF_KPn_i_INFO_COUNT n i), s.reg64 (Reg.REEF_KPn_i_TIME n i))
  [1, 2, 3].foldl (fun (b : Nat) (i : Nat) =>
    if (score i).1 < (score b).1 ∨ ((score i).1 = (score b).1 ∧ (score i).2 < (score b).2) then i else b) 0

/-- Write a keeper. -/
def State.setKeeper (s : State) (n i key count : Nat) (own : Bool) (t : Tai) : State :=
  let s := s.setReg (Reg.REEF_KPn_i_KEY n i) (BitVec.ofNat 32 key)
  let s := ((s.put (Fld.REEF_KPn_i_INFO_COUNT n i) count).put (Fld.REEF_KPn_i_INFO_OWN n i) (b2n own)).put
    (Fld.REEF_KPn_i_INFO_VALID n i) 1
  s.setReg64 (Reg.REEF_KPn_i_TIME n i) t

/-- A qualifying frame updates the keeper table. -/
def State.keeper (s : State) (n key : Nat) (own : Bool) (t : Tai) : State :=
  let hit := (List.range 4).find? fun i =>
    s.get (Fld.REEF_KPn_i_INFO_VALID n i) == 1 && s.w (Reg.REEF_KPn_i_KEY n i) == key &&
    s.get (Fld.REEF_KPn_i_INFO_OWN n i) == b2n own
  let s := match hit with
    | some i => s.setKeeper n i key (satNat 16 (s.get (Fld.REEF_KPn_i_INFO_COUNT n i) + 1)) own t
    | none => s.setKeeper n (s.keeperVictim n) key 1 own t
  { s with hal := { s.hal with keepers := if s.hal.keepers.contains n then s.hal.keepers else s.hal.keepers ++ [n] } }

/-- The keeper table is cleared. -/
def State.keeperClear (s : State) (n : Nat) : State :=
  (List.range 4).foldl (fun (s : State) i =>
    ((s.setReg (Reg.REEF_KPn_i_KEY n i) 0#32).setReg (Reg.REEF_KPn_i_INFO n i) 0#32).setReg64
      (Reg.REEF_KPn_i_TIME n i) 0) s

/-- A port's keeper table as 64 bytes: KEY, INFO and LAST_TIME of each entry (Table 13.7). -/
def State.keeperBytes (s : State) (n : Nat) : Bytes :=
  (List.range 4).flatMap fun i =>
    le 4 (s.w (Reg.REEF_KPn_i_KEY n i)) ++ le 4 (s.w (Reg.REEF_KPn_i_INFO n i)) ++
    le 8 (s.reg64 (Reg.REEF_KPn_i_TIME n i))

/-- The top keeper: the highest COUNT, the latest on a tie; none: the table is empty. -/
def State.topKeeper (s : State) (n : Nat) : Option Nat :=
  (List.range 4).foldl (fun (b : Option Nat) (i : Nat) =>
    if s.get (Fld.REEF_KPn_i_INFO_VALID n i) = 0 then b
    else match b with
      | none => some i
      | some j =>
        let ci := s.get (Fld.REEF_KPn_i_INFO_COUNT n i)
        let cj := s.get (Fld.REEF_KPn_i_INFO_COUNT n j)
        if cj < ci ∨ (ci = cj ∧ s.reg64 (Reg.REEF_KPn_i_TIME n j) < s.reg64 (Reg.REEF_KPn_i_TIME n i)) then some i
        else some j) none

/-- A qualifying event restarts the idle timer and ends the post-muster timeout, unless it is a muster report (R193). -/
def State.idleRestart (s : State) (n : Nat) (t : Tai) (isReport : Bool) : State :=
  let s := s.setReef n { s.reefOf n with restart := t }
  if isReport then s else s.put (Fld.REEF_PORTn_STAT_POST_MUS n) 0

/-! ### Muster entries and windows (R202-R212) -/

/-- The valid muster entries in force, ascending. -/
def State.musters (s : State) : List Nat :=
  s.live.filterMap fun e =>
    if 0x148000 ≤ e.1 ∧ e.1 < 0x150000 ∧ (e.1 - 0x148000) % 32 = 0 ∧ bit e.2.toNat 0 then some ((e.1 - 0x148000) / 32)
    else none

/-- The valid entries of a port. -/
def State.mustersOf (s : State) (n : Nat) : List Nat := s.musters.filter fun m => s.cur (Fld.REEF_MUSm_CTRL_PORT m) == n

def State.lost (s : State) (m : Nat) : Bool := s.get (Fld.REEF_MUSm_STAT_CARD_LOST m) == 1

/-- G_eff in ns under the MULT in force. -/
def State.guardNs (s : State) (m : Nat) : Nat :=
  s.cur (Fld.REEF_MUSm_GUARD_GUARD m) * 2 ^ s.get (Fld.REEF_MUSm_STAT_MULT_LOG m) * 1000

def State.winLen (s : State) (m : Nat) : Nat := s.cur (Fld.REEF_MUSm_WIN_LEN m) * s.beatLen

/-- The window period and the first window's start, in ns. -/
def State.winPeriod (s : State) (m : Nat) : Nat := max 1 (s.cur (Fld.REEF_MUSm_PERIOD_BEATS m)) * s.beatLen
def State.winBase (s : State) (m : Nat) : Nat := s.cur (Fld.REEF_MUSm_PHASE_BEATS m) * s.beatLen
def State.winOfs (s : State) (m : Nat) : Nat := s.cur (Fld.REEF_MUSm_WIN_SLOT_OFS m) * 1000

/-- The start of the window whose expected time is nearest to a time, the later on a tie (R204). -/
def State.nearestWin (s : State) (m : Nat) (t : Tai) : Tai :=
  let p := s.winPeriod m
  let x : Int := (t : Int) - s.winBase m - s.winOfs m
  ((s.winBase m : Int) + (x + (p / 2 : Nat)) / p * p).toNat

def State.winsOf (s : State) (m : Nat) : List MusterWin := SMap.get [] s.reef.windows m

def State.setWins (s : State) (m : Nat) (l : List MusterWin) : State :=
  { s with reef := { s.reef with windows := SMap.set [] s.reef.windows m l } }

/-- The window of an entry that starts at a time: the one on record, or a new one under the MULT in force. -/
def State.winAt (s : State) (m : Nat) (start : Tai) : MusterWin :=
  ((s.winsOf m).find? fun w => w.start == start).getD
    { port := s.cur (Fld.REEF_MUSm_CTRL_PORT m), start := start, opens := start - s.guardNs m, closes := start + s.winLen m + s.guardNs m, report := none,
      settled := none, ran := false, void := false }

/-- Put a window on record, newest first; the two before it are kept for late reports. -/
def State.keepWin (s : State) (m : Nat) (w : MusterWin) : State :=
  let l := s.winsOf m
  if l.any (fun x => x.start == w.start) then s.setWins m (l.map fun x => if x.start = w.start then w else x)
  else s.setWins m (w :: l.take 2)

/-- Is the port silent for muster: BUS_OFF, OFF or DOWN? -/
def musterVoid (canState : Nat) : Bool := canState == 0 || canState == 4 || canState == 6

/-- A beat begins: windows whose awake span opens in it are put on record, and the window that starts with it has its
beat. A window that started before its entry was valid is none (DEDUCED from R202); after a realignment gap, one that
started in the gap is on record without its beat. -/
def State.musterBoundary (s : State) (realigned : Bool) : State :=
  s.musters.foldl (fun (s : State) m =>
    if s.lost m then s
    else
      let p := s.winPeriod m
      -- the first window whose span has not closed when the beat begins
      let x : Int := (s.beat.start : Int) - s.winBase m - s.winLen m - s.guardNs m
      let start := ((s.winBase m : Int) + (x / p + 1) * p).toNat
      let w := s.winAt m start
      let w := { w with ran := w.ran || w.start == s.beat.start }
      let known := (s.winsOf m).any fun (x : MusterWin) => x.start == start
      if w.opens < s.beat.next ∧ (known ∨ s.beat.start ≤ start ∨ realigned) then
        let w := if s.beat.start < w.opens ∨ w.settled.isSome then w
          else { w with void := w.void || musterVoid (s.get (Fld.CANP_STATUS_STATE (s.cur (Fld.REEF_MUSm_CTRL_PORT m)))) }
        s.keepWin m w
      else s) s

/-- The port was or becomes BUS_OFF, OFF or DOWN at a time: the open spans of its entries are marked. -/
def State.musterMark (s : State) (n : Nat) : State :=
  let mark (w : MusterWin) : MusterWin :=
    if w.opens ≤ s.time.now ∧ s.time.now ≤ w.closes ∧ w.settled.isNone then { w with void := true } else w
  let wins := s.reef.windows.map fun (e : Nat × List MusterWin) =>
    (e.1, e.2.map fun (w : MusterWin) => if w.port = n then mark w else w)
  { s with reef := { s.reef with windows := wins } }

/-- An entry's shadow item: its STAT word and its node's pending correction (Table 13.7). -/
def State.musterDelta (s : State) (m : Nat) : State :=
  let node := s.cur (Fld.REEF_MUSm_CTRL_NODE m)
  let corr := ((s.reefOf (s.cur (Fld.REEF_MUSm_CTRL_PORT m))).corr.find? fun c => c.1 == node).map (·.2)
  s.delta 3 m (le 4 (s.w (Reg.REEF_MUSm_STAT m)) ++ le 4 (ofInt 4 (corr.getD 0)))

/-- A muster record (Table 8.3): sof 0 where there is no report. -/
def State.musterRecord (s : State) (m outcome flags : Nat) (start sof : Tai) (offset : Int) : State :=
  let n := s.cur (Fld.REEF_MUSm_CTRL_PORT m)
  if s.on Fld.REEF_MUS_RING_EN then
    s.toRing (s.cur Fld.REEF_MUS_RING_RING) (.item 0x50
      (le 1 n ++ le 1 (s.cur (Fld.REEF_MUSm_CTRL_NODE m)) ++ le 2 m ++ le 1 outcome ++ le 1 flags ++
       le 2 (s.word (unitOf 1 n)).epoch ++ le 8 start ++ le 8 sof ++ le 4 (ofInt 4 (satSigned 32 offset)) ++
       le 1 (s.get (Fld.REEF_MUSm_STAT_MISSES m)) ++ le 1 (2 ^ s.get (Fld.REEF_MUSm_STAT_MULT_LOG m)) ++ le 2 0))
  else s

/-- Rounding to nearest, halves away from zero. -/
def roundAway (num den : Int) : Int :=
  if 0 ≤ num then (2 * num + den) / (2 * den) else -((2 * -num + den) / (2 * den))

/-- Are time beacons enabled on a CAN port? -/
def State.beaconOn (s : State) (n : Nat) : Bool :=
  if n < 32 then bit (s.liveReg Reg.TIME_BCN_EN0).toNat n else bit (s.liveReg Reg.TIME_BCN_EN1).toNat (n - 32)

/-- A drift correction is queued (R207): did the port keep it? -/
def State.queueCorr (s : State) (n node : Nat) (corr : Int) : Bool × State :=
  if s.beaconOn n then
    let p := s.reefOf n
    if p.corr.any fun c => c.1 == node then
      (true, s.setReef n { p with corr := p.corr.map fun c => if c.1 = node then (node, corr) else c })
    else if p.corr.length < 8 then (true, s.setReef n { p with corr := p.corr ++ [(node, corr)] })
    else (true, (s.setReef n { p with corr := p.corr.drop 1 ++ [(node, corr)] }).count (Reg.REEF_CNTn_k n 6))
  else (false, s.count (Reg.REEF_CNTn_k n 6))

/-- The muster entry that a valid frame could report for (R204): the lowest-numbered whose key matches, if the frame
also matches a wake entry. -/
def State.musterEntry (s : State) (n : Nat) (f : Wire) : Option Nat :=
  match (s.mustersOf n).find? fun m =>
      (Nat.xor (s.liveReg (Reg.REEF_MUSm_KEY m)).toNat (canKey f)).land (s.liveReg (Reg.REEF_MUSm_MASK m)).toNat == 0 with
  | some m => if s.wakeAny n f then some m else none
  | none => none

/-- A valid frame is offered to the muster: is it a report, and is it out of its window? -/
def State.musterReport (s : State) (n : Nat) (f : Wire) (sof : Tai) (woken : Bool) : (Bool × Bool) × State :=
  match s.musterEntry n f with
  | none => ((false, false), s)
  | some m =>
    let w := s.winAt m (s.nearestWin m sof)
    if w.report.isSome then ((false, false), s)
    else
      let expected : Int := w.start + s.winOfs m
      let offset : Int := (sof : Int) - expected
      let lost := s.lost m
      let inWin := !lost && decide (w.opens ≤ sof ∧ sof ≤ w.closes)
      let late := w.settled = some 3
      let s := (s.count (Reg.REEF_CNTn_k n 7)).keepWin m
        { w with report := some (if inWin then 1 else 2), settled := if lost then some 6 else w.settled }
      let s := (s.put (Fld.REEF_MUSm_STAT_MISSES m) 0).put (Fld.REEF_MUSm_STAT_MULT_LOG m) 0
      let s := s.put (Fld.REEF_MUSm_STAT_DRIFT m) (ofInt 2 (satSigned 16 (roundFree (offset / 100000 : Rat))))
      let mag := offset.natAbs
      let guard := s.cur (Fld.REEF_MUSm_GUARD_GUARD m) * 1000
      let was := s.get (Fld.REEF_MUSm_STAT_DRIFT_SUSPECT m) = 1
      let s := if 3 * guard < mag then
          (let s := s.put (Fld.REEF_MUSm_STAT_DRIFT_SUSPECT m) 1
           if was then s
           else s.raise 0x0802 (unitOf 1 n) [n4 m, n4 (s.cur (Fld.REEF_MUSm_CTRL_NODE m)), .d8 offset])
        else if mag ≤ guard then s.put (Fld.REEF_MUSm_STAT_DRIFT_SUSPECT m) 0 else s
      let thr := s.cur (Fld.REEF_MUSm_GUARD_CORR_THR m) * 1000
      let (queued, s) := if !inWin || (thr != 0 && decide (thr < mag)) then
          s.queueCorr n (s.cur (Fld.REEF_MUSm_CTRL_NODE m))
            (max (-8388607) (min 8388607 (roundAway (-offset) 1000)))
        else (false, s)
      let s := if lost then s.raise 0x0804 (unitOf 1 n) [n4 m, .d8 offset] else s
      let flags := s.get (Fld.REEF_MUSm_STAT_DRIFT_SUSPECT m) + 2 * b2n queued + 4 * b2n woken
      let s := s.musterRecord m (if late then 4 else if inWin then 1 else 2) flags w.start sof offset
      ((true, !inWin), s.musterDelta m)

/-- An awake span ends: the window's outcome is settled (R210, R211). -/
def State.musterSettle (s : State) (m : Nat) (t : Tai) : State :=
  match ((s.winsOf m).filter fun w => w.settled.isNone && decide (w.closes ≤ t)).getLast? with
  | none => s
  | some w =>
    let n := w.port
    let s := s.put (Fld.REEF_PORTn_STAT_POST_MUS n) 1
    -- the span of an entry that a commit has taken away, or moved to another port, ends without an outcome (R214)
    if !(s.on (Fld.REEF_MUSm_CTRL_VALID m) && s.cur (Fld.REEF_MUSm_CTRL_PORT m) == n) then s.setWins m ((s.winsOf m).filter (· != w))
    else
    let void := w.void || !w.ran || musterVoid (s.get (Fld.CANP_STATUS_STATE n))
    match w.report with
    | some o => s.keepWin m { w with settled := some o }
    | none =>
      if void then
        (s.keepWin m { w with settled := some 5 }).musterRecord m 5 (s.get (Fld.REEF_MUSm_STAT_DRIFT_SUSPECT m)) w.start 0 0
      else
        let misses := s.get (Fld.REEF_MUSm_STAT_MISSES m) + 1
        let s := (s.keepWin m { w with settled := some 3 }).put (Fld.REEF_MUSm_STAT_MISSES m) misses
        let s := s.put (Fld.REEF_MUSm_STAT_MULT_LOG m) (min 4 (misses / 2))
        let drift := s.get (Fld.REEF_MUSm_STAT_DRIFT_SUSPECT m)
        let s := s.musterRecord m 3 drift w.start 0 0
        let s := if misses = 10 then
            (let s := (s.put (Fld.REEF_MUSm_STAT_CARD_LOST m) 1).musterRecord m 6 drift w.start 0 0
             s.raise 0x0803 (unitOf 1 n) [n4 m, n4 (s.cur (Fld.REEF_MUSm_CTRL_NODE m))])
          else s
        s.musterDelta m

/-- The lead before an awake span: 40 µs and 11 nominal bit times (R203). -/
def State.leadNs (s : State) (n : Nat) : Nat := 40000 + 11 * (s.canBits n).1 * 25 / 4

/-- Does an awake span of the port, extended back by its lead, overlap the interval from `a` up to `b`: one on record, which keeps
its end whatever a commit has made of its entry (R214), or one that the entries in force place there? -/
def State.spanOverlaps (s : State) (n : Nat) (a b : Tai) : Bool :=
  let lead := s.leadNs n
  let open_ := fun (w : MusterWin) => w.settled.isNone && decide (w.opens < b + lead ∧ a < w.closes)
  (s.reef.windows.any fun (e : Nat × List MusterWin) => e.2.any fun (w : MusterWin) => w.port == n && open_ w) ||
  (s.mustersOf n).any fun m =>
    !s.lost m &&
    (let p := s.winPeriod m
     let x : Int := (a : Int) - s.winBase m - s.winLen m - s.guardNs m
     let start := ((s.winBase m : Int) + (x / p + 1) * p).toNat
     open_ (s.winAt m start))

end Sys2Proof.Machine
end

