-- ==== Sys2Proof/Machine/NestOps.lean ====
section
/-! DEFINITION. The Crow's Nest's parts: configuration in force, track sets and contexts, detection, mapping, the filter,
association, the life cycle, alarms and records (chapter "Crow's Nest Thermal Fusion"). -/

namespace Sys2Proof.Machine

/-! ### Configuration in force and views -/

/-- A binary32 register in force. -/
def State.f32 (s : State) (off : Nat) : F32 := s.liveReg off

/-- The track set that an imager feeds (R311). -/
def State.nestSet (s : State) (i : Nat) : Nat := if s.on Fld.NEST_CTRL_SPLIT then s.cur (Fld.NEST_IMGi_CFG_SET i) else 0

/-- The track sets in use. -/
def State.nestSets (s : State) : List Nat := if s.on Fld.NEST_CTRL_SPLIT then [0, 1] else [0]

/-- The track indices of a set: the first and their number (R311). -/
def State.trackSpan (s : State) (set : Nat) : Nat × Nat :=
  if s.on Fld.NEST_CTRL_SPLIT then (1024 * set, 1024) else (0, 2048)

def State.nestCount (s : State) (i k : Nat) (n : Nat := 1) : State := s.count (Reg.NEST_IMGi_CNTk i k) n

def State.setCount (s : State) (set k : Nat) (n : Nat := 1) : State := s.count (Reg.NEST_SETs_CNTk set k) n

/-- Are the three domains of the Crow's Nest ON? -/
def State.nestPowered (s : State) : Bool := s.domain 18 == 2 && s.domain 19 == 2 && s.domain 20 == 2

/-- Does the unit run steps 3 and 4 (R340)? -/
def State.nestTracks (s : State) : Bool := s.get Fld.HAL_STATUS_ROLE != 3

/-- The registers of the NEST block in force. -/
def nestRange (e : Nat × Word) : Bool := decide (0x1A0000 ≤ e.1 ∧ e.1 < 0x1B0000)

/-- Put another NEST configuration in force. -/
def State.nestSwap (s : State) (cfg : List (Nat × Word)) : State :=
  { s with live := (s.live.filter fun e => decide (e.1 < 0x1A0000)) ++ cfg ++
                   (s.live.filter fun e => decide (0x1B0000 ≤ e.1)) }

/-- The tray contexts of a set, with their slots. -/
def State.contexts (s : State) (set : Nat) : List (Nat × TrayCtx) :=
  s.nest.ctxs.filter fun (e : Nat × TrayCtx) => e.1 / 4 == set

/-- The 32 bytes of a tray context's registers (Table 12.9). -/
def TrayCtx.bytes (x : TrayCtx) : Bytes :=
  le 4 (1 + 2 ^ 8 * x.slot) ++ le 4 x.seq ++ le 4 x.x.toNat ++ le 4 x.y.toNat ++ padTo 16 0 x.id

/-- The registers of tray context slot k (4 * set + context) show it, and the change is shadowed (Table 13.7). -/
def State.showCtx (s : State) (k : Nat) : State :=
  let b := match SMap.look s.nest.ctxs k with
    | some x => x.bytes
    | none => List.replicate 32 0
  let s := (List.range 8).foldl (fun (s : State) w =>
    s.setReg (Reg.NEST_TRAY_CTX (k / 4) (k % 4) w) (BitVec.ofNat 32 (unLe ((b.drop (4 * w)).take 4)))) s
  s.delta 6 k b

/-- A tray context ends: the tracks in it keep their last cell and TRAY_SEQ (R310). -/
def State.dropCtx (s : State) (k : Nat) : State :=
  let leave := fun (e : Nat × Track) => if e.2.set = k / 4 ∧ e.2.ctx = some k then (e.1, { e.2 with ctx := none }) else e
  ({ s with nest := { s.nest with ctxs := SMap.del s.nest.ctxs k, tracks := s.nest.tracks.map leave } }).showCtx k

def State.setCtx (s : State) (k : Nat) (x : TrayCtx) : State :=
  ({ s with nest := { s.nest with ctxs := SMap.put s.nest.ctxs k x } }).showCtx k

/-- A track's state and covariance as the shadow carries it. -/
def Axis.bytes (a : Axis) : Bytes :=
  [a.p, a.v, a.p00, a.p01, a.p11].flatMap fun (x : F32) => le 4 x.toNat

/-- The 80 bytes of a track's shadow item (Table 13.7). -/
def Track.shadow (k : Track) : Bytes :=
  k.x.bytes ++ k.y.bytes ++ k.t.bytes ++ le 1 k.state ++ le 1 (satNat 8 k.hits) ++ le 1 (satNat 8 k.misses) ++
    le 1 k.imgs ++ le 2 k.alarms ++ le 1 k.row ++ le 1 k.col ++ le 4 k.traySeq ++ le 8 k.time

def State.track? (s : State) (n : Nat) : Option Track := SMap.look s.nest.tracks n

/-- Write a track; the change is shadowed. -/
def State.setTrack (s : State) (n : Nat) (k : Track) : State :=
  ({ s with nest := { s.nest with tracks := SMap.put s.nest.tracks n k } }).delta 5 n k.shadow

/-! ### Events of a track (R317) -/

/-- Does OUT_MODE select an event? 1 BIRTH, 2 HIT, 3 MISS, 4 CONFIRM, 5-7 DELETE. -/
def nestSelected (mode ev state : Nat) : Bool :=
  if mode = 0 then false
  else if mode = 1 then ev != 2 && ev != 3
  else if mode = 2 then (ev != 2 && ev != 3) || state == 2 || state == 3
  else true

/-- The rank of an event: DELETE, CONFIRM, BIRTH, HIT, MISS. -/
def nestRank (ev : Nat) : Nat := match ev with
  | 0 => 0
  | 3 => 1
  | 2 => 2
  | 1 => 3
  | 4 => 4
  | _ => 5

/-- An event of a track: the highest-ranked selected one since the last writeback is kept. -/
def State.trackEvent (s : State) (k : Track) (ev : Nat) : Track :=
  if nestSelected (s.cur Fld.NEST_CTRL_OUT_MODE) ev k.state ∧ nestRank k.event < nestRank ev then { k with event := ev }
  else k

/-- A record of a set is staged: traffic on the set (Table 17.2). -/
def State.staged (s : State) (k : Track) : State :=
  if k.event = 0 then s else s.observe (unitOf 5 k.set)

/-- A track becomes FREE with a DELETE event. -/
def State.trackFree (s : State) (n : Nat) (k : Track) (ev : Nat) : State :=
  let k := s.trackEvent { k with state := 0 } ev
  let s := s.setCount k.set 2
  let gone := if k.event = 0 then s.nest.deleted else s.nest.deleted ++ [(n, k)]
  let s := { s with nest := { s.nest with tracks := SMap.del s.nest.tracks n, deleted := gone } }
  (s.delta 5 n k.shadow).staged k

/-! ### The filter (R311) -/

def f32Two : F32 := F32.ofInt 2
def f32Three : F32 := F32.ofInt 3
def f32One : F32 := F32.ofInt 1

/-- axis_predict. -/
def Axis.predict (a : Axis) (dt q : F32) : Axis :=
  { p := F32.add a.p (F32.mul a.v dt),
    v := a.v,
    p00 := F32.add (F32.add a.p00 (F32.mul dt (F32.add (F32.mul f32Two a.p01) (F32.mul dt a.p11))))
             (F32.div (F32.mul (F32.mul (F32.mul q dt) dt) dt) f32Three),
    p01 := F32.add (F32.add a.p01 (F32.mul dt a.p11)) (F32.div (F32.mul (F32.mul q dt) dt) f32Two),
    p11 := F32.add a.p11 (F32.mul q dt) }

/-- axis_update. -/
def Axis.update (a : Axis) (z r : F32) : Axis :=
  let d := F32.add a.p00 r
  let k0 := F32.div a.p00 d
  let k1 := F32.div a.p01 d
  let e := F32.sub z a.p
  { p := F32.add a.p (F32.mul k0 e),
    v := F32.add a.v (F32.mul k1 e),
    p00 := F32.mul (F32.sub f32One k0) a.p00,
    p01 := F32.mul (F32.sub f32One k0) a.p01,
    p11 := F32.sub a.p11 (F32.mul k1 a.p01) }

/-! ### Detection (R298, R299, R308) -/

/-- A pixel of an accepted frame: its temperature. -/
def State.pixelTemp (s : State) (i raw : Nat) : F32 :=
  F32.add (F32.mul (s.f32 (Reg.NEST_IMGi_GAIN i)) (F32.ofInt raw)) (s.f32 (Reg.NEST_IMGi_OFFSET i))

/-- A blob in the making: its pixels. -/
abbrev Blob := List (Nat × Nat × F32)

/-- Do two pixels touch, corners included? -/
def touches (u v : Nat) (p : Nat × Nat × F32) : Bool :=
  decide (u ≤ p.1 + 1 ∧ p.1 ≤ u + 1 ∧ v ≤ p.2.1 + 1 ∧ p.2.1 ≤ v + 1)

/-- A qualifying pixel joins the blobs it touches; the blob in the making with the latest pixel stands last. -/
def blobJoin (bs : List Blob) (u v : Nat) (t : F32) : List Blob :=
  let near := bs.filter fun (b : Blob) => b.any (touches u v)
  let far := bs.filter fun (b : Blob) => !b.any (touches u v)
  far ++ [near.flatten ++ [(u, v, t)]]

/-- The pixels of a frame in scanning order, with their line's CRC result. -/
def nestPixels (lines : List NestLine) : List (Nat × Nat × Nat × Bool) :=
  (lines.zipIdx).flatMap fun (e : NestLine × Nat) =>
    (e.1.pixels.zipIdx).map fun (p : Nat × Nat) => (p.2, e.2, p.1, e.1.crcOk)

/-- Is a pixel inside a window, ends inclusive? -/
def inWindow (u0 v0 u1 v1 u v : Nat) : Bool := decide (u0 ≤ u ∧ u ≤ u1 ∧ v0 ≤ v ∧ v ≤ v1)

/-- The blobs of a frame, in order of completion. -/
def State.blobs (s : State) (i : Nat) (lines : List NestLine) : List Blob :=
  let tdet := F32.ofRat false ((toSigned 16 (s.cur (Fld.NEST_IMGi_DET_T_DET i)) : Rat) / 64)
  (nestPixels lines).foldl (fun (bs : List Blob) (p : Nat × Nat × Nat × Bool) =>
    let (u, v, raw, ok) := p
    if ok && inWindow (s.cur (Fld.NEST_IMGi_ROI0_U0 i)) (s.cur (Fld.NEST_IMGi_ROI0_V0 i))
        (s.cur (Fld.NEST_IMGi_ROI1_U1 i)) (s.cur (Fld.NEST_IMGi_ROI1_V1 i)) u v then
      let t := s.pixelTemp i raw
      if F32.le tdet t then blobJoin bs u v t else bs
    else bs) []

/-- A detection: its centroid in 1/16 pixel, its peak temperature, and its place in the fusion plane. -/
structure Detect where
  u    : Nat
  v    : Nat
  peak : F32
  x    : F32
  y    : F32
  deriving DecidableEq, Repr

/-- The detection of a blob, not yet mapped. -/
def blobDetect (b : Blob) : Detect :=
  let n := b.length
  let mean := fun (k : Nat) => (nearest ((16 * k : Nat) / (n : Rat))).toNat
  let peak := b.foldl (fun (m : F32) (p : Nat × Nat × F32) => if F32.lt m p.2.2 then p.2.2 else m)
    ((b.head?.map fun (p : Nat × Nat × F32) => p.2.2).getD 0)
  { u := mean ((b.map fun (p : Nat × Nat × F32) => p.1).sum), v := mean ((b.map fun (p : Nat × Nat × F32) => p.2.1).sum),
    peak := peak, x := 0, y := 0 }

/-! ### Alignment (R303, R304) -/

/-- The newest tray context of a set. -/
def State.newestCtx (s : State) (set : Nat) : Option (Nat × TrayCtx) :=
  (s.contexts set).foldl (fun (m : Option (Nat × TrayCtx)) (e : Nat × TrayCtx) =>
    match m with
    | none => some e
    | some x => if x.2.seq < e.2.seq then some e else m) none

/-- The mapping of a point in 1/16 pixel into the fusion plane; none: it has no image there. -/
def State.nestMap (s : State) (i : Nat) (u v : Int) : Option (F32 × F32) :=
  let fu := F32.ofRat false ((u : Rat) / 16)
  let fv := F32.ofRat false ((v : Rat) / 16)
  if s.on (Fld.NEST_IMGi_CFG_TABLE i) then
    let e := match s.newestCtx (s.nestSet i) with
      | some c => c.2.slot
      | none => 0
    let a := fun (w : Nat) => s.f32 (Reg.NEST_AFFINE i e w)
    if bit (s.f32 (Reg.NEST_AFFINE_VALID i e)).toNat 0 then
      some (F32.add (F32.add (F32.mul (a 0) fu) (F32.mul (a 1) fv)) (a 2),
            F32.add (F32.add (F32.mul (a 3) fu) (F32.mul (a 4) fv)) (a 5))
    else none
  else
    let h := fun (k : Nat) => s.f32 (Reg.NEST_HOMOGi_k i k)
    let lin := fun (k : Nat) => F32.add (F32.add (F32.mul (h k) fu) (F32.mul (h (k + 1)) fv)) (h (k + 2))
    let den := lin 6
    if F32.lt 0 den then some (F32.div (lin 0) den, F32.div (lin 3) den) else none

/-! ### Cells (R310) -/

/-- The cell of a position in a context's grid: row and column; 0xFF each outside. -/
def State.cellOf (s : State) (c : TrayCtx) (x y : F32) : Nat × Nat :=
  let col := F32.floor (F32.div (F32.sub x c.x) (s.f32 Reg.NEST_PITCH_X))
  let row := F32.floor (F32.div (F32.sub y c.y) (s.f32 Reg.NEST_PITCH_Y))
  match row, col with
  | some r, some k =>
    if 0 ≤ r ∧ r ≤ s.cur Fld.NEST_GRID_ROWS_M1 ∧ 0 ≤ k ∧ k ≤ s.cur Fld.NEST_GRID_COLS_M1 then (r.toNat, k.toNat)
    else (0xFF, 0xFF)
  | _, _ => (0xFF, 0xFF)

/-- The newest context of a set whose grid contains a position. -/
def State.joins (s : State) (set : Nat) (x y : F32) : Option (Nat × TrayCtx) :=
  ((s.contexts set).filter fun (e : Nat × TrayCtx) => s.cellOf e.2 x y != (0xFF, 0xFF)).foldl
    (fun (m : Option (Nat × TrayCtx)) (e : Nat × TrayCtx) =>
      match m with
      | none => some e
      | some c => if c.2.seq < e.2.seq then some e else m) none

/-! ### Alarms (R318-R320) -/

/-- The payload of an alarm message; OUT_TIME is written when it leaves (Table 12.6). -/
def State.alarmPayload (s : State) (rule n : Nat) (k : Track) : Bytes :=
  let id := match k.ctx.bind (SMap.look s.nest.ctxs) with
    | some c => padTo 16 0 c.id
    | none => List.replicate 16 0
  le 1 rule ++ le 1 k.set ++ le 2 n ++ le 1 k.row ++ le 1 k.col ++ le 2 (s.epochOf (unitOf 5 k.set)) ++ le 8 0 ++
    le 2 (ofInt 2 (F32.temp k.t.p)) ++ le 2 (ofInt 2 (F32.fixed 16 64 k.t.v)) ++ le 4 (ofInt 4 (F32.fixed 32 256 k.x.p)) ++
    le 4 (ofInt 4 (F32.fixed 32 256 k.y.p)) ++ le 4 k.traySeq ++ id

/-- The 8 bytes of a stop frame (Table 12.7). -/
def stopPayload (rule n seq : Nat) (k : Track) : Bytes :=
  le 1 (16 + rule) ++ le 1 (128 * k.set + n / 256) ++ le 1 (n % 256) ++ le 1 k.row ++ le 1 k.col ++
    be 2 (ofInt 2 (F32.temp k.t.p)) ++ le 1 seq

/-- A kind-6 message of port 77 under a key (Table 12.4). -/
def nestWire (key : Nat) (data : Bytes) : Wire :=
  { kind := 6, ide := false, brs := false, rtr := false, esi := false, id := key, af := 0, data := data }

/-- Stage an alarm output: up to 64 wait, one more is lost. -/
def State.stageOut (s : State) (o : NestOut) : State :=
  if s.nest.out.length < 64 then { s with nest := { s.nest with out := s.nest.out ++ [o] } }
  else s.setCount o.set 5

/-- Table 13.7 class 7: a staged stop frame, under the route it will take. -/
def State.stopDelta (s : State) (o : NestOut) : State :=
  match s.lookup 77 none o.wire with
  | .route r => s.delta 7 r.index (le 4 (canKey o.wire) ++ le 2 o.mkey ++ le 2 0 ++ o.wire.data)
  | .miss => s

/-- Rule r fires for a track. -/
def State.alarmFire (s : State) (r n : Nat) (k : Track) : State :=
  let fired := satNat 16 (bits (s.reg (Reg.NEST_ALMr_STAT r)).toNat 31 16 + 1)
  let seq := bits (s.reg (Reg.NEST_ALMr_STAT r)).toNat 7 0
  let stop := s.on (Fld.NEST_ALMr_CTRL_STOP_EN r)
  let s := s.setReg (Reg.NEST_ALMr_STAT r) (BitVec.ofNat 32 (fired * 2 ^ 16 + (seq + b2n stop) % 256))
  let s := (s.setCount k.set 4).raise 0x0E01 (unitOf 5 k.set) [n4 r, n4 n, n4 k.row, n4 k.col]
  let s := s.observe (unitOf 5 k.set)
  let msg := nestWire (3 * 2 ^ 30 + 2 ^ 28 + k.set * 2 ^ 16 + r) (s.alarmPayload r n k)
  let s := s.stageOut { stop := false, set := k.set, wire := msg, mkey := r }
  if stop then
    let fd := s.on (Fld.NEST_ALMr_CTRL_STOP_KIND r)
    let ide := s.on (Fld.NEST_ALMr_CTRL_STOP_IDE r)
    let o : NestOut := {
      stop := true, set := k.set, mkey := r + 256 * seq,
      wire := { kind := b2n fd, ide := ide, brs := fd && s.on (Fld.NEST_ALMr_CTRL_STOP_BRS r), rtr := false, esi := false,
                id := idSent ide (s.liveReg (Reg.NEST_ALMr_STOP_ID r)).toNat, af := 0, data := stopPayload r n seq k } }
    (s.stageOut o).stopDelta o
  else s

/-- Does a rule's condition hold? -/
def State.alarmHolds (s : State) (r : Nat) (k : Track) : Bool :=
  let lim := fun (v : Nat) => F32.ofRat false ((toSigned 16 v : Rat) / 64)
  let thr := (s.liveReg (Reg.NEST_ALMr_THR r)).toNat
  let a := F32.le (lim (bits thr 15 0)) k.t.p
  let b := F32.le (lim (bits thr 31 16)) k.t.v
  match s.cur (Fld.NEST_ALMr_CTRL_COND r) with
  | 1 => a
  | 2 => b
  | 3 => a || b
  | 4 => a && b
  | _ => false

/-- One rule at a hit of a CONFIRMED track. -/
def State.alarmRule (n : Nat) (ks : Track × State) (r : Nat) : Track × State :=
  let (k, s) := ks
  let rset := if s.on Fld.NEST_CTRL_SPLIT then s.cur (Fld.NEST_ALMr_CTRL_SET r) else 0
  if s.cur (Fld.NEST_ALMr_CTRL_COND r) = 0 ∨ rset ≠ k.set ∨ bit k.alarms r = true then (k, s)
  else if s.alarmHolds r k then
    let held := SMap.get 0 k.holds r + 1
    let k := { k with holds := SMap.set 0 k.holds r held }
    if s.cur (Fld.NEST_ALMr_CTRL_PERSIST r) ≤ held then
      let k := { k with alarms := k.alarms + 2 ^ r }
      (k, s.alarmFire r n k)
    else (k, s)
  else ({ k with holds := SMap.del k.holds r }, s)

/-! ### The life cycle (R312, R313) -/

/-- Is a position outside the set's exit region? -/
def State.exits (s : State) (set : Nat) (x y : F32) : Bool :=
  !(F32.le (s.f32 (Reg.NEST_SETs_XMIN set)) x && F32.le x (s.f32 (Reg.NEST_SETs_XMAX set)) &&
    F32.le (s.f32 (Reg.NEST_SETs_YMIN set)) y && F32.le y (s.f32 (Reg.NEST_SETs_YMAX set)))

/-- Is a position inside an imager's coverage (R305)? -/
def State.covered (s : State) (i : Nat) (x y : F32) : Bool :=
  F32.le (s.f32 (Reg.NEST_IMGi_COV_XMIN i)) x && F32.le x (s.f32 (Reg.NEST_IMGi_COV_XMAX i)) &&
  F32.le (s.f32 (Reg.NEST_IMGi_COV_YMIN i)) y && F32.le y (s.f32 (Reg.NEST_IMGi_COV_YMAX i))

/-- A hit of a predicted track by a detection of imager i. -/
def State.trackHit (s : State) (i n : Nat) (k : Track) (d : Detect) (time : Tai) : State :=
  let rp := s.f32 Reg.NEST_R_POS
  let hits := satNat 8 (k.hits + 1)
  let confirm := k.state = 1 ∧ s.cur Fld.NEST_TRK_CFG_CONF_HITS ≤ hits
  let k := { k with x := k.x.update d.x rp, y := k.y.update d.y rp, t := k.t.update d.peak (s.f32 Reg.NEST_R_T),
                    hits := hits, misses := 0, time := max k.time time,
                    imgs := k.imgs ||| 2 ^ i, state := if k.state = 1 ∧ ¬confirm then 1 else 2 }
  let k := match k.ctx.bind (SMap.look s.nest.ctxs) with
    | some c => (let cell := s.cellOf c k.x.p k.y.p; { k with row := cell.1, col := cell.2 })
    | none => k
  let s := s.nestCount i 6
  let s := if confirm then s.setCount k.set 1 else s
  let k := s.trackEvent k (if confirm then 4 else 2)
  let (k, s) := if k.state = 2 then (List.range 16).foldl (State.alarmRule n) (k, s) else (k, s)
  if s.exits k.set k.x.p k.y.p then s.trackFree n k 6 else (s.setTrack n k).staged k

/-- A miss of a predicted track. -/
def State.trackMiss (s : State) (n : Nat) (k : Track) (time : Tai) : State :=
  let k := { k with time := max k.time time, misses := k.misses + 1 }
  if k.state = 1 then s.trackFree n k 5
  else if k.state = 3 ∧ s.cur Fld.NEST_TRK_CFG_MAX_MISS ≤ k.misses then s.trackFree n k 5
  else
    let k := s.trackEvent { k with state := 3 } 3
    if s.exits k.set k.x.p k.y.p then s.trackFree n k 6 else (s.setTrack n k).staged k

/-- A new axis (R312, step 4). -/
def Axis.born (z v r pv0 : F32) : Axis := { p := z, v := v, p00 := r, p01 := 0, p11 := pv0 }

/-- The ego velocity of a set (R307). -/
def State.egoOf (s : State) (set : Nat) : F32 × F32 :=
  let i := s.cur (Fld.NEST_SETs_CFG_EGO_IMG set)
  (s.reg (Reg.NEST_IMGi_EGO_VX i), s.reg (Reg.NEST_IMGi_EGO_VY i))

/-- An unassigned detection gives birth to a track. -/
def State.trackBirth (s : State) (i set : Nat) (d : Detect) (time : Tai) : State :=
  let (first, size) := s.trackSpan set
  match ((List.range size).map (first + ·)).find? fun n => (s.track? n).isNone with
  | none =>
    let s := s.setCount set 3
    s.raiseOnce (0x0E05 * 65536 + set) 0x0E05 (unitOf 5 set) [n8 (s.reg64 (Reg.NEST_SETs_CNTk set 3))]
  | some n =>
    let v := s.egoOf set
    let rp := s.f32 Reg.NEST_R_POS
    let pv := s.f32 Reg.NEST_PV0_POS
    let c := s.joins set d.x d.y
    let cell := match c with
      | some e => s.cellOf e.2 d.x d.y
      | none => (0xFF, 0xFF)
    let k : Track := {
      state := 1, set := set, hits := 1, misses := 0, time := time,
      x := Axis.born d.x v.1 rp pv, y := Axis.born d.y v.2 rp pv,
      t := Axis.born d.peak 0 (s.f32 Reg.NEST_R_T) (s.f32 Reg.NEST_PV0_T),
      row := cell.1, col := cell.2, ctx := c.map (·.1), traySeq := (match c with | some e => e.2.seq | none => 0),
      imgs := 2 ^ i, alarms := 0, holds := [], event := 0 }
    let k := s.trackEvent k 1
    ((s.setCount set 0).setTrack n k).staged k

/-! ### Step 3 (R312) -/

/-- An interval in seconds. -/
def f32Seconds (ns : Int) : F32 := F32.ofRat false ((ns : Rat) / 1000000000)

/-- A track predicted to the frame time; a negative interval counts as 0. -/
def State.trackPredict (s : State) (k : Track) (time : Tai) : Track :=
  let dt := f32Seconds ((time - k.time : Nat) : Int)
  let qp := s.f32 Reg.NEST_Q_POS
  { k with x := k.x.predict dt qp, y := k.y.predict dt qp, t := k.t.predict dt (s.f32 Reg.NEST_Q_T) }

/-- Does detection a go before detection b: higher peak, then smaller v, then smaller u? -/
def Detect.before (a b : Detect) : Bool :=
  F32.lt b.peak a.peak || (!F32.lt a.peak b.peak && decide (a.v < b.v ∨ (a.v = b.v ∧ a.u < b.u)))

def detectInsert (d : Detect) : List Detect → List Detect
  | [] => [d]
  | e :: l => if d.before e then d :: e :: l else e :: detectInsert d l

/-- Detections in descending peak temperature. -/
def detectSort (l : List Detect) : List Detect := l.foldl (fun (a : List Detect) d => detectInsert d a) []

/-- The weighted distance of a detection from a prediction. -/
def State.trackDist (s : State) (k : Track) (d : Detect) : F32 :=
  let rp := s.f32 Reg.NEST_R_POS
  let ex := F32.sub d.x k.x.p
  let ey := F32.sub d.y k.y.p
  F32.add (F32.div (F32.mul ex ex) (F32.add k.x.p00 rp)) (F32.div (F32.mul ey ey) (F32.add k.y.p00 rp))

/-- The unassigned track nearest to a detection within GATE; a tie goes to the lower index. -/
def State.trackNear (s : State) (free : List (Nat × Track)) (d : Detect) : Option (Nat × Track) :=
  (free.foldl (fun (m : Option (F32 × Nat × Track)) (e : Nat × Track) =>
    let x := s.trackDist e.2 d
    if F32.le x (s.f32 Reg.NEST_GATE) then
      match m with
      | none => some (x, e)
      | some y => if F32.lt x y.1 then some (x, e) else m
    else m) none).map fun (e : F32 × Nat × Track) => e.2

/-- The work of association: the tracks still unassigned, the detections without a track, the state. -/
abbrev Assoc := List (Nat × Track) × List Detect × State

def State.associate (i : Nat) (time : Tai) (a : Assoc) (d : Detect) : Assoc :=
  let (free, left, s) := a
  match s.trackNear free d with
  | some (n, k) => (free.filter (fun (e : Nat × Track) => e.1 != n), left, s.trackHit i n k d time)
  | none => (free, left ++ [d], s)

/-- Step 3 for a frame of imager i with its mapped detections. -/
def State.nestTrack (s : State) (i : Nat) (dets : List Detect) (time : Tai) : State :=
  let set := s.nestSet i
  let mine := s.nest.tracks.filter fun (e : Nat × Track) => e.2.set == set
  let s := if mine.any (fun (e : Nat × Track) => decide (time < e.2.time)) then s.nestCount i 9 else s
  let predicted := mine.map fun (e : Nat × Track) => (e.1, s.trackPredict e.2 time)
  let (free, left, s) := (detectSort dets).foldl (State.associate i time) (predicted, [], s)
  let s := left.foldl (fun (s : State) d => s.trackBirth i set d time) s
  free.foldl (fun (s : State) (e : Nat × Track) =>
    if s.covered i e.2.x.p e.2.y.p then s.trackMiss e.1 e.2 time else s) s

end Sys2Proof.Machine
end

