-- ==== Sys2Proof/Machine/EthOps.lean ====
section
/-! DEFINITION. The shared operations of the Ethernet-type ports: link states, PLCA status, the frames that leave in tunnel
form, and the link cipher (R121, R216-R218, R222-R231, R236; IEEE 802.1AE-2018). Lanes and the management port are q = 0-4
(logical ports 56-60), T1S segments k = 0-7 (logical ports 48-55). -/

namespace Sys2Proof.Machine

/-! ### Port states (R216-R218, R231) -/

/-- Count at an Ethernet-type port, where its kind has the counter: for T1S, as the second number. -/
def State.countEth (s : State) (port k : Nat) (t1s : Option Nat) : State :=
  if port < 56 then
    match t1s with
    | some j => s.count (Reg.T1S_Ss_CNTk (port - 48) j)
    | none => s
  else s.count (Reg.ETH_Pq_CNTk (port - 56) k)

/-- Is EN of an Ethernet-type port in force 1? -/
def State.ethEn (s : State) (port : Nat) : Bool :=
  if port < 56 then s.on (Fld.T1S_Ss_CFG_EN (port - 48)) else s.on (Fld.ETH_Pq_MODE_EN (port - 56))

/-- Is a lane held in TRAINING because its link cipher is isolated (R231)? -/
def State.lsecHolds (s : State) (port : Nat) : Bool :=
  decide (56 ≤ port ∧ port < 60) && s.isolated 16 &&
  (s.on (Fld.LSEC_Ll_CTRL_TX_EN (port - 56)) || s.on (Fld.LSEC_Ll_CTRL_RX_EN (port - 56)))

/-- A T1S node 0 beacons while it is UP and the unit holds the claim (R234). -/
def State.beaconing (s : State) (k : Nat) : Bool :=
  s.ethState (48 + k) == 2 && s.on (Fld.T1S_Ss_CFG_PLCA_EN k) && s.cur (Fld.T1S_Ss_CFG_NODE_ID k) == 0 && s.claimed

/-- BEACONING shows it. -/
def State.showBeaconing (s : State) (k : Nat) : State := s.put (Fld.T1S_Ss_STATUS_BEACONING k) (b2n (s.beaconing k))

/-- PLCA status becomes false: counted, and told once in a TAI second (R236). -/
def State.plcaLost (s : State) (k : Nat) : State :=
  if s.get (Fld.T1S_Ss_STATUS_PLCA_STATUS k) = 1 then
    let s := (s.put (Fld.T1S_Ss_STATUS_PLCA_STATUS k) 0).count (Reg.T1S_Ss_CNTk k 8)
    s.raiseOnce (0x0A01 * 65536 + k) 0x0A01 (unitOf 1 (48 + k)) [n4 (s.cur (Fld.T1S_Ss_CFG_NODE_ID k))]
  else s

/-- What a port remembers of the frame on its wire is gone. -/
def State.clearWire (s : State) (port : Nat) : State :=
  { s with eth := { s.eth with txSa := SMap.set 0 s.eth.txSa port 0, tails := SMap.del s.eth.tails port } }

/-- No retraining waits on a port. -/
def State.clearRetrain (s : State) (port : Nat) : State :=
  { s with eth := { s.eth with retrain := SMap.set false s.eth.retrain port false } }

/-- A port changes state: its word follows; one that leaves UP has nothing more to wait for. A T1S port that is not UP has no
PLCA status and no opportunity. -/
def State.setEthState (s : State) (port st : Nat) (lost : Bool := false) : State :=
  if s.ethState port = st then s
  else
    let f := if port < 56 then Fld.T1S_Ss_STATUS_STATE (port - 48) else Fld.ETH_Pq_STATUS_STATE (port - 56)
    let s := (((s.put f st).message (unitOf 1 port) st lost).clearRetrain port).linkDrops port
    if port < 56 ∧ st ≠ 2 then (s.plcaLost (port - 48)).setOpportunity port 0 else s

/-- The copy in transmission does not complete: it is dropped as R218 states. -/
def State.cutCopy (s : State) (port : Nat) : State :=
  match s.sending port with
  | none => s
  | some c =>
    let s := (s.setSending port none).clearWire port
    let s := s.count (if port < 56 then Reg.T1S_Ss_CNTk (port - 48) 9 else Reg.ETH_Pq_CNTk (port - 56) 10)
    if s.ethState port = 6 then s.dropCopy c 10 0x05 else s.dropCopy c 11 0x0D

/-- What the PCS reports when a link drops. DESIGN CHOICE: auto-negotiation is no longer complete; HI_BER stands only where it is
the cause; the FEC has lost its alignment unless HI_BER or a restarted negotiation is the cause; SPEED keeps the speed resolved
last. -/
def State.linkReports (s : State) (q cause : Nat) : State :=
  let s := (s.put (Fld.ETH_Pq_STATUS_AN_DONE q) 0).put (Fld.ETH_Pq_STATUS_HI_BER q) (b2n (cause == 1))
  if cause = 0 ∨ cause = 3 then s.put (Fld.ETH_Pq_STATUS_FEC_LOCK q) 0 else s

/-- The link of a lane or of the management port drops: 0 signal lost, 1 HI_BER, 2 auto-negotiation restarted,
3 configuration change. -/
def State.linkDown (s : State) (port cause : Nat) (lost : Bool := false) : State :=
  if s.ethState port = 2 then
    let s := ((s.setEthState port 1 lost).cutCopy port).linkReports (port - 56) cause
    s.raise 0x0902 (unitOf 1 port) [n4 cause]
  else s

/-- A frame has left the wire: a link that waited for it drops (R217). -/
def State.wireEnds (s : State) (port : Nat) : State :=
  let s := s.clearWire port
  if SMap.get false s.eth.retrain port then s.linkDown port 3 else s

/-- The configuration of a port that is in force, followed by its state: OFF, DOWN while its domain is isolated, else TRAINING, or
UP for T1S. `changed`: PCS, FEC or the speed changed on an enabled port. -/
def State.ethFollow (s : State) (port : Nat) (changed : Bool) : State :=
  let st := s.ethState port
  let s := if !s.ethEn port then (s.setEthState port 0).cutCopy port
    else if s.isolated (domainOf port) then s.setEthState port 6
    else if port < 56 then s.setEthState port 2
    else if st = 0 ∨ st = 6 then s.setEthState port 1
    else if st = 2 ∧ s.lsecHolds port then s.linkDown port 0
    else if st = 2 ∧ changed then
      (if (s.sending port).isSome then
        { s with eth := { s.eth with retrain := SMap.set false s.eth.retrain port true } }
       else s.linkDown port 3)
    else s
  if port < 56 then
    (let s := if s.on (Fld.T1S_Ss_CFG_PLCA_EN (port - 48)) then s else s.plcaLost (port - 48)
     s.showBeaconing (port - 48))
  else s

/-- The domain of a port is isolated: an enabled port is DOWN. -/
def State.ethIsolate (s : State) (port : Nat) : State :=
  let s := if s.ethState port = 0 then s else (s.setEthState port 6).cutCopy port
  if port < 56 then s.showBeaconing (port - 48) else s

/-! ### Frames on the wire (R121, R222) -/

/-- A port's own MAC address. -/
def State.ownMac (s : State) (port : Nat) : Bytes :=
  if port < 56 then
    le 4 (s.liveReg (Reg.T1S_Ss_MAC_LO (port - 48))).toNat ++ le 2 (s.cur (Fld.T1S_Ss_MAC_HI_MAC (port - 48)))
  else le 4 (s.liveReg (Reg.ETH_Pq_MAC_LO (port - 56))).toNat ++ le 2 (s.cur (Fld.ETH_Pq_MAC_HI_MAC (port - 56)))

/-- The tunnel frame of a fabric frame (Table 5.8), from the route's tunnel profile and the egress port's address; `gap`: it
carries SEQ_GAP. -/
def State.tunnel (s : State) (port : Nat) (f : Frame) (w : Wire) (gap : Bool) : Bytes :=
  let r := (f.route.map (·.tun)).getD []
  let da := le 4 (r.getD 0 0) ++ le 2 (r.getD 1 0)
  let vlan := if bit (r.getD 1 0) 16 then be 2 0x8100 ++ be 2 (r.getD 2 0) else []
  let flags := b2n gap + 2 * b2n f.replay + 4 * b2n (f.auth == 1)
  da ++ s.ownMac port ++ vlan ++ be 2 (s.cur Fld.FAB_TUN_ETYPE_ETYPE) ++
  be 1 1 ++ be 1 (formatOf w) ++ be 1 f.ingress ++ be 1 flags ++ be 2 (s.cur Fld.FAB_UNIT_TAG_TAG) ++ be 2 f.fseq ++
  be 8 f.stamp ++ be 4 (idWord w) ++ be 2 w.data.length ++ be 2 0 ++ (if w.kind = 2 then be 4 w.af else []) ++ w.data

/-- The frame as its MAC sends it, before padding and protection, and the copy with the SEQ_GAP that it carries: a tunnel frame
takes the flow's mark with it, and keeps it through a retry (R135). -/
def State.ethBytes (s : State) (port : Nat) (f : Frame) (c : Copy) : Bytes × Copy × State :=
  if c.wire.kind = 3 ∨ c.wire.kind = 4 then (c.wire.data, c, s)
  else
    let gap := s.gapped f.flow || c.gap
    (s.tunnel port f c.wire gap, { c with gap := gap }, s.clearGap f.flow)

/-- Bytes on an Ethernet-type medium. -/
def ethWire (port : Nat) (d : Bytes) : Wire :=
  { kind := portKind 0 port, ide := false, brs := false, rtr := false, esi := false, id := 0, af := 0, data := d }

/-- The bits on a CAN bus: an FD payload padded to its DLC with PAD, ESI from the port's error state (R165, Table 7.1). -/
def State.onBus (s : State) (n : Nat) (w : Wire) : Wire :=
  let w := { w with id := if w.kind < 2 then idSent w.ide w.id else w.id }
  if w.kind = 1 then
    { w with data := padTo (fdSize w.data.length) (s.padByte n) w.data, esi := s.get (Fld.CANP_STATUS_STATE n) == 3 }
  else w

/-! ### The link cipher (R223-R230; IEEE 802.1AE-2018) -/

/-- EtherTypes of EAPOL, PTP and MACsec. -/
def etherEapol : Nat := 0x888E
def etherPtp : Nat := 0x88F7
def etherMacsec : Nat := 0x88E5

/-- The UDP destination port of an IPv4 or IPv6 packet, where it is one. -/
def udpPort (d : Bytes) : Option Nat :=
  let b := etherBody d
  if etherType d = 0x0800 ∧ b.getD 9 0#8 = 17#8 then
    some (unBe ((b.drop (4 * ((b.getD 0 0#8).toNat % 16) + 2)).take 2))
  else if etherType d = 0x86DD ∧ b.getD 6 0#8 = 17#8 then some (unBe ((b.drop 42).take 2))
  else none

/-- The PTP port of a logical port. -/
def ptpOf (port : Nat) : Nat := if port < 56 then port - 48 + 4 else if port < 60 then port - 56 else 12

/-- Is a frame a PTP frame on a port: by its EtherType, or under the UDP transport by its UDP port (R221)? -/
def State.ptpFrame (s : State) (port : Nat) (d : Bytes) : Bool :=
  etherType d == etherPtp ||
    (s.cur (Fld.TIME_PORTp_TRANSPORT (ptpOf port)) != 0 && (udpPort d == some 319 || udpPort d == some 320))

/-- The words of a key or salt register array as bytes. -/
def State.keyWords (s : State) (n : Nat) (reg : Nat → Nat) : Bytes := (List.range n).flatMap fun i => le 4 (s.w (reg i))

/-- The key length and the packet numbering of a lane's suite. -/
def State.sakLen (s : State) (l : Nat) : Nat := if s.cur (Fld.LSEC_Ll_CTRL_SUITE l) % 2 = 1 then 8 else 4
def State.xpn (s : State) (l : Nat) : Bool := decide (2 ≤ s.cur (Fld.LSEC_Ll_CTRL_SUITE l))

/-- The largest PN of a lane's suite. -/
def State.maxPn (s : State) (l : Nat) : Nat := if s.xpn l then 2 ^ 64 - 1 else 2 ^ 32 - 1

/-- A packet number in force moves on; the register shows it unless a write of it waits for its commit slot (R217). -/
def State.setPn (s : State) (off v : Nat) : State :=
  let s := (s.setLive off (BitVec.ofNat 32 v)).setLive (off + 4) (BitVec.ofNat 32 (v / 2 ^ 32))
  if s.paced.contains off || s.paced.contains (off + 4) then s else s.setReg64 off v

/-- The initialisation vector: SCI and PN, or under XPN the SSCI and PN whitened by the salt. -/
def secIv (xpn : Bool) (sci ssci pn : Nat) (salt : Bytes) : Bytes :=
  if xpn then xorBytes (be 4 ssci ++ be 8 pn) salt else be 8 sci ++ be 4 (pn % 2 ^ 32)

/-- The confidentiality offset in bytes. -/
def confBytes (code : Nat) : Nat := if code = 1 then 30 else if code = 2 then 50 else 0

/-- A protected frame: addresses, SecTAG, secured data, ICV. -/
def secProtect (p : SecPlan) (data : Bytes) : Bytes :=
  let head := data.take 12 ++ p.tag
  let user := data.drop 12
  let clear := if p.conf then user.take p.ofs else user
  let rest := user.drop clear.length
  let cipher := gcmCrypt p.key p.iv rest
  head ++ clear ++ cipher ++ gcmTag p.key p.iv (head ++ clear) cipher

/-- The SecTAG of a frame. -/
def secTag (conf : Bool) (sci : Option Nat) (an pn userLen : Nat) : Bytes :=
  be 2 etherMacsec ++ be 1 ((if sci.isSome then 32 else 0) + (if conf then 12 else 0) + an) ++
  be 1 (if userLen < 48 then userLen else 0) ++ be 4 (pn % 2 ^ 32) ++
  (match sci with | some v => be 8 v | none => [])

/-- Does a frame leave, and enter, a lane in clear beside the SAs: EAPOL, and PTP where it bypasses (R226, R229)? -/
def State.secBypass (s : State) (l : Nat) (data : Bytes) : Bool :=
  etherType data == etherEapol || (s.ptpFrame (56 + l) data && s.on (Fld.LSEC_Ll_CTRL_PTP_BYPASS l))

/-- How a lane protects a frame. -/
inductive SecTx where
  | clear
  | secured (p : SecPlan)
  | refused (counter : Nat)
  deriving DecidableEq, Repr

/-- A frame takes the next packet number of a lane's transmit SA (R226, R227); `userLen`: its bytes behind the addresses. -/
def State.secTake (s : State) (l userLen : Nat) : SecTx × State :=
  let a := s.cur (Fld.LSEC_Ll_CTRL_TX_AN l)
  if s.cur (Fld.LSEC_TXSA_CTRL_VALID l a) = 0 then (.refused 2, s)
  else if s.get (Fld.LSEC_TXSA_CTRL_EXHAUSTED l a) = 1 then (.refused 3, s)
  else
    let pn := s.live64 (Reg.LSEC_TXSA_PN l a)
    let sci := s.live64 (Reg.LSEC_Ll_SCI l)
    let conf := s.on (Fld.LSEC_Ll_CTRL_CONF l)
    let p : SecPlan :=
      { key := s.keyWords (s.sakLen l) (Reg.LSEC_TXSA_KEY l a),
        iv := secIv (s.xpn l) sci (s.liveReg (Reg.LSEC_TXSA_SSCI l a)).toNat pn (s.keyWords 3 (Reg.LSEC_TXSA_SALT l a)),
        tag := secTag conf (if s.on (Fld.LSEC_Ll_CTRL_INCLUDE_SCI l) then some sci else none) a pn userLen,
        conf := conf, ofs := confBytes (s.cur (Fld.LSEC_Ll_CTRL_CONF_OFS l)), an := a, pn := pn }
    let s := s.setPn (Reg.LSEC_TXSA_PN l a) (pn + 1)
    let s := if s.live64 (Reg.LSEC_Ll_PN_THR l) ≤ pn + 1 ∧ s.eth.told.contains (4 * l + a) = false then
        ({ s with eth := { s.eth with told := (4 * l + a) :: s.eth.told } }).raise 0x0D01 (unitOf 1 (56 + l)) [n4 l, n4 a, n8 (pn + 1)]
      else s
    let s := if s.maxPn l ≤ pn then
        (s.put (Fld.LSEC_TXSA_CTRL_EXHAUSTED l a) 1).raise 0x0D02 (unitOf 1 (56 + l)) [n4 l, n4 a]
      else s
    (.secured p, s)

/-- A fresh SA begins on an AN with its KEY0: it is not VALID, not EXHAUSTED, and its threshold is still to be told (R224,
R227). -/
def State.secFresh (s : State) (l a : Nat) : State :=
  let s := (s.putBoth (Fld.LSEC_TXSA_CTRL_VALID l a) 0).put (Fld.LSEC_TXSA_CTRL_EXHAUSTED l a) 0
  { s with eth := { s.eth with told := s.eth.told.filter (· != 4 * l + a) } }

/-- Is a lane's transmitter protected? -/
def State.secOn (s : State) (port : Nat) : Bool :=
  decide (56 ≤ port ∧ port < 60) && s.on (Fld.LSEC_Ll_CTRL_TX_EN (port - 56))

/-- How a frame leaves a port; `bypass`: it goes in clear beside the SAs. -/
def State.secSend (s : State) (port : Nat) (bypass : Bool) (userLen : Nat) : SecTx × State :=
  if s.secOn port && !bypass then s.secTake (port - 56) userLen else (.clear, s)

/-- The mark of a frame on the wire, for the counters at its end: 1 protected, 2 in clear beside SAs, 0 neither. -/
def SecTx.mark (x : SecTx) (secOn : Bool) : Nat :=
  match x with
  | .secured _ => 1
  | _ => if secOn then 2 else 0

/-- A frame has left with a correct FCS: TX_OK, and what the link cipher counts of it (Tables 9.8, 9.11, 9.14). -/
def State.countSent (s : State) (port mark : Nat) : State :=
  let s := s.countEth port 8 (some 3)
  if mark = 1 then s.count (Reg.LSEC_Ll_CNTk (port - 56) 0)
  else if mark = 2 then s.count (Reg.LSEC_Ll_CNTk (port - 56) 1)
  else s

/-- The full packet number of a received frame, near the lowest acceptable one. -/
def fullPn (xpn : Bool) (lowest pn32 : Nat) : Nat :=
  if xpn then
    let up := lowest / 2 ^ 32
    if bit lowest 31 ∧ ¬bit pn32 31 then (up + 1) * 2 ^ 32 + pn32 else up * 2 ^ 32 + pn32
  else pn32

/-- The VALID receive channel of a frame: by its SCI, or the only one. -/
def State.secChannel (s : State) (l : Nat) (sci : Option Nat) : Option Nat :=
  let valid := (List.range 8).filter fun c => s.on (Fld.LSEC_RXSC_CTRL_VALID l c)
  match sci with
  | some v => valid.find? fun c => s.live64 (Reg.LSEC_RXSC_SCI l c) == v
  | none => match valid with
    | [c] => some c
    | _ => none

/-- A received frame passes a lane's receive channels: the frame with SecTAG and ICV removed, or none where it is
discarded. A SecTAG with E 1 and C 0 is kept from the SecY, and the part has no other user of it. -/
def State.secReceive (s : State) (l : Nat) (data : Bytes) : Option Bytes × State :=
  let strict := s.cur (Fld.LSEC_Ll_CTRL_VALIDATE l) = 2
  let cnt := fun (s : State) (k : Nat) => s.count (Reg.LSEC_Ll_CNTk l k)
  if unBe ((data.drop 12).take 2) ≠ etherMacsec then
    if s.secBypass l data then (some data, s)
    else (if strict then none else some data, cnt s 5)
  else
    let tci := unBe ((data.drop 14).take 1)
    let sc := bit tci 5
    let c := bit tci 2
    let sl := unBe ((data.drop 15).take 1)
    let head := if sc then 28 else 20
    let pn32 := unBe ((data.drop 16).take 4)
    if bit tci 7 ∨ (bit tci 3 = true ∧ c = false) ∨ pn32 = 0 ∧ s.xpn l = false ∨ data.length < head + 16 then (none, s)
    else
      let body := data.drop head
      let len := if sl = 0 then body.length - 16 else min sl (body.length - 16)
      let secured := body.take len
      let icv := (body.drop len).take 16
      let bare := data.take 12 ++ secured
      if s.cur (Fld.LSEC_Ll_CTRL_VALIDATE l) = 0 then (if c then none else some bare, s)
      else
        let a := tci % 4
        let sci := if sc then some (unBe ((data.drop 20).take 8)) else none
        match (s.secChannel l sci).filter fun ch => s.on (Fld.LSEC_RXSA_CTRL_VALID l ch a) with
        | none => (if strict ∨ c then none else some bare, cnt s 6)
        | some ch =>
          let lowest := s.live64 (Reg.LSEC_RXSA_PN l ch a)
          let pn := fullPn (s.xpn l) lowest pn32
          let late : Bool := s.on (Fld.LSEC_Ll_CTRL_REPLAY_PROT l) && decide (pn < lowest)
          if late then (none, cnt s 8)
          else
            let key := s.keyWords (s.sakLen l) (Reg.LSEC_RXSA_KEY l ch a)
            let iv := secIv (s.xpn l) (s.live64 (Reg.LSEC_RXSC_SCI l ch)) (s.liveReg (Reg.LSEC_RXSA_SSCI l ch a)).toNat pn
              (s.keyWords 3 (Reg.LSEC_RXSA_SALT l ch a))
            let ofs := if c then confBytes (s.cur (Fld.LSEC_Ll_CTRL_CONF_OFS l)) else secured.length
            let clear := secured.take ofs
            let cipher := secured.drop ofs
            if gcmTag key iv (data.take head ++ clear) cipher = icv then
              let low := max lowest (pn + 1 - (s.liveReg (Reg.LSEC_Ll_REPLAY_WIN l)).toNat)
              (some (data.take 12 ++ clear ++ gcmCrypt key iv cipher), cnt (s.setPn (Reg.LSEC_RXSA_PN l ch a) low) 4)
            else (if strict ∨ c then none else some bare, cnt s 7)

/-! ### The time unit's own frames (R49, R50, R226) -/

/-- A frame of the time unit leaves a port: through the lane's transmit SA, or in clear where PTP bypasses it; one that the SA
refuses is dropped and counted. `out`: the frame, with the AN and PN that protect it. -/
def State.ptpLeaves (s : State) (port : Nat) (out : Option (Nat × Nat) → Output) : State :=
  let (x, s) := s.secSend port (s.on (Fld.LSEC_Ll_CTRL_PTP_BYPASS (port - 56))) 48
  match x with
  | .refused k => s.count (Reg.LSEC_Ll_CNTk (port - 56) k)
  | .clear => ((s.emit (out none)).countSent port (SecTx.clear.mark (s.secOn port))).observePort port
  | .secured p => ((s.emit (out (some (p.an, p.pn)))).countSent port 1).observePort port

/-- A PTP message that the time unit sends. -/
def State.ptpSend (s : State) (port kind : Nat) (time : Int) (fields : List Nat) : State :=
  s.ptpLeaves port fun sec => .ptp port kind time fields sec

end Sys2Proof.Machine
end

