-- ==== Sys2Proof/Machine/RunAhead.lean ====
section
/-! DEFINITION. Run-ahead forwarding: the start of a copy, cancellation, fallback and auto-disable (R142-R157). -/

namespace Sys2Proof.Machine

/-- A frame with no run-ahead copy started. -/
def RaFrame.fresh (route ingress : Nat) : RaFrame :=
  { route := route, ingress := ingress, started := [], completed := [], past := [], valid := false, cancelled := false }

def State.raOf (s : State) (fid : Nat) : Option RaFrame := SMap.look s.ra fid

def State.setRa (s : State) (fid : Nat) (x : RaFrame) : State := { s with ra := SMap.put s.ra fid x }

/-- The cancellations of a history that fall in the 1,000 beats ending with a beat (R156). -/
def recent (beat : Nat) (l : List Nat) : List Nat := l.filter fun b => decide (beat < b + 1000)

/-- One cancellation of a route: the counters, the history, the event; the fourth in 1,000 beats disables run-ahead. -/
def State.raCancelled (s : State) (route ingress reason : Nat) : State :=
  let s := ((s.put Fld.FAB_RA_LAST_ROUTE route).put Fld.FAB_RA_LAST_REASON reason).put Fld.FAB_RA_LAST_INGRESS ingress
  let s := s.put (Fld.FAB_RA_STATj_CANCELS route) (satNat 16 (s.get (Fld.FAB_RA_STATj_CANCELS route) + 1))
  let s := s.raise 0x050A (unitOf 1 ingress) [n4 route, n4 reason, n4 ingress]
  if s.get (Fld.FAB_RA_STATj_DISABLED route) = 1 then s
  else
    let h := recent s.beatIndex (s.beatIndex :: SMap.get [] s.fab.history route)
    let s := { s with fab := { s.fab with history := SMap.set [] s.fab.history route h } }
    let s := s.put (Fld.FAB_RA_STATj_WINDOW route) (min 4 h.length)
    if 4 ≤ h.length then s.raDisable route 1 ingress else s

/-- A beat begins: the windows of the cancellation histories move on. -/
def State.raAge (s : State) : State :=
  s.fab.history.foldl (fun (s : State) (e : Nat × List Nat) =>
    let h := recent s.beatIndex e.2
    let s := { s with fab := { s.fab with history := SMap.set [] s.fab.history e.1 h } }
    s.put (Fld.FAB_RA_STATj_WINDOW e.1) (min 4 h.length)) s

/-! ### A run-ahead copy on an Ethernet-type wire (R150, R230) -/

/-- The bytes with which a copy begins: addresses, SecTAG and data of a protected frame are sent before its length is known. -/
def EthTail.head (t : EthTail) : Bytes :=
  match t.sec with
  | none => t.bytes
  | some p => (secProtect p t.bytes).take (t.bytes.length + p.tag.length)

/-- What follows them in a frame of `len` bytes before protection: the fill of 0x00, and the ICV over the frame as sent. -/
def EthTail.rest (t : EthTail) (len : Nat) : Bytes :=
  let whole := padTo len 0#8 t.bytes
  match t.sec with
  | none => whole.drop t.bytes.length
  | some p => (secProtect p whole).drop (t.bytes.length + p.tag.length)

/-- The length before protection that a copy reaches when its fill ends now: what the wire has carried at the port's rate, within
60 bytes and the 2,116th byte after the SFD. DESIGN CHOICE: a byte begun is finished. -/
def State.fillLen (s : State) (port : Nat) (t : EthTail) : Nat :=
  let tag := match t.sec with
    | none => 0
    | some p => p.tag.length
  let sent := ((s.time.now - t.start) * s.ethMbit port + 7999) / 8000 - 8 - tag
  max (max 60 t.bytes.length) (min 2116 sent)

/-- The ingress verdict is known: the fill of a copy ends. -/
def State.fillEnds (s : State) (port : Nat) : State :=
  match SMap.look s.eth.tails port with
  | none => s
  | some t => { s with eth := { s.eth with tails := SMap.put s.eth.tails port { t with len := some (t.len.getD (s.fillLen port t)) } } }

/-- The rest of a run-ahead copy leaves. -/
def State.tailLeaves (s : State) (port : Nat) : State :=
  match SMap.look s.eth.tails port with
  | none => s
  | some t => s.emit (.frameTail port (t.rest (t.len.getD (s.fillLen port t))))

/-- Destroy a copy in transmission: a CAN error flag, or an inverted FCS (R148, R150). It leaves TX and TEC alone. -/
def State.destroyCopy (s : State) (port : Nat) (c : Copy) : State :=
  if port < 48 then
    (((s.emit (.errorFlag port)).setCan port { s.canOf port with silent := true }).setSending port none).copyFinal c.fid port noCode 0 true
  else
    let s := ((s.tailLeaves port).emit (.frameEnd port true)).count
      (if port < 56 then Reg.T1S_Ss_CNTk (port - 48) 4 else Reg.ETH_Pq_CNTk (port - 56) 9)
    ((s.setSending port none).copyFinal c.fid port noCode 0 true).wireEnds port

/-- The copies of a frame in transmission ahead of their verdicts. -/
def State.aheadCopies (s : State) (fid : Nat) : List (Nat × Copy) :=
  s.fab.sending.filter fun e => e.2.fid == fid && e.2.ahead

/-- The waiting copies of a frame are dropped, without a port's counter. -/
def State.dropWaiting (s : State) (fid : Nat) : State :=
  let (cs, s) := s.withdraw fid
  cs.foldl (fun (s : State) (c : Copy) => s.copyFinal fid c.port noCode 0 true) s

/-- The internal copies of a frame receive nothing. -/
def State.dropInternal (s : State) (fid : Nat) : State :=
  match s.frame? fid with
  | none => s
  | some f => (f.opened.filter (77 ≤ ·)).foldl (fun (s : State) p => s.copyFinal fid p noCode 0 true) s

/-- Cancel copies of a frame: the listed ones in progress are destroyed, those not started dropped, the internal ports
receive nothing; the frame counts once in FAB_RA_ABORT_CNT and as one cancellation (R151). -/
def State.raCancel (s : State) (fid reason : Nat) (copies : List (Nat × Copy)) : State :=
  match s.raOf fid with
  | none => s
  | some x =>
    let first := !x.cancelled
    let s := s.setRa fid { x with cancelled := true }
    let s := copies.foldl (fun (s : State) (e : Nat × Copy) => s.destroyCopy e.1 e.2) s
    let s := (s.dropWaiting fid).dropInternal fid
    if first then (s.count Reg.FAB_RA_ABORT_CNT).raCancelled x.route x.ingress reason else s

/-- No authentication verdict of a frame is awaited any more. -/
def State.noVerdict (s : State) (fid : Nat) : State :=
  match s.frame? fid with
  | some f => if f.auth = 3 then s.setFrame fid { f with auth := 0 } else s
  | none => s

/-- A failing ingress verdict for a frame in packet memory (R146): its copies in progress are cancelled; where none is,
the frame is dropped without a cancellation (R155). -/
def State.raFail (s : State) (fid reason : Nat) : State :=
  let s := s.noVerdict fid
  (match s.aheadCopies fid with
   | [] => ((s.lose fid).dropWaiting fid).dropInternal fid
   | cs => s.raCancel fid reason cs).settle fid

/-- The frame arriving on a port is destroyed before its validity point. -/
def State.arrivalFail (s : State) (port reason : Nat) : State :=
  match SMap.look s.fab.arrivals port with
  | none => s
  | some a =>
    let s := { s with fab := { s.fab with arrivals := SMap.del s.fab.arrivals port } }
    match a.fid with
    | none => s
    | some fid => s.raFail fid reason

/-- Is every earlier frame of a route's flow for a port out of the way: no other copy of the flow waits for the port, in any
class (R134, R143)? -/
def State.flowClear (s : State) (route port : Nat) (fid : Option Nat) : Bool :=
  [0, 1, 2, 3, 4, 5, 6, 7].all fun c => (s.queue port c).all fun (x : Copy) =>
    some x.fid == fid || (match s.frame? x.fid with
      | some f => f.route.isNone || f.flow != route * 64
      | none => true)

/-- Could a copy of class `cls` start ahead on the port now (R143), besides its place in the queue? -/
def State.raPortReady (s : State) (route port cls : Nat) (fid : Option Nat) : Bool :=
  s.get (Fld.FAB_RA_STATj_ACTIVE route) == 1 && s.claimed && (!s.hal.yielding || decide (56 ≤ port)) && s.domain (domainOf port) == 2 &&
  (s.sending port).isNone && s.flowClear route port fid &&
  ([7, 6, 5, 4, 3, 2, 1, 0].filter (cls < ·)).all (fun c => ((s.queue port c).head?.map (·.ready)) != some true) &&
  (if port < 48 then
    s.get (Fld.CANP_STATUS_STATE port) == 2 && !s.on (Fld.CANP_MODE_LISTEN port) && !(s.canOf port).excepted &&
    (s.reefOf port).txWake == .none &&
    [0, 1, 2, 3, 4, 5, 6, 7].all (fun c => (s.queue port c).all (fun e => !e.held))
   else if port < 56 then
    s.get (Fld.T1S_Ss_STATUS_STATE (port - 48)) == 2 && !s.released port && decide (0 < s.opportunity port)
   else s.get (Fld.ETH_Pq_STATUS_STATE (port - 56)) == 2)

/-- The format of a CAN frame for the duration rule. -/
def fmtOf (w : Wire) : Fmt := (w.kind, w.ide, w.brs)

/-- The start offset of a CAN copy in cycles of the 160 MHz clock: the least delay after which each payload byte is sent no earlier
than 0.5 µs after its reception, for `n` payload bytes (R142). DESIGN CHOICE: of the stuff bits of R141, the model lays any number
from none to one in four bits before a byte on the egress, and two more on the ingress up to its end. -/
def startOffset (fi fe : Fmt) (bi be : Nat × Nat) (n : Nat) : Nat :=
  ((List.range n).flatMap fun k => [0, 2 * k].map fun st =>
    (dataCycles fi bi (k + 1) (st + 2) + 80) - (headCycles fe be + dataCycles fe be k st)).foldl max 0

/-- Is the start point of R142 reached: on CAN the end of the lookup and the start offset, on an Ethernet-type port the end of the
ingress data field? DESIGN CHOICE: the lookup takes no time of its own, and the data field is reckoned without its stuff bits. -/
def State.raTime (s : State) (a : Arrival) (r : Route) (ingress egress : Nat) : Bool :=
  let bi := s.canBits ingress
  let n := a.wire.data.length
  let wait := if egress < 48 then startOffset (fmtOf a.wire) (fmtOf (s.translate r a.wire egress)) bi (s.canBits egress) n
    else dataCycles (fmtOf a.wire) bi n 0
  decide (a.at_ * 4 + wait * 25 ≤ s.time.now * 4)

/-- A frame begins on a CAN bus: the error flag of an aborted copy is over. -/
def State.frameBegins (s : State) (n : Nat) : State :=
  if (s.canOf n).silent then s.setCan n { s.canOf n with silent := false } else s

/-- The head of a queue leaves ahead of its verdicts: on CAN as its bus shows it, on an Ethernet-type port as a tunnel frame,
protected where the lane is (R144, R150, R230). -/
def State.raSend (s : State) (fid ingress egress cls route : Nat) (c : Copy) : State :=
  let x := (s.raOf fid).getD (RaFrame.fresh route ingress)
  let go := fun (s : State) (c : Copy) =>
    let s := s.setRa fid { x with started := x.started ++ [egress] }
    let s := s.startCopy egress cls { c with ahead := true, attempts := 1 }
    s.count Reg.FAB_RA_START_CNT
  if egress < 48 then (go (s.frameBegins egress) c).emit (.frameStart egress (s.onBus egress c.wire) true)
  else
    match s.frame? fid with
    | none => s
    | some f =>
      let (bytes, c, s1) := s.ethBytes egress f c
      let (x, s1) := s1.secSend egress (s1.secBypass (egress - 56) bytes) (max 48 (bytes.length - 12))
      match x with
      | .refused k =>
        (((s.setQueue egress cls ((s.queue egress cls).drop 1)).count (Reg.LSEC_Ll_CNTk (egress - 56) k)).copyFinal fid egress noCode 0 true)
      | _ =>
        let t : EthTail := { start := s1.time.now, bytes := bytes, sec := (match x with | .secured p => some p | _ => none), len := none }
        let s := go s1 c
        let s := s.setOpportunity egress (s.opportunity egress - 1)
        let s := { s with eth := { s.eth with tails := SMap.put s.eth.tails egress t,
                                              txSa := SMap.set 0 s.eth.txSa egress (x.mark (s.secOn egress)) } }
        s.emit (.frameStart egress (ethWire egress t.head) true)

/-- A run-ahead copy starts: the frame is admitted if it is not yet in packet memory, and the copy leaves its queue's head ahead of
its verdicts; `bad`: queues found with differing pointers (R132). -/
def State.raStart (s : State) (ingress egress : Nat) (bad : List (Nat × Nat)) : State :=
  match SMap.look s.fab.arrivals ingress with
  | none => s
  | some a =>
    match a.looked with
    | .miss => s
    | .route r =>
      if a.rejected || a.gone || !(r.runAhead && r.external.contains egress && s.raPortReady r.index egress r.cls a.fid &&
          s.raTime a r ingress egress) then s
      else
        let s := s.resetQueues bad
        let (a, s) :=
          if a.fid.isNone ∧ s.queue egress r.cls = [] then
            (let (fid, s) := s.admitWith true { ingress := ingress, wire := a.wire, stamp := a.stamp, dur := none, replay := false,
                                                woken := false, outWin := false, host := none, mkey := a.stamp } a.looked
             ({ a with fid := fid, gone := fid.isNone }, s))
          else (a, s)
        let s := { s with fab := { s.fab with arrivals := SMap.put s.fab.arrivals ingress a } }
        match a.fid, s.queue egress r.cls with
        | some fid, c :: _ => if c.fid = fid ∧ c.attempts = 0 then s.raSend fid ingress egress r.cls r.index c else s
        | _, _ => s

/-- A copy in transmission has reached its abort deadline: with the ingress verdict unknown it is cancelled with LATE
(R147); otherwise, on an AFA_CHECK route, it completes provisionally (R152). -/
def State.raDeadline (s : State) (egress : Nat) : State :=
  match s.sending egress with
  | none => s
  | some c =>
    match s.raOf c.fid with
    | none => s
    | some x =>
      if !c.ahead then s
      else if x.valid then s.setRa c.fid { x with past := x.past ++ [egress] }
      else s.raCancel c.fid 4 [(egress, c)]

/-- A CAN copy that ran ahead lost arbitration or met an egress error: it waits for its verdicts at the head of its queue
(R155). -/
def State.raFallback (s : State) (port : Nat) (c : Copy) : State :=
  let known := match s.raOf c.fid with
    | some x => x.valid && ((s.frame? c.fid).map (fun f => f.auth != 3)).getD false
    | none => true
  (s.count Reg.FAB_RA_FALLBACK_CNT).requeue port { c with ahead := false, ready := known }

end Sys2Proof.Machine
end

