-- ==== Sys2Proof/Machine/CanOps.lean ====
section
/-! DEFINITION. The CAN ports' shared operations: states, error counters, bus-off, modes, bit timing, acceptance and the
outcomes of an attempt (R164-R188, Tables 7.4-7.6), with the Reef states that follow a port's state (Table 8.1). -/

namespace Sys2Proof.Machine

/-! ### Reef states that follow the port -/

/-- Write a port's Reef state; REEF_SLEEP_MAP shows SLEEP and WAKING. A port that leaves AWAKE keeps the awake time that
it reached (R201). -/
def State.setReefState (s : State) (n st : Nat) : State :=
  let ms := if s.on (Fld.REEF_PORTn_CFG_FORCE_AWAKE n) then 0 else (s.time.now - (s.reefOf n).awakeFrom) / 1000000
  let s := if s.get (Fld.REEF_PORTn_STAT_STATE n) = 1 ∧ st ≠ 1 then
      s.setReg (Reg.REEF_PORTn_AWAKE n) (BitVec.ofNat 32 (satNat 32 ms))
    else s
  let s := s.put (Fld.REEF_PORTn_STAT_STATE n) st
  let b := b2n (st == 2 || st == 3)
  if n < 32 then
    s.setReg Reg.REEF_SLEEP_MAP0 (BitVec.ofNat 32 (setBits (s.w Reg.REEF_SLEEP_MAP0) n n b))
  else s.setReg Reg.REEF_SLEEP_MAP1 (BitVec.ofNat 32 (setBits (s.w Reg.REEF_SLEEP_MAP1) (n - 32) (n - 32) b))

/-- A port enters AWAKE: its awake time starts, its idle timer restarts and its keeper table is cleared (R200, R201). -/
def State.reefAwake (s : State) (n : Nat) : State :=
  let t := s.time.now
  let s := s.setReefState n 1
  (s.setReef n { s.reefOf n with restart := t, awakeFrom := t, insom := 0 }).keeperClear n

/-- A port becomes UNMANAGED. -/
def State.reefUnmanaged (s : State) (n : Nat) : State :=
  let s := s.setReefState n 0
  s.setReef n { s.reefOf n with capturing := false, woke := false, txWake := .none }

/-! ### Port states (Table 7.5) -/

def State.canState (s : State) (n : Nat) : Nat := s.get (Fld.CANP_STATUS_STATE n)

/-- May the transmitter drive (R186)? -/
def State.canDrives (s : State) (n : Nat) : Bool :=
  (s.canState n == 2 || s.canState n == 3) && !s.on (Fld.CANP_MODE_LISTEN n) && s.claimed

/-- CANP_STATUS.TX_ENABLED shows R186. -/
def State.canShow (s : State) (n : Nat) : State := s.put (Fld.CANP_STATUS_TX_ENABLED n) (b2n (s.canDrives n))

def State.setTec (s : State) (n v : Nat) : State := s.put (Fld.CANP_ECNT_TEC n) v
def State.setRec (s : State) (n v : Nat) : State := s.put (Fld.CANP_ECNT_REC n) (min 255 v)

/-- A port changes state: its word, its transmitter, its queues' HELD bits, its muster spans and its Reef state follow.
TEC and REC are 0 when it enters INTEGRATING from OFF, SLEEP or DOWN (R172). -/
def State.setCanState (s : State) (n st : Nat) (lost : Bool := false) : State :=
  let old := s.canState n
  let s := s.put (Fld.CANP_STATUS_STATE n) st
  let s := if st = 1 ∧ (old = 0 ∨ old = 5 ∨ old = 6) then (s.setTec n 0).setRec n 0 else s
  let s := s.message (unitOf 1 n) st lost
  let s := if musterVoid old ∨ musterVoid st then s.musterMark n else s
  let s := if (st = 0 ∨ st = 6) ∧ s.get (Fld.REEF_PORTn_STAT_STATE n) ≠ 0 then s.reefUnmanaged n
    else if (old = 0 ∨ old = 6) ∧ st ≠ 0 ∧ st ≠ 6 ∧ s.on (Fld.REEF_PORTn_CFG_SLEEP_EN n) then s.reefAwake n
    else s
  let s := if st = 2 then s.setReef n { s.reefOf n with capturing := false } else s
  -- a state that begins anew waits for no timing (R170) and for no end of a protocol exception (R163)
  let s := if st = 2 ∨ st = 3 ∨ st = 4 then s
    else s.setCan n { s.canOf n with integrateAfter := false, excepted := false, silent := false }
  (s.canShow n).showQueues n

/-! ### Bus-off (R136, R180-R182) -/

/-- A queue of a port that enters BUS_OFF keeps HOLD frames; the rest are dropped. -/
def State.holdCut (s : State) (n cls : Nat) : State :=
  let q := s.queue n cls
  let hold := s.cur (Fld.FAB_QCFGp_c_HOLD n cls)
  if q.length ≤ hold then s
  else
    let s := s.setQueue n cls (q.take hold)
    let s := (q.drop hold).foldl (fun (s : State) (c : Copy) => s.dropCopy c 9 0x04) s
    s.raiseOnce (0x0507 * 65536 * 8 + 8 * n + cls) 0x0507 (unitOf 1 n) [n4 n, n4 cls]

/-- Entry into BUS_OFF, with the count of recessive sequences from 0. -/
def State.busOff (s : State) (n : Nat) (lost : Bool := false) : State :=
  let s := ((s.setCanState n 4 lost).put (Fld.CANP_STATUS_BOFF_PENDING n) 1).put (Fld.CANP_STATUS_BOFF_SEQ n) 0
  let s := (s.setCan n { s.canOf n with boffAt := s.time.now }).count (Reg.CANP_CNTk n 7)
  let s := (List.range 8).foldl (fun (s : State) c => s.holdCut n c) s
  s.raise 0x0703 (unitOf 1 n) [n4 (s.get (Fld.CANP_LAST_ERR_CODE n)), n4 (s.get (Fld.CANP_ECNT_TEC n))]

/-- The held frames of a port that returns leave ahead of frames queued later. -/
def State.markHeld (s : State) (n : Nat) : State :=
  let onQ := fun (e : Nat × List Copy) =>
    if e.1 / 8 = n then (e.1, e.2.map fun (c : Copy) => { c with held := true }) else e
  { s with fab := { s.fab with queues := s.fab.queues.map onQ } }

/-- Sequences of 11 recessive bits are seen on a bus-off port: CANP_STATUS.BOFF_SEQ counts them, and the 128th takes the port back
to ACTIVE with TEC and REC 0 (R180, R181). -/
def State.busOn (s : State) (n seqs : Nat) : State :=
  let seq := min 128 (s.get (Fld.CANP_STATUS_BOFF_SEQ n) + seqs)
  let s := s.put (Fld.CANP_STATUS_BOFF_SEQ n) seq
  if seq < 128 then s
  else
  let since := (s.canOf n).boffAt
  let s := (s.setTec n 0).setRec n 0
  let s := (s.put (Fld.CANP_STATUS_BOFF_PENDING n) 0).markHeld n
  (s.setCanState n 2).raise 0x0704 (unitOf 1 n) [n8 (s.time.now - since)]

/-- TEC and REC decide between ACTIVE, PASSIVE and BUS_OFF. -/
def State.errorState (s : State) (n : Nat) (lost : Bool := false) : State :=
  let tec := s.get (Fld.CANP_ECNT_TEC n)
  let rec_ := s.get (Fld.CANP_ECNT_REC n)
  let st := s.canState n
  let passive := 127 < tec ∨ 127 < rec_
  if (st = 2 ∨ st = 3) ∧ 255 < tec then s.busOff n lost
  else if st = 2 ∧ passive then
    (s.setCanState n 3 lost).raiseOnce (0x0701 * 65536 + n) 0x0701 (unitOf 1 n) [n4 tec, n4 rec_]
  else if st = 3 ∧ ¬passive then
    (s.setCanState n 2 lost).raiseOnce (0x0702 * 65536 + n) 0x0702 (unitOf 1 n) [n4 tec, n4 rec_]
  else s

/-- Are TEC and REC frozen (R173, R176)? -/
def State.frozen (s : State) (n : Nat) : Bool := s.on (Fld.CANP_MODE_LISTEN n) || !s.claimed

/-- REC after a valid frame: one less, or a value of 119-127 when it was above 127. -/
def State.recValid (s : State) (n : Nat) : State :=
  let r := s.get (Fld.CANP_ECNT_REC n)
  if s.frozen n then s
  else if 127 < r then
    let (k, s) := s.draw
    s.setRec n (119 + Config.recAfterValid k % 9)
  else s.setRec n (r - 1)

/-- Count a detected error (R180); TEC stands while an aborted copy's error flag is driven (R149). -/
def State.countError (s : State) (n : Nat) (rule : ErrCount) : State :=
  if s.frozen n then s
  else match rule with
    | .receiver => s.setRec n (s.get (Fld.CANP_ECNT_REC n) + 1)
    | .receiverFlag => s.setRec n (s.get (Fld.CANP_ECNT_REC n) + 8)
    | .transmitter =>
      if (s.canOf n).silent then s else s.setTec n (s.get (Fld.CANP_ECNT_TEC n) + 8)
    | .transmitterExempt => s

/-! ### The end of an attempt (Table 7.6) -/

/-- The frame on the bus has ended: timing that waited for it takes the port to INTEGRATING (R170). -/
def State.frameEnds (s : State) (n : Nat) : State :=
  if (s.canOf n).integrateAfter then
    let s := s.setCan n { s.canOf n with integrateAfter := false }
    if s.canState n = 2 ∨ s.canState n = 3 then s.setCanState n 1 else s
  else s

/-- A failed attempt: PORT_DISABLED once the port has stopped retrying (R179), the one-shot outcome, a fallback, or
another try. -/
def State.attemptFails (s : State) (n oneShot : Nat) : State :=
  match s.sending n with
  | none => s
  | some c =>
    let shot : Bool := match s.frame? c.fid with
      | some f => (f.host.map (·.oneShot)).getD false
      | none => false
    if c.last then
      -- its queue has been reset (R177), or its check has failed (R155)
      (if ((s.frame? c.fid).map (·.auth)) = some 2 then (s.setSending n none).copyFinal c.fid n noCode 0 true
       else (s.setSending n none).dropCopy c 8 0x07)
    else if (s.canOf n).noRetry then
      ((s.setSending n none).setCan n { s.canOf n with noRetry := false }).refuseCopy c
    else if shot then (s.setSending n none).copyFinal c.fid n oneShot 0 true
    else if c.ahead then s.raFallback n c
    else s.requeue n c

/-! ### Modes (R174, R179) -/

/-- Every queued copy of a port is refused, and every copy held for it: in its domain's hold queue and in its replay buffer (R174,
R179). -/
def State.refuseQueues (s : State) (n : Nat) : State :=
  let s := (List.range 8).foldl (fun (s : State) cls =>
    let q := s.queue n cls
    q.foldl (fun (s : State) (c : Copy) => s.refuseCopy c) (s.setQueue n cls [])) s
  let d := domainOf n
  let x := s.dom d
  let held := x.hold.filter fun (c : Copy) => c.port == n
  let s := s.setDom d { x with hold := x.hold.filter fun (c : Copy) => c.port != n }
  let rpl := (SMap.get [] s.hal.replay n).map (·.copy)
  let s := { s with hal := { s.hal with replay := SMap.set [] s.hal.replay n [] } }
  (held ++ rpl).foldl (fun (s : State) (c : Copy) => s.refuseCopy c) s

/-- An attempt in progress is the copy's last. -/
def State.lastAttempt (s : State) (n : Nat) : State :=
  if (s.sending n).isSome then s.setCan n { s.canOf n with noRetry := true } else s

/-- EN 0 takes effect: the port is OFF, its queued copies are refused, the frame it receives is destroyed (R146). -/
def State.canOff (s : State) (n : Nat) : State :=
  if s.canState n = 0 then s
  else (((s.lastAttempt n).refuseQueues n).arrivalFail n 2).setCanState n 0

/-- EN 1 takes effect on an OFF port. DESIGN CHOICE: while the port's domain is isolated it is DOWN, the state of an enabled port
without its domain. -/
def State.canOn (s : State) (n : Nat) (lost : Bool := false) : State :=
  if s.canState n = 0 then
    if s.isolated (domainOf n) then s.setCanState n 6 lost
    else if s.get (Fld.CANP_STATUS_BOFF_PENDING n) = 1 then s.busOff n lost
    else s.setCanState n 1 lost
  else s

/-- LISTEN 1 takes effect: nothing more is driven, the queued copies are refused. -/
def State.canListen (s : State) (n : Nat) : State := ((s.lastAttempt n).refuseQueues n).canShow n

/-- The port's domain isolates. -/
def State.canDown (s : State) (n : Nat) (lost : Bool := false) : State :=
  if s.canState n = 0 ∨ s.canState n = 6 then s
  else (s.arrivalFail n 2).setCanState n 6 lost

/-- The port's domain is powered. -/
def State.canUp (s : State) (n : Nat) (lost : Bool := false) : State :=
  if s.canState n = 6 then
    if s.on (Fld.CANP_MODE_EN n) then
      if s.get (Fld.CANP_STATUS_BOFF_PENDING n) = 1 then s.busOff n lost else s.setCanState n 1 lost
    else s.setCanState n 0 lost
  else s

/-! ### Bit timing (R167-R170, Table 7.4) -/

/-- TSEG1, TSEG2 and SJW of a timing register. -/
def tseg1 (v : Nat) : Nat := bits v 15 8 + 1
def tseg2 (v : Nat) : Nat := bits v 22 16 + 1
def sjw (v : Nat) : Nat := bits v 30 24 + 1

/-- The limits of Table 7.4 that all phases share, with the least number of quanta. -/
def tqOk (v least : Nat) : Bool :=
  decide (2 ≤ tseg1 v ∧ sjw v ≤ min (tseg1 v) (tseg2 v) ∧ least ≤ 1 + tseg1 v + tseg2 v)

/-- The CANP_CFG_ERR bits that the staged timing of a port sets. -/
def State.timingErrors (s : State) (n : Nat) : Nat :=
  let nbt := s.w (Reg.CANP_NBT n)
  let dbt := s.w (Reg.CANP_DBT n)
  let xbt := s.w (Reg.CANP_XBT n)
  let kind := s.canKind n
  let nb := bitCycles nbt
  let e0 := !(tqOk nbt 8 && decide (160 ≤ nb ∧ nb ≤ 1280))
  let e1 := decide (1 ≤ kind) && !(tqOk dbt 5 && decide (20 ≤ bitCycles dbt ∧ bitCycles dbt ≤ nb))
  let e2 := decide (2 ≤ kind) && !(tqOk xbt 5 && decide (8 ≤ bitCycles xbt ∧ bitCycles xbt ≤ nb) &&
    (s.on (Fld.CANP_MODE_XL_FAST n) || decide (20 ≤ bitCycles xbt)))
  let e3 := (decide (1 ≤ kind) && decide (bitCycles dbt < 160) && s.get (Fld.CANP_TDC_FD_EN n) == 0) ||
    (decide (2 ≤ kind) && decide (bitCycles xbt < 160) && s.get (Fld.CANP_TDC_XL_EN n) == 0)
  b2n e0 + 2 * b2n e1 + 4 * b2n e2 + 8 * b2n e3

/-- The staged timing is checked, and applied together or rejected; `busy`: a frame is in progress on the bus. -/
def State.timingSet (s : State) (n : Nat) (busy : Bool) : State :=
  if s.cmds.contains (.canTiming n) then
    let s := { s with cmds := s.cmds.filter fun c => c != RegCmd.canTiming n }
    let s := s.put (Fld.CANP_STATUS_TIMING_PENDING n) 0
    let e := s.timingErrors n
    if e ≠ 0 then
      let s := s.orReg (Reg.CANP_CFG_ERR n) e
      s.raise 0x0707 (unitOf 1 n) [n4 (s.w (Reg.CANP_CFG_ERR n))]
    else
      let s := [Reg.CANP_NBT n, Reg.CANP_DBT n, Reg.CANP_XBT n, Reg.CANP_TDC n].foldl
        (fun (s : State) o => s.setLive o (s.reg o)) s
      let st := s.canState n
      let s := if st = 4 then s.put (Fld.CANP_STATUS_BOFF_SEQ n) 0
        else if st = 2 ∨ st = 3 then
          (if busy || (s.sending n).isSome then s.setCan n { s.canOf n with integrateAfter := true } else s.setCanState n 1)
        else s
      s
  else s

/-- Does staged timing or a route commit still wait for the commit slot in progress? -/
def State.ratesWait (s : State) : Bool :=
  s.fab.validated || s.cmds.any fun (c : RegCmd) => match c with
    | .canTiming n => s.domain (domainOf n) == 2
    | _ => false

/-- A single port's timing, where its domain is ON: run-ahead routes are re-checked once all that the slot changes has
changed (R115, R158). -/
def State.timingApply (s : State) (n : Nat) (busy : Bool) : State :=
  if s.cmds.contains (.canTiming n) ∧ s.domain (domainOf n) = 2 then
    let s := s.timingSet n busy
    if s.ratesWait then s else s.raRecheck none
  else s

/-! ### Acceptance (R183, R184) -/

/-- Is a frame rejected by the acceptance entries in force? -/
def State.accRejects (s : State) (n : Nat) (f : Wire) : Bool :=
  let key := canKey f
  let hit := (List.range 128).find? fun e =>
    s.on (Fld.CANP_ACCe_CTRL_VALID n e) &&
    (Nat.xor (s.liveReg (Reg.CANP_ACCe_KEY n e)).toNat key).land (s.liveReg (Reg.CANP_ACCe_MASK n e)).toNat == 0
  match hit with
  | some e => s.on (Fld.CANP_ACCe_CTRL_REJECT n e)
  | none => s.on (Fld.CANP_ACC_CFG_DEFAULT n)

/-- The asymmetry of a port at the instant of an edge: the value in force, or, for an edge before a change, the value before it
(R62). -/
def State.asymAt (s : State) (off edge16 : Nat) : Nat :=
  let later := s.time.asymLog.filter fun (e : Nat × Tai × Word) => e.1 == off && decide (edge16 < 16 * e.2.1)
  match later.getLast? with
  | some e => e.2.2.toNat
  | none => (s.liveReg off).toNat

/-- The stamp of a capture on an external port: the correction in force at the edge, then the grid (R60-R62). -/
def State.stampIn (s : State) (n : Nat) (edge16 : Nat) : Tai :=
  stampOf n ((edge16 : Int) - toSigned 20 (bits (s.asymAt (Reg.TIME_ASYM_INn n) edge16) 19 0))
def State.stampOut (s : State) (n : Nat) (edge16 : Nat) : Tai :=
  stampOf n ((edge16 : Int) + toSigned 20 (bits (s.asymAt (Reg.TIME_ASYM_EGn n) edge16) 19 0))

/-- A frame that the part originates for one CAN port, outside packet memory's blocks. -/
def deviceFrame (origin : Origin) (port cls : Nat) (w : Wire) : Frame :=
  { origin := origin, ingress := 79, wire := w, stamp := 0, dur := none, route := none, cls := cls, auth := 0, fseq := 0,
    blk := 0, blocks := 0, replay := false, woken := false, outWin := false, host := none, mkey := 0, mroute := 0, prior := none, opened := [port],
    total := 1, done := [] }

end Sys2Proof.Machine
end

