-- ==== Sys2Proof/Machine/Reef.lean ====
section
/-! DEFINITION. The commands of the Reef controller: sleep, wake causes, wake transmissions, insomnia, muster spans and
the REEF commit (chapter "Reef Controller"). -/

namespace Sys2Proof.Machine

def State.reefState (s : State) (n : Nat) : Nat := s.get (Fld.REEF_PORTn_STAT_STATE n)

/-! ### Sleep and wake -/

/-- Does R192 hold at the boundary that begins the beat in progress? -/
def State.maySleep (s : State) (n : Nat) (busy : Bool) : Bool :=
  let idleMs := if s.get (Fld.REEF_PORTn_STAT_POST_MUS n) = 1 then s.cur (Fld.REEF_PORTn_IDLE_POST_MUS_MS n)
    else s.cur (Fld.REEF_PORTn_IDLE_IDLE_MS n)
  s.reefState n == 1 && s.on (Fld.REEF_PORTn_CFG_SLEEP_EN n) && !s.on (Fld.REEF_PORTn_CFG_FORCE_AWAKE n) &&
  (s.canState n == 1 || s.canState n == 2 || s.canState n == 3) && !busy &&
  decide ((s.reefOf n).restart + idleMs * 1000000 ≤ s.beat.start) &&
  s.get (Fld.FAB_QSTATp_NONEMPTY n) == 0 && !s.spanOverlaps n s.beat.start s.beat.next && s.domain 11 == 2

/-- WAKE_PATTERN: the lengths in ns of a dominant, a recessive and a dominant phase on the bus (R194). -/
def execWakePattern (n dom1 rec dom2 : Nat) (t : Tai) (s : State) : Host.Outcome State Fault Refusal :=
  unlessHeld s <|
  let s := s.at t
  let filt := s.cur (Fld.REEF_PORTn_CFG_FILT n) * 250
  runIf (Instr.wakePattern n dom1 rec dom2 t).wf "WAKE_PATTERN"
    (if s.cur (Fld.REEF_PORTn_CFG_WAKE_MODE n) = 1 ∧ filt ≤ dom1 ∧ filt ≤ rec ∧ filt ≤ dom2 ∧
        dom1 + rec + filt ≤ s.cur (Fld.REEF_PORTn_CFG_WUP_TMO n) * 1000 then s.reefWake n 1 else s)

/-- WAKE_FRAME: a sleeping port's decoder reaches the end of a frame's CRC delimiter without error; an FD or XL frame is
skipped (R195). -/
def execWakeFrame (n : Nat) (w : Wire) (t : Tai) (s : State) : Host.Outcome State Fault Refusal :=
  unlessHeld s <|
  let s := s.at t
  runIf (Instr.wakeFrame n w t).wf "WAKE_FRAME"
    (if s.reefState n = 2 ∧ s.cur (Fld.REEF_PORTn_CFG_WAKE_MODE n) = 2 then
       (if w.kind ≠ 0 then s.count (Reg.REEF_CNTn_k n 2)
        else
          let s := s.setReef n { s.reefOf n with decErrs := 0 }
          if s.wakeAny n w then s.reefWake n 2 else s)
     else s)

/-- MUSTER_PRE_WAKE: the pre-wake point of an awake span of the port (R203). -/
def execMusterPreWake (n : Nat) (t : Tai) (s : State) : Host.Outcome State Fault Refusal :=
  unlessHeld s <|
  let s := s.at t
  runIf (Instr.musterPreWake n t).wf "MUSTER_PRE_WAKE" (if s.spanOverlaps n t (t + 1) then s.reefWake n 4 else s)

/-- REEF_PORTn_CTRL.WAKE takes effect: a qualifying event (R193), and a wake cause of a sleeping port. -/
def State.reefHostWake (s : State) (n : Nat) : State := (s.idleRestart n s.time.now false).reefWake n 5

/-- REEF_DEC_WAKE: 32 decoder errors without a correctly decoded frame (R196). -/
def execReefDecWake (n : Nat) (t : Tai) (s : State) : Host.Outcome State Fault Refusal :=
  unlessHeld s <|
  let s := s.at t
  runIf (Instr.reefDecWake n t).wf "REEF_DEC_WAKE"
    (if s.reefState n = 2 ∧ s.cur (Fld.REEF_PORTn_CFG_WAKE_MODE n) = 2 ∧ s.on (Fld.REEF_PORTn_CFG_DEC_WAKE_EN n) ∧
        32 ≤ (s.reefOf n).decErrs then
       (s.reefWake n 6).raise 0x0805 (unitOf 1 n) [n8 (s.reg64 (Reg.REEF_CNTn_k n 3))]
     else s)

/-- REEF_WAKE_COMPLETE: the receiver is in normal receive: AWAKE, or UNMANAGED once SLEEP_EN is 0; the CAN port enters
INTEGRATING (Table 8.1). -/
def execReefWakeComplete (n : Nat) (t : Tai) (s : State) : Host.Outcome State Fault Refusal :=
  unlessHeld s <|
  let s := s.at t
  runIf (Instr.reefWakeComplete n t).wf "REEF_WAKE_COMPLETE"
    (if s.reefState n = 3 then
       (let tx := (s.reefOf n).txWake
        let woke := (s.reefOf n).woke
        let s := if s.on (Fld.REEF_PORTn_CFG_SLEEP_EN n) then s.reefAwake n else s.reefUnmanaged n
        let s := s.setReef n { s.reefOf n with capturing := true, txWake := tx, woke := woke }
        s.setCanState n 1)
     else s)

/-! ### Wake transmissions (R199) -/

/-- The wake frame of a port. -/
def State.wakeWire (s : State) (n : Nat) : Wire :=
  let ide := s.on (Fld.REEF_PORTn_TXWF_ID_IDE n)
  let bytes := le 4 (s.liveReg (Reg.REEF_PORTn_TXWF_D0 n)).toNat ++ le 4 (s.liveReg (Reg.REEF_PORTn_TXWF_D1 n)).toNat
  { kind := 0, ide := ide, brs := false, rtr := false, esi := false,
    id := idSent ide (s.cur (Fld.REEF_PORTn_TXWF_ID_ID n)), af := 0, data := bytes.take (s.cur (Fld.REEF_PORTn_TXWF_DLC_DLC n)) }

/-- REEF_TX_WAKE: before the first egress copy after an EGRESS or HOST wake, the wake pattern is driven at bus idle, or
the wake frame is put ahead of every copy. `bad`: queues found with differing pointers (R132). -/
def execReefTxWake (n : Nat) (bad : List (Nat × Nat)) (t : Tai) (s : State) : Host.Outcome State Fault Refusal :=
  unlessHeld s <|
  let s := s.at t
  runIf (Instr.reefTxWake n bad t).wf "REEF_TX_WAKE"
    (if (s.reefOf n).txWake = .due ∧ s.canDrives n ∧ (s.sending n).isNone = true then
       (if s.cur (Fld.REEF_PORTn_TXWAKE_MODE n) = 1 then
          (let us := s.cur (Fld.REEF_PORTn_TXWAKE_PHASE_US n)
           (s.setReef n { s.reefOf n with txWake := .delay, delayFrom := s.time.now + 3 * us * 1000 }).emit (.wakePattern n us))
        else if s.cur (Fld.REEF_PORTn_TXWAKE_MODE n) = 2 then
          let s := (s.resetQueues bad).setReef n { s.reefOf n with txWake := .running }
          let (fid, s) := s.alloc (deviceFrame .wakeFrame n 7 (s.wakeWire n))
          s.setQueue n 7 ({ fid := fid, port := n, wire := s.wakeWire n, ready := true, addAfa := false, ahead := false,
                            attempts := 0 } :: s.queue n 7)
        else s.setReef n { s.reefOf n with txWake := .none })
     else s)

/-- REEF_TX_WAKE_DELAY: DELAY_US after the end of the pattern or frame, the first egress copy may start. -/
def execReefTxWakeDelay (n : Nat) (t : Tai) (s : State) : Host.Outcome State Fault Refusal :=
  unlessHeld s <|
  let s := s.at t
  runIf (Instr.reefTxWakeDelay n t).wf "REEF_TX_WAKE_DELAY"
    (if (s.reefOf n).txWake = .delay ∧ (s.reefOf n).delayFrom + s.cur (Fld.REEF_PORTn_TXWAKE_DELAY_US n) * 1000 ≤ s.time.now then s.setReef n { s.reefOf n with txWake := .none } else s)

/-! ### Insomnia (R201) -/

/-- The awake time of a port in ns. -/
def State.awakeNs (s : State) (n : Nat) (t : Tai) : Nat :=
  if s.reefState n = 1 ∧ s.on (Fld.REEF_PORTn_CFG_SLEEP_EN n) ∧ ¬s.on (Fld.REEF_PORTn_CFG_FORCE_AWAKE n) then
    t - (s.reefOf n).awakeFrom else 0

/-- REEF_INSOMNIA: the awake time has reached a multiple of INSOMNIA_S that is not yet dealt with. -/
def execReefInsomnia (n : Nat) (t : Tai) (s : State) : Host.Outcome State Fault Refusal :=
  unlessHeld s <|
  let s := s.at t
  let every := s.cur (Fld.REEF_PORTn_INSOM_INSOMNIA_S n)
  let due := ((s.reefOf n).insom / every + 1) * every
  runIf (Instr.reefInsomnia n t).wf "REEF_INSOMNIA"
    (if 0 < every ∧ due * 1000000000 ≤ s.awakeNs n t then
       (let s := s.setReef n { s.reefOf n with insom := due }
        let (key, count) := match s.topKeeper n with
          | some i => (s.w (Reg.REEF_KPn_i_KEY n i), s.get (Fld.REEF_KPn_i_INFO_COUNT n i))
          | none => (0, 0)
        let s := s.raise 0x0801 (unitOf 1 n) [n4 key, n4 count, n8 (s.awakeNs n t)]
        s.log 4 (le 4 (Reg.REEF_KPn_i_KEY n 0) ++ le 2 64 ++ le 2 0 ++ s.keeperBytes n))
     else s)

/-- MUSTER_SPAN_END: the end of the awake span of the oldest unsettled window of an entry (R210). -/
def execMusterSpanEnd (m : Nat) (t : Tai) (s : State) : Host.Outcome State Fault Refusal :=
  unlessHeld s <|
  runIf (Instr.musterSpanEnd m t).wf "MUSTER_SPAN_END" ((s.at t).musterSettle m t)

/-! ### The REEF commit (R214) -/

/-- Is a staged REEF doubleword within its fields' ranges? -/
def reefInRange (off v : Nat) : Bool :=
  if 0x141000 ≤ off ∧ off < 0x141C00 then
    let r := (off - 0x141000) % 64
    if r = 0 then decide (bits v 2 1 ≤ 2 ∧ 2 ≤ bits v 12 8 ∧ bits v 12 8 ≤ 16 ∧ 100 ≤ bits v 31 16 ∧ bits v 31 16 ≤ 10000)
    else if r = 4 then decide (10 ≤ bits v 15 0 ∧ 1 ≤ bits v 31 16)
    else if r = 8 then decide (1 ≤ bits v 15 0)
    else if r = 12 then decide (bits v 1 0 ≤ 2 ∧ 2 ≤ bits v 15 8 ∧ bits v 15 8 ≤ 100)
    else if r = 20 then decide (bits v 3 0 ≤ 8)
    else true
  else if off = Reg.REEF_MUS_RING then decide (bits v Fld.REEF_MUS_RING_RING.hi Fld.REEF_MUS_RING_RING.lo ≤ 62)
  else if 0x142000 ≤ off ∧ off < 0x143800 ∧ off % 32 = 8 then decide (bits v 11 8 ≤ 8)
  else if 0x148000 ≤ off ∧ off < 0x150000 then
    let r := off % 32
    if r = 0 then decide (bits v 13 8 ≤ 47)
    else if r = 12 then decide (1 ≤ bits v 23 0)
    else if r = 20 then decide (1 ≤ bits v 15 0)
    else if r = 24 then decide (1 ≤ bits v 15 0)
    else true
  else true

/-- The REEF_CFG_ERR bits that the staged set deserves. -/
def State.reefErrors (s : State) : Nat :=
  let listed := s.regs.filter fun e => decide (0x140000 ≤ e.1 ∧ e.1 < 0x150000)
  let range := listed.any fun e => !reefInRange e.1 e.2.toNat
  let valid := listed.filterMap fun e =>
    if 0x148000 ≤ e.1 ∧ e.1 % 32 = 0 ∧ bit e.2.toNat 0 then some ((e.1 - 0x148000) / 32) else none
  let beat := s.beatLen
  let span := valid.any fun m =>
    let period := s.get (Fld.REEF_MUSm_PERIOD_BEATS m)
    let len := s.get (Fld.REEF_MUSm_WIN_LEN m)
    decide (period ≤ s.get (Fld.REEF_MUSm_PHASE_BEATS m)) ||
    decide (len * beat ≤ s.get (Fld.REEF_MUSm_WIN_SLOT_OFS m) * 1000) ||
    decide (period * beat ≤ len * beat + 32 * s.get (Fld.REEF_MUSm_GUARD_GUARD m) * 1000)
  let deaf := valid.any fun m =>
    let n := s.get (Fld.REEF_MUSm_CTRL_PORT m)
    let key := s.w (Reg.REEF_MUSm_KEY m)
    let mask := s.w (Reg.REEF_MUSm_MASK m)
    s.get (Fld.REEF_PORTn_CFG_WAKE_MODE n) != 2 ||
    !((List.range 4).any fun w =>
        let wm := s.w (Reg.REEF_WKn_w_MASK n w)
        s.get (Fld.REEF_WKn_w_CTRL_VALID n w) == 1 && wm.land (2 ^ 32 - 1 - mask) == 0 &&
        (Nat.xor (s.w (Reg.REEF_WKn_w_KEY n w)) key).land wm == 0)
  let ring := s.get Fld.REEF_MUS_RING_RING
  let badRing := ring == 63 || (s.get Fld.REEF_MUS_RING_EN == 1 && s.cur (Fld.HIF_RXn_CFG_KIND ring) != 1)
  b2n range + 2 * b2n span + 4 * b2n deaf + 8 * b2n badRing

/-- The configuration registers in a range of offsets take the values written to them. -/
def State.goLive (s : State) (lo hi : Nat) : State :=
  let inside := fun (e : Nat × Word) => decide (lo ≤ e.1 ∧ e.1 < hi)
  let config := fun (e : Nat × Word) => match RegMap.find e.1 with
    | some r => r.st != 0
    | none => false
  let before := s.live.filter fun e => decide (e.1 < lo)
  let after := s.live.filter fun e => decide (hi ≤ e.1)
  { s with live := before ++ s.regs.filter (fun e => inside e && config e) ++ after }

/-- Do the words of a range differ between the staged and the live set? -/
def State.staleIn (old s : State) (lo n : Nat) : Bool :=
  (List.range n).any fun k => old.liveReg (lo + 4 * k) != s.liveReg (lo + 4 * k)

/-- A muster entry whose words changed restarts; an awake span in progress keeps its end. -/
def State.musterRestart (s : State) (m : Nat) : State :=
  let s := ((s.put (Fld.REEF_MUSm_STAT_MISSES m) 0).put (Fld.REEF_MUSm_STAT_MULT_LOG m) 0).put
    (Fld.REEF_MUSm_STAT_DRIFT_SUSPECT m) 0
  let s := s.put (Fld.REEF_MUSm_STAT_CARD_LOST m) 0
  let s := s.setWins m ((s.winsOf m).filter fun w =>
    w.settled.isNone && decide (w.opens ≤ s.time.now ∧ s.time.now < w.closes))
  s.musterDelta m

/-- What a port does when the REEF set goes live (Table 8.1, reason CONFIG). -/
def State.reefReconfigure (old s : State) (n : Nat) : State :=
  let st := s.reefState n
  let en := s.on (Fld.REEF_PORTn_CFG_SLEEP_EN n)
  if st = 0 then
    if en ∧ s.canState n ≠ 0 ∧ s.canState n ≠ 6 then s.reefAwake n else s
  else if st = 1 then
    if !en then s.reefUnmanaged n
    else if old.on (Fld.REEF_PORTn_CFG_FORCE_AWAKE n) ∧ ¬s.on (Fld.REEF_PORTn_CFG_FORCE_AWAKE n) then
      s.setReef n { s.reefOf n with awakeFrom := s.time.now, insom := 0 }
    else if old.cur (Fld.REEF_PORTn_INSOM_INSOMNIA_S n) ≠ s.cur (Fld.REEF_PORTn_INSOM_INSOMNIA_S n) then
      -- multiples of the new limit that the awake time has passed are not reported
      s.setReef n { s.reefOf n with insom := s.awakeNs n s.time.now / 1000000000 }
    else s
  else if st = 2 ∧ (State.staleIn old s (0x141000 + 64 * n) 8 ∨ State.staleIn old s (0x142000 + 128 * n) 32) then
    s.reefWake n 7
  else s

/-- The REEF set in force has changed: changed muster entries restart, and each port follows. -/
def State.reefFollow (old s : State) : State :=
  let touched := natSort (natDedup (((old.live ++ s.live).filter fun e => decide (0x148000 ≤ e.1 ∧ e.1 < 0x150000)).map
    fun e => (e.1 - 0x148000) / 32))
  let s := (touched.filter fun m => State.staleIn old s (0x148000 + 32 * m) 7).foldl
    (fun (s : State) m => s.musterRestart m) s
  (List.range 48).foldl (fun (s : State) n => State.reefReconfigure old s n) s

/-- The staged REEF set is checked against the beat length in force, and applied whole or rejected whole. -/
def State.reefCommitApply (s : State) : State :=
  if s.cmds.contains .reefCommit then
    let s := { s with cmds := s.cmds.filter fun c => c != RegCmd.reefCommit }
    let s := s.put Fld.REEF_STATUS_PENDING 0
    let e := s.reefErrors
    if e ≠ 0 then
      let s := s.orReg Reg.REEF_CFG_ERR e
      s.raise 0x0806 0 [n4 (s.w Reg.REEF_CFG_ERR)]
    else
      State.reefFollow s (s.goLive 0x140000 0x150000)
  else s

/-- REEF_COMMIT_APPLY: at the end of the commit slot after REEF_COMMIT.GO. -/
def execReefCommitApply (t : Tai) (s : State) : Host.Outcome State Fault Refusal :=
  unlessHeld s <|
  let s := s.at t
  runIf (Instr.reefCommitApply t).wf "REEF_COMMIT_APPLY" (if s.commitDue then s.reefCommitApply else s)

end Sys2Proof.Machine
end

