-- ==== Sys2Proof/Machine/Nest.lean ====
section
/-! DEFINITION. The Crow's Nest's commands: imager frames, tray identities, the NEST commit; its part of the writeback
slot and its isolation (R298-R320). -/

namespace Sys2Proof.Machine

/-! ### Imager frames -/

/-- A frame is discarded: 1 SIZE, 2 CRC, 3 RATE, 4 NO_END (R298). -/
def State.nestDiscard (s : State) (i reason : Nat) : State :=
  let s := (s.count (Reg.NEST_IMGi_DISCARD i)).put (Fld.NEST_IMGi_LAST_REASON i) reason
  let s := { s with nest := { s.nest with regions := SMap.del s.nest.regions i } }
  s.raiseOnce (0x0E03 * 65536 + i) 0x0E03 0 [n4 i, n4 reason]

/-- What the receiver has counted (Table 12.1). -/
def State.csiCounts (s : State) (i : Nat) (c : CsiCounts) : State :=
  (((s.nestCount i 0 c.eccCorr).nestCount i 1 c.eccDrop).nestCount i 2 c.crcLines).nestCount i 3 c.dtDrop

/-- Does an imager receive? -/
def State.imagerOn (s : State) (i : Nat) : Bool :=
  s.nestPowered && s.on Fld.NEST_CTRL_EN && s.on (Fld.NEST_IMGi_CFG_EN i)

def State.nestStart (s : State) (i number : Nat) (c : CsiCounts) (t : Tai) : State :=
  if s.imagerOn i then
    let s := s.csiCounts i c
    let s := if (SMap.look s.nest.open_ i).isSome then s.nestDiscard i 4 else s
    let f : NestFrame := { start := t, number := number % 65536, cfg := s.live.filter nestRange }
    { s with nest := { s.nest with open_ := SMap.put s.nest.open_ i f } }
  else s

/-- NEST_FRAME_START: the CSI-2 frame number of the short packet, and what the receiver counted before it. -/
def execNestFrameStart (i number : Nat) (c : CsiCounts) (t : Tai) (s : State) : Host.Outcome State Fault Refusal :=
  unlessHeld s <|
  runIf (Instr.nestFrameStart i number c t).wf "NEST_FRAME_START" ((s.at t).nestStart i number c t)

/-- Why a frame is not accepted; 0: it is. -/
def State.nestReason (s : State) (i : Nat) (f : NestFrame) (lines : List NestLine) : Nat :=
  if lines.length ≠ s.cur (Fld.NEST_IMGi_SIZE_HEIGHT i) ∨
     (lines.all fun l => l.pixels.length == s.cur (Fld.NEST_IMGi_SIZE_WIDTH i)) = false then 1
  else if s.cur (Fld.NEST_IMGi_CFG_BAD_LINES i) < (lines.filter fun l => !l.crcOk).length then 2
  else match SMap.look s.nest.lastStart i with
    | some p => if f.start < p + 15000000 then 3 else 0
    | none => 0

/-- The raw values of a window of a frame. -/
def nestRegion (lines : List NestLine) (u0 v0 w h : Nat) : List (List Nat) :=
  ((lines.drop v0).take h).map fun l => (l.pixels.drop u0).take w

/-- The reference window's mean temperature (R322); its rounding is open. -/
def State.nestRef (s : State) (i : Nat) (lines : List NestLine) : Int :=
  let u0 := s.cur ⟨Reg.NEST_IMGi_REF0 i, 10, 0⟩
  let v0 := s.cur ⟨Reg.NEST_IMGi_REF0 i, 26, 16⟩
  let u1 := s.cur ⟨Reg.NEST_IMGi_REF1 i, 10, 0⟩
  let v1 := s.cur ⟨Reg.NEST_IMGi_REF1 i, 26, 16⟩
  let temps := ((nestRegion lines u0 v0 (u1 + 1 - u0) (v1 + 1 - v0)).flatten).map (s.pixelTemp i)
  let sum := temps.foldl (fun (a : Option Rat) (x : F32) =>
    match a, x.val with
    | some a, .fin q => some (a + q)
    | _, _ => none) (some 0)
  match sum with
  | some q => (let k := roundFree (q * 64 / temps.length)
               if satSigned 16 k = k then k else toSigned 16 ((Config.noNumber 0 % 65536).toNat))
  | none => toSigned 16 ((Config.noNumber 0 % 65536).toNat)

/-- Ego-motion of an accepted frame (R306): the measured shift and quality, and the velocity in force. -/
def State.nestEgo (s : State) (i : Nat) (lines : List NestLine) (time : Tai) : State :=
  if s.on (Fld.NEST_IMGi_EGO1_EN i) then
    let lw := s.cur (Fld.NEST_IMGi_EGO1_LW i)
    let lh := s.cur (Fld.NEST_IMGi_EGO1_LH i)
    let x0 := s.cur (Fld.NEST_IMGi_EGO0_X0 i)
    let y0 := s.cur (Fld.NEST_IMGi_EGO0_Y0 i)
    let region := nestRegion lines x0 y0 (2 ^ lw) (2 ^ lh)
    let before := SMap.look s.nest.regions i
    let s := { s with nest := { s.nest with regions := SMap.put s.nest.regions i region } }
    match before, SMap.look s.nest.lastTime i with
    | some old, some t0 =>
      let (du0, dv0, q0) := Config.phaseShift old region
      let clamp := fun (l : Nat) (d : Int) => max (-(16 * 2 ^ (l - 1) : Int)) (min (16 * 2 ^ (l - 1)) d)
      let du := clamp lw du0
      let dv := clamp lh dv0
      let q := q0 % 256
      let s := s.setReg (Reg.NEST_IMGi_EGO i) (BitVec.ofNat 32 (ofInt 2 du + 2 ^ 16 * ofInt 2 dv))
      let s := s.put (Fld.NEST_IMGi_EGO_Q_Q i) q
      if q < s.cur (Fld.NEST_IMGi_EGO1_MIN_Q i) then s.nestCount i 7
      else
        let cu : Int := ((x0 + 2 ^ (lw - 1) : Nat) : Int) * 16
        let cv : Int := ((y0 + 2 ^ (lh - 1) : Nat) : Int) * 16
        let dt := f32Seconds ((time : Int) - ((t0 : Nat) : Int))
        match s.nestMap i (cu + du) (cv + dv), s.nestMap i cu cv with
        | some b, some a =>
          (s.setReg (Reg.NEST_IMGi_EGO_VX i) (F32.div (F32.sub b.1 a.1) dt)).setReg (Reg.NEST_IMGi_EGO_VY i)
            (F32.div (F32.sub b.2 a.2) dt)
        | _, _ => s
    | _, _ => s
  else { s with nest := { s.nest with regions := SMap.del s.nest.regions i } }

/-- The tray contexts of the sets whose ego source is the imager move; one beyond TRAY_EXIT_X is removed (R307, R309). -/
def State.nestAdvance (s : State) (i : Nat) (time : Tai) : State :=
  match SMap.look s.nest.lastTime i with
  | none => s
  | some t0 =>
    let dt := f32Seconds ((time : Int) - ((t0 : Nat) : Int))
    let vx := s.reg (Reg.NEST_IMGi_EGO_VX i)
    let vy := s.reg (Reg.NEST_IMGi_EGO_VY i)
    (s.nest.ctxs.filter fun (e : Nat × TrayCtx) => s.cur (Fld.NEST_SETs_CFG_EGO_IMG (e.1 / 4)) == i).foldl
      (fun (s : State) (e : Nat × TrayCtx) =>
        let x := F32.add e.2.x (F32.mul vx dt)
        let y := F32.add e.2.y (F32.mul vy dt)
        if F32.lt (s.f32 Reg.NEST_TRAY_EXIT_X) x then s.dropCtx e.1 else s.setCtx e.1 { e.2 with x := x, y := y }) s

/-- Steps 1 to 4 of an accepted frame, under the configuration put in force for it. -/
def State.nestAccept (s : State) (i : Nat) (f : NestFrame) (lines : List NestLine) (t : Tai) : State :=
  let time := t - 1000 * s.cur (Fld.NEST_IMGi_LAT_LAT_US i)
  let blobs := (s.blobs i lines).filter fun (b : Blob) =>
    decide (s.cur (Fld.NEST_IMGi_AREA_AREA_MIN i) ≤ b.length ∧ b.length ≤ s.cur (Fld.NEST_IMGi_AREA_AREA_MAX i))
  let dets := (blobs.take 1024).map blobDetect
  let excess := blobs.length - 1024
  let s := s.count (Reg.NEST_IMGi_FRAMES i)
  let s := (s.nestCount i 4 dets.length).nestCount i 5 excess
  let s := if excess = 0 then s else
    s.raiseOnce (0x0E04 * 65536 + i) 0x0E04 0 [n4 i, n8 (s.reg64 (Reg.NEST_IMGi_CNTk i 5))]
  let s := (s.put (Fld.NEST_IMGi_LAST_DETS i) dets.length).put (Fld.NEST_IMGi_LAST_FSEQ i) f.number
  let sum := crc32 ((lines.map fun l => Config.pixelBytes l.pixels).flatten)
  let s := s.setReg (Reg.NEST_IMGi_FSUM i) (BitVec.ofNat 32 sum)
  let s := s.put (Fld.NEST_IMGi_REF_T_T i) (ofInt 2 (s.nestRef i lines))
  let s := { s with nest := { s.nest with lastStart := SMap.put s.nest.lastStart i f.start } }
  let mapped := dets.filterMap fun (d : Detect) =>
    (s.nestMap i d.u d.v).map fun (p : F32 × F32) => { d with x := p.1, y := p.2 }
  let s := s.nestCount i 8 (dets.length - mapped.length)
  let s := (s.nestEgo i lines time).nestAdvance i time
  let s := { s with nest := { s.nest with lastTime := SMap.put s.nest.lastTime i time } }
  if s.nestTracks then s.nestTrack i mapped time else s

/-- A Frame End. -/
def State.nestEnd (s : State) (i : Nat) (lines : List NestLine) (c : CsiCounts) (t : Tai) : State :=
  match SMap.look s.nest.open_ i with
  | none => s
  | some f =>
    let s := { s with nest := { s.nest with open_ := SMap.del s.nest.open_ i } }
    let now := s.live.filter nestRange
    let s := s.nestSwap f.cfg
    let s := (s.csiCounts i c).nestCount i 2 (lines.filter fun l => !l.crcOk).length
    let why : Nat := s.nestReason i f lines
    let s := if why ≠ 0 then s.nestDiscard i why else s.nestAccept i f lines t
    s.nestSwap now

/-! ### Tray identities (R309) -/

/-- The SLOT of an identity message. -/
def State.traySlot (s : State) (d : Bytes) : Nat :=
  let ofs := s.cur Fld.NEST_TRAYID_SLOT_OFS
  if s.on Fld.NEST_TRAYID_SLOT_SRC then
    let digits := (d.drop ofs).take (s.cur Fld.NEST_TRAYID_SLOT_LEN)
    if digits.length = s.cur Fld.NEST_TRAYID_SLOT_LEN ∧ digits.all (fun b => decide (48 ≤ b.toNat ∧ b.toNat ≤ 57)) = true then
      digits.foldl (fun (a : Nat) b => 10 * a + (b.toNat - 48)) 0 % 64
    else 0
  else ((d[ofs]?).map (fun b => b.toNat % 64)).getD 0

/-- A context opens in a set; a fifth removes the oldest. -/
def State.openCtx (s : State) (d : Bytes) (seq set : Nat) : State :=
  let mine := s.contexts set
  let place := match (List.range 4).find? fun c => (mine.any fun (e : Nat × TrayCtx) => e.1 == 4 * set + c) == false with
    | some c => 4 * set + c
    | none => (mine.foldl (fun (m : Option (Nat × TrayCtx)) (e : Nat × TrayCtx) =>
        match m with
        | none => some e
        | some x => if e.2.seq < x.2.seq then some e else m) none).elim (4 * set) (·.1)
  let s := if mine.any fun (e : Nat × TrayCtx) => e.1 == place then s.dropCtx place else s
  s.setCtx place { seq := seq, slot := s.traySlot d, x := s.f32 Reg.NEST_ORG_X, y := s.f32 Reg.NEST_ORG_Y,
                   id := padTo 16 0 (d.take (s.cur Fld.NEST_TRAYID_ID_LEN)) }

/-- The oldest identity message in the inbox. A unit that shadows its partner's contexts only counts it (R340). -/
def State.trayIdentity (s : State) : State :=
  match s.nest.inbox with
  | [] => s
  | f :: rest =>
    let s := { s with nest := { s.nest with inbox := rest } }
    if s.nestPowered ∧ s.on Fld.NEST_CTRL_EN then
      let seq := s.nest.traySeq + 1
      let s := { s with nest := { s.nest with traySeq := seq } }
      if s.nestTracks then s.nestSets.foldl (fun (s : State) set => s.openCtx f.wire.data seq set) s else s
    else s

/-- NEST_TRAY_IDENTITY. -/
def execNestTrayIdentity (t : Tai) (s : State) : Host.Outcome State Fault Refusal :=
  unlessHeld s <|
  runIf (Instr.nestTrayIdentity t).wf "NEST_TRAY_IDENTITY" ((s.at t).trayIdentity)

/-- Every identity message that has reached port 77 acts before a frame whose last line ends later. -/
def State.trayDrain : Nat → State → State
  | 0, s => s
  | k + 1, s => State.trayDrain k s.trayIdentity

/-- NEST_FRAME_END: the lines between the two short packets, and the end of the last line as the command's time. -/
def execNestFrameEnd (i : Nat) (lines : List NestLine) (c : CsiCounts) (t : Tai) (s : State) :
    Host.Outcome State Fault Refusal :=
  unlessHeld s <|
  runIf (Instr.nestFrameEnd i lines c t).wf "NEST_FRAME_END"
    ((State.trayDrain s.nest.inbox.length (s.at t)).nestEnd i lines c t)

/-! ### The NEST commit (R302, R315) -/

/-- Is a window wholly inside an imager's staged frame? -/
def State.stagedInside (s : State) (i u0 v0 u1 v1 : Nat) : Bool :=
  decide (u0 ≤ u1 ∧ v0 ≤ v1 ∧ u1 < s.get (Fld.NEST_IMGi_SIZE_WIDTH i) ∧ v1 < s.get (Fld.NEST_IMGi_SIZE_HEIGHT i))

/-- The staged set's faults as NEST_CFG_ERR bits: a field out of range, a window outside the frame, a live stop route
that the kinds in force no longer carry. -/
def State.nestErrors (s : State) : Nat :=
  let rng (v lo hi : Nat) : Bool := decide (v < lo ∨ hi < v)
  let img := fun (i : Nat) =>
    decide (2 < s.get (Fld.NEST_IMGi_CFG_LANES i)) || rng (s.get (Fld.NEST_IMGi_SIZE_WIDTH i)) 16 1280 ||
    rng (s.get (Fld.NEST_IMGi_SIZE_HEIGHT i)) 8 1024 || s.get (Fld.NEST_IMGi_AREA_AREA_MIN i) == 0 ||
    s.get (Fld.NEST_IMGi_AREA_AREA_MAX i) == 0 || rng (s.get (Fld.NEST_IMGi_EGO1_LW i)) 5 8 ||
    rng (s.get (Fld.NEST_IMGi_EGO1_LH i)) 4 7
  let alm := fun (r : Nat) =>
    decide (4 < s.get (Fld.NEST_ALMr_CTRL_COND r)) || s.get (Fld.NEST_ALMr_CTRL_PERSIST r) == 0
  let range := [0, 1].any img || (List.range 16).any alm || rng (s.get Fld.NEST_TRAYID_SLOT_LEN) 1 3 ||
    rng (s.get Fld.NEST_TRAYID_ID_LEN) 1 16 || s.get Fld.NEST_TRK_CFG_CONF_HITS == 0 ||
    s.get Fld.NEST_TRK_CFG_MAX_MISS == 0
  let win := fun (i : Nat) =>
    let roi := s.get (Fld.NEST_IMGi_ROI0_U0 i) < s.get (Fld.NEST_IMGi_SIZE_WIDTH i) ∧
      s.get (Fld.NEST_IMGi_ROI0_V0 i) < s.get (Fld.NEST_IMGi_SIZE_HEIGHT i) ∧
      s.get (Fld.NEST_IMGi_ROI0_U0 i) ≤ s.get (Fld.NEST_IMGi_ROI1_U1 i) ∧
      s.get (Fld.NEST_IMGi_ROI0_V0 i) ≤ s.get (Fld.NEST_IMGi_ROI1_V1 i)
    let x0 := s.get (Fld.NEST_IMGi_EGO0_X0 i)
    let y0 := s.get (Fld.NEST_IMGi_EGO0_Y0 i)
    let ego := s.get (Fld.NEST_IMGi_EGO1_EN i) == 0 ||
      s.stagedInside i x0 y0 (x0 + 2 ^ s.get (Fld.NEST_IMGi_EGO1_LW i) - 1) (y0 + 2 ^ s.get (Fld.NEST_IMGi_EGO1_LH i) - 1)
    let ref0 := s.w (Reg.NEST_IMGi_REF0 i)
    let ref1 := s.w (Reg.NEST_IMGi_REF1 i)
    let ref := s.stagedInside i (bits ref0 10 0) (bits ref0 26 16) (bits ref1 10 0) (bits ref1 26 16)
    !(decide roi && ego && ref)
  let stop := s.liveRoutes.any fun r =>
    r.ingress == 77 && bits r.mask 31 30 == 3 && decide (bits r.key 31 30 ≤ 1) &&
      (s.routeReasons r (fun w => s.w (Reg.RT_LIVE_ROUTE r.index w))).contains 4
  b2n range + 2 * b2n ([0, 1].any win) + 4 * b2n stop

/-- The state words of the track sets and of port 77 follow the configuration in force and the domains. -/
def State.nestFollow (s : State) : State :=
  let code := fun (set : Nat) =>
    if s.on Fld.NEST_CTRL_EN ∧ (set = 0 ∨ s.on Fld.NEST_CTRL_SPLIT = true) then (if s.nestPowered then 2 else 6) else 0
  let follow := fun (s : State) (f : Fld) (set : Nat) =>
    if s.get f = code set then s else (s.put f (code set)).message (unitOf 5 set) (code set)
  let port := if s.on Fld.NEST_CTRL_EN then 2 else 0
  let s := follow (follow s Fld.NEST_STATUS_SET0 0) Fld.NEST_STATUS_SET1 1
  if (s.word (unitOf 1 77)).code = port then s else s.message (unitOf 1 77) port

/-- The NEST set in force has changed: a change of EN or SPLIT drops every track and context. -/
def State.nestChanged (old s : State) : State :=
  let changed := old.on Fld.NEST_CTRL_EN ≠ s.on Fld.NEST_CTRL_EN ∨ old.on Fld.NEST_CTRL_SPLIT ≠ s.on Fld.NEST_CTRL_SPLIT
  let s := if changed then
      (let s := old.nest.tracks.foldl (fun (s : State) (e : Nat × Track) => s.trackFree e.1 e.2 7) s
       let s := old.nest.ctxs.foldl (fun (s : State) (e : Nat × TrayCtx) => s.dropCtx e.1) s
       if old.on Fld.NEST_CTRL_EN = false then { s with nest := { s.nest with traySeq := 0, regions := [] } } else s)
    else s
  let s := [0, 1].foldl (fun (s : State) i =>
    if s.on (Fld.NEST_IMGi_CFG_EN i) then s else { s with nest := { s.nest with regions := SMap.del s.nest.regions i } }) s
  s.nestFollow

/-- The staged NEST set is applied whole, or rejected. -/
def State.nestCommitApply (s : State) : State :=
  if s.cmds.contains .nestCommit then
    let s := { s with cmds := s.cmds.filter fun (c : RegCmd) => c != RegCmd.nestCommit }
    let s := s.put Fld.NEST_STATUS_PENDING 0
    let e := s.nestErrors
    if e ≠ 0 then
      let s := s.orReg Reg.NEST_CFG_ERR e
      s.raise 0x0E06 0 [n4 (s.w Reg.NEST_CFG_ERR)]
    else
      State.nestChanged s (s.goLive 0x1A0000 0x1B0000)
  else s

/-- NEST_COMMIT_APPLY: at the end of the commit slot after NEST_COMMIT.GO. -/
def execNestCommitApply (t : Tai) (s : State) : Host.Outcome State Fault Refusal :=
  unlessHeld s <|
  let s := s.at t
  runIf (Instr.nestCommitApply t).wf "NEST_COMMIT_APPLY" (if s.commitDue = true ∧ s.nestPowered = true then s.nestCommitApply else s)

/-- PD18, PD19 or PD20 isolates: every track, context and frame in progress is lost without records. -/
def State.nestIsolate (s : State) : State :=
  let s := s.nest.ctxs.foldl (fun (s : State) (e : Nat × TrayCtx) => s.dropCtx e.1) s
  let s := { s with nest := { s.nest with tracks := [], deleted := [], open_ := [], regions := [] } }
  s.nestFollow

/-! ### The Crow's Nest in the writeback slot (R316, R317, R320) -/

/-- A track record (Table 12.5). -/
def State.trackRecord (s : State) (n : Nat) (k : Track) (ev : Nat) (out : Tai) : Bytes :=
  le 2 n ++ le 1 k.set ++ le 1 k.state ++ le 1 ev ++ le 1 k.imgs ++ le 2 (s.epochOf (unitOf 5 k.set)) ++ le 8 out ++
    le 4 (ofInt 4 (F32.fixed 32 256 k.x.p)) ++ le 4 (ofInt 4 (F32.fixed 32 256 k.y.p)) ++
    le 4 (ofInt 4 (F32.fixed 32 256 k.x.v)) ++ le 4 (ofInt 4 (F32.fixed 32 256 k.y.v)) ++
    le 2 (ofInt 2 (F32.temp k.t.p)) ++ le 2 (ofInt 2 (F32.fixed 16 64 k.t.v)) ++ le 1 k.row ++ le 1 k.col ++
    le 2 k.alarms ++ le 4 k.traySeq ++ le 1 (satNat 8 k.hits) ++ le 1 (satNat 8 k.misses) ++ le 2 0

/-- A frame of port 77 is offered to the fabric. -/
def State.nestOffer (s : State) (w : Wire) (mkey : Nat) (out : Tai) : State :=
  let (l, s) := s.looked 77 none w
  s.enter { ingress := 77, wire := w, stamp := out, dur := none, replay := false, woken := false, outWin := false,
            host := none, mkey := mkey } l

/-- The alarm outputs leave while packet memory stays above the host's reserve; the others wait, in order. -/
def State.nestAlarms (out : Tai) : List NestOut → State → State
  | [], s => { s with nest := { s.nest with out := [] } }
  | o :: rest, s =>
    if s.cur Fld.FAB_HOSTBUF_BLOCKS < s.freeBlocks then
      let w := if o.stop then o.wire else
        { o.wire with data := o.wire.data.take 8 ++ le 8 out ++ o.wire.data.drop 16 }
      State.nestAlarms out rest (s.nestOffer w o.mkey out)
    else { s with nest := { s.nest with out := o :: rest } }

/-- The key of a track record (Table 12.4). -/
def trackKey (n : Nat) (k : Track) : Nat := 3 * 2 ^ 30 + k.set * 2 ^ 16 + n

/-- Insert by track index, behind those of the same index. -/
def trackInsert (e : Nat × Track) : List (Nat × Track) → List (Nat × Track)
  | [] => [e]
  | x :: l => if e.1 < x.1 then e :: x :: l else x :: trackInsert e l

/-- The track window as of this writeback: EVENT is 0. -/
def State.trackWindow (s : State) (out : Tai) : State :=
  let s := { s with regs := s.regs.filter fun (e : Nat × Word) => !decide (0x1A8000 ≤ e.1 ∧ e.1 < 0x1C0000) }
  s.nest.tracks.foldl (fun (s : State) (e : Nat × Track) =>
    let b := s.trackRecord e.1 e.2 0 out
    (List.range 12).foldl (fun (s : State) w =>
      s.setReg (Reg.NEST_TRACK_WIN e.1 w) (BitVec.ofNat 32 (unLe ((b.drop (4 * w)).take 4)))) s) s

/-- At the start of a writeback slot: alarm outputs in firing order, then track records in index order, a deletion
before the record of the track born in its place. -/
def State.nestWriteback (s : State) (out : Tai) : State :=
  if s.nestPowered then
    let s := State.nestAlarms out s.nest.out s
    let held := s.nest.out.length
    let s := s.put Fld.NEST_STATUS_HELD held
    let s := if held = 0 then s else s.raiseOnce 0x0E02 0x0E02 0 [n4 held]
    let alive := s.nest.tracks.filter fun (e : Nat × Track) => e.2.event != 0
    let due := alive.foldl (fun (l : List (Nat × Track)) e => trackInsert e l)
      (s.nest.deleted.foldl (fun (l : List (Nat × Track)) e => trackInsert e l) [])
    let s := due.foldl (fun (s : State) (e : Nat × Track) =>
      s.nestOffer (nestWire (trackKey e.1 e.2) (s.trackRecord e.1 e.2 e.2.event out)) 0 out) s
    let told := fun (e : Nat × Track) => if e.2.event = 0 then e else (e.1, { e.2 with event := 0, imgs := 0 })
    let s := { s with nest := { s.nest with deleted := [], tracks := s.nest.tracks.map told } }
    s.trackWindow out
  else s

end Sys2Proof.Machine
end

