-- ==== Sys2Proof/Machine/Vault.lean ====
section
/-! DEFINITION. The key vault: slots, uses, limits, loads, retirement, parity and the alarm (R265-R275), with the link
cipher's erasure (R225). -/

namespace Sys2Proof.Machine

def State.keyState (s : State) (n : Nat) : Nat := s.get (Fld.CIPH_KSn_STAT_STATE n)

/-- The limit that a register value stands for: 0 means 2^32. -/
def limitOf (v : Nat) : Nat := if v = 0 then 2 ^ 32 else v

def State.keyLimit (s : State) (n : Nat) : Nat := limitOf (s.w (Reg.CIPH_KSn_LIMIT n))

def State.keyUsed (s : State) (n : Nat) : Nat := s.reg64 (Reg.CIPH_KSn_USED n)

/-- The key in force in a slot: a load that waits leaves the previous content in force (Table 11.2). -/
def State.keyOf (s : State) (n : Nat) : Option KeySlot := SMap.look s.ciph.keys n

/-- Key attribute bits (Table 11.3). -/
def attrAfa : Nat := 0
def attrMac : Nat := 1
def attrEnc : Nat := 2
def attrKek : Nat := 3
def attrExport : Nat := 4
def attrPersist : Nat := 5

def State.keyAttr (s : State) (n b : Nat) : Bool := bit (s.get (Fld.CIPH_KSn_STAT_ATTR n)) b

/-- Fabric cycles of an operation of some blocks under a key of some bytes (R262). -/
def opCycles (keyBytes blocks : Nat) : Nat :=
  24 + blocks * (if keyBytes = 16 then 14 else if keyBytes = 24 then 16 else 18)

/-- A slot retires: its key is erased, the reason shown and the event raised. A load that waits for the slot stands. -/
def State.retireKey (s : State) (n reason : Nat) : State :=
  let s := { s with ciph := { s.ciph with
    keys := SMap.del s.ciph.keys n,
    loads := s.ciph.loads.map fun (l : KeyLoad) => if l.slot = n then { l with prior := 2 } else l } }
  let s := if s.ciph.loads.any fun l => l.slot == n then s else s.put (Fld.CIPH_KSn_STAT_STATE n) 2
  (s.put (Fld.CIPH_KSn_STAT_REASON n) reason).raise 0x0C04 (unitOf 7 n) [n4 reason]

/-- USED has reached LIMIT: the slot retires with reason LIMIT (R269). -/
def State.keyLimitReached (s : State) (n : Nat) : State :=
  if (s.keyOf n).isSome ∧ s.keyLimit n ≤ s.keyUsed n then s.retireKey n 1 else s

/-- LIMIT minus USED has fallen to WARN: CIPH_KEY_LOW (R270). -/
def State.keyLow (s : State) (n : Nat) : State :=
  let warn := (s.liveReg (Reg.CIPH_KSn_WARN n)).toNat
  if (s.keyOf n).isSome ∧ warn ≠ 0 ∧ s.keyUsed n + warn = s.keyLimit n then
    s.raise 0x0C03 (unitOf 7 n) [n4 warn] else s

/-- The reservation of a PERSIST key moves on before USED passes it (R272). -/
def State.reserve (s : State) (n : Nat) : State :=
  match SMap.look s.ciph.backingUsed n with
  | some r =>
    if r < s.keyUsed n ∧ s.keyAttr n attrPersist then
      let r' := min (s.keyLimit n) ((s.keyUsed n + 1048575) / 1048576 * 1048576)
      { s with ciph := { s.ciph with backingUsed := SMap.put s.ciph.backingUsed n r' } }
    else s
  | none => s

/-- One invocation of a slot (R269). -/
def State.useKey (s : State) (n : Nat) : State :=
  (((s.count (Reg.CIPH_KSn_USED n)).reserve n).keyLow n).keyLimitReached n

/-! ### Loads (R267, R268) -/

/-- Do attributes combine KEK with AFA, MAC or ENC? -/
def badAttr (a : Nat) : Bool := bit a attrKek && (bit a attrAfa || bit a attrMac || bit a attrEnc)

/-- Is a load refused with ALARM: every load while the alarm is latched (R275), a PERSIST load also while the key backing area
takes no more writes (R404)? -/
def State.loadRefused (s : State) (attr : Nat) : Bool :=
  s.get Fld.CIPH_STATUS_ALARM_LATCHED == 1 || (bit attr attrPersist && SMap.get 0 s.nvm.stages 3 == 4)

/-- A load is staged: the slot shows PENDING. -/
def State.stageLoad (s : State) (slot size attr limit : Nat) (key : Bytes) : State :=
  let prior := match s.ciph.loads.find? fun l => l.slot == slot with
    | some l => l.prior
    | none => s.keyState slot
  let l : KeyLoad := { slot := slot, size := size, attr := attr, limit := limit, key := key, prior := prior }
  let loads := s.ciph.loads.filter (fun x => x.slot != slot) ++ [l]
  ({ s with ciph := { s.ciph with loads := loads } }).put (Fld.CIPH_KSn_STAT_STATE slot) 3

/-- A pending load goes live with USED 0; a PERSIST key has its backing and its first reservation (R268, R272). -/
def State.loadLive (s : State) (l : KeyLoad) : State :=
  let n := l.slot
  let persist := bit l.attr attrPersist
  let s := { s with ciph := { s.ciph with
    keys := SMap.put s.ciph.keys n { key := l.key, resv := 0 },
    loads := s.ciph.loads.filter (fun x => x.slot != n),
    backing := if persist then SMap.put s.ciph.backing n l else SMap.del s.ciph.backing n,
    backingUsed := if persist then SMap.put s.ciph.backingUsed n (min (limitOf l.limit) 1048576)
      else SMap.del s.ciph.backingUsed n } }
  let s := ((s.put (Fld.CIPH_KSn_STAT_STATE n) 1).put (Fld.CIPH_KSn_STAT_SIZE n) l.size).put (Fld.CIPH_KSn_STAT_ATTR n) l.attr
  let s := (s.put (Fld.CIPH_KSn_STAT_REASON n) 0).setReg (Reg.CIPH_KSn_LIMIT n) (BitVec.ofNat 32 l.limit)
  (s.setReg64 (Reg.CIPH_KSn_USED n) 0).raise 0x0C05 (unitOf 7 n) [n4 l.attr, n4 l.limit]

/-- Every pending load goes live, at the end of a commit slot. -/
def State.loadsLive (s : State) : State := s.ciph.loads.foldl (fun (s : State) l => s.loadLive l) s

/-- The pending loads are dropped: each slot returns to its state before (R40). -/
def State.dropLoads (s : State) : State :=
  let loads := s.ciph.loads
  let s := { s with ciph := { s.ciph with loads := [] } }
  loads.foldl (fun (s : State) (l : KeyLoad) => s.put (Fld.CIPH_KSn_STAT_STATE l.slot) l.prior) s

/-! ### The alarm (R225, R274) -/

/-- The link cipher clears every key, salt and VALID bit of every lane. -/
def State.lsecErase (s : State) : State :=
  let secret := fun (off : Nat) =>
    let r := off % 0x1000
    decide (0x190000 ≤ off ∧ off < 0x194000) &&
    ((decide (0x100 ≤ r ∧ r < 0x300) && decide (r % 0x80 < 0x2C)) ||
     (decide (0x400 ≤ r) && decide (0x40 ≤ (r - 0x400) % 0x180) && decide ((r - 0x400) % 0x40 < 0x2C)))
  let s := { s with regs := s.regs.filter fun e => !secret e.1, live := s.live.filter fun e => !secret e.1 }
  let lanes := (List.range 4).flatMap fun l =>
    (List.range 4).map (fun a => Fld.LSEC_TXSA_CTRL_VALID l a) ++
    (List.range 8).flatMap fun c =>
      Fld.LSEC_RXSC_CTRL_VALID l c :: (List.range 4).map fun a => Fld.LSEC_RXSA_CTRL_VALID l c a
  lanes.foldl (fun (s : State) (f : Fld) => s.putBoth f 0) s

/-- The head host job is ended with a status: its completion waits for the next writeback. -/
def State.jobFinal (s : State) (j : Job) (status : Nat) : State :=
  let s := { s with ciph := { s.ciph with jobs := s.ciph.jobs.drop 1 } }
  let s := s.put Fld.FAB_FREE_BLOCKS (s.freeBlocks + j.blocks)
  s.hostFinal { ring := j.ring, tag := j.tag, cmpl := j.cmpl, oneShot := false, dest := 0, gen := j.gen } status (unitOf 3 j.ring) 0 0 0
    none false

/-- An alarm by a source: every slot erased, the link cipher's keys cleared, the running job ended, the source latched. -/
def State.alarm (s : State) (source : Nat) : State :=
  let s := { s with ciph := { s.ciph with loads := [], backing := [], backingUsed := [] } }
  let s := (List.range 64).foldl (fun (s : State) n =>
    if s.keyState n = 2 then s.put (Fld.CIPH_KSn_STAT_REASON n) 2 else s.retireKey n 2) s
  let s := s.lsecErase.raise 0x0D03 0 [n8 s.time.now]
  let s := match s.ciph.jobs with
    | j :: _ => if j.running then s.jobFinal j 0x26 else s
    | [] => s
  let s := (s.orReg Reg.CIPH_ALARM (2 ^ source)).put Fld.CIPH_STATUS_ALARM_LATCHED 1
  let s := s.raise 0x0C01 0 [n4 (s.w Reg.CIPH_ALARM)]
  { s with ciph := { s.ciph with erasing := true } }

/-- A parity mismatch (R273): the third within 1 s of the first of the three is an alarm. -/
def State.parityFault (s : State) (requester slot : Nat) : State :=
  let s := (s.count Reg.CIPH_PARITY_CNT).raise 0x0C02 0 [n4 requester, n4 slot]
  let seen := (s.time.now :: s.ciph.parity).take 3
  let s := { s with ciph := { s.ciph with parity := seen } }
  match seen with
  | [_, _, t0] => if s.time.now ≤ t0 + 1000000000 then s.alarm 3 else s
  | _ => s

/-- How a use of a key ends. -/
inductive KeyUse where
  | done (key : Bytes)
  | exhausted
  | usage
  | fault
  deriving DecidableEq, Repr

/-- The key of a slot for a use that needs an attribute (R266, R267). -/
def State.keyFor (s : State) (slot attr : Nat) : KeyUse :=
  match s.keyOf slot with
  | none => .exhausted
  | some k => if s.keyAttr slot attr then .done k.key else .usage

/-- One operation of a requester under a slot, with the parity mismatches it meets (0, 1 or 2): the cycles count in the
slot in progress, each mismatch repeats the operation once, the second ends it (R273). The invocation is counted. -/
def State.operate (s : State) (requester slot attr blocks mismatches : Nat) : KeyUse × State :=
  let spend := fun (s : State) (k : Bytes) => { s with beat := { s.beat with used := s.beat.used + opCycles k.length blocks } }
  match s.keyFor slot attr with
  | .done k =>
    let s := spend s k
    if mismatches = 0 then (.done k, s.useKey slot)
    else
      let s := s.parityFault requester slot
      match s.keyFor slot attr with
      | .done k =>
        let s := spend s k
        if mismatches = 1 then (.done k, s.useKey slot) else (.fault, (s.parityFault requester slot).useKey slot)
      | u => (u, s)
  | u => (u, s)

end Sys2Proof.Machine
end

