-- ==== Sys2Proof/Machine/Auth.lean ====
section
/-! DEFINITION. Amarod frame authentication: trailers, freshness, the checks and generations of the authentication slot,
beacons and retractions (R65-R67, R152-R154, R208, R279-R293). -/

namespace Sys2Proof.Machine

/-! ### Trailers and authenticated data (Tables 11.8 and 11.9) -/

def trailer (afa12 : Bool) (fv : Nat) (tag : Bytes) : Bytes :=
  if afa12 then be 4 (fv % 2 ^ 32) ++ tag.take 8 else be 2 (fv % 2 ^ 16) ++ tag.take 4

/-- The authenticated data of a frame whose data field before the trailer is `data`. -/
def authData (domain : Nat) (afa12 : Bool) (w : Wire) (fv : Nat) (data : Bytes) : Bytes :=
  let flags := w.kind + 4 * b2n (w.ide && w.kind != 2) + 8 * b2n afa12
  be 1 domain ++ be 1 flags ++ be 4 (idWord w) ++ be 8 fv ++ be 2 data.length ++
    (if w.kind = 2 then be 4 w.af else []) ++ data

def blocksIn (d : Bytes) : Nat := max 1 ((d.length + 15) / 16)

/-- A data field with room for a trailer: an FD field is padded to its DLC size (R280). DEDUCED (log 107): a CAN XL field is not
padded, so that an XL beacon has 22 or 28 bytes, where R66 names the sizes of the FD form. -/
def withRoom (kind tl : Nat) (pad : Byte) (data : Bytes) : Bytes :=
  if kind = 1 then padTo (fdSize (data.length + tl) - tl) pad data else data

/-! ### Freshness counters (R282-R286) -/

/-- Is a freshness entry marked invalid (R438)? Tables: 0 lanes, 1 beacons, 2 retractions. -/
def State.fvInvalid (s : State) (table index : Nat) : Bool := s.ciph.invalid.contains (65536 * table + index)

def State.lane (s : State) (i : Nat) : Nat := SMap.get 0 s.ciph.lanes i
def State.setLane (s : State) (i v : Nat) : State :=
  { s with ciph := { s.ciph with lanes := SMap.set 0 s.ciph.lanes i v } }
def State.beaconFv (s : State) (n : Nat) : Nat := SMap.get 0 s.ciph.beacon n
def State.retractFv (s : State) (n : Nat) : Nat := SMap.get 0 s.ciph.retract n

/-- The shadow item of a port's originated counters (Table 13.7). -/
def State.originDelta (s : State) (n : Nat) : State := s.delta 2 n (le 8 (s.beaconFv n) ++ le 8 (s.retractFv n))

def State.setBeaconFv (s : State) (n v : Nat) : State :=
  State.originDelta { s with ciph := { s.ciph with beacon := SMap.set 0 s.ciph.beacon n v } } n
def State.setRetractFv (s : State) (n v : Nat) : State :=
  State.originDelta { s with ciph := { s.ciph with retract := SMap.set 0 s.ciph.retract n v } } n

/-- Reconstruct a freshness value from the k low bits of the trailer (R284). -/
def reconstruct (last k r : Nat) : Nat :=
  let c := last - last % 2 ^ k + r
  if c ≤ last then c + 2 ^ k else c

/-- Every counter as CIPH_FV_DATA will read it from now on. -/
def State.latchFv (s : State) : State :=
  let t := fun (k : Nat) (m : List (Nat × Nat)) => m.map fun (e : Nat × Nat) => ((k * 65536 + e.1, e.2) : Nat × Nat)
  { s with ciph := { s.ciph with seen := t 0 s.ciph.lanes ++ t 1 s.ciph.beacon ++ t 2 s.ciph.retract } }

/-! ### Checks (R284, R289) -/

/-- The outcome of a check: a reason of Table 11.11 or a pass, by the alternate slot or not, with the value used. -/
structure Verdict where
  reason : Nat      -- 0: passed
  alt    : Bool
  fv     : Nat
  deriving DecidableEq, Repr

/-- One MAC computation under a slot: the failure reason, 0 for a match. -/
def State.tryMac (s : State) (slot : Nat) (d tag : Bytes) (mismatches : Nat) : Nat × State :=
  match s.operate 1 slot attrAfa (blocksIn d) mismatches with
  | (.done k, s) => (if (cmac k d).take tag.length = tag then 0 else 1, s)
  | (.fault, s) => (5, s)
  | (_, s) => (4, s)

/-- Check a frame's trailer under its route's profile. -/
def State.checkTrailer (s : State) (r : Route) (w : Wire) (faults : List Nat) : Verdict × List Nat × State :=
  let tl := trailerLen r.afa12
  if w.rtr || decide (w.data.length < tl) || (r.afa12 && w.kind == 0) then ({ reason := 3, alt := false, fv := 0 }, faults, s)
  else
    let data := w.data.take (w.data.length - tl)
    let tr := w.data.drop (w.data.length - tl)
    let fb := if r.afa12 then 4 else 2
    let last := s.lane (laneIndex r w)
    let c := reconstruct last (8 * fb) (unBe (tr.take fb))
    if r.acceptWin < c - last ∨ s.fvInvalid 0 (laneIndex r w) = true then ({ reason := 2, alt := false, fv := c }, faults, s)
    else
      let d := authData 1 r.afa12 w c data
      let (e, s) := s.tryMac r.keySlot d (tr.drop fb) (faults.headD 0)
      let faults := faults.drop 1
      if r.altEn && (e == 1 || e == 4) then
        let (e, s) := s.tryMac r.altSlot d (tr.drop fb) (faults.headD 0)
        ({ reason := e, alt := true, fv := c }, faults.drop 1, s)
      else ({ reason := e, alt := false, fv := c }, faults, s)

/-- A failing check is counted, recorded and reported, and the flow becomes gap-pending. -/
def State.checkFailed (s : State) (f : Frame) (r : Route) (v : Verdict) : State :=
  let lane := laneIndex r f.wire % 16
  let k := if v.reason = 1 then 2 else if v.reason = 2 then 3 else if v.reason = 3 then 4 else if v.reason = 4 then 5 else 6
  let s := (s.count (Reg.CIPH_AFA_CNTk k)).gap f.flow
  s.afaRecord r lane v.reason f.ingress

/-- A passing check: the lane moves on, the copies may leave (without the trailer under STRIP), the internal copies are
delivered. -/
def State.checkPassed (s : State) (fid : Nat) (f : Frame) (r : Route) (v : Verdict) : State :=
  let s := (s.setLane (laneIndex r f.wire) v.fv).count (Reg.CIPH_AFA_CNTk (if v.alt then 1 else 0))
  let s := { s.setFrame fid { f with auth := 1 } with hal := { s.hal with awaited := SMap.del s.hal.awaited fid } }
  let s := if r.strip && !r.runAhead then
      (let bare := { f.wire with data := f.wire.data.take (f.wire.data.length - trailerLen r.afa12) }
       s.mapCopies fun c => if c.fid = fid then { c with wire := { s.translate r bare c.port with brs := c.wire.brs } } else c)
    else s
  let s := s.readyCopies fid
  let still := s.fab.sending.map fun (e : Nat × Copy) => if e.2.fid = fid then (e.1, { e.2 with ahead := false, ready := true }) else e
  let s := { s with fab := { s.fab with sending := still } }
  (s.deliverInternal fid).settle fid

/-! ### Generation (R285, R291) -/

/-- A trailer under a slot for a counter's next value: the frame's data field with its trailer; `bad`: the counter's entry is
marked invalid. -/
def State.makeTrailer (s : State) (domain slot : Nat) (afa12 : Bool) (w : Wire) (fv : Nat) (pad : Byte) (bad : Bool)
    (mismatches : Nat) : Option Bytes × KeyUse × State :=
  if bad then (none, .fault, s)
  else
    let data := withRoom w.kind (trailerLen afa12) pad w.data
    let d := authData domain afa12 w fv data
    match s.operate 1 slot attrAfa (blocksIn d) mismatches with
    | (.done k, s) => (some (data ++ trailer afa12 fv (cmac k d)), .done k, s)
    | (u, s) => (none, u, s)

/-- The completion status of a generation that failed (Table 11.11). -/
def genStatus : KeyUse → Nat
  | .exhausted => 0x08
  | .usage => 0x21
  | .fault => 0x2F
  | .done _ => 0

/-- Does a copy of the frame wait in a queue for its trailer? -/
def State.awaitsTrailer (s : State) (fid : Nat) : Bool :=
  (s.fab.queues.any fun (e : Nat × List Copy) => e.2.any fun (c : Copy) => c.fid == fid && c.addAfa) ||
  (s.pwr.domains.any fun (e : Nat × Domain) => e.2.hold.any fun (c : Copy) => c.fid == fid && c.addAfa)

/-- Generate the trailer of a frame on an AFA_ADD route: all its external copies share it. For a held frame nothing is
generated (R346). -/
def State.generate (s : State) (fid : Nat) (mismatches : Nat) : State :=
  match (s.frame? fid).filter fun _ => s.awaitsTrailer fid with
  | none => s
  | some f =>
    match f.route with
    | none => s
    | some r =>
      let low := r.external.headD 0
      let w := s.translate r f.wire low
      let i := laneIndex r w
      let fv := (s.lane i + 1) % 2 ^ 64
      let (out, u, s) := s.makeTrailer 1 r.keySlot r.afa12 w fv (s.padByte low) (s.fvInvalid 0 i) mismatches
      match out with
      | some data =>
        let s := ((s.setLane i fv).delta 1 i (le 8 fv)).count (Reg.CIPH_AFA_CNTk 7)
        s.mapCopies fun c =>
          if c.fid = fid then { c with wire := { c.wire with data := data }, ready := true, addAfa := false } else c
      | none =>
        let s := (s.count (Reg.CIPH_AFA_CNTk 8)).afaRecord r (i % 16) (if genStatus u = 0x2F then 5 else 4) f.ingress
        let (cs, s) := s.withdraw fid
        cs.foldl (fun (s : State) (c : Copy) => s.copyFinal fid c.port (genStatus u) 0 true) s

/-! ### Beacons (R65-R67, R208, R292) -/

def Beacon.fresh : Beacon := { seq := 0, prev := none, due := false, sent := [] }

def State.beaconOf (s : State) (n : Nat) : Beacon := SMap.get Beacon.fresh s.time.beacons n

def State.setBeacon (s : State) (n : Nat) (b : Beacon) : State :=
  { s with time := { s.time with beacons := SMap.set Beacon.fresh s.time.beacons n b } }

/-- The waiting copies of a port's beacon, if it has one that has not started. -/
def State.beaconCopies (s : State) (n : Nat) : List Copy :=
  (s.queue n 7).filter fun c => (s.frame? c.fid).map (·.origin) == some .beacon

/-- Remove a port's waiting beacon. -/
def State.dropBeacon (s : State) (n : Nat) : State :=
  (s.beaconCopies n).foldl (fun (s : State) (c : Copy) => ((s.withdraw c.fid).2).release c.fid) s

/-- The beacon frame of a port without its payload. -/
def State.beaconWire (s : State) : Wire :=
  let id := s.cur Fld.TIME_BCN_ID_ID
  if s.on Fld.TIME_BCN_FMT_XL then
    { kind := 2, ide := false, brs := false, rtr := false, esi := false,
      id := id % 2 ^ 11 + s.cur Fld.TIME_BCN_XL_SDT * 2 ^ 16 + s.cur Fld.TIME_BCN_XL_VCID * 2 ^ 24,
      af := (s.liveReg Reg.TIME_BCN_AF).toNat, data := [] }
  else
    let ide := s.on Fld.TIME_BCN_ID_IDE
    { kind := 1, ide := ide, brs := s.on Fld.TIME_BCN_FMT_BRS, rtr := false, esi := false, id := idSent ide id, af := 0,
      data := [] }

/-- May a port carry a beacon now? A port in SLEEP or WAKING consumes no SEQ (R208); a device-originated frame needs the
claim and a port that transmits (R13, R174). -/
def State.beaconAllowed (s : State) (n : Nat) : Bool :=
  let st := s.canState n
  s.beaconOn n && s.claimed && (st == 1 || st == 2 || st == 3 || st == 4) && !s.on (Fld.CANP_MODE_LISTEN n)

/-- A beacon is due on a port: it takes its place in the class-7 queue and waits for its trailer; one that has not
started is replaced. -/
def State.beaconDue (s : State) (n : Nat) : State :=
  if s.beaconAllowed n then
    let s := s.dropBeacon n
    let f := deviceFrame .beacon n 7 s.beaconWire
    let (fid, s) := s.alloc f
    let s := s.setBeacon n { s.beaconOf n with due := true }
    let s := s.offer { fid := fid, port := n, wire := s.beaconWire, ready := false, addAfa := true, ahead := false,
                       attempts := 0 } f
    if s.fab.authq.contains (.beacon n) then s
    else { s with fab := { s.fab with authq := s.fab.authq ++ [.beacon n] } }
  else s

/-- The beacon payload of Table 3.4, formed at the generation. -/
def State.beaconPayload (s : State) (n : Nat) : Bytes :=
  let b := s.beaconOf n
  let st := s.get Fld.TIME_STATUS_STATE
  let corr := (s.reefOf n).corr.head?
  let flags := 8 * b2n (st == 2) + 4 * b2n (st == 3 || st == 4) + 2 * b2n corr.isSome + b2n b.prev.isSome
  let (pseq, psof) := b.prev.getD (0, 0)
  let (node, c) := corr.getD (0, 0)
  be 1 (0x10 + flags) ++ be 1 b.seq ++ be 1 pseq ++ be 1 (s.get Fld.BEAT_STATUS_LEN_CUR) ++ be 8 psof ++ be 1 node ++
    be 3 (ofInt 3 c)

/-- The trailer of a port's beacon; where its slot fails, the beacon is not sent. -/
def State.beaconGenerate (s : State) (n mismatches : Nat) : State :=
  match s.beaconCopies n with
  | [] => s
  | c :: _ =>
    let b := s.beaconOf n
    let w := { s.beaconWire with data := s.beaconPayload n }
    let fv := (s.beaconFv n + 1) % 2 ^ 64
    let (out, _, s) := s.makeTrailer 2 (s.cur Fld.TIME_BCN_FMT_KEY_SLOT) (s.on Fld.TIME_BCN_FMT_AFA12) w fv (s.padByte n)
      (s.fvInvalid 1 n) mismatches
    match out with
    | some data =>
      let s := (s.setBeaconFv n fv).count (Reg.CIPH_AFA_CNTk 9)
      let s := s.setReef n { s.reefOf n with corr := (s.reefOf n).corr.drop 1 }
      let s := s.setBeacon n { b with seq := (b.seq + 1) % 256, due := false, sent := b.sent.drop (b.sent.length - 1) ++ [b.seq] }
      let s := match s.frame? c.fid with
        | some f => s.setFrame c.fid { f with wire := { w with data := data } }
        | none => s
      s.mapCopies fun x => if x.fid = c.fid then { x with wire := { w with data := data }, ready := true, addAfa := false } else x
    | none => ((s.count (Reg.CIPH_AFA_CNTk 10)).setBeacon n { b with due := false }).dropBeacon n

/-! ### Retractions (R152-R154, R293) -/

/-- Form and queue the retraction of a frame on a port; false: it could not be formed or authenticated. -/
def State.retractOn (s : State) (r : Route) (w : Wire) (stamp : Tai) (v : Verdict) (n mismatches : Nat) : Bool × State :=
  let id := r.retractId
  let kind := bits id 31 30
  let ide := bit id 29
  if kind = 2 ∨ kind = 3 ∨ (kind = 0 ∧ r.afa12 = true) ∨ (kind = 1 ∧ s.canKind n = 0) then
    (false, s.count (Reg.CIPH_AFA_CNTk 10))
  else
    let fv := (s.retractFv n + 1) % 2 ^ 64
    let rfv := if v.reason = 3 then 0 else v.fv
    let seq := (s.canOf n).retractSeq
    let payload := if kind = 1 then be 1 (0x10 + v.reason) ++ be 1 seq ++ be 4 (canKey w) ++ be 8 rfv else be 2 (rfv % 2 ^ 16)
    let m : Wire := { kind := kind, ide := ide, brs := kind == 1, rtr := false, esi := false,
                      id := idSent ide (bits id 28 0), af := 0, data := payload }
    let (out, _, s) := s.makeTrailer 3 r.keySlot r.afa12 m fv (s.padByte n) (s.fvInvalid 2 n) mismatches
    match out with
    | some data =>
      let s := (s.setRetractFv n fv).count (Reg.CIPH_AFA_CNTk 9)
      let s := s.setCan n { s.canOf n with retractSeq := (seq + 1) % 256 }
      let m := { m with data := data }
      let f := { deviceFrame .retraction n 7 m with mkey := stamp, mroute := r.index }
      let (fid, s) := s.alloc f
      (true, s.offer { fid := fid, port := n, wire := m, ready := true, addAfa := false, ahead := false, attempts := 0 } f)
    | none => (false, s.count (Reg.CIPH_AFA_CNTk 10))

/-- Retract a frame on every port where it completed, or will: was any retraction sent, did any fail? -/
def State.retract (s : State) (r : Route) (w : Wire) (stamp : Tai) (v : Verdict) (ports : List Nat) (faults : List Nat) :
    (Bool × Bool) × State :=
  (ports.zipIdx).foldl (fun (a : (Bool × Bool) × State) (e : Nat × Nat) =>
    let (ok, s) := a.2.retractOn r w stamp v e.1 (faults.getD e.2 0)
    ((a.1.1 || ok, a.1.2 || !ok), s)) ((false, false), s)

/-- A failing check of a frame (R114, R146-R154): its external copies never leave; copies that run ahead are destroyed
before their deadline and retracted after it; internal copies are delivered under DELIVER_FAILED. -/
def State.checkRejects (s : State) (fid : Nat) (f : Frame) (r : Route) (v : Verdict) (faults : List Nat) : State :=
  let s := (s.checkFailed f r v).setFrame fid { f.marked s with auth := 2 }
  -- R348: held copies that the partner's SENT markers discarded are retracted into the replay buffer
  let (_, s) := s.retract r f.wire f.stamp v (SMap.get [] s.hal.awaited fid) faults
  let s := { s with hal := { s.hal with awaited := SMap.del s.hal.awaited fid } }
  let ahead := s.aheadCopies fid
  let x := (s.raOf fid).getD (RaFrame.fresh r.index f.ingress)
  let dying := ahead.filter fun e => !x.past.contains e.1
  let gone := natSort (natDedup (x.completed ++ (ahead.map (·.1)).filter fun p => x.past.contains p))
  let still := s.fab.sending.map fun (e : Nat × Copy) =>
    if e.2.fid = fid ∧ x.past.contains e.1 then (e.1, { e.2 with ahead := false, last := true }) else e
  let s := { s with fab := { s.fab with sending := still } }
  let s := dying.foldl (fun (s : State) (e : Nat × Copy) => s.destroyCopy e.1 e.2) s
  let s := s.dropWaiting fid
  let s := if r.deliverFailed then s.deliverInternal fid else s.dropInternal fid
  let ((sent, failed), s) := s.retract r f.wire f.stamp v gone faults
  let s := if dying.isEmpty || x.cancelled then s else s.count Reg.FAB_RA_ABORT_CNT
  let s := if sent then s.count Reg.FAB_RA_RETRACT_CNT else s
  let s := if (!dying.isEmpty || sent) && !x.cancelled then
      s.raCancelled r.index f.ingress (if dying.isEmpty then 5 else 3) else s
  let s := if failed then
      (s.raDisable r.index 3 f.ingress).raise 0x050D (unitOf 1 f.ingress) [n4 r.index, n4 r.keySlot]
    else s
  s.settle fid

/-! ### The authentication slot (R37, R264) -/

/-- Cycles of the job's first operation, for a slot's budget. -/
def State.jobCycles (s : State) (j : AuthJob) : Nat :=
  let cost := fun (slot len : Nat) => match s.keyOf slot with
    | some k => opCycles k.key.length (max 1 ((len + 15) / 16))
    | none => 0
  match j with
  | .check fid | .gen fid => match s.frame? fid with
    | some f => (match f.route with | some r => cost r.keySlot (20 + f.wire.data.length) | none => 0)
    | none => 0
  | .beacon _ => cost (s.cur Fld.TIME_BCN_FMT_KEY_SLOT) 40

/-- One job of the slot; `faults`: the parity mismatches its operations meet, in order. -/
def State.authJob (s : State) (j : AuthJob) (faults : List Nat) : List Nat × State :=
  match j with
  | .check fid =>
    match s.frame? fid with
    | none => (faults, s)
    | some f =>
      match f.route with
      | none => (faults, s)
      | some r =>
        let (v, faults, s) := s.checkTrailer r f.wire faults
        (faults, if v.reason = 0 then s.checkPassed fid f r v else s.checkRejects fid f r v faults)
  | .gen fid => (faults.drop 1, s.generate fid (faults.headD 0))
  | .beacon n => (faults.drop 1, s.beaconGenerate n (faults.headD 0))

/-- Run the queued jobs in order while the slot has cycles left; the rest are deferred. -/
def State.authRun : Nat → List Nat → State → State
  | 0, _, s => s
  | n + 1, faults, s =>
    match s.fab.authq with
    | [] => s
    | j :: rest =>
      if s.beat.used + s.jobCycles j ≤ s.slotCycles 2 then
        let (faults, s) := ({ s with fab := { s.fab with authq := rest } }).authJob j faults
        State.authRun n faults s
      else s

end Sys2Proof.Machine
end

