-- ==== Sys2Proof/Machine/Cipher.lean ====
section
/-! DEFINITION. The commands of the cipher engine and the key vault: the authentication and service slots, the host
crypto jobs, key loads and retirement, freshness writes and the alarm (chapter "Cipher Engine, Key Vault and Amarod Frame
Authentication"). -/

namespace Sys2Proof.Machine

/-! ### Host crypto jobs (R276-R278, Tables 11.5-11.7) -/

/-- Blocks of a job (R262). -/
def Job.work (j : Job) : Nat :=
  if j.op = 1 ∨ j.op = 2 then max 1 ((j.len + 15) / 16)
  else if j.op = 3 then (j.len + 15) / 16
  else if j.op = 4 ∨ j.op = 5 then (j.alen + 15) / 16 + (j.len + 15) / 16 + 1
  else 6 * (j.len / 8 - 1)

/-- Are LEN, ALEN and TLEN within Tables 11.5 and 11.6? -/
def Job.lengthsOk (j : Job) : Bool :=
  (if j.op = 4 ∨ j.op = 5 then decide (j.alen ≤ 1024) else j.alen == 0) && decide (j.len ≤ 16384) &&
  (j.op != 2 || decide (4 ≤ bits j.aux 4 0 ∧ bits j.aux 4 0 ≤ 16)) &&
  (decide (j.op < 6) || j.len == 24 || j.len == 32 || j.len == 40)

/-- The attribute that a job needs of its slot. -/
def Job.attrNeeded (j : Job) : Nat := if j.op ≤ 2 then attrMac else if j.op ≤ 5 then attrEnc else attrKek

/-- Key bytes of a SIZE code. -/
def keyBytes (size : Nat) : Nat := 16 + 8 * size

/-- A status that ends the job before its operation. -/
def State.jobRefused (s : State) (j : Job) : Option Nat :=
  if !j.lengthsOk then some 0x23
  else if j.op = 7 ∧ s.loadRefused j.attr = true then some 0x26
  else if j.op = 7 ∧ badAttr j.attr then some 0x27
  else match s.keyFor j.slot j.attrNeeded with
    | .exhausted => some 0x08
    | .usage => some 0x21
    | _ =>
      if j.op = 6 then
        match s.keyOf j.target with
        | none => some 0x25
        | some k => if !s.keyAttr j.target attrExport then some 0x25
          else if j.len ≠ k.key.length + 8 then some 0x23 else none
      else none

/-- What an operation under a key gives: a status and the output bytes. -/
def State.jobOutput (s : State) (j : Job) (key : Bytes) : Nat × Bytes :=
  let d := j.input
  if j.op = 1 then (0, cmac key (d.take j.len))
  else if j.op = 2 then
    let n := bits j.aux 4 0
    (if (cmac key (d.take j.len)).take n = (d.drop j.len).take n then 0 else 0x22, [])
  else if j.op = 3 then (0, ctrMode key (d.take 16) ((d.drop 16).take j.len))
  else if j.op = 4 then
    let aad := (d.drop 12).take j.alen
    let c := gcmCrypt key (d.take 12) ((d.drop (12 + j.alen)).take j.len)
    (0, c ++ gcmTag key (d.take 12) aad c)
  else if j.op = 5 then
    let aad := (d.drop 12).take j.alen
    let c := (d.drop (12 + j.alen)).take j.len
    let tag := (d.drop (12 + j.alen + j.len)).take 16
    if gcmTag key (d.take 12) aad c = tag then (0, gcmCrypt key (d.take 12) c) else (0x22, [])
  else if j.op = 6 then (0, keyWrap key ((s.keyOf j.target).map (·.key) |>.getD []))
  else
    match keyUnwrap key (d.take j.len) with
    | some _ => (0, [])
    | none => (0x24, [])

/-- The output of a CRYPTO job goes to host memory, or waits for the link (R104). -/
def State.jobWrite (s : State) (addr : Nat) (data : Bytes) : State :=
  if data = [] then s
  else if s.get Fld.HIF_STATUS_LINK_UP = 1 ∧ s.hif.linkReady = true then s.emit (.dmaWrite addr data)
  else { s with hif := { s.hif with outputs := s.hif.outputs ++ [(addr, data)] } }

/-- Does a job hold the engine to the end of the slot? -/
def State.engineHeld (s : State) : Bool :=
  (s.ciph.jobs.any fun (j : Job) => j.running) || s.ciph.mgtJobs.any fun (j : MgtJob) => j.running

/-- Run the head host job: it ends, or is still running at the end of the slot. -/
def State.runHostJob (s : State) (mismatches : Nat) : State :=
  match s.ciph.jobs with
  | [] => s
  | j :: rest =>
    match s.jobRefused j with
    | some st => s.jobFinal j st
    | none =>
      let cost : Nat := match s.keyOf j.slot with
        | some k => opCycles k.key.length j.work
        | none => 0
      if s.slotCycles 3 < s.beat.used + cost then
        (({ s with ciph := { s.ciph with jobs := { j with running := true } :: rest } }).put Fld.CIPH_LOCK_OWNER 2)
      else
        let s := { s with ciph := { s.ciph with jobs := { j with running := true } :: rest } }
        match s.operate 2 j.slot j.attrNeeded j.work mismatches with
        | (.done key, s) =>
          let (st, out) := s.jobOutput j key
          let s := s.jobWrite j.dst out
          let s := if j.op = 7 ∧ st = 0 then
              s.stageLoad j.target (j.len / 8 - 3) j.attr j.aux ((keyUnwrap key (j.input.take j.len)).getD [])
            else s
          if s.ciph.jobs.head?.map (·.tag) = some j.tag ∧ s.ciph.jobs.length = rest.length + 1 then s.jobFinal j st else s
        | (.fault, s) => if s.ciph.jobs.length = rest.length + 1 then s.jobFinal j 0x2F else s
        | (.usage, s) => if s.ciph.jobs.length = rest.length + 1 then s.jobFinal j 0x21 else s
        | (.exhausted, s) => if s.ciph.jobs.length = rest.length + 1 then s.jobFinal j 0x08 else s

/-- Has a requester of the service slot a job; with `late`, one deferred from an earlier slot? -/
def State.jobWaits (s : State) (late : Bool) (c : Nat) : Bool :=
  if c = 2 then (match s.ciph.jobs with
    | j :: _ => !late || j.late
    | [] => false)
  else s.ciph.mgtJobs.any fun (j : MgtJob) => j.code == c && (!late || j.late)

/-- The requester served next: round-robin among HOST and MGT0-MGT3 after the one served last (R264); work deferred from an
earlier service slot goes ahead of new work (R39). -/
def State.nextRequester (s : State) : Option Nat :=
  let order := (List.range 5).map fun k => 2 + (s.ciph.last - 2 + 1 + k) % 5
  match order.find? (s.jobWaits true) with
  | some c => some c
  | none => order.find? (s.jobWaits false)

/-- CIPH_LOCK.PEND shows the requesters with work. -/
def State.showPend (s : State) : State :=
  let waits := fun (c : Nat) => if c = 1 then !s.fab.authq.isEmpty else s.jobWaits false c
  s.put Fld.CIPH_LOCK_PEND (((List.range 6).map fun k => if waits (k + 1) then 2 ^ k else 0).sum)

/-- Change the first job of a requester; `none` removes it. -/
def changeFirst (c : Nat) (g : MgtJob → Option MgtJob) : List MgtJob → List MgtJob
  | [] => []
  | j :: l => if j.code = c then (match g j with
      | some j => j :: l
      | none => l) else j :: changeFirst c g l

/-- Run the first job of a management requester: it ends, or is still running at the end of the slot. -/
def State.runMgtJob (s : State) (c : Nat) : State :=
  let cost : Nat := ((s.ciph.mgtJobs.find? fun (j : MgtJob) => j.code == c).map (·.cycles)).getD 0
  if s.slotCycles 3 < s.beat.used + cost then
    let l := changeFirst c (fun (j : MgtJob) => some { j with running := true }) s.ciph.mgtJobs
    ({ s with ciph := { s.ciph with mgtJobs := l } }).put Fld.CIPH_LOCK_OWNER c
  else
    let l := changeFirst c (fun (_ : MgtJob) => none) s.ciph.mgtJobs
    { s with ciph := { s.ciph with mgtJobs := l }, beat := { s.beat with used := s.beat.used + cost } }

/-- The service slot: one job per grant until the slot's cycles or the work are used up. -/
def State.serviceRun : Nat → List Nat → State → State
  | 0, _, s => s.showPend
  | n + 1, faults, s =>
    if s.engineHeld then s.showPend
    else match s.nextRequester with
    | none => (s.put Fld.CIPH_LOCK_OWNER 0).showPend
    | some c =>
      let s := { s with ciph := { s.ciph with last := c } }
      if c = 2 then State.serviceRun n (faults.drop 1) (s.runHostJob (faults.headD 0))
      else State.serviceRun n faults (s.runMgtJob c)

/-- A host job stopped three times completes with SLOT_TOO_SHORT (Table 2.4). -/
def State.tooShort (s : State) : State :=
  match s.ciph.jobs with
  | j :: _ => if 3 ≤ j.stops then s.jobFinal j 0x0C else s
  | [] => s

/-- The requester whose turn comes before another's. -/
def turnBefore (c : Nat) : Nat := if c = 2 then 6 else c - 1

/-- The service slot ends: the job that holds the engine is stopped without output and comes first in the next service slot;
at its third stop it completes with SLOT_TOO_SHORT. All jobs left are deferred (R38, R39, Table 2.4). -/
def State.stopJobs (s : State) : State :=
  let s := s.put Fld.CIPH_LOCK_OWNER 0
  let s := { s with ciph := { s.ciph with
      jobs := s.ciph.jobs.map fun (j : Job) => { j with late := true },
      mgtJobs := s.ciph.mgtJobs.map fun (j : MgtJob) => { j with late := true } } }
  let s := match s.ciph.jobs with
    | j :: rest =>
      if j.running then
        let j := { j with running := false, stops := j.stops + 1 }
        let last := if j.stops < 3 then 6 else 2
        ({ s with ciph := { s.ciph with jobs := j :: rest, last := last } }).tooShort
      else s
    | [] => s
  match s.ciph.mgtJobs.find? fun (j : MgtJob) => j.running with
  | none => s
  | some j =>
    let last : Bool := decide (3 ≤ j.stops + 1)
    let l := changeFirst j.code (fun (x : MgtJob) => if last then none else some { x with running := false, stops := x.stops + 1 })
      s.ciph.mgtJobs
    { s with ciph := { s.ciph with mgtJobs := l, last := if last then j.code else turnBefore j.code } }

/-! ### Slots -/

/-- The cipher lock is held no longer as its slot ends, and jobs of the service slot are stopped (R35, R263, R38). -/
def State.leaveSlot (s : State) : State :=
  if s.beat.ended then s
  else
    let k := s.get Fld.BEAT_STATUS_SLOT_CUR
    let s := { s with beat := { s.beat with ended := true } }
    if k = 2 then s.put Fld.CIPH_LOCK_OWNER 0 else if k = 3 then s.stopJobs else s

/-- A slot of the beat is in progress: its number shows in BEAT_STATUS, and its cipher cycles are all to come. -/
def State.enterSlot (s : State) (k : Nat) : State :=
  if s.get Fld.BEAT_STATUS_SLOT_CUR = k then s
  else
    let s := s.leaveSlot.put Fld.BEAT_STATUS_SLOT_CUR k
    { s with beat := { s.beat with used := 0, demand := 0, ended := false } }

/-- AUTHENTICATION_SLOT: the fabric takes the lock and works through its queue while the slot has time; a later command in
the same slot goes on with what has joined the queue. `faults`: parity mismatches of its operations, in order (R37);
`bad`: queues found with differing pointers (R132). At other times there is no such slot to run. -/
def execAuthenticationSlot (faults : List Nat) (bad : List (Nat × Nat)) (t : Tai) (s : State) : Host.Outcome State Fault Refusal :=
  unlessHeld s <|
  let s := s.at t
  runIf (Instr.authenticationSlot faults bad t).wf "AUTHENTICATION_SLOT"
    (if s.slotOpen 2 then
       (let s := ((s.enterSlot 2).put Fld.CIPH_LOCK_OWNER 1).resetQueues bad
        (s.authRun s.fab.authq.length faults).showPend)
     else s)

/-- The management jobs that a service slot finds, behind those deferred. -/
def State.takeMgtJobs (s : State) (mgt : List (Nat × Nat)) : State :=
  let l := mgt.map fun (e : Nat × Nat) => ({ code := e.1, cycles := e.2, stops := 0, running := false, late := false } : MgtJob)
  { s with ciph := { s.ciph with mgtJobs := s.ciph.mgtJobs ++ l } }

/-- SERVICE_SLOT: `mgt`: new jobs of the management requesters as (code, cycles), each in order; `faults`: parity mismatches
of the host jobs (R264). At other times there is no such slot to run. -/
def execServiceSlot (mgt : List (Nat × Nat)) (faults : List Nat) (t : Tai) (s : State) : Host.Outcome State Fault Refusal :=
  unlessHeld s <|
  let s := s.at t
  runIf (Instr.serviceSlot mgt faults t).wf "SERVICE_SLOT"
    (if s.slotOpen 3 then
       (let s := (s.enterSlot 3).takeMgtJobs mgt
        State.serviceRun (s.ciph.mgtJobs.length + s.ciph.jobs.length + 1) faults s)
     else s)

/-- The head host job runs, if it is of this operation, the service slot is in progress and the lock comes to HOST. -/
def State.jobOf (s : State) (op mismatches : Nat) : State :=
  if (s.ciph.jobs.head?.map (·.op)) = some op ∧ s.get Fld.BEAT_STATUS_SLOT_CUR = 3 ∧ s.slotOpen 3 = true ∧
      s.engineHeld = false ∧ s.nextRequester = some 2 then
    ({ s with ciph := { s.ciph with last := 2 } }).runHostJob mismatches
  else s

/-- CMAC_GEN: the job in turn computes a CMAC tag. `mismatches`: parity mismatches it meets. -/
def execCmacGen (mismatches : Nat) (t : Tai) (s : State) : Host.Outcome State Fault Refusal :=
  unlessHeld s <|
  runIf (Instr.cmacGen mismatches t).wf "CMAC_GEN" ((s.at t).jobOf 1 mismatches)
/-- CMAC_VERIFY. -/
def execCmacVerify (mismatches : Nat) (t : Tai) (s : State) : Host.Outcome State Fault Refusal :=
  unlessHeld s <|
  runIf (Instr.cmacVerify mismatches t).wf "CMAC_VERIFY" ((s.at t).jobOf 2 mismatches)
/-- CTR. -/
def execCtr (mismatches : Nat) (t : Tai) (s : State) : Host.Outcome State Fault Refusal :=
  unlessHeld s <|
  runIf (Instr.ctr mismatches t).wf "CTR" ((s.at t).jobOf 3 mismatches)
/-- GCM_ENC. -/
def execGcmEnc (mismatches : Nat) (t : Tai) (s : State) : Host.Outcome State Fault Refusal :=
  unlessHeld s <|
  runIf (Instr.gcmEnc mismatches t).wf "GCM_ENC" ((s.at t).jobOf 4 mismatches)
/-- GCM_DEC. -/
def execGcmDec (mismatches : Nat) (t : Tai) (s : State) : Host.Outcome State Fault Refusal :=
  unlessHeld s <|
  runIf (Instr.gcmDec mismatches t).wf "GCM_DEC" ((s.at t).jobOf 5 mismatches)
/-- WRAP. -/
def execWrap (mismatches : Nat) (t : Tai) (s : State) : Host.Outcome State Fault Refusal :=
  unlessHeld s <|
  runIf (Instr.wrap mismatches t).wf "WRAP" ((s.at t).jobOf 6 mismatches)
/-- UNWRAP. -/
def execUnwrap (mismatches : Nat) (t : Tai) (s : State) : Host.Outcome State Fault Refusal :=
  unlessHeld s <|
  runIf (Instr.unwrap mismatches t).wf "UNWRAP" ((s.at t).jobOf 7 mismatches)

/-- SLOT_TOO_SHORT: the job in turn has been stopped three times. -/
def execSlotTooShort (t : Tai) (s : State) : Host.Outcome State Fault Refusal :=
  unlessHeld s <|
  runIf (Instr.slotTooShort t).wf "SLOT_TOO_SHORT" ((s.at t).tooShort)

/-! ### Keys -/

/-- KEY_LOAD_LIVE: in a commit slot the pending loads go live. -/
def execKeyLoadLive (t : Tai) (s : State) : Host.Outcome State Fault Refusal :=
  unlessHeld s <|
  let s := s.at t
  runIf (Instr.keyLoadLive t).wf "KEY_LOAD_LIVE" (if s.commitDue = true ∧ s.domain 3 = 2 then s.loadsLive else s)

/-- A requested retirement is applied: a slot that holds a key is erased, reason HOST. -/
def State.retireApply (s : State) (n : Nat) : State :=
  if s.cmds.contains (.keyRetire n) then
    let s := { s with cmds := s.cmds.filter fun c => c != RegCmd.keyRetire n }
    if (s.keyOf n).isSome then s.retireKey n 3 else s
  else s

/-- KEY_RETIRE_APPLY. -/
def execKeyRetireApply (n : Nat) (t : Tai) (s : State) : Host.Outcome State Fault Refusal :=
  unlessHeld s <|
  let s := s.at t
  runIf (Instr.keyRetireApply n t).wf "KEY_RETIRE_APPLY" (if s.commitDue then s.retireApply n else s)

/-- KEY_LIMIT_REACHED. -/
def execKeyLimitReached (n : Nat) (t : Tai) (s : State) : Host.Outcome State Fault Refusal :=
  unlessHeld s <|
  runIf (Instr.keyLimitReached n t).wf "KEY_LIMIT_REACHED" ((s.at t).keyLimitReached n)

/-- CIPH_KEY_LOW. -/
def execCiphKeyLow (n : Nat) (t : Tai) (s : State) : Host.Outcome State Fault Refusal :=
  unlessHeld s <|
  runIf (Instr.ciphKeyLow n t).wf "CIPH_KEY_LOW" ((s.at t).keyLow n)

/-- Does a source's condition of Table 11.4 hold? TEMP: a die temperature above 135 °C, `value` in 1/64 °C. TAMPER, while
armed: the input at its active level, high or low, for at least FILT_US, `value` in ns. PARITY: the third mismatch within 1 s
of the first of the three. The detectors of SUPPLY and CLOCK judge their own thresholds. -/
def State.ciphAlarmHolds (s : State) (source : Nat) (value : Int) (high : Bool) : Bool :=
  if source = 2 then decide (135 * 64 < value)
  else if source = 3 then (match s.ciph.parity with
    | [_, _, t0] => decide (s.time.now ≤ t0 + 1000000000)
    | _ => false)
  else if source = 4 then s.on Fld.CIPH_TAMPER_CFG_EN && (high == s.on Fld.CIPH_TAMPER_CFG_ACTIVE_HIGH) &&
    decide (1000 * (s.get Fld.CIPH_TAMPER_CFG_FILT_US : Int) ≤ value)
  else true

/-- CIPH_ALARM: a source of Table 11.4 is seen, with what its sensor measures; `present`: the conditions that stay
present. -/
def execCiphAlarm (source present : Nat) (value : Int) (high : Bool) (t : Tai) (s : State) : Host.Outcome State Fault Refusal :=
  unlessHeld s <|
  let s := s.at t
  let s := { s with ciph := { s.ciph with present := present } }
  runIf (Instr.ciphAlarm source present value high t).wf "CIPH_ALARM"
    (if s.ciphAlarmHolds source value high then s.alarm source else s)

/-- A write of ones to CIPH_ALARM clears the bits whose condition is absent; the latch clears with the last (R275). -/
def State.alarmClear (s : State) (ones : Nat) : State :=
  let keep := (s.w Reg.CIPH_ALARM).land (2 ^ 32 - 1 - ones % 2 ^ 32) ||| ((s.w Reg.CIPH_ALARM).land s.ciph.present)
  let s := s.setReg Reg.CIPH_ALARM (BitVec.ofNat 32 keep)
  if keep = 0 then s.put Fld.CIPH_STATUS_ALARM_LATCHED 0 else s

/-- CIPH_ALARM_CLEAR: `present`: the conditions present at the write. -/
def execCiphAlarmClear (ones present : Nat) (s : State) : Host.Outcome State Fault Refusal :=
  unlessHeld s <|
  let s := s.begin
  runIf (Instr.ciphAlarmClear ones present).wf "CIPH_ALARM_CLEAR"
    (({ s with ciph := { s.ciph with present := present } }).alarmClear ones)

/-- The staged freshness writes are done, at the end of a commit slot (R286). -/
def State.fvApply (s : State) : State :=
  let todo := s.cmds.filterMap fun c => match c with
    | .fvWrite t i v => some (t, i, v)
    | _ => none
  let s := { s with cmds := s.cmds.filter fun c => match c with
    | .fvWrite .. => false
    | _ => true }
  let s := todo.foldl (fun (s : State) (e : Nat × Nat × Nat) =>
    let s := { s with ciph := { s.ciph with invalid := s.ciph.invalid.filter fun (k : Nat) => k != 65536 * e.1 + e.2.1 } }
    if e.1 = 0 then
      (let s := s.setLane e.2.1 e.2.2
       if (s.liveRoute (e.2.1 / 16)).afaAdd then s.delta 1 e.2.1 (le 8 e.2.2) else s)
    else if e.1 = 1 then s.setBeaconFv e.2.1 e.2.2
    else s.setRetractFv e.2.1 e.2.2) s
  s.put Fld.CIPH_FV_STAT_PENDING 0

/-- FV_WRITE_APPLY. -/
def execFvWriteApply (t : Tai) (s : State) : Host.Outcome State Fault Refusal :=
  unlessHeld s <|
  let s := s.at t
  runIf (Instr.fvWriteApply t).wf "FV_WRITE_APPLY" (if s.commitDue = true ∧ s.domain 3 = 2 then s.fvApply else s)

end Sys2Proof.Machine
end

