-- ==== Sys2Proof/Machine/Can.lean ====
section
/-! DEFINITION. The commands of the CAN ports, of the route lookup and of run-ahead (chapters "CAN Ports", "Run-Ahead
Forwarding", R112, R128, R146). -/

namespace Sys2Proof.Machine

/-! ### Reception -/

/-- The lookup of a frame: acceptance in parallel with the route lookup; a rejected frame is counted in no fabric
counter (R184). -/
def State.startArrival (s : State) (n : Nat) (w : Wire) (stamp : Tai) : Arrival × State :=
  let a : Arrival := { looked := .miss, rejected := false, fid := none, gone := false, wire := w, stamp := stamp, at_ := s.time.now }
  if n < 48 ∧ s.accRejects n w then ({ a with rejected := true }, s)
  else
    let (l, s) := s.looked n none w
    ({ a with looked := l }, s)

/-- The arrival that the lookup of a frame left behind, or its lookup now. -/
def State.takeArrival (s : State) (n : Nat) (w : Wire) (stamp : Tai) : Arrival × State :=
  match SMap.look s.fab.arrivals n with
  | some a => (a, { s with fab := { s.fab with arrivals := SMap.del s.fab.arrivals n } })
  | none => s.startArrival n w stamp

/-- A frame of which copies have started ahead is valid: without an AFA check its copies are ready and its internal
copies delivered; with one, its check joins the authentication queue. -/
def State.raValid (s : State) (fid : Nat) (i : Inbound) (r : Route) : State :=
  match s.frame? fid, s.raOf fid with
  | some f, some x =>
    let s := s.setRa fid { x with valid := true }
    let s := s.setFrame fid { f with wire := i.wire, stamp := i.stamp, dur := i.dur, outWin := i.outWin, mkey := i.mkey }
    let s := s.mapCopies fun c =>
      if c.fid = fid then { c with wire := { s.translate r i.wire c.port with brs := c.wire.brs } } else c
    if r.afaCheck then { s with fab := { s.fab with authq := s.fab.authq ++ [.check fid] } }
    else
      let s := s.readyCopies fid
      let still := s.fab.sending.map fun (e : Nat × Copy) => if e.2.fid = fid then (e.1, { e.2 with ahead := false, ready := true }) else e
      let s := (s.aheadCopies fid).foldl (fun (s : State) (e : Nat × Copy) => s.fillEnds e.1) s
      ({ s with fab := { s.fab with sending := still } }).deliverInternal fid
  | _, _ => s

/-- A valid frame leaves acceptance: a rejected one is counted, another is admitted. -/
def State.received (s : State) (i : Inbound) (a : Arrival) : State :=
  if a.rejected then s.count (Reg.CANP_CNTk i.ingress 1)
  else if a.gone then s
  else
    match a.fid, a.looked with
    | some fid, .route r => s.raValid fid i r
    | _, l => s.enter i l

/-- What the Reef controller sees in a valid frame: the muster, the idle timer, the keeper table (R193, R200, R204). -/
def State.reefSees (s : State) (n : Nat) (w : Wire) (sof t : Tai) (woken : Bool) : Bool × State :=
  let ((isReport, outWin), s) := s.musterReport n w sof woken
  let s := if s.cur (Fld.REEF_PORTn_CFG_QUAL n) = 0 ∨ s.wakeAny n w then
      (s.idleRestart n t isReport).keeper n (canKey w) false t
    else s
  (isReport && outWin, s)

/-- Does the wake capture take a frame: its SOF falls between the wake cause and ACTIVE, or it is the frame that woke the port
(R197, R198)? -/
def State.captures (s : State) (n : Nat) (sof : Tai) : Bool :=
  (s.canState n == 1 || s.canState n == 5) && (s.reefOf n).capturing && ((s.reefOf n).woke || decide ((s.reefOf n).wokeAt ≤ sof))

/-- A frame that the wake capture cannot keep. -/
def State.captureLost (s : State) (n : Nat) : State :=
  let s := s.count (Reg.REEF_CNTn_k n 5)
  s.raiseOnce (0x0807 * 65536 + n) 0x0807 (unitOf 1 n) [n8 (s.reg64 (Reg.REEF_CNTn_k n 5))]

/-- A received frame is taken as valid: by the controller of an ACTIVE or PASSIVE port, or by the wake capture. -/
def State.canFrameValid (s : State) (n : Nat) (w : Wire) (sof16 eof16 : Nat) (bad : List (Nat × Nat)) (t : Tai) : State :=
  let sof := s.stampIn n sof16
  let eof := s.stampIn n eof16
  let st := s.canState n
  if (st = 2 ∨ st = 3) ∧ w.kind ≤ s.canKind n ∧ (s.canOf n).excepted = false then
    let s := (s.frameBegins n).count (Reg.CANP_CNTk n 0)
    let s := if s.on Fld.HAL_EVID_CAN_BCN && s.beaconOn n && s.beaconId w then s.partnerEvidence else s
    let s := (s.recValid n).errorState n
    let (dur, s) := s.canPair n sof eof
    let woken := (s.reefOf n).woke
    let s := s.setReef n { s.reefOf n with woke := false }
    let (outWin, s) := s.reefSees n w sof t woken
    let (a, s) := s.takeArrival n w sof
    let s := s.resetQueues bad
    let s := s.received { ingress := n, wire := w, stamp := sof, dur := dur, replay := false, woken := woken,
                          outWin := outWin, host := none, mkey := sof, quiet := woken } a
    s.frameEnds n
  else if s.captures n sof then
    let cap := s.get (Fld.REEF_PORTn_STAT_CAP n)
    if w.kind ≠ 0 ∨ 4 ≤ cap then s.captureLost n
    else
      let s := (s.put (Fld.REEF_PORTn_STAT_CAP n) (cap + 1)).count (Reg.CANP_CNTk n 0)
      let (dur, s) := s.canPair n sof eof
      let woken := (s.reefOf n).woke
      let s := s.setReef n { s.reefOf n with woke := false }
      let (outWin, s) := s.reefSees n w sof t woken
      let (a, s) := s.startArrival n w sof
      let s := s.resetQueues bad
      s.received { ingress := n, wire := w, stamp := sof, dur := dur, replay := false, woken := woken,
                   outWin := outWin, host := none, mkey := sof, quiet := true } a
  else s

/-- CAN_FRAME_VALID: SOF edge and last EOF sample in 1/16 ns; `bad`: queues (port, class) found with differing pointers. -/
def execCanFrameValid (n : Nat) (w : Wire) (sof16 eof16 : Nat) (bad : List (Nat × Nat)) (t : Tai) (s : State) :
    Host.Outcome State Fault Refusal :=
  unlessHeld s <|
  runIf (Instr.canFrameValid n w sof16 eof16 bad t).wf "CAN_FRAME_VALID" ((s.at t).canFrameValid n w sof16 eof16 bad t)

/-- ROUTE_LOOKUP: at the end of a control field or key, the route (and on a CAN port the acceptance decision) is fixed; `sof16`: the
capture of the frame's SOF in 1/16 ns. -/
def execRouteLookup (port : Nat) (w : Wire) (sof16 : Nat) (t : Tai) (s : State) : Host.Outcome State Fault Refusal :=
  unlessHeld s <|
  let s := s.at t
  runIf (Instr.routeLookup port w sof16 t).wf "ROUTE_LOOKUP"
    (if port < 48 ∧ ¬((s.canState port = 2 ∨ s.canState port = 3) ∧ w.kind ≤ s.canKind port ∧ (s.canOf port).excepted = false) then s
     else
       let s := if port < 48 then s.frameBegins port else s
       let (a, s) := s.startArrival port w (s.stampIn port sof16)
       { s with fab := { s.fab with arrivals := SMap.put s.fab.arrivals port a } })

/-- CANP_PROTO_EXC: a format above the port's kind; the port then waits for 11 recessive bits (R163). -/
def execCanpProtoExc (n : Nat) (t : Tai) (s : State) : Host.Outcome State Fault Refusal :=
  unlessHeld s <|
  let s := s.at t
  runIf (Instr.canpProtoExc n t).wf "CANP_PROTO_EXC"
    (if (s.canState n = 2 ∨ s.canState n = 3) ∧ s.canKind n < 2 ∧ (s.canOf n).excepted = false then
       (let s := (s.frameBegins n).count (Reg.CANP_CNTk n 5)
        let s := { s.setCan n { s.canOf n with excepted := true } with fab := { s.fab with arrivals := SMap.del s.fab.arrivals n } }
        s.raiseOnce (0x0705 * 65536 + n) 0x0705 (unitOf 1 n) [n8 (s.reg64 (Reg.CANP_CNTk n 5))])
     else s)

/-- The loop delay measured in a frame that the port transmits: shown where compensation is enabled for the frame's kind (R168). -/
def State.loopDelay (s : State) (n : Nat) (tdcv : Option Nat) : State :=
  let fd := bit (s.liveReg (Reg.CANP_TDC n)).toNat (Fld.CANP_TDC_FD_EN n).lo
  let xl := bit (s.liveReg (Reg.CANP_TDC n)).toNat (Fld.CANP_TDC_XL_EN n).lo
  match tdcv, s.sending n with
  | some v, some c =>
    if (c.wire.kind = 1 ∧ fd = true) ∨ (c.wire.kind = 2 ∧ xl = true) then s.put (Fld.CANP_STATUS_TDCV n) (min 127 v) else s
  | _, _ => s

/-- A detected error (R146, R175, R180, R196, R197). -/
def State.canError (s : State) (n code phase : Nat) (tx : Bool) (rule : ErrCount) (sof16 tdcv : Option Nat) (lost : Bool) :
    State :=
  let st := s.canState n
  let s := if tx then s.loopDelay n tdcv else s
  if st = 2 ∨ st = 3 ∨ (st = 0 ∧ tx = true ∧ (s.sending n).isSome = true) then
    let s := ((s.put (Fld.CANP_LAST_ERR_CODE n) code).put (Fld.CANP_LAST_ERR_PHASE n) phase).put
      (Fld.CANP_LAST_ERR_DIR n) (b2n tx)
    let s := s.count (Reg.CANP_CNTk n (if tx then 3 else 2))
    let s := match sof16 with
      | some e => s.canOpen n (if tx then s.stampOut n e else s.stampIn n e)
      | none => s
    let s := s.countError n rule
    let s := if tx then s.attemptFails n 0x03 else s.arrivalFail n (if code = 3 then 1 else 2)
    (s.errorState n lost).frameEnds n
  else if (st = 1 ∨ st = 5) ∧ (s.reefOf n).capturing then
    (let sof := match sof16 with
       | some e => s.stampIn n e
       | none => s.time.now
     if s.captures n sof then
       let s := s.setReef n { s.reefOf n with woke := false }
       let cap := s.get (Fld.REEF_PORTn_STAT_CAP n)
       if cap < 4 then (s.put (Fld.REEF_PORTn_STAT_CAP n) (cap + 1)).count (Reg.REEF_CNTn_k n 4) else s.captureLost n
     else s)
  else if st = 5 ∧ s.cur (Fld.REEF_PORTn_CFG_WAKE_MODE n) = 2 then
    (s.setReef n { s.reefOf n with decErrs := (s.reefOf n).decErrs + 1 }).count (Reg.REEF_CNTn_k n 3)
  else s

/-- CAN_ERROR_DETECTED: `code` and `phase` as CANP_LAST_ERR gives them; `rule`: how ISO 11898-1 counts it; `sof16`: the capture of
the frame's SOF; `tdcv`: the loop delay, where the failed attempt measured it; `lost`: the transition message fails its parity. On
a sleeping port it is a decoder error. -/
def execCanErrorDetected (n code phase : Nat) (tx : Bool) (rule : ErrCount) (sof16 tdcv : Option Nat) (lost : Bool) (t : Tai)
    (s : State) : Host.Outcome State Fault Refusal :=
  unlessHeld s <|
  runIf (Instr.canErrorDetected n code phase tx rule sof16 tdcv lost t).wf "CAN_ERROR_DETECTED"
    ((s.at t).canError n code phase tx rule sof16 tdcv lost)

/-! ### Transmission -/

/-- May a copy start, as far as the TXWAKE action goes (R199)? -/
def State.txWakeAllows (s : State) (n : Nat) (c : Copy) : Bool :=
  match (s.reefOf n).txWake with
  | .none => true
  | .running => ((s.frame? c.fid).map (·.origin)) == some .wakeFrame
  | _ => false

/-- The port starts the head of its highest class, or finds its queue's pointers or an envelope broken. -/
def State.canTxStart (s : State) (n : Nat) (fault : Bool) : State :=
  if s.canDrives n ∧ (s.canOf n).excepted = false ∧ (s.sending n).isNone = true ∧ s.hal.yielding = false ∧ s.domain (domainOf n) ≠ 4 then
    match s.pick n with
    | none => s
    | some (cls, c) =>
      if fault then s.queueReset n cls
      else if s.txWakeAllows n c then
        let c := { c with attempts := c.attempts + 1 }
        ((s.frameBegins n).startCopy n cls c).emit (.frameStart n (s.onBus n c.wire) false)
      else s
  else s

/-- CAN_TX_START: bus idle; `fault`: a pointer mismatch at the dequeue (R132). -/
def execCanTxStart (n : Nat) (fault : Bool) (t : Tai) (s : State) : Host.Outcome State Fault Refusal :=
  unlessHeld s <|
  runIf (Instr.canTxStart n fault t).wf "CAN_TX_START" ((s.at t).canTxStart n fault)

/-- CAN_ARBITRATION_LOST. -/
def execCanArbitrationLost (n : Nat) (t : Tai) (s : State) : Host.Outcome State Fault Refusal :=
  unlessHeld s <|
  let s := s.at t
  runIf (Instr.canArbitrationLost n t).wf "CAN_ARBITRATION_LOST"
    (if (s.sending n).isSome then (s.count (Reg.CANP_CNTk n 4)).attemptFails n 0x02 else s)

/-- What a completed copy leaves at its origin. -/
def State.originDone (s : State) (n : Nat) (f : Frame) (w : Wire) (stamp t : Tai) : State :=
  match f.origin with
  | .routed => (s.idleRestart n t false).keeper n (canKey w) true t
  | .beacon =>
    let b := SMap.get { seq := 0, prev := none, due := false, sent := [] } s.time.beacons n
    let q := unLe ((w.data.drop 1).take 1)
    if b.sent.contains q then
      (let b := { b with prev := some (q, stamp), sent := b.sent.filter fun (x : Nat) => x != q }
       { s with time := { s.time with beacons := SMap.put s.time.beacons n b } })
    else s
  | .wakeFrame => s.setReef n { s.reefOf n with txWake := .delay, delayFrom := t }
  | _ => s

/-- The copy reached the end of its EOF without error. -/
def State.canTxDone (s : State) (n sof16 eof16 : Nat) (tdcv : Option Nat) (t : Tai) : State :=
  match s.sending n with
  | none => s
  | some c =>
    let stamp := s.stampOut n sof16
    let s := ((s.loopDelay n tdcv).setSending n none).countPort n 1
    let s := (s.emit (.frameEnd n false)).frameBegins n
    let s := if s.frozen n then s else s.setTec n (s.get (Fld.CANP_ECNT_TEC n) - 1)
    let s := s.errorState n
    let (_, s) := s.canPair n stamp (s.stampOut n eof16)
    let s := s.setCan n { s.canOf n with noRetry := false }
    let s := match s.frame? c.fid with
      | some f => s.originDone n f c.wire stamp t
      | none => s
    let s := match s.raOf c.fid with
      | some x => if c.ahead then s.setRa c.fid { x with completed := x.completed ++ [n] } else s
      | none => s
    (s.copyFinal c.fid n 0x00 stamp false).frameEnds n

/-- CAN_TX_COMPLETE: SOF edge and last EOF sample of the successful attempt in 1/16 ns; `tdcv`: the loop delay, where
it was measured (R168). -/
def execCanTxComplete (n sof16 eof16 : Nat) (tdcv : Option Nat) (t : Tai) (s : State) : Host.Outcome State Fault Refusal :=
  unlessHeld s <|
  runIf (Instr.canTxComplete n sof16 eof16 tdcv t).wf "CAN_TX_COMPLETE" ((s.at t).canTxDone n sof16 eof16 tdcv t)

/-! ### Life cycle -/

/-- CANP_BUS_ON: `seqs` more sequences of 11 recessive bits have been seen; the 128th takes the port back. -/
def execCanpBusOn (n seqs : Nat) (t : Tai) (s : State) : Host.Outcome State Fault Refusal :=
  unlessHeld s <|
  let s := s.at t
  runIf (Instr.canpBusOn n seqs t).wf "CANP_BUS_ON" (if s.canState n = 4 then s.busOn n seqs else s)

/-- CAN_INTEGRATION_DONE: 11 consecutive recessive bits on an INTEGRATING port, or on one that waits after a protocol exception
(R163). -/
def execCanIntegrationDone (n : Nat) (lost : Bool) (t : Tai) (s : State) : Host.Outcome State Fault Refusal :=
  unlessHeld s <|
  let s := s.at t
  runIf (Instr.canIntegrationDone n lost t).wf "CAN_INTEGRATION_DONE"
    (if s.canState n = 1 then (s.setCanState n 2 lost).errorState n
     else if s.canState n = 2 ∨ s.canState n = 3 then s.setCan n { s.canOf n with excepted := false }
     else s)

/-- CANP_TXD_TIMEOUT: the transceiver releases a transmitter held dominant for 2.0 ms; it counts as a bit error (R188). -/
def execCanpTxdTimeout (n phase : Nat) (t : Tai) (s : State) : Host.Outcome State Fault Refusal :=
  unlessHeld s <|
  let s := s.at t
  runIf (Instr.canpTxdTimeout n phase t).wf "CANP_TXD_TIMEOUT"
    (if s.canDrives n then
       (let s := s.count (Reg.CANP_CNTk n 8)
        let s := s.canError n 6 phase true .transmitter none none false
        s.raise 0x0706 (unitOf 1 n) [n4 (s.get (Fld.CANP_ECNT_TEC n))])
     else s)

/-- CANP_TIMING_APPLY: in the commit slot after a GO; `busy`: a frame is in progress on the bus (R169, R170). -/
def execCanpTimingApply (n : Nat) (busy : Bool) (t : Tai) (s : State) : Host.Outcome State Fault Refusal :=
  unlessHeld s <|
  let s := s.at t
  runIf (Instr.canpTimingApply n busy t).wf "CANP_TIMING_APPLY" (if s.commitDue then s.timingApply n busy else s)

/-- CAN_PORT_ENABLE: EN 1 takes effect. -/
def execCanPortEnable (n : Nat) (lost : Bool) (t : Tai) (s : State) : Host.Outcome State Fault Refusal :=
  unlessHeld s <|
  runIf (Instr.canPortEnable n lost t).wf "CAN_PORT_ENABLE"
    (((s.at t).putBoth (Fld.CANP_MODE_EN n) 1).canOn n lost)

/-- CAN_PORT_DISABLE: EN 0 takes effect. -/
def execCanPortDisable (n : Nat) (t : Tai) (s : State) : Host.Outcome State Fault Refusal :=
  unlessHeld s <|
  runIf (Instr.canPortDisable n t).wf "CAN_PORT_DISABLE" (((s.at t).putBoth (Fld.CANP_MODE_EN n) 0).canOff n)

/-- CAN_LISTEN_ONLY: LISTEN 1 takes effect. -/
def execCanListenOnly (n : Nat) (t : Tai) (s : State) : Host.Outcome State Fault Refusal :=
  unlessHeld s <|
  runIf (Instr.canListenOnly n t).wf "CAN_LISTEN_ONLY"
    (((s.at t).putBoth (Fld.CANP_MODE_LISTEN n) 1).canListen n)

/-! ### Run-ahead -/

/-- RUN_AHEAD_COPY_START: the frame arriving on `ingress` starts leaving on `egress` (R142, R143); `bad`: queues found with differing
pointers (R132). -/
def execRunAheadCopyStart (ingress egress : Nat) (bad : List (Nat × Nat)) (t : Tai) (s : State) : Host.Outcome State Fault Refusal :=
  unlessHeld s <|
  runIf (Instr.runAheadCopyStart ingress egress bad t).wf "RUN_AHEAD_COPY_START" ((s.at t).raStart ingress egress bad)

/-- ABORT_DEADLINE: the copy in transmission on `egress` starts its EOF or its FCS (R147, R152). -/
def execAbortDeadline (egress : Nat) (t : Tai) (s : State) : Host.Outcome State Fault Refusal :=
  unlessHeld s <|
  runIf (Instr.abortDeadline egress t).wf "ABORT_DEADLINE" ((s.at t).raDeadline egress)

/-- FAB_RA_REARMED: at a commit slot, the re-arms requested before it take effect for a route (R157, R158). -/
def execFabRaRearmed (route : Nat) (t : Tai) (s : State) : Host.Outcome State Fault Refusal :=
  unlessHeld s <|
  let s := s.at t
  runIf (Instr.fabRaRearmed route t).wf "FAB_RA_REARMED"
    (if s.commitDue = true ∧ s.domain 4 = 2 ∧ s.cmds.contains (.raRearm route) = true then
       ({ s with cmds := s.cmds.filter fun c => c != RegCmd.raRearm route }).raRearm route
     else s)

end Sys2Proof.Machine
end

