-- ==== Sys2Proof/Machine/Hif.lean ====
section
/-! DEFINITION. The host interface: rings, doorbells, descriptors, completions, records, record streams, the completion
index page and MSI-X (chapter "Host Rings and Doorbells"). -/

namespace Sys2Proof.Machine

def State.txState (s : State) (n : Nat) : Nat := s.get (Fld.HIF_TXn_STAT_STATE n)
def State.rxState (s : State) (n : Nat) : Nat := s.get (Fld.HIF_RXn_STAT_STATE n)

/-- A ring changes state: its word follows. -/
def State.setTxState (s : State) (n st : Nat) : State :=
  (s.put (Fld.HIF_TXn_STAT_STATE n) st).message (unitOf 3 n) st
def State.setRxState (s : State) (n st : Nat) : State :=
  (s.put (Fld.HIF_RXn_STAT_STATE n) st).message (unitOf 4 n) st

/-- Host addresses of a ring's structures. -/
def State.addr64 (s : State) (lo hi : Nat) : Nat := (s.liveReg lo).toNat + 2 ^ 32 * (s.liveReg hi).toNat
def State.txBase (s : State) (n : Nat) : Nat := s.addr64 (Reg.HIF_TXn_BASE_LO n) (Reg.HIF_TXn_BASE_HI n)
def State.txCbase (s : State) (n : Nat) : Nat := s.addr64 (Reg.HIF_TXn_CBASE_LO n) (Reg.HIF_TXn_CBASE_HI n)
def State.rxBase (s : State) (n : Nat) : Nat := s.addr64 (Reg.HIF_RXn_BASE_LO n) (Reg.HIF_RXn_BASE_HI n)

/-- May the host interface read and write host memory (R104)? -/
def State.hostUp (s : State) : Bool := s.get Fld.HIF_STATUS_LINK_UP == 1

/-! ### Faults (R81, R86) -/

/-- An RX entry is dropped: a frame's copy is final, and the SEQ_GAP it would have carried stays with its flow. -/
def State.entryLost (s : State) (e : RxEntry) : State :=
  match e with
  | .frame fid _ gap =>
    let s := match s.frame? fid with
      | some f => if gap then s.gap f.flow else s
      | none => s
    s.copyFinal fid 78 0 0 false
  | .item 0x30 p =>
    let src := unLe (p.take 1)
    s.setCap src { s.capOf src with waiting := (s.capOf src).waiting - 1 }
  | .item .. => s

/-- Entries due to an RX ring are dropped and counted. -/
def State.rxFlush (s : State) (n : Nat) : State :=
  let q := (s.rxRing n).queue
  let s := s.setRxRing n { s.rxRing n with queue := [], held := 0 }
  let s := s.put (Fld.HIF_RXn_STAT_HELD n) 0
  q.foldl (fun (s : State) (e : RxEntry) => (s.rxDrop n).entryLost e) s

/-- The SEQ_GAP of a completion that is not written stays with its flow. -/
def State.gapBack (s : State) (c : Completion) : State :=
  match c.flow with
  | some f => if c.gap then s.gap f else s
  | none => s

/-- The completions of a faulted TX ring that are not yet written are discarded (R81). -/
def State.txFlush (s : State) (n : Nat) : State :=
  let r := s.txRing n
  let gone := s.hif.finals.filter fun (c : Completion) => c.ring == n
  let s := { s with hif := { s.hif with finals := s.hif.finals.filter fun (c : Completion) => c.ring != n } }
  let s := s.put (Fld.HIF_TXn_STAT_OUTSTANDING n) (s.get (Fld.HIF_TXn_STAT_OUTSTANDING n) - gone.length)
  gone.foldl (fun (s : State) (c : Completion) => s.gapBack c) (s.setTxRing n { r with owed := r.owed - gone.length })

/-- A ring is put in FAULT. -/
def State.ringFault (s : State) (kind n code : Nat) : State :=
  let s := if kind = 0 then
      (let s := (s.setTxState n 3).put (Fld.HIF_TXn_STAT_FAULT n) code
       let s := (s.txFlush n).setTxRing n { (s.txFlush n).txRing n with dead := true }
       s.orReg (if n < 32 then Reg.HIF_TXFAULT0 else Reg.HIF_TXFAULT1) (2 ^ (n % 32)))
    else
      (let s := ((s.setRxState n 3).put (Fld.HIF_RXn_STAT_FAULT n) code).rxFlush n
       s.orReg (if n < 32 then Reg.HIF_RXFAULT0 else Reg.HIF_RXFAULT1) (2 ^ (n % 32)))
  let s := { s with hif := { s.hif with errVec := true } }
  s.raise 0x0401 (unitOf (3 + kind) n) [n4 kind, n4 n, n4 code]

/-! ### Ring life cycle (R103) -/

/-- The host interface runs or not: the host rings port's word follows (Table 17.1). -/
def State.setRunning (s : State) (run : Bool) : State :=
  let s := s.put Fld.HIF_STATUS_RUNNING (b2n run)
  let code := if run then 2 else 0
  if (s.word (unitOf 1 78)).code = code then s else s.message (unitOf 1 78) code

/-- A TX ring is enabled: its indices are 0 and it runs. -/
def State.txEnable (s : State) (n : Nat) : State :=
  if s.txState n = 0 then
    let s := (s.put (Fld.HIF_TXn_STAT_FAULT n) 0).put (Fld.HIF_TXn_STAT_OUTSTANDING n) 0
    let s := s.setTxRing n { TxRing.fresh with log2 := s.cur (Fld.HIF_TXn_CFG_LOG2 n), gen := (s.txRing n).gen + 1 }
    s.setTxState n 1
  else s

def State.txDisable (s : State) (n : Nat) : State :=
  if s.txState n = 1 ∨ s.txState n = 3 then s.setTxState n 2 else s

/-- A DRAINING ring is OFF once every fetched descriptor is final and its completion written. -/
def State.txDrained (s : State) (n : Nat) : State :=
  if s.txState n = 2 ∧ s.get (Fld.HIF_TXn_STAT_OUTSTANDING n) = 0 then s.setTxState n 0 else s

/-- An RX ring is enabled: its indices are 0, it runs, and a stream owes its idle item. DESIGN CHOICE (log 106): what was
dropped before, while the ring was OFF or in FAULT, shows in no RING_DROP and no LOSS item. -/
def State.rxEnable (s : State) (n : Nat) : State :=
  if s.rxState n = 0 then
    let stream := s.cur (Fld.HIF_RXn_CFG_KIND n) == 1
    let s := s.put (Fld.HIF_RXn_STAT_FAULT n) 0
    let s := s.setRxRing n { RxRing.fresh with stream := stream, log2 := s.cur (Fld.HIF_RXn_CFG_LOG2 n), idleDue := stream }
    s.setRxState n 1
  else s

def State.rxDisable (s : State) (n : Nat) : State :=
  if s.rxState n = 0 then s
  else
    let s := s.rxFlush n
    (s.setRxRing n RxRing.fresh).setRxState n 0

/-- Rings whose EN in force is 1 and that show OFF are enabled, and the others disabled, at a commit slot. -/
def State.ringsFollow (s : State) : State :=
  (List.range 64).foldl (fun (s : State) n =>
    let s := if s.on (Fld.HIF_TXn_CFG_EN n) then s.txEnable n else s.txDisable n
    if s.on (Fld.HIF_RXn_CFG_EN n) then s.rxEnable n else s.rxDisable n) s

/-! ### The doorbell page (R79-R81) -/

def wraps (a b : Nat) : Bool := decide (2 ^ 31 ≤ idxSub a b)

/-- A TX ring's doorbell fields are checked and taken. -/
def State.txDoorbell (s : State) (n : Nat) (prod cack : Nat) : State :=
  let r := s.txRing n
  let st := s.txState n
  if st = 1 ∧ wraps prod r.prod then s.ringFault 0 n 1
  else if st = 1 ∧ 2 ^ r.log2 < idxSub prod r.fetch then s.ringFault 0 n 2
  else if (st = 1 ∨ st = 2) ∧ (wraps cack r.cack ∨ idxSub r.cprod r.cack < idxSub cack r.cack) then s.ringFault 0 n 3
  else if st = 1 then s.setTxRing n { r with prod := prod, cack := cack }
  else if st = 2 then s.setTxRing n { r with cack := cack }
  else s

/-- An RX ring's doorbell field is checked and taken. -/
def State.rxDoorbell (s : State) (n ack : Nat) : State :=
  let r := s.rxRing n
  if s.rxState n ≠ 1 then s
  else if wraps ack r.ack then s.ringFault 1 n 1
  else if idxSub r.prod r.ack < idxSub ack r.ack then s.ringFault 1 n 2
  else if r.stream ∧ ack % 8 ≠ 0 then s.ringFault 1 n 3
  else s.setRxRing n { r with ack := ack }

/-- Where the doorbell page holds a ring's indices (Table 4.3). -/
def pageTxProd (n : Nat) : Nat := 0x040 + 4 * n
def pageTxCack (n : Nat) : Nat := 0x140 + 4 * n
def pageRxAck (n : Nat) : Nat := 0x240 + 4 * n

/-- A word of the page as read; one not listed reads as last read. -/
def pageWord (p : PageWords) (off last : Nat) : Nat := ((SMap.look p off).getD last) % 2 ^ 32

/-- The page read. -/
def State.doorbells (s : State) (p : PageWords) : State :=
  let s := (List.range 64).foldl (fun (s : State) n =>
    let r := s.txRing n
    s.txDoorbell n (pageWord p (pageTxProd n) r.prod) (pageWord p (pageTxCack n) r.cack)) s
  (List.range 64).foldl (fun (s : State) n => s.rxDoorbell n (pageWord p (pageRxAck n) (s.rxRing n).ack)) s

/-! ### Descriptors (R83-R86, Tables 4.5, 4.6 and 11.5) -/

/-- A descriptor from its 32 bytes. -/
def parseDesc (b : Bytes) (payload : Option Bytes) : Desc :=
  let f := fun o n => unLe ((b.drop o).take n)
  { opcode := f 0 1, flags := f 1 1, dest := f 2 1 % 128, format := f 3 1, id := f 4 4, len := f 8 2, tag := f 10 2, aux := f 12 4,
    bufAddr := f 16 8, raw := b, payload := payload }

def Desc.cmpl (d : Desc) : Bool := bit d.flags 0
def Desc.inline (d : Desc) : Bool := bit d.flags 2
def Desc.kind (d : Desc) : Nat := d.format % 8
def Desc.rtr (d : Desc) : Bool := bit d.format 5 && d.kind == 0

/-- Does R84 refuse a descriptor? -/
def State.descRefused (s : State) (d : Desc) : Bool :=
  if d.opcode = 3 then false
  else if d.opcode = 2 then decide (bits (unLe ((d.raw.drop 2).take 1)) 7 0 < 1 ∨ 7 < unLe ((d.raw.drop 2).take 1))
  else if d.opcode = 1 then
    decide (76 < d.dest) || decide (6 ≤ d.kind) ||
    (if d.dest < 48 then decide (2 < d.kind ∨ s.canKind d.dest < d.kind) else d.kind != s.kindOf d.dest) ||
    decide (lenLimit d.kind d.rtr < d.len ∨ d.len < lenMin d.kind) || (d.inline && decide (16 < d.len))
  else true

/-- The frame that a FRAME descriptor describes; reserved bits of its ID do not count (R8, R522, R255). -/
def Desc.wire (d : Desc) (payload : Bytes) : Wire :=
  let data := (if d.inline then d.raw.drop 16 else payload).take d.len
  let ide := bit d.format 3 && decide (d.kind < 2)
  let id := if d.kind < 2 then idSent ide d.id else if d.kind = 2 then d.id.land 0xFFFF0FFF
    else if d.kind = 5 then uartHostId data else 0
  { kind := d.kind, ide := ide, brs := bit d.format 4 && d.kind == 1, rtr := d.rtr,
    esi := false, id := id, af := if d.kind = 2 then d.aux else 0, data := data }

/-- The blocks that a fetched descriptor takes (R130). -/
def Desc.blocks (d : Desc) (job : Nat) : Nat := if d.opcode = 1 then blocksFor d.len else blocksFor job

/-- The input bytes of a CRYPTO descriptor (Table 11.6). -/
def jobInput (op alen len aux : Nat) : Nat :=
  if op = 1 then len else if op = 2 then len + bits aux 4 0 else if op = 3 then 16 + len
  else if op = 4 then 12 + alen + len else if op = 5 then 28 + alen + len else if op = 6 then 0 else len

/-- The job that a CRYPTO descriptor describes. -/
def Desc.job (d : Desc) (ring gen blocks : Nat) (input : Bytes) : Job :=
  let f := fun o n => unLe ((d.raw.drop o).take n)
  { ring := ring, gen := gen, tag := d.tag, cmpl := d.cmpl, op := f 2 1, slot := f 3 1 % 64, target := f 4 1 % 64,
    attr := f 5 1 % 64, alen := f 6 2, len := d.len, aux := d.aux, dst := f 24 8, input := input, blocks := blocks, stops := 0,
    running := false, late := false }

/-- How the fetch of one descriptor ends: taken; the ring is left for this beat; it waits for packet memory (R130). -/
inductive FetchEnd where
  | taken | skipRing | waits
  deriving DecidableEq, Repr

/-- Fetch one descriptor of a RUNNING ring; a NOP is final at its fetch (R89). -/
def State.fetchOne (s : State) (n : Nat) (d : DescRead) : FetchEnd × State :=
  let r := s.txRing n
  let at_ := s.txBase n + 32 * (r.fetch % 2 ^ r.log2)
  match d.bytes with
  | none => (.skipRing, (s.raise 0x0403 (unitOf 3 n) [n8 at_, n4 1]).ringFault 0 n 4)
  | some b =>
    let x := parseDesc b d.payload
    let refused := s.descRefused x
    let f := fun o k => unLe ((b.drop o).take k)
    let input := if x.opcode = 2 then jobInput (f 2 1) (f 6 2) x.len x.aux else 0
    let blocks := if refused ∨ x.opcode = 3 then 0 else x.blocks input
    if x.cmpl ∧ 2 ^ r.log2 < r.owed + 1 + idxSub r.cprod r.cack then (.skipRing, s)
    else if s.freeBlocks < blocks then (.waits, s)
    else
      let s := s.setTxRing n { r with fetch := (r.fetch + 1) % 2 ^ 32, owed := r.owed + b2n x.cmpl }
      let s := s.put (Fld.HIF_TXn_STAT_OUTSTANDING n) (s.get (Fld.HIF_TXn_STAT_OUTSTANDING n) + 1)
      let s := s.observe (unitOf 3 n)
      let tag : HostTag := { ring := n, tag := x.tag, cmpl := x.cmpl, oneShot := bit x.flags 1, dest := x.dest, gen := r.gen }
      if refused then (.taken, s.hostFinal tag 0x09 (unitOf 3 n) 0 0 0 none false)
      else if x.opcode = 3 then (.taken, s.hostFinal { tag with oneShot := false, dest := 0 } 0 (unitOf 3 n) 0 0 0 none false)
      else
        let needs := if x.opcode = 1 then !x.inline && decide (0 < x.len) else decide (0 < input)
        if needs ∧ d.payload.isNone then
          (.taken, (s.raise 0x0403 (unitOf 3 n) [n8 x.bufAddr, n4 2]).hostFinal tag 0x0A (unitOf 3 n) 0 0 0 none false)
        else
          let s := s.put Fld.FAB_FREE_BLOCKS (s.freeBlocks - blocks)
          if x.opcode = 1 then
            (.taken, { s with hif := { s.hif with fetched := s.hif.fetched ++ [{ ring := n, gen := r.gen, desc := x }] } })
          else
            let j := x.job n r.gen blocks (d.payload.getD [])
            (.taken, { s with ciph := { s.ciph with jobs := s.ciph.jobs ++ [j] } })

/-- Fetch descriptors of one ring, in ring order: did one wait for packet memory, and the state after. -/
def State.fetchRing (n : Nat) : Nat → List DescRead → State → Bool × State
  | 0, _, s => (false, s)
  | _ + 1, [], s => (false, s)
  | k + 1, d :: l, s =>
    if s.txState n = 1 ∧ (s.txRing n).fetch ≠ (s.txRing n).prod then
      match s.fetchOne n d with
      | (.taken, s) => State.fetchRing n k l s
      | (.skipRing, s) => (false, s)
      | (.waits, s) => (true, s)
    else (false, s)

/-- The intake of a beat: the page, then the RUNNING rings in ascending order within their quotas; an intake slot in which
a descriptor waits for packet memory counts once. -/
def State.intake (s : State) (page : Option PageWords) (reads : List DescRead) : State :=
  let s := if s.hostUp then { s with hif := { s.hif with linkReady := true } } else s
  if s.get Fld.HIF_STATUS_RUNNING = 1 ∧ s.hostUp then
    let s := s.count Reg.HIF_DB_FETCH_CNT
    match page with
    | none =>
      let s := (s.put Fld.HIF_STATUS_DB_ERR 1).count32 Reg.HIF_DB_ERR_CNT
      s.raise 0x0403 0 [n8 (s.addr64 Reg.HIF_DB_BASE_LO Reg.HIF_DB_BASE_HI), n4 0]
    | some p =>
      let s := (s.put Fld.HIF_STATUS_DB_ERR 0).doorbells p
      let (waits, s) := (List.range 64).foldl (fun (a : Bool × State) n =>
        let (w, s) := State.fetchRing n (a.2.cur (Fld.HIF_TXn_CFG_QUOTA n)) (reads.filter fun d => d.ring == n) a.2
        (a.1 || w, s)) (false, s)
      if waits then s.count Reg.FAB_HOSTBUF_WAIT else s
  else s

/-! ### Submission (R84, R88) -/

/-- Take the first fetched descriptor of a ring with an opcode. -/
def takeFetched (n opcode : Nat) : List Fetched → Option (Fetched × List Fetched)
  | [] => none
  | f :: l =>
    if f.ring = n ∧ f.desc.opcode = opcode then some (f, l)
    else (takeFetched n opcode l).map fun e => (e.1, f :: e.2)

/-- A FRAME descriptor enters the fabric on port 78. -/
def State.submit (s : State) (n : Nat) (bad : List (Nat × Nat)) : State :=
  match takeFetched n 1 s.hif.fetched with
  | none => s
  | some (x, rest) =>
    let d := x.desc
    let w := d.wire (d.payload.getD [])
    let s := { s with hif := { s.hif with fetched := rest } }
    let s := s.put Fld.FAB_FREE_BLOCKS (s.freeBlocks + blocksFor d.len)
    let s := s.resetQueues bad
    let (l, s) := s.looked 78 (some (n, d.dest)) w
    s.enter { ingress := 78, wire := w, stamp := 0, dur := none, replay := false, woken := false, outWin := false,
              host := some { ring := n, tag := d.tag, cmpl := d.cmpl, oneShot := bit d.flags 1, dest := d.dest, gen := x.gen },
              mkey := d.tag + 65536 * n } l

/-- A further descriptor, a NOP, passes through the intake slot in progress, where its ring may fetch. -/
def State.nop (s : State) (d : DescRead) : State :=
  if s.slotOpen 0 = true ∧ s.glb.phase = .running ∧ s.get Fld.NVM_UPD_STATUS_STATE ≠ 5 ∧ s.get Fld.HIF_STATUS_RUNNING = 1 ∧
      s.hostUp = true then
    (State.fetchRing d.ring 1 [d] s).2
  else s

/-! ### Completions (Table 4.7) -/

/-- A completion is written to its ring, or discarded where the ring is in FAULT or gone. -/
def State.writeCompletion (s : State) (c : Completion) : State :=
  let n := c.ring
  let r := s.txRing n
  let s := s.put (Fld.HIF_TXn_STAT_OUTSTANDING n) (s.get (Fld.HIF_TXn_STAT_OUTSTANDING n) - 1)
  if r.dead ∨ s.txState n = 0 then
    (s.setTxRing n { r with owed := r.owed - 1 }).gapBack c
  else
    let gap := c.gap || (match c.flow with | some f => SMap.get false s.hif.passGap f | none => false)
    let replay := c.replay || (match c.flow with | some f => SMap.get false s.hif.passReplay f | none => false)
    let s := match c.flow with
      | some f => { s with hif := { s.hif with passGap := SMap.set false s.hif.passGap f false,
                                               passReplay := SMap.set false s.hif.passReplay f false } }
      | none => s
    let flags := b2n gap + 2 * b2n replay + 4 * b2n (c.time != 0)
    let bytes := le 1 c.status ++ le 1 flags ++ le 2 c.tag ++ le 2 c.epoch ++ le 1 c.egTotal ++ le 1 c.egFail ++ le 8 c.time
    let s := s.emit (.dmaWrite (s.txCbase n + 16 * (r.cprod % 2 ^ r.log2)) bytes)
    s.setTxRing n { r with cprod := (r.cprod + 1) % 2 ^ 32, since := r.since + 1, owed := r.owed - 1 }

/-! ### RX entries (Tables 4.9-4.11, R94-R99) -/

/-- Bytes 0-27 of an RX frame record. -/
def State.recordHead (_s : State) (f : Frame) (epoch rseq flags : Nat) : Bytes :=
  le 1 1 ++ le 1 (formatOf f.wire) ++ le 2 flags ++ le 1 f.ingress ++ le 1 f.auth ++ le 2 epoch ++ le 8 f.stamp ++
  le 4 (idWord f.wire) ++ le 4 (f.dur.getD 0) ++ le 2 f.wire.data.length ++ le 2 rseq

/-- The payload as a record holds it: AF first for CAN XL. -/
def recordData (w : Wire) : Bytes := (if w.kind = 2 then le 4 w.af else []) ++ w.data

/-- The flags of Table 4.10 beside TRUNCATED and RING_DROP. -/
def recordFlags (gap : Bool) (f : Frame) : Nat :=
  b2n gap + 2 * b2n f.woken + 4 * b2n f.outWin + 16 * b2n f.dur.isSome + 64 * b2n f.wire.esi + 128 * b2n f.wire.brs

/-- The frame copy to the host is final. -/
def State.recordDone (s : State) (fid : Nat) (f : Frame) : State :=
  (s.countPort 78 1).copyFinal fid 78 0 f.stamp false

/-- Write a 64-byte record to a frame ring. -/
def State.writeRecord (s : State) (n fid epoch : Nat) (gap : Bool) : State :=
  match s.frame? fid with
  | none => s
  | some f =>
    let r := s.rxRing n
    let rseq := (r.rseq + 1) % 65536
    let d := recordData f.wire
    let flags := recordFlags gap f + 8 * b2n (decide (36 < d.length)) + 32 * b2n (decide (0 < r.lost))
    let bytes := s.recordHead f epoch rseq flags ++ padTo 36 0 (d.take 36)
    let s := s.emit (.dmaWrite (s.rxBase n + 64 * (r.prod % 2 ^ r.log2)) bytes)
    let s := s.setRxRing n { r with prod := (r.prod + 1) % 2 ^ 32, rseq := rseq, lost := 0, since := r.since + 1 }
    (s.observe (unitOf 4 n)).recordDone fid f

/-- The bytes that an item takes. -/
def itemSize (len : Nat) : Nat := (4 + len + 7) / 8 * 8

/-- Where an item would end, with the PAD item before it where it does not fit before the end of the ring. -/
def RxRing.itemEnd (r : RxRing) (len : Nat) : Nat × Nat :=
  let p := r.prod % 2 ^ r.log2
  let pad := if 2 ^ r.log2 < p + itemSize len then 2 ^ r.log2 - p else 0
  (pad, pad + itemSize len)

/-- Does an item fit (R96)? -/
def RxRing.fits (r : RxRing) (len : Nat) : Bool := decide (idxSub r.prod r.ack + (r.itemEnd len).2 + 4 ≤ 2 ^ r.log2)

/-- The item word. -/
def itemWord (type len : Nat) : Bytes := le 2 len ++ le 1 type ++ le 1 0

/-- Write one item at the stream's position: the idle item after it, the payload, the word. -/
def State.putItem (s : State) (n type : Nat) (payload : Bytes) : State :=
  let r := s.rxRing n
  let base := s.rxBase n
  let size := 2 ^ r.log2
  let p := r.prod % size
  let q := (r.prod + itemSize payload.length) % size
  let s := s.emit (.dmaWrite (base + q) (le 4 0))
  let s := if payload = [] then s else s.emit (.dmaWrite (base + p + 4) payload)
  let s := s.emit (.dmaWrite (base + p) (itemWord type payload.length))
  s.setRxRing n { r with prod := (r.prod + itemSize payload.length) % 2 ^ 32 }

/-- The undefined content of a PAD item. -/
def State.padBytes (s : State) (len : Nat) : Bytes × State :=
  ((List.range len).map fun i => Config.padByte (s.free + i), { s with free := s.free + len })

/-- Write an item, with the PAD item that it needs. DESIGN CHOICE (log 106): a LOSS item counts as an entry toward THRESH and
BEATS. -/
def State.writeItem (s : State) (n type : Nat) (payload : Bytes) : State :=
  let pad := ((s.rxRing n).itemEnd payload.length).1
  let s := if pad = 0 then s
    else
      let (b, s) := s.padBytes (pad - 4)
      s.putItem n 0x01 b
  let s := s.putItem n type payload
  (s.setRxRing n { s.rxRing n with since := (s.rxRing n).since + 1 }).observe (unitOf 4 n)

/-- The payload of an entry in a stream; a kind-6 message of port 77 is an item of its own (R315). -/
def State.entryBytes (s : State) (n : Nat) (e : RxEntry) : Option (Nat × Bytes) :=
  match e with
  | .item t p => some (t, p)
  | .frame fid epoch gap =>
    (s.frame? fid).map fun f =>
      if f.ingress = 77 ∧ f.wire.kind = 6 then (0x40 + bits f.wire.id 29 28, f.wire.data)
      else (0x10, s.recordHead f epoch (((s.rxRing n).rseq + 1) % 65536) (recordFlags gap f) ++ recordData f.wire)

/-- What else the writing of an entry does: a frame is final, a capture source has room again. -/
def State.entryDone (s : State) (n : Nat) (e : RxEntry) : State :=
  match e with
  | .frame fid _ _ =>
    let s := s.setRxRing n { s.rxRing n with rseq := ((s.rxRing n).rseq + 1) % 65536 }
    (match s.frame? fid with
     | some f => s.recordDone fid f
     | none => s)
  | .item 0x30 p =>
    let src := unLe (p.take 1)
    s.setCap src { s.capOf src with waiting := (s.capOf src).waiting - 1 }
  | .item .. => s

/-- HIF_RX_RING_FULL, the first time in a TAI second. -/
def State.ringFull (s : State) (n : Nat) : State :=
  s.raiseOnce (0x0402 * 65536 + n) 0x0402 (unitOf 4 n) [n4 n, n4 (s.cur (Fld.HIF_RXn_CFG_POLICY n))]

/-- The LOSS item is written as soon as it fits. -/
def State.writeLoss (s : State) (n : Nat) : State :=
  let r := s.rxRing n
  if r.stream ∧ 0 < r.lost ∧ r.fits 8 then
    (s.setRxRing n { r with lost := 0 }).writeItem n 0x02 (le 4 (satNat 32 r.lost) ++ le 4 0)
  else s

/-- The entries that a ring still owes go back in front of those that joined it meanwhile; `held` of them wait because the ring
was full, and HELD shows them. -/
def State.keepEntries (s : State) (n : Nat) (l : List RxEntry) (held : Nat) : State :=
  let r := s.rxRing n
  (s.setRxRing n { r with queue := l ++ r.queue, held := held }).put (Fld.HIF_RXn_STAT_HELD n) (satNat 16 held)

/-- Writeback work was deferred in this beat (R82, Table 2.4). -/
def State.wbLate (s : State) : State := { s with hif := { s.hif with wbOverrun := true } }

/-- Serve one ring: entries are written while there is room and the slot has time for them; without room they are held or
dropped. `old`: how many of the entries left were held before. The entries that the slot has time for after it. -/
def State.serveRx (n : Nat) (room : Bool) : Nat → List RxEntry → List RxEntry → Nat → Nat → State → Nat × State
  | 0, _, _, _, budget, s => (budget, s)
  | _ + 1, [], kept, _, budget, s => (budget, s.keepEntries n kept kept.length)
  | k + 1, e :: l, kept, old, budget, s =>
    if room ∧ budget = 0 then (0, (s.keepEntries n (kept ++ e :: l) (kept.length + old)).wbLate)
    else
      let s := if room then s.writeLoss n else s
      let r := s.rxRing n
      let drop := fun (s : State) =>
        (s.rxDrop n).entryLost e
      let space : Bool :=
        if r.stream then (match s.entryBytes n e with | some (_, p) => r.fits p.length | none => true)
        else decide (idxSub r.prod r.ack < 2 ^ r.log2)
      let fits : Bool := room && kept.isEmpty && space
      if fits then
        let s := if r.stream then
            (match s.entryBytes n e with
             | some (t, p) => (s.writeItem n t p).entryDone n e
             | none => s)
          else (match e with
             | .frame fid epoch gap => s.writeRecord n fid epoch gap
             | .item .. => s)
        State.serveRx n room k l kept (old - 1) (budget - 1) s
      else
        let s := if space then s else s.ringFull n
        if s.cur (Fld.HIF_RXn_CFG_POLICY n) = 0 ∧ kept.length < s.cur (Fld.HIF_RXn_CFG_HOLD_LIM n) then
          State.serveRx n room k l (kept ++ [e]) (old - 1) budget s
        else State.serveRx n room k l kept (old - 1) budget (drop s)

/-- One RX ring in a writeback: the idle item it owes, then the entries that were due before the slot. -/
def State.writeRing (s : State) (n : Nat) (q : List RxEntry) (room : Bool) (budget : Nat) : Nat × State :=
  if s.rxState n ≠ 1 then (budget, if q = [] then s else s.keepEntries n q (s.rxRing n).held)
  else
    let s := if room ∧ (s.rxRing n).idleDue then
        (s.emit (.dmaWrite (s.rxBase n) (le 4 0))).setRxRing n { s.rxRing n with idleDue := false }
      else s
    if q = [] then (budget, if room then s.writeLoss n else s)
    else State.serveRx n room (q.length + 1) q [] (s.rxRing n).held budget s

/-! ### The page and the messages (R82, R102) -/

/-- The arrays of the completion index page, offsets 0x010 to 0x33F. -/
def State.pageArrays (s : State) : Bytes :=
  List.replicate 48 0#8 ++ ((List.range 64).flatMap fun n => le 4 (s.txRing n).fetch) ++
  ((List.range 64).flatMap fun n => le 4 (s.txRing n).cprod) ++ ((List.range 64).flatMap fun n => le 4 (s.rxRing n).prod)

/-- Write the completion index page. -/
def State.writePage (s : State) : State :=
  let base := s.addr64 Reg.HIF_CIP_BASE_LO Reg.HIF_CIP_BASE_HI
  let seq := (s.hif.wbSeq + 1) % 2 ^ 32
  let fault := (List.range 64).any fun n => s.txState n == 3 || s.rxState n == 3
  let status := b2n s.hif.wbOverrun + 2 * b2n s.hif.inOverrun + 4 * b2n fault + 8 * b2n s.claimed
  let s := { s with hif := { s.hif with wbSeq := seq } }
  (s.emit (.dmaWrite (base + 0x10) s.pageArrays)).emit
    (.dmaWrite base (le 8 s.beat.start ++ le 4 seq ++ le 4 status))

/-- A vector's message: sent, or its PBA bit set while it is masked. -/
def State.message_ (s : State) (v : Nat) : State :=
  let off := Reg.MSIX_PBA (v / 32)
  if bit (s.w (Reg.MSIX_ENTRY v 3)) 0 then s.orReg off (2 ^ (v % 32))
  else
    let s := s.setReg off (BitVec.ofNat 32 (setBits (s.w off) (v % 32) (v % 32) 0))
    s.emit (.msix v (s.w (Reg.MSIX_ENTRY v 0) + 2 ^ 32 * s.w (Reg.MSIX_ENTRY v 1)) (s.w (Reg.MSIX_ENTRY v 2)))

/-- Has a ring's message fallen due: enough entries, or entries that have waited long enough? -/
def msgDue (since wait thresh beats : Nat) : Bool :=
  decide (0 < thresh) && decide (0 < since) && (decide (thresh ≤ since) || (decide (0 < beats) && decide (beats ≤ wait)))

/-- The messages of a writeback: rings, faults, unmasked vectors; one for each vector. -/
def State.messages (s : State) : State :=
  let tx := (List.range 64).filter fun n =>
    msgDue (s.txRing n).since (s.txRing n).wait (s.cur (Fld.HIF_TXn_IRQ_THRESH n)) (s.cur (Fld.HIF_TXn_IRQ_BEATS n))
  let rx := (List.range 64).filter fun n =>
    msgDue (s.rxRing n).since (s.rxRing n).wait (s.cur (Fld.HIF_RXn_IRQ_THRESH n)) (s.cur (Fld.HIF_RXn_IRQ_BEATS n))
  let err := if s.hif.errVec then [s.cur Fld.HIF_ERR_VEC_VEC] else []
  let vecs := natSort (natDedup (tx.map (fun n => s.cur (Fld.HIF_TXn_IRQ_VEC n)) ++
    rx.map (fun n => s.cur (Fld.HIF_RXn_IRQ_VEC n)) ++ err ++ s.hif.pbaVecs))
  let s := tx.foldl (fun (s : State) n => s.setTxRing n { s.txRing n with since := 0, wait := 0 }) s
  let s := rx.foldl (fun (s : State) n => s.setRxRing n { s.rxRing n with since := 0, wait := 0 }) s
  let s := { s with hif := { s.hif with errVec := false, pbaVecs := [] } }
  vecs.foldl (fun (s : State) v => s.message_ v) s

/-- Coalescing timers count the beats that entries wait. -/
def State.tickTimers (s : State) : State :=
  let s := (List.range 64).foldl (fun (s : State) n =>
    let r := s.txRing n
    if 0 < r.since then s.setTxRing n { r with wait := r.wait + 1 } else s) s
  (List.range 64).foldl (fun (s : State) n =>
    let r := s.rxRing n
    if 0 < r.since then s.setRxRing n { r with wait := r.wait + 1 } else s) s

/-- Outputs of CRYPTO jobs that waited for the link leave (R104). -/
def State.writeOutputs (s : State) : State :=
  s.hif.outputs.foldl (fun (s : State) (e : Nat × Bytes) => s.emit (.dmaWrite e.1 e.2))
    { s with hif := { s.hif with outputs := [] } }

/-- The host interface's part of a writeback: `budget` entries fit before the page and the messages. -/
def State.hostWriteback (s : State) (budget : Nat) : State :=
  let s := s.tickTimers
  let room := s.hostUp && s.hif.linkReady
  let due := s.hif.rx.map fun (e : Nat × RxRing) => ((e.1, e.2.queue) : Nat × List RxEntry)
  let s := s.hif.rx.foldl (fun (s : State) (e : Nat × RxRing) => s.setRxRing e.1 { e.2 with queue := [] }) s
  let s := if room then s.writeOutputs else s
  let n := if room then min budget s.hif.finals.length else 0
  let now := s.hif.finals.take n
  let s := { s with hif := { s.hif with finals := s.hif.finals.drop n } }
  let s := now.foldl (fun (s : State) c => s.writeCompletion c) s
  let (_, s) := (List.range 64).foldl (fun (a : Nat × State) k => a.2.writeRing k (SMap.get [] due k) room a.1) (budget - n, s)
  let s := if room ∧ s.hif.finals.isEmpty = false then s.wbLate else s
  if room then
    (if s.get Fld.HIF_STATUS_RUNNING = 1 then s.writePage else s).messages
  else s

/-! ### Link loss and Function Level Reset (R104) -/

/-- Every HIF register returns to its reset value and every ring to OFF; completions and RX entries are discarded. -/
def State.hifReset (s : State) : State :=
  let s := (List.range 64).foldl (fun (s : State) n =>
    let s := s.rxFlush n
    let s := s.setRxRing n RxRing.fresh
    let s := if s.rxState n = 0 then s else s.setRxState n 0
    let s := s.setTxRing n { TxRing.fresh with gen := (s.txRing n).gen + 1 }
    if s.txState n = 0 then s else s.setTxState n 0) s
  let s := s.setRunning false
  let s := s.hif.finals.foldl (fun (s : State) (c : Completion) => s.gapBack c) s
  let out := fun (e : Nat × Word) => !decide (0x30000 ≤ e.1 ∧ e.1 < 0x40000)
  { s with regs := s.regs.filter out, live := s.live.filter out,
           paced := s.paced.filter fun o => !decide (0x30000 ≤ o ∧ o < 0x40000),
           hif := { s.hif with finals := [], passGap := [], passReplay := [], errVec := false, pbaVecs := [], wbSeq := 0,
                               outputs := [], linkReady := false } }

/-! ### Meanings -/

/-- TX_FRAME: the ring's next fetched FRAME descriptor enters the fabric; `bad`: queues found with differing pointers. -/
def execTxFrame (ring : Nat) (bad : List (Nat × Nat)) (t : Tai) (s : State) : Host.Outcome State Fault Refusal :=
  unlessHeld s <|
  runIf (Instr.txFrame ring bad t).wf "TX_FRAME" ((s.at t).submit ring bad)

/-- TX_NOP: the read of the ring's next descriptor, a NOP: it passes through intake and completes OK. -/
def execTxNop (d : DescRead) (t : Tai) (s : State) : Host.Outcome State Fault Refusal :=
  unlessHeld s <|
  runIf (Instr.txNop d t).wf "TX_NOP" ((s.at t).nop d)

/-- MSIX_COALESCING_TIMER: the ring's entries have waited BEATS beats; the next writeback sends its message. -/
def execMsixCoalescingTimer (tx : Bool) (ring : Nat) (s : State) : Host.Outcome State Fault Refusal :=
  unlessHeld s <|
  let s := s.begin
  runIf (Instr.msixCoalescingTimer tx ring).wf "MSIX_COALESCING_TIMER"
    (if tx then
       (let r := s.txRing ring
        if 0 < r.since then s.setTxRing ring { r with wait := max r.wait (s.cur (Fld.HIF_TXn_IRQ_BEATS ring)) } else s)
     else
       let r := s.rxRing ring
       if 0 < r.since then s.setRxRing ring { r with wait := max r.wait (s.cur (Fld.HIF_RXn_IRQ_BEATS ring)) } else s)

/-- A vector's mask bit is cleared: a pending message goes out in the next writeback. -/
def State.unmask (s : State) (v : Nat) : State :=
  let s := s.setReg (Reg.MSIX_ENTRY v 3) (BitVec.ofNat 32 (setBits (s.w (Reg.MSIX_ENTRY v 3)) 0 0 0))
  if bit (s.w (Reg.MSIX_PBA (v / 32))) (v % 32) ∧ ¬s.hif.pbaVecs.contains v then
    { s with hif := { s.hif with pbaVecs := s.hif.pbaVecs ++ [v] } }
  else s

/-- MSIX_UNMASK. -/
def execMsixUnmask (v : Nat) (s : State) : Host.Outcome State Fault Refusal :=
  unlessHeld s <|
  runIf (Instr.msixUnmask v).wf "MSIX_UNMASK" (s.begin.unmask v)

/-- HIF_CTRL.EN in force 1: doorbell fetches and page writes run; the first page carries WB_SEQ 1. -/
def State.hifEnable (s : State) : State :=
  if s.get Fld.HIF_STATUS_RUNNING = 1 then s
  else { (s.setRunning true) with hif := { s.hif with wbSeq := 0 } }

/-- HOST_INTERFACE_ENABLE. -/
def execHostInterfaceEnable (t : Tai) (s : State) : Host.Outcome State Fault Refusal :=
  unlessHeld s <|
  runIf (Instr.hostInterfaceEnable t).wf "HOST_INTERFACE_ENABLE" (((s.at t).putBoth Fld.HIF_CTRL_EN 1).hifEnable)

/-- HOST_INTERFACE_DISABLE. -/
def execHostInterfaceDisable (t : Tai) (s : State) : Host.Outcome State Fault Refusal :=
  unlessHeld s <|
  runIf (Instr.hostInterfaceDisable t).wf "HOST_INTERFACE_DISABLE"
    (((s.at t).putBoth Fld.HIF_CTRL_EN 0).setRunning false)

/-- TX_RING_ENABLE. -/
def execTxRingEnable (ring : Nat) (t : Tai) (s : State) : Host.Outcome State Fault Refusal :=
  unlessHeld s <|
  runIf (Instr.txRingEnable ring t).wf "TX_RING_ENABLE" (((s.at t).putBoth (Fld.HIF_TXn_CFG_EN ring) 1).txEnable ring)

/-- TX_RING_DISABLE. -/
def execTxRingDisable (ring : Nat) (t : Tai) (s : State) : Host.Outcome State Fault Refusal :=
  unlessHeld s <|
  runIf (Instr.txRingDisable ring t).wf "TX_RING_DISABLE" (((s.at t).putBoth (Fld.HIF_TXn_CFG_EN ring) 0).txDisable ring)

/-- TX_RING_DRAINED. -/
def execTxRingDrained (ring : Nat) (t : Tai) (s : State) : Host.Outcome State Fault Refusal :=
  unlessHeld s <|
  runIf (Instr.txRingDrained ring t).wf "TX_RING_DRAINED" ((s.at t).txDrained ring)

/-- RX_RING_ENABLE. -/
def execRxRingEnable (ring : Nat) (t : Tai) (s : State) : Host.Outcome State Fault Refusal :=
  unlessHeld s <|
  runIf (Instr.rxRingEnable ring t).wf "RX_RING_ENABLE" (((s.at t).putBoth (Fld.HIF_RXn_CFG_EN ring) 1).rxEnable ring)

/-- RX_RING_DISABLE. -/
def execRxRingDisable (ring : Nat) (t : Tai) (s : State) : Host.Outcome State Fault Refusal :=
  unlessHeld s <|
  runIf (Instr.rxRingDisable ring t).wf "RX_RING_DISABLE" (((s.at t).putBoth (Fld.HIF_RXn_CFG_EN ring) 0).rxDisable ring)

/-- PCIE_LINK_DOWN. -/
def execPcieLinkDown (t : Tai) (s : State) : Host.Outcome State Fault Refusal :=
  unlessHeld s <|
  let s := (s.at t).put Fld.HIF_STATUS_LINK_UP 0
  runIf (Instr.pcieLinkDown t).wf "PCIE_LINK_DOWN" { s with hif := { s.hif with linkReady := false } }

/-- PCIE_LINK_UP. -/
def execPcieLinkUp (t : Tai) (s : State) : Host.Outcome State Fault Refusal :=
  unlessHeld s <|
  runIf (Instr.pcieLinkUp t).wf "PCIE_LINK_UP" ((s.at t).put Fld.HIF_STATUS_LINK_UP 1)

/-- FUNCTION_LEVEL_RESET. -/
def execFunctionLevelReset (t : Tai) (s : State) : Host.Outcome State Fault Refusal :=
  unlessHeld s <|
  runIf (Instr.functionLevelReset t).wf "FUNCTION_LEVEL_RESET" ((s.at t).hifReset)

end Sys2Proof.Machine
end

