-- ==== Sys2Proof/Machine/Time.lean ====
section
/-! DEFINITION. The time unit: its states, the servo, the master's selection, PTP messages, steps and time beacons
(chapter "Time, Synchronisation and Timestamps"). -/

namespace Sys2Proof.Machine

/-- The time unit's state code (Table 3.1): 0 FREE_RUN, 1 ACQUIRING, 2 LOCKED, 3 HOLDOVER, 4 REFUSING. -/
def State.timeState (s : State) : Nat := s.get Fld.TIME_STATUS_STATE

/-- The master's logical port; 0x7F none. -/
def State.masterPort (s : State) : Nat := s.get Fld.TIME_STATUS_MASTER_PORT

/-- The logical port of a PTP port (R49). -/
def ptpPort (p : Nat) : Nat := if p < 4 then 56 + p else if p < 12 then 48 + (p - 4) else 60

/-! ### The servo (R51, R52) -/

def absRat (x : Rat) : Rat := if x < 0 then -x else x

/-- A value clamped to ± a limit. -/
def clampRat (lim x : Rat) : Rat := max (-lim) (min lim x)

/-- The slew limit in force, as a rate. -/
def State.slewLimit (s : State) : Rat := (s.cur Fld.TIME_SLEW_LIMIT_PPM : Nat) / 1000000

/-- TAU in ns. -/
def State.tauNs (s : State) : Rat := (s.cur Fld.TIME_SERVO_TAU_MS : Nat) * 1000000

/-- The frequency correction in force, within the slew limit. -/
def State.freq (s : State) : Rat := clampRat s.slewLimit s.time.f

/-- What the slew limit leaves for removing phase. -/
def State.room (s : State) : Rat := s.slewLimit - absRat s.freq

/-- The phase-slew term: only in LOCKED. -/
def State.slew (s : State) : Rat := if s.timeState = 2 then clampRat s.room (s.time.r / s.tauNs) else 0

/-- 2^80: the fixed point in which the exponential is worked out. -/
def expOne : Nat := 2 ^ 80

/-- The sum of the first terms of the series of e^(-y), y in fixed point: k terms are left, `term` is the next, `i` its
number. -/
def expSeries (y : Nat) : Nat → Nat → Int → Int → Int
  | 0, _, _, sum => sum
  | k + 1, i, term, sum => expSeries y k (i + 1) (-(term * (y : Int) / ((i + 1) * expOne : Nat))) (sum + term)

/-- Square k times. -/
def expSquares : Nat → Nat → Nat
  | 0, e => e
  | k + 1, e => expSquares k (e * e / expOne)

/-- e^(-x) for x ≥ 0, to within 2^-64. -/
def expNeg (x : Rat) : Rat :=
  if 64 ≤ x then 0
  else
    let y : Nat := (x.num.toNat * expOne / x.den) / 1024
    let e := expSquares 10 (expSeries y 14 0 expOne 0).toNat
    (e : Rat) / (expOne : Rat)

/-- The phase that the unclamped law s = r / TAU removes from a remaining offset x ≥ 0 in a time: x decays exponentially, and
s never exceeds x / TAU, its value at the start (R52). -/
def tailPhase (x tau dt : Rat) : Rat :=
  if dt ≤ 0 ∨ tau ≤ 0 then 0 else max 0 (min (x * dt / tau) (x * (1 - expNeg (dt / tau))))

/-- The phase that s removes from a remaining offset in a time: at the clamp while the offset is above its reach, then
along the law of r / TAU. -/
def phaseRemoved (r room tau dt : Rat) : Rat :=
  if room ≤ 0 ∨ dt ≤ 0 then 0
  else
    let a := absRat r
    let reach := room * tau
    let got := if a ≤ reach then tailPhase a tau dt
      else if room * dt ≤ a - reach then room * dt
      else (a - reach) + tailPhase reach tau (dt - (a - reach) / room)
    if r < 0 then -got else got

/-- TIME_FREQ and SLEW_CLAMPED show the rate adjustment (R51). -/
def State.showServo (s : State) : State :=
  let total := s.freq + s.slew
  let clamped := decide (s.slewLimit < absRat s.time.f) ||
    (s.timeState == 2 && decide (s.room < absRat (s.time.r / s.tauNs)))
  (s.setReg Reg.TIME_FREQ (BitVec.ofInt 32 (satSigned 32 (roundFree (total * 2 ^ 32))))).put Fld.TIME_STATUS_SLEW_CLAMPED
    (b2n clamped)

/-- The servo runs up to the present time. -/
def State.servoRun (s : State) : State :=
  let dt : Rat := ((s.time.now : Int) - (s.time.rAt : Int) : Int)
  let gone := if s.timeState = 2 then phaseRemoved s.time.r s.room s.tauNs dt else 0
  let added := s.time.added + s.freq * (max 0 dt) + gone
  ({ s with time := { s.time with r := s.time.r - gone, rAt := s.time.now, added := added } }).showServo

/-- Least-squares slope of points; none where it has none. -/
def slopeOf (pts : List (Rat × Rat)) : Option Rat :=
  let n : Rat := (pts.length : Nat)
  let sx := (pts.map (·.1)).sum
  let sy := (pts.map (·.2)).sum
  let sxx := (pts.map fun (e : Rat × Rat) => e.1 * e.1).sum
  let sxy := (pts.map fun (e : Rat × Rat) => e.1 * e.2).sum
  let den := n * sxx - sx * sx
  if pts.length < 2 ∨ den = 0 then none else some ((n * sxy - sx * sy) / den)

/-- The time unit changes state; s runs only in LOCKED. -/
def State.setTimeState (s : State) (st : Nat) : State :=
  let s := s.put Fld.TIME_STATUS_STATE st
  if st = 2 then s else { s with time := { s.time with r := 0 } }

/-- An accepted measurement: into the trend, TIME_OFFSET, and in LOCKED into r. `raw` is the offset without a pending
step, which the trend needs for one reference. -/
def State.accept (s : State) (raw m : Rat) (at_ : Tai) : State :=
  let trend := (((at_ : Nat) : Rat), raw + s.time.added) :: s.time.trend
  let trend := trend.take 16
  let f := (slopeOf trend).getD s.time.f
  let s := { s with time := { s.time with trend := trend, f := f, r := if s.timeState = 2 then m else 0 } }
  (s.setReg Reg.TIME_OFFSET (BitVec.ofInt 32 (satSigned 32 (roundFree m)))).showServo

/-- The mean of measurements. -/
def meanOf (l : List Rat) : Rat := l.sum / (l.length : Nat)

/-- Largest minus smallest. -/
def spreadOf : List Rat → Rat
  | [] => 0
  | x :: l => l.foldl max x - l.foldl min x

/-- A step becomes pending (R54, R58). -/
def State.pendStep (s : State) (v : Int) (host : Bool) : State :=
  let time := if host then { s.time with step := some v } else { s.time with lockStep := some v }
  ({ s with time := time }).put Fld.TIME_STATUS_STEP_PENDING 1

/-- A step waits for the end of its beat (R24, R54). -/
def State.stepWaits (s : State) : Bool := s.time.step.isSome || s.time.lockStep.isSome

/-- What the pending steps will add to the time. -/
def State.stepSum (s : State) : Int := s.time.step.getD 0 + s.time.lockStep.getD 0

/-- First lock: the mean of the 8 is stepped at the end of the beat. -/
def State.firstLock (s : State) : State :=
  let v := roundFree (meanOf s.time.held)
  let s := ((s.setTimeState 2).put Fld.TIME_STATUS_EVER_LOCKED 1).put Fld.BEAT_STATUS_TIME_LOCKED 1
  (s.pendStep v false).raise 0x0302 0 [.d8 v]

/-- A measurement beyond the jump threshold is refused (R54, R55). -/
def State.refuseJump (s : State) (m : Rat) : State :=
  let v := roundFree m
  let s := (s.count Reg.TIME_JUMP_CNT).setReg64 Reg.TIME_LAST_JUMP (ofInt 8 (satSigned 64 v))
  if s.timeState = 4 then s
  else
    let s := { s with time := { s.time with refusedAt := s.time.now } }
    ((s.setTimeState 4).showServo).raise 0x0301 0 [.d8 v, n4 s.masterPort]

/-- A measurement of the master is judged (Table 3.1, R54). -/
def State.judge (s : State) (raw : Rat) (at_ : Tai) : State :=
  let m := raw - (s.stepSum : Rat)
  let s := { s with time := { s.time with held := (m :: s.time.held).take 8 } }
  if s.timeState = 1 then
    let s := s.accept raw m at_
    if s.time.held.length = 8 ∧ spreadOf s.time.held < 1000 then s.firstLock else s
  else if s.timeState = 0 then s
  else if ((s.cur Fld.TIME_JUMP_THR_NS : Nat) : Rat) < absRat m then s.refuseJump m
  else
    let s := if s.timeState = 2 then s else s.setTimeState 2
    s.accept raw m at_

/-! ### PTP ports (R48-R50) -/

/-- Is PTP enabled on a port? A T1S port is a master whatever the profile. -/
def State.ptpOn (s : State) (p : Nat) : Bool :=
  s.on (Fld.TIME_PORTp_EN p) && (decide (4 ≤ p ∧ p ≤ 11) || s.cur Fld.TIME_PTP_CFG_PROFILE != 0)

/-- May a port receive from a master? -/
def State.ptpSlaveable (s : State) (p : Nat) : Bool :=
  s.ptpOn p && !decide (4 ≤ p ∧ p ≤ 11) && (s.cur (Fld.TIME_PORTp_ROLE p) == 0 || s.cur (Fld.TIME_PORTp_ROLE p) == 2)

/-- A signed exponent field of 4 bits, as an interval in ns. -/
def intervalNs (v : Nat) : Nat := if v < 8 then 1000000000 * 2 ^ v else 1000000000 / 2 ^ (16 - v)

/-- An interval stated as a power of 2 of seconds, in ns. -/
def powerNs (log : Int) : Rat :=
  if 0 ≤ log then ((1000000000 * 2 ^ log.toNat : Nat) : Rat) else 1000000000 / ((2 ^ (-log).toNat : Nat) : Rat)

/-- Has an interval passed since something of a port last happened? -/
def State.intervalOver (s : State) (l : List (Nat × Tai)) (p interval : Nat) : Bool :=
  match SMap.look l p with
  | none => true
  | some t => decide (t + interval ≤ s.time.now)

/-- A received PTP message for an unsupported option is counted and not processed (R48). -/
def State.ptpDiscard (s : State) : State := s.count32 Reg.TIME_PTP_DISCARD

/-- Is the port's link up? -/
def State.ptpUp (s : State) (p : Nat) : Bool :=
  if p < 4 then s.get (Fld.ETH_Pq_STATUS_STATE p) == 2
  else if p < 12 then s.get (Fld.T1S_Ss_STATUS_STATE (p - 4)) == 2
  else s.get (Fld.ETH_Pq_STATUS_STATE 4) == 2

/-- An Ethernet capture as a stamp: ASYM_IN and ASYM_EG of the port (R61). -/
def State.ptpIn (s : State) (p edge16 : Nat) : Tai := s.stampIn (ptpPort p) edge16
def State.ptpOut (s : State) (p edge16 : Nat) : Tai := s.stampOut (ptpPort p) edge16

/-! ### The best master clock algorithm (R46, R50, R520) -/

/-- What an Announce is compared by. -/
def Foreign.rank (f : Foreign) : List Nat :=
  [f.prio1, f.cls, f.acc, f.oslv, f.prio2, f.gmId, f.steps, f.sender, f.port]

/-- The gateway's own clock quality (R50). -/
def State.ownRank (s : State) : List Nat :=
  let cls := if s.on Fld.TIME_PTP_CFG_GM_CAPABLE then s.cur Fld.TIME_PTP_QUAL_CLOCK_CLASS else 255
  [s.cur Fld.TIME_PTP_PRIO_PRIORITY1, cls, s.cur Fld.TIME_PTP_QUAL_CLOCK_ACCURACY, s.cur Fld.TIME_PTP_QUAL_OSLV,
   s.cur Fld.TIME_PTP_PRIO_PRIORITY2, Config.uid.toNat, 0, Config.uid.toNat, 0]

/-- Lexicographic order. -/
def rankLess : List Nat → List Nat → Bool
  | x :: l, y :: m => decide (x < y) || (x == y && rankLess l m)
  | _, _ => false

/-- A foreign master may be selected once it has been heard twice; under 802.1AS at once. -/
def State.qualified (s : State) (f : Foreign) : Bool :=
  s.ptpSlaveable f.port && (decide (2 ≤ f.heard) || s.cur Fld.TIME_PTP_CFG_PROFILE == 3) && decide (f.steps < 255) &&
  (s.cur (Fld.TIME_PORTp_ROLE f.port) == 2 || !s.on Fld.TIME_PTP_CFG_GM_CAPABLE ||
    (rankLess f.rank s.ownRank && decide (127 < s.cur Fld.TIME_PTP_QUAL_CLOCK_CLASS)))

/-- The best of the qualified foreign masters. -/
def State.bestForeign (s : State) : Option Foreign :=
  (s.time.foreign.filter s.qualified).foldl (fun (b : Option Foreign) (f : Foreign) =>
    match b with
    | none => some f
    | some g => if rankLess f.rank g.rank then some f else some g) none

/-- The master's measurements are gone. -/
def State.dropMeasurements (s : State) : State :=
  { s with time := { s.time with held := [], trend := [], r := 0 } }

/-- A master is followed: none of its Syncs has come yet. -/
def State.follow_ (s : State) (sender gm : Nat) : State :=
  { s with time := { s.time with sender := sender, gm := gm, sync := none } }

/-- The master is lost (R46): no port is the master's, and f is held. -/
def State.masterLost (s : State) : State :=
  if s.masterPort = 0x7F then s
  else
    let st := s.timeState
    let s := (s.servoRun.put Fld.TIME_STATUS_MASTER_PORT 0x7F).dropMeasurements
    let s := s.follow_ 0 0
    if st = 1 then (s.setTimeState 0).showServo
    else if st = 2 ∨ st = 4 then
      ((s.setTimeState 3).showServo).raise 0x0303 0 [.d4 (satSigned 32 (roundFree (s.time.f * 2 ^ 32)))]
    else s.showServo

/-- The BMCA decides: a first master is selected, or a different one replaces the present one (R520). DESIGN CHOICE: a changed
grandmaster identity behind the same sender and port is a different master; and where no qualified master is left without a
time-out of R46 (a port that no longer receives from a master, a better clock of the gateway's own), the master is lost. -/
def State.bmca (s : State) : State :=
  match s.bestForeign with
  | none => s.masterLost
  | some f =>
    let old := s.masterPort
    let new := ptpPort f.port
    if old = 0x7F then
      let s := (s.put Fld.TIME_STATUS_MASTER_PORT new).dropMeasurements
      let s := s.follow_ f.sender f.gmId
      (if s.timeState = 0 then s.setTimeState 1 else s).showServo
    else if old = new ∧ s.time.sender = f.sender ∧ s.time.gm = f.gmId then s
    else
      let s := (s.servoRun.put Fld.TIME_STATUS_MASTER_PORT new).dropMeasurements
      let s := s.follow_ f.sender f.gmId
      s.showServo.raise 0x0306 0 [n4 old, n4 new]

/-- An Announce is recorded; foreign masters not heard for the receipt time-out are forgotten, but the present master only by
its own time-out (R46). One whose path trace holds the gateway itself has come round a loop and is ignored (Table 3.2). -/
def State.announce (s : State) (p : Nat) (a : Announce) : State :=
  let step := intervalNs (s.cur (Fld.TIME_PORTp_LOG_ANNOUNCE p))
  let now := s.time.now
  let heard := match s.time.foreign.find? (fun (f : Foreign) => f.port == p && f.sender == a.sender) with
    | some f => if now - f.last ≤ 4 * step then f.heard + 1 else 1
    | none => 1
  let fresh := s.time.foreign.filter fun (f : Foreign) =>
    !(f.port == p && f.sender == a.sender) && (f.sender == s.time.sender && ptpPort f.port == s.masterPort ||
    decide (now - f.last ≤ s.cur (Fld.TIME_PORTp_ANN_TMO f.port) * intervalNs (s.cur (Fld.TIME_PORTp_LOG_ANNOUNCE f.port))))
  let f : Foreign := { port := p, sender := a.sender, gmId := a.gmId, prio1 := a.prio1, cls := a.cls, acc := a.acc,
                       oslv := a.oslv, prio2 := a.prio2, steps := a.steps, heard := heard, last := now, path := a.path }
  if a.path.contains Config.uid.toNat then s
  else ({ s with time := { s.time with foreign := f :: fresh } }).bmca

/-- The master as its Announce messages told of it. -/
def State.masterHeard (s : State) : Option Foreign :=
  s.time.foreign.find? fun (f : Foreign) => ptpPort f.port == s.masterPort && f.sender == s.time.sender

/-- Has the announce receipt time-out of the master's port expired (R46)? -/
def State.announceLate (s : State) : Bool :=
  let p := ptpOf s.masterPort
  let tmo := s.cur (Fld.TIME_PORTp_ANN_TMO p) * intervalNs (s.cur (Fld.TIME_PORTp_LOG_ANNOUNCE p))
  match s.masterHeard with
  | none => true
  | some f => decide (f.last + tmo ≤ s.time.now)

/-- Have four of the master's sync intervals passed without a usable Sync (R46)? -/
def State.syncLate (s : State) : Bool :=
  match s.time.sync with
  | none => false
  | some (t, log) => decide ((t : Rat) + 4 * powerNs log ≤ (s.time.now : Rat))

/-- A time-out of the master: it is forgotten, and another qualified one is selected. -/
def State.masterTimeout (s : State) (late : Bool) : State :=
  if s.masterPort = 0x7F ∨ late = false then s
  else
    let p := ptpOf s.masterPort
    let keep := s.time.foreign.filter fun (f : Foreign) => !(f.port == p && f.sender == s.time.sender)
    (({ s with time := { s.time with foreign := keep } }).masterLost).bmca

/-- Does the default BMCA leave a port passive: a clock on it tells of the grandmaster that the gateway follows, or, of a
gateway that is its own grandmaster with a class below 128, of a better one? -/
def State.ptpPassive (s : State) (p : Nat) : Bool :=
  s.time.foreign.any fun (f : Foreign) => f.port == p &&
    (if s.masterPort != 0x7F then s.qualified f && f.gmId == s.time.gm
     else decide (2 ≤ f.heard) && decide (s.cur Fld.TIME_PTP_QUAL_CLOCK_CLASS < 128) && rankLess f.rank s.ownRank)

/-- Is a PTP port in the master state? -/
def State.ptpMaster (s : State) (p : Nat) : Bool :=
  s.ptpOn p && s.ptpUp p &&
  (if 4 ≤ p ∧ p ≤ 11 then s.claimed
   else s.cur (Fld.TIME_PORTp_ROLE p) == 1 ||
     (s.cur (Fld.TIME_PORTp_ROLE p) == 0 && s.masterPort != ptpPort p &&
      (s.on Fld.TIME_PTP_CFG_GM_CAPABLE || s.masterPort != 0x7F) && !s.ptpPassive p))

/-- What a port's Announce says: the master's grandmaster one step further, or the gateway itself, and behind it the clock
identities of the path trace TLV, the gateway's own last (Table 3.2). -/
def State.announceFields (s : State) : List Nat :=
  match s.masterHeard with
  | some f => [f.prio1, f.cls, f.acc, f.oslv, f.prio2, f.gmId, f.steps + 1] ++ f.path ++ [Config.uid.toNat]
  | none => s.ownRank.take 7 ++ [Config.uid.toNat]

/-! ### Steps (R56-R58) -/

/-- Are time beacons enabled on any CAN port? -/
def State.beaconsEnabled (s : State) : Bool :=
  s.liveReg Reg.TIME_BCN_EN0 != 0#32 || bits (s.liveReg Reg.TIME_BCN_EN1).toNat 15 0 != 0

/-- A step request is judged: the first case of R57, 0 for none. DESIGN CHOICE: the stepped time of the last case is the time
at the evaluation plus the step. -/
def State.stepRefusal (s : State) (mode : Nat) (v : Int) : Nat :=
  if s.liveRoutes.any (fun r => r.cls == 7) then 3
  else if s.beaconsEnabled then 4
  else if mode = 1 ∧ s.time.held.length < 8 then 5
  else if s.stepWaits then 6
  else if (s.time.now : Int) + v ≤ 0 then 7
  else 0

/-- A step request is evaluated. -/
def State.evaluateStep (s : State) (mode : Nat) : State :=
  let v : Int := if mode = 1 then (if s.time.held.length < 8 then 0 else roundFree (meanOf s.time.held))
    else toSigned 64 (s.reg64 Reg.TIME_STEP_VALUE)
  let code := s.stepRefusal mode v
  if code = 0 then (s.put Fld.TIME_STEP_STATUS_RESULT 1).pendStep v true
  else (s.put Fld.TIME_STEP_STATUS_RESULT code).raise 0x0305 0 [n4 code]

/-- Every step request accepted before the commit slot is evaluated at its end. -/
def State.evaluateSteps (s : State) : State :=
  let modes := s.cmds.filterMap fun (c : RegCmd) => match c with
    | .step m => some m
    | _ => none
  let rest := s.cmds.filter fun (c : RegCmd) => match c with
    | .step _ => false
    | _ => true
  modes.foldl (fun (s : State) m => s.evaluateStep m) { s with cmds := rest }

/-- The next beat boundary at or after a time (R21). -/
def State.boundaryFrom (s : State) (t : Tai) : Tai := (t + s.beatLen - 1) / s.beatLen * s.beatLen

/-- A time kept from before a step, on the scale that the step establishes. -/
def shifted (v : Int) (t : Tai) : Tai := ((t : Int) + v).toNat

/-- What the time unit remembers moves to the new scale with a step; the beacons before it are forgotten (R67). -/
def TimeUnit.step_ (x : TimeUnit) (new : Tai) (v : Int) : TimeUnit :=
  let move := fun (e : Nat × Tai) => ((e.1, shifted v e.2) : Nat × Tai)
  { x with
    now := new, rAt := new, step := none, lockStep := none,
    beacons := x.beacons.map fun (e : Nat × Beacon) => (e.1, { e.2 with prev := none, sent := [] }),
    foreign := x.foreign.map fun (f : Foreign) => { f with last := shifted v f.last },
    syncGap := x.syncGap.map fun (e : Nat × Rat) => (e.1, e.2 + (v : Rat)),
    sync := x.sync.map fun (e : Tai × Int) => (shifted v e.1, e.2),
    annSent := x.annSent.map move, syncSent := x.syncSent.map move, reqSent := x.reqSent.map move,
    refusedAt := shifted v x.refusedAt,
    asymLog := x.asymLog.map fun (e : Nat × Tai × Word) => (e.1, shifted v e.2.1, e.2.2) }

/-- Instants that the part keeps to measure how long something has lasted (a time that runs on through a step): each moves
to the new scale, so that no duration changes. Stamps and times of the timescale itself stay. -/
def State.marksMove (s : State) (v : Int) : State :=
  let mv := shifted v
  { s with
    can := s.can.map fun (e : Nat × CanPort) => (e.1, { e.2 with boffAt := mv e.2.boffAt }),
    fab := { s.fab with arrivals := s.fab.arrivals.map fun (e : Nat × Arrival) => (e.1, { e.2 with at_ := mv e.2.at_ }) },
    reef := { s.reef with ports := s.reef.ports.map fun (e : Nat × ReefPort) =>
      (e.1, { e.2 with restart := mv e.2.restart, awakeFrom := mv e.2.awakeFrom, wokeAt := mv e.2.wokeAt,
                       delayFrom := mv e.2.delayFrom }) },
    eth := { s.eth with tails := s.eth.tails.map fun (e : Nat × EthTail) => (e.1, { e.2 with start := mv e.2.start }) },
    ser := s.ser.map fun (e : Nat × SerChan) =>
      (e.1, { e.2 with deUntil := mv e.2.deUntil, cfgAt := mv e.2.cfgAt, freeAt := mv e.2.freeAt,
                       seen16 := shifted (16 * v) e.2.seen16,
                       frame := e.2.frame.map fun (f : SerFrame) => { f with until_ := mv f.until_ } }),
    nest := { s.nest with lastStart := s.nest.lastStart.map fun (e : Nat × Tai) => (e.1, mv e.2) },
    hal := { s.hal with windowAt := mv s.hal.windowAt },
    pwr := { s.pwr with
      good := s.pwr.good.map mv, fell := mv s.pwr.fell, entered := mv s.pwr.entered, shedAt := mv s.pwr.shedAt,
      domains := s.pwr.domains.map fun (e : Nat × Domain) =>
        (e.1, { e.2 with wakeAt := mv e.2.wakeAt, since := mv e.2.since }) },
    shr := s.shr.map fun (e : Nat × ShrLine) =>
      (e.1, { e.2 with setAt := e.2.setAt.map fun (x : Nat × Tai) => (x.1, mv x.2) }),
    nvm := { s.nvm with trialFrom := mv s.nvm.trialFrom } }

/-- A beacon that waits with its trailer made before a step is replaced: the first after it carries no PREV_SOF (R67). -/
def State.beaconsReplaced (s : State) : State :=
  (List.range 48).foldl (fun (s : State) n =>
    if (s.beaconCopies n).any (fun (c : Copy) => c.ready) then (s.dropBeacon n).beaconDue n else s) s

/-- The pending steps are applied at the end of the beat: the time, the held measurements, the beacons, and the realignment gap
(R24, R58, R67). -/
def State.applyStep (s : State) : State :=
  if s.stepWaits then
    let s := s.servoRun
    let old := s.time.now
    let host := s.time.step
    let v := s.stepSum
    let new := shifted v old
    let last := s.time.lockStep.getD (host.getD 0)
    let s := ({ s with time := s.time.step_ new v }).marksMove v
    let s := (s.dropMeasurements).put Fld.TIME_STATUS_STEP_PENDING 0
    let s := (s.setReg64 Reg.TIME_LAST_STEP (ofInt 8 last)).showServo
    let s := match host with
      | some h => (s.put Fld.TIME_STEP_STATUS_RESULT 2).raise 0x0304 0 [n8 old, n8 (shifted h old)]
      | none => s
    let s := { s.leaveSlot with beat := { s.leaveSlot.beat with gapFrom := new, next := s.boundaryFrom new } }
    ((s.put Fld.BEAT_STATUS_REALIGNING 1).put Fld.BEAT_STATUS_SLOT_CUR 7).beaconsReplaced
  else s

/-- Is it the end of a beat whose slots have run: the instant at which a step is applied (R24, R58)? -/
def State.beatOver (s : State) : Bool := s.slotsRun && s.time.now == s.beat.next

/-! ### Meanings -/

/-- SYNC_RECEIVED: a Sync with its Follow_Up where used, from a sender, with its origin time in ns and its correction in
1/65,536 ns; `log`: the sync interval that it states, as a power of 2 of seconds. DESIGN CHOICE: while no path delay has been
measured on the port, the measurement takes it as 0. -/
def execSyncReceived (p sender origin : Nat) (corr log : Int) (edge16 : Nat) (t : Tai) (s : State) :
    Host.Outcome State Fault Refusal :=
  unlessHeld s <|
  let s := s.at t
  runIf (Instr.syncReceived p sender origin corr log edge16 t).wf "SYNC_RECEIVED"
    (if s.ptpSlaveable p ∧ s.masterPort = ptpPort p ∧ s.time.sender = sender then
       let rx := s.ptpIn p edge16
       let gap : Rat := ((rx : Int) - (origin : Int) : Int) - (corr : Rat) / 65536
       let s := ({ s with time := { s.time with syncGap := SMap.put s.time.syncGap p gap, sync := some (s.time.now, log) } }).servoRun
       let link := toSigned 24 (s.cur (Fld.TIME_ASYM_LINKn_LINK (ptpPort p)))
       s.judge (SMap.get 0 s.time.delay p + (link : Rat) / 16 - gap) rx
     else s)

/-- ANNOUNCE_RECEIVED. -/
def execAnnounceReceived (p : Nat) (a : Announce) (t : Tai) (s : State) :
    Host.Outcome State Fault Refusal :=
  unlessHeld s <|
  let s := s.at t
  runIf (Instr.announceReceived p a t).wf "ANNOUNCE_RECEIVED"
    (if s.ptpSlaveable p then s.announce p a else s)

/-- ANNOUNCE_RECEIPT_TIMEOUT. -/
def execAnnounceReceiptTimeout (t : Tai) (s : State) : Host.Outcome State Fault Refusal :=
  unlessHeld s <|
  let s := s.at t
  runIf (Instr.announceReceiptTimeout t).wf "ANNOUNCE_RECEIPT_TIMEOUT" (s.masterTimeout s.announceLate)

/-- SYNC_RECEIPT_TIMEOUT. -/
def execSyncReceiptTimeout (t : Tai) (s : State) : Host.Outcome State Fault Refusal :=
  unlessHeld s <|
  let s := s.at t
  runIf (Instr.syncReceiptTimeout t).wf "SYNC_RECEIPT_TIMEOUT" (s.masterTimeout s.syncLate)

/-- TIME_JUMP_REFUSED_REPEAT: 60 s have passed in REFUSING since the event was last raised (R55). -/
def execTimeJumpRefusedRepeat (t : Tai) (s : State) : Host.Outcome State Fault Refusal :=
  unlessHeld s <|
  let s := s.at t
  runIf (Instr.timeJumpRefusedRepeat t).wf "TIME_JUMP_REFUSED_REPEAT"
    (if s.timeState = 4 ∧ s.time.refusedAt + 60000000000 ≤ s.time.now then
       ({ s with time := { s.time with refusedAt := s.time.now } }).raise 0x0301 0
         [.d8 (toSigned 64 (s.reg64 Reg.TIME_LAST_JUMP)), n4 s.masterPort]
     else s)

/-- ANNOUNCE_TRANSMIT: the announce interval of a master port has passed (R50). -/
def execAnnounceTransmit (p : Nat) (t : Tai) (s : State) : Host.Outcome State Fault Refusal :=
  unlessHeld s <|
  let s := s.at t
  runIf (Instr.announceTransmit p t).wf "ANNOUNCE_TRANSMIT"
    (if s.ptpMaster p ∧ s.intervalOver s.time.annSent p (intervalNs (s.cur (Fld.TIME_PORTp_LOG_ANNOUNCE p))) = true then
       ({ s with time := { s.time with annSent := SMap.put s.time.annSent p s.time.now } }).ptpSend (ptpPort p) 2 t s.announceFields
     else s)

/-- SYNC_TRANSMIT: the sync interval of a master port has passed (R49): one-step with its own stamp, or two-step with a Follow_Up. -/
def execSyncTransmit (p edge16 : Nat) (t : Tai) (s : State) : Host.Outcome State Fault Refusal :=
  unlessHeld s <|
  let s := s.at t
  let out := s.ptpOut p edge16
  runIf (Instr.syncTransmit p edge16 t).wf "SYNC_TRANSMIT"
    (if s.ptpMaster p ∧ s.intervalOver s.time.syncSent p (intervalNs (s.cur (Fld.TIME_PORTp_LOG_SYNC p))) = true then
       (let s := { s with time := { s.time with syncSent := SMap.put s.time.syncSent p s.time.now } }
        if p < 4 ∧ s.on (Fld.TIME_PORTp_ONE_STEP p) then s.ptpSend (ptpPort p) 0 out []
        else (s.ptpSend (ptpPort p) 0 0 []).ptpSend (ptpPort p) 1 out [])
     else s)

/-- PTP_DELAY_REQUEST: a delay request is answered on a master port under the delay request-response mechanism, a peer delay request
on any port that uses the peer delay mechanism (Table 3.2). -/
def execPtpDelayRequest (p edge16 : Nat) (t : Tai) (s : State) : Host.Outcome State Fault Refusal :=
  unlessHeld s <|
  let s := s.at t
  runIf (Instr.ptpDelayRequest p edge16 t).wf "PTP_DELAY_REQUEST"
    (if s.on (Fld.TIME_PORTp_P2P p) = true ∧ ¬(4 ≤ p ∧ p ≤ 11) then
       (if s.ptpOn p ∧ s.ptpUp p then s.ptpSend (ptpPort p) 5 (s.ptpIn p edge16) [] else s)
     else if s.ptpMaster p then s.ptpSend (ptpPort p) 4 (s.ptpIn p edge16) []
     else s)

/-- DELAY_REQ_INTERVAL: a delay request leaves at one capture; its response gives the time it arrived at the peer, the
peer's sending time (peer delay), the correction in 1/65,536 ns and the capture of its arrival. -/
def execDelayReqInterval (p egress16 : Nat) (resp : Option (Nat × Nat × Int × Nat)) (t : Tai) (s : State) :
    Host.Outcome State Fault Refusal :=
  unlessHeld s <|
  let s := s.at t
  let peer := s.on (Fld.TIME_PORTp_P2P p)
  let sent : Int := s.ptpOut p egress16
  runIf (Instr.delayReqInterval p egress16 resp t).wf "DELAY_REQ_INTERVAL"
    (if s.ptpOn p ∧ s.ptpUp p ∧ ¬(4 ≤ p ∧ p ≤ 11) ∧ (peer = true ∨ s.masterPort = ptpPort p) ∧
          s.intervalOver s.time.reqSent p (intervalNs (s.cur (Fld.TIME_PORTp_LOG_DELAY p))) = true then
       let s := { s with time := { s.time with reqSent := SMap.put s.time.reqSent p s.time.now } }
       let s := s.ptpSend (ptpPort p) 3 sent []
       match resp with
       | none => s
       | some (arrived, back, corr, in16) =>
         let got : Int := s.ptpIn p in16
         let c : Rat := (corr : Rat) / 65536
         let mean : Option Rat := if peer then some ((((got - sent) - ((back : Int) - (arrived : Int)) : Int) - c) / 2)
           else (SMap.look s.time.syncGap p).map fun (g : Rat) => (g + ((arrived : Int) - sent : Int) - c) / 2
         match mean with
         | none => s
         | some d => { s with time := { s.time with delay := SMap.set 0 s.time.delay p d } }
     else s)

/-- TIME_STEP_EVALUATE: at the end of a commit slot (R56). -/
def execTimeStepEvaluate (t : Tai) (s : State) : Host.Outcome State Fault Refusal :=
  unlessHeld s <|
  let s := s.at t
  runIf (Instr.timeStepEvaluate t).wf "TIME_STEP_EVALUATE" (if s.commitDue then s.evaluateSteps else s)

/-- TIME_STEP_APPLY: at the end of a beat. -/
def execTimeStepApply (t : Tai) (s : State) : Host.Outcome State Fault Refusal :=
  unlessHeld s <|
  let s := s.at t
  runIf (Instr.timeStepApply t).wf "TIME_STEP_APPLY" (if s.beatOver then s.applyStep else s)

/-- TIME_BEACON_DUE: once, at the start of a beat whose absolute index mod PERIOD is PHASE, each enabled port queues a beacon (R65). `bad`:
queues found with differing pointers (R132). -/
def execTimeBeaconDue (bad : List (Nat × Nat)) (t : Tai) (s : State) : Host.Outcome State Fault Refusal :=
  unlessHeld s <|
  let s := s.at t
  let due : Bool := s.slotsRun && s.time.now == s.beat.start && !s.beat.beaconRun &&
    s.beatIndex % s.cur Fld.TIME_BCN_CFG_PERIOD == s.cur Fld.TIME_BCN_CFG_PHASE
  runIf (Instr.timeBeaconDue bad t).wf "TIME_BEACON_DUE"
    (if due then
       ((List.range 48).filter s.beaconOn).foldl (fun (s : State) n => s.beaconDue n)
         ({ s with beat := { s.beat with beaconRun := true } }.resetQueues bad)
     else s)

end Sys2Proof.Machine
end

