-- ==== Sys2Proof/Machine/Eth.lean ====
section
/-! DEFINITION. The Ethernet lanes, the management port and the T1S segments: reception and its classification, transmission,
links, PLCA, MDIO (chapter "Ethernet Lanes, T1S Segments and Management Port").
Lanes and the management port are q = 0-4 (logical ports 56-60), T1S segments k = 0-7 (logical ports 48-55). -/

namespace Sys2Proof.Machine

/-! ### Reception (R220, R221) -/

/-- Is an address a group address? -/
def groupMac (d : Bytes) : Bool := (d.getD 0 0#8) &&& 1#8 == 1#8

/-- Does a frame go to the time unit (R221, step 3)? -/
def State.isPtp (s : State) (port : Nat) (d : Bytes) : Bool :=
  s.on (Fld.TIME_PORTp_EN (ptpOf port)) && s.ptpFrame port d

/-- A PTP message's bytes: what follows the EtherType, or the UDP header. -/
def ptpBody (d : Bytes) : Bytes :=
  let b := etherBody d
  if etherType d = 0x0800 then b.drop (4 * ((b.getD 0 0#8).toNat % 16) + 8)
  else if etherType d = 0x86DD then b.drop 48
  else b

/-- A PTP message's type: 0 Sync, 1 Delay_Req, 2 Pdelay_Req, 3 Pdelay_Resp, 8 Follow_Up, 9 Delay_Resp, 10 Pdelay_Resp_Follow_Up,
11 Announce, 12 Signaling, 13 Management. PRESUMED, with the fields below, from IEEE 1588-2019. -/
def ptpType (b : Bytes) : Nat := (b.getD 0 0#8).toNat % 16

/-- Does a PTP message ask only for options that Table 3.2 marks as supported, as far as its header says: version 2, a message type
of the profiles, the domain in force and, of 802.1AS, its own kind of domain; on a lane under 802.1AS, the Common Mean Link Delay
Service too? Unicast negotiation and management messages are none. -/
def State.ptpSupported (s : State) (port : Nat) (b : Bytes) : Bool :=
  let sdo := (b.getD 0 0#8).toNat / 16
  let gptp := s.cur Fld.TIME_PTP_CFG_PROFILE == 3 && !decide (48 ≤ port ∧ port < 56)
  (b.getD 1 0#8).toNat % 16 == 2 && [0, 1, 2, 3, 8, 9, 10, 11].contains (ptpType b) &&
  ((sdo == (if gptp then 1 else 0) && (b.getD 4 0#8).toNat == s.cur Fld.TIME_PTP_CFG_DOMAIN) ||
   (gptp && sdo == 2 && decide (56 ≤ port ∧ port < 60) && (b.getD 4 0#8).toNat == 0))

/-- Is a port a transparent clock only (ROLE 3)? -/
def State.ptpTransparent (s : State) (port : Nat) : Bool :=
  let p := ptpOf port
  s.ptpOn p && s.ptpUp p && !decide (4 ≤ p ∧ p ≤ 11) && s.cur (Fld.TIME_PORTp_ROLE p) == 3

/-- The transparent clock forwards a message between its ports, with the path delay of the ingress port for a peer-to-peer one,
which keeps the peer delay messages (Table 3.2). -/
def State.ptpRelay (s : State) (port : Nat) (d : Bytes) (stamp : Tai) : State :=
  let peer := s.on (Fld.TIME_PORTp_P2P (ptpOf port))
  let kind := ptpType (ptpBody d)
  if s.ptpTransparent port = false ∨ (peer = true ∧ (kind = 2 ∨ kind = 3 ∨ kind = 10)) then s
  else
    let delay : Rat := if peer then SMap.get 0 s.time.delay (ptpOf port) else 0
    (([56, 57, 58, 59, 60].filter fun q => q != port && s.ptpTransparent q)).foldl
      (fun (s : State) q => s.ptpLeaves q fun sec => .ptpForward q d stamp delay sec) s

/-- A frame goes to the time unit (R48, R221): a message for an unsupported option is counted and not processed; a transparent clock
forwards the others. `unsupported`: it asks for an unsupported option in what the header does not say. -/
def State.ptpReceived (s : State) (port : Nat) (d : Bytes) (stamp : Tai) (unsupported : Bool) : State :=
  let s := s.countEth port 6 none
  if unsupported || !s.ptpSupported port (ptpBody d) then s.ptpDiscard else s.ptpRelay port d stamp

/-- A frame that the link cipher let through is classified. -/
def State.classify (s : State) (port : Nat) (d : Bytes) (stamp : Tai) (unsupported : Bool) : State :=
  let own := d.take 6 == s.ownMac port
  let promisc := decide (56 ≤ port) && s.on (Fld.ETH_Pq_MODE_PROMISC (port - 56))
  if !(own || groupMac d || promisc) then s.countEth port 4 none
  else if etherType d = 0x8808 then s.countEth port 5 none
  else if s.isPtp port d then s.ptpReceived port d stamp unsupported
  else if port = 60 ∧ (etherType d = 0x0806 ∨ etherType d = 0x0800 ∨ etherType d = 0x86DD) ∧ (own = true ∨ groupMac d = true) then
    s.countEth port 7 none
  else
    let w : Wire := { kind := portKind 0 port, ide := false, brs := false, rtr := false, esi := false, id := 0, af := 0, data := d }
    let (l, s) := s.looked port none w
    s.enter { ingress := port, wire := w, stamp := stamp, dur := none, replay := false, woken := false, outWin := false,
              host := none, mkey := stamp } l

/-- A frame received on an Ethernet-type port: its bytes from the destination address up to the FCS. -/
def State.ethReceived (s : State) (port : Nat) (data : Bytes) (edge16 : Nat) (fcsOk unsupported : Bool) (bad : List (Nat × Nat)) :
    State :=
  if s.ethState port ≠ 2 then s
  else
    let l := port - 56
    let sec := decide (56 ≤ port ∧ port < 60) && s.on (Fld.LSEC_Ll_CTRL_RX_EN l)
    let len := data.length + 4
    if len < 64 then s.countEth port 2 (some 2)
    else if (if sec then 2152 else 2120) < len then s.countEth port 3 (some 2)
    else if !fcsOk then s.countEth port 1 (some 1)
    else
      let s := (s.countEth port 0 (some 0)).resetQueues bad
      let stamp := s.stampIn port edge16
      if sec then
        match s.secReceive l data with
        | (none, s) => s
        | (some d, s) =>
          if d.length + 4 < 64 then s.countEth port 2 none
          else if 2120 < d.length + 4 then s.countEth port 3 none
          else s.classify port d stamp unsupported
      else s.classify port data stamp unsupported

/-- ETH_FRAME_RECEIVED; `unsupported`: a PTP message that asks, behind its header, for an option that Table 3.2 does not mark as
supported; `bad`: queues
found with differing pointers (R132). -/
def execEthFrameReceived (port : Nat) (data : Bytes) (edge16 : Nat) (fcsOk unsupported : Bool) (bad : List (Nat × Nat)) (t : Tai)
    (s : State) : Host.Outcome State Fault Refusal :=
  unlessHeld s <|
  runIf (Instr.ethFrameReceived port data edge16 fcsOk unsupported bad t).wf "ETH_FRAME_RECEIVED"
    ((s.at t).ethReceived port data edge16 fcsOk unsupported bad)

/-! ### Transmission (R121, R222, R226) -/

/-- May a port start a frame now? A T1S node needs its opportunity while PLCA is up, and the claim; a lane or the
management port the claim where STBY_LANE_TX is 0. -/
def State.ethMay (s : State) (port : Nat) : Bool :=
  s.ethState port == 2 && !s.released port && (s.sending port).isNone && (s.claimed || !s.claimedEgress port) &&
  (!s.hal.yielding || decide (56 ≤ port)) &&
  (decide (56 ≤ port) || !s.on (Fld.T1S_Ss_CFG_PLCA_EN (port - 48)) ||
    s.get (Fld.T1S_Ss_STATUS_PLCA_STATUS (port - 48)) == 0 || decide (0 < s.opportunity port))

/-- The head of the highest class starts. -/
def State.ethTxStart (s : State) (port : Nat) (fault : Bool) : State :=
  let s := s.linkDrops port
  if s.ethMay port then
    match s.pick port with
    | none => s
    | some (cls, c) =>
      if fault then s.queueReset port cls
      else
        match s.frame? c.fid with
        | none => s
        | some f =>
          let (bytes, c, s1) := s.ethBytes port f c
          let bytes := padTo 60 0#8 bytes
          let (x, s1) := s1.secSend port (s1.secBypass (port - 56) bytes) (bytes.length - 12)
          match x with
          | .refused k =>
            ((s.setQueue port cls ((s.queue port cls).drop 1)).count (Reg.LSEC_Ll_CNTk (port - 56) k)).copyFinal c.fid port noCode 0 true
          | _ =>
            let d := match x with
              | .secured p => secProtect p bytes
              | _ => bytes
            let s := s1.setOpportunity port (s1.opportunity port - 1)
            let s := { s with eth := { s.eth with txSa := SMap.set 0 s.eth.txSa port (x.mark (s.secOn port)) } }
            (s.startCopy port cls { c with attempts := c.attempts + 1 }).emit (.frameStart port (ethWire port d) false)
  else s

/-- ETH_TX_START; `fault`: a pointer mismatch at the dequeue (R132). -/
def execEthTxStart (port : Nat) (fault : Bool) (t : Tai) (s : State) : Host.Outcome State Fault Refusal :=
  unlessHeld s <|
  runIf (Instr.ethTxStart port fault t).wf "ETH_TX_START" ((s.at t).ethTxStart port fault)

/-- The copy in transmission ended with its FCS. -/
def State.ethTxDone (s : State) (port edge16 : Nat) : State :=
  match s.sending port with
  | none => s
  | some c =>
    let stamp := s.stampOut port edge16
    let s := (((s.tailLeaves port).setSending port none).countPort port 1).emit (.frameEnd port false)
    let s := s.countSent port (SMap.get 0 s.eth.txSa port)
    let s := match s.raOf c.fid with
      | some x => if c.ahead then s.setRa c.fid { x with completed := x.completed ++ [port] } else s
      | none => s
    (s.copyFinal c.fid port 0x00 stamp false).wireEnds port

/-- ETH_TX_COMPLETE: the capture of the frame's timestamp point in 1/16 ns (R240); `mv`: on T1S, the frame's amplitude at the
MDI (R385). -/
def execEthTxComplete (port edge16 mv : Nat) (t : Tai) (s : State) : Host.Outcome State Fault Refusal :=
  unlessHeld s <|
  let s := s.at t
  let s := if port < 56 ∧ (s.sending port).isSome then s.shrAmplitude port mv else s
  runIf (Instr.ethTxComplete port edge16 mv t).wf "ETH_TX_COMPLETE" (s.ethTxDone port edge16)

/-! ### Links -/

/-- ETH_LINK_UP: the link of an enabled port is up, with what the PCS reports; an SGMII link at half duplex stays TRAINING
(R216, R219). -/
def execEthLinkUp (q : Nat) (anDone hiBer fecLock half : Bool) (speed : Nat) (lost : Bool) (t : Tai) (s : State) :
    Host.Outcome State Fault Refusal :=
  unlessHeld s <|
  let s := s.at t
  runIf (Instr.ethLinkUp q anDone hiBer fecLock half speed lost t).wf "ETH_LINK_UP"
    (if s.ethState (56 + q) = 1 then
       let s := (s.put (Fld.ETH_Pq_STATUS_AN_DONE q) (b2n anDone)).put (Fld.ETH_Pq_STATUS_HI_BER q) (b2n hiBer)
       let s := (s.put (Fld.ETH_Pq_STATUS_FEC_LOCK q) (b2n fecLock)).put (Fld.ETH_Pq_STATUS_HALF q) (b2n half)
       let s := s.put (Fld.ETH_Pq_STATUS_SPEED q) speed
       if half ∨ s.lsecHolds (56 + q) then s
       else (s.setEthState (56 + q) 2 lost).raise 0x0901 (unitOf 1 (56 + q))
         [n4 (s.cur (Fld.ETH_Pq_MODE_PCS q)), n4 (s.cur (Fld.ETH_Pq_MODE_FEC q))]
     else s)

/-- ETH_LINK_DOWN. -/
def execEthLinkDown (q cause : Nat) (lost : Bool) (t : Tai) (s : State) : Host.Outcome State Fault Refusal :=
  unlessHeld s <|
  runIf (Instr.ethLinkDown q cause lost t).wf "ETH_LINK_DOWN" ((s.at t).linkDown (56 + q) cause lost)

/-! ### T1S (R233-R237) -/

/-- T1S_TRANSMIT_OPPORTUNITY: the node may start one frame, and MAX_BC more in a burst. -/
def execT1sTransmitOpportunity (k : Nat) (t : Tai) (s : State) : Host.Outcome State Fault Refusal :=
  unlessHeld s <|
  let s := s.at t
  runIf (Instr.t1sTransmitOpportunity k t).wf "T1S_TRANSMIT_OPPORTUNITY"
    (if s.ethState (48 + k) = 2 ∧ s.on (Fld.T1S_Ss_CFG_PLCA_EN k) = true then
       s.setOpportunity (48 + k) (1 + s.cur (Fld.T1S_Ss_BURST_MAX_BC k)) else s)

/-- PLCA_BEACON. -/
def execPlcaBeacon (k mv : Nat) (t : Tai) (s : State) : Host.Outcome State Fault Refusal :=
  unlessHeld s <|
  let s := (s.at t).showBeaconing k
  runIf (Instr.plcaBeacon k mv t).wf "PLCA_BEACON"
    (if s.beaconing k ∧ s.released (48 + k) = false then (s.emit (.plcaBeacon (48 + k))).shrAmplitude (48 + k) mv else s)

/-- PLCA_BEACON_RECEIVED: while this unit beacons, a second node 0 is on the segment. -/
def execPlcaBeaconReceived (k : Nat) (t : Tai) (s : State) : Host.Outcome State Fault Refusal :=
  unlessHeld s <|
  let s := s.at t
  let s := if bit (s.cur Fld.HAL_EVID_T1S) k then s.partnerEvidence else s
  runIf (Instr.plcaBeaconReceived k t).wf "PLCA_BEACON_RECEIVED"
    (if s.beaconing k then
       let s := s.count (Reg.T1S_Ss_CNTk k 7)
       s.raiseOnce (0x0A03 * 65536 + k) 0x0A03 (unitOf 1 (48 + k)) [n8 (s.reg64 (Reg.T1S_Ss_CNTk k 7))]
     else s)

/-- T1S_PLCA_LOST. -/
def execT1sPlcaLost (k : Nat) (t : Tai) (s : State) : Host.Outcome State Fault Refusal :=
  unlessHeld s <|
  let s := s.at t
  runIf (Instr.t1sPlcaLost k t).wf "T1S_PLCA_LOST" (s.plcaLost k)

/-- T1S_PLCA_OK. -/
def execT1sPlcaOk (k : Nat) (t : Tai) (s : State) : Host.Outcome State Fault Refusal :=
  unlessHeld s <|
  let s := s.at t
  runIf (Instr.t1sPlcaOk k t).wf "T1S_PLCA_OK"
    (if s.get (Fld.T1S_Ss_STATUS_PLCA_STATUS k) = 0 ∧ s.ethState (48 + k) = 2 ∧ s.on (Fld.T1S_Ss_CFG_PLCA_EN k) = true then
       (s.put (Fld.T1S_Ss_STATUS_PLCA_STATUS k) 1).raiseOnce (0x0A02 * 65536 + k) 0x0A02 (unitOf 1 (48 + k))
         [n4 (s.cur (Fld.T1S_Ss_CFG_NODE_ID k))]
     else s)

/-- T1S_COLLISION: the frame in transmission is retried, or dropped at its own 16th attempt (R237). One whose queue has been reset is
not sent again (R132). -/
def execT1sCollision (k : Nat) (t : Tai) (s : State) : Host.Outcome State Fault Refusal :=
  unlessHeld s <|
  let port := 48 + k
  let s := (s.at t).count (Reg.T1S_Ss_CNTk k 5)
  runIf (Instr.t1sCollision k t).wf "T1S_COLLISION"
    (match s.sending port with
     | none => s
     | some c =>
       let s := s.clearWire port
       if 16 ≤ c.attempts then ((s.setSending port none).count (Reg.T1S_Ss_CNTk k 6)).copyFinal c.fid port 0x03 0 true
       else if c.last then (s.setSending port none).dropCopy c 8 0x07
       else if c.ahead then s.raFallback port c else s.requeue port c)

/-! ### MDIO (R239) -/

/-- An MDIO transaction starts; while one runs, the write is discarded. -/
def State.mdioGo (s : State) (op : Nat) : State :=
  let m : Mdio := { op := op, cl45 := s.get Fld.ETH_MDIO_CMD_CL45 == 1, phy := s.get Fld.ETH_MDIO_CMD_PHYAD,
                    reg := s.get Fld.ETH_MDIO_CMD_REG, data := s.get Fld.ETH_MDIO_DATA_DATA }
  let s := { s with eth := { s.eth with mdio := some m } }
  (s.put Fld.ETH_MDIO_CMD_BUSY 1).emit (.mdio op m.phy m.reg m.data)

/-- MDIO_DONE: the transaction ends; a read's data is valid. -/
def execMdioDone (data : Nat) (t : Tai) (s : State) : Host.Outcome State Fault Refusal :=
  unlessHeld s <|
  let s := s.at t
  runIf (Instr.mdioDone data t).wf "MDIO_DONE"
    (match s.eth.mdio with
     | none => s
     | some m =>
       let s := { s with eth := { s.eth with mdio := none } }
       let s := s.put Fld.ETH_MDIO_CMD_BUSY 0
       if 2 ≤ m.op then s.put Fld.ETH_MDIO_DATA_DATA data else s)

end Sys2Proof.Machine
end

