-- ==== Sys2Proof/Machine/Ser.lean ====
section
/-! DEFINITION. The serial channels: characters, frames in assembly, transmission and DE timing (chapter "Serial Channels").
Channel c is logical port 61 + c. -/

namespace Sys2Proof.Machine

/-- A channel at rest. -/
def SerChan.fresh : SerChan :=
  { frame := none, fifo := 0, deUntil := 0, cfgAt := 0, oldCfg := 0, oldDiv := 0, overrun := false,
    low := false, seen16 := 0, freeAt := 0 }

def State.serOf (s : State) (c : Nat) : SerChan := SMap.get SerChan.fresh s.ser c

/-- Write a channel; RX_FRAME shows a frame in assembly. -/
def State.setSer (s : State) (c : Nat) (x : SerChan) : State :=
  ({ s with ser := SMap.set SerChan.fresh s.ser c x }).put (Fld.SER_Cc_STATUS_RX_FRAME c) (b2n x.frame.isSome)

/-! ### Formats (R247-R249) -/

/-- Data bits and parity mode of a CFG value. -/
def serData (cfg : Nat) : Nat := if bit cfg 1 then 7 else 8
def serParity (cfg : Nat) : Nat := bits cfg 4 2

/-- The time of a bit in ns, from the divider in force. -/
def State.serBit (s : State) (c : Nat) : Rat :=
  let div : Rat := (s.cur (Fld.SER_Cc_DIV_INT c) : Nat) + ((s.cur (Fld.SER_Cc_DIV_FRAC c) : Nat) : Rat) / 64
  16 * div * 5 / 4

/-- The sample period of a DIV value in 1/64 cycles of the fabric clock. -/
def serPeriod (div : Nat) : Nat := 64 * bits div 17 0 + bits div 23 18

/-- The time of a sample in 1/16 ns, so many sample periods after a time: a cycle lasts 1.25 ns, and the divider spreads
its fraction over the samples (R247). -/
def sampleAt (start16 period k : Nat) : Nat := start16 + k * period * 20 / 64

/-- Bits of a character: start, data, parity and the first stop bit. -/
def serBits (cfg : Nat) : Nat := 1 + serData cfg + (if serParity cfg = 0 then 0 else 1) + 1

/-- The majority of samples 7, 8 and 9. -/
def majority (b : Bool × Bool × Bool) : Bool := (b.1 && b.2.1) || (b.1 && b.2.2) || (b.2.1 && b.2.2)

/-- Samples 7, 8 and 9 of a bit of a character; `line`: its samples from sample 1 of the start bit. A sample that is not
brought read high. -/
def bitSamples (line : List Bool) (j : Nat) : Bool × Bool × Bool :=
  (line.getD (16 * j + 6) true, line.getD (16 * j + 7) true, line.getD (16 * j + 8) true)

/-- Do the three samples disagree? -/
def noisy (b : Bool × Bool × Bool) : Bool := !(b.1 == b.2.1 && b.2.1 == b.2.2)

/-- A number from bits, the least significant first. -/
def bitsNat : List Bool → Nat
  | [] => 0
  | b :: l => b2n b + 2 * bitsNat l

/-- The parity bit that a mode sends over data bits. -/
def parityBit (mode : Nat) (data : List Bool) : List Bool :=
  let odd : Bool := (data.filter id).length % 2 == 1
  match mode with
  | 1 => [odd]
  | 2 => [!odd]
  | 3 => [true]
  | 4 => [false]
  | _ => []

/-- The bits of a sent character, from the start bit to the last stop bit (R247, R248). -/
def serChar (cfg : Nat) (b : Byte) : List Bool :=
  let data := (List.range (serData cfg)).map fun (k : Nat) => b.toNat.testBit k
  false :: data ++ parityBit (serParity cfg) data ++ (if bit cfg 5 then [true, true] else [true])

/-- Does a parity bit contradict its mode? -/
def parityWrong (mode : Nat) (data : List Bool) (p : Bool) : Bool :=
  let ones := (data.filter id).length + b2n p
  if mode = 1 then ones % 2 == 1 else if mode = 2 then ones % 2 == 0 else if mode = 3 then !p else if mode = 4 then p else false

/-! ### Frames (R254-R256) -/

/-- The ID of a closed frame (Table 10.2). -/
def SerFrame.id (f : SerFrame) (cause : Nat) : Nat :=
  cause + 2 ^ 8 * b2n f.parity + 2 ^ 9 * b2n f.framing + 2 ^ 10 * b2n f.brk + 2 ^ 11 * b2n f.overrun + 2 ^ 12 * b2n f.noise +
    2 ^ 16 * (f.bytes.headD 0#8).toNat

/-- The frame in assembly closes under a cause and enters the fabric. -/
def State.serClose (s : State) (c cause : Nat) (bad : List (Nat × Nat)) : State :=
  let x := s.serOf c
  match x.frame with
  | none => s
  | some f =>
    let s := (s.setSer c { x with frame := none }).count (Reg.SER_Cc_CNTk c 1)
    let s := s.resetQueues bad
    let w : Wire := { kind := 5, ide := false, brs := false, rtr := false, esi := false, id := f.id cause, af := 0, data := f.bytes }
    let (l, s) := s.looked (61 + c) none w
    s.enter { ingress := 61 + c, wire := w, stamp := f.stamp, dur := none, replay := false, woken := false, outWin := false,
              host := none, mkey := f.stamp } l

/-- The FIFO empties into packet memory while there is room: does it take one more character? -/
def State.serRoom (s : State) (c : Nat) : Bool × State :=
  let x := s.serOf c
  if s.cur Fld.FAB_HOSTBUF_BLOCKS < s.freeBlocks then (true, s.setSer c { x with fifo := 0 })
  else if x.fifo < 64 then (true, s.setSer c { x with fifo := x.fifo + 1 })
  else (false, s)

/-- A judged character joins the frame in assembly, or opens one; `until_`: the end of its stop bit. -/
def State.serPut (s : State) (c : Nat) (byte : Byte) (stamp until_ : Tai) (parity framing brk noise : Bool)
    (bad : List (Nat × Nat)) : State :=
  let (room, s) := s.serRoom c
  let x := s.serOf c
  if !room then
    let x := match x.frame with
      | some f => { x with frame := some { f with overrun := true, until_ := until_ } }
      | none => { x with overrun := true }
    let s := (s.setSer c x).count (Reg.SER_Cc_CNTk c 6)
    s.raiseOnce (0x0B01 * 65536 + c) 0x0B01 (unitOf 1 (61 + c)) [n8 (s.reg64 (Reg.SER_Cc_CNTk c 6))]
  else
    let f := x.frame.getD { stamp := stamp, bytes := [], parity := false, framing := false, brk := false, overrun := x.overrun,
                            noise := false, until_ := until_ }
    let f := { f with bytes := f.bytes ++ [byte], parity := f.parity || parity, framing := f.framing || framing,
                      brk := f.brk || brk, noise := f.noise || noise, until_ := until_ }
    let s := s.setSer c { x with frame := some f, overrun := false }
    let delim : Bool := s.on (Fld.SER_Cc_FRAME_DELIM_EN c) && s.cur (Fld.SER_Cc_FRAME_DELIM c) == byte.toNat
    if parity || framing then s.serClose c 4 bad
    else if brk then s.serClose c 5 bad
    else if delim then s.serClose c 2 bad
    else if s.cur (Fld.SER_Cc_FRAME_MAX_LEN c) ≤ f.bytes.length then s.serClose c 3 bad
    else s

/-- A character whose start bit is not a false start; `line`: its samples from sample 1 of the start bit, taken from
`start16` on. A break is one byte of 0 (R248-R251, R253). -/
def State.serJudge (s : State) (c : Nat) (cfg period : Nat) (line : List Bool) (start16 : Nat) (bad : List (Nat × Nat)) : State :=
  let n := serData cfg
  let mode := serParity cfg
  let np := if mode = 0 then 0 else 1
  let data := (List.range n).map fun (j : Nat) => majority (bitSamples line (1 + j))
  let pbit := majority (bitSamples line (1 + n))
  let last := bitSamples line (1 + n + np)
  let stop := majority last
  let brk := !stop && !(data.any id) && (mode == 0 || !pbit)
  let parity := !brk && parityWrong mode data pbit
  let framing := !brk && !stop
  let noise := ((List.range (2 + n + np)).filter fun (j : Nat) => noisy (bitSamples line j)).length
  let s := (s.count (Reg.SER_Cc_CNTk c 0)).count (Reg.SER_Cc_CNTk c 5) noise
  let s := if parity then s.count (Reg.SER_Cc_CNTk c 2) else s
  let s := if framing then s.count (Reg.SER_Cc_CNTk c 3) else s
  let s := if brk then s.count (Reg.SER_Cc_CNTk c 4) else s
  let s := if stop && !last.2.2 then s.count (Reg.SER_Cc_CNTk c 8) else s
  s.serPut c (if brk then 0#8 else BitVec.ofNat 8 (bitsNat data)) (stampOf (61 + c) start16)
    (sampleAt start16 period (16 * serBits cfg) / 16) parity framing brk (decide (0 < noise)) bad

/-- Is the receiver deaf at a time? While DE is high and until the end of LAG, where RE follows DE. DEDUCED (log 105): with
RE_MODE 0 the channel receives its own echo, so that it is not deaf then. -/
def State.serDeaf (s : State) (c : Nat) (t : Tai) : Bool :=
  s.on (Fld.SER_Cc_CFG_RE_MODE c) && (s.get (Fld.SER_Cc_STATUS_DE c) == 1 || decide (t < (s.serOf c).deUntil))

/-- The level of a channel's line at the last sample taken. -/
def State.sawLine (s : State) (c : Nat) (low : Bool) (at16 : Nat) : State :=
  s.setSer c { s.serOf c with low := low, seen16 := at16 }

/-- The samples of a line, one per sample period from a time on: a start is a low sample after a high one, and the receiver
re-arms after sample 9 of a stop bit or of a false start (R249-R251). `fuel`: at least the number of samples. -/
def State.serLine (s : State) (c : Nat) (line : List Bool) (start16 : Nat) (bad : List (Nat × Nat)) (fuel : Nat) : State :=
  match fuel, line with
  | 0, _ => s
  | _, [] => s
  | fuel + 1, level :: rest =>
    let x := s.serOf c
    let was : Bool := decide (start16 / 16 < x.cfgAt)
    let cfg := if was then x.oldCfg else (s.liveReg (Reg.SER_Cc_CFG c)).toNat
    let period := serPeriod (if was then x.oldDiv else (s.liveReg (Reg.SER_Cc_DIV c)).toNat)
    if level || x.low || s.serDeaf c (start16 / 16) then
      (s.sawLine c (!level) start16).serLine c rest (sampleAt start16 period 1) bad fuel
    else if majority (bitSamples line 0) then
      ((s.count (Reg.SER_Cc_CNTk c 7)).sawLine c (!line.getD 8 true) (sampleAt start16 period 8)).serLine c (line.drop 9)
        (sampleAt start16 period 9) bad fuel
    else
      let stop := 16 * (serBits cfg - 1)
      let brk : Bool := (List.range (serBits cfg)).all fun (j : Nat) => !majority (bitSamples line j)
      let s := (s.serJudge c cfg period line start16 bad).sawLine c (brk || !line.getD (stop + 8) true)
        (sampleAt start16 period (stop + 8))
      s.serLine c (line.drop (stop + 9)) (sampleAt start16 period (stop + 9)) bad fuel

/-- A channel that is UP takes the samples of its line from a time on. Between the last sample taken and the first of these
the line was high, where a sample lies between them. -/
def State.serCharacter (s : State) (c : Nat) (line : List Bool) (start16 : Nat) (bad : List (Nat × Nat)) : State :=
  if s.get (Fld.SER_Cc_STATUS_STATE c) ≠ 2 then s
  else
    let x := s.serOf c
    let period := serPeriod (s.liveReg (Reg.SER_Cc_DIV c)).toNat
    let gap : Bool := decide (x.seen16 + 3 * period * 10 / 64 < start16)
    let s := if gap then s.setSer c { x with low := false } else s
    s.serLine c line start16 bad line.length

/-- SER_CHARACTER: the receiver's samples of its line, one per sample period (true: high), and the time of the first in
1/16 ns. A character whose samples are not all brought ends high. -/
def execSerCharacter (c : Nat) (line : List Bool) (start16 : Nat) (bad : List (Nat × Nat)) (t : Tai) (s : State) :
    Host.Outcome State Fault Refusal :=
  unlessHeld s <|
  runIf (Instr.serCharacter c line start16 bad t).wf "SER_CHARACTER" ((s.at t).serCharacter c line start16 bad)

/-- The frame in assembly closes when its line has been idle for IDLE_CH character times after its last stop bit (R254). -/
def State.serIdle (s : State) (c : Nat) (bad : List (Nat × Nat)) : State :=
  match (s.serOf c).frame with
  | none => s
  | some f =>
    let char : Rat := (serBits (s.liveReg (Reg.SER_Cc_CFG c)).toNat : Nat) * s.serBit c
    let wait : Rat := (s.cur (Fld.SER_Cc_FRAME_IDLE_CH c) : Nat) * char
    if f.until_ + wait.floor.toNat ≤ s.time.now then s.serClose c 1 bad else s

/-- SER_IDLE_CLOSE: IDLE_CH character times without a character. -/
def execSerIdleClose (c : Nat) (bad : List (Nat × Nat)) (t : Tai) (s : State) : Host.Outcome State Fault Refusal :=
  unlessHeld s <|
  runIf (Instr.serIdleClose c bad t).wf "SER_IDLE_CLOSE" ((s.at t).serIdle c bad)

/-! ### Transmission (R257, R258) -/

/-- The transmitter is idle, IFG after its last frame: the head of the highest class starts, as LEN characters back to back;
with RS485, DE rises and the first start bit follows LEAD/16 bit times later. `abandoned`: a character was being received
when DE rose. -/
def State.serTxStart (s : State) (c : Nat) (fault abandoned : Bool) : State :=
  let port := 61 + c
  if s.get (Fld.SER_Cc_STATUS_STATE c) = 2 ∧ (s.sending port).isNone = true ∧ (s.serOf c).freeAt ≤ s.time.now ∧ s.domain 13 ≠ 4 ∧ ((s.claimed = true ∧ s.hal.yielding = false) ∨ s.claimedEgress port = false) then
    match s.pick port with
    | none => s
    | some (cls, x) =>
      if fault then s.queueReset port cls
      else
        let rs485 := s.on (Fld.SER_Cc_CFG_RS485 c)
        let s := s.put (Fld.SER_Cc_STATUS_TX_BUSY c) 1
        let s := if rs485 then s.put (Fld.SER_Cc_STATUS_DE c) 1 else s
        let s := if rs485 ∧ abandoned then s.count (Reg.SER_Cc_CNTk c 9) else s
        let lead : Rat := (s.cur (Fld.SER_Cc_DE_LEAD c) : Nat) * s.serBit c / 16
        let start := s.time.now + (if rs485 then lead.ceil.toNat else 0)
        let cfg := (s.liveReg (Reg.SER_Cc_CFG c)).toNat
        ((s.startCopy port cls { x with attempts := 1 }).emit (.frameStart port x.wire false)).emit
          (.serial port start (serPeriod (s.liveReg (Reg.SER_Cc_DIV c)).toNat) (x.wire.data.map (serChar cfg)))
  else s

/-- SER_TX_START; `fault`: a pointer mismatch at the dequeue (R132). -/
def execSerTxStart (c : Nat) (fault abandoned : Bool) (t : Tai) (s : State) : Host.Outcome State Fault Refusal :=
  unlessHeld s <|
  runIf (Instr.serTxStart c fault abandoned t).wf "SER_TX_START" ((s.at t).serTxStart c fault abandoned)

/-- The last stop bit ends: the copy is done, DE falls LAG later, and the next frame may start IFG later. -/
def State.serTxDone (s : State) (c edge16 : Nat) (t : Tai) : State :=
  let port := 61 + c
  match s.sending port with
  | none => s
  | some x =>
    let s := (s.setSending port none).countPort port 1
    let s := (s.count (Reg.SER_Cc_CNTk c 10)).count (Reg.SER_Cc_CNTk c 11) x.wire.data.length
    let s := (s.put (Fld.SER_Cc_STATUS_TX_BUSY c) 0).emit (.frameEnd port false)
    let lag : Rat := (s.cur (Fld.SER_Cc_DE_LAG c) : Nat) * s.serBit c / 16
    let s := if s.get (Fld.SER_Cc_STATUS_DE c) = 1 then
        (s.put (Fld.SER_Cc_STATUS_DE c) 0).setSer c { s.serOf c with deUntil := t + lag.ceil.toNat }
      else s
    let ifg : Rat := (s.cur (Fld.SER_Cc_DE_IFG c) : Nat) * s.serBit c
    let s := s.setSer c { s.serOf c with freeAt := t + ifg.ceil.toNat }
    s.copyFinal x.fid port 0x00 (stampOf port edge16) false

/-- SER_TX_COMPLETE: the falling edge of the frame's first start bit in 1/16 ns. -/
def execSerTxComplete (c edge16 : Nat) (t : Tai) (s : State) : Host.Outcome State Fault Refusal :=
  unlessHeld s <|
  runIf (Instr.serTxComplete c edge16 t).wf "SER_TX_COMPLETE" ((s.at t).serTxDone c edge16 t)

/-- DE of a channel as its pin and STATUS show it. -/
def State.serDe (s : State) (c : Nat) : Bool :=
  s.get (Fld.SER_Cc_STATUS_DE c) == 1 || decide (s.time.now < (s.serOf c).deUntil)

/-! ### Configuration and domain (R254, R259) -/

/-- A channel changes state: its word follows. -/
def State.setSerState (s : State) (c st : Nat) : State :=
  if s.get (Fld.SER_Cc_STATUS_STATE c) = st then s
  else (s.put (Fld.SER_Cc_STATUS_STATE c) st).message (unitOf 1 (61 + c)) st

/-- The configuration in force is followed; `written`: a write of the channel's registers was applied, and `old` and
`oldDiv` were CFG and DIV before it. The channel is DOWN while its domain is isolated (Table 9.2). -/
def State.serFollow (s : State) (c : Nat) (written : Bool) (old oldDiv : Nat) : State :=
  let s := if written then
      (let s := s.serClose c 6 []
       s.setSer c { s.serOf c with cfgAt := s.time.now, oldCfg := old, oldDiv := oldDiv })
    else s
  if s.on (Fld.SER_Cc_CFG_EN c) then s.setSerState c (if s.isolated 13 then 6 else 2) else s.setSerState c 0

/-- PD13 is isolated: a frame still in assembly is closed and admitted, the transmitter is idle, and DE is low. -/
def State.serIsolate (s : State) (c : Nat) : State :=
  let s := s.serClose c 7 []
  let s := (s.put (Fld.SER_Cc_STATUS_TX_BUSY c) 0).put (Fld.SER_Cc_STATUS_DE c) 0
  let s := s.setSer c { s.serOf c with fifo := 0, deUntil := 0, overrun := false, low := false, freeAt := 0 }
  if s.get (Fld.SER_Cc_STATUS_STATE c) = 0 then s else s.setSerState c 6

end Sys2Proof.Machine
end

