-- ==== Sys2Proof/Machine/PinOps.lean ====
section
/-! DEFINITION. The general-purpose pins: functions, pads, keepers and claimed pins (chapter "Package, Balls and
General-Purpose Pins", R466-R476; R335, R336). -/

namespace Sys2Proof.Machine

/-- What a pad does (Table 19.11). -/
inductive Pad where
  /-- high-impedance with a pull: 0 none, 1 up, 2 down, 3 keeper -/
  | hiZ (pull : Nat)
  /-- driven -/
  | drives (level : Bool)
  /-- held by the keeper -/
  | keeper (level : Bool)
  deriving DecidableEq, Repr

/-- The pins whose configuration in force is not the reset one. -/
def State.pinsSet (s : State) : List Nat :=
  s.live.filterMap fun e => if 0x200000 ≤ e.1 ∧ e.1 < 0x200400 ∧ e.1 % 8 = 0 then some ((e.1 - 0x200000) / 8) else none

/-- A bit of a 4-word pin register set. -/
def State.pinBit (s : State) (reg : Nat → Nat) (p : Nat) : Bool := bit (s.w (reg (p / 32))) (p % 32)

/-- The domain of a function (Table 19.10). -/
def pinDomain (f : Nat) : Nat := if 1 ≤ f ∧ f ≤ 4 then 13 else if f = 5 ∨ f = 6 then 1 else if f = 7 then 23 else 0

/-- Is the domain of a function ON? In a warm reset and in a pause the domains that restart are not (R472). -/
def State.pinPowered (s : State) (f : Nat) : Bool :=
  let d := pinDomain f
  if d = 0 ∨ d = 1 then true
  else s.domain d == 2 &&
    !(s.glb.phase == .boot || (s.glb.phase == .pause && d == 13))

/-- The enable and the level of an output function on a pin (R467, R336). The level of a character in transmission and of the
trace port is free. -/
def State.pinFunction (s : State) (p f : Nat) : Bool × Bool :=
  let c := p % 16
  let up := s.get (Fld.SER_Cc_STATUS_STATE c) == 2
  match f with
  | 0 => match SMap.look s.pin.override p with
    | some v => (true, v)
    | none => (s.pinBit Reg.PIN_OEw p, s.pinBit Reg.PIN_OUTw p)
  | 1 => (up, if s.get (Fld.SER_Cc_STATUS_TX_BUSY c) = 1 then Config.padLevel s.free p else true)
  | 3 => (up && s.on (Fld.SER_Cc_CFG_RS485 c), s.serDe c)
  | 4 => (up && s.on (Fld.SER_Cc_CFG_RS485 c), s.on (Fld.SER_Cc_CFG_RE_MODE c) && !s.serDe c)
  | 5 => (true, s.slotsRun && s.get Fld.BEAT_STATUS_BEAT_NUM == 0)
  | 6 => (true, s.slotsRun && decide (s.time.now < s.slotStart 1))
  | 7 => (true, Config.padLevel s.free p)
  | 8 => (true, s.get Fld.SHR_ACTIVE_COUNT == 0)
  | 9 => (true, s.get Fld.CIPH_STATUS_ALARM_LATCHED == 1)
  | _ => (false, false)

/-- The output stage of a pin under R469. -/
def State.pinOutput (s : State) (p : Nat) : Pad :=
  let f := s.cur (Fld.PIN_CFGp_FUNC p)
  let g := s.cur (Fld.PIN_CFGp_OR_FUNC p)
  let pull := s.cur (Fld.PIN_CFGp_PULL p)
  let a := s.pinFunction p f
  let b := if g = 0 ∨ s.pinPowered g = false then (false, false) else s.pinFunction p g
  let level := (a.2 && a.1) || (b.2 && b.1)
  if !(a.1 || b.1) then .hiZ pull
  else if (s.on (Fld.PIN_CFGp_OD p) || f == 8 || g == 8) && level then .hiZ pull
  else .drives level

/-- The level that a keeper holds. -/
def State.kept (s : State) (p : Nat) : Bool := SMap.get false s.pin.kept p

/-- Is a pin's output stage claimed, and does the unit not hold the claim (row 2)? -/
def State.pinGated (s : State) (p : Nat) : Bool := s.on (Fld.PIN_CFGp_CLAIMED p) && !s.claimed

/-- Row 3: a claimed pin in a pause. -/
def State.pinPaused (s : State) (p : Nat) : Bool := s.on (Fld.PIN_CFGp_CLAIMED p) && s.glb.phase == .pause

/-- Row 4: the domain of FUNC is not ON. -/
def State.pinSleeps (s : State) (p : Nat) : Bool := !s.pinPowered (s.cur (Fld.PIN_CFGp_FUNC p))

/-- The pad of a pin: the first row of Table 19.11 whose condition holds. -/
def State.pad (s : State) (p : Nat) : Pad :=
  let pull := s.cur (Fld.PIN_CFGp_PULL p)
  if s.glb.phase = .powerOnReset then .hiZ 2
  else if s.pinGated p then
    if s.on (Fld.PIN_CFGp_HOLD p) ∧ s.pin.yielded = false then .keeper (s.kept p) else .hiZ pull
  else if s.pinPaused p then .keeper (s.kept p)
  else if s.pinSleeps p then
    match s.cur (Fld.PIN_CFGp_SLEEP p) with
    | 1 => .drives false
    | 2 => .drives true
    | 3 => .keeper (s.kept p)
    | 4 => .hiZ 1
    | 5 => .hiZ 2
    | _ => .hiZ 0
  else s.pinOutput p

/-- The level of a pad: what it drives or keeps, otherwise what the outside gives it. -/
def State.padLevel (s : State) (p : Nat) : Bool :=
  match s.pad p with
  | .drives v => v
  | .keeper v => v
  | .hiZ _ => bit s.pin.net p

def Pad.isKeeper : Pad → Bool
  | .keeper _ => true
  | _ => false

/-- After a change, the keepers that take over hold the level that their pads drove or read before it (R472). -/
def State.keepPads (before s : State) : State :=
  s.pinsSet.foldl (fun (s : State) p =>
    if (s.pad p).isKeeper ∧ (before.pad p).isKeeper = false then
      { s with pin := { s.pin with kept := SMap.set false s.pin.kept p (before.padLevel p) } }
    else s) s

/-- At the start of a pause a claimed driver-enable pin drives low before its keeper takes over (R474). -/
def State.deSafe (s : State) : State :=
  let l := s.pinsSet.filter fun p =>
    s.on (Fld.PIN_CFGp_CLAIMED p) && (s.cur (Fld.PIN_CFGp_FUNC p) == 3 || s.cur (Fld.PIN_CFGp_OR_FUNC p) == 3)
  l.foldl (fun (s : State) p => { s with pin := { s.pin with kept := SMap.set false s.pin.kept p false } }) s

/-- The levels that the outside gives the pads, as sampled. -/
def State.sampleNet (s : State) (net : Nat) : State := { s with pin := { s.pin with net := net % 2 ^ 128 } }

/-- At a beat boundary the hold pins of a unit without the claim sample their nets (R336). -/
def State.pinBoundary (s : State) : State :=
  if s.claimed then s
  else
    let l := s.pinsSet.filter fun p => s.on (Fld.PIN_CFGp_CLAIMED p) && s.on (Fld.PIN_CFGp_HOLD p)
    { s with pin := { s.pin with samples := l.map fun p => (p, bit s.pin.net p) } }

/-- The claim is won: hold pins of the GPIO function drive the level last sampled until they are written (R336). -/
def State.pinsClaimed (s : State) : State := { s with pin := { s.pin with override := s.pin.samples, yielded := false } }

/-- The claim is lost: nothing is overridden, and hold pins keep their level (R335). -/
def State.pinsUnclaimed (before s : State) : State :=
  before.keepPads { s with pin := { s.pin with override := [] } }

/-- The unit samples a window that the partner won: its hold pins turn high-impedance (R335). -/
def State.pinsYield (s : State) (partnerWon : Bool) : State :=
  if partnerWon ∧ s.claimed = false then { s with pin := { s.pin with yielded := true } } else s

/-- A write of PIN_OUT bits ends the override of their pins. -/
def State.pinWritten (s : State) (w mask : Nat) : State :=
  { s with pin := { s.pin with override := s.pin.override.filter fun e => !(e.1 / 32 == w && bit mask (e.1 % 32)) } }

/-- PIN_STATp as it reads. -/
def State.pinStat (s : State) (p : Nat) : Nat :=
  let driving := match s.pad p with
    | .drives _ => true
    | _ => false
  let gated := s.glb.phase != .powerOnReset && s.pinGated p
  let sleeping := s.glb.phase != .powerOnReset && !gated && !s.pinPaused p && s.pinSleeps p
  b2n (s.padLevel p) + 2 * b2n driving + 4 * b2n sleeping + 8 * b2n (s.pad p).isKeeper + 16 * b2n gated

/-- PIN_INw as it reads. -/
def State.pinIn (s : State) (w : Nat) : Nat :=
  ((List.range 32).map fun i => if s.padLevel (32 * w + i) then 2 ^ i else 0).sum

/-! ### Configuration (R468, R470, R474) -/

/-- The PIN_CFG_ERR bits that a value of PIN_CFGp breaks: 1 RANGE, 2 DE_SAFE. -/
def pinCfgErrors (p v : Nat) : Nat :=
  let f := bits v 3 0
  let g := bits v 7 4
  let sleep := bits v 10 8
  let bad := decide (10 ≤ f) || decide (10 ≤ g) || ((f == 7 || g == 7) && !(112 ≤ p && p ≤ 120)) || g == 2 || decide (6 ≤ sleep)
  let de := (f == 3 || g == 3) && (bit v 12 || sleep == 2 || sleep == 3)
  b2n bad + 2 * b2n de

/-- The pins that receive SERc_RXD, ascending. -/
def State.rxdPins (s : State) (c : Nat) : List Nat :=
  (List.range 8).filterMap fun i =>
    let p := 16 * i + c
    if s.cur (Fld.PIN_CFGp_FUNC p) = 2 then some p else none

/-- The configuration of a pin takes effect: keepers take over, and a receive input selected twice is reported. -/
def State.pinFollow (before s : State) (p : Nat) : State :=
  let s := before.keepPads s
  let c := p % 16
  let l := s.rxdPins c
  let m := s.get Fld.PIN_MULTI_IN_SER_RXD
  let s := s.put Fld.PIN_MULTI_IN_SER_RXD (setBits m c c (b2n (1 < l.length)))
  if 1 < l.length ∧ s.cur (Fld.PIN_CFGp_FUNC p) = 2 then s.raise 0x1302 0 [n4 c, n4 (l.headD 0)] else s

end Sys2Proof.Machine
end

