-- ==== Sys2Proof/Machine/HalOps.lean ====
section
/-! DEFINITION. The redundant pair's shared operations: roles, health, claim gain and loss, replay, the Halyard frames and
the shadow (chapter "The Redundant Pair"). -/

namespace Sys2Proof.Machine

/-- The partner unit of the registry. -/
def unitPartner : Nat := unitOf 6 0

def State.role (s : State) : Nat := s.get Fld.HAL_STATUS_ROLE

/-- Is the unit in a role that takes part in windows: JOINING, STANDBY, ACTIVE or FENCED? -/
def State.paired (s : State) : Bool := decide (2 ≤ s.role)

def State.strap (s : State) : Nat := s.get Fld.HAL_STATUS_STRAP

/-! ### Frames of the Halyard link (Tables 13.5-13.7) -/

/-- A received frame. -/
structure HalFrame where
  type    : Nat
  flags   : Nat
  sender  : Nat
  index   : Nat
  fseq    : Nat
  fmt     : Nat
  payload : Bytes
  deriving DecidableEq, Repr

/-- A field of n bytes at an offset, least significant first. -/
def field (b : Bytes) (o n : Nat) : Nat := unLe ((b.drop o).take n)

def halParse (b : Bytes) : HalFrame :=
  { type := field b 1 1, flags := field b 2 1, sender := field b 3 1, index := field b 4 4, fseq := field b 10 2, fmt := field b 12 2,
    payload := (b.drop 16).take (field b 8 2) }

/-- An item of a DELTA or IMAGE payload. -/
structure HalItem where
  cls   : Nat
  index : Nat
  body  : Bytes
  deriving DecidableEq, Repr

def HalItem.bytes (i : HalItem) : Bytes := le 1 i.cls ++ le 1 0 ++ le 2 i.body.length ++ le 4 i.index ++ i.body

/-- The items of a payload; none: an item runs beyond its end. -/
def halItems : Nat → Bytes → Option (List HalItem)
  | 0, b => if b = [] then some [] else none
  | k + 1, b =>
    if b = [] then some []
    else
      let len := field b 2 2
      if b.length < 8 + len then none
      else (halItems k (b.drop (8 + len))).map fun l =>
        { cls := field b 0 1, index := field b 4 4, body := (b.drop 8).take len } :: l

/-! ### Roles (R325) -/

/-- Ask the active partner for an image, once (R337). -/
def State.imageRequest (s : State) : State :=
  if s.role = 2 ∧ s.hal.asked = false ∧ s.hal.image = false ∧ s.get Fld.HAL_STATUS_PARTNER_ROLE = 4 ∧
      s.get Fld.HAL_STATUS_PARTNER_LOST = 0 then
    ({ s with hal := { s.hal with asked := true } }).halSend 5 false []
  else s

/-- Nothing is known of a partner. -/
def State.forgetPartner (s : State) : State :=
  let s := { s with hal := { s.hal with rxFseq := none, last := none, heard := false, missed := 0, since := 2,
                                        strapAt := none, activeAt := none, unseen := 0, split := false, lower := 0 } }
  let fs := [Fld.HAL_STATUS_PRESENCE, Fld.HAL_STATUS_PARTNER_LOST, Fld.HAL_STATUS_SKEW, Fld.HAL_STATUS_LINE_FAULT,
    Fld.HAL_STATUS_PARTNER_ROLE]
  fs.foldl (fun (s : State) f => s.put f 0) s

/-- The role changes: the registry's word, the time, the event, and what the new role starts from. A unit that becomes
JOINING asks for its image afterwards (`imageRequest`). -/
def State.setRole (s : State) (role reason : Nat) : State :=
  let old := s.role
  if old = role then s
  else
    let s := (s.put Fld.HAL_STATUS_ROLE role).message unitPartner role
    let s := s.setReg64 Reg.HAL_LAST_CHANGE s.time.now
    let s := s.raise 0x0F01 unitPartner [n4 old, n4 role, n4 reason]
    let s := if role = 3 then s else s.put Fld.HAL_STATUS_SHADOW_VALID 0
    let s := { s with hal := { s.hal with yieldNext := false, lower := 0 } }
    match role with
    | 1 => ({ s with hal := { s.hal with lone := 1 } }).forgetPartner
    | 2 => { s with hal := { s.hal with asked := false, image := false } }
    | 4 => s.count (Reg.HAL_CNTk 4)
    | 5 => { s with hal := { s.hal with unfenced := 0, evidence := 0, evSeen := false } }
    | 0 => s.forgetPartner
    | _ => s

/-- CLAIM_EN and PAIR_EN as they were in force, followed: a change of PAIR_EN passes through OFF. -/
def State.halFollow (s : State) (claimEn pairEn : Bool) : State :=
  let ce := s.on Fld.HAL_CTRL_CLAIM_EN
  let pe := s.on Fld.HAL_CTRL_PAIR_EN
  let s := if claimEn ∧ (ce = false ∨ pe ≠ pairEn) then s.setRole 0 10 else s
  if ce ∧ s.role = 0 then (s.setRole (if pe then 2 else 1) 10).imageRequest else s

/-! ### The health score (R328, Table 13.3) -/

def State.healthScore (s : State) : Nat :=
  let can := (List.range 48).filter fun n => s.on (Fld.CANP_MODE_EN n)
  let canOk := can.filter fun n => let st := s.canState n; st == 1 || st == 2 || st == 3 || st == 5
  let lanes := [0, 1, 2, 3].filter fun q => s.on (Fld.ETH_Pq_MODE_EN q)
  let up := lanes.filter fun q => s.ethState (56 + q) == 2
  let epochOk := match s.hal.last with
    | none => true
    | some h => s.get Fld.HAL_STATUS_PARTNER_LOST == 1 || h.epoch == s.w Reg.FAB_ROUTE_EPOCH
  let sum := 1 + (if s.timeState = 2 then 256 else 0) +
    (if s.get Fld.HIF_STATUS_RUNNING = 1 ∧ s.get Fld.HIF_STATUS_LINK_UP = 1 then 256 else 0) +
    (if epochOk then 128 else 0) +
    (if can.length = 0 then 512 else 512 * canOk.length / can.length) +
    (if lanes.length = 0 then 256 else 256 * up.length / lanes.length) +
    (if s.get Fld.CIPH_STATUS_ALARM_LATCHED = 0 then 256 else 0) +
    (if s.hal.won then 128 else 0) + s.cur Fld.HAL_CFG_BIAS
  min 2047 sum

/-- The claim number of a score. -/
def State.claimNumber (s : State) (score : Nat) : Nat := s.cur Fld.HAL_CFG_PRIORITY * 2 ^ 12 + score * 2 + s.strap

/-! ### Losing the claim (R335, R345) -/

/-- The copy that a claimed transmitter is sending is cut at the boundary. -/
def State.claimCut (s : State) (port : Nat) : Option Copy × State :=
  if port < 56 ∨ (61 ≤ port ∧ s.claimedEgress port = true) then
    match s.sending port with
    | none => (none, s)
    | some c =>
      let known := match s.raOf c.fid with
        | some x => x.valid && ((s.frame? c.fid).map fun f => f.auth != 3).getD false
        | none => true
      let s := (s.setSending port none).emit (.frameEnd port true)
      let s := if port < 48 then s.setCan port { s.canOf port with noRetry := false } else s
      let s := if 61 ≤ port then
          (s.put (Fld.SER_Cc_STATUS_TX_BUSY (port - 61)) 0).put (Fld.SER_Cc_STATUS_DE (port - 61)) 0
        else s
      (some { c with ahead := false, ready := if c.ahead then known else c.ready }, s)
  else (none, s)

/-- The frames of a claimed port are handled as if they had just been enqueued without the claim. -/
def State.claimDrop (s : State) (port : Nat) : State :=
  if s.claimedEgress port then
    let (cut, s) := s.claimCut port
    let queued := [7, 6, 5, 4, 3, 2, 1, 0].flatMap fun cls => s.queue port cls
    let s := (List.range 8).foldl (fun (s : State) cls => s.setQueue port cls []) s
    (cut.toList ++ queued).foldl (fun (s : State) (c : Copy) =>
      match s.frame? c.fid with
      | some f => s.offer c f
      | none => s) s
  else s

/-- CANP_STATUS and T1S BEACONING follow the claim. -/
def State.claimShow (s : State) : State :=
  let s := (List.range 48).foldl (fun (s : State) n => s.canShow n) s
  (List.range 8).foldl (fun (s : State) k => s.showBeaconing k) s

/-- The claimed outputs of the unit turn off. -/
def State.claimLost (s : State) : State :=
  if s.claimed then
    let before := s
    let s := before.pinsUnclaimed (s.put Fld.HAL_STATUS_CLAIMED 0)
    ((List.range 77).foldl (fun (s : State) p => s.claimDrop p) s).claimShow
  else s

/-! ### Gaining the claim (R67, R287, R349) -/

/-- Every transmit counter moves on by CIPH_FV_ADV. -/
def State.freshnessAdvance (s : State) : State :=
  let adv := s.cur Fld.CIPH_FV_ADV_ADV
  let s := (s.liveRoutes.filter (·.afaAdd)).foldl (fun (s : State) (r : Route) =>
    (List.range 16).foldl (fun (s : State) k =>
      let i := 16 * r.index + k
      let v := (s.lane i + adv) % 2 ^ 64
      (s.setLane i v).delta 1 i (le 8 v)) s) s
  (List.range 48).foldl (fun (s : State) n =>
    (s.setBeaconFv n ((s.beaconFv n + adv) % 2 ^ 64)).setRetractFv n ((s.retractFv n + adv) % 2 ^ 64)) s

/-- The held frames of a port join the head of its class-7 queue with REPLAY. -/
def State.replayPort (s : State) (port : Nat) (held : List Held) : State :=
  let flag := fun (s : State) (h : Held) => match s.frame? h.copy.fid with
    | some f => s.setFrame h.copy.fid { f with replay := true }
    | none => s
  let s := held.foldl flag s
  let cs := held.map (·.copy)
  let gens := (cs.filter fun (c : Copy) => c.addAfa && !s.fab.authq.contains (.gen c.fid)).map fun (c : Copy) => c.fid
  let s := { s with fab := { s.fab with authq := s.fab.authq ++ (natDedup gens).map AuthJob.gen } }
  if s.domain (domainOf port) ≠ 2 then cs.foldl (fun (s : State) c => s.divert c 7) s
  else if port < 48 ∧ (s.canState port = 0 ∨ s.on (Fld.CANP_MODE_LISTEN port) = true) then
    cs.foldl (fun (s : State) c => s.refuseCopy c) s
  else
    let s := s.setQueue port 7 (cs ++ s.queue port 7)
    let s := if port < 48 ∧ s.canState port = 4 then s.holdCut port 7 else s
    if port < 48 ∧ s.get (Fld.REEF_PORTn_STAT_STATE port) = 2 then s.reefWake port 3 else s

/-- All held frames are replayed. -/
def State.replayAll (s : State) : State :=
  let all := s.hal.replay
  let n := (all.map fun (e : Nat × List Held) => e.2.length).sum
  let s := { s with hal := { s.hal with replay := [] } }
  let s := all.foldl (fun (s : State) (e : Nat × List Held) => s.replayPort e.1 e.2) s
  (s.count (Reg.HAL_CNTk 5) n).raise 0x0F08 unitPartner [n4 n]

/-- The unit takes the claim: its claimed outputs are enabled, its transmit counters advance. -/
def State.claimGained (s : State) : State :=
  if s.claimed then s
  else
    let s := ((s.put Fld.HAL_STATUS_CLAIMED 1).freshnessAdvance).pinsClaimed
    let forget := fun (e : Nat × Beacon) => (e.1, { e.2 with prev := none, sent := [] })
    ({ s with time := { s.time with beacons := s.time.beacons.map forget } }).claimShow

/-- The role that the result of the window gives at the boundary that ends it (R327). -/
def State.claimRole (s : State) : State :=
  match s.hal.result with
  | none => s
  | some won =>
    if won ∧ 2 ≤ s.role ∧ s.role ≠ 4 then s.setRole 4 (if s.role = 5 ∧ s.hal.unfenced ≠ 0 then s.hal.unfenced else 1)
    else if won = false ∧ s.role = 4 then s.setRole 2 2
    else s

/-- The claimed outputs follow the result of the window at that boundary; `become`: the unit has become ACTIVE (R333, R335,
R349). -/
def State.claimOutputs (s : State) (become : Bool) : State :=
  match s.hal.result with
  | none => s
  | some won =>
    let s := { s with hal := { s.hal with result := none } }
    if won ∧ s.role ≠ 0 then (if become then s.claimGained.replayAll else s.claimGained) else s.claimLost.imageRequest

/-! ### The shadow (R337-R340, Table 13.7) -/

/-- The shadow stream is broken: 0 FSEQ gap, 1 an item that cannot be applied. -/
def State.shadowBreak (s : State) (reason : Nat) : State :=
  if s.role = 2 ∨ s.role = 3 then
    let s := s.raise 0x0F09 unitPartner [n4 reason]
    if s.role = 3 then (s.setRole 2 8).imageRequest
    else
      (({ s with hal := { s.hal with asked := false, image := false } }).put Fld.HAL_STATUS_SHADOW_VALID 0).imageRequest
  else s

/-- Every item of Table 13.7 that holds state (R338). -/
def State.imageItems (s : State) : List HalItem :=
  let lanes := (s.ciph.lanes.filter fun (e : Nat × Nat) => (s.liveRoute (e.1 / 16)).afaAdd).map fun (e : Nat × Nat) =>
    ({ cls := 1, index := e.1, body := le 8 e.2 } : HalItem)
  let ports := (List.range 48).map fun n =>
    ({ cls := 2, index := n, body := le 8 (s.beaconFv n) ++ le 8 (s.retractFv n) } : HalItem)
  let musters := s.musters.map fun m =>
    (let node := s.cur (Fld.REEF_MUSm_CTRL_NODE m)
     let corr := ((s.reefOf (s.cur (Fld.REEF_MUSm_CTRL_PORT m))).corr.find? fun c => c.1 == node).map (·.2)
     let b := le 4 (s.w (Reg.REEF_MUSm_STAT m)) ++ le 4 (ofInt 4 (corr.getD 0))
     { cls := 3, index := m, body := b } : HalItem)
  let keepers := ((List.range 48).filter fun n => s.on (Fld.REEF_PORTn_CFG_SLEEP_EN n)).map fun n =>
    ({ cls := 4, index := n, body := s.keeperBytes n } : HalItem)
  let tracks := s.nest.tracks.map fun (e : Nat × Track) => ({ cls := 5, index := e.1, body := e.2.shadow } : HalItem)
  let ctxs := s.nest.ctxs.map fun (e : Nat × TrayCtx) => ({ cls := 6, index := e.1, body := e.2.bytes } : HalItem)
  let stops := (s.nest.out.filter (·.stop)).filterMap fun (o : NestOut) => match s.lookup 77 none o.wire with
    | .route r =>
      (let b := le 4 (canKey o.wire) ++ le 2 o.mkey ++ le 2 0 ++ o.wire.data
       some ({ cls := 7, index := r.index, body := b } : HalItem))
    | .miss => none
  lanes ++ ports ++ musters ++ keepers ++ tracks ++ ctxs ++ stops

/-- Whole items packed into payloads of at most 1,024 bytes. -/
def halPack (items : List HalItem) : List Bytes :=
  let (done, last) := items.foldl (fun (a : List Bytes × Bytes) (i : HalItem) =>
    if 1024 < a.2.length + i.bytes.length then (a.1 ++ [a.2], i.bytes) else (a.1, a.2 ++ i.bytes)) ([], [])
  done ++ [last]

/-- The active unit answers an IMAGE_REQ. -/
def State.sendImage (s : State) : State :=
  let ps := halPack s.imageItems
  (ps.zipIdx).foldl (fun (s : State) (e : Bytes × Nat) => s.halSend 3 (e.2 + 1 == ps.length) e.1) s

/-- A shadowed axis. -/
def axisOf (b : Bytes) : Axis :=
  let x := fun (o : Nat) => BitVec.ofNat 32 (field b o 4)
  { p := x 0, v := x 4, p00 := x 8, p01 := x 12, p11 := x 16 }

/-- A shadowed track; its tray context is the one of its TRAY_SEQ, while that lives. -/
def State.trackOf (s : State) (index : Nat) (b : Bytes) : Track :=
  let set := if s.on Fld.NEST_CTRL_SPLIT then index / 1024 else 0
  let seq := field b 68 4
  { state := field b 60 1, set := set, hits := field b 61 1, misses := field b 62 1, time := field b 72 8,
    x := axisOf b, y := axisOf (b.drop 20), t := axisOf (b.drop 40), row := field b 66 1, col := field b 67 1,
    ctx := if seq = 0 then none else ((s.contexts set).find? fun (e : Nat × TrayCtx) => e.2.seq == seq).map (·.1),
    traySeq := seq, imgs := field b 63 1, alarms := field b 64 2, holds := [], event := 0 }

/-- The CAN frame of a key. -/
def wireOfKey (key : Nat) (data : Bytes) : Wire :=
  { kind := bits key 31 30, ide := bit key 29, brs := false, rtr := false, esi := false,
    id := idSent (bit key 29) (bits key 28 0), af := 0, data := data }

/-- A staged stop frame of the partner enters the replay buffers of its route's claimed ports (R348). -/
def State.shadowStop (s : State) (route : Nat) (b : Bytes) : State :=
  let r := s.liveRoute route
  let brs := bits (field b 0 4) 31 30 == 1 && s.on (Fld.NEST_ALMr_CTRL_STOP_BRS (field b 4 1 % 16))
  let w := { wireOfKey (field b 0 4) (b.drop 8) with brs := brs }
  let ports := r.external.filter s.claimedEgress
  if r.valid = false ∨ ports = [] ∨ s.claimed = true then s
  else
    let i : Inbound := { ingress := 77, wire := w, stamp := s.time.now, dur := none, replay := false, woken := false,
                         outWin := false, host := none, mkey := field b 4 2 }
    let f := i.frame (some r) ports 0 0 (Config.block s.free % 65536)
    let (fid, s) := ({ s with free := s.free + 1 }).alloc f
    ports.foldl (fun (s : State) p =>
      let c : Copy := { fid := fid, port := p, wire := s.translate r w p, ready := !r.afaAdd, addAfa := r.afaAdd,
                        ahead := false, attempts := 0 }
      s.replayHold c f.stamp) s

/-- Apply one item over the local copy; none: it cannot be applied. -/
def State.shadowApply (s : State) (i : HalItem) : Option State :=
  let b := i.body
  let len := b.length
  if i.cls = 1 ∧ len = 8 ∧ i.index < 65536 then some (s.setLane i.index (field b 0 8))
  else if i.cls = 2 ∧ len = 16 ∧ i.index < 48 then
    some ((s.setBeaconFv i.index (field b 0 8)).setRetractFv i.index (field b 8 8))
  else if i.cls = 3 ∧ len = 8 ∧ i.index < 1024 then
    let port := s.cur (Fld.REEF_MUSm_CTRL_PORT i.index)
    let node := s.cur (Fld.REEF_MUSm_CTRL_NODE i.index)
    let c := toSigned 32 (field b 4 4)
    let s := s.setReg (Reg.REEF_MUSm_STAT i.index) (BitVec.ofNat 32 (field b 0 4))
    let p := s.reefOf port
    if c = 0 then some (s.setReef port { p with corr := p.corr.filter fun e => e.1 != node })
    else if p.corr.any fun e => e.1 == node then
      some (s.setReef port { p with corr := p.corr.map fun e => if e.1 = node then (node, c) else e })
    else some (s.setReef port { p with corr := p.corr.drop (p.corr.length - 7) ++ [(node, c)] })
  else if i.cls = 4 ∧ len = 64 ∧ i.index < 48 then
    some ((List.range 4).foldl (fun (s : State) k =>
      ((s.setReg (Reg.REEF_KPn_i_KEY i.index k) (BitVec.ofNat 32 (field b (16 * k) 4))).setReg
        (Reg.REEF_KPn_i_INFO i.index k) (BitVec.ofNat 32 (field b (16 * k + 4) 4))).setReg64
        (Reg.REEF_KPn_i_TIME i.index k) (field b (16 * k + 8) 8)) s)
  else if i.cls = 5 ∧ len = 80 ∧ i.index < 2048 then
    let k := s.trackOf i.index b
    let ts := if k.state = 0 then SMap.del s.nest.tracks i.index else SMap.put s.nest.tracks i.index k
    some { s with nest := { s.nest with tracks := ts } }
  else if i.cls = 6 ∧ len = 32 ∧ i.index < 8 then
    if bit (field b 0 4) 0 then
      some (s.setCtx i.index { seq := field b 4 4, slot := bits (field b 0 4) 13 8, x := BitVec.ofNat 32 (field b 8 4),
                               y := BitVec.ofNat 32 (field b 12 4), id := b.drop 16 })
    else some (s.dropCtx i.index)
  else if i.cls = 7 ∧ len = 16 ∧ i.index < 4096 then some (s.shadowStop i.index b)
  else none

/-- Apply a payload's items, up to the first that cannot be applied. -/
def State.shadowItems (s : State) (b : Bytes) : Bool × State :=
  match halItems 1024 b with
  | none => (false, s)
  | some l => l.foldl (fun (a : Bool × State) (i : HalItem) =>
      if a.1 then (match a.2.shadowApply i with
        | some s => (true, s)
        | none => (false, a.2))
      else a) (true, s)

/-! ### Reception (R337) -/

/-- Every received frame: the lane is aligned, FSEQ is followed, a gap breaks the shadow stream. -/
def State.halReceived (s : State) (f : HalFrame) : State :=
  if s.paired then
    let s := s.put Fld.HAL_STATUS_LINK_UP 1
    let gap := match s.hal.rxFseq with
      | some q => f.fseq != (q + 1) % 65536
      | none => false
    let s := { s with hal := { s.hal with rxFseq := some f.fseq } }
    if gap then s.shadowBreak 0 else s
  else s

/-- Does the unit take items of a sender's shadow format (R338)? -/
def fmtOk (fmt : Nat) : Bool := fmt == Config.shadowFmt.toNat || fmt + 1 == Config.shadowFmt.toNat

/-- A frame of items from a foreign SHADOW_FMT: the unit stays JOINING and tells it once. -/
def State.foreignFmt (s : State) : State :=
  if (s.role = 2 ∨ s.role = 3) ∧ s.hal.fmtBad = false then
    let s := ({ s with hal := { s.hal with fmtBad := true } }).raise 0x0F09 unitPartner [n4 2]
    let s := s.put Fld.HAL_STATUS_SHADOW_VALID 0
    if s.role = 3 then (s.setRole 2 8).imageRequest else s
  else s

/-! ### Yielding (R351, R352) -/

/-- A yield is accepted only while the partner is STANDBY with a valid shadow. -/
def State.yieldOk (s : State) : Bool :=
  s.role == 4 && (match s.hal.last with
    | some h => h.role == 3 && bit h.flags 1
    | none => false)

/-- HAL_CTRL.HANDOVER at its commit slot. -/
def State.handover (s : State) : State :=
  if s.yieldOk then { s with hal := { s.hal with yieldNext := true } }
  else s.cfgReject Fld.HAL_CFG_ERR_HANDOVER 0x0F0B unitPartner

/-- HAL_CTRL.UNFENCE at its commit slot. -/
def State.unfence (s : State) : State :=
  if s.role = 5 then { s with hal := { s.hal with unfenced := 6 } } else s

/-- FENCE_BEATS beats without partner evidence. -/
def State.fenceTimeout (s : State) : State :=
  if s.role = 5 ∧ s.on Fld.HAL_CFG_EVIDENCE_EN = true ∧ s.cur Fld.HAL_CFG_FENCE_BEATS ≤ s.hal.evidence ∧ s.hal.unfenced = 0 then
    { s with hal := { s.hal with unfenced := 4 } }
  else s

end Sys2Proof.Machine
end

