-- ==== Sys2Proof/Machine/Hal.lean ====
section
/-! DEFINITION. The commands of the redundant pair: the claim window, the frames received on the Halyard link, the claim
watchdog, expiry and yielding (R326-R352). -/

namespace Sys2Proof.Machine

/-! ### The claim window (R326-R333, R341, R342)

The 19 bits of Table 13.2 are numbered 18 START, 17 PRESENCE0, 16 PRESENCE1, 15-0 the claim bits. -/

/-- What a unit drives and samples in one window. -/
structure WindowBits where
  own     : Nat      -- bits it drove
  sampled : Nat      -- bits it sampled dominant
  lost    : Bool
  fault   : Option Nat   -- position of the first bit that it drove and sampled recessive
  deriving DecidableEq, Repr

/-- One bit of a window: `drive`: the unit pulls CLAIM low; `ext` and `cut`: others pull it low, the unit's own level
does not reach the net. -/
def windowBit (ext cut : Nat) (w : WindowBits) (k : Nat) (drive : Bool) : WindowBits :=
  let seen := (drive && !bit cut k) || bit ext k
  { own := if drive then w.own + 2 ^ k else w.own,
    sampled := if seen then w.sampled + 2 ^ k else w.sampled,
    lost := w.lost,
    fault := if drive && !seen && w.fault.isNone then some (18 - k) else w.fault }

/-- The claim bits of a bidding unit, most significant first. -/
def windowClaim (ext cut number : Nat) (bid : Bool) : Nat → WindowBits → WindowBits
  | 0, w => w
  | k + 1, w =>
    let drive := bid && !w.lost && bit number k
    let w := windowBit ext cut w k drive
    let w := { w with lost := w.lost || (bid && !drive && bit w.sampled k) }
    windowClaim ext cut number bid k w

/-- The heartbeat of the beat in progress, judged at the start of its window (R341). -/
def State.judgeHeartbeat (s : State) : Bool × State :=
  if s.hal.heard then (false, { s with hal := { s.hal with heard := false, missed := 0 } })
  else
    let n := s.hal.missed + 1
    let s := ({ s with hal := { s.hal with missed := n } }).count (Reg.HAL_CNTk 0)
    if 2 ≤ n ∧ s.get Fld.HAL_STATUS_PARTNER_LOST = 0 then (true, s.put Fld.HAL_STATUS_PARTNER_LOST 1) else (false, s)

/-- R331: heartbeats arrive and the partner's presence bit has been absent in two windows. -/
def State.presenceFault (s : State) (seen : Bool) : State :=
  if seen ∨ 2 ≤ s.hal.since ∨ s.hal.last = none ∨ s.hal.unseen < 2 then
    (if seen then s.put Fld.HAL_STATUS_SKEW 0 else s)
  else
    let ns := toSigned 32 (s.w Reg.HAL_SKEW)
    if 500 < ns ∨ ns < -500 then
      (if s.get Fld.HAL_STATUS_SKEW = 1 then s
       else (s.put Fld.HAL_STATUS_SKEW 1).raise 0x0F05 unitPartner [.d8 ns])
    else if s.get Fld.HAL_STATUS_LINE_FAULT = 1 then s
    else (s.put Fld.HAL_STATUS_LINE_FAULT 1).raise 0x0F06 unitPartner [n4 (2 - s.strap)]

/-- The split-brain rule (R342). -/
def State.splitBrain (s : State) : State :=
  if s.get Fld.HAL_STATUS_PARTNER_LOST = 1 ∧ 2 ≤ s.hal.unseen ∧ s.hal.split = false then
    let s := { s with hal := { s.hal with split := true } }
    if s.strap = 0 then s.raise 0x0F04 unitPartner [n4 1]
    else if s.role = 5 then s
    else (s.raise 0x0F04 unitPartner [n4 0]).setRole 5 3
  else s

/-- Does the unit bid (R329, R330, Table 13.4)? -/
def State.bids (s : State) (tick seen : Bool) : Bool :=
  let recent := s.hal.last.isSome && decide (s.hal.since < 2)
  let conflict := match s.hal.strapAt with
    | some n => decide (n < 2)
    | none => false
  let byRole := match s.role with
    | 2 => !(match s.hal.activeAt with
      | some n => decide (n < 2)
      | none => false)
    | 3 => s.get Fld.HAL_STATUS_PARTNER_LOST == 1 || (match s.hal.last with
      | some h => bit h.flags 0
      | none => false)
    | 4 => !s.hal.yielding
    | 5 => s.hal.unfenced != 0
    | _ => false
  byRole && tick && !conflict && (s.role == 4 || !recent || seen)

/-- A window of a LONE unit (R333): it drives nothing. -/
def State.loneWindow (s : State) (dominant : Bool) : State :=
  if dominant then
    let s := (s.count (Reg.HAL_CNTk 10)).raise 0x0F07 unitPartner [n8 (s.reg64 (Reg.HAL_CNTk 10) + 1)]
    { s with hal := { s.hal with lone := 2, result := some false } }
  else
    let left := s.hal.lone - 1
    { s with hal := { s.hal with lone := left, result := some (left == 0) } }

/-- A window of a unit in JOINING, STANDBY, ACTIVE or FENCED. -/
def State.pairWindow (s : State) (ext cut : Nat) (tick : Bool) : State :=
  let (newLoss, s) := s.judgeHeartbeat
  let seen := bit ext (if s.strap = 0 then 16 else 17)
  let s := s.put Fld.HAL_STATUS_PRESENCE (b2n seen)
  let s := { s with hal := { s.hal with unseen := if seen then 0 else s.hal.unseen + 1,
                                        split := s.hal.split && !seen } }
  let s := if newLoss then s.raise 0x0F02 unitPartner [n4 (b2n seen)] else s
  let s := if seen then s.put Fld.HAL_STATUS_LINE_FAULT 0 else s
  let s := (s.presenceFault seen).splitBrain
  let score := s.get Fld.HAL_HEALTH_SCORE
  let number := s.claimNumber score
  let bid := s.bids tick seen
  let w0 : WindowBits := { own := 0, sampled := 0, lost := false, fault := none }
  let w := windowBit ext cut w0 18 true
  let w := windowBit ext cut w 17 (s.strap == 0)
  let w := windowBit ext cut w 16 (s.strap == 1)
  let w := windowClaim ext cut number bid 16 w
  let fault := if bid then w.fault else none
  let winner := bits w.sampled 15 0
  let winner := if winner < 2 then 0 else winner
  let won := bid && winner == number && fault.isNone
  let s := match fault with
    | some p => (s.put Fld.HAL_STATUS_LINE_FAULT 1).raise 0x0F06 unitPartner [n4 p]
    | none => s
  let s := (s.put Fld.HAL_CLAIM_LOCAL (if bid then number else 0)).put Fld.HAL_CLAIM_WINNER winner
  let s := if winner = 0 then s.count (Reg.HAL_CNTk 3) else s
  let s := if bid then s.count (Reg.HAL_CNTk (if won then 1 else 2)) else s
  let s := s.emit (.claimBits true (bits w.own 15 0))
  let s := s.pinsYield (winner != 0 && !won)
  { s with hal := { s.hal with bid := bid, won := won, partnerWon := winner != 0 && !won, number := number,
                               result := some won } }

/-- The window of the beat. -/
def State.claimWindow (s : State) (ext cut : Nat) (tick : Bool) (t : Tai) : State :=
  let s := { s with hal := { s.hal with windowAt := t } }
  let s := s.put Fld.HAL_HEALTH_SCORE s.healthScore
  match s.role with
  | 0 => { s with hal := { s.hal with result := some false, won := false, bid := false } }
  | 1 => s.loneWindow (ext != 0)
  | _ => (s.fenceTimeout).pairWindow ext cut tick

/-- Is the claim window open: the last 4 µs of the beat, once in a beat, and none in a realignment gap (R25, R33)? -/
def State.windowOpen (s : State) : Bool :=
  s.slotsRun && decide (s.beat.next ≤ s.time.now + 4000) && decide (s.time.now ≤ s.beat.next) && !s.beat.windowRun

/-- CLAIM_WINDOW: `ext`: bits that other drivers hold dominant; `cut`: bits in which the unit's own level does not reach
the net; `tick`: the fabric and the beat generator delivered their tick in this beat. -/
def execClaimWindow (ext cut : Nat) (tick : Bool) (t : Tai) (s : State) : Host.Outcome State Fault Refusal :=
  unlessHeld s <|
  let s := s.at t
  runIf (Instr.claimWindow ext cut tick t).wf "CLAIM_WINDOW"
    (if s.windowOpen then
       (let s := s.enterSlot 4
        State.claimWindow { s with beat := { s.beat with windowRun := true } } ext cut
          (tick && s.domain 4 == 2 && s.glb.phase == .running) t)
     else s)

/-- A window skipped by a realignment gap counts as one without the partner's presence (R341). -/
def State.windowSkipped (s : State) : State :=
  if s.paired then
    let missed := if s.hal.heard then 0 else s.hal.missed + 1
    let s := if s.hal.heard then s else s.count (Reg.HAL_CNTk 0)
    { s with hal := { s.hal with unseen := s.hal.unseen + 1, missed := missed, heard := false } }
  else s

/-- CLAIM_WATCHDOG: no window has run for 2 beat lengths (R332). -/
def execClaimWatchdog (t : Tai) (s : State) : Host.Outcome State Fault Refusal :=
  unlessHeld s <|
  let s := s.at t
  runIf (Instr.claimWatchdog t).wf "CLAIM_WATCHDOG"
    (if s.claimed ∧ s.hal.windowAt + 2 * s.beatLen ≤ t then
       let s := { s with hal := { s.hal with result := none, lone := max 1 s.hal.lone } }
       (if s.role = 4 then s.setRole 2 9 else s).claimLost.imageRequest
     else s)

/-! ### Frames received -/

/-- A partner heartbeat (R331, R338, R341, R343, R352). Its BEAT_START is held against the own beat of the same index: a
heartbeat of the coming beat may arrive before the own boundary (DEDUCED). -/
def State.heartbeat (s : State) (f : HalFrame) : State :=
  let b := f.payload
  let h : Heartbeat := { claim := field b 0 2, health := bits (field b 2 2) 10 0, role := field b 4 1, flags := field b 5 1,
                         start := field b 8 8, epoch := field b 16 4, fmt := f.fmt }
  let s := { s with hal := { s.hal with last := some h, heard := true, since := 0,
                                        activeAt := if h.role = 4 then some 0 else s.hal.activeAt } }
  let s := (s.put Fld.HAL_STATUS_PARTNER_ROLE h.role).put Fld.HAL_HEALTH_PARTNER h.health
  let own := if f.index = (s.beatIndex + 1) % 2 ^ 32 then s.beat.next else s.beat.start
  let s := s.setReg Reg.HAL_SKEW (BitVec.ofNat 32 (ofInt 4 (satSigned 32 ((h.start : Int) - own))))
  let s : State := if f.sender % 2 = s.strap then
      let known := match s.hal.strapAt with
        | some n => decide (n < 2)
        | none => false
      let s := { s with hal := { s.hal with strapAt := some 0 } }
      if known then s else s.raise 0x0F0A unitPartner [n4 s.strap]
    else s
  let s : State := if s.get Fld.HAL_STATUS_PARTNER_LOST = 1 then
      let s : State := { s.put Fld.HAL_STATUS_PARTNER_LOST 0 with hal := { s.hal with missed := 0, split := false } }
      s.raise 0x0F03 unitPartner [n4 h.role]
    else s
  let lower : Nat := if s.role = 4 ∧ s.get Fld.HAL_HEALTH_SCORE + s.cur Fld.HAL_CFG_YIELD_DIFF ≤ h.health then s.hal.lower + 1 else 0
  let s : State := { s with hal := { s.hal with lower := lower } }
  if s.role = 5 then (s.setRole 2 5).imageRequest
  else if s.role = 2 then
    (if h.role = 4 then s else { s with hal := { s.hal with asked := false } }).imageRequest
  else s

/-- A frame of a type, on a paired unit. -/
def State.halFrame (s : State) (frame : Bytes) (type : Nat) (act : State → HalFrame → State) : State :=
  let f := halParse frame
  let s := s.halReceived f
  if s.paired ∧ f.type = type then act s f else s

/-- HALYARD_HEARTBEAT: header and payload of a frame whose CRC holds. -/
def execHalyardHeartbeat (frame : Bytes) (t : Tai) (s : State) : Host.Outcome State Fault Refusal :=
  unlessHeld s <|
  runIf (Instr.halyardHeartbeat frame t).wf "HALYARD_HEARTBEAT" ((s.at t).halFrame frame 1 State.heartbeat)

/-- DELTA items: the first of them after a whole image makes a JOINING unit STANDBY. -/
def State.deltaFrame (s : State) (f : HalFrame) : State :=
  if !fmtOk f.fmt then s.foreignFmt
  else
    let s := { s with hal := { s.hal with fmtBad := false } }
    if s.role = 2 ∨ s.role = 3 then
      let (ok, s) := s.shadowItems f.payload
      if !ok then s.shadowBreak 1
      else if s.role = 2 ∧ s.hal.image = true ∧ s.get Fld.HAL_STATUS_PARTNER_ROLE = 4 then s.setRole 3 7
      else s
    else s

/-- HALYARD_DELTA. -/
def execHalyardDelta (frame : Bytes) (t : Tai) (s : State) : Host.Outcome State Fault Refusal :=
  unlessHeld s <|
  runIf (Instr.halyardDelta frame t).wf "HALYARD_DELTA" ((s.at t).halFrame frame 2 State.deltaFrame)

/-- IMAGE items; the frame with IMAGE_END completes the image. -/
def State.imageFrame (s : State) (f : HalFrame) : State :=
  if !fmtOk f.fmt then s.foreignFmt
  else
    let s := { s with hal := { s.hal with fmtBad := false } }
    if s.role = 2 then
      let (ok, s) := s.shadowItems f.payload
      if !ok then s.shadowBreak 1
      else if bit f.flags 1 then
        ({ s with hal := { s.hal with image := true, asked := false } }).put Fld.HAL_STATUS_SHADOW_VALID 1
      else s
    else s

/-- HALYARD_IMAGE. -/
def execHalyardImage (frame : Bytes) (t : Tai) (s : State) : Host.Outcome State Fault Refusal :=
  unlessHeld s <|
  runIf (Instr.halyardImage frame t).wf "HALYARD_IMAGE" ((s.at t).halFrame frame 3 State.imageFrame)

/-- HALYARD_IMAGE_REQ. -/
def execHalyardImageReq (frame : Bytes) (t : Tai) (s : State) : Host.Outcome State Fault Refusal :=
  unlessHeld s <|
  runIf (Instr.halyardImageReq frame t).wf "HALYARD_IMAGE_REQ"
    ((s.at t).halFrame frame 5 fun s _ => if s.role = 4 then s.sendImage else s)

/-- Does a marker entry match a held frame (R346)? -/
def State.markerMatches (s : State) (e : Bytes) (h : Held) : Bool :=
  match s.frame? h.copy.fid with
  | none => false
  | some f =>
    let kind := if f.ingress = 78 then 1 else if f.ingress = 77 then 2 else 0
    let key := field e 8 8
    kind == field e 0 1 && f.mroute == field e 4 2 &&
    (if kind = 0 then decide (f.mkey ≤ key + s.cur Fld.HAL_RPL_MATCH_NS ∧ key ≤ f.mkey + s.cur Fld.HAL_RPL_MATCH_NS)
     else f.mkey == key)

/-- One marker entry discards the oldest held frame that it matches. -/
def State.markerEntry (s : State) (e : Bytes) : State :=
  let s := s.count (Reg.HAL_CNTk 9)
  let port := field e 2 1
  let held := SMap.get [] s.hal.replay port
  match held.findIdx? (s.markerMatches e) with
  | none => s
  | some i =>
    match held[i]? with
    | none => s
    | some h =>
      let s := { s with hal := { s.hal with replay := SMap.set [] s.hal.replay port (held.eraseIdx i) } }
      let sent := field e 1 1 == 0
      let checked := match s.frame? h.copy.fid with
        | some f => f.auth == 3 && (match f.route with | some r => r.runAhead | none => false)
        | none => false
      let s := if sent && checked then
          let ports := SMap.get [] s.hal.awaited h.copy.fid
          { s with hal := { s.hal with awaited := SMap.put s.hal.awaited h.copy.fid (ports ++ [port]) } }
        else s
      s.copyFinal h.copy.fid port (if sent then 0x0B else field e 3 1) 0 false

/-- The 16-byte entries of a MARKER payload. -/
def State.markers : Nat → Bytes → State → State
  | 0, _, s => s
  | k + 1, b, s => if b.length < 16 then s else State.markers k (b.drop 16) (s.markerEntry (b.take 16))

/-- HALYARD_MARKER. -/
def execHalyardMarker (frame : Bytes) (t : Tai) (s : State) : Host.Outcome State Fault Refusal :=
  unlessHeld s <|
  runIf (Instr.halyardMarker frame t).wf "HALYARD_MARKER"
    ((s.at t).halFrame frame 4 fun s f => State.markers 64 f.payload s)

/-- HALYARD_CRC_ERROR: the frame is discarded. -/
def execHalyardCrcError (t : Tai) (s : State) : Host.Outcome State Fault Refusal :=
  unlessHeld s <|
  runIf (Instr.halyardCrcError t).wf "HALYARD_CRC_ERROR" ((s.at t).count (Reg.HAL_CNTk 8))

/-! ### Expiry and yielding -/

/-- The held frames of a port that are RPL_AGE beats old are discarded. -/
def State.expirePort (s : State) (port : Nat) (held : List Held) : State :=
  let old := held.filter fun (h : Held) => decide (s.cur Fld.HAL_RPL_RPL_AGE ≤ h.age)
  let keep := held.filter fun (h : Held) => !decide (s.cur Fld.HAL_RPL_RPL_AGE ≤ h.age)
  let s := { s with hal := { s.hal with replay := SMap.set [] s.hal.replay port keep } }
  old.foldl (fun (s : State) (h : Held) => (s.count (Reg.HAL_CNTk 6)).copyFinal h.copy.fid port 0x0B 0 false) s

/-- REPLAY_AGE_EXPIRY. -/
def execReplayAgeExpiry (t : Tai) (s : State) : Host.Outcome State Fault Refusal :=
  unlessHeld s <|
  runIf (Instr.replayAgeExpiry t).wf "REPLAY_AGE_EXPIRY"
    ((s.at t).hal.replay.foldl (fun (s : State) (e : Nat × List Held) => s.expirePort e.1 e.2) (s.at t))

/-- FENCE_EVIDENCE_TIMEOUT. -/
def execFenceEvidenceTimeout (t : Tai) (s : State) : Host.Outcome State Fault Refusal :=
  unlessHeld s <|
  runIf (Instr.fenceEvidenceTimeout t).wf "FENCE_EVIDENCE_TIMEOUT" ((s.at t).fenceTimeout)

/-- AUTO_YIELD: eight heartbeats in a row reported a health higher by YIELD_DIFF (R352). -/
def execAutoYield (t : Tai) (s : State) : Host.Outcome State Fault Refusal :=
  unlessHeld s <|
  let s := s.at t
  runIf (Instr.autoYield t).wf "AUTO_YIELD"
    (if s.on Fld.HAL_CFG_AUTO_YIELD ∧ 8 ≤ s.hal.lower ∧ s.yieldOk = true then
       { s with hal := { s.hal with yieldNext := true, lower := 0 } }
     else s)

/-! ### The pair at a beat boundary -/

/-- The heartbeat of a beat (Table 13.6); while the fabric core is not powered it sends none (R375, R452). -/
def State.sendHeartbeat (s : State) : State :=
  if s.paired = true ∧ s.domain 4 = 2 then
    let flags := b2n s.hal.yielding + 2 * s.get Fld.HAL_STATUS_SHADOW_VALID + 4 * b2n s.hal.bid +
      8 * b2n (s.timeState == 2)
    s.halSend 1 false (le 2 s.hal.number ++ le 2 (s.get Fld.HAL_HEALTH_SCORE) ++ le 1 s.role ++ le 1 flags ++ le 2 0 ++
      le 8 s.beat.start ++ le 4 (s.w Reg.FAB_ROUTE_EPOCH) ++ le 2 (s.hal.rxFseq.getD 0) ++ le 10 0)
  else s

/-- At a boundary: the role that the window gave, the counts of beats, the heartbeat as the first frame of the new beat
(R338), then the claimed outputs. -/
def State.halBoundary (s : State) : State :=
  let old := s.role
  let s := s.claimRole
  let older := s.hal.replay.map fun (e : Nat × List Held) => (e.1, e.2.map fun (h : Held) => { h with age := h.age + 1 })
  let s := { s with hal := { s.hal with
    replay := older, since := s.hal.since + 1, strapAt := s.hal.strapAt.map (· + 1),
    activeAt := s.hal.activeAt.map (· + 1), yielding := s.hal.yieldNext,
    yieldNext := false, evidence := if s.hal.evSeen then 0 else s.hal.evidence + 1, evSeen := false } }
  s.sendHeartbeat.claimOutputs (s.role == 4 && old != 4)

end Sys2Proof.Machine
end

