-- ==== Sys2Proof/Machine/Pwr.lean ====
section
/-! DEFINITION. The power domains: requests, policies, close, drain, isolation and return, with what a domain loses
(chapter "Power Domains and Hold-Up", R354-R368; rail faults, R443). -/

namespace Sys2Proof.Machine

/-! ### The domains (Table 14.1) -/

/-- The wake latency in ns; 0 for a domain that returns only through RESTORE. -/
def wakeLatency (d : Nat) : Nat :=
  1000 * (if 7 ≤ d ∧ d ≤ 10 then 180 else if d = 12 then 120 else if d = 13 then 40 else if d = 14 ∨ d = 15 then 400
    else if d = 16 then 60 else if d = 18 then 300 else if d = 19 then 500 else if d = 20 then 800
    else if d = 22 then 250 else if d = 23 then 100 else 0)

/-- Does a domain allow a policy? -/
def policyOk (d policy : Nat) : Bool :=
  match policy with
  | 0 => true
  | 1 => (7 ≤ d && d ≤ 10) || (12 ≤ d && d ≤ 16) || (18 ≤ d && d ≤ 20) || d == 22 || d == 23
  | 2 => (7 ≤ d && d ≤ 10) || d == 12 || d == 13
  | _ => false

/-- Is the rail of a domain's line drivers or SerDes valid (R443)? -/
def State.railOk (s : State) (d : Nat) : Bool :=
  if 7 ≤ d ∧ d ≤ 10 then s.pwr.vcan else if d = 14 ∨ d = 15 then s.pwr.vsds else true

/-- The policy of a domain in force: 0 ALWAYS, 1 HOST, 2 IDLE. -/
def State.policy (s : State) (d : Nat) : Nat := s.cur (Fld.PWR_Dd_CFG_POLICY d)

/-- Does this command come at a beat boundary (R357)? -/
def State.atBoundary (s : State) : Bool := s.beat.started && s.time.now == s.beat.start && s.get Fld.BEAT_STATUS_SLOT_CUR != 7

/-! ### Contents lost and restored (Table 14.4) -/

/-- Every enabled limiter is full. -/
def State.limitersFull (s : State) : State :=
  s.fab.limLive.foldl (fun (s : State) (e : Nat × Bool) =>
    if limEn (s.w (Reg.RT_LIVE_LIM e.1 0)) then
      s.setReg (Reg.FAB_LIMi_TOK e.1) (BitVec.ofNat 32 (256 * limBurst (s.w (Reg.RT_LIVE_LIM e.1 1))))
    else s) s

/-- Packet memory, queues, hold queues and replay buffers are lost without completions (R367, R373). -/
def State.fabricLost (s : State) : State :=
  let ports := (s.fab.queues.map fun (e : Nat × List Copy) => e.1 / 8) ++ s.fab.sending.map (·.1)
  let held := s.pwr.domains.map (·.1)
  let s := { s with
    fab := { s.fab with frames := [], queues := [], sending := [], arrivals := [], authq := [] },
    ra := [],
    hal := { s.hal with replay := [], awaited := [] },
    eth := { s.eth with tails := [], txSa := [] },
    hif := { s.hif with fetched := [], finals := [] },
    ciph := { s.ciph with jobs := [] },
    nest := { s.nest with inbox := [], out := [] },
    mgt := { s.mgt with inbox := [] },
    time := { s.time with beacons := s.time.beacons.map fun (e : Nat × Beacon) => (e.1, { e.2 with sent := [], due := false }) } }
  let s := s.setReg Reg.FAB_FREE (RegMap.resetOf Reg.FAB_FREE)
  let s := held.foldl (fun (s : State) d => s.setDom d { s.dom d with hold := [] }) s
  (ports.foldl (fun (s : State) p => s.showQueues p) s).limitersFull

/-- The vault loses every slot's key (PD03). -/
def State.vaultLost (s : State) : State :=
  let s := { s with ciph := { s.ciph with keys := [], loads := [], jobs := [], mgtJobs := [] } }
  (List.range 64).foldl (fun (s : State) n =>
    let s := (s.setReg (Reg.CIPH_KSn_STAT n) 0#32).setReg (Reg.CIPH_KSn_LIMIT n) 0#32
    s.setReg64 (Reg.CIPH_KSn_USED n) 0) s

/-- The PERSIST keys are restored, each with USED at its last reservation, unless an erase mark is present (R272,
R405). -/
def State.vaultRestore (s : State) : State :=
  if s.ciph.erasing then s
  else s.ciph.backing.foldl (fun (s : State) (e : Nat × KeyLoad) =>
    let (n, l) := e
    let used := SMap.get 0 s.ciph.backingUsed n
    let s := { s with ciph := { s.ciph with keys := SMap.put s.ciph.keys n { key := l.key, resv := used } } }
    let s := ((s.put (Fld.CIPH_KSn_STAT_STATE n) 1).put (Fld.CIPH_KSn_STAT_SIZE n) l.size).put (Fld.CIPH_KSn_STAT_ATTR n) l.attr
    let s := (s.setReg (Reg.CIPH_KSn_LIMIT n) (BitVec.ofNat 32 l.limit)).setReg64 (Reg.CIPH_KSn_USED n) used
    s.keyLimitReached n) s

/-- The management firmware runs or not: port 79's word follows (Table 17.1). -/
def State.setFirmware (s : State) (run : Bool) : State :=
  let s := (s.put Fld.MGT_STATUS_FW_RUNNING (b2n run)).put Fld.GLB_BOOT_STATUS_FW_RUNNING (b2n run)
  let code := if run then 2 else 0
  if (s.word (unitOf 1 79)).code = code then s else s.message (unitOf 1 79) code

/-- What a domain loses when it is isolated; its ports are DOWN. -/
def State.contentLost (s : State) (d : Nat) : State :=
  if 7 ≤ d ∧ d ≤ 10 then (portsOf d).foldl (fun (s : State) n => s.canDown n) s
  else match d with
    | 2 => State.setFirmware { s with mgt := { s.mgt with inbox := [], subs := [] } } false
    | 3 => s.vaultLost
    | 4 => s.fabricLost
    | 12 => (portsOf 12).foldl (fun (s : State) p => s.ethIsolate p) s
    | 13 => (List.range 16).foldl (fun (s : State) c => s.serIsolate c) s
    | 14 => (portsOf 14).foldl (fun (s : State) p => s.ethIsolate p) s
    | 15 => (portsOf 15).foldl (fun (s : State) p => s.ethIsolate p) s
    | 16 => [56, 57, 58, 59].foldl (fun (s : State) p => s.ethFollow p false) s.lsecErase
    | 17 => s.hifReset
    | 18 => s.nestIsolate
    | 19 => s.nestIsolate
    | 20 => s.nestIsolate
    | 21 => State.put { s with nvm := { s.nvm with buffer := [], used := 0, saving := none } } Fld.NVM_STATUS_CFG_BUSY 0
    | 22 => s.ethIsolate 60
    | _ => s

/-- A CAN port whose domain is back, with its held frames queued again: a port that is off or listens refuses them. -/
def State.canBack (s : State) (n : Nat) : State :=
  let s := s.canUp n
  if s.canState n = 0 ∨ s.on (Fld.CANP_MODE_LISTEN n) then s.refuseQueues n else s

/-- What returns with a domain. -/
def State.contentBack (s : State) (d : Nat) : State :=
  if 7 ≤ d ∧ d ≤ 10 then (portsOf d).foldl (fun (s : State) n => s.canBack n) (s.returnHeld d)
  else
    let s := match d with
      | 2 => s.setFirmware true
      | 3 => s.vaultRestore
      | 21 =>
        let held := s.pwr.held
        held.foldl (fun (s : State) (e : Event) => s.spread e) { s with pwr := { s.pwr with held := [] } }
      | 12 => (portsOf 12).foldl (fun (s : State) p => s.ethFollow p false) s
      | 13 => (List.range 16).foldl (fun (s : State) c => s.serFollow c false 0 0) s
      | 14 => (portsOf 14).foldl (fun (s : State) p => s.ethFollow p false) s
      | 15 => (portsOf 15).foldl (fun (s : State) p => s.ethFollow p false) s
      | 16 => [56, 57, 58, 59].foldl (fun (s : State) p => s.ethFollow p false) s
      | 18 => s.nestFollow
      | 19 => s.nestFollow
      | 20 => s.nestFollow
      | 22 => s.ethFollow 60 false
      | _ => s
    s.returnHeld d

/-! ### Transitions (Table 14.2) -/

/-- A queued or held frame of an isolating domain: kept in the hold queue, or dropped (R364). -/
def State.sweepCopy (s : State) (d : Nat) (c : Copy) : State :=
  match s.frame? c.fid with
  | none => s
  | some f =>
    let x := s.dom d
    if s.on (Fld.FAB_CLASSc_WOE f.cls) then
      if x.hold.length < 256 then s.setDom d { x with hold := x.hold ++ [c] } else s.dropHoldFull d c
    else s.dropDomain c

/-- At entry to ISOLATING the queued frames go to the head of the hold queue, or are dropped (R364). Frames beyond the 256
of the hold queue are dropped, the newest first. -/
def State.sweep (s : State) (d : Nat) : State :=
  let copies := (portsOf d).flatMap fun p => [7, 6, 5, 4, 3, 2, 1, 0].flatMap fun c => s.queue p c
  let s := (portsOf d).foldl (fun (s : State) p =>
    (List.range 8).foldl (fun (s : State) c => if s.queue p c = [] then s else s.setQueue p c []) s) s
  let newer := (s.dom d).hold
  let s := s.setDom d { s.dom d with hold := [] }
  (copies ++ newer).foldl (fun (s : State) (c : Copy) => s.sweepCopy d c) s

/-- A domain is OFF. -/
def State.domainOff (s : State) (d reason : Nat) (lost : Bool := false) : State :=
  let before := s
  let s := before.keepPads (s.setDomain d 0 reason lost)
  let s := s.setDom d { s.dom d with close := none, bounds := 0, idle := 0 }
  (s.contentLost d).raise 0x1002 (unitOf 2 d) [n4 reason, n4 (s.dom d).hold.length]

/-- A domain is ON, with its hold queue returned (R365). -/
def State.domainOn (s : State) (d : Nat) (lost : Bool := false) : State :=
  let reason := s.get (Fld.PWR_Dd_STAT_REASON d)
  let x := s.dom d
  let s := (s.setDomain d 2 reason lost).contentBack d
  -- a close requested while it was WAKING stands
  let s := s.setDom d { s.dom d with close := x.close }
  s.raise 0x1001 (unitOf 2 d) [n4 reason, n8 (s.time.now - x.wakeAt)]

/-- A domain begins to wake. -/
def State.domainWaking (s : State) (d : Nat) : State :=
  let x := s.dom d
  match x.wake with
  | none => s
  | some r => (s.setDomain d 1 r).setDom d { x with wake := none, since := s.time.now }

/-- A domain closes. -/
def State.domainClose (s : State) (d reason : Nat) : State :=
  let before := s
  let s := before.keepPads (s.setDomain d 3 reason)
  s.setDom d { s.dom d with close := none, bounds := 0, idle := 0 }

/-- Does any port of a domain transmit? -/
def State.transmits (s : State) (d : Nat) : Bool := (portsOf d).any fun p => (s.sending p).isSome

/-- A copy in transmission on a port is cut as its domain goes OFF without drain. -/
def State.cutSending (s : State) (p : Nat) : State :=
  match s.sending p with
  | none => s
  | some c => ((s.setSending p none).clearWire p).dropDomain c

/-- A domain goes OFF without drain (R370, R443). -/
def State.domainShed (s : State) (d : Nat) : State :=
  if s.domain d = 0 then s.setDom d { s.dom d with wake := none, close := none }
  else
    let s := (portsOf d).foldl (fun (s : State) p => s.cutSending p) s
    let s := (s.sweep d).domainOff d 10
    s.setDom d { s.dom d with wake := none }

/-! ### Requests (R359, R362) -/

/-- Do domains that require this one stand in its way: is one of them not OFF? -/
def State.required (s : State) (d : Nat) : Bool :=
  (d == 19 && s.domain 18 != 0) || (d == 18 && s.domain 20 != 0)

/-- PWR_Dd_CFG takes effect in a commit slot; `old`: the value in force before. -/
def State.pwrFollow (s : State) (d : Nat) (old : Word) : State :=
  if d < 2 then s
  else
    let policy := s.policy d
    let on := s.cur (Fld.PWR_Dd_CFG_ON d) = 1
    let s := if policy = old.toNat % 4 then s else s.setDom d { s.dom d with idle := 0 }
    if policy = 0 ∨ (policy = 1 ∧ on) then
      (s.setDom d { s.dom d with close := none }).requestWake d 1
    else if policy = 1 then
      if s.required d then
        ((s.setReg (Reg.PWR_Dd_CFG d) old).setLive (Reg.PWR_Dd_CFG d) old).cfgReject Fld.PWR_CFG_ERR_DEPENDENCY 0x1009
      else
        let x := { s.dom d with wake := none }
        if s.domain d = 1 ∨ s.domain d = 2 then s.setDom d { x with close := some 8 } else s.setDom d x
    else s.setDom d { s.dom d with close := none }

/-- PWR_Dd_CTRL.WAKE at a commit slot: a wake under HOST and IDLE, and a new idle count under IDLE. -/
def State.pwrWake (s : State) (d : Nat) : State :=
  if 2 ≤ d ∧ s.policy d ≠ 0 then
    (s.setDom d { s.dom d with idle := 0 }).requestWake d 1
  else s

/-! ### Idle domains (R360, R361) -/

/-- Frames and characters counted so far on the enabled ports of PD12 or PD13. -/
def State.trafficMark (s : State) (d : Nat) : Nat :=
  if d = 12 then
    ((List.range 8).map fun k => if s.on (Fld.T1S_Ss_CFG_EN k) then
      ([0, 1, 2, 3, 4, 5, 6].map fun i => s.reg64 (Reg.T1S_Ss_CNTk k i)).sum else 0).sum
  else
    ((List.range 16).map fun c => if s.on (Fld.SER_Cc_CFG_EN c) then
      s.reg64 (Reg.SER_Cc_CNTk c 0) + s.reg64 (Reg.SER_Cc_CNTk c 11) else 0).sum

/-- The idle condition of Table 14.3 at a beat boundary. -/
def State.idleCondition (s : State) (d : Nat) : Bool :=
  if 7 ≤ d ∧ d ≤ 10 then
    (portsOf d).all fun n =>
      s.canState n == 0 ||
      (s.get (Fld.REEF_PORTn_STAT_STATE n) == 2 && s.get (Fld.FAB_QSTATp_NONEMPTY n) == 0 &&
       !s.spanOverlaps n s.beat.start (s.beat.start + 3 * s.beatLen))
  else if d = 12 then
    s.trafficMark 12 == (s.dom 12).mark && !s.transmits 12 &&
    (List.range 8).all fun k => s.get (Fld.T1S_Ss_STATUS_BEACONING k) == 0
  else s.trafficMark 13 == (s.dom 13).mark && !s.transmits 13

/-- A beat boundary in the power manager: idle counts and the boundaries since a close. -/
def State.pwrBoundary (s : State) : State :=
  let s := [7, 8, 9, 10, 12, 13].foldl (fun (s : State) d =>
    if s.policy d = 2 ∧ s.domain d = 2 then
      let idle := if s.idleCondition d then (s.dom d).idle + 1 else 0
      let mark := if 12 ≤ d then s.trafficMark d else 0
      s.setDom d { s.dom d with idle := idle, mark := mark }
    else s) s
  (List.range 24).foldl (fun (s : State) d =>
    if s.domain d = 3 then s.setDom d { s.dom d with bounds := (s.dom d).bounds + 1 } else s) s

/-! ### Meanings -/

/-- DOMAIN_CLOSE: a close request takes the domain to DRAINING at a beat boundary. -/
def execDomainClose (d : Nat) (t : Tai) (s : State) : Host.Outcome State Fault Refusal :=
  unlessHeld s <|
  let s := s.at t
  runIf (Instr.domainClose d t).wf "DOMAIN_CLOSE"
    (match (s.dom d).close with
     | some r => if s.atBoundary = true ∧ s.domain d = 2 then s.domainClose d r else s
     | none => s)

/-- Are the domains that a domain requires ON? -/
def State.needsMet (s : State) (d : Nat) : Bool := (needs d).all fun e => s.domain e == 2

/-- DOMAIN_WAKE: a wake request takes an OFF domain to WAKING at a beat boundary, once the domains it requires are ON; a
closing domain has gone ON at the request. -/
def execDomainWake (d : Nat) (t : Tai) (s : State) : Host.Outcome State Fault Refusal :=
  unlessHeld s <|
  let s := s.at t
  runIf (Instr.domainWake d t).wf "DOMAIN_WAKE"
    (if s.domain d = 0 ∧ s.needsMet d = true ∧ s.get Fld.PWR_STATUS_BRACE = 0 ∧ s.atBoundary = true then s.domainWaking d
     else s)

/-- REEF_SLEEP: at a beat boundary; `busy`: a frame is in progress on the bus (R192). -/
def execReefSleep (n : Nat) (busy : Bool) (t : Tai) (s : State) : Host.Outcome State Fault Refusal :=
  unlessHeld s <|
  let s := s.at t
  runIf (Instr.reefSleep n busy t).wf "REEF_SLEEP"
    (if s.atBoundary = true ∧ s.maySleep n busy = true then
       (let s := ((s.setCanState n 5).setReefState n 2).count (Reg.REEF_CNTn_k n 0)
        let s := s.setReef n { s.reefOf n with decErrs := 0, txWake := .none, capturing := false }
        let d := domainOf n
        if (s.dom d).idle = 0 ∧ s.domain d = 2 ∧ s.idleCondition d = true then
          s.setDom d { s.dom d with idle := 1 }
        else s)
     else s)

/-- DOMAIN_IDLE_CLOSE: the idle condition has held for IDLE_BEATS beats. -/
def execDomainIdleClose (d : Nat) (t : Tai) (s : State) : Host.Outcome State Fault Refusal :=
  unlessHeld s <|
  let s := s.at t
  runIf (Instr.domainIdleClose d t).wf "DOMAIN_IDLE_CLOSE"
    (if s.atBoundary = true ∧ s.domain d = 2 ∧ s.policy d = 2 ∧ s.cur (Fld.PWR_Dd_CFG_IDLE_BEATS d) < (s.dom d).idle then
       s.domainClose d 9
     else s)

/-- DOMAIN_DRAIN_END: the queues are empty, or the second boundary after the close is reached. -/
def execDomainDrainEnd (d : Nat) (t : Tai) (s : State) : Host.Outcome State Fault Refusal :=
  unlessHeld s <|
  let s := s.at t
  let empty := (portsOf d).all fun p => (List.range 8).all fun c => s.queueLen p c == 0
  runIf (Instr.domainDrainEnd d t).wf "DOMAIN_DRAIN_END"
    (if s.atBoundary = true ∧ s.domain d = 3 ∧ 1 ≤ (s.dom d).bounds ∧ (empty = true ∨ 2 ≤ (s.dom d).bounds) then
       (let s := (s.setDomain d 4 (s.get (Fld.PWR_Dd_STAT_REASON d))).sweep d
        if d = 13 then (List.range 16).foldl (fun (s : State) c => s.serClose c 7 []) s else s)
     else s)

/-- PWR_DOMAIN_OFF: no port of an ISOLATING domain is transmitting. -/
def execPwrDomainOff (d : Nat) (lost : Bool) (t : Tai) (s : State) : Host.Outcome State Fault Refusal :=
  unlessHeld s <|
  let s := s.at t
  runIf (Instr.pwrDomainOff d lost t).wf "PWR_DOMAIN_OFF"
    (if s.domain d = 4 ∧ s.transmits d = false then
       (s.sweep d).domainOff d (s.get (Fld.PWR_Dd_STAT_REASON d)) lost
     else s)

/-- PWR_DOMAIN_ON: the wake latency has elapsed on a valid rail; `bad`: queues found with differing pointers as the held
frames return (R132). -/
def execPwrDomainOn (d : Nat) (lost : Bool) (bad : List (Nat × Nat)) (t : Tai) (s : State) :
    Host.Outcome State Fault Refusal :=
  unlessHeld s <|
  let s := s.at t
  runIf (Instr.pwrDomainOn d lost bad t).wf "PWR_DOMAIN_ON"
    (if s.domain d = 1 ∧ (s.dom d).since + wakeLatency d ≤ t ∧ s.railOk d = true then (s.resetQueues bad).domainOn d lost
     else s)

/-- DOMAIN_MUSTER_WAKE: the last beat boundary before the earliest pre-wake point of a CAN domain's ports less 180 µs. -/
def execDomainMusterWake (d : Nat) (t : Tai) (s : State) : Host.Outcome State Fault Refusal :=
  unlessHeld s <|
  let s := s.at t
  runIf (Instr.domainMusterWake d t).wf "DOMAIN_MUSTER_WAKE"
    (if s.atBoundary = true ∧ s.domain d = 0 ∧ s.policy d = 2 ∧ s.get Fld.PWR_STATUS_BRACE = 0 ∧ (s.dom d).wake.isNone = true ∧
        ((portsOf d).any fun n => s.spanOverlaps n s.beat.start (s.beat.start + s.beatLen + wakeLatency d)) = true then
       (s.requestWake d 3).domainWaking d
     else s)

/-- DOMAIN_ACTIVITY_WAKE: activity on a T1S pair, or a falling edge on an RXD, that PWR_WAKE_SRC selects (R360). -/
def execDomainActivityWake (uart : Bool) (i : Nat) (t : Tai) (s : State) : Host.Outcome State Fault Refusal :=
  unlessHeld s <|
  let s := s.at t
  let d := if uart then 13 else 12
  let sel := if uart then bit (s.cur Fld.PWR_WAKE_SRC_UART_EDGE) i else bit (s.cur Fld.PWR_WAKE_SRC_T1S_ACT) i
  runIf (Instr.domainActivityWake uart i t).wf "DOMAIN_ACTIVITY_WAKE"
    (if sel = true ∧ s.policy d = 2 ∧ s.get Fld.PWR_STATUS_BRACE = 0 then s.requestWake d 4 else s)

/-! ### Rails (R443) -/

/-- Mark a rail valid or not, and whether its fall has been told. -/
def State.setRail (s : State) (vsds ok fell : Bool) : State :=
  if vsds then { s with pwr := { s.pwr with vsds := ok, vsdsFell := fell } }
  else { s with pwr := { s.pwr with vcan := ok, vcanFell := fell } }

/-- The domains on a rail. -/
def railDomains (vsds : Bool) : List Nat := if vsds then [14, 15] else [7, 8, 9, 10]

/-- VCAN (false) or VSDS (true) falls below its threshold: its domains that are ON or closing go to OFF without drain. -/
def State.railFault (s : State) (vsds : Bool) : State :=
  let fell := if vsds then s.pwr.vsdsFell else s.pwr.vcanFell
  let doms := (railDomains vsds).filter fun d => decide (2 ≤ s.domain d)
  if doms = [] then s.setRail vsds false fell
  else
    let s := doms.foldl (fun (s : State) d => s.domainShed d) (s.setRail vsds false true)
    s.raise 0x0122 0 [n4 (b2n vsds), n4 0]

/-- GLB_RAIL_FAULT. -/
def execGlbRailFault (vsds : Bool) (t : Tai) (s : State) : Host.Outcome State Fault Refusal :=
  unlessHeld s <|
  runIf (Instr.glbRailFault vsds t).wf "GLB_RAIL_FAULT" ((s.at t).railFault vsds)

/-- The rail is valid again: WAKING domains wait out their latency from now, and those that the fall took OFF are asked to
wake, unless the host holds them off. -/
def State.railReturn (s : State) (vsds : Bool) : State :=
  let was := if vsds then s.pwr.vsds else s.pwr.vcan
  let fell := if vsds then s.pwr.vsdsFell else s.pwr.vcanFell
  if was then s
  else
    let s := s.setRail vsds true false
    let s := (railDomains vsds).foldl (fun (s : State) d =>
      if s.domain d = 1 then s.setDom d { s.dom d with since := s.time.now }
      else if s.domain d = 0 ∧ s.get (Fld.PWR_Dd_STAT_REASON d) = 10 ∧ s.get Fld.PWR_STATUS_BRACE = 0 ∧
          ¬(s.policy d = 1 ∧ s.cur (Fld.PWR_Dd_CFG_ON d) = 0) then s.requestWake d 6
      else s) s
    if fell then s.raise 0x0122 0 [n4 (b2n vsds), n4 1] else s

/-- RAIL_RETURN. -/
def execRailReturn (vsds : Bool) (t : Tai) (s : State) : Host.Outcome State Fault Refusal :=
  unlessHeld s <|
  runIf (Instr.railReturn vsds t).wf "RAIL_RETURN" ((s.at t).railReturn vsds)

end Sys2Proof.Machine
end

