-- ==== Sys2Proof/Machine/NvmOps.lean ====
section
/-! DEFINITION. The embedded NVM: wear, health stages and spares, the journal, snapshots and saved configurations (chapter
"Non-Volatile Storage and Firmware Update", R392-R407). Areas are numbered as NVM_SECT_SEL numbers them: 0 journal, 1 bank A,
2 bank B, 3 key backing, 4 map, 5 spare. -/

namespace Sys2Proof.Machine

/-! ### Sectors, wear and health (R392-R394, R401-R403) -/

/-- A physical sector never used. -/
def Wear.fresh : Wear := { erases := 0, pulses := [], corr := 0 }

def State.wearOf (s : State) (p : Nat) : Wear := SMap.get Wear.fresh s.nvm.wear p
def State.setWear (s : State) (p : Nat) (x : Wear) : State :=
  { s with nvm := { s.nvm with wear := SMap.set Wear.fresh s.nvm.wear p x } }

/-- The physical sector that a logical sector has from the start, and the first spare: the areas in the order of
Table 16.1. -/
def firstPhys (area sector : Nat) : Nat :=
  (if area = 1 then 0 else if area = 2 then 256 else if area = 0 then 512 else if area = 3 then 1536
   else if area = 4 then 1552 else 1560) + sector

/-- The physical sector in use for a logical sector. -/
def State.physOf (s : State) (area sector : Nat) : Nat :=
  SMap.get (firstPhys area sector) s.nvm.moved (2048 * area + sector)

def State.stage (s : State) (area : Nat) : Nat := SMap.get 0 s.nvm.stages area

/-- NVM_STATUS and NVM_SPARES show the stages and the spares. -/
def State.showHealth (s : State) : State :=
  let s := (s.put Fld.NVM_STATUS_JHEALTH (s.stage 0)).put Fld.NVM_STATUS_CHEALTH (max (s.stage 1) (s.stage 2))
  let s := s.put Fld.NVM_STATUS_JREADONLY (b2n (s.stage 0 == 4))
  (s.put Fld.NVM_SPARES_FREE (488 - s.nvm.drawn)).put Fld.NVM_SPARES_JOURNAL (456 - s.nvm.drawnJ)

/-- An area rises to a health stage; at stage 4 the journal stops and its buffer is discarded (R403). -/
def State.raiseStage (s : State) (area st : Nat) : State :=
  if st ≤ s.stage area then s
  else
    let s := ({ s with nvm := { s.nvm with stages := SMap.set 0 s.nvm.stages area st } }).showHealth
    let s := s.raise 0x1201 0 [n4 area, n4 st]
    if area = 0 ∧ st = 4 then
      let s := s.raise 0x1203 0 [n4 (s.nvm.jseq - 1)]
      { s with nvm := { s.nvm with buffer := [], used := 0, lost := 0 } }
    else s

/-- A sector is retired: its logical sector moves to a spare, or the area has none left (R394, R402). -/
def State.retireSector (s : State) (area sector : Nat) : State :=
  let may : Bool := if area = 0 then decide (s.nvm.drawnJ < 456 ∧ s.nvm.drawn < 456) else decide (s.nvm.drawn < 488)
  if may then
    let p := firstPhys 5 s.nvm.drawn
    let s := { s with nvm := { s.nvm with
      moved := SMap.put s.nvm.moved (2048 * area + sector) p, drawn := s.nvm.drawn + 1,
      drawnJ := if area = 0 then s.nvm.drawnJ + 1 else s.nvm.drawnJ } }
    let s := (s.showHealth).count (Reg.NVM_CNTk 4)
    (s.raise 0x1202 0 [n4 area, n4 sector, n4 (488 - s.nvm.drawn)]).raiseStage area 3
  else s.raiseStage area 4

/-- A program of a sector: its pulses, and whether a read after it finds an uncorrectable word. -/
def State.programmed (s : State) (area sector pulses : Nat) (bad : Bool) : State :=
  let p := s.physOf area sector
  let x := s.wearOf p
  let l := (pulses :: x.pulses).take 16
  let s := s.setWear p { x with pulses := l }
  let s := if s.cur Fld.NVM_JCFG_PULSE_WARN * l.length ≤ l.sum then s.raiseStage area 1 else s
  if 16 < pulses ∨ bad = true then s.retireSector area sector else s

/-- The rated erase cycles of an area's sectors. -/
def ratedCycles (area : Nat) : Nat := if area = 0 ∨ area = 4 then 100000 else 10000

/-- An erase of a sector, and whether it fails its verify. -/
def State.erased (s : State) (area sector : Nat) (fail : Bool) : State :=
  let p := s.physOf area sector
  let x := s.wearOf p
  let s := s.setWear p { x with erases := x.erases + 1 }
  let s := if ratedCycles area < x.erases + 1 ∧ s.nvm.rated.contains area = false then
      ({ s with nvm := { s.nvm with rated := s.nvm.rated ++ [area] } }).raise 0x1204 0 [n4 area, n4 sector]
    else s
  if fail then s.retireSector area sector else s

/-! ### The journal (R395-R398) -/

/-- NVM_JHEAD and NVM_JTAIL. -/
def State.showJournal (s : State) : State :=
  let oldest := s.nvm.sectors.foldl (fun (b : Option JSector) (e : Nat × JSector) =>
    match b with
    | none => some e.2
    | some x => if e.2.sseq < x.sseq then some e.2 else some x) none
  let tail := match oldest with
    | some x => x.first
    | none => s.nvm.jseq
  (s.setReg Reg.NVM_JHEAD (BitVec.ofNat 32 s.nvm.jseq)).setReg Reg.NVM_JTAIL (BitVec.ofNat 32 tail)

/-- An entry as programmed and committed (Table 16.3). -/
def JEntry.bytes (e : JEntry) (jseq : Nat) : Bytes :=
  le 2 e.body.length ++ le 1 e.type ++ le 1 0 ++ le 4 jseq ++ le 8 e.time ++
    padTo ((e.body.length + 7) / 8 * 8) Config.journalPad e.body

/-- The sector that the next entry goes to, and whether it opens it. -/
def State.journalPlace (s : State) (size : Nat) : Nat × Bool :=
  match s.nvm.cur with
  | none => (0, true)
  | some c =>
    match SMap.look s.nvm.sectors c with
    | some x => if 32 + x.body.length + size ≤ 4096 then (c, false) else ((c + 1) % 1024, true)
    | none => (c, true)

/-- The oldest buffered entry is programmed and committed; one that would open a sector that is not erased waits. -/
def State.programEntry (s : State) (pulses : Nat) (bad : Bool) : State :=
  match s.nvm.buffer with
  | [] => s
  | e :: rest =>
    let (n, opens) := s.journalPlace e.size
    if s.stage 0 = 4 ∨ (opens = true ∧ (SMap.look s.nvm.sectors n).isSome = true) then s
    else
      let fresh : JSector := { sseq := s.nvm.sseq + 1, erases := (s.wearOf (s.physOf 0 n)).erases, first := s.nvm.jseq, body := [] }
      let x := if opens then fresh else (SMap.look s.nvm.sectors n).getD fresh
      let x := { x with body := x.body ++ e.bytes s.nvm.jseq }
      let s := { s with nvm := { s.nvm with
        buffer := rest, used := s.nvm.used - e.size, sectors := SMap.put s.nvm.sectors n x, cur := some n,
        jseq := (s.nvm.jseq + 1) % 2 ^ 32, sseq := if opens then s.nvm.sseq + 1 else s.nvm.sseq } }
      ((s.count (Reg.NVM_CNTk 0)).showJournal).programmed 0 n pulses bad

/-- The whole buffer is programmed; `progs`: pulses and failures by entry, in order; an entry not listed programs with one
pulse. -/
def State.commitJournal (s : State) (progs : List (Nat × Bool)) : State :=
  (s.nvm.buffer.zipIdx).foldl (fun (s : State) (e : JEntry × Nat) =>
    let p := progs.getD e.2 (1, false)
    s.programEntry p.1 p.2) s

/-- The first sector of the 34 ahead of the write position that is not erased. -/
def State.margin (s : State) : Option Nat :=
  let c := match s.nvm.cur with
    | some c => c + 1
    | none => 0
  ((List.range 34).map fun k => (c + k) % 1024).find? fun n => (SMap.look s.nvm.sectors n).isSome

/-- The margin ahead of the write position is kept erased (R395). -/
def State.eraseAhead (s : State) (fail : Bool) : State :=
  match s.margin with
  | none => s
  | some n =>
    let s := { s with nvm := { s.nvm with sectors := SMap.del s.nvm.sectors n } }
    (s.erased 0 n fail).showJournal

/-! ### Snapshot ranges (R399) -/

/-- The 64-bit counters that a range names. -/
def snapshotOffsets (base n stride rep : Nat) : List Nat :=
  (List.range rep).flatMap fun i => (List.range n).map fun j => base + i * stride + 8 * j

/-- Is the offset the low half of a 64-bit counter? -/
def isCounter (off : Nat) : Bool :=
  match RegMap.find off with
  | some r => r.ctr && r.wide && off % 8 == 0
  | none => false

/-- One range is latched as a SNAPSHOT entry. -/
def State.snapRange (s : State) (r : Nat) : State :=
  let base := s.cur (Fld.NVM_SNAPr_BASE_BASE r)
  let n := s.cur (Fld.NVM_SNAPr_CTRL_N r)
  let rep := s.cur (Fld.NVM_SNAPr_CTRL_REPEAT r)
  let stride := s.cur (Fld.NVM_SNAPr_STRIDE_STRIDE r)
  if s.on (Fld.NVM_SNAPr_CTRL_VALID r) then
    s.log 3 (le 4 base ++ le 1 n ++ le 1 rep ++ le 2 0 ++ le 4 stride ++
      (snapshotOffsets base n stride rep).flatMap fun o => le 8 (s.reg64 o))
  else s

/-- Is a round due in the beat in progress: beat 0 of a TAI second that SNAP_S divides? -/
def State.snapshotDue (s : State) : Bool :=
  let every := s.cur Fld.NVM_JCFG_SNAP_S
  every != 0 && decide (s.beat.start % 1000000000 < s.beatLen) && decide (s.beat.start / 1000000000 % every = 0)

/-- All valid ranges are latched. -/
def State.snapshotRound (s : State) : State := (List.range 32).foldl (fun (s : State) r => s.snapRange r) s

/-! ### The journal read window (R400) -/

/-- A journal sector's header (Table 16.2). -/
def JSector.header (x : JSector) (sector : Nat) : Bytes :=
  let h := le 4 0x4C4E4A48 ++ le 2 sector ++ le 2 1 ++ le 4 x.sseq ++ le 4 x.erases ++ le 4 x.first ++ le 8 0
  h ++ le 4 (crc32 h)

/-- The logical sector and the offset in it that a window offset shows. -/
def State.windowAt (s : State) (off : Nat) : Nat × Nat :=
  ((s.cur Fld.NVM_JWIN_BASE + off % 0x10000 / 4096) % 1024, off % 4096)

/-- A word of the journal as stored. -/
def State.windowWord (s : State) (off : Nat) : Word :=
  let (n, o) := s.windowAt off
  match SMap.look s.nvm.sectors n with
  | none => 0xFFFFFFFF#32
  | some x => BitVec.ofNat 32 (unLe (padTo 4 0xFF#8 (((x.header n ++ x.body).drop o).take 4)))

/-- A read through the window: the word, with an ECC correction or an uncorrectable error it meets. -/
def State.windowRead (s : State) (off : Nat) (corrected bad : Bool) : State :=
  let (n, _) := s.windowAt off
  let p := s.physOf 0 n
  let s := if corrected ∧ !bad then
      (let x := s.wearOf p
       ((s.setWear p { x with corr := x.corr + 1 }).count (Reg.NVM_CNTk 2)).raiseStage 0 2)
    else s
  let s := if bad then (s.count (Reg.NVM_CNTk 3)).raise 0x1205 0 [n4 0, n4 n] else s
  s.emit (.readData (s.windowWord off))

/-! ### Configuration banks (R406, R407) -/

/-- The CFG_FMT of the running firmware: from the header of the running slot. -/
def State.runningHeader (s : State) : Bytes := SMap.get [] s.nvm.slots (s.get Fld.NVM_UPD_STATUS_SLOT)
def headerFmt (h : Bytes) : Nat := unLe ((h.drop 28).take 2)

/-- The current bank: a valid bank of the running firmware's format, the higher GEN where both qualify. -/
def State.currentBank (s : State) : Option Nat :=
  let fmt := headerFmt s.runningHeader
  let gen := fun b => match SMap.look s.nvm.banks b with
    | some x => if x.fmt = fmt then some x.gen else none
    | none => none
  match gen 0, gen 1 with
  | some a, some b => if a < b then some 1 else some 0
  | some _, none => some 0
  | none, some _ => some 1
  | none, none => none

/-- NVM_CFG_STAT and NVM_BANKb show the banks. -/
def State.showBanks (s : State) : State :=
  let s := [0, 1].foldl (fun (s : State) b =>
    match SMap.look s.nvm.banks b with
    | some x => ((s.put (Fld.NVM_BANKb_CFG_FMT b) x.fmt).put (Fld.NVM_BANKb_GEN b) x.gen).put
        (if b = 0 then Fld.NVM_CFG_STAT_A_VALID else Fld.NVM_CFG_STAT_B_VALID) 1
    | none => s.put (if b = 0 then Fld.NVM_CFG_STAT_A_VALID else Fld.NVM_CFG_STAT_B_VALID) 0) s
  (s.put Fld.NVM_CFG_STAT_CURRENT (s.currentBank.getD 0)).put Fld.NVM_CFG_STAT_NONE (b2n s.currentBank.isNone)

/-- Is a register part of a configuration image: a register that a write stores, but for the HIF registers, the MSI-X table,
key material and the GLB registers of Table 18.5 (R406, R449)? -/
def inImage (off : Nat) : Bool :=
  match RegMap.find off with
  | some r => r.st != 0 && !(0x30000 ≤ off && off < 0x40000) && !(0x180000 ≤ off && off < 0x180100 && r.cls == .immediate) &&
      !(0x190000 ≤ off && off < 0x194000 && r.cls == .immediate) && decide (0x100 ≤ off) && !(0xC0000 ≤ off && off < 0x100000)
  | none => false

/-- Every configuration register and table at its last written value, where it differs from reset. -/
def State.configImage (s : State) : List (Nat × Word) :=
  s.regs.filterMap fun e => match RegMap.find e.1 with
    | some r => if inImage e.1 then some (e.1, e.2 &&& r.half e.1 r.st) else none
    | none => none

/-- The bank that a save goes to: the one that is not current; with none, the one with the lower GEN. -/
def State.saveTarget (s : State) : Nat :=
  match s.currentBank with
  | some b => 1 - b
  | none =>
    let g := fun b => match SMap.look s.nvm.banks b with
      | some x => x.gen
      | none => 0
    if g 1 < g 0 then 1 else 0

/-- NVM_CFG_CMD.SAVE at the end of a commit slot: the configuration is latched, or the save is refused (R407). -/
def State.saveStart (s : State) : State :=
  let b := s.saveTarget
  if s.get Fld.NVM_UPD_STATUS_STATE = 7 then s.put Fld.NVM_CFG_STAT_RESULT 2
  else if s.stage (1 + b) = 4 then s.put Fld.NVM_CFG_STAT_RESULT 3
  else if s.nvm.saving.isSome then s.put Fld.NVM_CFG_STAT_RESULT 4
  else
    let gen := (s.nvm.banks.map fun (e : Nat × Bank) => e.2.gen).foldl max 0 + 1
    let x : Bank := { fmt := headerFmt s.runningHeader, gen := gen, time := s.time.now, fw := s.w Reg.GLB_FW_VERSION,
                      body := s.configImage }
    let s := { s with nvm := { s.nvm with saving := some (b, x), banks := SMap.del s.nvm.banks b } }
    (s.put Fld.NVM_STATUS_CFG_BUSY 1).showBanks

/-- A save ends: the bank is marked valid, or the flash failed. -/
def State.saveEnd (s : State) (ok : Bool) : State :=
  match s.nvm.saving with
  | none => s
  | some (b, x) =>
    let s := ({ s with nvm := { s.nvm with saving := none } }).put Fld.NVM_STATUS_CFG_BUSY 0
    if ok then
      let s := ({ s with nvm := { s.nvm with banks := SMap.put s.nvm.banks b x } }).showBanks
      let s := ((s.put Fld.NVM_STATUS_CFG_DIRTY 0).put Fld.NVM_CFG_STAT_RESULT 1).count (Reg.NVM_CNTk 5)
      s.raise 0x1207 0 [n4 b, n4 x.gen]
    else s.put Fld.NVM_CFG_STAT_RESULT 5

/-! ### Meanings -/

/-- What a sector of an area met in a write: it was erased (and its verify failed), then programmed with some pulses (and a
word read back uncorrectable). -/
def State.wearBy (s : State) (area : Nat) (w : SectorWear) : State :=
  let s := if w.erased then s.erased area w.sector w.eraseFail else s
  if w.pulses = 0 then s else s.programmed area w.sector w.pulses w.bad

/-- JOURNAL_ENTRY_PROGRAM. -/
def execJournalEntryProgram (pulses : Nat) (bad : Bool) (t : Tai) (s : State) : Host.Outcome State Fault Refusal :=
  unlessHeld s <|
  let s := s.at t
  runIf (Instr.journalEntryProgram pulses bad t).wf "JOURNAL_ENTRY_PROGRAM"
    (if s.domain 21 = 2 ∧ (s.glb.phase = .running ∨ s.glb.phase = .pause) then s.programEntry pulses bad else s)

/-- JOURNAL_SECTOR_ERASE. -/
def execJournalSectorErase (fail : Bool) (t : Tai) (s : State) : Host.Outcome State Fault Refusal :=
  unlessHeld s <|
  let s := s.at t
  runIf (Instr.journalSectorErase fail t).wf "JOURNAL_SECTOR_ERASE" (if s.domain 21 = 2 then s.eraseAhead fail else s)

/-- SNAPSHOT_ROUND: in the writeback slot of a beat in which a round is due. -/
def execSnapshotRound (t : Tai) (s : State) : Host.Outcome State Fault Refusal :=
  unlessHeld s <|
  let s := s.at t
  runIf (Instr.snapshotRound t).wf "SNAPSHOT_ROUND"
    (if s.snapshotDue = true ∧ s.get Fld.BEAT_STATUS_SLOT_CUR = 4 then s.snapshotRound else s)

/-- NVM_CFG_SAVED: the save's last word is programmed, or the flash failed; `wear`: what its bank's sectors met. -/
def execNvmCfgSaved (ok : Bool) (wear : List SectorWear) (t : Tai) (s : State) : Host.Outcome State Fault Refusal :=
  unlessHeld s <|
  let s := s.at t
  runIf (Instr.nvmCfgSaved ok wear t).wf "NVM_CFG_SAVED"
    (match s.nvm.saving with
     | some (b, _) => (wear.foldl (fun (s : State) w => s.wearBy (1 + b) w) s).saveEnd ok
     | none => s)

/-- KEY_BACKING_ERASE_DONE: the erase proceeds while PD21 is ON, but not during the journal commit of a brace (R405). -/
def execKeyBackingEraseDone (wear : List SectorWear) (t : Tai) (s : State) : Host.Outcome State Fault Refusal :=
  unlessHeld s <|
  let s := s.at t
  runIf (Instr.keyBackingEraseDone wear t).wf "KEY_BACKING_ERASE_DONE"
    (if s.ciph.erasing = true ∧ s.domain 21 = 2 ∧ s.get Fld.PWR_STATUS_BRACE ≠ 2 then
       (let s := { s with ciph := { s.ciph with erasing := false } }
        wear.foldl (fun (s : State) w => s.wearBy 3 w) s)
     else s)

end Sys2Proof.Machine
end

