-- ==== Sys2Proof/Machine/Boot.lean ====
section
/-! DEFINITION. Starts and resets: image checks and selection, what each reset clears, the present state of every unit, and
the start of the firmware (chapter "Start-Up and Reset", R440-R455; image checks of R411). -/

namespace Sys2Proof.Machine

/-! ### The units of the registry (Table 17.1) -/

/-- The registry's units. -/
def registryUnits : List Nat :=
  (List.range 80).map (unitOf 1) ++ (List.range 24).map (unitOf 2) ++ (List.range 64).map (unitOf 3) ++
    (List.range 64).map (unitOf 4) ++ [unitOf 5 0, unitOf 5 1, unitOf 6 0]

/-- The present state of a unit in the block that owns it. -/
def State.presentState (s : State) (unit : Nat) : Nat :=
  let i := unit % 4096
  match unit / 4096 with
  | 1 =>
    if i < 48 then s.canState i
    else if i < 61 then s.ethState i
    else if i < 77 then s.get (Fld.SER_Cc_STATUS_STATE (i - 61))
    else if i = 77 then (if s.on Fld.NEST_CTRL_EN then 2 else 0)
    else if i = 78 then 2 * s.get Fld.HIF_STATUS_RUNNING
    else 2 * s.get Fld.MGT_STATUS_FW_RUNNING
  | 2 => s.domain i
  | 3 => s.txState i
  | 4 => s.rxState i
  | 5 => s.get (if i = 0 then Fld.NEST_STATUS_SET0 else Fld.NEST_STATUS_SET1)
  | _ => s.role

/-- Blocks report the states that a restart has left them in. -/
def State.syncWords (s : State) : State :=
  registryUnits.foldl (fun (s : State) u =>
    if (s.word u).code = s.presentState u then s else s.message u (s.presentState u)) s

/-! ### Images (R411, Tables 16.8 and 16.9) -/

/-- A field of an image header. -/
def hdrField (h : Bytes) (o n : Nat) : Nat := unLe ((h.drop o).take n)

/-- The first header check that fails, as RESULT; 0 when all pass. `len`: NVM_UPD_LEN where the image was written by it. -/
def headerResult (h : Bytes) (len : Option Nat) (minSvn : Nat) : Nat :=
  let f := hdrField h
  let long : Bool := decide (16776960 < f 8 4) || (match len with
    | some n => f 8 4 + 256 != n
    | none => false)
  if h.length ≠ 256 ∨ f 0 4 ≠ 0x4E485256 ∨ f 4 2 ≠ 1 ∨ f 6 2 ≠ 256 ∨ 2 ≤ f 15 1 ∨ f 34 2 ≠ 0 ∨ f 37 3 ≠ 0 ∨ f 56 56 ≠ 0 then 4
  else if f 12 2 ≠ 0x4830 ∨ f 14 1 ≠ 0xB0 then 5
  else if long then 9
  else if f 24 4 < minSvn then 6
  else 0

/-- A slot's check: of its header, then of its signature and digest (7 or 8 in `bad`). -/
def State.slotResult (s : State) (bad : List (Nat × Nat)) (slot : Nat) : Nat :=
  match SMap.look s.nvm.slots slot with
  | none => 4
  | some h =>
    let r := headerResult h none s.nvm.minSvn
    if r ≠ 0 then r else SMap.get 0 bad slot

/-- A slot's registers show its header and the outcome of its check. -/
def State.showSlot (s : State) (slot result : Nat) : State :=
  let h := SMap.get [] s.nvm.slots slot
  let s := s.setReg (Reg.NVM_SLOTs_VER slot) (BitVec.ofNat 32 (hdrField h 16 4))
  let s := s.setReg (Reg.NVM_SLOTs_SVN slot) (BitVec.ofNat 32 (hdrField h 24 4))
  let s := (s.put (Fld.NVM_SLOTs_FMT_CFG_FMT slot) (hdrField h 28 2)).put (Fld.NVM_SLOTs_FMT_SHADOW_FMT slot) (hdrField h 32 2)
  (s.put (Fld.NVM_SLOTs_STAT_VALID slot) (b2n (result == 0))).put (Fld.NVM_SLOTs_STAT_REASON slot) result

/-! ### Boot pointer (R409, R446) -/

/-- The pointer copy in force, and its number. -/
def State.bootCopy (s : State) : Option (Nat × BootPtr) :=
  s.nvm.ptrs.foldl (fun (b : Option (Nat × BootPtr)) (e : Nat × BootPtr) =>
    match b with
    | none => some e
    | some x => if x.2.gen < e.2.gen then some e else some x) none

/-- What the pointer says: with no valid copy, slot 0 is ACTIVE with TRIAL 0. -/
def State.bootPtr (s : State) : BootPtr :=
  match s.bootCopy with
  | some e => e.2
  | none => { gen := 0, active := 0, trial := false, boots := 0 }

/-- The pointer is rewritten, in the copy that is not in force. -/
def State.setBootPtr (s : State) (active : Nat) (trial : Bool) (boots : Nat) : State :=
  let copy := match s.bootCopy with
    | some e => 1 - e.1
    | none => 0
  { s with nvm := { s.nvm with
      ptrs := SMap.put s.nvm.ptrs copy { gen := s.bootPtr.gen + 1, active := active, trial := trial, boots := boots } } }

/-! ### The update state (R412) -/

/-- A transition of the update sequence that concerns the image of a slot: shown, journaled and reported. -/
def State.updMoveOf (s : State) (slot new result : Nat) : State :=
  let old := s.get Fld.NVM_UPD_STATUS_STATE
  let s := (s.put Fld.NVM_UPD_STATUS_STATE new).put Fld.NVM_UPD_STATUS_RESULT result
  let version := hdrField (SMap.get [] s.nvm.slots slot) 16 4
  let s := s.log 8 (le 1 old ++ le 1 new ++ le 1 result ++ le 1 slot ++ le 4 version)
  s.raise 0x1208 0 [n4 old, n4 new, n4 result]

/-- A transition that concerns the image written or activated. -/
def State.updMove (s : State) (new result : Nat) : State := s.updMoveOf s.nvm.target new result

/-- NVM_UPD_STATUS shows the running slot and the pointer. -/
def State.showPointer (s : State) (slot : Nat) : State :=
  let p := s.bootPtr
  ((s.put Fld.NVM_UPD_STATUS_SLOT slot).put Fld.NVM_UPD_STATUS_TRIAL (b2n p.trial)).put Fld.NVM_UPD_STATUS_TRIAL_BOOTS (satNat 8 p.boots)

/-- The NVM registers restored from the map, the banks and the flash (R445). -/
def State.showNvm (s : State) : State :=
  let s := ((s.showHealth).showBanks).showJournal
  let s := s.setReg Reg.NVM_MIN_SVN (BitVec.ofNat 32 s.nvm.minSvn)
  s.setReg Reg.NVM_FLASH_ID (BitVec.ofNat 32 Config.flashId.toNat)

/-! ### The boot ROM (R445-R447) -/

/-- The boot ROM takes the cipher lock where no beat has run yet (R35, Table 11.1), and releases it (R445). -/
def State.bootTakes (s : State) : State := if s.beat.started then s else s.put Fld.CIPH_LOCK_OWNER 7
def State.bootReleases (s : State) : State :=
  if s.get Fld.CIPH_LOCK_OWNER = 7 then s.put Fld.CIPH_LOCK_OWNER 0 else s

/-- Recovery mode: WRITE goes to a slot, and no firmware runs. -/
def State.enterRecovery (s : State) (target result : Nat) : State :=
  let s := s.bootReleases
  let s := { s with glb := { s.glb with phase := .recovery, cause := 8 }, nvm := { s.nvm with target := target } }
  let s := (s.put Fld.GLB_BOOT_STATUS_RECOVERY 1).put Fld.GLB_BOOT_STATUS_RESULT result
  (s.put Fld.GLB_RESET_CAUSE_CAUSE 8).put Fld.GLB_RESET_CAUSE_STARTS (min 65535 (s.get Fld.GLB_RESET_CAUSE_STARTS + 1))

/-- The boot ROM selects and verifies an image; `bad`: slots whose signature or digest fails, with RESULT. -/
def State.bootSelect (s : State) (bad : List (Nat × Nat)) : State :=
  let p := s.bootPtr
  let s := s.showNvm.bootTakes
  let s := s.put Fld.GLB_BOOT_STATUS_RECOVERY 0
  if s.glb.recStrap then State.enterRecovery { s with glb := { s.glb with bootNote := none } } (1 - p.active) 0
  else
    let spent := p.trial && decide (3 ≤ p.boots)
    let slot := if spent then 1 - p.active else p.active
    let trial := p.trial && !spent
    let s := if spent then s.setBootPtr slot false 0 else if trial then s.setBootPtr slot true (p.boots + 1) else s
    let r1 := s.slotResult bad slot
    let s := s.showSlot slot r1
    let note := if spent then some 3 else none
    if r1 = 0 then
      { s with glb := { s.glb with phase := .boot, bootSlot := slot, bootAlt := false, bootResult := 0, bootNote := note } }
    else
      let other := 1 - slot
      let r2 := s.slotResult bad other
      let s := s.showSlot other r2
      let s := if trial then s.setBootPtr (if r2 = 0 then other else slot) false 0 else s
      let note := if trial then some 2 else note
      if r2 = 0 then
        { s with glb := { s.glb with phase := .boot, bootSlot := other, bootAlt := true, bootResult := r1, bootNote := note } }
      else State.enterRecovery { s with glb := { s.glb with bootNote := note } } 0 r2

/-- The firmware of a slot starts with a cause: recorded in the registers, the BOOT entry and GLB_STARTED (R455). -/
def State.firmwareStarts (s : State) (cause slot : Nat) : State :=
  let h := SMap.get [] s.nvm.slots slot
  let version := hdrField h 16 4
  let build := hdrField h 20 4
  let s := (s.setReg Reg.GLB_FW_VERSION (BitVec.ofNat 32 version)).setReg Reg.GLB_FW_BUILD (BitVec.ofNat 32 build)
  let s := (s.put Fld.GLB_RESET_CAUSE_CAUSE cause).put Fld.GLB_RESET_CAUSE_STARTS (min 65535 (s.get Fld.GLB_RESET_CAUSE_STARTS + 1))
  let s := ((s.put Fld.GLB_BOOT_STATUS_SLOT slot).showPointer slot).setFirmware true
  let s := s.log 7 (le 1 slot ++ le 1 cause ++ le 2 0 ++ le 4 version ++ le 4 build ++ le 4 s.bootPtr.boots)
  s.raise 0x0120 0 [n4 cause, n4 slot, n4 version]

/-- The hand-over of the boot ROM (R445, R448). -/
def State.bootHandover (s : State) : State :=
  let slot := s.glb.bootSlot
  let s := s.vaultRestore.bootReleases
  let s := { s with glb := { s.glb with phase := .running } }
  let s := (s.put Fld.GLB_BOOT_STATUS_ALT_SLOT (b2n s.glb.bootAlt)).put Fld.GLB_BOOT_STATUS_RESULT s.glb.bootResult
  let s := s.showPointer slot
  let bank := s.currentBank.isSome && s.glb.cause != 8
  let s := ({ s with glb := { s.glb with bankStaged := bank } }).put Fld.GLB_BOOT_STATUS_BANK (b2n bank)
  let s := s.showBanks
  let s := s.firmwareStarts s.glb.cause slot
  let s := match s.glb.bootNote with
    | some c => (s.count (Reg.NVM_CNTk 7)).raise 0x1209 0 [n4 c]
    | none => s
  let s := if s.bootPtr.trial then
      ({ s with nvm := { s.nvm with trialFrom := s.time.now, target := 1 - slot } }).put Fld.NVM_UPD_STATUS_STATE 7
    else { s with nvm := { s.nvm with target := 1 - slot } }
  if s.beat.started then s else { s with beat := { s.beat with next := s.boundaryFrom (s.time.now + 1) } }

/-! ### Resets (Table 18.4) -/

/-- What the straps set. -/
def State.showStraps (s : State) : State :=
  let u := b2n s.glb.unitStrap
  let s := (s.put Fld.GLB_STRAPS_UNIT_ID u).put Fld.GLB_STRAPS_RECOVERY (b2n s.glb.recStrap)
  (s.put Fld.HAL_STATUS_STRAP u).putBoth Fld.ETH_SMB_CFG_ADDR (0x68 + u)

/-- Power-on reset: everything returns to its reset state but the contents of the NVM and the flash. -/
def State.powerOn (s : State) (porst : Bool) : State :=
  let r := State.reset
  { r with
    pending := s.pending, free := s.free,
    glb := { r.glb with cause := if porst then 2 else 1 },
    ciph := { r.ciph with backing := s.ciph.backing, backingUsed := s.ciph.backingUsed, erasing := s.ciph.erasing },
    pin := { r.pin with net := s.pin.net },
    nvm := { r.nvm with sectors := s.nvm.sectors, cur := s.nvm.cur, jseq := s.nvm.jseq, sseq := s.nvm.sseq, wear := s.nvm.wear,
                        moved := s.nvm.moved, drawn := s.nvm.drawn, drawnJ := s.nvm.drawnJ, stages := s.nvm.stages,
                        rated := s.nvm.rated, banks := s.nvm.banks, ptrs := s.nvm.ptrs, slots := s.nvm.slots,
                        minSvn := s.nvm.minSvn } }

/-- The rails that the release of power-on reset does not wait for: the domains of one that is not valid stay in WAKING
(R443). -/
def State.startRails (s : State) (vcan vsds : Bool) : State :=
  let late := (if vcan then [] else [7, 8, 9, 10]) ++ (if vsds then [] else [14, 15])
  let s := { s with pwr := { s.pwr with vcan := vcan, vsds := vsds } }
  late.foldl (fun (s : State) d =>
    let s := (s.setDomain d 1 0).contentLost d
    s.setDom d { s.dom d with wakeAt := s.time.now, since := s.time.now }) s

/-- Power-on reset is released: straps latched, the time unit at its start, the boot ROM starts. -/
def State.powerOnRelease (s : State) (unitId recovery main bkup vcan vsds : Bool) (bad : List (Nat × Nat)) : State :=
  let s := ({ s with glb := { s.glb with unitStrap := unitId, recStrap := recovery } }).showStraps
  let s := (s.put Fld.PWR_STATUS_MAIN_OK (b2n main)).put Fld.PWR_STATUS_BKUP_OK (b2n bkup)
  let s := { s with pwr := { s.pwr with good := if main then some s.time.now else none, fell := s.time.now } }
  let s := s.startRails vcan vsds
  (s.put Fld.BEAT_STATUS_SLOT_CUR 7).bootSelect bad

/-- Registers that keep their values through a warm reset: those of the blocks in PD00 and PD01, the counters, the route
epoch, the alarm register and the management view; the HIF registers follow R104. -/
def warmKeeps (off : Nat) : Bool :=
  decide (off < 0x40000) || (decide (0x140000 ≤ off) && decide (off < 0x150000)) ||
  (decide (0x1C0000 ≤ off) && decide (off < 0x1E0000)) || (decide (0x200000 ≤ off) && decide (off < 0x210000)) ||
  decide (0x211000 ≤ off) || off == Reg.FAB_ROUTE_EPOCH || off == Reg.CIPH_ALARM ||
  (match RegMap.find off with
   | some r => r.ctr
   | none => false)

/-- Command fields of the blocks that keep their registers. -/
def RegCmd.warmKeeps (c : RegCmd) : Bool :=
  match c with
  | .reefCommit => true
  | .step _ => true
  | .handover => true
  | .unfence => true
  | .glbLock => true
  | .reefWake _ => true
  | .pwrWake _ => true
  | _ => false

/-- The content that restarted domains lose (Table 14.4), the fabric's first; a serial frame in assembly is lost with its
channel. -/
def State.contentsLost (s : State) (ds : List Nat) : State :=
  let before := s
  let s := if ds.contains 13 then { s with ser := [] } else s
  before.keepPads (ds.foldl (fun (s : State) d => s.contentLost d) (s.contentLost 4))

/-- The domains of a warm reset other than PD17. -/
def warmDomains : List Nat := [2, 3, 7, 8, 9, 10, 12, 13, 14, 15, 16, 18, 19, 20, 21, 22, 23]

/-- HIF counters outlive a warm reset. -/
def State.hifWarm (s : State) : State :=
  let kept := s.regs.filter fun e => decide (0x30000 ≤ e.1 ∧ e.1 < 0x38000) && warmKeeps e.1 &&
    (match RegMap.find e.1 with
     | some r => r.ctr
     | none => false)
  kept.foldl (fun (s : State) e => s.setReg e.1 e.2) s.hifReset

/-- A warm reset (R451, R452). -/
def State.warmReset (s : State) (cause : Nat) (bad : List (Nat × Nat)) : State :=
  let s := (s.contentsLost warmDomains).hifWarm
  let latched := s.get Fld.CIPH_STATUS_ALARM_LATCHED
  let pendingOff := (List.range 48).filter fun n => s.get (Fld.CANP_STATUS_BOFF_PENDING n) == 1
  let swapped := (List.range 48).filter fun n => s.get (Fld.SHR_CANn_STAT_SWAPPED n) == 1
  let r := State.reset
  let s := { s with
    regs := s.regs.filter fun e => warmKeeps e.1,
    live := s.live.filter fun e => warmKeeps e.1,
    paced := s.paced.filter fun o => warmKeeps o,
    cmds := s.cmds.filter fun c => c.warmKeeps,
    fab := { r.fab with nextFid := s.fab.nextFid },
    can := r.can, ser := r.ser, eth := r.eth, nest := r.nest, shr := r.shr,
    nvm := { s.nvm with buffer := [], used := 0, lost := 0, saving := none, clean := false, fallback := none },
    glb := { s.glb with cause := cause, bankStaged := false, warmDue := none } }
  let s := (s.put Fld.CIPH_STATUS_ALARM_LATCHED latched).put Fld.CIPH_STATUS_CLEAR_LOAD_OPEN (b2n !s.glb.locked)
  let s := pendingOff.foldl (fun (s : State) n => s.put (Fld.CANP_STATUS_BOFF_PENDING n) 1) s
  let s := swapped.foldl (fun (s : State) n => s.put (Fld.SHR_CANn_STAT_SWAPPED n) 1) s
  let s := ((s.showStraps).setFirmware false).syncWords
  s.bootSelect bad

/-- A warm reset is asked for: while the brace state is not MAIN, it waits (R452). -/
def State.warmRequest (s : State) (cause : Nat) (bad : List (Nat × Nat)) : State :=
  if s.glb.phase = .powerOnReset then s
  else if s.get Fld.PWR_STATUS_BRACE ≠ 0 then { s with glb := { s.glb with warmDue := some cause } }
  else s.warmReset cause bad

/-- An image transfer in progress fails. -/
def State.transferFails (s : State) : State := if s.get Fld.NVM_UPD_STATUS_STATE = 1 then s.updMove 0 2 else s

/-- PERST: the host interface is reset, and an image transfer in progress fails (R451). -/
def State.perst (s : State) : State := s.hifReset.transferFails

/-! ### Meanings -/

/-- POWER_ON_RESET: a condition of R442 ends; `porst`: PORST_N is the one. -/
def execPowerOnReset (porst : Bool) (s : State) : Host.Outcome State Fault Refusal :=
  keepQueue s <|
  runIf (Instr.powerOnReset porst).wf "POWER_ON_RESET" (s.powerOn porst)

/-- POWER_ON_RESET_RELEASE: the straps, the sense inputs, the rails that it does not wait for, and slots whose signature or
digest fails. -/
def execPowerOnResetRelease (unitId recovery main bkup vcan vsds : Bool) (bad : List (Nat × Nat)) (s : State) :
    Host.Outcome State Fault Refusal :=
  keepQueue s <|
  let s := s.begin
  runIf (Instr.powerOnResetRelease unitId recovery main bkup vcan vsds bad).wf "POWER_ON_RESET_RELEASE"
    (if s.glb.phase = .powerOnReset then s.powerOnRelease unitId recovery main bkup vcan vsds bad else s)

/-- BOOT_HANDOVER. -/
def execBootHandover (t : Tai) (s : State) : Host.Outcome State Fault Refusal :=
  unlessHeld s <|
  let s := s.at t
  runIf (Instr.bootHandover t).wf "BOOT_HANDOVER" (if s.glb.phase = .boot then s.bootHandover else s)

/-- WARM_RESET: WARM_N low for 10 µs. -/
def execWarmReset (bad : List (Nat × Nat)) (t : Tai) (s : State) : Host.Outcome State Fault Refusal :=
  unlessHeld s <|
  runIf (Instr.warmReset bad t).wf "WARM_RESET" ((s.at t).warmRequest 3 bad)

/-- PERST_RESET. -/
def execPerstReset (t : Tai) (s : State) : Host.Outcome State Fault Refusal :=
  unlessHeld s <|
  let s := s.at t
  runIf (Instr.perstReset t).wf "PERST_RESET" (if s.glb.phase = .powerOnReset then s else s.perst)

end Sys2Proof.Machine
end

