-- ==== Sys2Proof/Machine/Brace.lean ====
section
/-! DEFINITION. The brace: main failure, the journal commit, the path switch, backup and restore (chapter "Power Domains and
Hold-Up", R369-R375). -/

namespace Sys2Proof.Machine

/-- The brace state (Table 14.5): 0 MAIN, 1 SHED, 2 COMMIT, 3 SWITCH, 4 BACKUP, 5 RESTORE. -/
def State.brace (s : State) : Nat := s.get Fld.PWR_STATUS_BRACE

/-- A brace state is entered. -/
def State.setBrace (s : State) (st : Nat) : State :=
  { s.put Fld.PWR_STATUS_BRACE st with pwr := { s.pwr with entered := s.time.now } }

/-- The domains in the order of R372: first those that wake only through RESTORE, then by policy. -/
def State.restoreOrder (s : State) : List Nat :=
  let others := [7, 8, 9, 10, 12, 13, 14, 15, 16, 18, 19, 20, 22, 23]
  let wanted := others.filter fun d =>
    s.policy d == 0 || (s.policy d == 1 && s.cur (Fld.PWR_Dd_CFG_ON d) == 1)
  [21, 5, 6, 4, 3, 2, 17] ++ wanted ++ others.filter fun d => s.policy d == 2

/-- RESTORE is entered: the domains to be restored begin to power, from BACKUP after 1 ms. -/
def State.enterRestore (s : State) (backup : Option Nat) : State :=
  let s := s.setBrace 5
  let s := { s with pwr := { s.pwr with inBackup := backup } }
  let wait := if backup.isSome then 1000000 else 0
  s.restoreOrder.foldl (fun (s : State) d =>
    if s.domain d = 0 then
      (s.setDomain d 1 6).setDom d { s.dom d with wake := none, wakeAt := s.time.now, since := s.time.now + wait }
    else s) s

/-- Main has failed in MAIN or RESTORE: every domain but PD00, PD01, PD11 and PD21 goes OFF without drain (R370). An image
transfer in progress fails with its link. -/
def State.mainFail (s : State) : State :=
  let old := s.brace
  if old = 0 ∨ old = 5 then
    let s := (s.setBrace 1).count (Reg.PWR_CNTk 0)
    let s := { s.setReg64 Reg.PWR_LAST_FAIL s.time.now with pwr := { s.pwr with shedAt := s.time.now } }
    let s := s.raise 0x1004 0 [n4 old]
    let s := ((List.range 24).filter fun d => !([0, 1, 11, 21].contains d)).foldl (fun (s : State) d => s.domainShed d) s
    s.transferFails
  else s

/-- Does main that has been good for 5 ms abort the brace before the shed window ends? -/
def State.aborts (s : State) (t : Tai) : Bool :=
  match s.pwr.good with
  | some g => decide (g + 5000000 ≤ t ∧ max g s.pwr.entered + 5000000 < s.pwr.entered + 1000000 * s.cur Fld.PWR_BRACE_CFG_SHED_MS)
  | none => false

/-! ### Meanings -/

/-- PWR_MAIN_FAIL: MAIN_SENSE has stayed below its threshold for MAIN_FILT_US. -/
def execPwrMainFail (t : Tai) (s : State) : Host.Outcome State Fault Refusal :=
  unlessHeld s <|
  let s := s.at t
  runIf (Instr.pwrMainFail t).wf "PWR_MAIN_FAIL"
    (if s.glb.phase ≠ .powerOnReset ∧ s.pwr.good = none ∧
        s.pwr.fell + 1000 * s.cur Fld.PWR_BRACE_CFG_MAIN_FILT_US ≤ t then s.mainFail
     else s)

/-- MAIN_GOOD: stability is counted from here. -/
def execMainGood (t : Tai) (s : State) : Host.Outcome State Fault Refusal :=
  unlessHeld s <|
  let s := s.at t
  runIf (Instr.mainGood t).wf "MAIN_GOOD"
    (if s.pwr.good.isSome ∨ s.glb.phase = .powerOnReset then s
     else { s.put Fld.PWR_STATUS_MAIN_OK 1 with pwr := { s.pwr with good := some s.time.now } })

/-- MAIN_NOT_GOOD: a return that ended no brace state counts in FLAPS. -/
def execMainNotGood (t : Tai) (s : State) : Host.Outcome State Fault Refusal :=
  unlessHeld s <|
  let s := s.at t
  let flap := decide (1 ≤ s.brace ∧ s.brace ≤ 4)
  runIf (Instr.mainNotGood t).wf "MAIN_NOT_GOOD"
    (if s.pwr.good.isNone ∨ s.glb.phase = .powerOnReset then s
     else
       (let s := { s.put Fld.PWR_STATUS_MAIN_OK 0 with pwr := { s.pwr with good := none, fell := s.time.now } }
        if flap then s.count (Reg.PWR_CNTk 2) else s))

/-- SHED_WINDOW_END: the commit point. -/
def execShedWindowEnd (t : Tai) (s : State) : Host.Outcome State Fault Refusal :=
  unlessHeld s <|
  let s := s.at t
  runIf (Instr.shedWindowEnd t).wf "SHED_WINDOW_END"
    (if s.brace = 1 ∧ s.pwr.entered + 1000000 * s.cur Fld.PWR_BRACE_CFG_SHED_MS ≤ t ∧ s.aborts t = false then s.setBrace 2
     else s)

/-- PWR_BRACE_ABORTED: main stable for 5 ms, ending before the shed window ends. -/
def execPwrBraceAborted (t : Tai) (s : State) : Host.Outcome State Fault Refusal :=
  unlessHeld s <|
  let s := s.at t
  runIf (Instr.pwrBraceAborted t).wf "PWR_BRACE_ABORTED"
    (if s.brace = 1 ∧ s.aborts t = true then
       (let shed := s.time.now - s.pwr.shedAt
        ((s.enterRestore none).count (Reg.PWR_CNTk 1)).raise 0x1005 0 [n8 shed])
     else s)

/-- PWR_BRACE_COMMIT: the journal commit ends, with the pulses and failures that its programs met; PATH_BKUP rises. -/
def execPwrBraceCommit (progs : List (Nat × Bool)) (t : Tai) (s : State) : Host.Outcome State Fault Refusal :=
  unlessHeld s <|
  let s := s.at t
  runIf (Instr.pwrBraceCommit progs t).wf "PWR_BRACE_COMMIT"
    (if s.brace = 2 then
       (let bytes := s.nvm.used
        let took := s.time.now - s.pwr.entered
        let s := s.commitJournal progs
        let s := (s.setBrace 3).put Fld.PWR_STATUS_PATH_BKUP 1
        s.raise 0x1006 0 [n4 (bytes - s.nvm.used), n8 took])
     else s)

/-- PWR_ON_BACKUP: 1 ms after PATH_BKUP rose, PD21 goes OFF. Where the backup source is absent, the part has lost power
instead, and starts again with a power-on reset (R374). -/
def execPwrOnBackup (t : Tai) (s : State) : Host.Outcome State Fault Refusal :=
  unlessHeld s <|
  let s := s.at t
  runIf (Instr.pwrOnBackup t).wf "PWR_ON_BACKUP"
    (if s.brace = 3 ∧ s.pwr.entered + 1000000 ≤ t then
       if s.get Fld.PWR_STATUS_BKUP_OK = 0 then s.powerOn false
       else
       (let s := ((s.setBrace 4).domainShed 21).count (Reg.PWR_CNTk 3)
        s.raise 0x1007 0 [n8 (s.reg64 (Reg.PWR_CNTk 2))])
     else s)

/-- BACKUP_RETURN: main stable for 50 ms, and at least 20 ms in BACKUP. -/
def execBackupReturn (t : Tai) (s : State) : Host.Outcome State Fault Refusal :=
  unlessHeld s <|
  let s := s.at t
  let stable := match s.pwr.good with
    | some g => decide (g + 50000000 ≤ t)
    | none => false
  runIf (Instr.backupReturn t).wf "BACKUP_RETURN"
    (if s.brace = 4 ∧ stable = true ∧ s.pwr.entered + 20000000 ≤ t then
       (s.put Fld.PWR_STATUS_PATH_BKUP 0).enterRestore (some (s.time.now - s.pwr.entered))
     else s)

/-- A pause that a brace interrupted starts its image again: in TRIAL that counts as a trial boot (R419). -/
def State.pauseRestarts (s : State) : State :=
  let p := s.bootPtr
  if s.glb.phase = .pause ∧ p.trial = true then s.setBootPtr p.active true (p.boots + 1) else s

/-- RESTORE goes on: domains whose latency has elapsed on a valid rail are ON, in order; when none is left the brace is
over, the unit's shadow stream is broken (R375), and a warm reset that waited for MAIN takes place (R372, R452). -/
def State.restoreEnd (s : State) (bad : List (Nat × Nat)) (t : Tai) : State :=
  let s := s.restoreOrder.foldl (fun (s : State) d =>
    if s.domain d = 1 ∧ (s.dom d).since + wakeLatency d ≤ t ∧ s.railOk d = true then s.domainOn d else s) s
  if s.restoreOrder.any fun d => s.domain d == 1 then s
  else
    let took := s.time.now - s.pwr.entered
    let s := (s.setBrace 0).count (Reg.PWR_CNTk 4)
    let s := match s.pwr.inBackup with
      | some b => s.raise 0x1008 0 [n8 b, n8 took]
      | none => s
    let s := (s.shadowBreak 0).pauseRestarts
    match s.glb.warmDue with
    | some c => (if c = 4 then s.commitJournal [] else s).warmReset c bad
    | none => s

/-- PWR_ON_MAIN. -/
def execPwrOnMain (bad : List (Nat × Nat)) (t : Tai) (s : State) : Host.Outcome State Fault Refusal :=
  unlessHeld s <|
  let s := s.at t
  runIf (Instr.pwrOnMain bad t).wf "PWR_ON_MAIN" (if s.brace = 5 then s.restoreEnd bad t else s)

end Sys2Proof.Machine
end

