-- ==== Sys2Proof/Machine/RegFile.lean ====
section
/-! DEFINITION. The checks of the register file: the access fault log (R491) and the ranges of the written fields (R480), each
with the CFG_ERR bit and the event of its block. -/

namespace Sys2Proof.Machine

/-! ### The access fault log (Tables 20.4 and 20.5) -/

/-- Reasons of an access fault (Table 20.5). -/
def afNarrow : Nat := 1
def afUnmapped : Nat := 2
def afReadOnly : Nat := 3
def afLocked : Nat := 4
def afPause : Nat := 5
def afRecovery : Nat := 6

/-- INFO of an entry. -/
def accessInfo (a : Access) (reason : Nat) : Nat :=
  a.be + 2 ^ 4 * (if a.len = 1 then 0 else a.last) + 2 ^ 8 * a.path + 2 ^ 12 * reason + 2 ^ 16 * min a.len 255

/-- A discarded write is logged and counted, and told once in a TAI second. -/
def State.accessFault (s : State) (a : Access) (off reason : Nat) : State :=
  let info := accessInfo a reason
  let i := bits (s.w Reg.GLB_AF_NEXT) 2 0
  let wrapped := s.w Reg.GLB_AF_NEXT / 8 % 2
  let s := (s.count Reg.GLB_AF_CNT).setReg (Reg.GLB_AFi_ADDR i) (BitVec.ofNat 32 off)
  let s := (s.setReg (Reg.GLB_AFi_INFO i) (BitVec.ofNat 32 info)).setReg64 (Reg.GLB_AFi_TIME i) s.time.now
  let s := s.setReg Reg.GLB_AF_NEXT (BitVec.ofNat 32 ((i + 1) % 8 + 8 * (if i = 7 then 1 else wrapped)))
  s.raiseOnce (0x0101 * 65536) 0x0101 0 [n4 off, n4 info]

/-- GLB_AF_CTRL.CLEAR. -/
def State.accessLogClear (s : State) : State :=
  let s := (List.range 8).foldl (fun (s : State) i =>
    ((s.setReg (Reg.GLB_AFi_ADDR i) 0#32).setReg (Reg.GLB_AFi_INFO i) 0#32).setReg64 (Reg.GLB_AFi_TIME i) 0) s
  s.setReg Reg.GLB_AF_NEXT 0#32

/-! ### Rejections -/

/-- The CFG_ERR register, the CFG_REJECTED event and the UNIT of the block that a register lies in. -/
def cfgEvent (off : Nat) : Nat × Nat × Nat :=
  if off < 0x20000 then (Reg.BEAT_CFG_ERR, 0x0204, 0)
  else if off < 0x30000 then (Reg.TIME_CFG_ERR, 0x0307, 0)
  else if off < 0x40000 then (Reg.HIF_CFG_ERR, 0x0404, 0)
  else if off < 0x100000 then (Reg.FAB_CFG_ERR, 0x0509, 0)
  else if off < 0x140000 then
    let n := (off - 0x100000) / 0x1000
    (Reg.CANP_CFG_ERR n, 0x0707, unitOf 1 n)
  else if off < 0x150000 then (Reg.REEF_CFG_ERR, 0x0806, 0)
  else if off < 0x160000 then
    (Reg.ETH_CFG_ERR, 0x0903, if off < 0x151400 then unitOf 1 (56 + (off - 0x150000) / 0x400) else 0)
  else if off < 0x170000 then (Reg.T1S_CFG_ERR, 0x0A04, unitOf 1 (48 + (off - 0x160000) / 0x100))
  else if off < 0x180000 then (Reg.SER_CFG_ERR, 0x0B02, unitOf 1 (61 + (off - 0x170000) / 0x100))
  else if off < 0x190000 then (Reg.CIPH_CFG_ERR, 0x0C07, 0)
  else if off < 0x1A0000 then (Reg.LSEC_CFG_ERR, 0x0D04, unitOf 1 (56 + (off - 0x190000) / 0x1000))
  else if off < 0x1C0000 then (Reg.NEST_CFG_ERR, 0x0E06, 0)
  else if off < 0x1D0000 then (Reg.HAL_CFG_ERR, 0x0F0B, unitPartner)
  else if off < 0x1E0000 then (Reg.PWR_CFG_ERR, 0x1009, 0)
  else if off < 0x1F0000 then (Reg.SHR_CFG_ERR, 0x1103, 0)
  else if off < 0x200000 then (Reg.NVM_CFG_ERR, 0x120A, 0)
  else if off < 0x210000 then (Reg.PIN_CFG_ERR, 0x1301, 0)
  else (Reg.MGT_CFG_ERR, 0x1404, 0)

/-- A block rejects a value written at an offset: `err`: the bits of its CFG_ERR register. -/
def State.rejectAt (s : State) (off err : Nat) : State :=
  let (reg, code, unit) := cfgEvent off
  let s := s.orReg reg err
  let s := if code = 0x0404 then { s with hif := { s.hif with errVec := true } } else s
  s.raise code unit (if code = 0x1301 then [n4 ((off - 0x200000) / 8), n4 (s.w reg)] else [n4 (s.w reg)])

/-! ### Ranges (R480) -/

/-- The range of one field: the values allowed, the CFG_ERR bits it sets, and whether a value outside discards the whole
register. -/
structure FieldRange where
  base  : Nat
  dims  : List (Nat × Nat) := []
  hi    : Nat
  lo    : Nat
  least : Nat
  most  : Nat
  err   : Nat
  whole : Bool := false
  deriving DecidableEq, Repr

/-- The fields whose map states a range, of the registers that are checked at the write. -/
def fieldRanges : List FieldRange := [
  /- BEAT_LEN_NEXT.LEN -/ { base := 0x10004, hi := 2, lo := 0, least := 0, most := 4, err := 1, whole := true },
  /- TIME_SLEW_LIMIT -/ { base := 0x20018, hi := 9, lo := 0, least := 10, most := 500, err := 1 },
  /- TIME_JUMP_THR -/ { base := 0x2001C, hi := 29, lo := 0, least := 100, most := 1000000000, err := 2 },
  /- TIME_SERVO.TAU_MS -/ { base := 0x20020, hi := 9, lo := 0, least := 1, most := 1000, err := 64 },
  /- HIF_TXn_CFG.LOG2 -/ { base := 0x31010, dims := [(0x20, 64)], hi := 12, lo := 8, least := 4, most := 16, err := 2, whole := true },
  /- HIF_TXn_CFG.QUOTA -/ { base := 0x31010, dims := [(0x20, 64)], hi := 23, lo := 16, least := 1, most := 255, err := 8, whole := true },
  /- HIF_RXn_CFG.HOLD_LIM -/ { base := 0x32008, dims := [(0x20, 64)], hi := 31, lo := 16, least := 1, most := 4096, err := 16, whole := true },
  /- FAB_CTRL.MISS_RING -/ { base := 0x40000, hi := 13, lo := 8, least := 0, most := 62, err := 8 },
  /- FAB_HOSTBUF -/ { base := 0x40018, hi := 16, lo := 0, least := 1024, most := 32768, err := 2 },
  /- FAB_QCFGp_c.DEPTH -/ { base := 0x41000, dims := [(0x20, 80), (0x4, 8)], hi := 15, lo := 0, least := 1, most := 16384, err := 4 },
  /- FAB_QCFGp_c.HOLD -/ { base := 0x41000, dims := [(0x20, 80), (0x4, 8)], hi := 31, lo := 16, least := 0, most := 4096, err := 4 },
  /- CANP_MODE.KIND -/ { base := 0x100000, dims := [(0x1000, 48)], hi := 2, lo := 1, least := 0, most := 2, err := 32 },
  /- ETH_SMB_CFG.ADDR -/ { base := 0x153000, hi := 6, lo := 0, least := 0x08, most := 0x77, err := 16 },
  /- SER_Cc_CFG.PARITY -/ { base := 0x170000, dims := [(0x100, 16)], hi := 4, lo := 2, least := 0, most := 4, err := 2 },
  /- SER_Cc_FRAME.IDLE_CH -/ { base := 0x170008, dims := [(0x100, 16)], hi := 3, lo := 0, least := 1, most := 15, err := 4 },
  /- SER_Cc_FRAME.MAX_LEN -/ { base := 0x170008, dims := [(0x100, 16)], hi := 27, lo := 16, least := 1, most := 2048, err := 4 },
  /- CIPH_TAMPER_CFG.FILT_US -/ { base := 0x18000C, hi := 15, lo := 8, least := 1, most := 255, err := 0 },
  /- LSEC_Ll_CTRL.CONF_OFS -/ { base := 0x190000, dims := [(0x1000, 4)], hi := 6, lo := 5, least := 0, most := 2, err := 4 },
  /- LSEC_Ll_CTRL.VALIDATE -/ { base := 0x190000, dims := [(0x1000, 4)], hi := 9, lo := 8, least := 0, most := 2, err := 4 },
  /- HAL_CFG.FENCE_BEATS -/ { base := 0x1C0004, hi := 15, lo := 8, least := 2, most := 255, err := 1 },
  /- HAL_CFG.YIELD_DIFF -/ { base := 0x1C0004, hi := 23, lo := 16, least := 1, most := 255, err := 1 },
  /- HAL_CFG.BIAS -/ { base := 0x1C0004, hi := 31, lo := 24, least := 0, most := 254, err := 1 },
  /- HAL_RPL.MATCH_NS -/ { base := 0x1C0008, hi := 15, lo := 0, least := 100, most := 65535, err := 1 },
  /- HAL_RPL.RPL_AGE -/ { base := 0x1C0008, hi := 23, lo := 16, least := 8, most := 255, err := 1 },
  /- HAL_RPL.RPL_DEPTH -/ { base := 0x1C0008, hi := 31, lo := 24, least := 16, most := 255, err := 1 },
  /- PWR_BRACE_CFG.MAIN_FILT_US -/ { base := 0x1D0004, hi := 7, lo := 0, least := 1, most := 255, err := 2 },
  /- PWR_BRACE_CFG.SHED_MS -/ { base := 0x1D0004, hi := 15, lo := 8, least := 5, most := 100, err := 2 },
  /- PWR_Dd_CFG.IDLE_BEATS -/ { base := 0x1D0100, dims := [(0x10, 24)], hi := 31, lo := 16, least := 1, most := 65535, err := 2, whole := true },
  /- SHR_CFG.CONFIRM -/ { base := 0x1E0000, hi := 3, lo := 0, least := 1, most := 15, err := 1 },
  /- SHR_TERM_CFG.PERIOD -/ { base := 0x1E0004, hi := 15, lo := 0, least := 96, most := 65535, err := 1 },
  /- NVM_JCFG.PULSE_WARN -/ { base := 0x1F0008, hi := 7, lo := 4, least := 2, most := 15, err := 1 },
  /- NVM_UPD_TMO.CONFIRM_S -/ { base := 0x1F0054, hi := 15, lo := 0, least := 10, most := 65535, err := 1 },
  /- NVM_SNAPr_CTRL.REPEAT -/ { base := 0x1F0104, dims := [(0x10, 32)], hi := 15, lo := 8, least := 1, most := 255, err := 1 },
  /- MGT_NET_CFG.UDP_PORT -/ { base := 0x210020, hi := 31, lo := 16, least := 1, most := 65535, err := 1 },
  /- MGT_NET_PREFIX.LEN4 -/ { base := 0x210028, hi := 5, lo := 0, least := 1, most := 32, err := 1 },
  /- MGT_NET_PREFIX.LEN6 -/ { base := 0x210028, hi := 15, lo := 8, least := 1, most := 128, err := 1 }]

/-- Does the range speak of the register at this offset? -/
def FieldRange.covers (r : FieldRange) (off : Nat) : Bool := decide (r.base ≤ off) && RegMap.reaches 4 r.dims (off - r.base)

/-- The mask of bits hi to lo. -/
def maskOf (hi lo : Nat) : Nat := 2 ^ (hi + 1) - 2 ^ lo

/-- One rejected part of a write: the bits that keep their old value, and the CFG_ERR bits. -/
structure Rejected where
  mask : Nat
  err  : Nat
  deriving DecidableEq, Repr

/-- The whole register keeps its value. -/
def rejectAll (bad : Bool) (err : Nat) : List Rejected := if bad then [{ mask := 2 ^ 32 - 1, err := err }] else []

/-- A field keeps its value. -/
def rejectField (bad : Bool) (hi lo err : Nat) : List Rejected := if bad then [{ mask := maskOf hi lo, err := err }] else []

/-- The ranges of the map that a value breaks. -/
def rangeChecks (off v : Nat) : List Rejected :=
  (fieldRanges.filter fun r => r.covers off && !(decide (r.least ≤ bits v r.hi r.lo ∧ bits v r.hi r.lo ≤ r.most))).map fun r =>
    { mask := if r.whole then 2 ^ 32 - 1 else maskOf r.hi r.lo, err := r.err }

/-- Is a signed 4-bit field within a range? -/
def signed4 (v : Nat) (least most : Int) : Bool := decide (least ≤ toSigned 4 v ∧ toSigned 4 v ≤ most)

/-- Is a TIME_PORTp value out of range or not allowed for its port (R49, R62, R241)? -/
def State.portRoleBad (s : State) (p v : Nat) : Bool :=
  let role := bits v 2 1
  let oneStep := bit v 4
  let transport := bits v 17 16
  !signed4 (bits v 11 8) (-7) 0 || !signed4 (bits v 15 12) (-7) 0 || !signed4 (bits v 23 20) (-3) 4 ||
  !decide (2 ≤ bits v 27 24 ∧ bits v 27 24 ≤ 10) || transport == 3 || (oneStep && decide (4 ≤ p)) ||
  (decide (4 ≤ p ∧ p < 12) && (decide (2 ≤ role) || bit v 3 || transport != 0)) ||
  (oneStep && decide (p < 4) && s.on (Fld.LSEC_Ll_CTRL_TX_EN p) && !s.on (Fld.LSEC_Ll_CTRL_PTP_BYPASS p))

/-- The port kind last written. -/
def State.kindWritten (s : State) (n : Nat) : Nat := s.get (Fld.CANP_MODE_KIND n)

/-- Is the beacon format possible on every port that the staged enables name (R65)? -/
def State.beaconBad (s : State) (id fmt en0 en1 : Nat) : Bool :=
  let xl := bit fmt 0
  let on := (List.range 48).filter fun n => if n < 32 then bit en0 n else bit en1 (n - 32)
  on.any (fun n => s.kindWritten n == 0 || (xl && s.kindWritten n != 2)) ||
  (xl && (bit id 31 || bits id 28 11 != 0))

/-- Is the address all-zero or a group address? -/
def macBad (lo hi : Nat) : Bool := (lo == 0 && hi % 65536 == 0) || bit lo 0

/-- The checks of the TIME registers. -/
def State.timeChecks (s : State) (off v : Nat) : List Rejected :=
  if off = Reg.TIME_PTP_CFG then rejectAll (bits v 1 0 == 3 && bits v 14 8 != 0) 128
  else if 0x20080 ≤ off ∧ off < 0x200B4 then rejectAll (s.portRoleBad ((off - 0x20080) / 4) v) 4
  else if off = Reg.TIME_BCN_CFG then rejectAll (bits v 15 0 == 0 || decide (bits v 15 0 ≤ bits v 31 16)) 16
  else if off = Reg.TIME_BCN_ID then
    rejectAll (s.beaconBad v (s.w Reg.TIME_BCN_FMT) (s.w Reg.TIME_BCN_EN0) (s.w Reg.TIME_BCN_EN1)) 8
  else if off = Reg.TIME_BCN_FMT then
    rejectAll (s.beaconBad (s.w Reg.TIME_BCN_ID) v (s.w Reg.TIME_BCN_EN0) (s.w Reg.TIME_BCN_EN1)) 8
  else if off = Reg.TIME_BCN_EN0 then
    rejectAll (s.beaconBad (s.w Reg.TIME_BCN_ID) (s.w Reg.TIME_BCN_FMT) v (s.w Reg.TIME_BCN_EN1)) 8
  else if off = Reg.TIME_BCN_EN1 then
    rejectAll (s.beaconBad (s.w Reg.TIME_BCN_ID) (s.w Reg.TIME_BCN_FMT) (s.w Reg.TIME_BCN_EN0) v) 8
  else if off = Reg.TIME_CAP_RING then
    let ring := bits v 5 0
    rejectAll (ring == 63 || s.get (Fld.HIF_RXn_CFG_KIND ring) == 0) 32
  else []

/-- The checks of the HIF registers (R76, Table 4.13). -/
def State.hifChecks (s : State) (off v : Nat) : List Rejected :=
  if Reg.HIF_DB_BASE_LO ≤ off ∧ off < Reg.HIF_ERR_VEC then rejectAll (s.get Fld.HIF_CTRL_EN == 1) 1
  else if 0x31000 ≤ off ∧ off < 0x31800 ∧ off % 32 < 16 then
    rejectAll (s.get (Fld.HIF_TXn_STAT_STATE ((off - 0x31000) / 32)) != 0) 1
  else if 0x32000 ≤ off ∧ off < 0x32800 then
    let n := (off - 0x32000) / 32
    if off % 32 < 8 then rejectAll (s.get (Fld.HIF_RXn_STAT_STATE n) != 0) 1
    else if off % 32 = 8 then
      let stream := bit v 1
      let log2 := bits v 12 8
      rejectAll (if stream then !decide (12 ≤ log2 ∧ log2 ≤ 24) else !decide (4 ≤ log2 ∧ log2 ≤ 16)) 2 ++
      rejectAll (n == 63 && (!stream || !bit v 2)) 4
    else []
  else []

/-- The checks of the Ethernet-type ports and of their buses. A FEC that the PCS does not allow leaves both as they were, and
so does an enable without a PCS (Table 9.3: no other modes). -/
def State.ethChecks (s : State) (off v : Nat) : List Rejected :=
  if off < 0x151400 then
    let q := (off - 0x150000) / 0x400
    let r := off % 0x400
    if r = 0 then
      let most := if q < 4 then 5 else 3
      let badPcs := decide (most < bits v 3 1)
      let pcs := if badPcs then s.get (Fld.ETH_Pq_MODE_PCS q) else bits v 3 1
      let en := bit v 0
      let fecOk : Bool := match bits v 5 4 with
        | 0 => true
        | 1 => decide (q < 4) && (pcs == 4 || pcs == 5)
        | 2 => decide (q < 4) && pcs == 5
        | _ => false
      rejectField badPcs 3 1 1 ++ rejectField (en && pcs == 0) 3 0 1 ++ rejectField (!fecOk) 5 1 2 ++
      rejectField (en && macBad (s.w (Reg.ETH_Pq_MAC_LO q)) (s.w (Reg.ETH_Pq_MAC_HI q))) 0 0 4
    else []
  else if off = Reg.ETH_MDIO_CMD ∨ off = Reg.ETH_MDIO_DATA then rejectAll (s.get Fld.ETH_MDIO_CMD_BUSY == 1) 8
  else if 0x160000 ≤ off ∧ off < 0x160800 ∧ off % 0x100 = 0 then
    let k := (off - 0x160000) / 0x100
    let en := bit v 0
    let node := bits v 15 8
    rejectAll (en && bit v 1 && (node == 0xFF || (node == 0 && decide (bits v 23 16 < 2)))) 1 ++
    rejectField (en && macBad (s.w (Reg.T1S_Ss_MAC_LO k)) (s.w (Reg.T1S_Ss_MAC_HI k))) 0 0 2
  else []

/-- The divisor of a serial channel: 4 + 11/64 to 166,666 + 42/64. -/
def serDivBad (v : Nat) : Bool :=
  let d := 64 * bits v 17 0 + bits v 23 18
  decide (d < 64 * 4 + 11) || decide (64 * 166666 + 42 < d)

/-- TX_EN is set while the SCI is 0 or the SA that TX_AN names is not VALID (R246). -/
def State.lsecChecks (s : State) (off v : Nat) : List Rejected :=
  if off < 0x194000 ∧ off % 0x1000 = 0 then
    let l := (off - 0x190000) / 0x1000
    rejectField (bit v 0 && s.get (Fld.LSEC_Ll_CTRL_TX_EN l) == 0 &&
      (s.reg64 (Reg.LSEC_Ll_SCI l) == 0 || s.get (Fld.LSEC_TXSA_CTRL_VALID l (bits v 13 12)) == 0)) 0 0 1
  else []

/-- Is a valid snapshot range one that R399 rejects? -/
def snapBad (base ctrl stride : Nat) : Bool :=
  let n := bits ctrl 7 0
  let rep := bits ctrl 15 8
  bit ctrl 31 && (decide (504 < n * rep) || !((snapshotOffsets base n stride rep).all isCounter))

/-- The checks of the NVM registers. -/
def State.nvmChecks (s : State) (off v : Nat) : List Rejected :=
  if off = Reg.NVM_JCFG then rejectField (bits v 31 16 != 0 && decide (bits v 31 16 < 60)) 31 16 1
  else if 0x1F0100 ≤ off ∧ off < 0x1F0300 then
    let r := (off - 0x1F0100) / 16
    let base := if off % 16 = 0 then v else s.w (Reg.NVM_SNAPr_BASE r)
    let ctrl := if off % 16 = 4 then v else s.w (Reg.NVM_SNAPr_CTRL r)
    let stride := if off % 16 = 8 then v else s.w (Reg.NVM_SNAPr_STRIDE r)
    rejectAll (snapBad (bits base 27 0) ctrl (bits stride 27 0)) 2
  else []

/-- An IPv4 address that the management complex cannot have: zero, group (or broadcast) or loopback. -/
def ip4Bad (a : Nat) : Bool := a == 0 || decide (0xE0000000 ≤ a) || a / 2 ^ 24 == 127

/-- An IPv6 address that it cannot have: zero, multicast or loopback. -/
def ip6Bad (a : Nat) : Bool := a == 0 || a / 2 ^ 120 == 255 || a == 1

/-- The management complex's IPv6 address as written. -/
def State.ip6Written (s : State) : Nat :=
  (List.range 4).foldl (fun (a : Nat) k => a * 2 ^ 32 + s.w (Reg.MGT_NET_IP6k k)) 0

/-- Is EN of MGT_NET_CFG set with an address that Table 17.5 does not allow? -/
def State.mgtChecks (s : State) (off v : Nat) : List Rejected :=
  if off = Reg.MGT_NET_CFG then
    rejectField (bit v 0 && (ip4Bad (s.w Reg.MGT_NET_IP4) || (bit v 2 && ip6Bad s.ip6Written))) 0 0 4
  else []

/-- Everything that a value written at an offset breaks. -/
def State.valueChecks (s : State) (off v : Nat) : List Rejected :=
  rangeChecks off v ++
  (if off < 0x20000 then []
   else if off < 0x30000 then s.timeChecks off v
   else if off < 0x40000 then s.hifChecks off v
   else if off < 0x80000 then []
   else if off < 0xC0000 then rejectAll (s.get Fld.FAB_STATUS_COMMIT != 0) 1
   else if off < 0x150000 then []
   else if off < 0x170000 then s.ethChecks off v
   else if off < 0x180000 then (if off % 0x100 = 4 ∧ off < 0x171000 then rejectAll (serDivBad v) 1 else [])
   else if off < 0x190000 then []
   else if off < 0x1A0000 then s.lsecChecks off v
   else if off < 0x1D0000 then []
   else if off < 0x1E0000 then
     (if 0x1D0100 ≤ off ∧ off < 0x1D0280 ∧ off % 16 = 0 then
        rejectAll (!policyOk ((off - 0x1D0100) / 16) (bits v 1 0)) 1 else [])
   else if off < 0x1F0000 then
     (if off = Reg.SHR_TERM_CFG then rejectField (decide (bits v 15 0 ≤ bits v 31 16)) 31 16 1 else [])
   else if off < 0x200000 then s.nvmChecks off v
   else if off < 0x210000 then
     (if off < 0x200400 ∧ off % 8 = 0 then
        (let e := pinCfgErrors ((off - 0x200000) / 8) v
         rejectAll (e != 0) e) else [])
   else s.mgtChecks off v)

end Sys2Proof.Machine
end

