-- ==== Sys2Proof/Machine/UpdOps.lean ====
section
/-! DEFINITION. The firmware update: its commands, the pause and the fallback (chapter "Non-Volatile Storage and Firmware
Update", R412-R419; recovery mode, R447). -/

namespace Sys2Proof.Machine

/-- The update state (Table 16.10): 0 IDLE, 1 WRITING, 2 VERIFYING, 3 READY, 4 PREPARING, 5 QUIESCE, 6 PAUSE, 7 TRIAL. -/
def State.updState (s : State) : Nat := s.get Fld.NVM_UPD_STATUS_STATE

/-- The header of a slot's image. -/
def State.headerOf (s : State) (slot : Nat) : Bytes := SMap.get [] s.nvm.slots slot

/-! ### The pause (R417) -/

/-- The domains whose content the pause loses; the fabric's with them. -/
def pauseLost : List Nat := [2, 7, 8, 9, 10, 12, 13, 18, 19, 20]

/-- A command field whose block the pause restarts. -/
def RegCmd.pauseDrops (c : RegCmd) : Bool :=
  match c with
  | .canTiming _ => true
  | .nestCommit => true
  | .raRearm _ => true
  | _ => false

/-- What was staged or paced for the restarted blocks is gone; the host interface keeps its own. -/
def State.pauseDrop (s : State) : State :=
  let s := (s.cmds.filter RegCmd.pauseDrops).foldl (fun (s : State) (c : RegCmd) => match c with
    | .canTiming n => s.put (Fld.CANP_STATUS_TIMING_PENDING n) 0
    | .nestCommit => s.put Fld.NEST_STATUS_PENDING 0
    | _ => s) s
  { s with cmds := s.cmds.filter fun (c : RegCmd) => !c.pauseDrops,
           paced := s.paced.filter fun (o : Nat) => decide (0x30000 ≤ o ∧ o < 0x38000) }

/-- The pause begins: the restarted domains lose their content, completions already due stay with PD17, and the keepers of
claimed pins take over. -/
def State.pauseStart (s : State) : State :=
  let before := s
  let s := (s.contentsLost pauseLost).pauseDrop
  State.deSafe <| before.keepPads { s with glb := { s.glb with phase := .pause }, hif := { s.hif with finals := before.hif.finals } }

/-- A fallback pause: the slot other than the trial image's becomes ACTIVE, and the pause begins (R418). -/
def State.fallbackPause (s : State) (cause trialSlot : Nat) : State :=
  let s := (s.setBootPtr (1 - trialSlot) false 0).pauseStart
  { s with nvm := { s.nvm with fallback := some cause, clean := false, target := trialSlot } }

/-! ### Commands (Table 16.10) -/

/-- A command that the state does not accept. -/
def State.updBusy (s : State) : State := s.put Fld.NVM_UPD_STATUS_RESULT 14

/-- WRITE: the inactive slot is erased and written. -/
def State.updWrite (s : State) : State :=
  if s.updState = 0 ∨ s.updState = 3 then
    let slot := s.nvm.target
    let s := { s with nvm := { s.nvm with slots := SMap.del s.nvm.slots slot } }
    (s.put (Fld.NVM_SLOTs_STAT_VALID slot) 0).updMove 1 0
  else s.updBusy

/-- Does the current bank's format lie outside what the new image takes (R414)? -/
def State.formatGap (s : State) (h : Bytes) : Bool :=
  let fmt := hdrField h 28 2
  match s.currentBank with
  | none => false
  | some b =>
    let f := match SMap.look s.nvm.banks b with
      | some x => x.fmt
      | none => fmt
    decide (f < hdrField h 30 2) || decide (fmt < f) || (f != fmt && !bit (hdrField h 15 1) 0)

/-- Does the partner's shadow format differ from the new image's by more than one (R414)? -/
def State.shadowGap (s : State) (h : Bytes) : Bool :=
  s.on Fld.HAL_CTRL_PAIR_EN && (match s.hal.last with
    | some x => decide (hdrField h 32 2 + 1 < x.fmt ∨ x.fmt + 1 < hdrField h 32 2)
    | none => false)

/-- Why ACTIVATE is refused; 0: it is not. -/
def State.activateRefused (s : State) (clean force : Bool) : Nat :=
  let h := s.headerOf s.nvm.target
  if clean = false ∧ s.get Fld.NVM_STATUS_CFG_DIRTY = 1 ∧ force = false then 12
  else if clean = false ∧ s.formatGap h = true then 10
  else if s.shadowGap h then 11
  else 0

/-- ACTIVATE: refused, accepted, or, in recovery mode, the start of the verified image (R447). -/
def State.updActivate (s : State) (clean force : Bool) : State :=
  if s.updState ≠ 3 then s.updBusy
  else if s.glb.phase = .recovery then
    let slot := s.nvm.target
    let s := (s.setBootPtr slot true 0).put Fld.GLB_BOOT_STATUS_RECOVERY 0
    { s with glb := { s.glb with phase := .boot, bootSlot := slot, bootAlt := false, bootResult := 0 } }
  else
    let r := s.activateRefused clean force
    if r ≠ 0 then s.put Fld.NVM_UPD_STATUS_RESULT r
    else State.updMove { s with nvm := { s.nvm with clean := clean } } 4 0

/-- CONFIRM: TRIAL ends, and NVM_MIN_SVN rises to the running image's (R418). -/
def State.updConfirm (s : State) : State :=
  if s.updState ≠ 7 then s.updBusy
  else
    let slot := s.get Fld.NVM_UPD_STATUS_SLOT
    let s := s.setBootPtr slot false s.bootPtr.boots
    let svn := max s.nvm.minSvn (hdrField (s.headerOf slot) 24 4)
    let s := { s with nvm := { s.nvm with minSvn := svn } }
    ((s.setReg Reg.NVM_MIN_SVN (BitVec.ofNat 32 svn)).updMoveOf slot 0 1).showPointer slot

/-- FALLBACK. -/
def State.updFallback (s : State) : State :=
  if s.updState ≠ 7 then s.updBusy else s.fallbackPause 1 (s.get Fld.NVM_UPD_STATUS_SLOT)

/-- ABORT. -/
def State.updAbort (s : State) : State :=
  if s.updState = 1 then s.updMove 0 0 else if s.updState = 4 then s.updMove 3 0 else s.updBusy

/-- The command bits of one write of NVM_UPD_CTRL, lowest first. -/
def State.updCommand (s : State) (v : Nat) : State :=
  let s := if bit v 0 then s.updWrite else s
  let s := if bit v 1 then s.updActivate (bit v 8) (bit v 9) else s
  let s := if bit v 2 then s.updConfirm else s
  let s := if bit v 3 ∧ s.glb.phase ≠ .pause then s.updFallback else s
  if bit v 4 ∧ s.glb.phase ≠ .pause then s.updAbort else s

/-- Commands of the update block that wait, in the order of their writes. -/
def State.updCommands (s : State) : State :=
  let l := s.cmds.filterMap fun (c : RegCmd) => match c with
    | .nvmUpd v => some v
    | _ => none
  let rest := s.cmds.filter fun (c : RegCmd) => match c with
    | .nvmUpd _ => false
    | _ => true
  l.foldl (fun (s : State) v => s.updCommand v) { s with cmds := rest }

/-! ### Events of the sequence -/

/-- The slot is programmed, or the transfer (2) or the flash (3) fails. -/
def State.slotProgrammed (s : State) (header : Bytes) (result : Nat) : State :=
  if s.updState ≠ 1 then s
  else if result = 0 then
    State.updMove { s with nvm := { s.nvm with slots := SMap.put s.nvm.slots s.nvm.target header } } 2 0
  else s.updMove 0 result

/-- The image is checked (Table 16.9). -/
def State.slotVerified (s : State) (sigOk digestOk : Bool) : State :=
  if s.updState ≠ 2 then s
  else
    let slot := s.nvm.target
    let r := headerResult (s.headerOf slot) (some (s.get Fld.NVM_UPD_LEN_BYTES)) s.nvm.minSvn
    let r := if r ≠ 0 then r else if sigOk = false then 7 else if digestOk = false then 8 else 0
    let s := s.showSlot slot r
    if r = 0 then s.updMove 3 0 else s.updMove 0 r

/-- The current bank as the converter leaves it in the other bank, of the new image's format (R415). -/
def State.convertBank (s : State) (body : List (Nat × Word)) : State :=
  let fmt := hdrField (s.headerOf s.nvm.target) 28 2
  match s.currentBank with
  | none => s
  | some b =>
    match SMap.look s.nvm.banks b with
    | none => s
    | some x =>
      if x.fmt = fmt then s
      else
        let gen := (s.nvm.banks.map fun (e : Nat × Bank) => e.2.gen).foldl max 0 + 1
        let image := body.foldl (fun (m : List (Nat × Word)) (e : Nat × Word) => if inImage e.1 then SMap.put m e.1 e.2 else m) []
        let fw := hdrField (s.headerOf s.nvm.target) 16 4
        let y : Bank := { fmt := fmt, gen := gen, time := s.time.now, fw := fw, body := image }
        State.showBanks { s with nvm := { s.nvm with banks := SMap.put s.nvm.banks (1 - b) y } }

/-- Preparation ends: QUIESCE with the journal committed, or back to READY (R415, R416). -/
def State.prepared (s : State) (ok : Bool) (body : List (Nat × Word)) (progs : List (Nat × Bool)) : State :=
  if s.updState ≠ 4 then s
  else if ok = false then s.updMove 3 13
  else
    let s := if s.nvm.clean then s else s.convertBank body
    let s := State.updMove { s with nvm := { s.nvm with quiesce := 0 } } 5 0
    s.commitJournal progs

/-- Is nothing outstanding on any TX ring? -/
def State.allDone (s : State) : Bool := (List.range 64).all fun n => s.get (Fld.HIF_TXn_STAT_OUTSTANDING n) == 0

/-- QUIESCE ends at a beat boundary: the pointer names the new slot, and the pause begins (R416, R417). -/
def State.quiesceEnd (s : State) : State :=
  if s.updState = 5 ∧ s.atBoundary = true ∧ (s.allDone = true ∨ 8 ≤ s.nvm.quiesce) then
    ((s.setBootPtr s.nvm.target true 0).updMove 6 0).pauseStart
  else s

/-- The new image fails to start: a fallback pause follows (Table 16.10). -/
def State.startFailed (s : State) : State :=
  if s.glb.phase = .pause ∧ s.domain 2 = 2 ∧ s.nvm.fallback.isNone = true then s.fallbackPause 2 s.nvm.target else s

/-- TRIAL has lasted CONFIRM_S seconds. -/
def State.confirmTimeout (s : State) : State :=
  if s.updState = 7 ∧ s.glb.phase = .running ∧ s.nvm.trialFrom + 1000000000 * s.cur Fld.NVM_UPD_TMO_CONFIRM_S ≤ s.time.now then
    s.fallbackPause 0 (s.get Fld.NVM_UPD_STATUS_SLOT)
  else s

end Sys2Proof.Machine
end

