-- ==== Sys2Proof/Machine/RegWrite.lean ====
section
/-! DEFINITION. A 32-bit write to BAR0: what is discarded and logged, what is stored and in which timing class, and what the
command fields start (chapter "Register Map and Access Rules", R478-R489; R417, R447, R453, R454). -/

namespace Sys2Proof.Machine

/-! ### Byte lanes and phases -/

/-- The bits of the enabled byte lanes. -/
def laneMask (be : Nat) : Nat := ((List.range 4).map fun i => if bit be i then 255 * 2 ^ (8 * i) else 0).sum

/-- The registers that recovery mode keeps open (R447). -/
def recoveryOpen (off : Nat) : Bool :=
  decide (0x40 ≤ off ∧ off ≤ 0x50) || off == Reg.GLB_ID || off == Reg.GLB_FW_VERSION ||
  (decide (Reg.NVM_UPD_SRC ≤ off) && decide (off ≤ Reg.NVM_UPD_STATUS))

/-- The windows that are read-only: the live route tables, the journal read window, the PBA. -/
def readOnlyWindow (off : Nat) : Bool :=
  (decide (0xC0000 ≤ off ∧ off < 0x100000) && (RegMap.find off).isSome) || decide (0x220000 ≤ off ∧ off < 0x230000) ||
  (decide (0x39000 ≤ off ∧ off < 0x3A000) && (RegMap.find off).isSome)

/-- Why a write is discarded before its register is looked at; 0: it is not. -/
def State.writeRefused (s : State) (a : Access) (off : Nat) : Nat :=
  if s.glb.phase = .pause then afPause
  else if s.glb.phase = .recovery ∧ recoveryOpen off = false then afRecovery
  else if readOnlyWindow off then afReadOnly
  else match RegMap.find off with
    | none => afUnmapped
    | some r => if a.be ≠ 15 ∧ r.bl = false then afNarrow else 0

/-! ### Timing classes (R488, R489) -/

/-- A value is stored and takes effect in its class. -/
def State.storeAs (s : State) (c : TimingClass) (off : Nat) (v : Word) : State :=
  let s := s.setReg off v
  match c with
  | .immediate => s.setLive off v
  | .staged => s
  | .commit => if s.paced.contains off then s else { s with paced := s.paced ++ [off] }

/-- A command field waits for its commit slot; one that waits already is not repeated. -/
def State.command (s : State) (c : RegCmd) : State := if s.cmds.contains c then s else { s with cmds := s.cmds ++ [c] }

/-! ### Command fields -/

/-- The key bytes written to CIPH_CLR_KEY. -/
def State.clearKey (s : State) (size : Nat) : Bytes := s.keyWords (4 + 2 * size) fun k => Reg.CIPH_CLR_KEYk k

/-- CIPH_CLR_CTRL.GO before the lock: the load is staged, or refused. -/
def State.clearLoad (s : State) : State :=
  let size := s.get Fld.CIPH_CLR_CTRL_SIZE
  let attr := s.get Fld.CIPH_CLR_CTRL_ATTR
  if size = 3 then s.rejectAt Reg.CIPH_CLR_CTRL 1
  else if badAttr attr then s.rejectAt Reg.CIPH_CLR_CTRL 2
  else if s.loadRefused attr then s.rejectAt Reg.CIPH_CLR_CTRL 16
  else s.stageLoad (s.get Fld.CIPH_CLR_CTRL_SLOT) size attr (s.w Reg.CIPH_CLR_LIMIT) (s.clearKey size)

/-- CIPH_FV_SEL.WRITE: the entry is staged. -/
def State.fvWrite (s : State) : State :=
  let table := s.get Fld.CIPH_FV_SEL_TABLE
  let index := s.get Fld.CIPH_FV_SEL_INDEX
  if table = 3 ∨ (table ≠ 0 ∧ 48 ≤ index) then s.rejectAt Reg.CIPH_FV_SEL 8
  else (s.put Fld.CIPH_FV_STAT_PENDING 1).command (.fvWrite table index (s.reg64 Reg.CIPH_FV_DATA))

/-- ETH_MDIO_CMD.GO: the transaction starts, or waits until PD22 is ON. -/
def State.mdioStart (s : State) : State :=
  if s.domain 22 = 2 then s.mdioGo (s.get Fld.ETH_MDIO_CMD_OP) else s.command (.mdio (s.get Fld.ETH_MDIO_CMD_OP))

/-- MGT_SNAP_GO.GO: a request, unless one is pending. -/
def State.snapGo (s : State) : State :=
  if s.get Fld.MGT_SNAP_STAT_PENDING = 1 then s.rejectAt Reg.MGT_SNAP_GO 2
  else (s.put Fld.MGT_SNAP_STAT_PENDING 1).command .snapGo

/-- NVM_UPD_CTRL: the commands act at the next commit slot; in recovery mode, where no slot runs, at once. -/
def State.updWritten (s : State) (v : Nat) : State :=
  if v.land 0x1F = 0 then s
  else if s.glb.phase = .recovery then s.updCommand v
  else { s with cmds := s.cmds ++ [.nvmUpd v] }

/-- GLB_RESET with WARM 1 and the CONFIRM code: the journal is committed, then the unit warm-resets (R452, R453). -/
def State.resetWritten (s : State) (v : Nat) (progs : List (Nat × Bool)) (bad : List (Nat × Nat)) : State :=
  if bit v 0 ∧ bits v 31 16 = 0x4830 then
    (if s.domain 21 = 2 then s.commitJournal progs else s).warmRequest 4 bad
  else s

/-- The bits of PIN_OUT that a pin command sets or clears; the override of their pins ends. -/
def State.pinCommand (s : State) (w mask : Nat) (set : Bool) : State :=
  let old := s.reg (Reg.PIN_OUTw w)
  let m := BitVec.ofNat 32 mask
  let v := if set then old ||| m else old &&& ~~~m
  ((s.setReg (Reg.PIN_OUTw w) v).setLive (Reg.PIN_OUTw w) v).pinWritten w mask

/-- What the acting bits written to a register start. -/
def State.trigger (s : State) (off act : Nat) (progs : List (Nat × Bool)) (bad : List (Nat × Nat)) : State :=
  if act = 0 then s
  else if off = Reg.GLB_RESET then s.resetWritten act progs bad
  else if off = Reg.GLB_AF_CTRL then s.accessLogClear
  else if off = Reg.TIME_STEP_CTRL then
    (if bit act 31 ∧ (bits act 1 0 = 1 ∨ bits act 1 0 = 2) then { s with cmds := s.cmds ++ [.step (bits act 1 0)] } else s)
  else if off = Reg.FAB_COMMIT then s.commitGo
  else if off = Reg.FAB_RA_REARM then (if bit act 31 then s.command (.raRearm (bits act 11 0)) else s)
  else if 0x100000 ≤ off ∧ off < 0x140000 then
    let n := (off - 0x100000) / 0x1000
    (s.put (Fld.CANP_STATUS_TIMING_PENDING n) 1).command (.canTiming n)
  else if off = Reg.REEF_COMMIT then (s.put Fld.REEF_STATUS_PENDING 1).command .reefCommit
  else if 0x141000 ≤ off ∧ off < 0x141C00 then s.command (.reefWake ((off - 0x141000) / 64))
  else if off = Reg.ETH_MDIO_CMD then s.mdioStart
  else if off = Reg.CIPH_CLR_CTRL then (if bit act 31 then s.clearLoad else s)
  else if off = Reg.CIPH_FV_SEL then s.fvWrite
  else if 0x180100 ≤ off ∧ off < 0x180900 then s.command (.keyRetire ((off - 0x180100) / 32))
  else if off = Reg.NEST_COMMIT then (s.put Fld.NEST_STATUS_PENDING 1).command .nestCommit
  else if off = Reg.HAL_CTRL then
    let s := if bit act 4 then s.command .handover else s
    if bit act 5 then s.command .unfence else s
  else if 0x1D0100 ≤ off ∧ off < 0x1D0280 then s.command (.pwrWake ((off - 0x1D0100) / 16))
  else if off = Reg.NVM_CFG_CMD then s.command .nvmSave
  else if off = Reg.NVM_UPD_CTRL then s.updWritten act
  else if 0x200420 ≤ off ∧ off < 0x200430 then s.pinCommand ((off - 0x200420) / 4) act true
  else if 0x200430 ≤ off ∧ off < 0x200440 then s.pinCommand ((off - 0x200430) / 4) act false
  else if off = Reg.MGT_SNAP_GO then s.snapGo
  else s

/-! ### What a stored value does at once -/

/-- The fresh SA that begins with a write of the KEY0 that lies at an offset (R224). -/
def State.saBegins (s : State) (off : Nat) : Option State :=
  match RegMap.find off with
  | none => none
  | some r =>
    if r.base = 0x190100 ∧ (off - 0x190100) % 0x80 = 0 then
      some (s.secFresh ((off - 0x190100) / 0x1000) ((off - 0x190100) % 0x1000 / 0x80))
    else if r.base = 0x190440 ∧ (off - 0x190440) % 0x1000 % 0x180 % 0x40 = 0 then some (s.putBoth ⟨off + 0x38, 0, 0⟩ 0)
    else none

/-- A KEY0 write clears VALID; a PIN_OUT write ends overrides; a message mask that opens lets a pending message go; the lock
is requested. -/
def State.afterStore (s : State) (off old new lanes : Nat) : State :=
  match s.saBegins off with
  | some s => s
  | none =>
    if 0x200400 ≤ off ∧ off < 0x200410 then s.pinWritten ((off - 0x200400) / 4) lanes
    else if 0x38000 ≤ off ∧ off < 0x39000 ∧ off % 16 = 12 ∧ bit old 0 = true ∧ bit new 0 = false then s.unmask ((off - 0x38000) / 16)
    else if off = Reg.GLB_LOCK ∧ s.glb.locked = false ∧ bit new 0 = true then
      ((s.orReg Reg.GLB_LOCK 2).command .glbLock)
    else if off = Reg.BEAT_LEN_NEXT then
      (let s := { s with beat := { s.beat with lenSampled := s.beat.lenSampled && bit new 31 } }
       s.put Fld.BEAT_STATUS_LEN_ARMED (b2n s.beat.lenSampled))
    else if off = Reg.BEAT_SLOT_NEXT2 then
      (let s := { s with beat := { s.beat with shareSampled := s.beat.shareSampled && bit new 31,
                                               shareWithLen := s.beat.shareWithLen && bit new 31 } }
       s.put Fld.BEAT_STATUS_SLOT_ARMED (b2n s.beat.shareSampled))
    else s

/-- CFG_DIRTY: a configuration register or table window was written (R407). -/
def State.dirty (s : State) (off : Nat) : State := if inImage off then s.put Fld.NVM_STATUS_CFG_DIRTY 1 else s

/-! ### A doubleword of a register of 32 bits -/

/-- The write of a register of 32 bits; `lanes`: the bits of the enabled byte lanes. -/
def State.writeNarrow (s : State) (a : Access) (off : Nat) (r : RegRow) (v lanes : Nat) (progs : List (Nat × Bool))
    (bad : List (Nat × Nat)) : State :=
  let old := s.w off
  let given := v.land lanes
  let closed := if s.glb.locked then r.lck else 0
  let want := (old.land (2 ^ 32 - 1 - (r.st.land lanes))) ||| (given.land r.st)
  let lockHit := (Nat.xor want old).land (closed.land (2 ^ 32 - 1 - r.wo)) != 0 || given.land (r.wo.land closed) != 0
  let want := (want.land (2 ^ 32 - 1 - closed)) ||| (old.land closed)
  let rej := if r.st = 0 then [] else s.valueChecks off want
  let keep := rej.foldl (fun (m : Nat) (x : Rejected) => m ||| x.mask) 0
  let whole := rej.any fun x => x.mask == 2 ^ 32 - 1
  let want := (want.land (2 ^ 32 - 1 - keep)) ||| (old.land keep)
  let s := if lockHit then s.accessFault a off afLocked else s
  let s := if lockHit ∧ off = Reg.CIPH_CLR_CTRL ∧ bit given 31 = true then s.rejectAt off 4 else s
  let s := if rej.isEmpty then s else s.rejectAt off (rej.foldl (fun (m : Nat) (x : Rejected) => m ||| x.err) 0)
  let s := if off = Reg.CIPH_ALARM then s.alarmClear (given.land r.w1c)
    else if r.w1c = 0 then s
    else s.setReg off (BitVec.ofNat 32 ((s.w off).land (2 ^ 32 - 1 - given.land r.w1c)))
  if whole then s
  else
    let s := if r.st = 0 then s
      else ((s.storeAs r.cls off (BitVec.ofNat 32 want)).dirty off).afterStore off old want (lanes.land r.st)
    s.trigger off (given.land (r.wo.land (2 ^ 32 - 1 - closed))) progs bad

/-! ### A half of a register of 64 bits (R487) -/

/-- A 64-bit value that its map does not allow: MGT_SNAP_ADDR must be 64-byte aligned. -/
def wideBad (off v : Nat) : Bool := off == Reg.MGT_SNAP_ADDR && v % 64 != 0

/-- The low half waits in the path's staging register. -/
def State.stageLow (s : State) (path off : Nat) (v : Word) : State :=
  { s with glb := { s.glb with stage := SMap.put s.glb.stage path { off := off, val := v } } }

/-- The high half writes both, with the staged low half where it is this register's. -/
def State.writeHigh (s : State) (path off : Nat) (r : RegRow) (v : Word) : State :=
  let lo := off - 4
  let low := match SMap.look s.glb.stage path with
    | some h => if h.off = lo then h.val else s.reg lo
    | none => s.reg lo
  let s := { s with glb := { s.glb with stage := SMap.del s.glb.stage path } }
  if wideBad lo (low.toNat + 2 ^ 32 * v.toNat) then s.rejectAt lo 1
  else
    let low := low &&& BitVec.ofNat 32 r.st
    let high := v &&& BitVec.ofNat 32 (r.st / 2 ^ 32)
    ((s.storeAs r.cls lo low).storeAs r.cls off high).dirty lo

/-! ### One 32-bit access -/

/-- One accepted 32-bit write; `progs` and `bad`: how the journal's programs and the images fare where it resets the unit. -/
def State.regWrite (s : State) (a : Access) (off : Nat) (v : Word) (progs : List (Nat × Bool) := [])
    (bad : List (Nat × Nat) := []) : State :=
  if a.be = 0 then s
  else
    let reason := s.writeRefused a off
    if reason ≠ 0 then s.accessFault a off reason
    else match RegMap.find off with
      | none => s
      | some r =>
        if r.wide then
          (if r.st = 0 then s
           else if r.isHigh off then s.writeHigh a.path off r v
           else s.stageLow a.path off v)
        else s.writeNarrow a off r v.toNat (laneMask a.be) progs bad

/-- A write of this part's own that stands for software's: all lanes, the firmware's path. -/
def ownAccess : Access := { path := 3, be := 15, last := 0, len := 1 }

/-! ### Meanings -/

/-- REGISTER_WRITE: a 32-bit access of any path to any doubleword of BAR0. -/
def execRegisterWrite (a : Access) (off : Nat) (v : Word) (t : Tai) (s : State) : Host.Outcome State Fault Refusal :=
  unlessHeld s <|
  runIf (Instr.registerWrite a off v t).wf "REGISTER_WRITE" ((s.at t).regWrite a off v)

/-- W1C_WRITE. -/
def execW1cWrite (a : Access) (off : Nat) (v : Word) (t : Tai) (s : State) : Host.Outcome State Fault Refusal :=
  unlessHeld s <|
  runIf (Instr.w1cWrite a off v t).wf "W1C_WRITE" ((s.at t).regWrite a off v)

/-- REGISTER_WRITE_64_LOW. -/
def execRegisterWrite64Low (a : Access) (off : Nat) (v : Word) (t : Tai) (s : State) : Host.Outcome State Fault Refusal :=
  unlessHeld s <|
  runIf (Instr.registerWrite64Low a off v t).wf "REGISTER_WRITE_64_LOW" ((s.at t).regWrite a off v)

/-- GLB_AF_CLEAR. -/
def execGlbAfClear (a : Access) (t : Tai) (s : State) : Host.Outcome State Fault Refusal :=
  unlessHeld s <|
  runIf (Instr.glbAfClear a t).wf "GLB_AF_CLEAR" ((s.at t).regWrite a Reg.GLB_AF_CTRL 1#32)

/-- GLB_RESET: a write of GLB_RESET; `progs`: pulses and failures of the entries committed; `bad`: images that fail. -/
def execGlbReset (a : Access) (v : Word) (progs : List (Nat × Bool)) (bad : List (Nat × Nat)) (t : Tai) (s : State) :
    Host.Outcome State Fault Refusal :=
  unlessHeld s <|
  runIf (Instr.glbReset a v progs bad t).wf "GLB_RESET" ((s.at t).regWrite a Reg.GLB_RESET v progs bad)

/-- GLB_LOCK: a write of GLB_LOCK.LOCK 1. -/
def execGlbLock (a : Access) (t : Tai) (s : State) : Host.Outcome State Fault Refusal :=
  unlessHeld s <|
  runIf (Instr.glbLock a t).wf "GLB_LOCK" ((s.at t).regWrite a Reg.GLB_LOCK 1#32)

/-- PIN_SET. -/
def execPinSet (a : Access) (w : Nat) (v : Word) (t : Tai) (s : State) : Host.Outcome State Fault Refusal :=
  unlessHeld s <|
  runIf (Instr.pinSet a w v t).wf "PIN_SET" ((s.at t).regWrite a (Reg.PIN_SETw w) v)

/-- PIN_CLR. -/
def execPinClr (a : Access) (w : Nat) (v : Word) (t : Tai) (s : State) : Host.Outcome State Fault Refusal :=
  unlessHeld s <|
  runIf (Instr.pinClr a w v t).wf "PIN_CLR" ((s.at t).regWrite a (Reg.PIN_CLRw w) v)

/-- BEAT_LEN_ARM: BEAT_LEN_NEXT is written with ARM 1 and a code. -/
def execBeatLenArm (a : Access) (len : Nat) (t : Tai) (s : State) : Host.Outcome State Fault Refusal :=
  unlessHeld s <|
  runIf (Instr.beatLenArm a len t).wf "BEAT_LEN_ARM"
    ((s.at t).regWrite a Reg.BEAT_LEN_NEXT (BitVec.ofNat 32 (2 ^ 31 + len)))

/-- BEAT_SLOT_ARM: BEAT_SLOT_NEXT2 is written with ARM 1 and the writeback share. -/
def execBeatSlotArm (a : Access) (writeback : Nat) (t : Tai) (s : State) : Host.Outcome State Fault Refusal :=
  unlessHeld s <|
  runIf (Instr.beatSlotArm a writeback t).wf "BEAT_SLOT_ARM"
    ((s.at t).regWrite a Reg.BEAT_SLOT_NEXT2 (BitVec.ofNat 32 (2 ^ 31 + writeback)))

/-- TIME_STEP_TO_MASTER_MEAN. -/
def execTimeStepToMasterMean (a : Access) (t : Tai) (s : State) : Host.Outcome State Fault Refusal :=
  unlessHeld s <|
  runIf (Instr.timeStepToMasterMean a t).wf "TIME_STEP_TO_MASTER_MEAN"
    ((s.at t).regWrite a Reg.TIME_STEP_CTRL 0x80000001#32)

/-- TIME_STEP_BY_VALUE. -/
def execTimeStepByValue (a : Access) (t : Tai) (s : State) : Host.Outcome State Fault Refusal :=
  unlessHeld s <|
  runIf (Instr.timeStepByValue a t).wf "TIME_STEP_BY_VALUE" ((s.at t).regWrite a Reg.TIME_STEP_CTRL 0x80000002#32)

/-- FAB_COMMIT_GO. -/
def execFabCommitGo (a : Access) (t : Tai) (s : State) : Host.Outcome State Fault Refusal :=
  unlessHeld s <|
  runIf (Instr.fabCommitGo a t).wf "FAB_COMMIT_GO" ((s.at t).regWrite a Reg.FAB_COMMIT 1#32)

/-- FAB_RA_REARM. -/
def execFabRaRearm (a : Access) (route : Nat) (t : Tai) (s : State) : Host.Outcome State Fault Refusal :=
  unlessHeld s <|
  runIf (Instr.fabRaRearm a route t).wf "FAB_RA_REARM"
    ((s.at t).regWrite a Reg.FAB_RA_REARM (BitVec.ofNat 32 (2 ^ 31 + route)))

/-- CANP_TIMING_GO. -/
def execCanpTimingGo (a : Access) (n : Nat) (t : Tai) (s : State) : Host.Outcome State Fault Refusal :=
  unlessHeld s <|
  runIf (Instr.canpTimingGo a n t).wf "CANP_TIMING_GO" ((s.at t).regWrite a (Reg.CANP_TIMING_GO n) 0x80000000#32)

/-- REEF_HOST_WAKE. -/
def execReefHostWake (a : Access) (n : Nat) (t : Tai) (s : State) : Host.Outcome State Fault Refusal :=
  unlessHeld s <|
  runIf (Instr.reefHostWake a n t).wf "REEF_HOST_WAKE" ((s.at t).regWrite a (Reg.REEF_PORTn_CTRL n) 1#32)

/-- REEF_COMMIT. -/
def execReefCommit (a : Access) (t : Tai) (s : State) : Host.Outcome State Fault Refusal :=
  unlessHeld s <|
  runIf (Instr.reefCommit a t).wf "REEF_COMMIT" ((s.at t).regWrite a Reg.REEF_COMMIT 0x80000000#32)

/-- The offset of a key, salt word of a transmit SA or of a receive SA (channel 1 + c). -/
def saWord (l chan sa k : Nat) (salt : Bool) : Nat :=
  if chan = 0 then (if salt then Reg.LSEC_TXSA_SALT l sa k else Reg.LSEC_TXSA_KEY l sa k)
  else (if salt then Reg.LSEC_RXSA_SALT l (chan - 1) sa k else Reg.LSEC_RXSA_KEY l (chan - 1) sa k)

/-- LSEC_KEY_WRITE: a word of a key or a salt; `chan` 0: the transmit channel. -/
def execLsecKeyWrite (a : Access) (l chan sa k : Nat) (salt : Bool) (v : Word) (t : Tai) (s : State) :
    Host.Outcome State Fault Refusal :=
  unlessHeld s <|
  runIf (Instr.lsecKeyWrite a l chan sa k salt v t).wf "LSEC_KEY_WRITE" ((s.at t).regWrite a (saWord l chan sa k salt) v)

/-- The value of ETH_MDIO_CMD that starts a transaction. -/
def mdioValue (op phy reg : Nat) (cl45 : Bool) : Word := BitVec.ofNat 32 (phy + 32 * reg + 1024 * b2n cl45 + 2048 * op + 2 ^ 31)

/-- MDIO_ADDRESS: a Clause 45 address transaction. -/
def execMdioAddress (a : Access) (phy reg : Nat) (t : Tai) (s : State) : Host.Outcome State Fault Refusal :=
  unlessHeld s <|
  runIf (Instr.mdioAddress a phy reg t).wf "MDIO_ADDRESS" ((s.at t).regWrite a Reg.ETH_MDIO_CMD (mdioValue 0 phy reg true))

/-- MDIO_WRITE. -/
def execMdioWrite (a : Access) (phy reg : Nat) (cl45 : Bool) (t : Tai) (s : State) : Host.Outcome State Fault Refusal :=
  unlessHeld s <|
  runIf (Instr.mdioWrite a phy reg cl45 t).wf "MDIO_WRITE" ((s.at t).regWrite a Reg.ETH_MDIO_CMD (mdioValue 1 phy reg cl45))

/-- MDIO_READ. -/
def execMdioRead (a : Access) (phy reg : Nat) (cl45 : Bool) (t : Tai) (s : State) : Host.Outcome State Fault Refusal :=
  unlessHeld s <|
  runIf (Instr.mdioRead a phy reg cl45 t).wf "MDIO_READ" ((s.at t).regWrite a Reg.ETH_MDIO_CMD (mdioValue 2 phy reg cl45))

/-- MDIO_POST_READ_INCREMENT. -/
def execMdioPostReadIncrement (a : Access) (phy reg : Nat) (cl45 : Bool) (t : Tai) (s : State) :
    Host.Outcome State Fault Refusal :=
  unlessHeld s <|
  runIf (Instr.mdioPostReadIncrement a phy reg cl45 t).wf "MDIO_POST_READ_INCREMENT"
    ((s.at t).regWrite a Reg.ETH_MDIO_CMD (mdioValue 3 phy reg cl45))

/-- CIPH_CLEAR_LOAD: CIPH_CLR_CTRL is written with GO. -/
def execCiphClearLoad (a : Access) (slot size attr : Nat) (t : Tai) (s : State) : Host.Outcome State Fault Refusal :=
  unlessHeld s <|
  runIf (Instr.ciphClearLoad a slot size attr t).wf "CIPH_CLEAR_LOAD"
    ((s.at t).regWrite a Reg.CIPH_CLR_CTRL (BitVec.ofNat 32 (slot + 2 ^ 8 * size + 2 ^ 16 * attr + 2 ^ 31)))

/-- KEY_RETIRE. -/
def execKeyRetire (a : Access) (n : Nat) (t : Tai) (s : State) : Host.Outcome State Fault Refusal :=
  unlessHeld s <|
  runIf (Instr.keyRetire a n t).wf "KEY_RETIRE" ((s.at t).regWrite a (Reg.CIPH_KSn_CTRL n) 1#32)

/-- CIPH_FV_WRITE: CIPH_FV_SEL is written with WRITE. -/
def execCiphFvWrite (a : Access) (table index : Nat) (t : Tai) (s : State) : Host.Outcome State Fault Refusal :=
  unlessHeld s <|
  runIf (Instr.ciphFvWrite a table index t).wf "CIPH_FV_WRITE"
    ((s.at t).regWrite a Reg.CIPH_FV_SEL (BitVec.ofNat 32 (index + 2 ^ 16 * table + 2 ^ 31)))

/-- NEST_COMMIT. -/
def execNestCommit (a : Access) (t : Tai) (s : State) : Host.Outcome State Fault Refusal :=
  unlessHeld s <|
  runIf (Instr.nestCommit a t).wf "NEST_COMMIT" ((s.at t).regWrite a Reg.NEST_COMMIT 0x80000000#32)

/-- HAL_CTRL keeps its enables while a command bit of it is written. -/
def State.halCtrl (s : State) (command : Nat) : Word := BitVec.ofNat 32 ((s.w Reg.HAL_CTRL).land 3 + command)

/-- HAL_HANDOVER. -/
def execHalHandover (a : Access) (t : Tai) (s : State) : Host.Outcome State Fault Refusal :=
  unlessHeld s <|
  runIf (Instr.halHandover a t).wf "HAL_HANDOVER" ((s.at t).regWrite a Reg.HAL_CTRL (s.halCtrl 16))

/-- HAL_UNFENCE. -/
def execHalUnfence (a : Access) (t : Tai) (s : State) : Host.Outcome State Fault Refusal :=
  unlessHeld s <|
  runIf (Instr.halUnfence a t).wf "HAL_UNFENCE" ((s.at t).regWrite a Reg.HAL_CTRL (s.halCtrl 32))

/-- PWR_CTRL_WAKE. -/
def execPwrCtrlWake (a : Access) (d : Nat) (t : Tai) (s : State) : Host.Outcome State Fault Refusal :=
  unlessHeld s <|
  runIf (Instr.pwrCtrlWake a d t).wf "PWR_CTRL_WAKE" ((s.at t).regWrite a (Reg.PWR_Dd_CTRL d) 1#32)

/-- NVM_CFG_SAVE. -/
def execNvmCfgSave (a : Access) (t : Tai) (s : State) : Host.Outcome State Fault Refusal :=
  unlessHeld s <|
  runIf (Instr.nvmCfgSave a t).wf "NVM_CFG_SAVE" ((s.at t).regWrite a Reg.NVM_CFG_CMD 1#32)

/-- MGT_SNAP_GO. -/
def execMgtSnapGo (a : Access) (t : Tai) (s : State) : Host.Outcome State Fault Refusal :=
  unlessHeld s <|
  runIf (Instr.mgtSnapGo a t).wf "MGT_SNAP_GO" ((s.at t).regWrite a Reg.MGT_SNAP_GO 0x80000000#32)

end Sys2Proof.Machine
end

