-- ==== Sys2Proof/Machine/RegRead.lean ====
section
/-! DEFINITION. A 32-bit read of BAR0: the value, and what the read itself changes (chapter "Register Map and Access Rules",
R478, R481-R486; R400, R417, R447). -/

namespace Sys2Proof.Machine

/-! ### Registers that show something at the instant of the read -/

/-- NVM_SECT_STAT of the selected sector: the mean of its last pulses in quarters, its corrected reads, and how it stands. -/
def State.sectStat (s : State) : Nat :=
  let area := s.cur Fld.NVM_SECT_SEL_AREA
  let sector := s.cur Fld.NVM_SECT_SEL_SECTOR
  let p := s.physOf area sector
  let x := s.wearOf p
  let mean := if x.pulses.isEmpty then 0 else 4 * x.pulses.sum / x.pulses.length
  let moved := (SMap.look s.nvm.moved (2048 * area + sector)).isSome
  min 63 mean + 2 ^ 8 * satNat 8 x.corr + 2 ^ 16 * b2n moved + 2 ^ 17 * b2n (decide (ratedCycles area < x.erases)) +
    2 ^ 20 * (p % 2048)

/-- The seconds left in TRIAL. -/
def State.trialLeft (s : State) : Nat :=
  if s.get Fld.NVM_UPD_STATUS_STATE = 7 then
    (s.nvm.trialFrom + 1000000000 * s.cur Fld.NVM_UPD_TMO_CONFIRM_S - s.time.now + 999999999) / 1000000000
  else 0

/-- The freshness entry selected, as it stood at the end of the last authentication slot (R286). -/
def State.fvSeen (s : State) : Nat := SMap.get 0 s.ciph.seen (65536 * s.get Fld.CIPH_FV_SEL_TABLE + s.get Fld.CIPH_FV_SEL_INDEX)

/-- The present value of a doubleword. -/
def State.present (s : State) (off : Nat) : Nat :=
  let half := fun (v : Nat) => if off % 8 = 4 then v / 2 ^ 32 % 2 ^ 32 else v % 2 ^ 32
  if off < 0x40000 then
    if off = Reg.GLB_UID ∨ off = Reg.GLB_UID + 4 then half Config.uid.toNat
    else if off = Reg.TIME_NOW ∨ off = Reg.TIME_NOW + 4 then half s.time.now
    else if off = Reg.TIME_STATUS ∨ off = Reg.TIME_FREQ then s.servoRun.w off
    else s.w off
  else if 0x141000 ≤ off ∧ off < 0x141C00 ∧ off % 64 = 40 ∧ s.reefState ((off - 0x141000) / 64) = 1 then
    satNat 32 (s.awakeNs ((off - 0x141000) / 64) s.time.now / 1000000)
  else if 0x170000 ≤ off ∧ off < 0x171000 ∧ off % 256 = Reg.SER_Cc_STATUS 0 % 256 then
    let c := (off - 0x170000) / 256
    setBits (s.w off) (Fld.SER_Cc_STATUS_DE c).hi (Fld.SER_Cc_STATUS_DE c).lo (b2n (s.serDe c))
  else if off = Reg.CIPH_FV_DATA ∨ off = Reg.CIPH_FV_DATA + 4 then half s.fvSeen
  else if off = Reg.NVM_SECT_ERASES then
    (s.wearOf (s.physOf (s.cur Fld.NVM_SECT_SEL_AREA) (s.cur Fld.NVM_SECT_SEL_SECTOR))).erases
  else if off = Reg.NVM_SECT_STAT then s.sectStat
  else if off = Reg.NVM_UPD_LEFT then s.trialLeft
  else if 0x200000 ≤ off ∧ off < 0x200400 ∧ off % 8 = 4 then s.pinStat ((off - 0x200000) / 8)
  else if 0x200440 ≤ off ∧ off < 0x200450 then s.pinIn ((off - 0x200440) / 4)
  else s.w off

/-! ### The read -/

/-- What a read answers in place of its register: in a pause and in recovery mode, all ones; 0 where no register lies. -/
def State.readInstead (s : State) (off : Nat) : Option Word :=
  let ones : Bool := match s.glb.phase with
    | .pause => !(off == Reg.GLB_ID || off == Reg.GLB_FW_VERSION || off == Reg.NVM_UPD_STATUS)
    | .recovery => !recoveryOpen off
    | _ => false
  if ones then some 0xFFFFFFFF#32
  else if 0x220000 ≤ off ∧ off < 0x230000 then some (s.windowWord off)
  else if (RegMap.find off).isNone then some 0#32
  else none

/-- A high-half latch is loaded. -/
def State.latchHigh (s : State) (path off : Nat) : State :=
  { s with glb := { s.glb with
      latch := SMap.put s.glb.latch path { off := off, val := BitVec.ofNat 32 (s.present (off + 4)) } } }

/-- One 32-bit read: the answer and its side effects; a read with no byte enabled answers 0 and has none. -/
def State.regRead (s : State) (path be off : Nat) : Word × State :=
  if be = 0 then (0#32, s)
  else match s.readInstead off with
    | some v => (v, s)
    | none =>
      match RegMap.find off with
      | none => (0#32, s)
      | some r =>
        let v := BitVec.ofNat 32 (s.present off) &&& r.half off r.rd
        if r.rc then (v, s.setReg off 0#32)
        else if r.wide then
          (if r.isHigh off then
             (match SMap.look s.glb.latch path with
              | some h =>
                if h.off = off - 4 then (h.val, { s with glb := { s.glb with latch := SMap.del s.glb.latch path } }) else (v, s)
              | none => (v, s))
           else (v, s.latchHigh path off))
        else (v, s)

/-- A read is answered. -/
def State.answerRead (s : State) (path be off : Nat) : State :=
  let (v, s) := s.regRead path be off
  s.emit (.readData v)

/-! ### Meanings -/

/-- REGISTER_READ_64: a read of any doubleword by any path; `both`: a PCIe read of both halves, answered as one snapshot;
`pads`: the levels that the outside gives the GPIO pads. -/
def execRegisterRead64 (path be off : Nat) (both : Bool) (pads : Nat) (t : Tai) (s : State) : Host.Outcome State Fault Refusal :=
  unlessHeld s <|
  let s := (s.at t).sampleNet pads
  runIf (Instr.registerRead64 path be off both pads t).wf "REGISTER_READ_64"
    (if both then (s.answerRead path be off).answerRead path be (off + 4) else s.answerRead path be off)

/-- BEAT_PEAK_READ. -/
def execBeatPeakRead (path be n : Nat) (t : Tai) (s : State) : Host.Outcome State Fault Refusal :=
  unlessHeld s <|
  runIf (Instr.beatPeakRead path be n t).wf "BEAT_PEAK_READ" ((s.at t).answerRead path be (Reg.BEAT_PEAKn n))

/-- TIME_PTP_DISCARD_READ. -/
def execTimePtpDiscardRead (path be : Nat) (t : Tai) (s : State) : Host.Outcome State Fault Refusal :=
  unlessHeld s <|
  runIf (Instr.timePtpDiscardRead path be t).wf "TIME_PTP_DISCARD_READ" ((s.at t).answerRead path be Reg.TIME_PTP_DISCARD)

/-- CANP_LAST_ERR_READ. -/
def execCanpLastErrRead (path be n : Nat) (t : Tai) (s : State) : Host.Outcome State Fault Refusal :=
  unlessHeld s <|
  runIf (Instr.canpLastErrRead path be n t).wf "CANP_LAST_ERR_READ" ((s.at t).answerRead path be (Reg.CANP_LAST_ERR n))

/-- JOURNAL_WINDOW_READ: `corrected`: an ECC correction; `bad`: an uncorrectable error. -/
def execJournalWindowRead (path off : Nat) (corrected bad : Bool) (t : Tai) (s : State) : Host.Outcome State Fault Refusal :=
  unlessHeld s <|
  let s := s.at t
  runIf (Instr.journalWindowRead path off corrected bad t).wf "JOURNAL_WINDOW_READ"
    (if s.glb.phase = .pause ∨ s.glb.phase = .recovery then s.answerRead path 15 off
     else s.windowRead off corrected bad)

end Sys2Proof.Machine
end

