-- ==== Sys2Proof/Machine/Apply.lean ====
section
/-! DEFINITION. What a commit slot puts in force: class C writes with the checks made against live state, what follows a
change, a configuration loaded as a whole, the configuration lock and the re-derivation of state words (chapters "The Beat",
"Register Map and Access Rules", "Start-Up and Reset", "Unit State and the Management Path"). -/

namespace Sys2Proof.Machine

/-! ### Values refused at the commit slot -/

/-- Does a route name a port as ingress or egress? -/
def Route.names (r : Route) (p : Nat) : Bool := r.ingress == p || r.egress.contains p

/-- Is a port's kind fixed by a live route or a pending commit (R164)? -/
def State.kindFixed (s : State) (n : Nat) : Bool :=
  (s.liveRoutes.any fun (r : Route) => Route.names r n) ||
  (s.get Fld.FAB_STATUS_COMMIT != 0 && (s.validRoutes 0x80000).any fun (j : Nat) => Route.names (s.shadowRoute j) n)

/-- A KIND change under a route is rejected: the kind in force is kept. -/
def State.kindVeto (s : State) (n : Nat) : State :=
  if s.paced.contains (Reg.CANP_MODE n) ∧ s.get (Fld.CANP_MODE_KIND n) ≠ s.canKind n ∧ s.kindFixed n = true then
    (s.put (Fld.CANP_MODE_KIND n) (s.canKind n)).rejectAt (Reg.CANP_MODE n) 16
  else s

/-- A stored value returns to the value in force. -/
def State.revert (s : State) (off : Nat) : State := s.setReg off (s.liveReg off)

/-- EVIDENCE_EN without a source, or with a beacon period that FENCE_BEATS does not exceed (R343). -/
def State.evidenceVeto (s : State) : State :=
  let bad := s.get Fld.HAL_CFG_EVIDENCE_EN == 1 &&
    ((s.get Fld.HAL_EVID_T1S == 0 && s.get Fld.HAL_EVID_CAN_BCN == 0) ||
     (s.get Fld.HAL_EVID_CAN_BCN == 1 && decide (s.get Fld.HAL_CFG_FENCE_BEATS ≤ s.get Fld.TIME_BCN_CFG_PERIOD)))
  if (s.paced.contains Reg.HAL_CFG ∨ s.paced.contains Reg.HAL_EVID) ∧ bad = true then
    ((s.revert Reg.HAL_CFG).revert Reg.HAL_EVID).rejectAt Reg.HAL_CFG 2
  else s

/-- A link-cipher change that would protect a lane's one-step Sync (R241). -/
def State.oneStepVeto (s : State) (l : Nat) : State :=
  if s.paced.contains (Reg.LSEC_Ll_CTRL l) ∧ s.get (Fld.LSEC_Ll_CTRL_TX_EN l) = 1 ∧ s.get (Fld.LSEC_Ll_CTRL_PTP_BYPASS l) = 0 ∧
      s.get (Fld.TIME_PORTp_ONE_STEP l) = 1 then
    (s.revert (Reg.LSEC_Ll_CTRL l)).rejectAt (Reg.LSEC_Ll_CTRL l) 2
  else s

/-- All three. -/
def State.vetoes (s : State) : State :=
  let s := (List.range 48).foldl (fun (s : State) n => s.kindVeto n) s
  (List.range 4).foldl (fun (s : State) l => s.oneStepVeto l) s.evidenceVeto

/-! ### What follows a value in force -/

/-- CANP_MODE in force: EN and LISTEN follow. -/
def State.canFollow (old s : State) (n : Nat) : State :=
  let s := if s.on (Fld.CANP_MODE_EN n) then s.canOn n else s.canOff n
  let s := if s.on (Fld.CANP_MODE_LISTEN n) ∧ old.on (Fld.CANP_MODE_LISTEN n) = false then s.canListen n else s
  s.canShow n

/-- Was any of some registers put in force? -/
def anyIn (offs : List Nat) (lo hi : Nat) : Bool := offs.any fun (o : Nat) => decide (lo ≤ o ∧ o < hi)

/-- A lane or the management port follows its mode and its link cipher. -/
def State.laneFollow (old s : State) (offs : List Nat) (q : Nat) : State :=
  let touched : Bool := offs.contains (Reg.ETH_Pq_MODE q) || (decide (q < 4) && offs.contains (Reg.LSEC_Ll_CTRL q))
  let changed : Bool := old.cur (Fld.ETH_Pq_MODE_PCS q) != s.cur (Fld.ETH_Pq_MODE_PCS q) ||
    old.cur (Fld.ETH_Pq_MODE_FEC q) != s.cur (Fld.ETH_Pq_MODE_FEC q)
  if touched then s.ethFollow (56 + q) changed else s

/-- Duration measurement that comes into force counts frames that begin from now (R64). -/
def State.durationFollow (old s : State) : State :=
  (List.range 48).foldl (fun (s : State) n =>
    let f : Fld := if n < 32 then ⟨Reg.TIME_CANDUR_EN0, n, n⟩ else ⟨Reg.TIME_CANDUR_EN1, n - 32, n - 32⟩
    if s.on f ∧ old.on f = false then s.setCap (0x80 + n) { s.capOf (0x80 + n) with since := s.time.now } else s) s

/-- An asymmetry entry that comes into force leaves its old value to the captures whose edges fell before (R62); entries of
changes over a second old are forgotten. -/
def State.asymFollow (old s : State) (offs : List Nat) : State :=
  let changed := offs.filter fun (o : Nat) => decide (0x20100 ≤ o ∧ o < 0x204D0) && old.liveReg o != s.liveReg o
  if changed = [] then s
  else
    let kept := s.time.asymLog.filter fun (e : Nat × Tai × Word) => decide (s.time.now ≤ e.2.1 + 1000000000)
    { s with time := { s.time with asymLog := changed.map (fun (o : Nat) => (o, s.time.now, old.liveReg o)) ++ kept } }

/-- The host interface and its rings. -/
def State.hostFollow (s : State) (offs : List Nat) : State :=
  let s := if offs.contains Reg.HIF_CTRL then (if s.on Fld.HIF_CTRL_EN then s.hifEnable else s.setRunning false) else s
  if anyIn offs 0x30000 0x38000 then s.ringsFollow else s

/-- The ports: CAN, lanes and management, T1S, serial. -/
def State.portsFollow (old s : State) (offs : List Nat) : State :=
  let s := (List.range 48).foldl (fun (s : State) n =>
    if offs.contains (Reg.CANP_MODE n) then State.canFollow old s n else s) s
  let s := (List.range 5).foldl (fun (s : State) q => State.laneFollow old s offs q) s
  let s := (List.range 8).foldl (fun (s : State) k =>
    if offs.contains (Reg.T1S_Ss_CFG k) then s.ethFollow (48 + k) false else s) s
  (List.range 16).foldl (fun (s : State) c =>
    if anyIn offs (Reg.SER_Cc_CFG c) (Reg.SER_Cc_STATUS c) then
      s.serFollow c true (old.liveReg (Reg.SER_Cc_CFG c)).toNat (old.liveReg (Reg.SER_Cc_DIV c)).toNat
    else s) s

/-- Everything that follows registers put in force; `old`: the state before. -/
def State.follow (old s : State) (offs : List Nat) : State :=
  let s := State.portsFollow old ((State.asymFollow old s offs).hostFollow offs) offs
  let s := if offs.contains Reg.FAB_HOSTBUF then s.fifosEmpty else s
  let s := if offs.contains Reg.HAL_CTRL then s.halFollow (old.on Fld.HAL_CTRL_CLAIM_EN) (old.on Fld.HAL_CTRL_PAIR_EN) else s
  let s := (List.range 24).foldl (fun (s : State) d =>
    if offs.contains (Reg.PWR_Dd_CFG d) then s.pwrFollow d (old.liveReg (Reg.PWR_Dd_CFG d)) else s) s
  let s := if anyIn offs 0x20704 0x2070C then State.durationFollow old s else s
  let s := if anyIn offs 0x20018 0x20024 then s.showServo else s
  if anyIn offs 0x20040 0x200C0 then s.bmca else s

/-! ### Class C (R488) -/

/-- PIN_CFGp takes effect with the staged sets. -/
def isPinCfg (off : Nat) : Bool := decide (0x200000 ≤ off ∧ off < 0x200400) && off % 8 == 0

/-- Registers take the values written to them. -/
def State.inForce (s : State) (offs : List Nat) : State := offs.foldl (fun (s : State) o => s.setLive o (s.reg o)) s

/-- The start of a commit slot: accepted class C writes take effect. -/
def State.configApply (s : State) : State :=
  let s := s.vetoes
  let offs := s.paced.filter fun o => !isPinCfg o
  let s := if anyIn offs 0x20000 0x30000 then s.servoRun else s
  let now := { s with paced := s.paced.filter isPinCfg }
  State.follow s (now.inForce offs) offs

/-- The end of a commit slot: PIN_CFGp takes effect. -/
def State.pinsApply (s : State) : State :=
  let offs := s.paced.filter isPinCfg
  let s := { s with paced := s.paced.filter fun o => !isPinCfg o }
  offs.foldl (fun (s : State) o => State.pinFollow s (s.setLive o (s.reg o)) ((o - 0x200000) / 8)) s

/-! ### A configuration loaded as a whole (R415, R449) -/

/-- A register of the image takes the value that the bank gives it, or its reset value; locked fields keep theirs. -/
def State.loadReg (s : State) (body : List (Nat × Word)) (off : Nat) : State :=
  match RegMap.find off with
  | none => s
  | some r =>
    let held := if s.glb.locked then r.half off r.lck else 0#32
    let take := r.half off r.st &&& ~~~held
    let v := match body.find? (fun (e : Nat × Word) => e.1 == off) with
      | some e => e.2
      | none => RegMap.resetOf off
    let s := s.setReg off ((s.reg off &&& ~~~take) ||| (v &&& take))
    if 0x80000 ≤ off ∧ off < 0x100000 then s else s.setLive off (s.reg off)

/-- The offsets that a load touches: those of the bank and those that differ from reset. -/
def State.loadOffsets (s : State) (body : List (Nat × Word)) : List Nat :=
  natSort (natDedup (((body.map (·.1)) ++ (s.regs.map (·.1)) ++ (s.live.map (·.1))).filter inImage))

/-- The live route tables are cleared where no route commit follows, and no route runs ahead. -/
def State.clearTables (s : State) : State :=
  let was := s.validRoutes 0xC0000
  let s := { s with regs := s.regs.filter fun (e : Nat × Word) => !decide (0xC0000 ≤ e.1 ∧ e.1 < 0x100000) }
  was.foldl State.raShow s

/-- A configuration goes live whole: registers, staged sets, route tables with their commit, and what follows. -/
def State.loadImage (s : State) (bank : Option (List (Nat × Word))) : State :=
  let body := bank.getD []
  let offs := s.loadOffsets body
  let old := s
  let s := if s.get Fld.FAB_STATUS_COMMIT = 0 then s
    else ({ s with fab := { s.fab with validated := false } }).put Fld.FAB_STATUS_COMMIT 0
  let s := offs.foldl (fun (s : State) o => s.loadReg body o)
    { s with paced := s.paced.filter fun (o : Nat) => !inImage o }
  let s := State.follow old s offs
  let s := (offs.filter isPinCfg).foldl (fun (s : State) o => State.pinFollow old s ((o - 0x200000) / 8)) s
  let s := State.nestChanged old (State.reefFollow old s)
  let s := if bank.isSome then ((s.commitGo).commitValidated).commitApply else s.clearTables
  let s := { s with glb := { s.glb with bankStaged := false } }
  (s.put Fld.NVM_STATUS_CFG_DIRTY 0).put Fld.GLB_BOOT_STATUS_BANK (b2n bank.isSome)

/-- The body of the current bank. -/
def State.bankBody (s : State) : Option (List (Nat × Word)) :=
  match s.currentBank with
  | none => none
  | some b => (SMap.look s.nvm.banks b).map (·.body)

/-- The bank staged at the start goes live. -/
def State.bankLive (s : State) : State :=
  if s.glb.bankStaged = true ∧ s.glb.phase = .running then s.loadImage s.bankBody else s

/-! ### The configuration lock (R454) -/

/-- The lock takes effect. -/
def State.lockApply (s : State) : State :=
  if s.cmds.contains .glbLock then
    let s := { s with cmds := s.cmds.filter fun (c : RegCmd) => c != RegCmd.glbLock, glb := { s.glb with locked := true } }
    let s := (s.setReg Reg.GLB_LOCK 1#32).setLive Reg.GLB_LOCK 1#32
    (s.put Fld.CIPH_STATUS_CLEAR_LOAD_OPEN 0).raise 0x0121 0 []
  else s

/-! ### Skew and re-derivation (R428-R430) -/

/-- The first observation of a unit, where a mark or a debt holds it. -/
def State.firstSeen (s : State) (unit : Nat) : Option Tai :=
  match SMap.look s.mgt.owed unit with
  | some t => some t
  | none => (SMap.look s.mgt.suspects unit).map (·.time)

/-- The word is derived anew from the block's present state, and journaled; after a parity error it carries 0xFF, and a
first observation time that is free where there was none. -/
def State.rederive (s : State) (unit : Nat) : State :=
  let w := s.word unit
  let parity := s.mgt.bad.contains unit
  let shown := if parity then 0xFF else w.code
  let state := s.presentState unit
  let (k, s) := s.draw
  let seen := (s.firstSeen unit).getD (Config.skewTime k).toNat
  let s := s.setWord unit { code := state, epoch := nextEpoch w.epoch }
  let s := { s with mgt := { s.mgt with suspects := SMap.del s.mgt.suspects unit, owed := SMap.del s.mgt.owed unit,
                                        bad := s.mgt.bad.filter fun (u : Nat) => u != unit } }
  let s := s.log 5 (le 2 unit ++ le 1 shown ++ le 1 state ++ le 2 w.epoch ++ le 2 (nextEpoch w.epoch) ++ le 8 seen)
  let s := (s.put Fld.MGT_SKEW_LAST_UNIT unit).put Fld.MGT_SKEW_LAST_REG_STATE shown
  (s.put Fld.MGT_SKEW_LAST_BLK_STATE state).setReg64 Reg.MGT_SKEW_TIME seen

/-- Every re-derivation owed is done. -/
def State.rederiveAll (s : State) : State :=
  (natSort (natDedup (s.mgt.owed.map (·.1) ++ s.mgt.bad))).foldl (fun (s : State) u => s.rederive u) s

/-- A unit still suspect at the second boundary after its first observation is reported, and its re-derivation is owed;
the event carries the epoch that the word takes. -/
def State.skew (s : State) (unit : Nat) : State :=
  match SMap.look s.mgt.suspects unit with
  | none => s
  | some x =>
    if 2 ≤ x.beats ∧ (SMap.look s.mgt.owed unit).isNone = true then
      let s := { s with mgt := { s.mgt with owed := SMap.put s.mgt.owed unit x.time } }
      let s := s.count (Reg.MGT_CNTk 8)
      State.lossCheck s (s.raiseWith (nextEpoch (s.word unit).epoch) 0x1401 unit
        [n4 (s.word unit).code, n4 (s.presentState unit), n8 x.time])
    else s

/-- A word is found with a parity error. -/
def State.parityError (s : State) (unit : Nat) : State :=
  if s.mgt.bad.contains unit then s
  else
    let s := { s with mgt := { s.mgt with bad := s.mgt.bad ++ [unit] } }
    let s := s.count (Reg.MGT_CNTk 6)
    State.lossCheck s (s.raiseWith (nextEpoch (s.word unit).epoch) 0x1402 unit [n4 (s.presentState unit)])

end Sys2Proof.Machine
end

