-- ==== Sys2Proof/Machine/BeatOps.lean ====
section
/-! DEFINITION. The work of the slots: the beat's start, the commit slot, abandonment, the host snapshot, the last writeback
of QUIESCE, and the beat's length and shares (chapter "The Beat"; R416, R426, R437). -/

namespace Sys2Proof.Machine

/-! ### The start of a beat -/

/-- Every enabled limiter takes its rate, up to its burst (R125). -/
def State.limitersRefill (s : State) : State :=
  s.fab.limLive.foldl (fun (s : State) (e : Nat × Bool) =>
    let w0 := s.w (Reg.RT_LIVE_LIM e.1 0)
    if limEn w0 then
      s.setReg (Reg.FAB_LIMi_TOK e.1)
        (BitVec.ofNat 32 (min (s.w (Reg.FAB_LIMi_TOK e.1) + limRate w0) (256 * limBurst (s.w (Reg.RT_LIVE_LIM e.1 1)))))
    else s) s

/-- Keeper tables that changed in the beat that ends go to the partner (Table 13.7). -/
def State.keeperDeltas (s : State) : State :=
  let l := s.hal.keepers
  l.foldl (fun (s : State) n => s.delta 4 n (s.keeperBytes n)) { s with hal := { s.hal with keepers := [] } }

/-- Each suspect unit has met one more boundary. -/
def State.suspectsAge (s : State) : State :=
  { s with mgt := { s.mgt with
      suspects := s.mgt.suspects.map fun (e : Nat × Suspect) => (e.1, { e.2 with beats := e.2.beats + 1 }) } }

/-- The beat number of the beat in progress within its TAI second. -/
def State.beatNumber (s : State) : Nat := s.beat.start % 1000000000 / s.beatLen

/-- A new beat starts at the boundary due: its number, the slot, and what every block does at a boundary. -/
def State.beatStart (s : State) (realigned : Bool) : State :=
  let s := s.leaveSlot
  let s := { s with
    beat := { s.beat with start := s.beat.next, next := s.beat.next + s.beatLen, started := true, demand := 0, used := 0,
                          intakeRun := false, ended := false, beaconRun := false, windowRun := false },
    hif := { s.hif with inOverrun := false, wbOverrun := false },
    nvm := { s.nvm with quiesce := if s.updState = 5 then s.nvm.quiesce + 1 else s.nvm.quiesce } }
  let s := ((s.put Fld.BEAT_STATUS_SLOT_CUR 0).put Fld.BEAT_STATUS_BEAT_NUM s.beatNumber).count Reg.BEAT_COUNT
  let s := (s.pinBoundary.halBoundary).keeperDeltas
  let s := ((s.limitersRefill).raAge).musterBoundary realigned
  ((s.suspectsAge).pwrBoundary).pinBoundary

/-! ### The commit slot (R489) -/

/-- Commands that act at the start of the commit slot. -/
def State.startsNow (s : State) (c : RegCmd) : Bool :=
  match c with
  | .reefWake _ => true
  | .pwrWake _ => true
  | .handover => true
  | .unfence => true
  | .mdio _ => s.domain 22 == 2
  | _ => false

def State.startCmd (s : State) (c : RegCmd) : State :=
  match c with
  | .reefWake n => s.reefHostWake n
  | .pwrWake d => s.pwrWake d
  | .handover => s.handover
  | .unfence => s.unfence
  | .mdio op => s.mdioGo op
  | _ => s

/-- The start of the slot: class C writes, then command fields that act with them. -/
def State.commitStart (s : State) : State :=
  let s := s.configApply
  let s := if s.domain 17 = 2 then s.ringsFollow else s
  let due := s.cmds.filter s.startsNow
  let rest := s.cmds.filter fun (c : RegCmd) => !s.startsNow c
  due.foldl (fun (s : State) c => s.startCmd c) { s with cmds := rest }

/-- Staged timing of the ports whose domain is ON; `busy`: ports whose bus carries a frame. -/
def State.timingsApply (s : State) (busy : List Nat) : State :=
  (List.range 48).foldl (fun (s : State) n => if s.domain (domainOf n) = 2 then s.timingSet n (busy.contains n) else s) s

/-- Retirements and re-arms that wait. -/
def State.endCmds (s : State) : State :=
  let l := s.cmds
  l.foldl (fun (s : State) (c : RegCmd) => match c with
    | .keyRetire n => s.retireApply n
    | .raRearm j =>
      if s.domain 4 = 2 then State.raRearm { s with cmds := s.cmds.filter fun (x : RegCmd) => x != RegCmd.raRearm j } j else s
    | _ => s) s

/-- Saves and update commands, while PD21 is ON. -/
def State.nvmCmds (s : State) : State :=
  if s.domain 21 ≠ 2 then s
  else
    let s := if s.cmds.contains .nvmSave then
        State.saveStart { s with cmds := s.cmds.filter fun (c : RegCmd) => c != RegCmd.nvmSave }
      else s
    s.updCommands

/-- A host snapshot that was asked for is latched in the coming writeback. -/
def State.snapAccept (s : State) : State :=
  if s.cmds.contains .snapGo then
    { s with cmds := s.cmds.filter fun (c : RegCmd) => c != RegCmd.snapGo, mgt := { s.mgt with snapDue := true } }
  else s

/-- Armed lengths and share sets are sampled, which makes the change pending (R26, R31). -/
def State.beatSample (s : State) : State :=
  let len : Bool := s.beat.lenSampled || s.get Fld.BEAT_LEN_NEXT_ARM == 1
  let share : Bool := s.beat.shareSampled || s.get Fld.BEAT_SLOT_NEXT2_ARM == 1
  let withLen : Bool := if s.beat.shareSampled then s.beat.shareWithLen && len else share && len
  let s := { s with beat := { s.beat with lenSampled := len, shareSampled := share, shareWithLen := withLen } }
  (s.put Fld.BEAT_STATUS_LEN_ARMED (b2n len)).put Fld.BEAT_STATUS_SLOT_ARMED (b2n share)

/-- The end of the slot: every staged set, then re-derivations, then the steps of the time unit. What happens there carries
the time of the slot's end. -/
def State.commitEnd (s : State) (busy : List Nat) : State :=
  let entered := s.time.now
  let s := { s with time := { s.time with now := max entered (s.slotStart 2) } }
  let s := s.bankLive
  let timing : Bool := s.cmds.any fun (c : RegCmd) => match c with
    | .canTiming _ => true
    | _ => false
  let s := s.timingsApply busy
  let s := if s.domain 4 = 2 then s.commitApply else s
  let s := (if timing then s.raRecheck none else s).reefCommitApply
  let s := if s.nestPowered then s.nestCommitApply else s
  let s := if s.domain 3 = 2 then (s.loadsLive).fvApply else s
  let s := ((s.endCmds).pinsApply).lockApply
  let s := ((s.nvmCmds).rederiveAll).snapAccept
  let s := s.evaluateSteps
  { s with time := { s.time with now := entered } }

/-! ### A deferred commit (R39, R40, Table 2.4) -/

/-- Is a set pending that a GO or ARM bit staged (R40)? A length or share set that a completed commit slot has sampled is no
longer pending in a commit. -/
def State.stagedPending (s : State) : Bool :=
  s.fab.validated || !s.ciph.loads.isEmpty ||
  (s.get Fld.BEAT_LEN_NEXT_ARM == 1 && !s.beat.lenSampled) ||
  (s.get Fld.BEAT_SLOT_NEXT2_ARM == 1 && !s.beat.shareSampled) ||
  s.cmds.any fun (c : RegCmd) => match c with
    | .canTiming n => s.domain (domainOf n) == 2
    | .reefCommit => true
    | .nestCommit => s.nestPowered
    | .raRearm _ => s.domain 4 == 2
    | .fvWrite .. => true
    | .step _ => true
    | .snapGo => true
    | _ => false

/-- One staged command of an abandoned commit is dropped, and its indicator clears. -/
def State.dropStaged (s : State) (c : RegCmd) : State :=
  match c with
  | .canTiming n =>
    if s.domain (domainOf n) = 2 then (s.put (Fld.CANP_STATUS_TIMING_PENDING n) 0) else { s with cmds := s.cmds ++ [c] }
  | .reefCommit => s.put Fld.REEF_STATUS_PENDING 0
  | .nestCommit => if s.nestPowered then s.put Fld.NEST_STATUS_PENDING 0 else { s with cmds := s.cmds ++ [c] }
  | .raRearm _ => if s.domain 4 = 2 then s else { s with cmds := s.cmds ++ [c] }
  | .fvWrite .. => s.put Fld.CIPH_FV_STAT_PENDING 0
  | .step _ => s
  | .snapGo => s.put Fld.MGT_SNAP_STAT_PENDING 0
  | _ => { s with cmds := s.cmds ++ [c] }

/-- An ARM bit that was not yet sampled is dropped. -/
def State.dropArms (s : State) : State :=
  let s := if s.get Fld.BEAT_LEN_NEXT_ARM = 1 ∧ s.beat.lenSampled = false then s.putBoth Fld.BEAT_LEN_NEXT_ARM 0 else s
  if s.get Fld.BEAT_SLOT_NEXT2_ARM = 1 ∧ s.beat.shareSampled = false then s.putBoth Fld.BEAT_SLOT_NEXT2_ARM 0 else s

/-- What a commit that overruns for the first time holds back. -/
def State.commitContent (s : State) : Deferred :=
  { cmds := s.cmds, loads := s.ciph.loads.map (·.slot), tables := s.fab.validated, bank := s.glb.bankStaged,
    len := s.get Fld.BEAT_LEN_NEXT_ARM == 1, shares := s.get Fld.BEAT_SLOT_NEXT2_ARM == 1 }

/-- Work on the pending commit: what was staged after its first overrun is set aside and waits for a later commit slot. -/
def State.onCommit (s : State) (work : State → State) : State :=
  match s.beat.deferred with
  | none => work s
  | some d =>
    let inside := fun (c : RegCmd) => d.cmds.contains c
    let mine := fun (l : KeyLoad) => d.loads.contains l.slot
    let t := work { s with
      cmds := s.cmds.filter inside,
      ciph := { s.ciph with loads := s.ciph.loads.filter mine },
      fab := { s.fab with validated := s.fab.validated && d.tables },
      glb := { s.glb with bankStaged := s.glb.bankStaged && d.bank } }
    { t with
      cmds := t.cmds ++ s.cmds.filter (fun (c : RegCmd) => !inside c),
      ciph := { t.ciph with loads := t.ciph.loads ++ s.ciph.loads.filter (fun (l : KeyLoad) => !mine l) },
      fab := { t.fab with validated := t.fab.validated || (s.fab.validated && !d.tables) },
      glb := { t.glb with bankStaged := t.glb.bankStaged || (s.glb.bankStaged && !d.bank) } }

/-- After 16 consecutive overruns with a staged set pending, every staged set of the commit is dropped (R40). -/
def State.commitDropped (s : State) : State :=
  let n := s.beat.commitOverruns
  if n < 16 then s
  else
    let s := s.onCommit fun (s : State) =>
      let s := s.commitAbandon.dropLoads
      let l := s.cmds
      l.foldl (fun (s : State) c => s.dropStaged c) { s with cmds := [] }
    let s := s.dropArms
    State.raise { s with beat := { s.beat with commitOverruns := 0, deferred := none } } 0x0205 0 [n4 16]

/-- Work demanded of the slot in progress. -/
def State.demanded (s : State) (d : Nat) : State := { s with beat := { s.beat with demand := max s.beat.demand d } }

/-- The commit is deferred: what it holds is what was pending at its first overrun. -/
def State.commitDefer (s : State) : State :=
  let d := s.beat.deferred.getD s.commitContent
  let s := { s with beat := { s.beat with deferred := some d } }
  let staged : Bool := s.fab.validated && d.tables || (s.ciph.loads.any fun (l : KeyLoad) => d.loads.contains l.slot) ||
    (d.len && s.get Fld.BEAT_LEN_NEXT_ARM == 1 && !s.beat.lenSampled) ||
    (d.shares && s.get Fld.BEAT_SLOT_NEXT2_ARM == 1 && !s.beat.shareSampled) ||
    ({ s with cmds := s.cmds.filter fun (c : RegCmd) => d.cmds.contains c,
              ciph := { s.ciph with loads := [] }, fab := { s.fab with validated := false },
              beat := { s.beat with lenSampled := true, shareSampled := true } } : State).stagedPending
  { s with beat := { s.beat with commitOverruns := if staged then s.beat.commitOverruns + 1 else 0 } }

/-- The commit slot completes: the pending commit goes live whole. -/
def State.commitDone (s : State) (busy : List Nat) : State :=
  let d := s.beat.deferred
  let s := s.onCommit fun (s : State) => (s.commitStart).commitEnd busy
  let s := { s with beat := { s.beat with commitOverruns := 0, deferred := none } }
  let sample : Bool := match d with
    | none => true
    | some d => d.len || d.shares || (s.get Fld.BEAT_LEN_NEXT_ARM == 0 && s.get Fld.BEAT_SLOT_NEXT2_ARM == 0)
  if sample then s.beatSample else s

/-- The commit slot: whole, or, when its work does not fit, deferred whole. -/
def State.commitSlot (s : State) (demand : Nat) (busy : List Nat) : State :=
  let s := ((s.enterSlot 1).demanded demand).commitDropped
  if 1000 < demand then s.commitDefer else s.commitDone busy

/-! ### The writeback slot -/

/-- The offset of a unit's word in the management view. -/
def viewOffset (unit : Nat) : Nat :=
  let i := unit % 4096
  match unit / 4096 with
  | 1 => Reg.MGT_PORTn i
  | 2 => Reg.MGT_PDd i
  | 3 => Reg.MGT_TXRn i
  | 4 => Reg.MGT_RXRn i
  | 5 => Reg.MGT_TSETs i
  | _ => Reg.MGT_PARTNER

/-- All words are copied into the management view; one with a parity error, found before or now, shows 0xFF (R426, R430). -/
def State.viewLatch (s : State) (parity : List Nat) : State :=
  let s := registryUnits.foldl (fun (s : State) u =>
    let w := s.word u
    let code := if s.mgt.bad.contains u ∨ parity.contains u then 0xFF else w.code
    s.setReg (viewOffset u) (BitVec.ofNat 32 (code + 2 ^ 16 * w.epoch))) s
  s.setReg64 Reg.MGT_VIEW_TIME (s.slotStart 4)

/-- The ranges that a host snapshot holds. -/
def State.snapRanges (s : State) : List Nat :=
  (List.range 32).filter fun r => bit (s.liveReg Reg.MGT_SNAP_RANGES).toNat r && s.on (Fld.NVM_SNAPr_CTRL_VALID r)

/-- The values of a range. -/
def State.rangeBytes (s : State) (r : Nat) : Bytes :=
  (snapshotOffsets (s.cur (Fld.NVM_SNAPr_BASE_BASE r)) (s.cur (Fld.NVM_SNAPr_CTRL_N r)) (s.cur (Fld.NVM_SNAPr_STRIDE_STRIDE r))
    (s.cur (Fld.NVM_SNAPr_CTRL_REPEAT r))).flatMap fun o => le 8 (s.reg64 o)

/-- The host snapshot is latched (R437, Table 17.4). -/
def State.snapLatch (s : State) : State :=
  if s.mgt.snapDue = false then s
  else
    let ranges := s.snapRanges
    let values := ranges.flatMap fun r => s.rangeBytes r
    let seq := s.mgt.snaps + 1
    let header := le 8 (s.slotStart 4) ++ le 4 ((ranges.map fun r => 2 ^ r).sum) ++ le 4 values.length ++ le 4 seq ++
      List.replicate 12 0#8
    let addr := s.live64 Reg.MGT_SNAP_ADDR
    { s with mgt := { s.mgt with snapDue := false, snaps := seq, snapHeld := [(addr + 32, values), (addr, header)] } }

/-- Its writes leave once the link carries them. -/
def State.snapWrite (s : State) : State :=
  if s.mgt.snapHeld.isEmpty = false ∧ s.hostUp = true ∧ s.hif.linkReady = true then
    let l := s.mgt.snapHeld
    let s := l.foldl (fun (s : State) (e : Nat × Bytes) => if e.2.isEmpty then s else s.emit (.dmaWrite e.1 e.2))
      { s with mgt := { s.mgt with snapHeld := [] } }
    (s.put Fld.MGT_SNAP_STAT_PENDING 0).put Fld.MGT_SNAP_STAT_SEQ s.mgt.snaps
  else s

/-- The copies of a frame of the host that are still open end with DOMAIN_DOWN, and the frame with them (R90, R416). -/
def State.dropHostFrame (s : State) (fid : Nat) : State :=
  match s.frame? fid with
  | none => s
  | some f =>
    if f.host.isNone then s
    else
      let s := (s.withdraw fid).2
      let sending := s.fab.sending.filter fun (e : Nat × Copy) => e.2.fid != fid
      let authq := s.fab.authq.filter fun (j : AuthJob) => j != AuthJob.check fid && j != AuthJob.gen fid
      let s := { s with fab := { s.fab with sending := sending, authq := authq } }
      let s := s.setFrame fid { f with auth := if f.auth = 3 then 0 else f.auth }
      if f.opened = [] then s.settle fid
      else f.opened.foldl (fun (s : State) p => s.copyFinal fid p 0x05 0 true) s

/-- The last writeback of QUIESCE: every descriptor still outstanding completes with DOMAIN_DOWN (R416). -/
def State.quiesceFlush (s : State) : State :=
  if s.updState = 5 ∧ 7 ≤ s.nvm.quiesce then
    let fetched := s.hif.fetched
    let s := fetched.foldl (fun (s : State) (x : Fetched) =>
      let s := if x.desc.opcode = 1 then s.put Fld.FAB_FREE_BLOCKS (s.freeBlocks + blocksFor x.desc.len) else s
      s.hostFinal { ring := x.ring, tag := x.desc.tag, cmpl := x.desc.cmpl, oneShot := false, dest := 0, gen := x.gen } 0x05
        (unitOf 3 x.ring) 0 0 0 none false) { s with hif := { s.hif with fetched := [] } }
    let jobs := s.ciph.jobs
    let s := jobs.foldl (fun (s : State) (j : Job) => s.jobFinal j 0x05) s
    let s := { s with ciph := { s.ciph with jobs := [] } }
    s.fab.frames.foldl (fun (s : State) (e : Nat × Frame) => s.dropHostFrame e.1) s
  else s

/-- The host's part of a writeback while firmware runs: a due snapshot is latched, the last writeback of QUIESCE completes what
is outstanding (R416), then the host's writes. -/
def State.writebackHost (s : State) (budget : Nat) : State :=
  if s.glb.phase = .running then ((s.snapLatch.quiesceFlush).snapWrite).hostWriteback budget else s

/-- The writeback slot: the words found bad show in the view as latched, the host's writes carry what was final before the slot,
and what the rest of the slot's work raises waits for the next writeback (R36): corrected ECC errors counted, parity errors
reported, the Crow's Nest's outputs offered. -/
def State.writebackSlot (s : State) (budget : Nat) (parity ecc : List Nat) (bad : List (Nat × Nat)) : State :=
  let s := (s.enterSlot 4).resetQueues bad
  let s := (s.viewLatch parity).writebackHost budget
  let s := ecc.foldl (fun (s : State) k => s.count (Reg.MGT_CNTk k)) s
  let s := parity.foldl (fun (s : State) u => s.parityError u) s
  if s.glb.phase = .running then s.nestWriteback (s.slotStart 4) else s

/-! ### Overruns (R38, R41) -/

/-- Cipher cycles of the work left in the slot in progress. -/
def State.workLeft (s : State) (k : Nat) : Nat :=
  if k = 2 then (s.fab.authq.map s.jobCycles).sum
  else if k = 3 then
    let cost := fun (j : Job) => match s.keyOf j.slot with
      | some key => opCycles key.key.length j.work
      | none => 0
    (s.ciph.jobs.map cost).sum + (s.ciph.mgtJobs.map (·.cycles)).sum
  else 0

/-- The work demanded of the slot in progress, in 1/1,000 of its length, rounded up: as given, and what the cipher engine
has been given. -/
def State.demandNow (s : State) (k given : Nat) : Nat :=
  let d := max s.beat.demand given
  if k = 2 ∨ k = 3 then max d (((s.beat.used + s.workLeft k) * 1000 + s.slotCycles k - 1) / s.slotCycles k) else d

/-- Has work of the slot in progress not finished (R38)? -/
def State.slotLate (s : State) (k d : Nat) : Bool :=
  decide (1000 < d) || (k == 2 && !s.fab.authq.isEmpty) ||
  (k == 3 && !(s.ciph.jobs.isEmpty && s.ciph.mgtJobs.isEmpty)) || (k == 4 && s.hif.wbOverrun)

/-- An overrun of a slot: flag, counter, last overrun; the event on the device stream for the first of the slot in a TAI
second, and in the journal for every one (R41). -/
def State.overrun (s : State) (k : Nat) : State :=
  let s := (s.orReg Reg.BEAT_OVERRUN (2 ^ k)).count (Reg.BEAT_OVR_CNTn k)
  let s := (s.put Fld.BEAT_LAST_OVR_SLOT k).put Fld.BEAT_LAST_OVR_BEAT_NUM (s.get Fld.BEAT_STATUS_BEAT_NUM)
  let s := s.setReg64 Reg.BEAT_LAST_OVR_TIME s.beat.start
  let detail := [n4 k, n4 (s.get Fld.BEAT_STATUS_BEAT_NUM)]
  let key := 0x0201 * 65536 + k
  if s.firstInSecond key then (s.spoke key).raise 0x0201 0 detail
  else
    let e : Event := { code := 0x0201, unit := 0, epoch := 0, eseq := s.ev.eseq, time := s.time.now, detail := detail }
    s.log 1 e.bytes

/-- The slot in progress ends: an overrun is reported, the cipher lock is held no longer, and jobs still running are stopped
(R35, R38, R263). -/
def State.slotEnd (s : State) (demand : Nat) : State :=
  let k := s.get Fld.BEAT_STATUS_SLOT_CUR
  if 5 ≤ k ∨ s.beat.ended = true ∨ s.time.now < s.slotStop k then s
  else
    let d := s.demandNow k demand
    let late := s.slotLate k d
    let s := s.leaveSlot
    let s := { s with beat := { s.beat with demand := 0 },
                      hif := { s.hif with inOverrun := s.hif.inOverrun || (k == 0 && late) } }
    let s := s.put (Fld.BEAT_PEAKn_USED k) (max (s.get (Fld.BEAT_PEAKn_USED k)) (min 2047 d))
    if late then s.overrun k else s

/-! ### Length and shares (R26, R30-R32) -/

/-- The BEAT_CFG_ERR bits that shares break for a beat length: 2 SLOT_RANGE, 4 SLOT_SUM, 8 SLOT_MIN_TIME. -/
def shareErrors (len i c a v w : Nat) : Nat :=
  let inside := fun (x least most : Nat) => decide (least ≤ x ∧ x ≤ most)
  let range := inside i 50 200 && inside c 50 200 && inside a 200 600 && inside v 100 500 && inside w 100 200
  let short := decide (len * i < 10000000) || decide (len * c < 10000000) || decide (len * w < 12500000)
  2 * b2n (!range) + 4 * b2n (i + c + a + v + w != 1000) + 8 * b2n short

/-- The staged shares against a length. -/
def State.nextErrors (s : State) (len : Nat) : Nat :=
  shareErrors len (s.get Fld.BEAT_SLOT_NEXT0_INTAKE) (s.get Fld.BEAT_SLOT_NEXT0_COMMIT) (s.get Fld.BEAT_SLOT_NEXT1_AUTH)
    (s.get Fld.BEAT_SLOT_NEXT1_SERVICE) (s.get Fld.BEAT_SLOT_NEXT2_WRITEBACK)

/-- The shares in force against a length. -/
def State.shareErrorsNow (s : State) (len : Nat) : Nat :=
  shareErrors len (s.share 0) (s.share 1) (s.share 2) (s.share 3) (s.share 4)

/-- The share set is no longer armed. -/
def State.disarmShares (s : State) : State :=
  let s := (s.putBoth Fld.BEAT_SLOT_NEXT2_ARM 0).put Fld.BEAT_STATUS_SLOT_ARMED 0
  { s with beat := { s.beat with shareSampled := false, shareWithLen := false } }

/-- The length is no longer armed. -/
def State.disarmLen (s : State) : State :=
  let s := (s.putBoth Fld.BEAT_LEN_NEXT_ARM 0).put Fld.BEAT_STATUS_LEN_ARMED 0
  { s with beat := { s.beat with lenSampled := false } }

/-- BEAT_CFG_ERR and BEAT_CFG_REJECTED. -/
def State.beatReject (s : State) (err : Nat) : State :=
  let s := s.orReg Reg.BEAT_CFG_ERR err
  s.raise 0x0204 0 [n4 (s.w Reg.BEAT_CFG_ERR)]

/-- The staged shares come into force, or are rejected whole. -/
def State.sharesApply (s : State) (len : Nat) : State :=
  let e := s.nextErrors len
  let s := s.disarmShares
  if e ≠ 0 then s.beatReject e
  else
    let s := (s.put Fld.BEAT_SLOT_CUR0_LO (s.get Fld.BEAT_SLOT_NEXT0_INTAKE)).put Fld.BEAT_SLOT_CUR0_HI
      (s.get Fld.BEAT_SLOT_NEXT0_COMMIT)
    let s := (s.put Fld.BEAT_SLOT_CUR1_LO (s.get Fld.BEAT_SLOT_NEXT1_AUTH)).put Fld.BEAT_SLOT_CUR1_HI
      (s.get Fld.BEAT_SLOT_NEXT1_SERVICE)
    s.put Fld.BEAT_SLOT_CUR2_WRITEBACK (s.get Fld.BEAT_SLOT_NEXT2_WRITEBACK)

/-- A sampled share set waits for its boundary. -/
def State.sharesDue (s : State) : Bool := s.beat.shareSampled && s.get Fld.BEAT_SLOT_NEXT2_ARM == 1

/-- A sampled length waits for its boundary. -/
def State.lenDue (s : State) : Bool := s.beat.lenSampled && s.get Fld.BEAT_LEN_NEXT_ARM == 1

/-- At a TAI second boundary the armed length takes effect, with a share set armed beside it. -/
def State.lenApply (s : State) : State :=
  let old := s.get Fld.BEAT_STATUS_LEN_CUR
  let new := s.get Fld.BEAT_LEN_NEXT_LEN
  let s := if s.sharesDue && s.beat.shareWithLen then s.sharesApply (beatNs new) else s
  let s := s.disarmLen
  let e := s.shareErrorsNow (beatNs new)
  if e ≠ 0 then s.beatReject 8
  else
    let s := s.put Fld.BEAT_STATUS_LEN_CUR new
    let s := { s with beat := { s.beat with next := s.beat.start + s.beatLen } }
    (s.put Fld.BEAT_STATUS_BEAT_NUM s.beatNumber).raise 0x0203 0 [n4 old, n4 new]

end Sys2Proof.Machine
end

