-- ==== Sys2Proof/Machine/Beat.lean ====
section
/-! DEFINITION. The commands of the beat: boundaries, slots, overruns, realignment, length and shares, and the single steps
of a commit slot (chapter "The Beat"; R115, R117, R428, R429, R449, R454, R488). -/

namespace Sys2Proof.Machine

/-- BEAT_BOUNDARY: the next boundary of the timescale, unless a step waits for the end of the beat (R24); `temp`: the die sensor; `pads`:
the levels that the outside gives the GPIO pads; `bkup`: BKUP_SENSE is above its threshold; `bad`: queues found with differing
pointers by a takeover's replay (R132). -/
def execBeatBoundary (temp pads : Nat) (bkup : Bool) (bad : List (Nat × Nat)) (t : Tai) (s : State) : Host.Outcome State Fault Refusal :=
  unlessHeld s <|
  let s := s.at t
  let on : Bool := s.glb.phase != .powerOnReset && (s.beat.started || s.glb.phase == .running) &&
    s.get Fld.BEAT_STATUS_REALIGNING == 0
  runIf (Instr.beatBoundary temp pads bkup bad t).wf "BEAT_BOUNDARY"
    (if on = true ∧ t = s.beat.next ∧ s.stepWaits = false then
       (((((s.resetQueues bad).sampleNet pads).put Fld.GLB_TEMP_T temp).put Fld.PWR_STATUS_BKUP_OK (b2n (bkup && !s.faulted 79 0x21))).beatStart
         false)
     else s)

/-- INTAKE_SLOT: the words of the doorbell page as read (one not listed reads as last read), or none, and the descriptor reads that follow; in QUIESCE no descriptor is
fetched. -/
def execIntakeSlot (page : Option PageWords) (reads : List DescRead) (t : Tai) (s : State) :
    Host.Outcome State Fault Refusal :=
  unlessHeld s <|
  let s := s.at t
  runIf (Instr.intakeSlot page reads t).wf "INTAKE_SLOT"
    (if s.slotOpen 0 = true ∧ s.beat.intakeRun = false then
       (let s := { s with beat := { s.beat with intakeRun := true } }
        if s.glb.phase = .running then s.intake page (if s.updState = 5 then [] else reads) else s)
     else s)

/-- COMMIT_SLOT: `demand`: the work due, in 1/1,000 of the slot; `busy`: CAN ports whose bus carries a frame. -/
def execCommitSlot (demand : Nat) (busy : List Nat) (t : Tai) (s : State) : Host.Outcome State Fault Refusal :=
  unlessHeld s <|
  let s := s.at t
  runIf (Instr.commitSlot demand busy t).wf "COMMIT_SLOT"
    (if s.slotOpen 1 = true ∧ s.get Fld.BEAT_STATUS_SLOT_CUR = 0 then s.commitSlot demand busy else s)

/-- WRITEBACK_SLOT: `budget`: the entries that fit before the claim window; `parity`: registry words found with a parity
error; `ecc`: the counters of the single-bit errors corrected since the last (R438); `bad`: queues found with differing
pointers (R132). -/
def execWritebackSlot (budget : Nat) (parity ecc : List Nat) (bad : List (Nat × Nat)) (t : Tai) (s : State) :
    Host.Outcome State Fault Refusal :=
  unlessHeld s <|
  let s := s.at t
  runIf (Instr.writebackSlot budget parity ecc bad t).wf "WRITEBACK_SLOT"
    (if s.slotOpen 4 = true ∧ s.get Fld.BEAT_STATUS_SLOT_CUR < 4 then s.writebackSlot budget parity ecc bad else s)

/-- SLOT_END: the end of the slot in progress has come; `demand`: the work demanded in it, in 1/1,000 of its length. -/
def execSlotEnd (demand : Nat) (t : Tai) (s : State) : Host.Outcome State Fault Refusal :=
  unlessHeld s <|
  let s := s.at t
  runIf (Instr.slotEnd demand t).wf "SLOT_END" (if s.slotsRun then s.slotEnd demand else s)

/-- BEAT_COMMIT_ABANDONED: the 16th consecutive overrun of a commit with a staged set has been counted. -/
def execBeatCommitAbandoned (t : Tai) (s : State) : Host.Outcome State Fault Refusal :=
  unlessHeld s <|
  runIf (Instr.beatCommitAbandoned t).wf "BEAT_COMMIT_ABANDONED" ((s.at t).commitDropped)

/-- BEAT_REALIGNED: the realignment gap ends at a nominal boundary of the corrected timescale, and a beat starts. -/
def execBeatRealigned (temp pads : Nat) (t : Tai) (s : State) : Host.Outcome State Fault Refusal :=
  unlessHeld s <|
  let s := s.at t
  runIf (Instr.beatRealigned temp pads t).wf "BEAT_REALIGNED"
    (if s.get Fld.BEAT_STATUS_REALIGNING = 1 ∧ t = s.beat.next then
       (let gap := s.beat.next - s.beat.gapFrom
        let s := (s.put Fld.BEAT_STATUS_REALIGNING 0).count32 Reg.BEAT_REALIGN_CNT
        let s := (((s.sampleNet pads).put Fld.GLB_TEMP_T temp).windowSkipped).beatStart true
        s.raise 0x0202 0 [n8 gap, n4 (s.get Fld.BEAT_STATUS_BEAT_NUM)])
     else s)

/-- BEAT_LEN_CHANGED: a TAI second boundary with a sampled length still armed. -/
def execBeatLenChanged (t : Tai) (s : State) : Host.Outcome State Fault Refusal :=
  unlessHeld s <|
  let s := s.at t
  runIf (Instr.beatLenChanged t).wf "BEAT_LEN_CHANGED"
    (if s.atBoundary = true ∧ s.beat.start % 1000000000 = 0 ∧ s.lenDue = true then s.lenApply else s)

/-- BEAT_SLOT_APPLY: a beat boundary with a sampled share set still armed; one sampled with a length armed waits for it
(R31). -/
def execBeatSlotApply (t : Tai) (s : State) : Host.Outcome State Fault Refusal :=
  unlessHeld s <|
  let s := s.at t
  runIf (Instr.beatSlotApply t).wf "BEAT_SLOT_APPLY"
    (if s.atBoundary = true ∧ s.sharesDue = true ∧ (s.beat.shareWithLen && s.lenDue) = false then s.sharesApply s.beatLen else s)

/-! ### Single steps of a commit slot

Each acts at its time in the beat, before COMMIT_SLOT has run the slot whole, and while no deferred commit goes first. -/

/-- CONFIG_APPLY: class C writes accepted before the commit slot take effect. -/
def execConfigApply (t : Tai) (s : State) : Host.Outcome State Fault Refusal :=
  unlessHeld s <|
  let s := s.at t
  runIf (Instr.configApply t).wf "CONFIG_APPLY" (if s.commitDue then s.configApply else s)

/-- COMMIT_VALIDATION_DONE. -/
def execCommitValidationDone (t : Tai) (s : State) : Host.Outcome State Fault Refusal :=
  unlessHeld s <|
  runIf (Instr.commitValidationDone t).wf "COMMIT_VALIDATION_DONE" ((s.at t).commitValidated)

/-- FAB_COMMIT_APPLIED: the validated tables go live at the end of a commit slot. -/
def execFabCommitApplied (t : Tai) (s : State) : Host.Outcome State Fault Refusal :=
  unlessHeld s <|
  let s := s.at t
  runIf (Instr.fabCommitApplied t).wf "FAB_COMMIT_APPLIED" (if s.commitDue = true ∧ s.domain 4 = 2 then s.commitApply else s)

/-- BANK_CONFIG_LIVE: the staged bank goes live at the end of a commit slot. -/
def execBankConfigLive (t : Tai) (s : State) : Host.Outcome State Fault Refusal :=
  unlessHeld s <|
  let s := s.at t
  runIf (Instr.bankConfigLive t).wf "BANK_CONFIG_LIVE" (if s.commitDue then s.bankLive else s)

/-- GLB_LOCKED: the lock takes effect at the end of a commit slot. -/
def execGlbLocked (t : Tai) (s : State) : Host.Outcome State Fault Refusal :=
  unlessHeld s <|
  let s := s.at t
  runIf (Instr.glbLocked t).wf "GLB_LOCKED" (if s.commitDue then s.lockApply else s)

/-- STATE_SKEW: a unit is still suspect at the second boundary after its first observation. -/
def execStateSkew (unit : Nat) (t : Tai) (s : State) : Host.Outcome State Fault Refusal :=
  unlessHeld s <|
  let s := s.at t
  runIf (Instr.stateSkew unit t).wf "STATE_SKEW" (if s.atBoundary then s.skew unit else s)

/-- REGISTRY_REDERIVE: a word owed to the commit slot is derived anew. -/
def execRegistryRederive (unit : Nat) (t : Tai) (s : State) : Host.Outcome State Fault Refusal :=
  unlessHeld s <|
  let s := s.at t
  runIf (Instr.registryRederive unit t).wf "REGISTRY_REDERIVE"
    (if s.commitDue = true ∧ ((SMap.look s.mgt.owed unit).isSome = true ∨ s.mgt.bad.contains unit = true) then s.rederive unit
     else s)

end Sys2Proof.Machine
end

