-- ==== Sys2Proof/Machine/Mgt.lean ====
section
/-! DEFINITION. The management paths: the SMBus target (R242, R243), the services of the management port (R431-R434), the
host snapshot and uncorrectable ECC errors (R437, R438). -/

namespace Sys2Proof.Machine

/-! ### The SMBus target (R242, R243) -/

/-- An SMBus access: one aligned 32-bit access. -/
def smbAccess : Access := { path := 1, be := 15, last := 0, len := 1 }

/-- Does the target serve WRITE32 and READ32? In recovery mode it serves ID alone. -/
def State.smbUp (s : State) : Bool := s.domain 22 == 2 && s.glb.phase != .powerOnReset && s.glb.phase != .recovery

/-- The target answers NAK. -/
def State.smbNak (s : State) : State := (s.count32 Reg.ETH_SMB_NAK).emit (.smbus true [])

/-- Is the address refused, by its first byte or by its fourth? -/
def smbBadAddr (addr : Nat) : Bool := addr % 4 != 0 || decide (0x4000000 ≤ addr)

/-- WRITE32, at its stop condition; `pec`: 0 missing, 1 right, 2 wrong. -/
def State.smbWrite (s : State) (addr : Nat) (v : Word) (pec : Nat) : State :=
  if s.smbUp = false then s
  else if s.on Fld.ETH_SMB_CFG_WRITE_EN = false ∨ smbBadAddr addr = true then s.smbNak
  else if s.on Fld.ETH_SMB_CFG_PEC_REQ = true ∧ pec ≠ 1 then s.count32 Reg.ETH_SMB_PEC_ERR
  else s.regWrite smbAccess addr v

/-- READ32. -/
def State.smbRead (s : State) (addr : Nat) : State :=
  if s.smbUp = false then s
  else if smbBadAddr addr then s.smbNak
  else
    let (v, s) := s.regRead 1 15 addr
    s.emit (.smbus false (le 4 v.toNat))

/-- ID: GLB_ID, then BEAT_STATUS. -/
def State.smbId (s : State) : State :=
  if s.domain 22 = 2 ∧ s.glb.phase ≠ .powerOnReset then
    let (v, s) := s.regRead 1 15 Reg.GLB_ID
    let (w, s) := s.regRead 1 15 Reg.BEAT_STATUS
    s.emit (.smbus false (le 4 v.toNat ++ le 4 w.toNat))
  else s

/-! ### The management port's services (R431) -/

/-- Do the services run and can they send? -/
def State.servicesUp (s : State) : Bool :=
  s.domain 2 == 2 && s.get Fld.MGT_STATUS_FW_RUNNING == 1 && s.glb.phase == .running && s.ethState 60 == 2 &&
    s.on Fld.MGT_NET_CFG_EN

/-- An IPv4 address in the IPv4-mapped form. -/
def mapped4 (a : Nat) : Nat := 0xFFFF * 2 ^ 32 + a % 2 ^ 32

/-- Is an address an IPv4-mapped one? -/
def isMapped (a : Nat) : Bool := a / 2 ^ 32 == 0xFFFF

/-- A reply leaves through the management MAC: it carries the port's own address and counts in TX_OK. -/
def State.reply (s : State) (service dst port : Nat) (data : Bytes) : State :=
  let s := (s.countEth 60 8 none).observePort 60
  s.emit (.mgmt service (s.ownMac 60) dst port data)

/-- The 16-bit words of bytes, added. -/
def sum16 : Bytes → Nat
  | a :: b :: l => 256 * a.toNat + b.toNat + sum16 l
  | [a] => 256 * a.toNat
  | [] => 0

/-- The Internet checksum of bytes (PRESUMED, RFC 1071). -/
def inetSum (l : Bytes) : Nat :=
  let f := fun (n : Nat) => n % 65536 + n / 65536
  0xFFFF - f (f (f (sum16 l)))

/-- An ICMP message of a type, code 0 (PRESUMED, RFC 792). -/
def icmpMessage (type : Nat) (body : Bytes) : Bytes := be 1 type ++ be 1 0 ++ be 2 (inetSum (be 2 (256 * type) ++ body)) ++ body

/-- An ICMPv6 message of a type, code 0, its checksum over the pseudo-header (PRESUMED, RFC 4443). -/
def icmp6Message (src dst type : Nat) (body : Bytes) : Bytes :=
  let pseudo := be 16 src ++ be 16 dst ++ be 4 (body.length + 4) ++ be 4 58
  be 1 type ++ be 1 0 ++ be 2 (inetSum (pseudo ++ be 2 (256 * type) ++ body)) ++ body

/-- A number spelled by four registers, the first the most significant. -/
def State.addr6 (s : State) (off : Nat) : Nat :=
  (((s.liveReg off).toNat * 2 ^ 32 + (s.liveReg (off + 4)).toNat) * 2 ^ 32 + (s.liveReg (off + 8)).toNat) * 2 ^ 32 +
    (s.liveReg (off + 12)).toNat

/-- The IPv4 address. -/
def State.ip4 (s : State) : Nat := (s.liveReg Reg.MGT_NET_IP4).toNat

/-- The link-local address: the port's MAC address as a modified EUI-64. -/
def State.linkLocal (s : State) : Nat :=
  let m := s.ownMac 60
  let eui := [m.getD 0 0 ^^^ 2#8] ++ (m.drop 1).take 2 ++ [0xFF#8, 0xFE#8] ++ m.drop 3
  0xFE80 * 2 ^ 112 + unBe eui

/-- Is an IPv6 address this port's? -/
def State.own6 (s : State) (a : Nat) : Bool :=
  s.on Fld.MGT_NET_CFG_V6_EN && (a == s.addr6 (Reg.MGT_NET_IP6k 0) || a == s.linkLocal)

/-- The answer to an ARP request (PRESUMED, RFC 826). -/
def State.arpReply (s : State) (mac : Bytes) (ip target : Nat) : State :=
  if s.servicesUp = true ∧ target = s.ip4 then
    s.reply 1 (mapped4 ip) 0 (be 2 1 ++ be 2 0x0800 ++ [6#8, 4#8] ++ be 2 2 ++ s.ownMac 60 ++ be 4 target ++ mac ++ be 4 ip)
  else s

/-- The answer to an ICMP echo request; `body`: what follows its checksum. -/
def State.echoReply (s : State) (src dst : Nat) (body : Bytes) : State :=
  if s.servicesUp = true ∧ dst = s.ip4 then s.reply 2 (mapped4 src) 0 (icmpMessage 0 body) else s

/-- The answer to a neighbour solicitation: to its source with the solicited flag, or to all nodes where it has none
(PRESUMED, RFC 4861). -/
def State.neighbourReply (s : State) (src target : Nat) : State :=
  if s.servicesUp = true ∧ s.own6 target = true then
    let dst := if src = 0 then 0xFF02 * 2 ^ 112 + 1 else src
    let flags := if src = 0 then 0x20000000 else 0x60000000
    s.reply 3 dst 0 (icmp6Message target dst 136 (be 4 flags ++ be 16 target ++ [2#8, 1#8] ++ s.ownMac 60))
  else s

/-- The answer to an ICMPv6 echo request. -/
def State.echo6Reply (s : State) (src dst : Nat) (body : Bytes) : State :=
  if s.servicesUp = true ∧ s.own6 dst = true then s.reply 4 src 0 (icmp6Message dst src 129 body) else s

/-! ### The register service (R432-R434) -/

/-- An access of the register service. -/
def svcAccess : Access := { path := 2, be := 15, last := 0, len := 1 }

/-- A datagram of the service (Table 17.3). -/
def svcDatagram (magic version op seq status count offset : Nat) (dlen : Nat) (data : Bytes) : Bytes :=
  be 2 magic ++ be 1 version ++ be 1 op ++ be 2 seq ++ be 1 status ++ be 1 count ++ be 4 offset ++ be 4 dlen ++ data

/-- The reply to a request: it echoes, sets bit 7 of OP, and carries STATUS; nothing is sent while PD02 restarts. -/
def State.svcReply (s : State) (src port : Nat) (r : Request) (op status : Nat) (data : Bytes) : State :=
  if s.servicesUp then
    s.reply 5 src port (svcDatagram r.magic r.version (0x80 + op) r.seq status r.count r.offset 0 data)
  else s

/-- Is the request malformed: its MAGIC, VERSION or length, or no register to access? -/
def malformed (r : Request) (op : Nat) : Bool :=
  r.magic != 0x5347 || r.version != 1 || r.body.length != (if op = 2 then 4 * r.count else 0) ||
    (decide (op ≤ 2) && (r.count == 0 || decide (256 ≤ r.count)))

/-- May a source write and subscribe (R433)? -/
def State.svcAllowed (s : State) (src : Nat) : Bool :=
  let peers := (List.range 4).map fun p => s.addr6 (Reg.MGT_NET_PEERp_k p 0)
  s.on Fld.MGT_NET_CFG_WRITE_EN && ((peers.all fun a => a == 0) || peers.any fun a => a != 0 && a == src)

/-- Does an access of COUNT registers leave BAR0 or its alignment? -/
def badOffset (r : Request) : Bool := r.offset % 4 != 0 || decide (0x4000000 < r.offset + 4 * r.count)

/-- The STATUS of a request before it acts; 0: it acts. -/
def State.svcStatus (s : State) (src : Nat) (r : Request) (op : Nat) : Nat :=
  if malformed r op then 1
  else if (op = 2 ∨ op = 3) ∧ s.svcAllowed src = false then 2
  else if op ≤ 2 ∧ badOffset r = true then 3
  else if op = 3 ∧ 4 ≤ s.mgt.subs.length then 4
  else 0

/-- A request arrives: beyond 16 held it is discarded; a source of a family that is off gets no answer. -/
def State.svcArrives (s : State) (src : Nat) (full : Bool) : Bool × State :=
  if s.servicesUp = false ∨ (isMapped src = false ∧ s.on Fld.MGT_NET_CFG_V6_EN = false) then (false, s)
  else if full then (false, s.count (Reg.MGT_CNTk 10))
  else (true, s.count (Reg.MGT_CNTk 9))

/-- Consecutive reads, ascending; each value's bytes, most significant first. -/
def State.svcReads : Nat → Nat → State → Bytes × State
  | 0, _, s => ([], s)
  | n + 1, off, s =>
    let (v, s) := s.regRead 2 15 off
    let (l, s) := State.svcReads n (off + 4) s
    (be 4 v.toNat ++ l, s)

/-- Consecutive writes, ascending. -/
def State.svcWrites : Nat → Nat → Bytes → State → State
  | 0, _, _, s => s
  | n + 1, off, d, s => State.svcWrites n (off + 4) (d.drop 4) (s.regWrite svcAccess off (BitVec.ofNat 32 (unBe (d.take 4))))

/-- READ. -/
def State.svcRead (s : State) (src port : Nat) (r : Request) (full : Bool) : State :=
  let (go, s) := s.svcArrives src full
  if go = false then s
  else
    let status := s.svcStatus src r 1
    if status ≠ 0 then s.svcReply src port r 1 status []
    else
      let (d, s) := State.svcReads r.count r.offset s
      s.svcReply src port r 1 0 d

/-- WRITE. -/
def State.svcWrite (s : State) (src port : Nat) (r : Request) (full : Bool) : State :=
  let (go, s) := s.svcArrives src full
  if go = false then s
  else
    let status := s.svcStatus src r 2
    if status ≠ 0 then s.svcReply src port r 2 status []
    else (State.svcWrites r.count r.offset r.body s).svcReply src port r 2 0 []

/-- SUBSCRIBE: an entry already listed stays one. -/
def State.svcSubscribe (s : State) (src port : Nat) (r : Request) (full : Bool) : State :=
  let (go, s) := s.svcArrives src full
  if go = false then s
  else
    let listed : Bool := s.mgt.subs.contains (src, port)
    let status := s.svcStatus src r 3
    if status = 0 ∧ listed = false then
      State.svcReply { s with mgt := { s.mgt with subs := s.mgt.subs ++ [(src, port)] } } src port r 3 0 []
    else s.svcReply src port r 3 (if status = 4 ∧ listed = true then 0 else status) []

/-- UNSUBSCRIBE. -/
def State.svcUnsubscribe (s : State) (src port : Nat) (r : Request) (full : Bool) : State :=
  let (go, s) := s.svcArrives src full
  if go = false then s
  else
    let status := s.svcStatus src r 4
    if status = 0 then
      State.svcReply { s with mgt := { s.mgt with subs := s.mgt.subs.filter fun (e : Nat × Nat) => e != (src, port) } }
        src port r 4 0 []
    else s.svcReply src port r 4 status []

/-! ### NOTIFY (R434) -/

/-- The largest DATA of a datagram to an address: the frame limit of the port less its headers and FCS. -/
def datagramRoom (dst : Nat) : Nat := 2120 - 14 - 4 - (if isMapped dst then 20 else 40) - 8 - 16

/-- A frame delivered to port 79 goes to every listed entry, or is dropped. -/
def State.notify (s : State) : State :=
  match s.mgt.inbox with
  | [] => s
  | f :: rest =>
    let (k, s) := State.draw { s with mgt := { s.mgt with inbox := rest } }
    let item := s.recordHead f (s.epochOf (unitOf 1 f.ingress)) (Config.notifyRseq k).toNat (recordFlags false f) ++ recordData f.wire
    let d := padTo ((item.length + 3) / 4 * 4) 0#8 item
    let l := s.mgt.subs.filter fun (e : Nat × Nat) => decide (d.length ≤ datagramRoom e.1)
    if l.isEmpty = true ∨ s.servicesUp = false then s.count (Reg.MGT_CNTk 11)
    else
      let n := s.mgt.notifies + 1
      l.foldl (fun (s : State) (e : Nat × Nat) => s.reply 6 e.1 e.2 (svcDatagram 0x5347 1 5 (n % 65536) 0 0 0 d.length d))
        { s with mgt := { s.mgt with notifies := n } }

/-! ### Uncorrectable errors (R438) -/

/-- The management complex restarts from its image: the list of subscribers and the frames it held are lost. -/
def State.mgtRestart (s : State) : State :=
  let s := s.setFirmware false
  let s := { s with mgt := { s.mgt with inbox := [], subs := [] } }
  s.firmwareStarts 7 (s.get Fld.GLB_BOOT_STATUS_SLOT)

/-- An uncorrectable error: in packet memory `sel` is 8·port + class, in a freshness table the table. -/
def State.eccUncorr (s : State) (area index sel : Nat) : State :=
  let s := (s.count (Reg.MGT_CNTk (2 * area + 1))).raise 0x1403 0 [n4 area, n4 index]
  if area = 0 then s.queueReset (sel / 8) (sel % 8)
  else if area = 1 then (if s.get Fld.MGT_STATUS_FW_RUNNING = 1 then s.mgtRestart else s)
  else
    let i := 65536 * sel + index
    if s.ciph.invalid.contains i then s else { s with ciph := { s.ciph with invalid := s.ciph.invalid ++ [i] } }

/-! ### Meanings -/

/-- SMB_WRITE32. -/
def execSmbWrite32 (addr : Nat) (v : Word) (pec : Nat) (t : Tai) (s : State) : Host.Outcome State Fault Refusal :=
  unlessHeld s <|
  runIf (Instr.smbWrite32 addr v pec t).wf "SMB_WRITE32" ((s.at t).smbWrite addr v pec)

/-- SMB_READ32; `pads`: the levels that the outside gives the GPIO pads. -/
def execSmbRead32 (addr pads : Nat) (t : Tai) (s : State) : Host.Outcome State Fault Refusal :=
  unlessHeld s <|
  runIf (Instr.smbRead32 addr pads t).wf "SMB_READ32" (((s.at t).sampleNet pads).smbRead addr)

/-- A command byte other than WRITE32's and READ32's: ID, or an unknown one, which is answered with NAK (R243). -/
def State.smbCommand (s : State) (code : Nat) : State :=
  if code = 0x12 then s.smbId else if s.smbUp then s.smbNak else s

/-- SMB_ID: the command byte, 0x12 for ID. -/
def execSmbId (code : Nat) (t : Tai) (s : State) : Host.Outcome State Fault Refusal :=
  unlessHeld s <|
  runIf (Instr.smbId code t).wf "SMB_ID" ((s.at t).smbCommand code)

/-- SMB_SCL_TIMEOUT: SCL has been held low for 30 ms. -/
def execSmbSclTimeout (t : Tai) (s : State) : Host.Outcome State Fault Refusal :=
  unlessHeld s <|
  runIf (Instr.smbSclTimeout t).wf "SMB_SCL_TIMEOUT" ((s.at t).emit .smbusRelease)

/-- ARP_REQUEST. -/
def execArpRequest (mac : Bytes) (ip target : Nat) (t : Tai) (s : State) : Host.Outcome State Fault Refusal :=
  unlessHeld s <|
  runIf (Instr.arpRequest mac ip target t).wf "ARP_REQUEST" ((s.at t).arpReply mac ip target)

/-- ICMP_ECHO. -/
def execIcmpEcho (src dst : Nat) (body : Bytes) (t : Tai) (s : State) : Host.Outcome State Fault Refusal :=
  unlessHeld s <|
  runIf (Instr.icmpEcho src dst body t).wf "ICMP_ECHO" ((s.at t).echoReply src dst body)

/-- NEIGHBOUR_DISCOVERY. -/
def execNeighbourDiscovery (src target : Nat) (t : Tai) (s : State) : Host.Outcome State Fault Refusal :=
  unlessHeld s <|
  runIf (Instr.neighbourDiscovery src target t).wf "NEIGHBOUR_DISCOVERY" ((s.at t).neighbourReply src target)

/-- ICMPV6_ECHO. -/
def execIcmpv6Echo (src dst : Nat) (body : Bytes) (t : Tai) (s : State) : Host.Outcome State Fault Refusal :=
  unlessHeld s <|
  runIf (Instr.icmpv6Echo src dst body t).wf "ICMPV6_ECHO" ((s.at t).echo6Reply src dst body)

/-- SERVICE_READ: a request from an address in IPv6 form; `full`: the complex holds 16 requests; `pads`: as in SMB_READ32. -/
def execServiceRead (src port : Nat) (r : Request) (full : Bool) (pads : Nat) (t : Tai) (s : State) :
    Host.Outcome State Fault Refusal :=
  unlessHeld s <|
  runIf (Instr.serviceRead src port r full pads t).wf "SERVICE_READ" (((s.at t).sampleNet pads).svcRead src port r full)

/-- SERVICE_WRITE. -/
def execServiceWrite (src port : Nat) (r : Request) (full : Bool) (t : Tai) (s : State) : Host.Outcome State Fault Refusal :=
  unlessHeld s <|
  runIf (Instr.serviceWrite src port r full t).wf "SERVICE_WRITE" ((s.at t).svcWrite src port r full)

/-- SERVICE_SUBSCRIBE. -/
def execServiceSubscribe (src port : Nat) (r : Request) (full : Bool) (t : Tai) (s : State) :
    Host.Outcome State Fault Refusal :=
  unlessHeld s <|
  runIf (Instr.serviceSubscribe src port r full t).wf "SERVICE_SUBSCRIBE" ((s.at t).svcSubscribe src port r full)

/-- SERVICE_UNSUBSCRIBE. -/
def execServiceUnsubscribe (src port : Nat) (r : Request) (full : Bool) (t : Tai) (s : State) :
    Host.Outcome State Fault Refusal :=
  unlessHeld s <|
  runIf (Instr.serviceUnsubscribe src port r full t).wf "SERVICE_UNSUBSCRIBE" ((s.at t).svcUnsubscribe src port r full)

/-- NOTIFY: the oldest frame delivered to port 79. -/
def execNotify (t : Tai) (s : State) : Host.Outcome State Fault Refusal :=
  unlessHeld s <|
  runIf (Instr.notify t).wf "NOTIFY" ((s.at t).notify)

/-- HOST_SNAPSHOT_LATCH: the values of a requested snapshot at the writeback slot's start. -/
def execHostSnapshotLatch (t : Tai) (s : State) : Host.Outcome State Fault Refusal :=
  unlessHeld s <|
  let s := s.at t
  runIf (Instr.hostSnapshotLatch t).wf "HOST_SNAPSHOT_LATCH"
    (if s.slotsRun = true ∧ s.glb.phase = .running ∧ (s.get Fld.BEAT_STATUS_SLOT_CUR = 3 ∨ s.get Fld.BEAT_STATUS_SLOT_CUR = 4) then
       (s.snapLatch).snapWrite
     else s)

/-- MGT_ECC_UNCORR. -/
def execMgtEccUncorr (area index sel : Nat) (t : Tai) (s : State) : Host.Outcome State Fault Refusal :=
  unlessHeld s <|
  let s := s.at t
  runIf (Instr.mgtEccUncorr area index sel t).wf "MGT_ECC_UNCORR"
    (if s.glb.phase = .powerOnReset then s else s.eccUncorr area index sel)

end Sys2Proof.Machine
end

