-- ==== Sys2Proof/Machine/Shr.lean ====
section
/-! DEFINITION. Shroud's commands: termination measurements, faults, the pair swap and thermal shutdown (chapter "Shroud",
R379-R390). -/

namespace Sys2Proof.Machine

/-! ### Termination (R382-R384) -/

/-- The scheduled beat that the beat in progress belongs to, if it is one of its 8 tries (R383). -/
def State.termBase (s : State) (n : Nat) : Option Nat :=
  let p := s.cur Fld.SHR_TERM_CFG_PERIOD
  let x := s.cur Fld.SHR_TERM_CFG_PHASE + 2 * n + s.strap
  let i := s.beatIndex
  let d := (i + p - x % p) % p
  if d ≤ 14 ∧ d % 2 = 0 then some (i - d) else none

/-- May a measurement run and complete now? -/
def State.termRuns (s : State) (n : Nat) : Bool :=
  let st := s.canState n
  s.on (Fld.SHR_CANn_CFG_TERM_MEAS_EN n) && s.get Fld.HAL_STATUS_SKEW == 0 && s.domain (domainOf n) == 2 &&
  decide (1 ≤ st ∧ st ≤ 4) && s.slotsRun && decide (s.time.now ≤ s.beat.next)

/-- The class of a resistance in 1/16 Ω: 0 good, else its fault code. -/
def termClass (r : Nat) : Nat := if r < 720 then 3 else if r ≤ 1200 then 0 else if r ≤ 3200 then 2 else 1

/-- The try of a scheduled beat or of one of its repeats. -/
def State.termTry (s : State) (n : Nat) (ohm16 : Option Nat) : State :=
  match s.termBase n with
  | none => s
  | some b =>
    if (s.shrOf n).done = some b then s
    else
      match (if s.termRuns n then ohm16 else none) with
      | some r =>
        let r := if 4800 < r then 0xFFFF else r
        let s := s.setShr n { s.shrOf n with done := some b }
        let s := (s.put (Fld.SHR_CANn_TERM_OHM16 n) r).put (Fld.SHR_CANn_TERM_MISSED n) 0
        s.shrConfirm n (termClass r) [1, 2, 3] r
      | none =>
        if s.beatIndex = b + 14 ∧ s.on (Fld.SHR_CANn_CFG_TERM_MEAS_EN n) then
          (s.setShr n { s.shrOf n with done := some b }).put (Fld.SHR_CANn_TERM_MISSED n)
            (satNat 8 (s.get (Fld.SHR_CANn_TERM_MISSED n) + 1))
        else s

/-- TERM_MEASUREMENT: the measurement of this beat ends with a resistance in 1/16 Ω, or does not complete. -/
def execTermMeasurement (n : Nat) (ohm16 : Option Nat) (t : Tai) (s : State) : Host.Outcome State Fault Refusal :=
  unlessHeld s <|
  runIf (Instr.termMeasurement n ohm16 t).wf "TERM_MEASUREMENT" ((s.at t).termTry n ohm16)

/-! ### Faults (R379, R380, R386, R389) -/

/-- Does the test of a fault run: the domain ON, and normal receive for the tests that need normal bias? -/
def State.shrTests (s : State) (p code : Nat) : Bool :=
  if p < 48 then
    let st := s.canState p
    s.domain (domainOf p) == 2 &&
    (code == 0x06 || code == 0x07 || decide (1 ≤ st ∧ st ≤ 4)) && (code != 0x08 || s.canDrives p)
  else if p < 56 then s.domain 12 == 2
  else true

/-- Has the condition of a fault held for its filter or count (Tables 15.2, R380, R386)? `value`: a voltage in mV, or the
negative phases among the last 16; `held`: for how long, in ns, or through how many own dominant bits or signed phases. -/
def State.shrHolds (s : State) (p code : Nat) (value : Int) (held : Nat) : Bool :=
  let lowPower := decide (p < 48) && !decide (1 ≤ s.canState p ∧ s.canState p ≤ 4)
  if code = 0x04 ∨ code = 0x05 then decide (value < 400 ∧ 100000 ≤ held)
  else if code = 0x06 ∨ code = 0x07 then decide (6000 < value ∧ (if lowPower then 1000000 else 100000) ≤ held)
  else if code = 0x08 then decide (value < 500 ∧ 3 ≤ held)
  else if code = 0x09 then decide (value = 16 ∧ 16 ≤ held)
  else if code = 0x0A then decide (0 < value ∧ value < 16 ∧ 16 ≤ held)
  else if code = 0x20 ∨ code = 0x21 then decide (value < -500 ∧ 1000 * s.cur Fld.PWR_BRACE_CFG_MAIN_FILT_US ≤ held)
  else true

/-- Has the clear condition of a fault held for its time or count (Table 15.2)? `held`: how long the condition has been
absent, in ns, or through how many own dominant bits or signed phases. -/
def shrGone (code held : Nat) : Bool :=
  if (4 ≤ code ∧ code ≤ 7) ∨ code = 0x20 ∨ code = 0x21 then decide (100000000 ≤ held)
  else if code = 0x08 then decide (3 ≤ held)
  else if code = 0x09 ∨ code = 0x0A then decide (16 ≤ held)
  else true

/-- SHR_FAULT_SET: a test sees a fault's condition. The termination, amplitude and thermal faults are set by their own
measurements. -/
def execShrFaultSet (p code : Nat) (value : Int) (held : Nat) (t : Tai) (s : State) : Host.Outcome State Fault Refusal :=
  unlessHeld s <|
  let s := s.at t
  runIf (Instr.shrFaultSet p code value held t).wf "SHR_FAULT_SET"
    (if s.shrTests p code = true ∧ s.shrHolds p code value held = true then s.shrSet p code value else s)

/-- SHR_FAULT_CLEARED: a test sees a fault's clear condition. -/
def execShrFaultCleared (p code held : Nat) (t : Tai) (s : State) : Host.Outcome State Fault Refusal :=
  unlessHeld s <|
  let s := s.at t
  runIf (Instr.shrFaultCleared p code held t).wf "SHR_FAULT_CLEARED"
    (if s.shrTests p code = true ∧ shrGone code held = true then s.shrClear p code else s)

/-- PAIR_SWAP: 11 nominal bit times of bus idle on a port whose pair is reversed, or whose swap is to be undone (R381). -/
def execPairSwap (n : Nat) (t : Tai) (s : State) : Host.Outcome State Fault Refusal :=
  unlessHeld s <|
  let s := s.at t
  let x := s.shrOf n
  let swapped := s.get (Fld.SHR_CANn_STAT_SWAPPED n)
  runIf (Instr.pairSwap n t).wf "PAIR_SWAP"
    (if s.domain (domainOf n) ≠ 2 then s
     else if s.on (Fld.SHR_CANn_CFG_SWAP_EN n) then
       (if s.faulted n 0x09 = true ∧ x.acted = false then
          (s.setShr n { x with acted := true }).put (Fld.SHR_CANn_STAT_SWAPPED n) (1 - swapped)
        else s)
     else s.put (Fld.SHR_CANn_STAT_SWAPPED n) 0)

/-! ### Thermal shutdown (R387, R388) -/

/-- THERMAL_SHUTDOWN: a sensor reads 165 °C; a T1S frame in transmission is cut. -/
def execThermalShutdown (p : Nat) (t : Tai) (s : State) : Host.Outcome State Fault Refusal :=
  unlessHeld s <|
  let s := s.at t
  runIf (Instr.thermalShutdown p t).wf "THERMAL_SHUTDOWN"
    (if s.domain (domainOf p) = 2 then
       (if p < 48 then s.shrSet p 0x0B 0 else (((s.shrSet p 0x13 0).cutCopy p).linkDrops p))
     else s)

/-- THERMAL_RECOVERY: the sensor reads 150 °C or less and, on CAN, the controller has requested recessive for a bit time. -/
def execThermalRecovery (p : Nat) (t : Tai) (s : State) : Host.Outcome State Fault Refusal :=
  unlessHeld s <|
  let s := s.at t
  runIf (Instr.thermalRecovery p t).wf "THERMAL_RECOVERY"
    (if s.domain (domainOf p) = 2 then s.shrClear p (if p < 48 then 0x0B else 0x13) else s)

end Sys2Proof.Machine
end

