-- ==== Sys2Proof/Machine/Update.lean ====
section
/-! DEFINITION. The commands of the firmware update (chapter "Non-Volatile Storage and Firmware Update", R412-R419). -/

namespace Sys2Proof.Machine

/-! ### The end of a pause (R417, R418) -/

/-- Domains of the pause that carry content of their own, beside PD02. -/
def pauseBack : List Nat := [7, 8, 9, 10, 12, 13, 18, 19, 20]

/-- The firmware of a slot runs at the end of a pause: its configuration is live, and the restarted domains that are ON
work again. -/
def State.resume (s : State) (slot : Nat) (clean : Bool) (cause : Nat) : State :=
  let s := { s with glb := { s.glb with phase := .running } }
  let s := s.showPointer slot
  let s := s.loadImage (if clean then none else s.bankBody)
  let s := pauseBack.foldl (fun (s : State) d => if s.domain d = 2 then s.contentBack d else s) s
  (s.put Fld.GLB_BOOT_STATUS_ALT_SLOT 0).firmwareStarts cause slot

/-- The first commit slot of the new firmware: TRIAL begins. -/
def State.pauseEnd (s : State) : State :=
  if s.glb.phase = .pause ∧ s.domain 2 = 2 ∧ s.nvm.fallback.isNone = true then
    let slot := s.nvm.target
    let s := (s.resume slot s.nvm.clean 5).updMoveOf slot 7 0
    let s := { s with nvm := { s.nvm with trialFrom := s.time.now, target := 1 - slot, clean := false } }
    s.count (Reg.NVM_CNTk 6)
  else s

/-- The first commit slot of the firmware that a fallback pause brings back. -/
def State.fallbackEnd (s : State) : State :=
  if s.domain 2 ≠ 2 then s
  else match s.glb.phase, s.nvm.fallback with
  | .pause, some c =>
    let trial := s.nvm.target
    let s := (s.resume (1 - trial) false 6).updMoveOf trial 0 (if c = 2 then 15 else 0)
    let s := { s with nvm := { s.nvm with fallback := none } }
    (s.count (Reg.NVM_CNTk 7)).raise 0x1209 0 [n4 c]
  | _, _ => s

/-! ### Meanings -/

/-- NVM_UPD_WRITE: NVM_UPD_CTRL with WRITE 1. -/
def execNvmUpdWrite (a : Access) (t : Tai) (s : State) : Host.Outcome State Fault Refusal :=
  unlessHeld s <|
  runIf (Instr.nvmUpdWrite a t).wf "NVM_UPD_WRITE" ((s.at t).regWrite a Reg.NVM_UPD_CTRL 1#32)

/-- NVM_UPD_ACTIVATE. -/
def execNvmUpdActivate (a : Access) (clean force : Bool) (t : Tai) (s : State) : Host.Outcome State Fault Refusal :=
  unlessHeld s <|
  runIf (Instr.nvmUpdActivate a clean force t).wf "NVM_UPD_ACTIVATE"
    ((s.at t).regWrite a Reg.NVM_UPD_CTRL (BitVec.ofNat 32 (2 + 256 * b2n clean + 512 * b2n force)))

/-- NVM_UPD_CONFIRM. -/
def execNvmUpdConfirm (a : Access) (t : Tai) (s : State) : Host.Outcome State Fault Refusal :=
  unlessHeld s <|
  runIf (Instr.nvmUpdConfirm a t).wf "NVM_UPD_CONFIRM" ((s.at t).regWrite a Reg.NVM_UPD_CTRL 4#32)

/-- NVM_UPD_FALLBACK. -/
def execNvmUpdFallback (a : Access) (t : Tai) (s : State) : Host.Outcome State Fault Refusal :=
  unlessHeld s <|
  runIf (Instr.nvmUpdFallback a t).wf "NVM_UPD_FALLBACK" ((s.at t).regWrite a Reg.NVM_UPD_CTRL 8#32)

/-- NVM_UPD_ABORT. -/
def execNvmUpdAbort (a : Access) (t : Tai) (s : State) : Host.Outcome State Fault Refusal :=
  unlessHeld s <|
  runIf (Instr.nvmUpdAbort a t).wf "NVM_UPD_ABORT" ((s.at t).regWrite a Reg.NVM_UPD_CTRL 16#32)

/-- UPDATE_SLOT_PROGRAMMED: the header as programmed, or a DMA (2) or flash (3) failure. -/
def execUpdateSlotProgrammed (header : Bytes) (result : Nat) (t : Tai) (s : State) : Host.Outcome State Fault Refusal :=
  unlessHeld s <|
  runIf (Instr.updateSlotProgrammed header result t).wf "UPDATE_SLOT_PROGRAMMED" ((s.at t).slotProgrammed header result)

/-- UPDATE_VERIFIED: does the signature hold, does the digest? -/
def execUpdateVerified (sigOk digestOk : Bool) (t : Tai) (s : State) : Host.Outcome State Fault Refusal :=
  unlessHeld s <|
  runIf (Instr.updateVerified sigOk digestOk t).wf "UPDATE_VERIFIED" ((s.at t).slotVerified sigOk digestOk)

/-- PREPARATION_DONE: the converter's outcome and the image it wrote; `progs`: the journal's programming. -/
def execPreparationDone (ok : Bool) (body : List (Nat × Word)) (progs : List (Nat × Bool)) (t : Tai) (s : State) :
    Host.Outcome State Fault Refusal :=
  unlessHeld s <|
  runIf (Instr.preparationDone ok body progs t).wf "PREPARATION_DONE" ((s.at t).prepared ok body progs)

/-- QUIESCE_END. -/
def execQuiesceEnd (t : Tai) (s : State) : Host.Outcome State Fault Refusal :=
  unlessHeld s <|
  runIf (Instr.quiesceEnd t).wf "QUIESCE_END" ((s.at t).quiesceEnd)

/-- PAUSE_END. -/
def execPauseEnd (t : Tai) (s : State) : Host.Outcome State Fault Refusal :=
  unlessHeld s <|
  runIf (Instr.pauseEnd t).wf "PAUSE_END" ((s.at t).pauseEnd)

/-- PAUSE_START_FAILURE. -/
def execPauseStartFailure (t : Tai) (s : State) : Host.Outcome State Fault Refusal :=
  unlessHeld s <|
  runIf (Instr.pauseStartFailure t).wf "PAUSE_START_FAILURE" ((s.at t).startFailed)

/-- CONFIRM_TIMEOUT. -/
def execConfirmTimeout (t : Tai) (s : State) : Host.Outcome State Fault Refusal :=
  unlessHeld s <|
  runIf (Instr.confirmTimeout t).wf "CONFIRM_TIMEOUT" ((s.at t).confirmTimeout)

/-- NVM_FALLBACK: a fallback pause ends. -/
def execNvmFallback (t : Tai) (s : State) : Host.Outcome State Fault Refusal :=
  unlessHeld s <|
  runIf (Instr.nvmFallback t).wf "NVM_FALLBACK" ((s.at t).fallbackEnd)

end Sys2Proof.Machine
end

