-- ==== Sys2Proof/Machine/Dispatch.lean ====
section
/-! DEFINITION. The dispatch: one arm for each command, each a direct call of its meaning. -/

namespace Sys2Proof.Machine

def exec (i : Instr) (s : State) : Host.Outcome State Fault Refusal :=
  match i with
  | .beatBoundary temp pads bkup bad t => Sys2Proof.Machine.execBeatBoundary temp pads bkup bad t s
  | .intakeSlot page reads t => Sys2Proof.Machine.execIntakeSlot page reads t s
  | .commitSlot demand busy t => Sys2Proof.Machine.execCommitSlot demand busy t s
  | .authenticationSlot faults bad t => Sys2Proof.Machine.execAuthenticationSlot faults bad t s
  | .serviceSlot mgt faults t => Sys2Proof.Machine.execServiceSlot mgt faults t s
  | .writebackSlot budget parity ecc bad t => Sys2Proof.Machine.execWritebackSlot budget parity ecc bad t s
  | .claimWindow ext cut tick t => Sys2Proof.Machine.execClaimWindow ext cut tick t s
  | .slotEnd demand t => Sys2Proof.Machine.execSlotEnd demand t s
  | .beatCommitAbandoned t => Sys2Proof.Machine.execBeatCommitAbandoned t s
  | .beatRealigned temp pads t => Sys2Proof.Machine.execBeatRealigned temp pads t s
  | .beatLenArm a len t => Sys2Proof.Machine.execBeatLenArm a len t s
  | .beatLenChanged t => Sys2Proof.Machine.execBeatLenChanged t s
  | .beatSlotArm a writeback t => Sys2Proof.Machine.execBeatSlotArm a writeback t s
  | .beatSlotApply t => Sys2Proof.Machine.execBeatSlotApply t s
  | .beatPeakRead path be n t => Sys2Proof.Machine.execBeatPeakRead path be n t s
  | .syncReceived p sender origin corr log edge16 t => Sys2Proof.Machine.execSyncReceived p sender origin corr log edge16 t s
  | .announceReceived p a t => Sys2Proof.Machine.execAnnounceReceived p a t s
  | .announceReceiptTimeout t => Sys2Proof.Machine.execAnnounceReceiptTimeout t s
  | .syncReceiptTimeout t => Sys2Proof.Machine.execSyncReceiptTimeout t s
  | .timeJumpRefusedRepeat t => Sys2Proof.Machine.execTimeJumpRefusedRepeat t s
  | .announceTransmit p t => Sys2Proof.Machine.execAnnounceTransmit p t s
  | .syncTransmit p edge16 t => Sys2Proof.Machine.execSyncTransmit p edge16 t s
  | .ptpDelayRequest p edge16 t => Sys2Proof.Machine.execPtpDelayRequest p edge16 t s
  | .timeStepToMasterMean a t => Sys2Proof.Machine.execTimeStepToMasterMean a t s
  | .timeStepByValue a t => Sys2Proof.Machine.execTimeStepByValue a t s
  | .timeStepEvaluate t => Sys2Proof.Machine.execTimeStepEvaluate t s
  | .timeStepApply t => Sys2Proof.Machine.execTimeStepApply t s
  | .timeBeaconDue bad t => Sys2Proof.Machine.execTimeBeaconDue bad t s
  | .captureStart u edge16 width withStop => Sys2Proof.Machine.execCaptureStart u edge16 width withStop s
  | .captureStop u edge16 width => Sys2Proof.Machine.execCaptureStop u edge16 width s
  | .timePtpDiscardRead path be t => Sys2Proof.Machine.execTimePtpDiscardRead path be t s
  | .txFrame ring bad t => Sys2Proof.Machine.execTxFrame ring bad t s
  | .txNop d t => Sys2Proof.Machine.execTxNop d t s
  | .msixCoalescingTimer tx ring => Sys2Proof.Machine.execMsixCoalescingTimer tx ring s
  | .msixUnmask v => Sys2Proof.Machine.execMsixUnmask v s
  | .hostInterfaceEnable t => Sys2Proof.Machine.execHostInterfaceEnable t s
  | .hostInterfaceDisable t => Sys2Proof.Machine.execHostInterfaceDisable t s
  | .txRingEnable ring t => Sys2Proof.Machine.execTxRingEnable ring t s
  | .txRingDisable ring t => Sys2Proof.Machine.execTxRingDisable ring t s
  | .txRingDrained ring t => Sys2Proof.Machine.execTxRingDrained ring t s
  | .rxRingEnable ring t => Sys2Proof.Machine.execRxRingEnable ring t s
  | .rxRingDisable ring t => Sys2Proof.Machine.execRxRingDisable ring t s
  | .pcieLinkDown t => Sys2Proof.Machine.execPcieLinkDown t s
  | .pcieLinkUp t => Sys2Proof.Machine.execPcieLinkUp t s
  | .functionLevelReset t => Sys2Proof.Machine.execFunctionLevelReset t s
  | .routeLookup port w sof16 t => Sys2Proof.Machine.execRouteLookup port w sof16 t s
  | .fabCommitGo a t => Sys2Proof.Machine.execFabCommitGo a t s
  | .commitValidationDone t => Sys2Proof.Machine.execCommitValidationDone t s
  | .fabCommitApplied t => Sys2Proof.Machine.execFabCommitApplied t s
  | .runAheadCopyStart ingress egress bad t => Sys2Proof.Machine.execRunAheadCopyStart ingress egress bad t s
  | .abortDeadline egress t => Sys2Proof.Machine.execAbortDeadline egress t s
  | .fabRaRearm a route t => Sys2Proof.Machine.execFabRaRearm a route t s
  | .fabRaRearmed route t => Sys2Proof.Machine.execFabRaRearmed route t s
  | .canFrameValid n w sof16 eof16 bad t => Sys2Proof.Machine.execCanFrameValid n w sof16 eof16 bad t s
  | .canpProtoExc n t => Sys2Proof.Machine.execCanpProtoExc n t s
  | .canErrorDetected n code phase tx rule sof16 tdcv lost t => Sys2Proof.Machine.execCanErrorDetected n code phase tx rule sof16 tdcv lost t s
  | .canArbitrationLost n t => Sys2Proof.Machine.execCanArbitrationLost n t s
  | .canTxStart n fault t => Sys2Proof.Machine.execCanTxStart n fault t s
  | .canTxComplete n sof16 eof16 tdcv t => Sys2Proof.Machine.execCanTxComplete n sof16 eof16 tdcv t s
  | .canpBusOn n seqs t => Sys2Proof.Machine.execCanpBusOn n seqs t s
  | .canIntegrationDone n lost t => Sys2Proof.Machine.execCanIntegrationDone n lost t s
  | .canpTxdTimeout n phase t => Sys2Proof.Machine.execCanpTxdTimeout n phase t s
  | .canpTimingGo a n t => Sys2Proof.Machine.execCanpTimingGo a n t s
  | .canpTimingApply n busy t => Sys2Proof.Machine.execCanpTimingApply n busy t s
  | .canPortEnable n lost t => Sys2Proof.Machine.execCanPortEnable n lost t s
  | .canPortDisable n t => Sys2Proof.Machine.execCanPortDisable n t s
  | .canListenOnly n t => Sys2Proof.Machine.execCanListenOnly n t s
  | .canpLastErrRead path be n t => Sys2Proof.Machine.execCanpLastErrRead path be n t s
  | .reefSleep n busy t => Sys2Proof.Machine.execReefSleep n busy t s
  | .wakePattern n dom1 rec dom2 t => Sys2Proof.Machine.execWakePattern n dom1 rec dom2 t s
  | .wakeFrame n w t => Sys2Proof.Machine.execWakeFrame n w t s
  | .musterPreWake n t => Sys2Proof.Machine.execMusterPreWake n t s
  | .reefHostWake a n t => Sys2Proof.Machine.execReefHostWake a n t s
  | .reefDecWake n t => Sys2Proof.Machine.execReefDecWake n t s
  | .reefWakeComplete n t => Sys2Proof.Machine.execReefWakeComplete n t s
  | .reefTxWake n bad t => Sys2Proof.Machine.execReefTxWake n bad t s
  | .reefTxWakeDelay n t => Sys2Proof.Machine.execReefTxWakeDelay n t s
  | .reefInsomnia n t => Sys2Proof.Machine.execReefInsomnia n t s
  | .musterSpanEnd m t => Sys2Proof.Machine.execMusterSpanEnd m t s
  | .reefCommit a t => Sys2Proof.Machine.execReefCommit a t s
  | .reefCommitApply t => Sys2Proof.Machine.execReefCommitApply t s
  | .ethFrameReceived port data edge16 fcsOk unsupported bad t => Sys2Proof.Machine.execEthFrameReceived port data edge16 fcsOk unsupported bad t s
  | .ethTxStart port fault t => Sys2Proof.Machine.execEthTxStart port fault t s
  | .ethTxComplete port edge16 mv t => Sys2Proof.Machine.execEthTxComplete port edge16 mv t s
  | .ethLinkUp q anDone hiBer fecLock half speed lost t => Sys2Proof.Machine.execEthLinkUp q anDone hiBer fecLock half speed lost t s
  | .ethLinkDown q cause lost t => Sys2Proof.Machine.execEthLinkDown q cause lost t s
  | .lsecKeyWrite a l chan sa k salt v t => Sys2Proof.Machine.execLsecKeyWrite a l chan sa k salt v t s
  | .t1sTransmitOpportunity k t => Sys2Proof.Machine.execT1sTransmitOpportunity k t s
  | .plcaBeacon k mv t => Sys2Proof.Machine.execPlcaBeacon k mv t s
  | .plcaBeaconReceived k t => Sys2Proof.Machine.execPlcaBeaconReceived k t s
  | .t1sPlcaLost k t => Sys2Proof.Machine.execT1sPlcaLost k t s
  | .t1sPlcaOk k t => Sys2Proof.Machine.execT1sPlcaOk k t s
  | .t1sCollision k t => Sys2Proof.Machine.execT1sCollision k t s
  | .mdioAddress a phy reg t => Sys2Proof.Machine.execMdioAddress a phy reg t s
  | .mdioWrite a phy reg cl45 t => Sys2Proof.Machine.execMdioWrite a phy reg cl45 t s
  | .mdioRead a phy reg cl45 t => Sys2Proof.Machine.execMdioRead a phy reg cl45 t s
  | .mdioPostReadIncrement a phy reg cl45 t => Sys2Proof.Machine.execMdioPostReadIncrement a phy reg cl45 t s
  | .mdioDone data t => Sys2Proof.Machine.execMdioDone data t s
  | .smbWrite32 addr v pec t => Sys2Proof.Machine.execSmbWrite32 addr v pec t s
  | .smbRead32 addr pads t => Sys2Proof.Machine.execSmbRead32 addr pads t s
  | .smbId code t => Sys2Proof.Machine.execSmbId code t s
  | .smbSclTimeout t => Sys2Proof.Machine.execSmbSclTimeout t s
  | .serCharacter c line start16 bad t => Sys2Proof.Machine.execSerCharacter c line start16 bad t s
  | .serIdleClose c bad t => Sys2Proof.Machine.execSerIdleClose c bad t s
  | .serTxStart c fault abandoned t => Sys2Proof.Machine.execSerTxStart c fault abandoned t s
  | .serTxComplete c edge16 t => Sys2Proof.Machine.execSerTxComplete c edge16 t s
  | .ciphClearLoad a slot size attr t => Sys2Proof.Machine.execCiphClearLoad a slot size attr t s
  | .keyLoadLive t => Sys2Proof.Machine.execKeyLoadLive t s
  | .keyRetire a n t => Sys2Proof.Machine.execKeyRetire a n t s
  | .keyRetireApply n t => Sys2Proof.Machine.execKeyRetireApply n t s
  | .keyLimitReached n t => Sys2Proof.Machine.execKeyLimitReached n t s
  | .ciphKeyLow n t => Sys2Proof.Machine.execCiphKeyLow n t s
  | .ciphAlarm source present value high t => Sys2Proof.Machine.execCiphAlarm source present value high t s
  | .ciphAlarmClear ones present => Sys2Proof.Machine.execCiphAlarmClear ones present s
  | .ciphFvWrite a table index t => Sys2Proof.Machine.execCiphFvWrite a table index t s
  | .fvWriteApply t => Sys2Proof.Machine.execFvWriteApply t s
  | .cmacGen mismatches t => Sys2Proof.Machine.execCmacGen mismatches t s
  | .cmacVerify mismatches t => Sys2Proof.Machine.execCmacVerify mismatches t s
  | .ctr mismatches t => Sys2Proof.Machine.execCtr mismatches t s
  | .gcmEnc mismatches t => Sys2Proof.Machine.execGcmEnc mismatches t s
  | .gcmDec mismatches t => Sys2Proof.Machine.execGcmDec mismatches t s
  | .wrap mismatches t => Sys2Proof.Machine.execWrap mismatches t s
  | .unwrap mismatches t => Sys2Proof.Machine.execUnwrap mismatches t s
  | .slotTooShort t => Sys2Proof.Machine.execSlotTooShort t s
  | .nestFrameStart csi number c t => Sys2Proof.Machine.execNestFrameStart csi number c t s
  | .nestFrameEnd csi lines c t => Sys2Proof.Machine.execNestFrameEnd csi lines c t s
  | .nestTrayIdentity t => Sys2Proof.Machine.execNestTrayIdentity t s
  | .nestCommit a t => Sys2Proof.Machine.execNestCommit a t s
  | .nestCommitApply t => Sys2Proof.Machine.execNestCommitApply t s
  | .halyardHeartbeat frame t => Sys2Proof.Machine.execHalyardHeartbeat frame t s
  | .halyardDelta frame t => Sys2Proof.Machine.execHalyardDelta frame t s
  | .halyardImage frame t => Sys2Proof.Machine.execHalyardImage frame t s
  | .halyardImageReq frame t => Sys2Proof.Machine.execHalyardImageReq frame t s
  | .halyardMarker frame t => Sys2Proof.Machine.execHalyardMarker frame t s
  | .claimWatchdog t => Sys2Proof.Machine.execClaimWatchdog t s
  | .replayAgeExpiry t => Sys2Proof.Machine.execReplayAgeExpiry t s
  | .halHandover a t => Sys2Proof.Machine.execHalHandover a t s
  | .halUnfence a t => Sys2Proof.Machine.execHalUnfence a t s
  | .fenceEvidenceTimeout t => Sys2Proof.Machine.execFenceEvidenceTimeout t s
  | .autoYield t => Sys2Proof.Machine.execAutoYield t s
  | .domainClose d t => Sys2Proof.Machine.execDomainClose d t s
  | .domainWake d t => Sys2Proof.Machine.execDomainWake d t s
  | .pwrCtrlWake a d t => Sys2Proof.Machine.execPwrCtrlWake a d t s
  | .domainIdleClose d t => Sys2Proof.Machine.execDomainIdleClose d t s
  | .domainDrainEnd d t => Sys2Proof.Machine.execDomainDrainEnd d t s
  | .pwrDomainOff d lost t => Sys2Proof.Machine.execPwrDomainOff d lost t s
  | .pwrDomainOn d lost bad t => Sys2Proof.Machine.execPwrDomainOn d lost bad t s
  | .domainMusterWake d t => Sys2Proof.Machine.execDomainMusterWake d t s
  | .domainActivityWake uart unit t => Sys2Proof.Machine.execDomainActivityWake uart unit t s
  | .pwrMainFail t => Sys2Proof.Machine.execPwrMainFail t s
  | .mainGood t => Sys2Proof.Machine.execMainGood t s
  | .shedWindowEnd t => Sys2Proof.Machine.execShedWindowEnd t s
  | .pwrBraceAborted t => Sys2Proof.Machine.execPwrBraceAborted t s
  | .pwrBraceCommit progs t => Sys2Proof.Machine.execPwrBraceCommit progs t s
  | .pwrOnBackup t => Sys2Proof.Machine.execPwrOnBackup t s
  | .backupReturn t => Sys2Proof.Machine.execBackupReturn t s
  | .pwrOnMain bad t => Sys2Proof.Machine.execPwrOnMain bad t s
  | .termMeasurement n ohm16 t => Sys2Proof.Machine.execTermMeasurement n ohm16 t s
  | .shrFaultSet p code value held t => Sys2Proof.Machine.execShrFaultSet p code value held t s
  | .shrFaultCleared p code held t => Sys2Proof.Machine.execShrFaultCleared p code held t s
  | .pairSwap n t => Sys2Proof.Machine.execPairSwap n t s
  | .thermalShutdown p t => Sys2Proof.Machine.execThermalShutdown p t s
  | .thermalRecovery p t => Sys2Proof.Machine.execThermalRecovery p t s
  | .journalEntryProgram pulses bad t => Sys2Proof.Machine.execJournalEntryProgram pulses bad t s
  | .journalSectorErase fail t => Sys2Proof.Machine.execJournalSectorErase fail t s
  | .snapshotRound t => Sys2Proof.Machine.execSnapshotRound t s
  | .nvmCfgSave a t => Sys2Proof.Machine.execNvmCfgSave a t s
  | .nvmCfgSaved ok wear t => Sys2Proof.Machine.execNvmCfgSaved ok wear t s
  | .keyBackingEraseDone wear t => Sys2Proof.Machine.execKeyBackingEraseDone wear t s
  | .nvmUpdWrite a t => Sys2Proof.Machine.execNvmUpdWrite a t s
  | .updateSlotProgrammed header result t => Sys2Proof.Machine.execUpdateSlotProgrammed header result t s
  | .updateVerified sigOk digestOk t => Sys2Proof.Machine.execUpdateVerified sigOk digestOk t s
  | .nvmUpdActivate a clean force t => Sys2Proof.Machine.execNvmUpdActivate a clean force t s
  | .preparationDone ok body progs t => Sys2Proof.Machine.execPreparationDone ok body progs t s
  | .quiesceEnd t => Sys2Proof.Machine.execQuiesceEnd t s
  | .pauseEnd t => Sys2Proof.Machine.execPauseEnd t s
  | .pauseStartFailure t => Sys2Proof.Machine.execPauseStartFailure t s
  | .nvmUpdConfirm a t => Sys2Proof.Machine.execNvmUpdConfirm a t s
  | .nvmUpdFallback a t => Sys2Proof.Machine.execNvmUpdFallback a t s
  | .nvmUpdAbort a t => Sys2Proof.Machine.execNvmUpdAbort a t s
  | .confirmTimeout t => Sys2Proof.Machine.execConfirmTimeout t s
  | .nvmFallback t => Sys2Proof.Machine.execNvmFallback t s
  | .stateSkew unit t => Sys2Proof.Machine.execStateSkew unit t s
  | .registryRederive unit t => Sys2Proof.Machine.execRegistryRederive unit t s
  | .serviceRead src port r full pads t => Sys2Proof.Machine.execServiceRead src port r full pads t s
  | .serviceWrite src port r full t => Sys2Proof.Machine.execServiceWrite src port r full t s
  | .serviceSubscribe src port r full t => Sys2Proof.Machine.execServiceSubscribe src port r full t s
  | .serviceUnsubscribe src port r full t => Sys2Proof.Machine.execServiceUnsubscribe src port r full t s
  | .notify t => Sys2Proof.Machine.execNotify t s
  | .arpRequest mac ip target t => Sys2Proof.Machine.execArpRequest mac ip target t s
  | .icmpEcho src dst body t => Sys2Proof.Machine.execIcmpEcho src dst body t s
  | .neighbourDiscovery src target t => Sys2Proof.Machine.execNeighbourDiscovery src target t s
  | .icmpv6Echo src dst body t => Sys2Proof.Machine.execIcmpv6Echo src dst body t s
  | .mgtSnapGo a t => Sys2Proof.Machine.execMgtSnapGo a t s
  | .hostSnapshotLatch t => Sys2Proof.Machine.execHostSnapshotLatch t s
  | .mgtEccUncorr area index sel t => Sys2Proof.Machine.execMgtEccUncorr area index sel t s
  | .powerOnReset porst => Sys2Proof.Machine.execPowerOnReset porst s
  | .powerOnResetRelease unitId recovery main bkup vcan vsds bad => Sys2Proof.Machine.execPowerOnResetRelease unitId recovery main bkup vcan vsds bad s
  | .bootHandover t => Sys2Proof.Machine.execBootHandover t s
  | .bankConfigLive t => Sys2Proof.Machine.execBankConfigLive t s
  | .warmReset bad t => Sys2Proof.Machine.execWarmReset bad t s
  | .glbReset a v progs bad t => Sys2Proof.Machine.execGlbReset a v progs bad t s
  | .perstReset t => Sys2Proof.Machine.execPerstReset t s
  | .glbLock a t => Sys2Proof.Machine.execGlbLock a t s
  | .glbLocked t => Sys2Proof.Machine.execGlbLocked t s
  | .glbRailFault vsds t => Sys2Proof.Machine.execGlbRailFault vsds t s
  | .railReturn vsds t => Sys2Proof.Machine.execRailReturn vsds t s
  | .pinSet a w v t => Sys2Proof.Machine.execPinSet a w v t s
  | .pinClr a w v t => Sys2Proof.Machine.execPinClr a w v t s
  | .registerWrite a off v t => Sys2Proof.Machine.execRegisterWrite a off v t s
  | .configApply t => Sys2Proof.Machine.execConfigApply t s
  | .w1cWrite a off v t => Sys2Proof.Machine.execW1cWrite a off v t s
  | .registerRead64 path be off both pads t => Sys2Proof.Machine.execRegisterRead64 path be off both pads t s
  | .registerWrite64Low a off v t => Sys2Proof.Machine.execRegisterWrite64Low a off v t s
  | .glbAfClear a t => Sys2Proof.Machine.execGlbAfClear a t s
  | .delayReqInterval p egress16 resp t => Sys2Proof.Machine.execDelayReqInterval p egress16 resp t s
  | .halyardCrcError t => Sys2Proof.Machine.execHalyardCrcError t s
  | .mainNotGood t => Sys2Proof.Machine.execMainNotGood t s
  | .journalWindowRead path off corrected bad t => Sys2Proof.Machine.execJournalWindowRead path off corrected bad t s

end Sys2Proof.Machine
end

