-- ==== Sys2Proof/Safety.lean ====
section
/-! DEFINITION. What counts as a safe run, and the words of the statements: that a command completes, what it tells the
outside, and what it leaves alone. -/

namespace Sys2Proof.Machine

/-- The outcome is a next state with a property; nothing else is allowed. -/
def answers (o : Host.Outcome State Fault Refusal) (p : State → Prop) : Prop := ∃ t, o = .next t ∧ p t

/-- Every command waiting in the queue is well-formed. -/
def State.queueOk (s : State) : Bool := s.pending.all Instr.wf

/-- Power-on reset is not asserted. -/
def State.up (s : State) : Bool := s.glb.phase != .powerOnReset

/-- A write of all four byte lanes on an access path is taken: no reset, pause or recovery stands against it, and the
configuration lock is open. -/
def State.takes (s : State) (a : Access) : Prop :=
  s.up = true ∧ s.glb.phase ≠ .pause ∧ s.glb.phase ≠ .recovery ∧ s.glb.locked = false ∧ a.ok = true ∧ a.be = 15

/-- What a register of 32 bits holds after a write of all its lanes: the stored bits from the write, the rest as before. -/
def storedWord (r : RegRow) (old v : Word) : Word := (old &&& ~~~(BitVec.ofNat 32 r.st)) ||| (v &&& BitVec.ofNat 32 r.st)

/-- A register of 32 bits whose bits are all stored or ignored, and whose write does nothing beside: none of those that end
an override (PIN_OUT), let a message go (the MSI-X masks), request the lock or arm a change of the beat. -/
def plainRegister (off : Nat) (r : RegRow) : Bool :=
  !r.wide && r.st != 0 && r.w1c == 0 && r.wo == 0 && !readOnlyWindow off && off != Reg.GLB_LOCK &&
    off != Reg.BEAT_LEN_NEXT && off != Reg.BEAT_SLOT_NEXT2 && !decide (0x38000 ≤ off ∧ off < 0x39000) &&
    !decide (0x200400 ≤ off ∧ off < 0x200410)

/-- Does a class C register come into force alone: no check against live state, and nothing that follows it (a ring, a port, a
domain, the pair, the servo, the serial FIFOs)? -/
def comesAlone (off : Nat) : Bool :=
  !decide (0x20000 ≤ off ∧ off < 0x38000) && ((List.range 48).all fun n => off != Reg.CANP_MODE n) &&
    ((List.range 5).all fun q => off != Reg.ETH_Pq_MODE q) && ((List.range 4).all fun l => off != Reg.LSEC_Ll_CTRL l) &&
    ((List.range 8).all fun k => off != Reg.T1S_Ss_CFG k) &&
    ((List.range 16).all fun c => !decide (Reg.SER_Cc_CFG c ≤ off ∧ off < Reg.SER_Cc_STATUS c)) &&
    ((List.range 24).all fun d => off != Reg.PWR_Dd_CFG d) && off != Reg.FAB_HOSTBUF && off != Reg.HAL_CTRL &&
    off != Reg.HAL_CFG && off != Reg.HAL_EVID

/-- A write on an access path is taken with the byte lanes that it enables. -/
def State.takesLanes (s : State) (a : Access) : Prop :=
  s.up = true ∧ s.glb.phase ≠ .pause ∧ s.glb.phase ≠ .recovery ∧ s.glb.locked = false ∧ a.ok = true ∧ a.be ≠ 0

/-- A command field has been written: its request waits for the commit slot, behind those that wait already, once. -/
def State.waitsFor (s t : State) (c : RegCmd) : Prop :=
  t.cmds = if s.cmds.contains c then s.cmds else s.cmds ++ [c]

/-- Some steps, one after the other. -/
def steps : Nat → State → Host.Outcome State Fault Refusal
  | 0, s => .next s
  | k + 1, s =>
    match step s with
    | .next t => steps k t
    | .fault f => .fault f
    | .refused r => .refused r

/-- The command just run has raised an event with this code, unit and detail. -/
def State.told (s : State) (code unit : Nat) (detail : List Detail) : Prop :=
  ∃ e ∈ s.ev.raised, e.code = code ∧ e.unit = unit ∧ e.detail = detail

/-! ### Frames -/

/-- The parts of the state beside the registers, the queue and the outputs of the last command. -/
inductive Part where
  | free | live | paced | cmds | glb | beat | time | ev | hif | fab | ra | can | reef | eth | ser | ciph | nest | hal | pwr
  | shr | pin | nvm | mgt
  deriving DecidableEq, Repr

/-- A part is the same in two states; of the time unit all but the time itself, of the event unit all but what the last
command raised. -/
def Part.same (p : Part) (s t : State) : Prop :=
  match p with
  | .free => t.free = s.free
  | .live => t.live = s.live
  | .paced => t.paced = s.paced
  | .cmds => t.cmds = s.cmds
  | .glb => t.glb = s.glb
  | .beat => t.beat = s.beat
  | .time => t.time = { s.time with now := t.time.now }
  | .ev => t.ev = { s.ev with raised := t.ev.raised }
  | .hif => t.hif = s.hif
  | .fab => t.fab = s.fab
  | .ra => t.ra = s.ra
  | .can => t.can = s.can
  | .reef => t.reef = s.reef
  | .eth => t.eth = s.eth
  | .ser => t.ser = s.ser
  | .ciph => t.ciph = s.ciph
  | .nest => t.nest = s.nest
  | .hal => t.hal = s.hal
  | .pwr => t.pwr = s.pwr
  | .shr => t.shr = s.shr
  | .pin => t.pin = s.pin
  | .nvm => t.nvm = s.nvm
  | .mgt => t.mgt = s.mgt

/-- Every part but those listed is the same. -/
def State.keeps (s t : State) (touched : List Part) : Prop := ∀ p : Part, p ∉ touched → p.same s t

/-- Every register but those listed reads the same. -/
def State.keepsRegs (s t : State) (touched : List Nat) : Prop := ∀ off, off ∉ touched → t.reg off = s.reg off

/-- The parts that raising an event changes: the event unit, RX ring 63, the journal buffer, the events held in a brace. -/
def eventParts : List Part := [.ev, .hif, .nvm, .pwr]

/-- The registers that raising an event can change: the counters of entries that find the journal buffer or RX ring 63
full. -/
def dropCounters : List Nat :=
  [Reg.NVM_CNTk 1, Reg.NVM_CNTk 1 + 4, Reg.HIF_RXn_DROP 63, Reg.HIF_RXn_DROP 63 + 4]

/-- The two doublewords of a 64-bit register. -/
def pair64 (off : Nat) : List Nat := [off, off + 4]

/-- The beat in progress, the phase, and every GLB and BEAT register are the same (offsets below 0x20000). -/
def State.sameBeat (s t : State) : Prop :=
  t.beat.start = s.beat.start ∧ t.beat.next = s.beat.next ∧ t.beat.started = s.beat.started ∧
    t.glb.phase = s.glb.phase ∧ ∀ off, off < 0x20000 → t.reg off = s.reg off

/-- The update's target, the boot ROM's choice and the ACTIVE slot of each boot pointer copy name one of the flash's two image
slots (Table 16.8). -/
def State.slotsNamed (s : State) : Bool :=
  decide (s.nvm.target < 2) && decide (s.glb.bootSlot < 2) && s.nvm.ptrs.all fun e => decide (e.2.active < 2)

/-- Is the command none of those that can move the beat, change the phase or change a GLB or BEAT register? The commands that
can: register accesses on any path, the slots and boundaries of the beat, time steps and the lock decision, domains whose supply
stops the firmware, start, resets, pauses and brace. -/
def leavesBeat (c : Instr) : Bool :=
  match c with
  | .beatBoundary .. | .commitSlot .. | .authenticationSlot .. | .serviceSlot .. | .writebackSlot .. | .slotEnd ..
  | .beatCommitAbandoned .. | .beatRealigned .. | .beatLenArm .. | .beatLenChanged .. | .beatSlotArm ..
  | .beatSlotApply .. | .claimWindow .. | .beatPeakRead .. | .syncReceived .. | .timeStepToMasterMean .. | .timeStepByValue ..
  | .timeStepApply .. | .timePtpDiscardRead .. | .fabCommitGo .. | .fabRaRearm .. | .canpTimingGo ..
  | .canpLastErrRead .. | .reefHostWake .. | .reefCommit .. | .lsecKeyWrite .. | .mdioAddress .. | .mdioWrite ..
  | .mdioRead .. | .mdioPostReadIncrement .. | .smbWrite32 .. | .smbRead32 .. | .smbId .. | .ciphClearLoad ..
  | .keyRetire .. | .ciphFvWrite .. | .nestCommit .. | .halHandover .. | .halUnfence .. | .pwrCtrlWake ..
  | .pwrDomainOff .. | .pwrDomainOn .. | .pwrMainFail .. | .pwrOnBackup .. | .pwrOnMain .. | .nvmCfgSave ..
  | .nvmUpdWrite .. | .nvmUpdActivate .. | .preparationDone .. | .quiesceEnd .. | .pauseEnd ..
  | .pauseStartFailure .. | .nvmUpdConfirm .. | .nvmUpdFallback .. | .nvmUpdAbort .. | .confirmTimeout ..
  | .nvmFallback .. | .serviceRead .. | .serviceWrite .. | .serviceSubscribe .. | .serviceUnsubscribe ..
  | .mgtSnapGo .. | .mgtEccUncorr .. | .powerOnReset .. | .powerOnResetRelease .. | .bootHandover ..
  | .bankConfigLive .. | .warmReset .. | .glbReset .. | .glbLock .. | .glbLocked .. | .glbRailFault .. | .pinSet ..
  | .pinClr .. | .registerWrite .. | .configApply .. | .w1cWrite .. | .registerRead64 .. | .registerWrite64Low ..
  | .glbAfClear .. | .journalWindowRead .. => false
  | _ => true

end Sys2Proof.Machine
end

