-- ==== Sys2Proof/Certificates/Slice0/Obligations.lean ====
section
/-! DEFINITION. The statements for the provers: what each command does, what it leaves alone, and what holds of the block as a
whole. -/

open Sys2Proof Sys2Proof.Machine

/-! ### The queue and the block as a whole -/

/-- A step with a command at the front of the queue is that command's meaning on the state with the queue's rest; on an empty
queue the block idles (the model's choice, log entry 1). -/
def Obligations.StepRunsTheCommandInFront : Prop :=
  (∀ (c : Instr) (rest : List Instr) (s : State),
    step { s with pending := c :: rest } = exec c { s with pending := rest }) ∧
  ∀ s : State, s.pending = [] → step s = .next s

/-- Every command on well-formed operands answers a next state with the queue as it was; any other is refused as
noSuchUnit (the model's choice, log entry 2). -/
def Obligations.EveryWellFormedCommandCompletes : Prop :=
  ∀ (c : Instr) (s : State),
    (c.wf = true → answers (exec c s) fun t => t.pending = s.pending) ∧
    (c.wf = false → ∃ m : String, exec c s = .refused (.noSuchUnit m))

/-- A queue of well-formed commands is served to its end: no step faults or refuses, and each takes one command. -/
def Obligations.AWellFormedQueueRunsToItsEnd : Prop :=
  ∀ s : State, s.queueOk = true → answers (steps s.pending.length s) fun t => t.pending = []

/-- The invariant of the queue: from every state in which it holds, a step answers a next state, and it holds there. -/
def Obligations.WellFormedQueuesStayWellFormed : Prop :=
  ∀ s : State, s.queueOk = true → answers (step s) fun t => t.queueOk = true

/-- While power-on reset is asserted, every command but POWER_ON_RESET and POWER_ON_RESET_RELEASE leaves the state (DEDUCED,
log entry 3). -/
def Obligations.PowerOnResetHoldsEveryCommand : Prop :=
  ∀ (c : Instr) (s : State), s.up = false → c.wf = true →
    (match c with
     | .powerOnReset .. => True
     | .powerOnResetRelease .. => True
     | _ => exec c s = .next s.begin)

/-- Slots 0 and 1 are the only ones (Table 16.8), and the minimum security version only rises (R418). -/
def Obligations.EverySlotNumberNamesASlotAndTheMinimumNeverFalls : Prop :=
  ∀ s u : State, s.slotsNamed = true → step s = .next u → u.slotsNamed = true ∧ s.nvm.minSvn ≤ u.nvm.minSvn

/-- State.reset: the invariant of the slots, and the registry's words (R423). -/
def Obligations.ResetNamesSlotsAndSetsEveryUnitsWord : Prop :=
  State.reset.slotsNamed = true ∧ State.reset.pending = [] ∧
    ∀ unit ∈ registryUnits, State.reset.word unit = { code := State.reset.presentState unit, epoch := 1 }

/-- Isolation of the beat: whatever arrives on a port, a ring, the host link or the Halyard link, the beat in progress, its next
boundary, the phase of the part and every GLB and BEAT register stay. -/
def Obligations.OnlyItsOwnCommandsMoveTheBeat : Prop :=
  ∀ (c : Instr) (s t : State), leavesBeat c = true → exec c s = .next t → s.sameBeat t

/-! ### Register writes -/

/-- FAB_RA_REARM, REEF_HOST_WAKE, KEY_RETIRE, PWR_CTRL_WAKE and NVM_CFG_SAVE: the request waits, and nothing else changes. -/
def Obligations.CommandFieldsWaitForTheirCommitSlot : Prop :=
  ∀ (a : Access) (t : Tai) (s : State), s.takes a →
    (∀ route < 4096, answers (exec (.fabRaRearm a route t) s) fun u =>
      s.waitsFor u (.raRearm route) ∧ s.keepsRegs u [] ∧ s.keeps u [.cmds]) ∧
    (∀ n < 48, answers (exec (.reefHostWake a n t) s) fun u =>
      s.waitsFor u (.reefWake n) ∧ s.keepsRegs u [] ∧ s.keeps u [.cmds]) ∧
    (∀ n < 64, answers (exec (.keyRetire a n t) s) fun u =>
      s.waitsFor u (.keyRetire n) ∧ s.keepsRegs u [] ∧ s.keeps u [.cmds]) ∧
    (∀ d < 24, answers (exec (.pwrCtrlWake a d t) s) fun u =>
      s.waitsFor u (.pwrWake d) ∧ s.keepsRegs u [] ∧ s.keeps u [.cmds]) ∧
    answers (exec (.nvmCfgSave a t) s) fun u =>
      s.waitsFor u .nvmSave ∧ s.keepsRegs u [] ∧ s.keeps u [.cmds]

/-- The time-step and update commands: each request waits at the end of the queue of requests, and nothing else changes. -/
def Obligations.StepAndUpdateRequestsQueueInOrder : Prop :=
  ∀ (a : Access) (t : Tai) (s : State), s.takes a →
    (answers (exec (.timeStepToMasterMean a t) s) fun u =>
      u.cmds = s.cmds ++ [.step 1] ∧ s.keepsRegs u [] ∧ s.keeps u [.cmds]) ∧
    (answers (exec (.timeStepByValue a t) s) fun u =>
      u.cmds = s.cmds ++ [.step 2] ∧ s.keepsRegs u [] ∧ s.keeps u [.cmds]) ∧
    (answers (exec (.nvmUpdWrite a t) s) fun u =>
      u.cmds = s.cmds ++ [.nvmUpd 1] ∧ s.keepsRegs u [] ∧ s.keeps u [.cmds]) ∧
    (∀ clean force : Bool, answers (exec (.nvmUpdActivate a clean force t) s) fun u =>
      u.cmds = s.cmds ++ [.nvmUpd (2 + 256 * b2n clean + 512 * b2n force)] ∧ s.keepsRegs u [] ∧ s.keeps u [.cmds]) ∧
    (answers (exec (.nvmUpdConfirm a t) s) fun u =>
      u.cmds = s.cmds ++ [.nvmUpd 4] ∧ s.keepsRegs u [] ∧ s.keeps u [.cmds]) ∧
    (answers (exec (.nvmUpdFallback a t) s) fun u =>
      u.cmds = s.cmds ++ [.nvmUpd 8] ∧ s.keepsRegs u [] ∧ s.keeps u [.cmds]) ∧
    answers (exec (.nvmUpdAbort a t) s) fun u =>
      u.cmds = s.cmds ++ [.nvmUpd 16] ∧ s.keepsRegs u [] ∧ s.keeps u [.cmds]

/-- CANP_TIMING_GO, REEF_COMMIT, NEST_COMMIT, MGT_SNAP_GO and FAB_COMMIT_GO: the status that shows the request, the request,
and nothing else. -/
def Obligations.CommitRequestsShowPending : Prop :=
  ∀ (a : Access) (t : Tai) (s : State), s.takes a →
    (∀ n < 48, answers (exec (.canpTimingGo a n t) s) fun u =>
      u.get (Fld.CANP_STATUS_TIMING_PENDING n) = 1 ∧ s.waitsFor u (.canTiming n) ∧ s.keepsRegs u [Reg.CANP_STATUS n] ∧
        s.keeps u [.cmds]) ∧
    (answers (exec (.reefCommit a t) s) fun u =>
      u.get Fld.REEF_STATUS_PENDING = 1 ∧ s.waitsFor u .reefCommit ∧ s.keepsRegs u [Reg.REEF_STATUS] ∧ s.keeps u [.cmds]) ∧
    (answers (exec (.nestCommit a t) s) fun u =>
      u.get Fld.NEST_STATUS_PENDING = 1 ∧ s.waitsFor u .nestCommit ∧ s.keepsRegs u [Reg.NEST_STATUS] ∧ s.keeps u [.cmds]) ∧
    (s.get Fld.MGT_SNAP_STAT_PENDING ≠ 1 → answers (exec (.mgtSnapGo a t) s) fun u =>
      u.get Fld.MGT_SNAP_STAT_PENDING = 1 ∧ s.waitsFor u .snapGo ∧ s.keepsRegs u [Reg.MGT_SNAP_STAT] ∧ s.keeps u [.cmds]) ∧
    (s.get Fld.FAB_STATUS_COMMIT = 0 → answers (exec (.fabCommitGo a t) s) fun u =>
      u.get Fld.FAB_STATUS_COMMIT = 1 ∧ u.reg Reg.FAB_COMMIT_RES = 1#32 ∧
        s.keepsRegs u [Reg.FAB_STATUS, Reg.FAB_COMMIT_RES] ∧ s.keeps u []) ∧
    (s.get Fld.FAB_STATUS_COMMIT ≠ 0 → answers (exec (.fabCommitGo a t) s) fun u =>
      s.keepsRegs u [] ∧ s.keeps u [])

/-- PIN_SET and PIN_CLR: the one bits of the enabled lanes are set or cleared in PIN_OUT at once, and the overrides of their pins
end. -/
def Obligations.PinCommandsSetAndClearTheirBits : Prop :=
  ∀ (a : Access) (w : Nat) (v : Word) (t : Tai) (s : State), s.takesLanes a → w < 4 → v.toNat.land (laneMask a.be) ≠ 0 →
    let m : Nat := v.toNat.land (laneMask a.be)
    let gone := s.pin.override.filter fun e => !(e.1 / 32 == w && bit m (e.1 % 32))
    (answers (exec (.pinSet a w v t) s) fun u =>
      u.reg (Reg.PIN_OUTw w) = s.reg (Reg.PIN_OUTw w) ||| BitVec.ofNat 32 m ∧
        u.liveReg (Reg.PIN_OUTw w) = u.reg (Reg.PIN_OUTw w) ∧ u.pin = { s.pin with override := gone } ∧
        s.keepsRegs u [Reg.PIN_OUTw w] ∧ s.keeps u [.live, .pin]) ∧
    (answers (exec (.pinClr a w v t) s) fun u =>
      u.reg (Reg.PIN_OUTw w) = s.reg (Reg.PIN_OUTw w) &&& ~~~BitVec.ofNat 32 m ∧
        u.liveReg (Reg.PIN_OUTw w) = u.reg (Reg.PIN_OUTw w) ∧ u.pin = { s.pin with override := gone } ∧
        s.keepsRegs u [Reg.PIN_OUTw w] ∧ s.keeps u [.live, .pin])

/-! ### Requests with checks of their own -/

/-- GLB_LOCK: LOCK and PENDING read one and the request waits. GLB_AF_CLEAR: the eight entries and the write index are zero,
and nothing else changes. HAL_HANDOVER and HAL_UNFENCE: the request waits; HAL_CTRL is written with its own enables. -/
def Obligations.LockLogAndHalyardRequestsDoOnlyTheirOwn : Prop :=
  ∀ (a : Access) (t : Tai) (s : State), s.takes a →
    (answers (exec (.glbLock a t) s) fun u =>
      u.reg Reg.GLB_LOCK = s.reg Reg.GLB_LOCK ||| 3#32 ∧ s.waitsFor u .glbLock ∧ u.glb.locked = false ∧
        s.keepsRegs u [Reg.GLB_LOCK] ∧ s.keeps u [.cmds]) ∧
    (answers (exec (.glbAfClear a t) s) fun u =>
      (∀ i < 8, u.reg (Reg.GLB_AFi_ADDR i) = 0#32 ∧ u.reg (Reg.GLB_AFi_INFO i) = 0#32 ∧ u.reg64 (Reg.GLB_AFi_TIME i) = 0) ∧
        u.reg Reg.GLB_AF_NEXT = 0#32 ∧
        (∀ off, ¬(0x100 ≤ off ∧ off < 0x180) → off ≠ Reg.GLB_AF_NEXT → u.reg off = s.reg off) ∧ s.keeps u []) ∧
    (answers (exec (.halHandover a t) s) fun u =>
      s.waitsFor u .handover ∧ u.get Fld.NVM_STATUS_CFG_DIRTY = 1 ∧ s.keepsRegs u [Reg.NVM_STATUS] ∧
        s.keeps u [.cmds, .paced]) ∧
    answers (exec (.halUnfence a t) s) fun u =>
      s.waitsFor u .unfence ∧ u.get Fld.NVM_STATUS_CFG_DIRTY = 1 ∧ s.keepsRegs u [Reg.NVM_STATUS] ∧
        s.keeps u [.cmds, .paced]

/-- GLB_RESET (R453): a warm reset with WARM 1 and CONFIRM 0x4830, nothing with any other value. -/
def Obligations.ResetNeedsItsConfirmCode : Prop :=
  ∀ (a : Access) (v : Word) (progs : List (Nat × Bool)) (bad : List (Nat × Nat)) (t : Tai) (s : State), s.takes a →
    (Instr.glbReset a v progs bad t).wf = true →
    answers (exec (.glbReset a v progs bad t) s) fun u =>
      if bit v.toNat 0 = true ∧ bits v.toNat 31 16 = 0x4830 then
        (if s.get Fld.PWR_STATUS_BRACE = 0 then
           (u.glb.phase = .boot ∧ u.glb.cause = 4) ∨ (u.glb.phase = .recovery ∧ u.glb.cause = 8)
         else u.glb = { s.glb with warmDue := some 4 })
      else s.keepsRegs u [] ∧ s.keeps u []

/-- The MDIO commands: the transaction that starts, or waits. -/
def Obligations.MdioStartsOneTransaction : Prop :=
  ∀ (a : Access) (phy reg : Nat) (cl45 : Bool) (t : Tai) (s : State), s.takes a → phy < 32 → reg < 32 →
    s.get Fld.ETH_MDIO_CMD_BUSY = 0 →
    ∀ c ∈ [(Instr.mdioAddress a phy reg t, 0, true), (Instr.mdioWrite a phy reg cl45 t, 1, cl45),
        (Instr.mdioRead a phy reg cl45 t, 2, cl45), (Instr.mdioPostReadIncrement a phy reg cl45 t, 3, cl45)],
      answers (exec c.1 s) fun u =>
        let data := s.get Fld.ETH_MDIO_DATA_DATA
        u.get Fld.ETH_MDIO_CMD_PHYAD = phy ∧ u.get Fld.ETH_MDIO_CMD_REG = reg ∧ u.get Fld.ETH_MDIO_CMD_OP = c.2.1 ∧
          u.get Fld.ETH_MDIO_CMD_CL45 = b2n c.2.2 ∧ s.keepsRegs u [Reg.ETH_MDIO_CMD, Reg.NVM_STATUS] ∧
          (s.domain 22 = 2 →
            u.get Fld.ETH_MDIO_CMD_BUSY = 1 ∧
              u.eth = { s.eth with mdio := some { op := c.2.1, cl45 := c.2.2, phy := phy, reg := reg, data := data } } ∧
              u.out = [.mdio c.2.1 phy reg data] ∧ s.keeps u [.live, .eth]) ∧
          (s.domain 22 ≠ 2 →
            u.get Fld.ETH_MDIO_CMD_BUSY = 0 ∧ s.waitsFor u (.mdio c.2.1) ∧ u.out = [] ∧ s.keeps u [.live, .cmds])

/-- CIPH_CLEAR_LOAD: the load staged, or the rejection. CIPH_FV_WRITE: the write that waits, or the rejection. -/
def Obligations.ClearLoadsAndFreshnessWritesWait : Prop :=
  ∀ (a : Access) (t : Tai) (s : State), s.takes a →
    (∀ slot size attr, slot < 64 → size < 4 → attr < 64 →
      (size ≠ 3 → badAttr attr = false → s.loadRefused attr = false →
        answers (exec (.ciphClearLoad a slot size attr t) s) fun u =>
          u.get (Fld.CIPH_KSn_STAT_STATE slot) = 3 ∧
            (∃ l, u.ciph = { s.ciph with loads := s.ciph.loads.filter (fun x => x.slot != slot) ++ [l] } ∧ l.slot = slot ∧
              l.size = size ∧ l.attr = attr ∧ l.limit = s.w Reg.CIPH_CLR_LIMIT ∧ l.key = s.clearKey size) ∧
            s.keepsRegs u [Reg.CIPH_CLR_CTRL, Reg.CIPH_KSn_STAT slot] ∧ s.keeps u [.live, .ciph]) ∧
      (∀ err, ((size = 3 ∧ err = 1) ∨ (size ≠ 3 ∧ badAttr attr = true ∧ err = 2) ∨
          (size ≠ 3 ∧ badAttr attr = false ∧ s.loadRefused attr = true ∧ err = 16)) →
        answers (exec (.ciphClearLoad a slot size attr t) s) fun u =>
          u.reg Reg.CIPH_CFG_ERR = s.reg Reg.CIPH_CFG_ERR ||| BitVec.ofNat 32 err ∧
            (∃ d, u.told 0x0C07 0 d) ∧ u.ciph = s.ciph ∧
            s.keepsRegs u (Reg.CIPH_CLR_CTRL :: Reg.CIPH_CFG_ERR :: dropCounters) ∧ s.keeps u (.live :: eventParts))) ∧
    (∀ table index, table < 4 → index < 65536 →
      (table = 0 ∨ (table < 3 ∧ index < 48) → answers (exec (.ciphFvWrite a table index t) s) fun u =>
        u.get Fld.CIPH_FV_STAT_PENDING = 1 ∧ s.waitsFor u (.fvWrite table index (s.reg64 Reg.CIPH_FV_DATA)) ∧
          s.keepsRegs u [Reg.CIPH_FV_SEL, Reg.CIPH_FV_STAT] ∧ s.keeps u [.live, .cmds]) ∧
      (table = 3 ∨ (table ≠ 0 ∧ 48 ≤ index) → answers (exec (.ciphFvWrite a table index t) s) fun u =>
        u.reg Reg.CIPH_CFG_ERR = s.reg Reg.CIPH_CFG_ERR ||| 8#32 ∧ (∃ d, u.told 0x0C07 0 d) ∧ u.cmds = s.cmds ∧
          s.keepsRegs u (Reg.CIPH_FV_SEL :: Reg.CIPH_CFG_ERR :: dropCounters) ∧ s.keeps u (.live :: eventParts)))

/-! ### The register file -/

/-- REGISTER_WRITE of an accepted value: what is stored, when it takes effect, and what stays. -/
def Obligations.AcceptedValuesAreStored : Prop :=
  ∀ (a : Access) (off : Nat) (r : RegRow) (v : Word) (t : Tai) (s : State), s.takes a → bar0 off = true →
    RegMap.find off = some r → r.wide = false → r.st ≠ 0 → r.w1c = 0 → r.wo = 0 → readOnlyWindow off = false →
    off ≠ Reg.GLB_LOCK → s.valueChecks off (storedWord r (s.reg off) v).toNat = [] →
    answers (exec (.registerWrite a off v t) s) fun u =>
      u.reg off = storedWord r (s.reg off) v ∧
        (r.cls = .immediate → u.liveReg off = u.reg off) ∧
        (r.cls = .commit → u.liveReg off = s.liveReg off ∧ off ∈ u.paced) ∧
        (r.cls = .staged → u.liveReg off = s.liveReg off ∧ u.paced = s.paced) ∧
        (plainRegister off r = true →
          s.keepsRegs u (if inImage off then [off, Reg.NVM_STATUS] else [off]) ∧
            (inImage off = true → u.get Fld.NVM_STATUS_CFG_DIRTY = 1) ∧ s.keeps u [.live, .paced])

/-- REGISTER_WRITE of a rejected value: the fields that keep their value, the CFG_ERR bits and the event. -/
def Obligations.RejectedValuesAreReported : Prop :=
  ∀ (a : Access) (off : Nat) (r : RegRow) (v : Word) (t : Tai) (s : State), s.takes a → bar0 off = true →
    RegMap.find off = some r → plainRegister off r = true →
    let rejected := s.valueChecks off (storedWord r (s.reg off) v).toNat
    let kept : Nat := rejected.foldl (fun (m : Nat) (x : Rejected) => m ||| x.mask) 0
    let errors : Nat := rejected.foldl (fun (m : Nat) (x : Rejected) => m ||| x.err) 0
    rejected ≠ [] →
      answers (exec (.registerWrite a off v t) s) fun u =>
        u.reg off = (storedWord r (s.reg off) v &&& ~~~BitVec.ofNat 32 kept) ||| (s.reg off &&& BitVec.ofNat 32 kept) ∧
          u.reg (cfgEvent off).1 = s.reg (cfgEvent off).1 ||| BitVec.ofNat 32 errors ∧
          (∃ d, u.told (cfgEvent off).2.1 (cfgEvent off).2.2 d) ∧
          ((∃ x ∈ rejected, x.mask = 2 ^ 32 - 1) →
            s.keepsRegs u ((cfgEvent off).1 :: dropCounters) ∧ s.keeps u eventParts)

/-- W1C registers: the ones written clear their bits, and nothing else changes. -/
def Obligations.OnesClearFlags : Prop :=
  ∀ (a : Access) (off : Nat) (r : RegRow) (v : Word) (t : Tai) (s : State), s.takes a → bar0 off = true →
    RegMap.find off = some r → r.wide = false → r.st = 0 → r.w1c ≠ 0 → r.wo = 0 → readOnlyWindow off = false →
    off ≠ Reg.CIPH_ALARM →
    ∀ c ∈ [Instr.w1cWrite a off v t, Instr.registerWrite a off v t], answers (exec c s) fun u =>
      u.reg off = s.reg off &&& ~~~(v &&& BitVec.ofNat 32 r.w1c) ∧ s.keepsRegs u [off] ∧ s.keeps u []

/-- 64-bit registers: the low half is staged on its path, the high half writes both. -/
def Obligations.WideRegistersChangeInOnePiece : Prop :=
  ∀ (a : Access) (off : Nat) (r : RegRow) (v : Word) (t : Tai) (s : State), s.takes a → bar0 off = true →
    RegMap.find off = some r → r.wide = true → r.st ≠ 0 → readOnlyWindow off = false →
    (r.isHigh off = false → off % 8 = 0 → answers (exec (.registerWrite64Low a off v t) s) fun u =>
      u.glb = { s.glb with stage := SMap.put s.glb.stage a.path { off := off, val := v } } ∧ s.keepsRegs u [] ∧
        s.keeps u [.glb]) ∧
    (r.isHigh off = true → 4 ≤ off →
      let low := match SMap.look s.glb.stage a.path with
        | some h => if h.off = off - 4 then h.val else s.reg (off - 4)
        | none => s.reg (off - 4)
      wideBad (off - 4) (low.toNat + 2 ^ 32 * v.toNat) = false →
      answers (exec (.registerWrite a off v t) s) fun u =>
        u.reg (off - 4) = low &&& BitVec.ofNat 32 r.st ∧ u.reg off = v &&& BitVec.ofNat 32 (r.st / 2 ^ 32) ∧
          u.glb = { s.glb with stage := SMap.del s.glb.stage a.path } ∧
          s.keepsRegs u [off - 4, off, Reg.NVM_STATUS] ∧ s.keeps u [.glb, .live, .paced])

/-- REGISTER_WRITE that is discarded: the log, the counter and the event. -/
def Obligations.DiscardedWritesAreLogged : Prop :=
  ∀ (a : Access) (off : Nat) (v : Word) (t : Tai) (s : State), s.up = true → a.ok = true → bar0 off = true →
    (a.be = 0 → answers (exec (.registerWrite a off v t) s) fun u => s.keepsRegs u [] ∧ s.keeps u []) ∧
    ∀ reason : Nat, a.be ≠ 0 →
      ((s.glb.phase = .pause ∧ reason = 5) ∨
        (s.glb.phase = .recovery ∧ recoveryOpen off = false ∧ reason = 6) ∨
        (s.glb.phase ≠ .pause ∧ s.glb.phase ≠ .recovery ∧
          ((readOnlyWindow off = true ∧ reason = 3) ∨
            (readOnlyWindow off = false ∧ RegMap.find off = none ∧ reason = 2) ∨
            (readOnlyWindow off = false ∧ a.be ≠ 15 ∧ (∃ r, RegMap.find off = some r ∧ r.bl = false) ∧ reason = 1)))) →
      let i := s.get ⟨Reg.GLB_AF_NEXT, 2, 0⟩
      answers (exec (.registerWrite a off v t) s) fun u =>
        u.reg64 Reg.GLB_AF_CNT = (s.reg64 Reg.GLB_AF_CNT + 1) % 2 ^ 64 ∧ u.reg (Reg.GLB_AFi_ADDR i) = BitVec.ofNat 32 off ∧
          u.reg (Reg.GLB_AFi_INFO i) = BitVec.ofNat 32 (accessInfo a reason) ∧
          u.reg64 (Reg.GLB_AFi_TIME i) = max s.time.now t % 2 ^ 64 ∧ u.get ⟨Reg.GLB_AF_NEXT, 2, 0⟩ = (i + 1) % 8 ∧
          ((s.at t).firstInSecond (0x0101 * 65536) = true → u.told 0x0101 0 [n4 off, n4 (accessInfo a reason)]) ∧
          s.keepsRegs u (Reg.GLB_AFi_ADDR i :: Reg.GLB_AFi_INFO i :: Reg.GLB_AF_NEXT ::
            (pair64 Reg.GLB_AF_CNT ++ pair64 (Reg.GLB_AFi_TIME i) ++ dropCounters)) ∧
          s.keeps u eventParts

/-- REGISTER_WRITE against the closed lock: the register stays, and a write that would have changed it is logged. -/
def Obligations.ClosedFieldsKeepTheirValue : Prop :=
  ∀ (a : Access) (off : Nat) (r : RegRow) (v : Word) (t : Tai) (s : State), s.up = true → s.glb.phase ≠ .pause →
    s.glb.phase ≠ .recovery → s.glb.locked = true → a.ok = true → a.be = 15 → bar0 off = true →
    RegMap.find off = some r → plainRegister off r = true → r.lck = r.st → s.valueChecks off (s.reg off).toNat = [] →
    answers (exec (.registerWrite a off v t) s) fun u =>
      u.reg off = s.reg off ∧
        u.reg64 Reg.GLB_AF_CNT = (s.reg64 Reg.GLB_AF_CNT + if storedWord r (s.reg off) v = s.reg off then 0 else 1) % 2 ^ 64

/-- BEAT_LEN_ARM and BEAT_SLOT_ARM: the armed value, or its rejection. LSEC_KEY_WRITE: the word stored, and VALID after
KEY0. -/
def Obligations.ArmedValuesAndKeyWordsAreStored : Prop :=
  ∀ (a : Access) (t : Tai) (s : State), s.takes a →
    (∀ len ≤ 4, answers (exec (.beatLenArm a len t) s) fun u =>
      u.get Fld.BEAT_LEN_NEXT_LEN = len ∧ u.get Fld.BEAT_LEN_NEXT_ARM = 1 ∧
        u.get Fld.BEAT_STATUS_LEN_ARMED = b2n s.beat.lenSampled ∧
        u.get Fld.NVM_STATUS_CFG_DIRTY = 1 ∧ u.get Fld.BEAT_STATUS_LEN_CUR = s.get Fld.BEAT_STATUS_LEN_CUR ∧
        s.keepsRegs u [Reg.BEAT_LEN_NEXT, Reg.BEAT_STATUS, Reg.NVM_STATUS] ∧ s.keeps u []) ∧
    (∀ len, 5 ≤ len → len ≤ 7 → answers (exec (.beatLenArm a len t) s) fun u =>
      u.reg Reg.BEAT_CFG_ERR = s.reg Reg.BEAT_CFG_ERR ||| 1#32 ∧ (∃ d, u.told 0x0204 0 d) ∧
        s.keepsRegs u (Reg.BEAT_CFG_ERR :: dropCounters) ∧ s.keeps u eventParts) ∧
    (∀ share < 1024, answers (exec (.beatSlotArm a share t) s) fun u =>
      u.get Fld.BEAT_SLOT_NEXT2_WRITEBACK = share ∧ u.get Fld.BEAT_SLOT_NEXT2_ARM = 1 ∧
        u.get Fld.BEAT_STATUS_SLOT_ARMED = b2n s.beat.shareSampled ∧ u.get Fld.NVM_STATUS_CFG_DIRTY = 1 ∧
        s.keepsRegs u [Reg.BEAT_SLOT_NEXT2, Reg.BEAT_STATUS, Reg.NVM_STATUS] ∧ s.keeps u []) ∧
    ∀ l chan sa k salt v, l < 4 → chan < 9 → sa < 4 → k < 8 → (salt = false ∨ k < 3) →
      let off := saWord l chan sa k salt
      let valid := if chan = 0 then Fld.LSEC_TXSA_CTRL_VALID l sa else Fld.LSEC_RXSA_CTRL_VALID l (chan - 1) sa
      answers (exec (.lsecKeyWrite a l chan sa k salt v t) s) fun u =>
        u.reg off = v ∧ u.liveReg off = v ∧ s.keeps u [.live, .eth] ∧
          (k = 0 → salt = false → u.get valid = 0 ∧ u.cur valid = 0 ∧ s.keepsRegs u [off, valid.off] ∧
            u.eth = if chan = 0 then { s.eth with told := s.eth.told.filter fun (x : Nat) => x != 4 * l + sa } else s.eth) ∧
          (k ≠ 0 ∨ salt = true → s.keepsRegs u [off] ∧ u.eth = s.eth)

/-! ### Register reads -/

/-- BEAT_PEAK_READ, TIME_PTP_DISCARD_READ and CANP_LAST_ERR_READ: the answer, and the register after it. -/
def Obligations.ReadClearReadsAnswerAndClear : Prop :=
  ∀ (path be : Nat) (t : Tai) (s : State), s.up = true → s.glb.phase ≠ .pause → s.glb.phase ≠ .recovery → path < 4 → be < 16 →
    ∀ (c : Instr) (off : Nat), ((∃ n < 5, c = .beatPeakRead path be n t ∧ off = Reg.BEAT_PEAKn n) ∨
        (c = .timePtpDiscardRead path be t ∧ off = Reg.TIME_PTP_DISCARD) ∨
        (∃ n < 48, c = .canpLastErrRead path be n t ∧ off = Reg.CANP_LAST_ERR n)) →
      (be = 0 → answers (exec c s) fun u => u.out = [.readData 0#32] ∧ s.keepsRegs u [] ∧ s.keeps u []) ∧
      (be ≠ 0 → answers (exec c s) fun u =>
        (∃ r, RegMap.find off = some r ∧ u.out = [.readData (s.reg off &&& BitVec.ofNat 32 r.rd)]) ∧
          u.reg off = 0#32 ∧ s.keepsRegs u [off] ∧ s.keeps u [])

/-- REGISTER_READ_64: what each read answers, and that it changes no register. -/
def Obligations.ReadsAnswerThePresentValue : Prop :=
  ∀ (path be off pads : Nat) (t : Tai) (s : State), s.up = true → path < 4 → be < 16 → bar0 off = true →
    let seen := (s.at t).sampleNet pads
    (∀ v : Word,
      ((be = 0 ∧ v = 0#32) ∨
        (be ≠ 0 ∧ s.glb.phase = .pause ∧ off ≠ Reg.GLB_ID ∧ off ≠ Reg.GLB_FW_VERSION ∧ off ≠ Reg.NVM_UPD_STATUS ∧
          v = 0xFFFFFFFF#32) ∨
        (be ≠ 0 ∧ s.glb.phase = .recovery ∧ recoveryOpen off = false ∧ v = 0xFFFFFFFF#32) ∨
        (be ≠ 0 ∧ s.glb.phase ≠ .pause ∧ s.glb.phase ≠ .recovery ∧ ¬(0x220000 ≤ off ∧ off < 0x230000) ∧
          RegMap.find off = none ∧ v = 0#32) ∨
        (be ≠ 0 ∧ s.glb.phase ≠ .pause ∧ s.glb.phase ≠ .recovery ∧ ¬(0x220000 ≤ off ∧ off < 0x230000) ∧
          ∃ r, RegMap.find off = some r ∧ r.rc = false ∧ r.wide = false ∧
            v = BitVec.ofNat 32 (seen.present off) &&& BitVec.ofNat 32 r.rd)) →
      answers (exec (.registerRead64 path be off false pads t) s) fun u =>
        u.out = [.readData v] ∧ s.keepsRegs u [] ∧ s.keeps u [.pin]) ∧
    (off < 0x20000 → off ≠ Reg.GLB_UID → off ≠ Reg.GLB_UID + 4 → seen.present off = (s.reg off).toNat) ∧
    (path = 0 → be = 15 → off % 8 = 0 → s.glb.phase ≠ .pause → s.glb.phase ≠ .recovery →
      ∀ r, RegMap.find off = some r → RegMap.find (off + 4) = some r → r.wide = true → r.rc = false →
        r.isHigh off = false → r.isHigh (off + 4) = true → r.rd = 2 ^ 64 - 1 → ¬(0x220000 ≤ off ∧ off < 0x230000) →
        answers (exec (.registerRead64 path be off true pads t) s) fun u =>
          u.out = [.readData (BitVec.ofNat 32 (seen.present off)), .readData (BitVec.ofNat 32 (seen.present (off + 4)))] ∧
            s.keepsRegs u [] ∧ s.keeps u [.pin, .glb])

/-- REGISTER_READ_64 and REGISTER_WRITE of an unmapped offset (R478). -/
def Obligations.UnmappedOffsetsReadZeroAndAreNotWritten : Prop :=
  ∀ (off : Nat) (t : Tai) (s : State), s.up = true → s.glb.phase ≠ .pause → s.glb.phase ≠ .recovery → bar0 off = true →
    RegMap.find off = none → ¬(0x220000 ≤ off ∧ off < 0x230000) →
    (∀ path be pads, path < 4 → be < 16 → answers (exec (.registerRead64 path be off false pads t) s) fun u =>
      u.out = [.readData 0#32] ∧ s.keepsRegs u [] ∧ s.keeps u [.pin]) ∧
    (∀ pads, off % 8 = 0 → RegMap.find (off + 4) = none → answers (exec (.registerRead64 0 15 off true pads t) s) fun u =>
      u.out = [.readData 0#32, .readData 0#32] ∧ s.keepsRegs u [] ∧ s.keeps u [.pin]) ∧
    ∀ (a : Access) (v : Word), a.ok = true → a.be ≠ 0 →
      let i := s.get ⟨Reg.GLB_AF_NEXT, 2, 0⟩
      answers (exec (.registerWrite a off v t) s) fun u =>
        u.reg64 Reg.GLB_AF_CNT = (s.reg64 Reg.GLB_AF_CNT + 1) % 2 ^ 64 ∧ u.reg (Reg.GLB_AFi_ADDR i) = BitVec.ofNat 32 off ∧
          u.reg (Reg.GLB_AFi_INFO i) = BitVec.ofNat 32 (accessInfo a 2) ∧
          u.reg64 (Reg.GLB_AFi_TIME i) = max s.time.now t % 2 ^ 64 ∧ u.get ⟨Reg.GLB_AF_NEXT, 2, 0⟩ = (i + 1) % 8 ∧
          ((s.at t).firstInSecond (0x0101 * 65536) = true → u.told 0x0101 0 [n4 off, n4 (accessInfo a 2)]) ∧
          s.keepsRegs u (Reg.GLB_AFi_ADDR i :: Reg.GLB_AFi_INFO i :: Reg.GLB_AF_NEXT ::
            (pair64 Reg.GLB_AF_CNT ++ pair64 (Reg.GLB_AFi_TIME i) ++ dropCounters)) ∧
          s.keeps u eventParts

/-- The high-half latch: loaded by a read of the low half, answered and emptied by the next read of the high half. -/
def Obligations.ALowReadHoldsTheHighHalfForItsPath : Prop :=
  ∀ (path be off pads : Nat) (r : RegRow) (t : Tai) (s : State), s.up = true → s.glb.phase ≠ .pause →
    s.glb.phase ≠ .recovery → path < 4 → be ≠ 0 → be < 16 → bar0 off = true → RegMap.find off = some r → r.wide = true →
    r.rc = false → ¬(0x220000 ≤ off ∧ off < 0x230000) →
    let seen := (s.at t).sampleNet pads
    (r.isHigh off = false → answers (exec (.registerRead64 path be off false pads t) s) fun u =>
      SMap.look u.glb.latch path = some { off := off, val := BitVec.ofNat 32 (seen.present (off + 4)) } ∧
        (∀ other, other ≠ path → SMap.look u.glb.latch other = SMap.look s.glb.latch other) ∧
        s.keepsRegs u [] ∧ s.keeps u [.pin, .glb]) ∧
    (r.isHigh off = true → 4 ≤ off →
      (∀ held : Half, SMap.look s.glb.latch path = some held → held.off = off - 4 →
        answers (exec (.registerRead64 path be off false pads t) s) fun u =>
          u.out = [.readData held.val] ∧ u.glb = { s.glb with latch := SMap.del s.glb.latch path } ∧
            s.keepsRegs u [] ∧ s.keeps u [.pin, .glb]) ∧
      ((∀ held : Half, SMap.look s.glb.latch path = some held → held.off ≠ off - 4) →
        answers (exec (.registerRead64 path be off false pads t) s) fun u =>
          u.out = [.readData (BitVec.ofNat 32 (seen.present off) &&& r.half off r.rd)] ∧
            s.keepsRegs u [] ∧ s.keeps u [.pin]))

/-- JOURNAL_WINDOW_READ: the word answered, and the uncorrectable error. -/
def Obligations.JournalWindowShowsItsSectorsAsStored : Prop :=
  ∀ (path off : Nat) (t : Tai) (s : State), s.up = true → s.glb.phase ≠ .pause → s.glb.phase ≠ .recovery → path < 4 →
    0x220000 ≤ off → off < 0x230000 → off % 4 = 0 →
    (SMap.look s.nvm.sectors (s.windowAt off).1 = none → s.windowWord off = 0xFFFFFFFF#32) ∧
    (answers (exec (.journalWindowRead path off false false t) s) fun u =>
      u.out = [.readData (s.windowWord off)] ∧ s.keepsRegs u [] ∧ s.keeps u []) ∧
    ∀ corrected, answers (exec (.journalWindowRead path off corrected true t) s) fun u =>
      u.out = [.readData (s.windowWord off)] ∧ u.reg64 (Reg.NVM_CNTk 3) = (s.reg64 (Reg.NVM_CNTk 3) + 1) % 2 ^ 64 ∧
        u.told 0x1205 0 [n4 0, n4 (s.windowAt off).1] ∧ s.keepsRegs u (pair64 (Reg.NVM_CNTk 3) ++ dropCounters) ∧
        s.keeps u eventParts

/-! ### The management paths -/

/-- SMB_ID, SMB_READ32 and SMB_WRITE32: each completes, and what it answers and leaves. -/
def Obligations.SmbusServesOneRegisterAtATime : Prop :=
  ∀ (addr pads pec code : Nat) (v : Word) (t : Tai) (s : State), s.up = true → s.glb.phase ≠ .recovery → s.domain 22 = 2 →
    addr < 2 ^ 32 → pec < 3 → code < 256 → code ≠ 0x10 → code ≠ 0x11 →
    (code = 0x12 → s.glb.phase ≠ .pause → answers (exec (.smbId code t) s) fun u =>
      (∃ id status : RegRow, RegMap.find Reg.GLB_ID = some id ∧ RegMap.find Reg.BEAT_STATUS = some status ∧
        u.out = [.smbus false (le 4 (s.reg Reg.GLB_ID &&& BitVec.ofNat 32 id.rd).toNat ++
          le 4 (s.reg Reg.BEAT_STATUS &&& BitVec.ofNat 32 status.rd).toNat)]) ∧ s.keepsRegs u [] ∧ s.keeps u []) ∧
    (code ≠ 0x12 → answers (exec (.smbId code t) s) fun u =>
      u.out = [.smbus true []] ∧ u.reg Reg.ETH_SMB_NAK = s.reg Reg.ETH_SMB_NAK + 1 ∧ s.keepsRegs u [Reg.ETH_SMB_NAK] ∧
        s.keeps u []) ∧
    (addr % 4 ≠ 0 ∨ 0x4000000 ≤ addr → answers (exec (.smbRead32 addr pads t) s) fun u =>
      u.out = [.smbus true []] ∧ u.reg Reg.ETH_SMB_NAK = s.reg Reg.ETH_SMB_NAK + 1 ∧ s.keepsRegs u [Reg.ETH_SMB_NAK] ∧
        s.keeps u [.pin]) ∧
    (addr % 4 ≠ 0 ∨ 0x4000000 ≤ addr ∨ s.on Fld.ETH_SMB_CFG_WRITE_EN = false →
      answers (exec (.smbWrite32 addr v pec t) s) fun u =>
        u.out = [.smbus true []] ∧ u.reg Reg.ETH_SMB_NAK = s.reg Reg.ETH_SMB_NAK + 1 ∧ s.keepsRegs u [Reg.ETH_SMB_NAK] ∧
          s.keeps u []) ∧
    (addr % 4 = 0 → addr < 0x4000000 →
      (answers (exec (.smbRead32 addr pads t) s) fun u =>
        ∃ (w : Word) (z : State), exec (.registerRead64 1 15 addr false pads t) s = .next z ∧ z.out = [.readData w] ∧
          u = { z with out := [.smbus false (le 4 w.toNat)] }) ∧
      (s.on Fld.ETH_SMB_CFG_WRITE_EN = true →
        (s.on Fld.ETH_SMB_CFG_PEC_REQ = true ∧ pec ≠ 1 → answers (exec (.smbWrite32 addr v pec t) s) fun u =>
          u.reg Reg.ETH_SMB_PEC_ERR = s.reg Reg.ETH_SMB_PEC_ERR + 1 ∧ s.keepsRegs u [Reg.ETH_SMB_PEC_ERR] ∧ s.keeps u []) ∧
        (s.on Fld.ETH_SMB_CFG_PEC_REQ = false ∨ pec = 1 → answers (exec (.smbWrite32 addr v pec t) s) fun u =>
          exec (.registerWrite smbAccess addr v t) s = .next u)))

/-! ### The beat -/

/-- BEAT_BOUNDARY and BEAT_REALIGNED: the beat that starts. -/
def Obligations.ABeatStartsAtItsBoundary : Prop :=
  ∀ (temp pads : Nat) (bkup : Bool) (bad : List (Nat × Nat)) (t : Tai) (s : State), s.up = true →
    (Instr.beatBoundary temp pads bkup bad t).wf = true →
    let begun := fun (u : State) =>
      u.beat.start = t ∧ u.beat.next = t + s.beatLen ∧ u.beat.started = true ∧ u.glb.phase = s.glb.phase ∧
        u.get Fld.BEAT_STATUS_SLOT_CUR = 0 ∧ u.get Fld.BEAT_STATUS_BEAT_NUM = t % 1000000000 / s.beatLen ∧
        u.reg64 Reg.BEAT_COUNT = (s.reg64 Reg.BEAT_COUNT + 1) % 2 ^ 64 ∧ u.get Fld.GLB_TEMP_T = temp
    (t = s.beat.next → s.get Fld.BEAT_STATUS_REALIGNING = 0 → s.stepWaits = false →
      s.beat.started = true ∨ s.glb.phase = .running → answers (exec (.beatBoundary temp pads bkup bad t) s) fun u => begun u ∧
        ∀ off, off < 0x20000 → off ∉ [Reg.BEAT_STATUS, Reg.GLB_TEMP, Reg.BEAT_COUNT, Reg.BEAT_COUNT + 4] →
          u.reg off = s.reg off) ∧
    (t ≠ s.beat.next ∨ s.stepWaits = true → answers (exec (.beatBoundary temp pads bkup bad t) s) fun u => s.keepsRegs u [] ∧ s.keeps u []) ∧
    (t = s.beat.next → s.get Fld.BEAT_STATUS_REALIGNING = 1 → answers (exec (.beatRealigned temp pads t) s) fun u =>
      begun u ∧ u.get Fld.BEAT_STATUS_REALIGNING = 0 ∧
        u.reg Reg.BEAT_REALIGN_CNT = s.reg Reg.BEAT_REALIGN_CNT + 1 ∧
        u.told 0x0202 0 [n8 (t - s.beat.gapFrom), n4 (t % 1000000000 / s.beatLen)] ∧
        ∀ off, off < 0x20000 →
          off ∉ [Reg.BEAT_STATUS, Reg.GLB_TEMP, Reg.BEAT_REALIGN_CNT, Reg.BEAT_COUNT, Reg.BEAT_COUNT + 4] →
            u.reg off = s.reg off)

/-- SLOT_END: the peak, and what an overrun leaves. -/
def Obligations.OverrunsAreReportedAtTheSlotsEnd : Prop :=
  ∀ (demand : Nat) (t : Tai) (s : State), s.up = true →
    let k := s.get Fld.BEAT_STATUS_SLOT_CUR
    let d := s.demandNow k demand
    let late := s.slotLate k d
    let shown := Reg.BEAT_OVERRUN :: Reg.BEAT_LAST_OVR :: (pair64 (Reg.BEAT_OVR_CNTn k) ++ pair64 Reg.BEAT_LAST_OVR_TIME)
    (5 ≤ k ∨ s.beat.ended = true ∨ (s.at t).time.now < s.slotStop k →
      answers (exec (.slotEnd demand t) s) fun u => s.keepsRegs u [] ∧ s.keeps u []) ∧
    (s.beat.started = true → k < 5 → s.beat.ended = false → s.slotStop k ≤ (s.at t).time.now →
      answers (exec (.slotEnd demand t) s) fun u =>
        u.get (Fld.BEAT_PEAKn_USED k) = max (s.get (Fld.BEAT_PEAKn_USED k)) (min 2047 d) ∧ u.beat.demand = 0 ∧
          u.beat.ended = true ∧ u.hif.inOverrun = (s.hif.inOverrun || (k == 0 && late)) ∧
          (k = 2 ∨ k = 3 → u.get Fld.CIPH_LOCK_OWNER = 0) ∧
          (∀ off, off < 0x20000 → off ≠ Reg.BEAT_PEAKn k → off ∉ (if late then shown else []) → u.reg off = s.reg off) ∧
          (late = false → s.keepsRegs u [Reg.BEAT_PEAKn k, Reg.CIPH_LOCK] ∧ s.keeps u [.beat, .hif]) ∧
          (late = true → u.reg Reg.BEAT_OVERRUN = s.reg Reg.BEAT_OVERRUN ||| BitVec.ofNat 32 (2 ^ k) ∧
            u.reg64 (Reg.BEAT_OVR_CNTn k) = (s.reg64 (Reg.BEAT_OVR_CNTn k) + 1) % 2 ^ 64 ∧
            u.get Fld.BEAT_LAST_OVR_SLOT = k ∧ u.get Fld.BEAT_LAST_OVR_BEAT_NUM = s.get Fld.BEAT_STATUS_BEAT_NUM ∧
            u.reg64 Reg.BEAT_LAST_OVR_TIME = s.beat.start % 2 ^ 64 ∧
            ((s.at t).firstInSecond (0x0201 * 65536 + k) = true →
              u.told 0x0201 0 [n4 k, n4 (s.get Fld.BEAT_STATUS_BEAT_NUM)]) ∧
            (k ≠ 3 → s.keepsRegs u (Reg.BEAT_PEAKn k :: Reg.CIPH_LOCK :: (shown ++ dropCounters)) ∧
              s.keeps u (.beat :: eventParts))))

/-- BEAT_SLOT_APPLY and BEAT_LEN_CHANGED: what comes into force and what is rejected. -/
def Obligations.ArmedLengthsAndSharesComeIntoForce : Prop :=
  ∀ (t : Tai) (s : State), s.up = true → (s.at t).atBoundary = true →
    let sharesIn := fun (u : State) =>
      u.share 0 = s.get Fld.BEAT_SLOT_NEXT0_INTAKE ∧ u.share 1 = s.get Fld.BEAT_SLOT_NEXT0_COMMIT ∧
        u.share 2 = s.get Fld.BEAT_SLOT_NEXT1_AUTH ∧ u.share 3 = s.get Fld.BEAT_SLOT_NEXT1_SERVICE ∧
        u.share 4 = s.get Fld.BEAT_SLOT_NEXT2_WRITEBACK ∧ u.get Fld.BEAT_SLOT_NEXT2_ARM = 0 ∧
        u.get Fld.BEAT_STATUS_SLOT_ARMED = 0
    let curs := [Reg.BEAT_SLOT_CUR0, Reg.BEAT_SLOT_CUR1, Reg.BEAT_SLOT_CUR2, Reg.BEAT_SLOT_NEXT2]
    (s.sharesDue = true → (s.beat.shareWithLen && s.lenDue) = false →
      (s.nextErrors s.beatLen = 0 → answers (exec (.beatSlotApply t) s) fun u =>
        sharesIn u ∧ s.keepsRegs u (Reg.BEAT_STATUS :: curs) ∧ s.keeps u [.beat, .live]) ∧
      (s.nextErrors s.beatLen ≠ 0 → answers (exec (.beatSlotApply t) s) fun u =>
        u.reg Reg.BEAT_CFG_ERR = s.reg Reg.BEAT_CFG_ERR ||| BitVec.ofNat 32 (s.nextErrors s.beatLen) ∧
          (∃ d, u.told 0x0204 0 d) ∧ u.get Fld.BEAT_SLOT_NEXT2_ARM = 0 ∧ u.get Fld.BEAT_STATUS_SLOT_ARMED = 0 ∧
          s.keepsRegs u (Reg.BEAT_STATUS :: Reg.BEAT_SLOT_NEXT2 :: Reg.BEAT_CFG_ERR :: dropCounters) ∧
          s.keeps u (.beat :: .live :: eventParts))) ∧
    (s.lenDue = true → s.beat.start % 1000000000 = 0 →
      let len := s.get Fld.BEAT_LEN_NEXT_LEN
      let changed := fun (u : State) =>
        u.get Fld.BEAT_STATUS_LEN_CUR = len ∧ u.beat.next = s.beat.start + beatNs len ∧
          u.told 0x0203 0 [n4 (s.get Fld.BEAT_STATUS_LEN_CUR), n4 len] ∧ u.get Fld.BEAT_LEN_NEXT_ARM = 0 ∧
          u.get Fld.BEAT_STATUS_LEN_ARMED = 0 ∧ u.beat.start = s.beat.start ∧ s.keeps u (.beat :: .live :: eventParts)
      ((s.sharesDue && s.beat.shareWithLen) = false → s.shareErrorsNow (beatNs len) = 0 → answers (exec (.beatLenChanged t) s) fun u =>
        changed u ∧ s.keepsRegs u (Reg.BEAT_STATUS :: Reg.BEAT_LEN_NEXT :: dropCounters)) ∧
      ((s.sharesDue && s.beat.shareWithLen) = true → s.nextErrors (beatNs len) = 0 → answers (exec (.beatLenChanged t) s) fun u =>
        changed u ∧ sharesIn u ∧ s.keepsRegs u (Reg.BEAT_STATUS :: Reg.BEAT_LEN_NEXT :: (curs ++ dropCounters))) ∧
      ((s.sharesDue && s.beat.shareWithLen) = false → s.shareErrorsNow (beatNs len) ≠ 0 → answers (exec (.beatLenChanged t) s) fun u =>
        u.reg Reg.BEAT_CFG_ERR = s.reg Reg.BEAT_CFG_ERR ||| 8#32 ∧ (∃ d, u.told 0x0204 0 d) ∧
          u.get Fld.BEAT_LEN_NEXT_ARM = 0 ∧ u.get Fld.BEAT_STATUS_LEN_ARMED = 0 ∧
          u.get Fld.BEAT_STATUS_LEN_CUR = s.get Fld.BEAT_STATUS_LEN_CUR ∧ u.beat.next = s.beat.next ∧
          s.keepsRegs u (Reg.BEAT_STATUS :: Reg.BEAT_LEN_NEXT :: Reg.BEAT_CFG_ERR :: dropCounters) ∧
          s.keeps u (.beat :: .live :: eventParts)))

/-- COMMIT_SLOT and BEAT_COMMIT_ABANDONED. -/
def Obligations.TheCommitSlotIsWholeOrDeferred : Prop :=
  ∀ (demand : Nat) (busy : List Nat) (t : Tai) (s : State), s.up = true →
    let holds := fun (c : RegCmd) => s.beat.deferred = none ∨ ∃ d, s.beat.deferred = some d ∧ c ∈ d.cmds
    ((s.at t).slotOpen 1 = true → s.get Fld.BEAT_STATUS_SLOT_CUR = 0 → s.beat.commitOverruns < 16 →
      (busy.all fun n => decide (n < 48)) = true →
      (1000 < demand → answers (exec (.commitSlot demand busy t) s) fun u =>
        u.get Fld.BEAT_STATUS_SLOT_CUR = 1 ∧ u.beat.deferred = some (s.beat.deferred.getD s.commitContent) ∧
          (s.beat.deferred = none →
            u.beat.commitOverruns = if s.stagedPending then s.beat.commitOverruns + 1 else 0) ∧
          s.keepsRegs u [Reg.BEAT_STATUS] ∧ s.keeps u [.beat]) ∧
      (demand ≤ 1000 → answers (exec (.commitSlot demand busy t) s) fun u =>
        (∀ m, holds (.step m) → RegCmd.step m ∉ u.cmds) ∧ (holds .snapGo → RegCmd.snapGo ∉ u.cmds) ∧
          u.beat.deferred = none ∧ u.beat.commitOverruns = 0 ∧
          (s.beat.deferred = none →
            (u.get Fld.BEAT_LEN_NEXT_ARM = 1 → u.beat.lenSampled = true) ∧
            (u.get Fld.BEAT_SLOT_NEXT2_ARM = 1 → u.beat.shareSampled = true)))) ∧
    (s.beat.commitOverruns < 16 → answers (exec (.beatCommitAbandoned t) s) fun u => s.keepsRegs u [] ∧ s.keeps u []) ∧
    (16 ≤ s.beat.commitOverruns → answers (exec (.beatCommitAbandoned t) s) fun u =>
      u.beat.commitOverruns = 0 ∧ u.beat.deferred = none ∧ u.told 0x0205 0 [n4 16] ∧
        (s.beat.deferred = none → u.ciph.loads = []) ∧
        (∀ l ∈ u.ciph.loads, ∃ d, s.beat.deferred = some d ∧ l.slot ∉ d.loads) ∧
        (holds .reefCommit → RegCmd.reefCommit ∉ u.cmds) ∧
        (∀ a b c, holds (.fvWrite a b c) → RegCmd.fvWrite a b c ∉ u.cmds) ∧
        (s.fab.validated = true → (∀ d, s.beat.deferred = some d → d.tables = true) →
          u.get Fld.FAB_STATUS_COMMIT = 0 ∧ u.get Fld.FAB_COMMIT_RES_RESULT = 3 ∧ u.get Fld.FAB_COMMIT_RES_REASON = 12) ∧
        s.keeps u (.beat :: .ciph :: .cmds :: .live :: .fab :: .glb :: eventParts))

/-- CONFIG_APPLY, GLB_LOCKED and BANK_CONFIG_LIVE. -/
def Obligations.AcceptedConfigurationComesIntoForce : Prop :=
  ∀ (t : Tai) (s : State), s.up = true → (s.at t).commitDue = true →
    ((∀ o ∈ s.paced, isPinCfg o = true ∨ comesAlone o = true) → answers (exec (.configApply t) s) fun u =>
      (∀ o ∈ s.paced, isPinCfg o = false → u.liveReg o = s.reg o) ∧
        (∀ o, o ∉ s.paced ∨ isPinCfg o = true → u.liveReg o = s.liveReg o) ∧ u.paced = s.paced.filter isPinCfg ∧
        s.keepsRegs u [] ∧ s.keeps u [.live, .paced]) ∧
    (RegCmd.glbLock ∈ s.cmds → answers (exec (.glbLocked t) s) fun u =>
      u.glb = { s.glb with locked := true } ∧ u.reg Reg.GLB_LOCK = 1#32 ∧ u.get Fld.CIPH_STATUS_CLEAR_LOAD_OPEN = 0 ∧
        u.told 0x0121 0 [] ∧ RegCmd.glbLock ∉ u.cmds ∧ (∀ c ∈ s.cmds, c ≠ .glbLock → c ∈ u.cmds) ∧
        s.keepsRegs u (Reg.GLB_LOCK :: Reg.CIPH_STATUS :: dropCounters) ∧ s.keeps u (.cmds :: .glb :: .live :: eventParts)) ∧
    (s.glb.bankStaged = true → s.glb.phase = .running → answers (exec (.bankConfigLive t) s) fun u =>
      u.get Fld.NVM_STATUS_CFG_DIRTY = 0 ∧ u.get Fld.GLB_BOOT_STATUS_BANK = b2n s.bankBody.isSome ∧
        u.glb.bankStaged = false) ∧
    (s.glb.bankStaged = false → answers (exec (.bankConfigLive t) s) fun u => s.keepsRegs u [] ∧ s.keeps u [])

/-- COMMIT_VALIDATION_DONE, FAB_COMMIT_APPLIED and FAB_RA_REARMED. -/
def Obligations.RouteCommitsAreValidatedAndGoLiveWhole : Prop :=
  ∀ (route : Nat) (t : Tai) (s : State), s.up = true → route < 4096 →
    (s.get Fld.FAB_STATUS_COMMIT = 1 →
      (s.validate = none → answers (exec (.commitValidationDone t) s) fun u =>
        u.get Fld.FAB_STATUS_COMMIT = 2 ∧ u.fab = { s.fab with validated := true } ∧ s.keepsRegs u [Reg.FAB_STATUS] ∧
          s.keeps u [.fab]) ∧
      (∀ table entry reason, s.validate = some (table, entry, reason) → answers (exec (.commitValidationDone t) s) fun u =>
        u.get Fld.FAB_STATUS_COMMIT = 0 ∧
          u.reg Reg.FAB_COMMIT_RES = BitVec.ofNat 32 (3 + reason * 2 ^ 4 + entry * 2 ^ 16 + table * 2 ^ 28) ∧
          u.told 0x0502 0 [n4 table, n4 entry, n4 reason] ∧
          s.keepsRegs u (Reg.FAB_STATUS :: Reg.FAB_COMMIT_RES :: dropCounters) ∧ s.keeps u eventParts)) ∧
    (s.fab.validated = true → (s.at t).commitDue = true → s.domain 4 = 2 →
      answers (exec (.fabCommitApplied t) s) fun u =>
        (∀ off, 0x80000 ≤ off → off < 0xC0000 → u.reg (off + 0x40000) = s.reg off) ∧
          u.reg Reg.FAB_ROUTE_EPOCH = s.reg Reg.FAB_ROUTE_EPOCH + 1 ∧ u.get Fld.FAB_STATUS_COMMIT = 0 ∧
          u.reg Reg.FAB_COMMIT_RES = 2#32 ∧ u.told 0x0501 0 [n4 (s.reg Reg.FAB_ROUTE_EPOCH + 1).toNat] ∧
          (∀ off, off < 0x40000 ∨ (0x80000 ≤ off ∧ off < 0xC0000) ∨ 0x100000 ≤ off → off ∉ dropCounters →
            u.reg off = s.reg off) ∧ s.keeps u (.fab :: eventParts)) ∧
    (RegCmd.raRearm route ∈ s.cmds → (s.at t).commitDue = true → s.domain 4 = 2 →
      let r := s.liveRoute route
      answers (exec (.fabRaRearmed route t) s) fun u =>
        u.get (Fld.FAB_RA_STATj_WINDOW route) = 0 ∧ SMap.look u.fab.history route = none ∧
          u.get (Fld.FAB_RA_STATj_DISABLED route) = b2n (r.valid && r.runAhead && !s.duration r) ∧
          RegCmd.raRearm route ∉ u.cmds ∧ s.keepsRegs u (Reg.FAB_RA_STATj route :: dropCounters) ∧
          s.keeps u (.fab :: .cmds :: eventParts))

/-! ### Time -/

/-- ANNOUNCE_RECEIVED, both time-outs, SYNC_RECEIVED and TIME_JUMP_REFUSED_REPEAT. -/
def Obligations.TheBestMasterIsFollowedUntilItIsLost : Prop :=
  ∀ (p sender origin : Nat) (a : Announce) (corr log : Int) (edge16 : Nat) (t : Tai) (s : State), s.up = true → p < 13 →
    let best := fun (u : State) => u.masterPort = (match u.bestForeign with
      | some f => ptpPort f.port
      | none => 0x7F)
    let chosen := fun (u : State) =>
      s.keepsRegs u (Reg.TIME_STATUS :: Reg.TIME_FREQ :: dropCounters) ∧ s.keeps u (.time :: eventParts)
    (s.ptpSlaveable p = true → a.path.contains Config.uid.toNat = false →
      answers (exec (.announceReceived p a t) s) fun u =>
        (∃ f ∈ u.time.foreign, f.port = p ∧ f.sender = a.sender ∧ f.gmId = a.gmId ∧ f.prio1 = a.prio1 ∧ f.cls = a.cls ∧
          f.acc = a.acc ∧ f.oslv = a.oslv ∧ f.prio2 = a.prio2 ∧ f.steps = a.steps ∧ f.path = a.path ∧ 1 ≤ f.heard ∧
          f.last = max s.time.now t) ∧ best u ∧ chosen u) ∧
    (s.ptpSlaveable p = false ∨ a.path.contains Config.uid.toNat = true →
      answers (exec (.announceReceived p a t) s) fun u => s.keepsRegs u [] ∧ s.keeps u []) ∧
    (∀ c ∈ [(Instr.announceReceiptTimeout t, (s.at t).announceLate), (Instr.syncReceiptTimeout t, (s.at t).syncLate)],
      (s.masterPort = 0x7F ∨ c.2 = false → answers (exec c.1 s) fun u => s.keepsRegs u [] ∧ s.keeps u []) ∧
      (s.masterPort ≠ 0x7F → c.2 = true → answers (exec c.1 s) fun u =>
        u.time.foreign = s.time.foreign.filter (fun f => !(f.port == ptpOf s.masterPort && f.sender == s.time.sender)) ∧
          best u ∧ chosen u)) ∧
    (s.ptpSlaveable p = true → s.masterPort = ptpPort p → s.time.sender = sender →
      let gap : Rat := (((s.ptpIn p edge16 : Nat) : Int) - (origin : Int) : Int) - (corr : Rat) / 65536
      let m : Rat := SMap.get 0 s.time.delay p + (toSigned 24 (s.cur (Fld.TIME_ASYM_LINKn_LINK (ptpPort p))) : Rat) / 16 -
        gap - (s.stepSum : Rat)
      answers (exec (.syncReceived p sender origin corr log edge16 t) s) fun u =>
        SMap.look u.time.syncGap p = some gap ∧ u.time.sync = some (max s.time.now t, log) ∧
          u.time.held = (m :: s.time.held).take 8 ∧
          (s.timeState = 2 ∨ s.timeState = 3 ∨ s.timeState = 4 →
            ((s.cur Fld.TIME_JUMP_THR_NS : Nat) : Rat) < absRat m →
              u.timeState = 4 ∧ u.reg64 Reg.TIME_JUMP_CNT = (s.reg64 Reg.TIME_JUMP_CNT + 1) % 2 ^ 64) ∧
          s.keepsRegs u (Reg.TIME_STATUS :: Reg.TIME_FREQ :: Reg.TIME_OFFSET :: Reg.BEAT_STATUS ::
            (pair64 Reg.TIME_JUMP_CNT ++ pair64 Reg.TIME_LAST_JUMP ++ dropCounters)) ∧ s.keeps u (.time :: eventParts)) ∧
    (s.timeState = 4 → s.time.refusedAt + 60000000000 ≤ max s.time.now t →
      answers (exec (.timeJumpRefusedRepeat t) s) fun u =>
        u.told 0x0301 0 [.d8 (toSigned 64 (s.reg64 Reg.TIME_LAST_JUMP)), n4 s.masterPort] ∧
          u.time.refusedAt = max s.time.now t ∧ s.keepsRegs u dropCounters ∧ s.keeps u (.time :: eventParts)) ∧
    (s.timeState ≠ 4 ∨ max s.time.now t < s.time.refusedAt + 60000000000 →
      answers (exec (.timeJumpRefusedRepeat t) s) fun u => s.keepsRegs u [] ∧ s.keeps u [])

/-- ANNOUNCE_TRANSMIT, SYNC_TRANSMIT, PTP_DELAY_REQUEST and DELAY_REQ_INTERVAL. -/
def Obligations.PtpMessagesCarryTheirTimes : Prop :=
  ∀ (p edge16 : Nat) (t : Tai) (s : State), s.up = true → p < 13 →
    let port := ptpPort p
    let l := port - 56
    let clear : Bool := !s.secOn port || s.on (Fld.LSEC_Ll_CTRL_PTP_BYPASS l)
    let ok := if port < 56 then Reg.T1S_Ss_CNTk (port - 48) 3 else Reg.ETH_Pq_CNTk l 8
    let same := fun (u : State) => u.out = [] ∧ s.keepsRegs u [] ∧ s.keeps u []
    let sends := fun (u : State) (msgs : List Output) => u.out = msgs ∧ u.reg64 ok = (s.reg64 ok + msgs.length) % 2 ^ 64 ∧
      s.keepsRegs u (pair64 ok ++ if s.secOn port then pair64 (Reg.LSEC_Ll_CNTk l 1) else []) ∧ s.keeps u [.time, .mgt]
    let annDue := (s.at t).intervalOver s.time.annSent p (intervalNs (s.cur (Fld.TIME_PORTp_LOG_ANNOUNCE p)))
    let syncDue := (s.at t).intervalOver s.time.syncSent p (intervalNs (s.cur (Fld.TIME_PORTp_LOG_SYNC p)))
    let reqDue := (s.at t).intervalOver s.time.reqSent p (intervalNs (s.cur (Fld.TIME_PORTp_LOG_DELAY p)))
    let out : Int := s.ptpOut p edge16
    let peer : Bool := s.on (Fld.TIME_PORTp_P2P p) && !decide (4 ≤ p ∧ p ≤ 11)
    (s.ptpMaster p = true → clear = true →
      (annDue = true → answers (exec (.announceTransmit p t) s) fun u =>
        sends u [.ptp port 2 t s.announceFields none] ∧ SMap.look u.time.annSent p = some (max s.time.now t)) ∧
      (syncDue = true → answers (exec (.syncTransmit p edge16 t) s) fun u =>
        sends u (if p < 4 ∧ s.on (Fld.TIME_PORTp_ONE_STEP p) then [.ptp port 0 out [] none]
          else [.ptp port 0 0 [] none, .ptp port 1 out [] none]) ∧
          SMap.look u.time.syncSent p = some (max s.time.now t)) ∧
      (peer = false → answers (exec (.ptpDelayRequest p edge16 t) s) fun u =>
        sends u [.ptp port 4 (s.ptpIn p edge16) [] none])) ∧
    (s.ptpMaster p = true → clear = false → annDue = true →
      let sa := s.cur (Fld.LSEC_Ll_CTRL_TX_AN l)
      let pn := s.live64 (Reg.LSEC_TXSA_PN l sa)
      (s.cur (Fld.LSEC_TXSA_CTRL_VALID l sa) = 0 → answers (exec (.announceTransmit p t) s) fun u =>
        u.out = [] ∧ u.reg64 (Reg.LSEC_Ll_CNTk l 2) = (s.reg64 (Reg.LSEC_Ll_CNTk l 2) + 1) % 2 ^ 64 ∧
          s.keepsRegs u (pair64 (Reg.LSEC_Ll_CNTk l 2)) ∧ s.keeps u [.time]) ∧
      (s.cur (Fld.LSEC_TXSA_CTRL_VALID l sa) ≠ 0 → s.get (Fld.LSEC_TXSA_CTRL_EXHAUSTED l sa) = 0 →
        answers (exec (.announceTransmit p t) s) fun u =>
          u.out = [.ptp port 2 t s.announceFields (some (sa, pn))] ∧
            u.live64 (Reg.LSEC_TXSA_PN l sa) = (pn + 1) % 2 ^ 64 ∧
            u.reg64 ok = (s.reg64 ok + 1) % 2 ^ 64 ∧
            u.reg64 (Reg.LSEC_Ll_CNTk l 0) = (s.reg64 (Reg.LSEC_Ll_CNTk l 0) + 1) % 2 ^ 64)) ∧
    (s.ptpMaster p = false ∨ annDue = false → answers (exec (.announceTransmit p t) s) same) ∧
    (s.ptpMaster p = false ∨ syncDue = false → answers (exec (.syncTransmit p edge16 t) s) same) ∧
    (peer = false → s.ptpMaster p = false → answers (exec (.ptpDelayRequest p edge16 t) s) same) ∧
    (peer = true → s.ptpOn p = true → s.ptpUp p = true → clear = true →
      answers (exec (.ptpDelayRequest p edge16 t) s) fun u => sends u [.ptp port 5 (s.ptpIn p edge16) [] none]) ∧
    (s.ptpOn p = true → s.ptpUp p = true → ¬(4 ≤ p ∧ p ≤ 11) → s.on (Fld.TIME_PORTp_P2P p) = true ∨ s.masterPort = port →
      reqDue = true → clear = true →
        (answers (exec (.delayReqInterval p edge16 none t) s) fun u =>
          sends u [.ptp port 3 out [] none] ∧ SMap.look u.time.reqSent p = some (max s.time.now t)) ∧
        ∀ (arrived back in16 : Nat) (corr : Int),
          let c : Rat := (corr : Rat) / 65536
          let got : Int := s.ptpIn p in16
          answers (exec (.delayReqInterval p edge16 (some (arrived, back, corr, in16)) t) s) fun u =>
            sends u [.ptp port 3 out [] none] ∧
              (s.on (Fld.TIME_PORTp_P2P p) = true → SMap.get 0 u.time.delay p =
                (((got - out - ((back : Int) - (arrived : Int)) : Int) : Rat) - c) / 2) ∧
              (s.on (Fld.TIME_PORTp_P2P p) = false → ∀ gap : Rat, SMap.look s.time.syncGap p = some gap →
                SMap.get 0 u.time.delay p = (gap + (((arrived : Int) - out : Int) : Rat) - c) / 2))

/-- TIME_STEP_EVALUATE, TIME_STEP_APPLY and TIME_BEACON_DUE. -/
def Obligations.StepsAreJudgedAppliedAndOpenTheGap : Prop :=
  ∀ (t : Tai) (s : State), s.up = true →
    (∀ mode, (s.at t).commitDue = true → (s.cmds.filterMap fun (c : RegCmd) => match c with
        | .step m => some m
        | _ => none) = [mode] →
      let v : Int := if mode = 1 then (if s.time.held.length < 8 then 0 else roundFree (meanOf s.time.held))
        else toSigned 64 (s.reg64 Reg.TIME_STEP_VALUE)
      let code := (s.at t).stepRefusal mode v
      answers (exec (.timeStepEvaluate t) s) fun u =>
        (∀ m, RegCmd.step m ∉ u.cmds) ∧ (∀ c ∈ s.cmds, (∀ m, c ≠ .step m) → c ∈ u.cmds) ∧
          u.get Fld.TIME_STEP_STATUS_RESULT = (if code = 0 then 1 else code) ∧
          (code = 0 → u.time.step = some v ∧ u.get Fld.TIME_STATUS_STEP_PENDING = 1) ∧
          (code ≠ 0 → u.time.step = s.time.step ∧ u.told 0x0305 0 [n4 code]) ∧
          s.keepsRegs u (Reg.TIME_STEP_STATUS :: Reg.TIME_STATUS :: dropCounters) ∧
          s.keeps u (.cmds :: .time :: eventParts)) ∧
    (s.stepWaits = false ∨ (s.at t).beatOver = false → answers (exec (.timeStepApply t) s) fun u =>
      s.keepsRegs u [] ∧ s.keeps u []) ∧
    (s.stepWaits = true → (s.at t).beatOver = true →
      let old := max s.time.now t
      let new := shifted s.stepSum old
      answers (exec (.timeStepApply t) s) fun u =>
        u.time.now = new ∧ u.time.step = none ∧ u.time.lockStep = none ∧ u.time.held = [] ∧
          u.get Fld.TIME_STATUS_STEP_PENDING = 0 ∧
          u.reg64 Reg.TIME_LAST_STEP = ofInt 8 (s.time.lockStep.getD (s.time.step.getD 0)) % 2 ^ 64 ∧
          u.get Fld.BEAT_STATUS_REALIGNING = 1 ∧ u.get Fld.BEAT_STATUS_SLOT_CUR = 7 ∧ u.beat.gapFrom = new ∧
          u.beat.next = (new + s.beatLen - 1) / s.beatLen * s.beatLen ∧
          (∀ h : Int, s.time.step = some h →
            u.get Fld.TIME_STEP_STATUS_RESULT = 2 ∧ u.told 0x0304 0 [n8 old, n8 (shifted h old)]) ∧
          ∀ off, off < 0x30000 →
            off ∉ Reg.TIME_STATUS :: Reg.TIME_FREQ :: Reg.TIME_STEP_STATUS :: Reg.BEAT_STATUS :: pair64 Reg.TIME_LAST_STEP →
              u.reg off = s.reg off) ∧
    ∀ bad : List (Nat × Nat), (Instr.timeBeaconDue bad t).wf = true →
      let due : Bool := s.slotsRun && max s.time.now t == s.beat.start && !s.beat.beaconRun &&
        s.beatIndex % s.cur Fld.TIME_BCN_CFG_PERIOD == s.cur Fld.TIME_BCN_CFG_PHASE
      (due = false → answers (exec (.timeBeaconDue bad t) s) fun u => s.keepsRegs u [] ∧ s.keeps u []) ∧
      (due = true → ∀ n < 48, (List.range 48).filter s.beaconOn = [n] → s.beaconAllowed n = true →
        answers (exec (.timeBeaconDue bad t) s) fun u => AuthJob.beacon n ∈ u.fab.authq ∧ u.beat.beaconRun = true)

/-- CAPTURE_START and CAPTURE_STOP. -/
def Obligations.CapturesFormPairs : Prop :=
  ∀ (u edge16 width : Nat) (s : State), s.up = true → u < 16 →
    let stamp := stampOf 127 edge16
    (s.capEnabled u (Fld.TIME_CAPu_CFG_START_EDGE u) = true → s.capPasses u width = true → (s.capOf u).opened = none →
      answers (exec (.captureStart u edge16 width false) s) fun x =>
        (x.capOf u).opened = some stamp ∧ x.get (Fld.TIME_CAPu_STAT_OPEN u) = 1 ∧
          s.keepsRegs x [Reg.TIME_CAPu_STAT u, Reg.TIME_CAPu_LOST u] ∧ s.keeps x [.time]) ∧
    (s.capEnabled u (Fld.TIME_CAPu_CFG_START_EDGE u) = false ∨ s.capPasses u width = false → ∀ withStop,
      answers (exec (.captureStart u edge16 width withStop) s) fun x => s.keepsRegs x [] ∧ s.keeps x []) ∧
    (s.capEnabled u (Fld.TIME_CAPu_CFG_STOP_EDGE u) = false ∨ s.capPasses u width = false →
      answers (exec (.captureStop u edge16 width) s) fun x => s.keepsRegs x [] ∧ s.keeps x []) ∧
    (s.capEnabled u (Fld.TIME_CAPu_CFG_STOP_EDGE u) = true → s.capPasses u width = true → ∀ from_ : Tai, (s.capOf u).opened = some from_ →
      answers (exec (.captureStop u edge16 width) s) fun x =>
        (x.capOf u).opened = none ∧ x.get (Fld.TIME_CAPu_STAT_OPEN u) = 0 ∧
          (s.on Fld.TIME_CAP_RING_EN = false → x.capOf u = { s.capOf u with opened := none } ∧
            s.keepsRegs x [Reg.TIME_CAPu_STAT u, Reg.TIME_CAPu_LOST u] ∧ s.keeps x [.time]) ∧
          (s.on Fld.TIME_CAP_RING_EN = true → (s.capOf u).waiting < 8 →
            let ring := s.cur Fld.TIME_CAP_RING_RING
            (x.capOf u).seq = ((s.capOf u).seq + 1) % 65536 ∧
              (s.get (Fld.HIF_RXn_STAT_STATE ring) = 1 → (s.rxRing ring).stream = true →
                (x.capOf u).waiting = (s.capOf u).waiting + 1 ∧
                  (x.rxRing ring).queue = (s.rxRing ring).queue ++ [.item 0x30 (le 1 u ++ le 1 0 ++
                    le 2 (s.word (unitOf 2 1)).epoch ++ le 2 (s.capOf u).seq ++ le 2 (satNat 16 (s.capOf u).lost) ++
                    le 8 from_ ++ le 8 stamp ++ le 8 (stamp - from_))])) ∧
          (s.on Fld.TIME_CAP_RING_EN = true → 8 ≤ (s.capOf u).waiting →
            (x.capOf u).lost = (s.capOf u).lost + 1 ∧
              x.told 0x0308 (unitOf 8 u) [n4 u, n4 ((s.capOf u).total + 1)]))

/-! ### The host interface -/

/-- HOST_INTERFACE_ENABLE, _DISABLE, the ring enables, disables and TX_RING_DRAINED, PCIE_LINK_DOWN, _UP, and the two MSI-X
commands. -/
def Obligations.HostRingsFollowTheirEnables : Prop :=
  ∀ (n v : Nat) (t : Tai) (s : State), s.up = true → n < 64 → v < 256 →
    let follows := fun (u : State) (offs : List Nat) =>
      s.keepsRegs u (offs ++ dropCounters) ∧ s.keeps u (.live :: .mgt :: eventParts)
    (s.get Fld.HIF_STATUS_RUNNING = 0 → answers (exec (.hostInterfaceEnable t) s) fun u =>
      u.get Fld.HIF_STATUS_RUNNING = 1 ∧ u.get Fld.HIF_CTRL_EN = 1 ∧ u.cur Fld.HIF_CTRL_EN = 1 ∧ u.hif.wbSeq = 0 ∧
        (u.word (unitOf 1 78)).code = 2 ∧ follows u [Reg.HIF_CTRL, Reg.HIF_STATUS]) ∧
    (answers (exec (.hostInterfaceDisable t) s) fun u =>
      u.get Fld.HIF_STATUS_RUNNING = 0 ∧ u.get Fld.HIF_CTRL_EN = 0 ∧ u.cur Fld.HIF_CTRL_EN = 0 ∧
        (u.word (unitOf 1 78)).code = 0 ∧ follows u [Reg.HIF_CTRL, Reg.HIF_STATUS]) ∧
    (s.txState n = 0 → answers (exec (.txRingEnable n t) s) fun u =>
      u.txState n = 1 ∧ u.get (Fld.HIF_TXn_STAT_FAULT n) = 0 ∧ u.get (Fld.HIF_TXn_STAT_OUTSTANDING n) = 0 ∧
        u.txRing n = { TxRing.fresh with log2 := s.cur (Fld.HIF_TXn_CFG_LOG2 n), gen := (s.txRing n).gen + 1 } ∧
        u.get (Fld.HIF_TXn_CFG_EN n) = 1 ∧ (u.word (unitOf 3 n)).code = 1 ∧
        follows u [Reg.HIF_TXn_CFG n, Reg.HIF_TXn_STAT n]) ∧
    (s.txState n = 1 ∨ s.txState n = 3 → answers (exec (.txRingDisable n t) s) fun u =>
      u.txState n = 2 ∧ u.get (Fld.HIF_TXn_CFG_EN n) = 0 ∧ (u.word (unitOf 3 n)).code = 2 ∧ u.txRing n = s.txRing n ∧
        follows u [Reg.HIF_TXn_CFG n, Reg.HIF_TXn_STAT n]) ∧
    (s.txState n = 2 → s.get (Fld.HIF_TXn_STAT_OUTSTANDING n) = 0 → answers (exec (.txRingDrained n t) s) fun u =>
      u.txState n = 0 ∧ (u.word (unitOf 3 n)).code = 0 ∧ follows u [Reg.HIF_TXn_STAT n]) ∧
    (s.txState n ≠ 2 ∨ s.get (Fld.HIF_TXn_STAT_OUTSTANDING n) ≠ 0 → answers (exec (.txRingDrained n t) s) fun u =>
      s.keepsRegs u [] ∧ s.keeps u []) ∧
    (s.rxState n = 0 → answers (exec (.rxRingEnable n t) s) fun u =>
      u.rxState n = 1 ∧ u.get (Fld.HIF_RXn_STAT_FAULT n) = 0 ∧ (u.rxRing n).prod = 0 ∧ (u.rxRing n).ack = 0 ∧
        (u.rxRing n).stream = (s.cur (Fld.HIF_RXn_CFG_KIND n) == 1) ∧
        (u.rxRing n).idleDue = (s.cur (Fld.HIF_RXn_CFG_KIND n) == 1) ∧
        (u.rxRing n).log2 = s.cur (Fld.HIF_RXn_CFG_LOG2 n) ∧ u.get (Fld.HIF_RXn_CFG_EN n) = 1 ∧
        (u.word (unitOf 4 n)).code = 1 ∧ follows u [Reg.HIF_RXn_CFG n, Reg.HIF_RXn_STAT n]) ∧
    (s.rxState n ≠ 0 → answers (exec (.rxRingDisable n t) s) fun u =>
      u.rxState n = 0 ∧ u.rxRing n = RxRing.fresh ∧ (u.word (unitOf 4 n)).code = 0) ∧
    (answers (exec (.pcieLinkDown t) s) fun u =>
      u.get Fld.HIF_STATUS_LINK_UP = 0 ∧ u.hif = { s.hif with linkReady := false } ∧
        s.keepsRegs u [Reg.HIF_STATUS] ∧ s.keeps u [.hif]) ∧
    (answers (exec (.pcieLinkUp t) s) fun u =>
      u.get Fld.HIF_STATUS_LINK_UP = 1 ∧ s.keepsRegs u [Reg.HIF_STATUS] ∧ s.keeps u []) ∧
    (0 < (s.txRing n).since → answers (exec (.msixCoalescingTimer true n) s) fun u =>
      u.txRing n = { s.txRing n with wait := max (s.txRing n).wait (s.cur (Fld.HIF_TXn_IRQ_BEATS n)) } ∧
        s.keepsRegs u [] ∧ s.keeps u [.hif]) ∧
    (0 < (s.rxRing n).since → answers (exec (.msixCoalescingTimer false n) s) fun u =>
      u.rxRing n = { s.rxRing n with wait := max (s.rxRing n).wait (s.cur (Fld.HIF_RXn_IRQ_BEATS n)) } ∧
        s.keepsRegs u [] ∧ s.keeps u [.hif]) ∧
    (answers (exec (.msixUnmask v) s) fun u =>
      u.get ⟨Reg.MSIX_ENTRY v 3, 0, 0⟩ = 0 ∧
        (bit (s.reg (Reg.MSIX_PBA (v / 32))).toNat (v % 32) = true → v ∈ u.hif.pbaVecs) ∧
        s.keepsRegs u [Reg.MSIX_ENTRY v 3] ∧ s.keeps u [.hif])

/-- INTAKE_SLOT: the page, its indices, and one fetch. -/
def Obligations.TheIntakeReadsDoorbellsAndDescriptors : Prop :=
  ∀ (n prod cack : Nat) (b : Bytes) (t : Tai) (s : State), s.up = true → n < 64 → prod < 2 ^ 32 → cack < 2 ^ 32 →
    let r := s.txRing n
    let x := parseDesc b none
    (∀ page reads, page.all pageOk = true → (reads.all fun (d : DescRead) => decide (d.ring < 64)) = true →
      (s.at t).slotOpen 0 = false ∨ s.beat.intakeRun = true →
      answers (exec (.intakeSlot page reads t) s) fun u => s.keepsRegs u [] ∧ s.keeps u []) ∧
    ((s.at t).slotOpen 0 = true → s.beat.intakeRun = false → s.glb.phase = .running →
      (s.get Fld.HIF_STATUS_RUNNING = 0 → answers (exec (.intakeSlot (some []) [] t) s) fun u =>
        u.beat = { s.beat with intakeRun := true } ∧ s.keepsRegs u [] ∧ s.keeps u [.beat, .hif]) ∧
      (s.get Fld.HIF_STATUS_RUNNING = 1 → s.hostUp = true →
        (answers (exec (.intakeSlot none [] t) s) fun u =>
          u.get Fld.HIF_STATUS_DB_ERR = 1 ∧ u.reg Reg.HIF_DB_ERR_CNT = s.reg Reg.HIF_DB_ERR_CNT + 1 ∧
            (∃ d, u.told 0x0403 0 d) ∧ u.beat = { s.beat with intakeRun := true } ∧
            s.keepsRegs u (Reg.HIF_STATUS :: Reg.HIF_DB_ERR_CNT :: (pair64 Reg.HIF_DB_FETCH_CNT ++ dropCounters)) ∧
            s.keeps u (.beat :: eventParts)) ∧
        (s.txState n = 1 → (∀ m < 64, m ≠ n → s.txState m = 0) → (∀ m < 64, s.rxState m = 0) →
          (wraps prod r.prod = false → idxSub prod r.fetch ≤ 2 ^ r.log2 → wraps cack r.cack = false →
            idxSub cack r.cack ≤ idxSub r.cprod r.cack →
            answers (exec (.intakeSlot (some [(0x40 + 4 * n, prod), (0x140 + 4 * n, cack)]) [] t) s) fun u =>
              u.txRing n = { r with prod := prod, cack := cack } ∧ u.txState n = 1 ∧
                u.reg64 Reg.HIF_DB_FETCH_CNT = (s.reg64 Reg.HIF_DB_FETCH_CNT + 1) % 2 ^ 64 ∧
                s.keepsRegs u (Reg.HIF_STATUS :: pair64 Reg.HIF_DB_FETCH_CNT) ∧ s.keeps u [.beat, .hif]) ∧
          (wraps prod r.prod = true ∨ 2 ^ r.log2 < idxSub prod r.fetch →
            answers (exec (.intakeSlot (some [(0x40 + 4 * n, prod)]) [] t) s) fun u =>
              u.txState n = 3 ∧ (u.txRing n).dead = true ∧ (∃ d, u.told 0x0401 (unitOf 3 n) d)) ∧
          (r.prod < 2 ^ 32 → r.cack < 2 ^ 32 → r.fetch ≠ r.prod → idxSub r.prod r.fetch ≤ 2 ^ r.log2 →
            (x.cmpl = true → r.owed + 1 + idxSub r.cprod r.cack ≤ 2 ^ r.log2) →
            1 ≤ s.cur (Fld.HIF_TXn_CFG_QUOTA n) → s.updState ≠ 5 →
            let cmd := Instr.intakeSlot (some []) [{ ring := n, bytes := some b, payload := none }] t
            (x.opcode = 3 → x.cmpl = true → r.dead = false → answers (exec cmd s) fun u =>
              (∃ c, u.hif.finals = s.hif.finals ++ [c] ∧ c.ring = n ∧ c.tag = x.tag ∧ c.status = 0) ∧
                u.hif.fetched = s.hif.fetched ∧ (u.txRing n).fetch = (r.fetch + 1) % 2 ^ 32) ∧
            (x.opcode = 1 → x.inline = true → s.descRefused x = false → x.blocks 0 ≤ s.freeBlocks →
              answers (exec cmd s) fun u =>
                u.hif.fetched = s.hif.fetched ++ [{ ring := n, gen := r.gen, desc := x }] ∧ u.hif.finals = s.hif.finals ∧
                  u.freeBlocks = s.freeBlocks - x.blocks 0 ∧ (u.txRing n).fetch = (r.fetch + 1) % 2 ^ 32)))))

/-- WRITEBACK_SLOT: the view, a completion, the page. -/
def Obligations.TheWritebackShowsTheUnitAndServesTheHost : Prop :=
  ∀ (budget : Nat) (t : Tai) (s : State), s.up = true →
    let cmd := Instr.writebackSlot budget [] [] [] t
    let view := fun (u : State) =>
      u.get Fld.BEAT_STATUS_SLOT_CUR = 4 ∧ u.reg64 Reg.MGT_VIEW_TIME = s.slotStart 4 % 2 ^ 64 ∧
        ∀ unit ∈ registryUnits, (s.word unit).epoch < 65536 → (s.word unit).code < 65536 →
          u.reg (viewOffset unit) = BitVec.ofNat 32 ((if s.mgt.bad.contains unit then 0xFF else (s.word unit).code) +
            2 ^ 16 * (s.word unit).epoch)
    let page := fun (u : State) => ∃ status, Output.dmaWrite (s.addr64 Reg.HIF_CIP_BASE_LO Reg.HIF_CIP_BASE_HI)
      (le 8 s.beat.start ++ le 4 ((s.hif.wbSeq + 1) % 2 ^ 32) ++ le 4 status) ∈ u.out
    ((s.at t).slotOpen 4 = false ∨ 4 ≤ s.get Fld.BEAT_STATUS_SLOT_CUR →
      answers (exec cmd s) fun u => s.keepsRegs u [] ∧ s.keeps u []) ∧
    ((s.at t).slotOpen 4 = true → s.get Fld.BEAT_STATUS_SLOT_CUR < 4 →
      s.get Fld.BEAT_STATUS_SLOT_CUR ≠ 3 ∨ s.beat.ended = true →
      (s.glb.phase ≠ .running → answers (exec cmd s) fun u => view u ∧ s.keeps u [.beat]) ∧
      (s.glb.phase = .running → s.hostUp = true → s.hif.linkReady = true → s.get Fld.HIF_STATUS_RUNNING = 1 →
        s.nestPowered = false → s.updState ≠ 5 → s.mgt.snapDue = false → s.mgt.snapHeld = [] →
        (∀ m < 64, s.rxState m = 0) →
          (s.hif.finals = [] → answers (exec cmd s) fun u =>
            view u ∧ page u ∧ u.hif.wbSeq = (s.hif.wbSeq + 1) % 2 ^ 32) ∧
          (∀ c : Completion, s.hif.finals = [c] → 1 ≤ budget → c.ring < 64 → c.flow = none →
            let r := s.txRing c.ring
            r.dead = false → s.txState c.ring ≠ 0 → answers (exec cmd s) fun u =>
              view u ∧ page u ∧ u.hif.finals = [] ∧ (u.txRing c.ring).cprod = (r.cprod + 1) % 2 ^ 32 ∧
                Output.dmaWrite (s.txCbase c.ring + 16 * (r.cprod % 2 ^ r.log2))
                  (le 1 c.status ++ le 1 (b2n c.gap + 2 * b2n c.replay + 4 * b2n (c.time != 0)) ++ le 2 c.tag ++
                    le 2 c.epoch ++ le 1 c.egTotal ++ le 1 c.egFail ++ le 8 c.time) ∈ u.out)))

/-- TX_NOP, TX_FRAME, FUNCTION_LEVEL_RESET and PERST_RESET. -/
def Obligations.HostFramesEnterTheFabricOrComplete : Prop :=
  ∀ (n : Nat) (t : Tai) (s : State), s.up = true → n < 64 →
    let ring := s.txRing n
    let live := fun (x : Fetched) => x.desc.cmpl = true ∧ x.gen = ring.gen ∧ ring.dead = false
    let completes := fun (u : State) (tag status : Nat) =>
      ∃ c, u.hif.finals = s.hif.finals ++ [c] ∧ c.ring = n ∧ c.tag = tag ∧ c.status = status
    let fetches := (s.at t).slotOpen 0 = true ∧ s.glb.phase = .running ∧ s.get Fld.NVM_UPD_STATUS_STATE ≠ 5 ∧
      s.get Fld.HIF_STATUS_RUNNING = 1 ∧ s.hostUp = true ∧ s.txState n = 1 ∧ ring.fetch ≠ ring.prod
    (∀ b payload, (b.all fun (l : Bytes) => l.headD 0#8 == 3#8) = true → ¬ fetches →
      answers (exec (.txNop { ring := n, bytes := b, payload := payload } t) s) fun u =>
      s.keepsRegs u [] ∧ s.keeps u []) ∧
    (∀ b payload, fetches →
      let x := parseDesc b payload
      x.opcode = 3 → x.cmpl = true → ring.dead = false → ring.owed + 1 + idxSub ring.cprod ring.cack ≤ 2 ^ ring.log2 →
      answers (exec (.txNop { ring := n, bytes := some b, payload := payload } t) s) fun u =>
        completes u x.tag 0 ∧ (u.txRing n).fetch = (ring.fetch + 1) % 2 ^ 32 ∧ u.hif.fetched = s.hif.fetched ∧
          s.keepsRegs u [Reg.HIF_TXn_STAT n] ∧ s.keeps u [.hif, .mgt]) ∧
    (takeFetched n 1 s.hif.fetched = none → answers (exec (.txFrame n [] t) s) fun u => s.keepsRegs u [] ∧ s.keeps u []) ∧
    (∀ x rest, takeFetched n 1 s.hif.fetched = some (x, rest) →
      let w := x.desc.wire (x.desc.payload.getD [])
      let q := { s with hif := { s.hif with fetched := rest } }.put Fld.FAB_FREE_BLOCKS (s.freeBlocks + blocksFor x.desc.len)
      let found := ((q.at t).looked 78 (some (n, x.desc.dest)) w).1
      let counts := fun (u : State) k => u.reg64 (Reg.FAB_PCNTp_k 78 k) = (s.reg64 (Reg.FAB_PCNTp_k 78 k) + 1) % 2 ^ 64
      (live x → found = .miss → answers (exec (.txFrame n [] t) s) fun u =>
        completes u x.desc.tag 1 ∧ u.hif.fetched = rest ∧ counts u 2) ∧
      (live x → ∀ r : Route, found = .route r → r.egress = [] → answers (exec (.txFrame n [] t) s) fun u =>
        completes u x.desc.tag 0 ∧ u.hif.fetched = rest ∧ counts u 3) ∧
      (∀ (r : Route) (p : Nat), found = .route r → r.egress = [p] → p < 48 → 1024 ≤ r.limiter → r.afaCheck = false →
        r.afaAdd = false → r.xlate = 0 → s.domain 4 = 2 → s.claimed = true → s.domain (domainOf p) = 2 →
        s.canState p = 2 → s.on (Fld.CANP_MODE_LISTEN p) = false → s.get (Fld.REEF_PORTn_STAT_STATE p) ≠ 2 →
        answers (exec (.txFrame n [] t) s) fun u =>
          u.hif.fetched = rest ∧ counts u 0 ∧
            ∃ (c : Copy) (f : Frame), u.queue p r.cls = s.queue p r.cls ++ [c] ∧ c.port = p ∧ c.wire = w ∧
              c.ready = true ∧ u.frame? c.fid = some f ∧ f.ingress = 78 ∧ f.wire = w ∧ f.opened = [p] ∧
              ∃ h, f.host = some h ∧ h.ring = n ∧ h.tag = x.desc.tag)) ∧
    ∀ c ∈ [Instr.functionLevelReset t, Instr.perstReset t], answers (exec c s) fun u =>
      (∀ off, 0x30000 ≤ off → off < 0x40000 → u.reg off = RegMap.resetOf off ∧ u.liveReg off = RegMap.resetOf off ∧
        off ∉ u.paced) ∧ u.hif.finals = [] ∧ u.hif.linkReady = false ∧ u.hif.wbSeq = 0 ∧
        (c = .perstReset t → s.get Fld.NVM_UPD_STATUS_STATE = 1 → u.get Fld.NVM_UPD_STATUS_STATE = 0 ∧
          u.get Fld.NVM_UPD_STATUS_RESULT = 2 ∧ ∃ d, u.told 0x1208 0 d)

/-! ### CAN ports -/

/-- CAN_ERROR_DETECTED, CANP_TXD_TIMEOUT, CAN_ARBITRATION_LOST, CANP_PROTO_EXC, CANP_BUS_ON and CAN_INTEGRATION_DONE. -/
def Obligations.CanErrorsAreCountedAndMoveTheState : Prop :=
  ∀ (n : Nat) (t : Tai) (s : State), s.up = true → n < 48 →
    let tec := fun (u : State) => u.get (Fld.CANP_ECNT_TEC n)
    let rec_ := fun (u : State) => u.get (Fld.CANP_ECNT_REC n)
    let cnt := fun (u : State) k => u.reg64 (Reg.CANP_CNTk n k)
    let byCounters := fun (u : State) => if 255 < tec u then 4 else if 127 < tec u ∨ 127 < rec_ u then 3 else 2
    let live := s.canState n = 2 ∨ s.canState n = 3
    (live → tec s ≤ 255 → s.sending n = none → SMap.look s.fab.arrivals n = none →
      (∀ (code phase : Nat) (tx : Bool) (rule : ErrCount) (sof16 tdcv : Option Nat) (fails : Bool), 1 ≤ code → code ≤ 6 → phase ≤ 1 →
        answers (exec (.canErrorDetected n code phase tx rule sof16 tdcv fails t) s) fun u =>
          u.get (Fld.CANP_LAST_ERR_CODE n) = code ∧ u.get (Fld.CANP_LAST_ERR_PHASE n) = phase ∧
          u.get (Fld.CANP_LAST_ERR_DIR n) = b2n tx ∧
          (let k := if tx then 3 else 2
           cnt u k = (cnt s k + 1) % 2 ^ 64) ∧
          tec u = tec s + (if rule = .transmitter ∧ s.frozen n = false ∧ (s.canOf n).silent = false then 8 else 0) ∧
          rec_ u = (if s.frozen n then rec_ s else match rule with
            | .receiver => min 255 (rec_ s + 1)
            | .receiverFlag => min 255 (rec_ s + 8)
            | _ => rec_ s) ∧
          u.canState n = (if (s.canOf n).integrateAfter = true ∧ tec u ≤ 255 then 1 else byCounters u) ∧
          (255 < tec u → u.told 0x0703 (unitOf 1 n) [n4 code, n4 (tec u)] ∧
            u.get (Fld.CANP_STATUS_BOFF_PENDING n) = 1) ∧
          ∀ m < 48, m ≠ n → u.reg (Reg.CANP_STATUS m) = s.reg (Reg.CANP_STATUS m) ∧
            u.reg (Reg.CANP_ECNT m) = s.reg (Reg.CANP_ECNT m)) ∧
      (s.canDrives n = true → ∀ phase ≤ 1, answers (exec (.canpTxdTimeout n phase t) s) fun u =>
        cnt u 8 = (cnt s 8 + 1) % 2 ^ 64 ∧ cnt u 3 = (cnt s 3 + 1) % 2 ^ 64 ∧
          u.get (Fld.CANP_LAST_ERR_CODE n) = 6 ∧ u.get (Fld.CANP_LAST_ERR_DIR n) = 1 ∧
          tec u = tec s + (if (s.canOf n).silent then 0 else 8) ∧ u.told 0x0706 (unitOf 1 n) [n4 (tec u)])) ∧
    (∀ (c : Copy) (f : Frame), s.sending n = some c → s.frame? c.fid = some f → f.host = none → c.ahead = false → c.last = false →
      (s.canOf n).noRetry = false → answers (exec (.canArbitrationLost n t) s) fun u =>
        cnt u 4 = (cnt s 4 + 1) % 2 ^ 64 ∧ u.sending n = none ∧ u.queue n f.cls = c :: s.queue n f.cls ∧
          s.keepsRegs u (Reg.FAB_QSTATp n :: pair64 (Reg.CANP_CNTk n 4)) ∧ s.keeps u [.fab]) ∧
    (answers (exec (.canpProtoExc n t) s) fun u =>
      if live ∧ s.canKind n < 2 ∧ (s.canOf n).excepted = false then
        (u.canOf n).excepted = true ∧ cnt u 5 = (cnt s 5 + 1) % 2 ^ 64 ∧
          ((s.at t).firstInSecond (0x0705 * 65536 + n) = true → u.told 0x0705 (unitOf 1 n) [n8 (cnt u 5)]) ∧
          s.keepsRegs u (pair64 (Reg.CANP_CNTk n 5) ++ dropCounters) ∧ s.keeps u (.can :: .fab :: eventParts)
      else s.keepsRegs u [] ∧ s.keeps u []) ∧
    (∀ seqs, answers (exec (.canpBusOn n seqs t) s) fun u =>
      let seen := s.get (Fld.CANP_STATUS_BOFF_SEQ n) + seqs
      if s.canState n = 4 ∧ seen < 128 then
        u.get (Fld.CANP_STATUS_BOFF_SEQ n) = seen ∧ s.keepsRegs u [Reg.CANP_STATUS n] ∧ s.keeps u []
      else if s.canState n = 4 then
        u.canState n = 2 ∧ tec u = 0 ∧ rec_ u = 0 ∧ u.get (Fld.CANP_STATUS_BOFF_SEQ n) = 128 ∧
          u.get (Fld.CANP_STATUS_BOFF_PENDING n) = 0 ∧
          u.told 0x0704 (unitOf 1 n) [n8 (max s.time.now t - (s.canOf n).boffAt)]
      else s.keepsRegs u [] ∧ s.keeps u []) ∧
    (∀ lost, answers (exec (.canIntegrationDone n lost t) s) fun u =>
      if s.canState n = 1 then u.canState n = byCounters u ∧ tec u = tec s ∧ rec_ u = rec_ s
      else if live then (u.canOf n).excepted = false ∧ s.keepsRegs u [] ∧ s.keeps u [.can]
      else s.keepsRegs u [] ∧ s.keeps u [])

/-- CAN_PORT_ENABLE, CAN_PORT_DISABLE, CAN_LISTEN_ONLY and CANP_TIMING_APPLY. -/
def Obligations.CanPortsFollowTheirModesAndTiming : Prop :=
  ∀ (n : Nat) (t : Tai) (s : State), s.up = true → n < 48 →
    let empty := fun (u : State) => ∀ cls < 8, u.queue n cls = []
    (∀ lost, answers (exec (.canPortEnable n lost t) s) fun u =>
      u.get (Fld.CANP_MODE_EN n) = 1 ∧ u.on (Fld.CANP_MODE_EN n) = true ∧
        (s.canState n = 0 →
          (s.isolated (domainOf n) = true → u.canState n = 6) ∧
          (s.isolated (domainOf n) = false → s.get (Fld.CANP_STATUS_BOFF_PENDING n) = 1 → u.canState n = 4) ∧
          (s.isolated (domainOf n) = false → s.get (Fld.CANP_STATUS_BOFF_PENDING n) ≠ 1 → u.canState n = 1 ∧
            u.get (Fld.CANP_ECNT_TEC n) = 0 ∧ u.get (Fld.CANP_ECNT_REC n) = 0)) ∧
        (s.canState n ≠ 0 → s.keepsRegs u [Reg.CANP_MODE n] ∧ s.keeps u [.live])) ∧
    (answers (exec (.canPortDisable n t) s) fun u =>
      u.get (Fld.CANP_MODE_EN n) = 0 ∧ u.on (Fld.CANP_MODE_EN n) = false ∧ u.canState n = 0 ∧
        (s.canState n ≠ 0 → empty u) ∧
        (s.canState n = 0 → s.keepsRegs u [Reg.CANP_MODE n] ∧ s.keeps u [.live])) ∧
    (answers (exec (.canListenOnly n t) s) fun u =>
      u.get (Fld.CANP_MODE_LISTEN n) = 1 ∧ u.canState n = s.canState n ∧ empty u ∧ u.canDrives n = false ∧
        u.get (Fld.CANP_STATUS_TX_ENABLED n) = 0) ∧
    ∀ busy, answers (exec (.canpTimingApply n busy t) s) fun u =>
      let timing := [Reg.CANP_NBT n, Reg.CANP_DBT n, Reg.CANP_XBT n, Reg.CANP_TDC n]
      let idle := busy = false ∧ s.sending n = none
      if (s.at t).commitDue = true ∧ s.cmds.contains (.canTiming n) = true ∧ s.domain (domainOf n) = 2 then
        u.cmds = s.cmds.filter (fun c => c != RegCmd.canTiming n) ∧ u.get (Fld.CANP_STATUS_TIMING_PENDING n) = 0 ∧
          (if s.timingErrors n = 0 then
             (∀ o ∈ timing, u.liveReg o = s.reg o) ∧
               (idle → s.canState n = 2 ∨ s.canState n = 3 → u.canState n = 1) ∧
               (¬ idle → s.canState n = 2 ∨ s.canState n = 3 →
                 u.canState n = s.canState n ∧ (u.canOf n).integrateAfter = true) ∧
               (s.canState n = 4 → u.canState n = 4 ∧ u.get (Fld.CANP_STATUS_BOFF_SEQ n) = 0)
           else
             u.reg (Reg.CANP_CFG_ERR n) = s.reg (Reg.CANP_CFG_ERR n) ||| BitVec.ofNat 32 (s.timingErrors n) ∧
               u.told 0x0707 (unitOf 1 n) [n4 (u.w (Reg.CANP_CFG_ERR n))] ∧
               (∀ o ∈ timing, u.liveReg o = s.liveReg o) ∧
               ((∀ r ∈ s.liveRoutes, r.runAhead = true → s.duration r = true) →
                s.keepsRegs u (Reg.CANP_STATUS n :: Reg.CANP_CFG_ERR n :: dropCounters) ∧
               s.keeps u (.cmds :: eventParts)))
      else s.keepsRegs u [] ∧ s.keeps u []

/-! ### CAN frames and run-ahead -/

/-- ROUTE_LOOKUP, CAN_FRAME_VALID, CAN_TX_START and CAN_TX_COMPLETE. -/
def Obligations.CanFramesAreLookedUpQueuedAndSent : Prop :=
  ∀ (n : Nat) (w : Wire) (sof16 eof16 : Nat) (t : Tai) (s : State), s.up = true → n < 48 →
    let receives := (s.canState n = 2 ∨ s.canState n = 3) ∧ w.kind ≤ s.canKind n ∧ (s.canOf n).excepted = false
    let cnt := fun (u : State) off => u.reg64 off
    let once := fun (u : State) off => cnt u off = (cnt s off + 1) % 2 ^ 64
    (∀ port < 77, (port < 48 → receives ∧ port = n) → answers (exec (.routeLookup port w sof16 t) s) fun u =>
      let a : Arrival := { looked := .miss, rejected := false, fid := none, gone := false, wire := w, stamp := s.stampIn port sof16, at_ := max s.time.now t }
      if port < 48 ∧ s.accRejects port w = true then
        SMap.look u.fab.arrivals port = some { a with rejected := true } ∧
          s.keepsRegs u [] ∧ s.keeps u [.fab, .can]
      else
        SMap.look u.fab.arrivals port = some { a with looked := s.lookup port none w } ∧
          (match s.lookup port none w with
           | .route r => once u (Reg.FAB_HITj r.index) ∧ s.keepsRegs u (pair64 (Reg.FAB_HITj r.index))
           | .miss => s.keepsRegs u []) ∧ s.keeps u [.fab, .can]) ∧
    (receives → w.kind ≤ 2 → s.get (Fld.CANP_ECNT_TEC n) ≤ 255 →
      let cmd := Instr.canFrameValid n w sof16 eof16 [] t
      (SMap.look s.fab.arrivals n = none → s.accRejects n w = true → answers (exec cmd s) fun u =>
        once u (Reg.CANP_CNTk n 0) ∧ once u (Reg.CANP_CNTk n 1) ∧ u.fab = s.fab) ∧
      ∀ (a : Arrival) (r : Route) (p : Nat), SMap.look s.fab.arrivals n = some a → a.looked = .route r →
        a.rejected = false → a.gone = false → a.fid = none → r.egress = [p] → p < 48 → p ≠ n → 1024 ≤ r.limiter → r.afaCheck = false → r.afaAdd = false → r.xlate = 0 →
        s.cur Fld.FAB_HOSTBUF_BLOCKS < s.freeBlocks → s.domain 4 = 2 → s.claimed = true → s.domain (domainOf p) = 2 →
        s.canState p = 2 → s.on (Fld.CANP_MODE_LISTEN p) = false → s.get (Fld.REEF_PORTn_STAT_STATE p) ≠ 2 →
        s.sending p = none → s.queueLen p r.cls < s.cur (Fld.FAB_QCFGp_c_DEPTH p r.cls) → answers (exec cmd s) fun u =>
          once u (Reg.CANP_CNTk n 0) ∧ once u (Reg.FAB_PCNTp_k n 0) ∧
          u.freeBlocks = s.freeBlocks - blocksFor w.data.length ∧
          ∃ (c : Copy) (f : Frame), u.queue p r.cls = s.queue p r.cls ++ [c] ∧ c.port = p ∧ c.wire = w ∧ c.ready = true ∧
            u.frame? c.fid = some f ∧ f.ingress = n ∧ f.wire = w ∧ f.stamp = s.stampIn n sof16 ∧ f.opened = [p]) ∧
    (∀ fault, (s.canDrives n = false ∨ (s.canOf n).excepted = true → answers (exec (.canTxStart n fault t) s) fun u =>
        u.out = [] ∧ s.keepsRegs u [] ∧ s.keeps u []) ∧
      (s.canDrives n = true → (s.canOf n).excepted = false → s.sending n = none → s.hal.yielding = false → s.domain (domainOf n) ≠ 4 →
        ∀ (cls : Nat) (c : Copy), s.pick n = some (cls, c) →
          (fault = false → s.txWakeAllows n c = true → answers (exec (.canTxStart n fault t) s) fun u =>
            u.sending n = some { c with attempts := c.attempts + 1 } ∧ u.queue n cls = (s.queue n cls).drop 1 ∧
              u.out = [.frameStart n (s.onBus n c.wire) false] ∧ s.keepsRegs u [Reg.FAB_QSTATp n] ∧
              s.keeps u [.fab, .can, .mgt]) ∧
          (fault = true → answers (exec (.canTxStart n fault t) s) fun u =>
            u.queue n cls = [] ∧ u.sending n = none ∧
              cnt u Reg.FAB_QRESET_CNT = (cnt s Reg.FAB_QRESET_CNT + (s.queue n cls).length) % 2 ^ 64 ∧
              u.told 0x0503 (unitOf 1 n) [n4 n, n4 cls, n4 (s.queue n cls).length]))) ∧
    ∀ (c : Copy) (tdcv : Option Nat), s.sending n = some c → s.get (Fld.CANP_ECNT_TEC n) ≤ 255 →
      answers (exec (.canTxComplete n sof16 eof16 tdcv t) s) fun u =>
        u.sending n = none ∧ Output.frameEnd n false ∈ u.out ∧ once u (Reg.FAB_PCNTp_k n 1) ∧
        u.get (Fld.CANP_ECNT_TEC n) = (if s.frozen n then s.get (Fld.CANP_ECNT_TEC n)
          else s.get (Fld.CANP_ECNT_TEC n) - 1) ∧
        ∀ (f : Frame) (h : HostTag), s.frame? c.fid = some f → f.host = some h → f.origin = .routed → f.opened = [n] →
          f.done = [] → f.auth ≠ 3 → h.cmpl = true → h.gen = (s.txRing h.ring).gen → (s.txRing h.ring).dead = false →
          u.frame? c.fid = none ∧ ∃ e ∈ u.hif.finals, e.ring = h.ring ∧ e.status = 0 ∧ e.tag = h.tag ∧
            e.time = s.stampOut n sof16

/-- RUN_AHEAD_COPY_START and ABORT_DEADLINE. -/
def Obligations.RunAheadCopiesStartAndMeetTheirDeadline : Prop :=
  ∀ (n p : Nat) (t : Tai) (s : State), s.up = true → n < 48 → p < 77 →
    let start := Instr.runAheadCopyStart n p [] t
    (SMap.look s.fab.arrivals n = none → answers (exec start s) fun u => u.out = [] ∧ s.keepsRegs u [] ∧ s.keeps u []) ∧
    (∀ a : Arrival, SMap.look s.fab.arrivals n = some a →
      a.looked = .miss ∨ a.rejected = true ∨ a.gone = true ∨ (∃ r, a.looked = .route r ∧ (s.at t).raTime a r n p = false) →
      answers (exec start s) fun u => u.out = [] ∧ s.keepsRegs u [] ∧ s.keeps u []) ∧
    (∀ (a : Arrival) (r : Route) (fid : Nat) (c : Copy) (rest : List Copy), SMap.look s.fab.arrivals n = some a →
      a.looked = .route r → a.rejected = false → a.gone = false → a.fid = some fid → r.runAhead = true → p ∈ r.external →
      s.raPortReady r.index p r.cls (some fid) = true → (s.at t).raTime a r n p = true → s.queue p r.cls = c :: rest →
      c.fid = fid → c.attempts = 0 →
      (p < 48 → answers (exec start s) fun u =>
        u.sending p = some { c with ahead := true, attempts := 1 } ∧ u.queue p r.cls = rest ∧
          u.reg64 Reg.FAB_RA_START_CNT = (s.reg64 Reg.FAB_RA_START_CNT + 1) % 2 ^ 64 ∧
          u.out = [.frameStart p (s.onBus p c.wire) true] ∧ (∃ x, u.raOf fid = some x ∧ p ∈ x.started) ∧
          s.keepsRegs u (Reg.FAB_QSTATp p :: pair64 Reg.FAB_RA_START_CNT) ∧ s.keeps u [.fab, .ra, .can, .mgt]) ∧
      (48 ≤ p → p < 61 → s.secOn p = false → ∀ f : Frame, s.frame? fid = some f → answers (exec start s) fun u =>
        (∃ c', u.sending p = some c' ∧ c'.fid = fid ∧ c'.ahead = true ∧ c'.attempts = 1) ∧ u.queue p r.cls = rest ∧
          u.reg64 Reg.FAB_RA_START_CNT = (s.reg64 Reg.FAB_RA_START_CNT + 1) % 2 ^ 64 ∧
          u.out = [.frameStart p (ethWire p (s.ethBytes p f c).1) true] ∧ (∃ x, u.raOf fid = some x ∧ p ∈ x.started) ∧
          s.keepsRegs u (Reg.FAB_QSTATp p :: pair64 Reg.FAB_RA_START_CNT) ∧ s.keeps u [.fab, .ra, .eth, .mgt])) ∧
    (s.sending p = none → answers (exec (.abortDeadline p t) s) fun u => s.keepsRegs u [] ∧ s.keeps u []) ∧
    ∀ c : Copy, s.sending p = some c →
      (c.ahead = false ∨ s.raOf c.fid = none → answers (exec (.abortDeadline p t) s) fun u =>
        s.keepsRegs u [] ∧ s.keeps u []) ∧
      ∀ x : RaFrame, c.ahead = true → s.raOf c.fid = some x →
        (x.valid = true → answers (exec (.abortDeadline p t) s) fun u =>
          u.raOf c.fid = some { x with past := x.past ++ [p] } ∧ u.sending p = some c ∧ s.keepsRegs u [] ∧
            s.keeps u [.ra]) ∧
        (x.valid = false → answers (exec (.abortDeadline p t) s) fun u =>
          u.sending p = none ∧ (if p < 48 then Output.errorFlag p else .frameEnd p true) ∈ u.out ∧
            (x.cancelled = false → u.told 0x050A (unitOf 1 x.ingress) [n4 x.route, n4 4, n4 x.ingress] ∧
              u.get Fld.FAB_RA_LAST_REASON = 4 ∧
              u.reg64 Reg.FAB_RA_ABORT_CNT = (s.reg64 Reg.FAB_RA_ABORT_CNT + 1) % 2 ^ 64))

/-! ### The Reef controller -/

/-- REEF_SLEEP, WAKE_PATTERN, WAKE_FRAME, MUSTER_PRE_WAKE, REEF_DEC_WAKE, REEF_WAKE_COMPLETE, REEF_TX_WAKE, REEF_TX_WAKE_DELAY,
REEF_INSOMNIA, MUSTER_SPAN_END and REEF_COMMIT_APPLY. -/
def Obligations.PortsSleepAndWakeForTheirCauses : Prop :=
  ∀ (n : Nat) (t : Tai) (s : State), s.up = true → n < 48 →
    let once := fun (u : State) off => u.reg64 off = (s.reg64 off + 1) % 2 ^ 64
    let same := fun (u : State) => s.keepsRegs u [] ∧ s.keeps u []
    let cfg := s.cur (Fld.REEF_PORTn_CFG_WAKE_MODE n)
    let wakes := fun (reason : Nat) (u : State) => u.reefState n = 3 ∧
      u.get (Fld.REEF_PORTn_STAT_LAST_REASON n) = reason ∧ u.get (Fld.REEF_PORTn_STAT_CAP n) = 0 ∧
      once u (Reg.REEF_CNTn_k n 1) ∧ (u.reefOf n).capturing = true ∧ (u.reefOf n).txWake = .none
    let wakesAlone := fun (reason : Nat) (u : State) => wakes reason u ∧
      s.keepsRegs u (Reg.REEF_PORTn_STAT n :: pair64 (Reg.REEF_CNTn_k n 1)) ∧ s.keeps u [.reef]
    (∀ busy, answers (exec (.reefSleep n busy t) s) fun u =>
      if (s.at t).atBoundary = true ∧ s.maySleep n busy = true then u.canState n = 5 ∧ u.reefState n = 2 ∧ once u (Reg.REEF_CNTn_k n 0) ∧
        (u.reefOf n).decErrs = 0 ∧ (u.reefOf n).capturing = false
      else same u) ∧
    (∀ dom1 rc dom2, answers (exec (.wakePattern n dom1 rc dom2 t) s) fun u =>
      let filt := s.cur (Fld.REEF_PORTn_CFG_FILT n) * 250
      if s.reefState n = 2 ∧ cfg = 1 ∧ filt ≤ min dom1 (min rc dom2) ∧
          dom1 + rc + filt ≤ s.cur (Fld.REEF_PORTn_CFG_WUP_TMO n) * 1000 then wakesAlone 1 u else same u) ∧
    (∀ w : Wire, w.kind ≤ 2 → answers (exec (.wakeFrame n w t) s) fun u =>
      if s.reefState n = 2 ∧ cfg = 2 then
        (if w.kind ≠ 0 then once u (Reg.REEF_CNTn_k n 2) ∧ s.keepsRegs u (pair64 (Reg.REEF_CNTn_k n 2)) ∧ s.keeps u []
         else if s.wakeAny n w then wakesAlone 2 u
         else (u.reefOf n).decErrs = 0 ∧ s.keepsRegs u [] ∧ s.keeps u [.reef])
      else same u) ∧
    (answers (exec (.musterPreWake n t) s) fun u =>
      if s.reefState n = 2 ∧ s.spanOverlaps n t (t + 1) = true then wakesAlone 4 u else same u) ∧
    (answers (exec (.reefDecWake n t) s) fun u =>
      if s.reefState n = 2 ∧ cfg = 2 ∧ s.on (Fld.REEF_PORTn_CFG_DEC_WAKE_EN n) = true ∧ 32 ≤ (s.reefOf n).decErrs then
        wakes 6 u ∧ u.told 0x0805 (unitOf 1 n) [n8 (s.reg64 (Reg.REEF_CNTn_k n 3))] ∧
          s.keepsRegs u (Reg.REEF_PORTn_STAT n :: (pair64 (Reg.REEF_CNTn_k n 1) ++ dropCounters)) ∧
          s.keeps u (.reef :: eventParts)
      else same u) ∧
    (answers (exec (.reefWakeComplete n t) s) fun u =>
      if s.reefState n = 3 then
        u.canState n = 1 ∧ (s.canState n = 5 → u.reefState n = b2n (s.on (Fld.REEF_PORTn_CFG_SLEEP_EN n)) ∧
          u.get (Fld.CANP_ECNT_TEC n) = 0 ∧ u.get (Fld.CANP_ECNT_REC n) = 0 ∧ (u.reefOf n).capturing = true)
      else same u) ∧
    (answers (exec (.reefTxWake n [] t) s) fun u =>
      if (s.reefOf n).txWake = .due ∧ s.canDrives n = true ∧ s.sending n = none then
        (if s.cur (Fld.REEF_PORTn_TXWAKE_MODE n) = 1 then
           u.out = [.wakePattern n (s.cur (Fld.REEF_PORTn_TXWAKE_PHASE_US n))] ∧ (u.reefOf n).txWake = .delay ∧
             (u.reefOf n).delayFrom = max s.time.now t + 3 * s.cur (Fld.REEF_PORTn_TXWAKE_PHASE_US n) * 1000 ∧ s.keepsRegs u [] ∧ s.keeps u [.reef]
         else if s.cur (Fld.REEF_PORTn_TXWAKE_MODE n) = 2 then
           (u.reefOf n).txWake = .running ∧ (∃ c : Copy, u.queue n 7 = c :: s.queue n 7 ∧ c.wire = s.wakeWire n ∧
             c.ready = true ∧ c.port = n) ∧ s.keepsRegs u [Reg.FAB_QSTATp n] ∧ s.keeps u [.reef, .fab]
         else (u.reefOf n).txWake = .none ∧ s.keepsRegs u [] ∧ s.keeps u [.reef])
      else same u) ∧
    (answers (exec (.reefTxWakeDelay n t) s) fun u =>
      if (s.reefOf n).txWake = .delay ∧
          (s.reefOf n).delayFrom + s.cur (Fld.REEF_PORTn_TXWAKE_DELAY_US n) * 1000 ≤ max s.time.now t then
        (u.reefOf n).txWake = .none ∧ s.keepsRegs u [] ∧ s.keeps u [.reef]
      else same u) ∧
    (answers (exec (.reefInsomnia n t) s) fun u =>
      let every := s.cur (Fld.REEF_PORTn_INSOM_INSOMNIA_S n)
      let due := ((s.reefOf n).insom / every + 1) * every
      if 0 < every ∧ due * 1000000000 ≤ s.awakeNs n t then
        (u.reefOf n).insom = due ∧ (∃ e ∈ u.ev.raised, e.code = 0x0801 ∧ e.unit = unitOf 1 n ∧
          e.detail.getLast? = some (n8 (s.awakeNs n t))) ∧ s.keepsRegs u dropCounters ∧ s.keeps u (.reef :: eventParts)
      else same u) ∧
    (∀ (m : Nat) (w : MusterWin), m < 1024 →
      ((s.winsOf m).filter fun (x : MusterWin) => x.settled.isNone && decide (x.closes ≤ t)).getLast? = some w →
      answers (exec (.musterSpanEnd m t) s) fun u =>
        let port := w.port
        let miss := s.get (Fld.REEF_MUSm_STAT_MISSES m) + 1
        let silent := w.void = true ∨ w.ran = false ∨ musterVoid (s.get (Fld.CANP_STATUS_STATE port)) = true
        u.get (Fld.REEF_PORTn_STAT_POST_MUS port) = 1 ∧
        if s.on (Fld.REEF_MUSm_CTRL_VALID m) = false ∨ s.cur (Fld.REEF_MUSm_CTRL_PORT m) ≠ port then w ∉ u.winsOf m
        else
        { w with settled := some (match w.report with
            | some o => o
            | none => if silent then 5 else 3) } ∈ u.winsOf m ∧
        (w.report ≠ none ∨ silent → u.reg (Reg.REEF_MUSm_STAT m) = s.reg (Reg.REEF_MUSm_STAT m)) ∧
        (w.report = none → ¬ silent →
          u.get (Fld.REEF_MUSm_STAT_MISSES m) = miss % 16 ∧ u.get (Fld.REEF_MUSm_STAT_MULT_LOG m) = min 4 (miss / 2) ∧
          (miss = 10 → u.get (Fld.REEF_MUSm_STAT_CARD_LOST m) = 1 ∧
            u.told 0x0803 (unitOf 1 port) [n4 m, n4 (s.cur (Fld.REEF_MUSm_CTRL_NODE m))]))) ∧
    answers (exec (.reefCommitApply t) s) fun u =>
      if (s.at t).commitDue = true ∧ s.cmds.contains .reefCommit = true then
        u.cmds = s.cmds.filter (fun c => c != RegCmd.reefCommit) ∧ u.get Fld.REEF_STATUS_PENDING = 0 ∧
          (if s.reefErrors = 0 then
             ∀ (off : Nat) (r : RegRow), 0x140000 ≤ off → off < 0x150000 → RegMap.find off = some r → r.st ≠ 0 →
               off ≠ Reg.REEF_STATUS → u.liveReg off = s.reg off
           else
             u.reg Reg.REEF_CFG_ERR = s.reg Reg.REEF_CFG_ERR ||| BitVec.ofNat 32 s.reefErrors ∧
               u.told 0x0806 0 [n4 (u.w Reg.REEF_CFG_ERR)] ∧
               s.keepsRegs u (Reg.REEF_STATUS :: Reg.REEF_CFG_ERR :: dropCounters) ∧ s.keeps u (.cmds :: eventParts))
      else same u

/-! ### Ethernet, T1S and serial -/

/-- ETH_FRAME_RECEIVED, ETH_TX_START, ETH_TX_COMPLETE, ETH_LINK_UP, ETH_LINK_DOWN, T1S_TRANSMIT_OPPORTUNITY, PLCA_BEACON,
PLCA_BEACON_RECEIVED, T1S_PLCA_LOST, T1S_PLCA_OK, T1S_COLLISION and MDIO_DONE. -/
def Obligations.EthernetFramesLinksAndPlcaFollowTheManual : Prop :=
  ∀ (p q k : Nat) (t : Tai) (s : State), s.up = true → 48 ≤ p → p ≤ 60 → q < 5 → k < 8 →
    let once := fun (u : State) off => u.reg64 off = (s.reg64 off + 1) % 2 ^ 64
    let same := fun (u : State) => s.keepsRegs u [] ∧ s.keeps u []
    let ctr := fun eth t1s => if p < 56 then Reg.T1S_Ss_CNTk (p - 48) t1s else Reg.ETH_Pq_CNTk (p - 56) eth
    let alone := fun (u : State) off => once u off ∧ s.keepsRegs u (pair64 off) ∧ s.keeps u []
    let soon := fun key => (s.at t).firstInSecond key = true
    let wire := fun (d : Bytes) =>
      ({ kind := portKind 0 p, ide := false, brs := false, rtr := false, esi := false, id := 0, af := 0, data := d } : Wire)
    (∀ (data : Bytes) (edge16 : Nat) (fcsOk uns : Bool),
      let cmd := Instr.ethFrameReceived p data edge16 fcsOk uns [] t
      let plain := 56 ≤ p → p < 60 → s.on (Fld.LSEC_Ll_CTRL_RX_EN (p - 56)) = false
      let whole := data.length + 4 ≤ 2120 ∧ 64 ≤ data.length + 4 ∧ fcsOk = true
      let own := data.take 6 = s.ownMac p
      (s.ethState p ≠ 2 → answers (exec cmd s) same) ∧
      (s.ethState p = 2 → plain →
        (data.length + 4 < 64 → answers (exec cmd s) fun u => alone u (ctr 2 2)) ∧
        (64 ≤ data.length + 4 → data.length + 4 ≤ 2120 → fcsOk = false → answers (exec cmd s) fun u => alone u (ctr 1 1)) ∧
        (whole → ¬ own → groupMac data = false →
          (56 ≤ p → s.on (Fld.ETH_Pq_MODE_PROMISC (p - 56)) = false) → answers (exec cmd s) fun u =>
            once u (ctr 0 0) ∧ (56 ≤ p → once u (Reg.ETH_Pq_CNTk (p - 56) 4)) ∧
              s.keepsRegs u (pair64 (ctr 0 0) ++ pair64 (Reg.ETH_Pq_CNTk (p - 56) 4)) ∧ s.keeps u []) ∧
        (whole → own → etherType data ∉ [0x8808, 0x0806, 0x0800, 0x86DD] → s.isPtp p data = false →
          ∀ r : Route, s.lookup p none (wire data) = .route r → answers (exec cmd s) fun u =>
            once u (ctr 0 0) ∧ once u (Reg.FAB_HITj r.index) ∧
              (r.egress = [] → once u (Reg.FAB_PCNTp_k p 3) ∧ u.fab = s.fab)))) ∧
    (s.ethState p = 2 → s.released p = false →
      (s.ethMay p = false → ∀ fault, answers (exec (.ethTxStart p fault t) s) fun u => u.out = [] ∧ same u) ∧
      ∀ (cls : Nat) (c : Copy) (f : Frame), s.ethMay p = true → s.pick p = some (cls, c) → s.frame? c.fid = some f →
        c.wire.kind = 3 ∨ c.wire.kind = 4 → (56 ≤ p → p < 60 → s.on (Fld.LSEC_Ll_CTRL_TX_EN (p - 56)) = false) →
        answers (exec (.ethTxStart p false t) s) fun u =>
          u.out = [.frameStart p (wire (padTo 60 0#8 c.wire.data)) false] ∧
            u.sending p = some { c with attempts := c.attempts + 1 } ∧ u.queue p cls = (s.queue p cls).drop 1 ∧
            s.keepsRegs u [Reg.FAB_QSTATp p] ∧ s.keeps u [.fab, .eth, .mgt]) ∧
    (∀ (edge16 mv : Nat) (c : Copy), s.sending p = some c → answers (exec (.ethTxComplete p edge16 mv t) s) fun u =>
      u.sending p = none ∧ Output.frameEnd p false ∈ u.out ∧ once u (Reg.FAB_PCNTp_k p 1) ∧ once u (ctr 8 3)) ∧
    (∀ (an hb fl half lost : Bool) (speed : Nat), answers (exec (.ethLinkUp q an hb fl half speed lost t) s) fun u =>
      if s.ethState (56 + q) = 1 then
        u.get (Fld.ETH_Pq_STATUS_AN_DONE q) = b2n an ∧ u.get (Fld.ETH_Pq_STATUS_HI_BER q) = b2n hb ∧
          u.get (Fld.ETH_Pq_STATUS_FEC_LOCK q) = b2n fl ∧ u.get (Fld.ETH_Pq_STATUS_SPEED q) = speed % 4 ∧
          u.ethState (56 + q) = (if half = true ∨ s.lsecHolds (56 + q) = true then 1 else 2) ∧
          (half = false → s.lsecHolds (56 + q) = false → u.told 0x0901 (unitOf 1 (56 + q))
            [n4 (s.cur (Fld.ETH_Pq_MODE_PCS q)), n4 (s.cur (Fld.ETH_Pq_MODE_FEC q))])
      else same u) ∧
    (∀ cause < 4, ∀ lost, answers (exec (.ethLinkDown q cause lost t) s) fun u =>
      if s.ethState (56 + q) = 2 then
        u.ethState (56 + q) = 1 ∧ u.sending (56 + q) = none ∧ u.told 0x0902 (unitOf 1 (56 + q)) [n4 cause]
      else same u) ∧
    (answers (exec (.t1sTransmitOpportunity k t) s) fun u =>
      s.keepsRegs u [] ∧ s.keeps u [.eth] ∧ u.opportunity (48 + k) =
        (if s.ethState (48 + k) = 2 ∧ s.on (Fld.T1S_Ss_CFG_PLCA_EN k) = true then 1 + s.cur (Fld.T1S_Ss_BURST_MAX_BC k)
         else s.opportunity (48 + k))) ∧
    (∀ mv, answers (exec (.plcaBeacon k mv t) s) fun u =>
      u.get (Fld.T1S_Ss_STATUS_BEACONING k) = b2n (s.beaconing k) ∧
        u.out = (if s.beaconing k = true ∧ s.released (48 + k) = false then [.plcaBeacon (48 + k)] else [])) ∧
    (answers (exec (.plcaBeaconReceived k t) s) fun u =>
      if s.beaconing k then
        once u (Reg.T1S_Ss_CNTk k 7) ∧ (soon (0x0A03 * 65536 + k) →
          u.told 0x0A03 (unitOf 1 (48 + k)) [n8 (u.reg64 (Reg.T1S_Ss_CNTk k 7))]) ∧
          s.keepsRegs u (pair64 (Reg.T1S_Ss_CNTk k 7) ++ dropCounters) ∧ s.keeps u (.hal :: eventParts)
      else s.keepsRegs u [] ∧ s.keeps u [.hal]) ∧
    (answers (exec (.t1sPlcaLost k t) s) fun u =>
      if s.get (Fld.T1S_Ss_STATUS_PLCA_STATUS k) = 1 then
        u.get (Fld.T1S_Ss_STATUS_PLCA_STATUS k) = 0 ∧ once u (Reg.T1S_Ss_CNTk k 8) ∧
          (soon (0x0A01 * 65536 + k) → u.told 0x0A01 (unitOf 1 (48 + k)) [n4 (s.cur (Fld.T1S_Ss_CFG_NODE_ID k))]) ∧
          s.keepsRegs u (Reg.T1S_Ss_STATUS k :: (pair64 (Reg.T1S_Ss_CNTk k 8) ++ dropCounters)) ∧ s.keeps u eventParts
      else same u) ∧
    (answers (exec (.t1sPlcaOk k t) s) fun u =>
      if s.get (Fld.T1S_Ss_STATUS_PLCA_STATUS k) = 0 ∧ s.ethState (48 + k) = 2 ∧ s.on (Fld.T1S_Ss_CFG_PLCA_EN k) = true then
        u.get (Fld.T1S_Ss_STATUS_PLCA_STATUS k) = 1 ∧
          (soon (0x0A02 * 65536 + k) → u.told 0x0A02 (unitOf 1 (48 + k)) [n4 (s.cur (Fld.T1S_Ss_CFG_NODE_ID k))]) ∧
          s.keepsRegs u (Reg.T1S_Ss_STATUS k :: dropCounters) ∧ s.keeps u eventParts
      else same u) ∧
    (s.sending (48 + k) = none → answers (exec (.t1sCollision k t) s) fun u => alone u (Reg.T1S_Ss_CNTk k 5)) ∧
    (∀ c : Copy, s.sending (48 + k) = some c → answers (exec (.t1sCollision k t) s) fun u =>
      once u (Reg.T1S_Ss_CNTk k 5) ∧ u.sending (48 + k) = none ∧
        (if 16 ≤ c.attempts then once u (Reg.T1S_Ss_CNTk k 6)
         else c.last = false → c.ahead = false → ∀ f : Frame, s.frame? c.fid = some f →
           u.queue (48 + k) f.cls = c :: s.queue (48 + k) f.cls)) ∧
    ∀ data : Nat, answers (exec (.mdioDone data t) s) fun u =>
      match s.eth.mdio with
      | none => same u
      | some m => u.eth = { s.eth with mdio := none } ∧ u.get Fld.ETH_MDIO_CMD_BUSY = 0 ∧
          (2 ≤ m.op → u.get Fld.ETH_MDIO_DATA_DATA = data % 2 ^ 16) ∧
          s.keepsRegs u (Reg.ETH_MDIO_CMD :: (if 2 ≤ m.op then [Reg.ETH_MDIO_DATA] else [])) ∧ s.keeps u [.eth]

/-- SER_CHARACTER, SER_IDLE_CLOSE, SER_TX_START and SER_TX_COMPLETE. -/
def Obligations.SerialChannelsAssembleAndSendFrames : Prop :=
  ∀ (c : Nat) (t : Tai) (s : State), s.up = true → c < 16 →
    let once := fun (u : State) off => u.reg64 off = (s.reg64 off + 1) % 2 ^ 64
    let same := fun (u : State) => s.keepsRegs u [] ∧ s.keeps u []
    let active := s.get (Fld.SER_Cc_STATUS_STATE c) = 2
    let x := s.serOf c
    let cfg := (s.liveReg (Reg.SER_Cc_CFG c)).toNat
    (∀ (line : List Bool) (start16 : Nat),
      let cmd := Instr.serCharacter c line start16 [] t
      (¬ active → answers (exec cmd s) same) ∧
      (s.on (Fld.SER_Cc_CFG_RE_MODE c) = true → s.get (Fld.SER_Cc_STATUS_DE c) = 1 → answers (exec cmd s) fun u =>
        (u.serOf c).frame = x.frame ∧ s.keepsRegs u [Reg.SER_Cc_STATUS c] ∧ s.keeps u [.ser]) ∧
      (active → s.serDeaf c (start16 / 16) = false → x.low = false → line.length ≤ 9 → line.head? = some false →
        majority (bitSamples line 0) = true → answers (exec cmd s) fun u =>
          (u.serOf c).frame = x.frame ∧ once u (Reg.SER_Cc_CNTk c 7) ∧
            s.keepsRegs u (Reg.SER_Cc_STATUS c :: pair64 (Reg.SER_Cc_CNTk c 7)) ∧ s.keeps u [.ser])) ∧
    (∀ (data : List Bool) (start16 : Nat), data.length = 8 → active → s.serDeaf c (start16 / 16) = false → x.low = false →
      let byte : Byte := BitVec.ofNat 8 (bitsNat data)
      let line := ([false] ++ data ++ [true]).flatMap (List.replicate 16)
      let until_ := sampleAt start16 (serPeriod (s.liveReg (Reg.SER_Cc_DIV c)).toNat) 160 / 16
      let begun := x.frame.getD { stamp := stampOf (61 + c) start16, bytes := [], parity := false, framing := false, brk := false, overrun := x.overrun, noise := false, until_ := until_ }
      x.cfgAt ≤ start16 / 16 → serData cfg = 8 → serParity cfg = 0 → s.cur Fld.FAB_HOSTBUF_BLOCKS < s.freeBlocks →
      (s.on (Fld.SER_Cc_FRAME_DELIM_EN c) = true → s.cur (Fld.SER_Cc_FRAME_DELIM c) ≠ byte.toNat) →
      begun.bytes.length + 1 < s.cur (Fld.SER_Cc_FRAME_MAX_LEN c) →
      answers (exec (.serCharacter c line start16 [] t) s) fun u =>
        (u.serOf c).frame = some { begun with bytes := begun.bytes ++ [byte], until_ := until_ } ∧
          u.get (Fld.SER_Cc_STATUS_RX_FRAME c) = 1 ∧ once u (Reg.SER_Cc_CNTk c 0) ∧
          s.keepsRegs u (Reg.SER_Cc_STATUS c :: pair64 (Reg.SER_Cc_CNTk c 0)) ∧ s.keeps u [.ser]) ∧
    (answers (exec (.serIdleClose c [] t) s) fun u =>
      match x.frame with
      | none => same u
      | some f =>
        let idle : Rat := (s.cur (Fld.SER_Cc_FRAME_IDLE_CH c) : Nat) * ((serBits cfg : Nat) * s.serBit c)
        if max s.time.now t < f.until_ + idle.floor.toNat then same u
        else (u.serOf c).frame = none ∧ u.get (Fld.SER_Cc_STATUS_RX_FRAME c) = 0 ∧ once u (Reg.SER_Cc_CNTk c 1) ∧
          (let w : Wire :=
             { kind := 5, ide := false, brs := false, rtr := false, esi := false, id := f.id 1, af := 0, data := f.bytes }
           match s.lookup (61 + c) none w with
           | .route r => once u (Reg.FAB_HITj r.index)
           | .miss => once u (Reg.FAB_PCNTp_k (61 + c) 2))) ∧
    (∀ (cls : Nat) (y : Copy) (abandoned : Bool), active → s.sending (61 + c) = none → s.domain 13 ≠ 4 →
      s.claimed = true → s.hal.yielding = false → x.freeAt ≤ max s.time.now t → s.pick (61 + c) = some (cls, y) →
      answers (exec (.serTxStart c false abandoned t) s) fun u =>
        (∃ start, u.out = [.frameStart (61 + c) y.wire false, .serial (61 + c) start
            (serPeriod (s.liveReg (Reg.SER_Cc_DIV c)).toNat) (y.wire.data.map (serChar cfg))] ∧ max s.time.now t ≤ start) ∧
          u.sending (61 + c) = some { y with attempts := 1 } ∧
          u.queue (61 + c) cls = (s.queue (61 + c) cls).drop 1 ∧ u.get (Fld.SER_Cc_STATUS_TX_BUSY c) = 1 ∧
          (s.on (Fld.SER_Cc_CFG_RS485 c) = true → u.get (Fld.SER_Cc_STATUS_DE c) = 1)) ∧
    ∀ (edge16 : Nat) (y : Copy), s.sending (61 + c) = some y → answers (exec (.serTxComplete c edge16 t) s) fun u =>
      u.sending (61 + c) = none ∧ Output.frameEnd (61 + c) false ∈ u.out ∧ once u (Reg.FAB_PCNTp_k (61 + c) 1) ∧
        once u (Reg.SER_Cc_CNTk c 10) ∧
        u.reg64 (Reg.SER_Cc_CNTk c 11) = (s.reg64 (Reg.SER_Cc_CNTk c 11) + y.wire.data.length) % 2 ^ 64 ∧
        u.get (Fld.SER_Cc_STATUS_TX_BUSY c) = 0 ∧ u.get (Fld.SER_Cc_STATUS_DE c) = 0

/-! ### Keys, authentication and cipher jobs -/

/-- KEY_LOAD_LIVE, KEY_RETIRE_APPLY, KEY_LIMIT_REACHED, CIPH_KEY_LOW, CIPH_ALARM, CIPH_ALARM_CLEAR and FV_WRITE_APPLY. -/
def Obligations.KeysGoLiveRetireAndAreErased : Prop :=
  ∀ (n : Nat) (t : Tai) (s : State), s.up = true → n < 64 →
    let same := fun (u : State) => s.keepsRegs u [] ∧ s.keeps u []
    let retired := fun (u : State) reason => u.keyOf n = none ∧ u.get (Fld.CIPH_KSn_STAT_REASON n) = reason ∧
      u.told 0x0C04 (unitOf 7 n) [n4 reason] ∧
      ((∀ l ∈ s.ciph.loads, l.slot ≠ n) → u.keyState n = 2) ∧
      s.keepsRegs u (Reg.CIPH_KSn_STAT n :: dropCounters)
    let due := (s.at t).commitDue = true
    (¬ due → ∀ c ∈ [Instr.keyLoadLive t, .keyRetireApply n t, .fvWriteApply t], answers (exec c s) same) ∧
    (due → s.domain 3 = 2 → ∀ l ∈ s.ciph.loads, (∀ x ∈ s.ciph.loads, x.slot < 64 ∧ (x.slot = l.slot → x = l)) → l.attr < 64 → l.size < 4 →
      answers (exec (.keyLoadLive t) s) fun u =>
        u.keyOf l.slot = some { key := l.key, resv := 0 } ∧ u.keyState l.slot = 1 ∧
          u.get (Fld.CIPH_KSn_STAT_SIZE l.slot) = l.size ∧ u.get (Fld.CIPH_KSn_STAT_ATTR l.slot) = l.attr ∧
          u.reg (Reg.CIPH_KSn_LIMIT l.slot) = BitVec.ofNat 32 l.limit ∧ u.keyUsed l.slot = 0 ∧
          u.told 0x0C05 (unitOf 7 l.slot) [n4 l.attr, n4 l.limit] ∧ u.ciph.loads = []) ∧
    (answers (exec (.keyRetireApply n t) s) fun u =>
      if due ∧ s.cmds.contains (.keyRetire n) = true then
        u.cmds = s.cmds.filter (fun c => c != RegCmd.keyRetire n) ∧
          (if (s.keyOf n).isSome then retired u 3 else s.keepsRegs u [] ∧ s.keeps u [.cmds])
      else same u) ∧
    (answers (exec (.keyLimitReached n t) s) fun u =>
      if (s.keyOf n).isSome = true ∧ s.keyLimit n ≤ s.keyUsed n then retired u 1 else same u) ∧
    (answers (exec (.ciphKeyLow n t) s) fun u =>
      let warn := (s.liveReg (Reg.CIPH_KSn_WARN n)).toNat
      if (s.keyOf n).isSome = true ∧ warn ≠ 0 ∧ s.keyUsed n + warn = s.keyLimit n then
        u.told 0x0C03 (unitOf 7 n) [n4 warn] ∧ s.keepsRegs u dropCounters ∧ s.keeps u eventParts
      else same u) ∧
    (∀ source < 5, ∀ present value high, answers (exec (.ciphAlarm source present value high t) s) fun u =>
      if (s.at t).ciphAlarmHolds source value high = false then s.keepsRegs u [] ∧ s.keeps u [.ciph]
      else
        u.ciph.loads = [] ∧ u.ciph.backing = [] ∧ u.keyState n = 2 ∧ u.get (Fld.CIPH_KSn_STAT_REASON n) = 2 ∧
          (s.keyState n ≠ 2 → u.keyOf n = none) ∧
          (∀ l < 4, ∀ a < 4, u.get (Fld.LSEC_TXSA_CTRL_VALID l a) = 0 ∧
            ∀ c < 8, u.get (Fld.LSEC_RXSC_CTRL_VALID l c) = 0 ∧ u.get (Fld.LSEC_RXSA_CTRL_VALID l c a) = 0) ∧
          u.reg Reg.CIPH_ALARM = s.reg Reg.CIPH_ALARM ||| BitVec.ofNat 32 (2 ^ source) ∧
          u.get Fld.CIPH_STATUS_ALARM_LATCHED = 1 ∧ u.told 0x0C01 0 [n4 (u.w Reg.CIPH_ALARM)]) ∧
    (∀ ones present, answers (exec (.ciphAlarmClear ones present) s) fun u =>
      (∀ b < 32, bit (u.w Reg.CIPH_ALARM) b = (bit (s.w Reg.CIPH_ALARM) b && (!bit ones b || bit present b))) ∧
        u.get Fld.CIPH_STATUS_ALARM_LATCHED =
          (if u.w Reg.CIPH_ALARM = 0 then 0 else s.get Fld.CIPH_STATUS_ALARM_LATCHED) ∧
        s.keepsRegs u [Reg.CIPH_ALARM, Reg.CIPH_STATUS] ∧ s.keeps u [.ciph]) ∧
    ∀ (table index v : Nat), table < 3 → due → s.domain 3 = 2 → RegCmd.fvWrite table index v ∈ s.cmds →
      (∀ tb i x, RegCmd.fvWrite tb i x ∈ s.cmds → tb = table ∧ i = index ∧ x = v) →
      answers (exec (.fvWriteApply t) s) fun u =>
        (if table = 0 then u.lane index else if table = 1 then u.beaconFv index else u.retractFv index) = v ∧
          (∀ tb i x, RegCmd.fvWrite tb i x ∉ u.cmds) ∧ u.get Fld.CIPH_FV_STAT_PENDING = 0 ∧
          s.keepsRegs u [Reg.CIPH_FV_STAT] ∧ s.keeps u [.cmds, .ciph, .hal]

/-- AUTHENTICATION_SLOT, SERVICE_SLOT, CMAC_GEN, CMAC_VERIFY, CTR, GCM_ENC, GCM_DEC, WRAP, UNWRAP and SLOT_TOO_SHORT. -/
def Obligations.CipherSlotsCheckFramesAndRunJobs : Prop :=
  ∀ (t : Tai) (s : State), s.up = true →
    let s2 := (s.at t).enterSlot 2
    let s3 := (s.at t).enterSlot 3
    let in2 := (s.at t).slotOpen 2 = true
    let in3 := (s.at t).slotOpen 3 = true
    let same := fun (u : State) => s.keepsRegs u [] ∧ s.keeps u []
    (¬ in2 → ∀ faults, answers (exec (.authenticationSlot faults [] t) s) same) ∧
    (¬ in3 → ∀ faults, answers (exec (.serviceSlot [] faults t) s) same) ∧
    (in2 → s.fab.authq = [] → ∀ faults, answers (exec (.authenticationSlot faults [] t) s) fun u =>
      u.get Fld.BEAT_STATUS_SLOT_CUR = 2 ∧ u.get Fld.CIPH_LOCK_OWNER = 1 ∧
        s.keepsRegs u [Reg.BEAT_STATUS, Reg.CIPH_LOCK] ∧ s.keeps u [.beat]) ∧
    (∀ (fid : Nat) (f : Frame) (r : Route) (key : KeySlot) (data tag : Bytes) (fv : Nat), in2 → s.fab.authq = [.check fid] →
      s.frame? fid = some f → f.route = some r → s2.beat.used + s2.jobCycles (.check fid) ≤ s2.slotCycles 2 →
      f.wire.rtr = false → (r.afa12 = true → f.wire.kind ≠ 0) → r.altEn = false →
      s.keyOf r.keySlot = some key → s.keyAttr r.keySlot attrAfa = true →
      f.wire.data = data ++ trailer r.afa12 fv tag → tag.length = (if r.afa12 then 8 else 4) →
      s.lane (laneIndex r f.wire) < fv → fv ≤ s.lane (laneIndex r f.wire) + r.acceptWin →
      s.fvInvalid 0 (laneIndex r f.wire) = false →
      let mac := (cmac key.key (authData 1 r.afa12 f.wire fv data)).take tag.length
      answers (exec (.authenticationSlot [] [] t) s) fun u =>
        if mac = tag then
          u.lane (laneIndex r f.wire) = fv ∧
            u.reg64 (Reg.CIPH_AFA_CNTk 0) = (s.reg64 (Reg.CIPH_AFA_CNTk 0) + 1) % 2 ^ 64 ∧
            (∀ e ∈ u.fab.queues, ∀ c ∈ e.2, c.fid = fid → c.ready = true)
        else
          u.lane (laneIndex r f.wire) = s.lane (laneIndex r f.wire) ∧
            u.reg64 (Reg.CIPH_AFA_CNTk 2) = (s.reg64 (Reg.CIPH_AFA_CNTk 2) + 1) % 2 ^ 64 ∧
            u.get Fld.CIPH_AFA_LAST_REASON = 1) ∧
    (in3 → s.ciph.mgtJobs = [] → s.ciph.jobs = [] → ∀ faults,
      (answers (exec (.serviceSlot [] faults t) s) fun u =>
        u.get Fld.BEAT_STATUS_SLOT_CUR = 3 ∧ u.get Fld.CIPH_LOCK_OWNER = 0 ∧
          s.keepsRegs u [Reg.BEAT_STATUS, Reg.CIPH_LOCK] ∧ s.keeps u [.beat]) ∧
      ∀ code cycles, 3 ≤ code → code ≤ 6 → s3.beat.used + cycles ≤ s3.slotCycles 3 →
        answers (exec (.serviceSlot [(code, cycles)] faults t) s) fun u =>
          u.ciph.mgtJobs = [] ∧ u.ciph.last = code ∧ u.beat.used = s3.beat.used + cycles ∧
            u.get Fld.BEAT_STATUS_SLOT_CUR = 3 ∧ u.get Fld.CIPH_LOCK_OWNER = 0 ∧
            s.keepsRegs u [Reg.BEAT_STATUS, Reg.CIPH_LOCK] ∧ s.keeps u [.beat, .ciph]) ∧
    ∀ (j : Job) (rest : List Job), s.ciph.jobs = j :: rest → j.cmpl = true → j.gen = (s.txRing j.ring).gen →
      (s.txRing j.ring).dead = false → j.target < 64 →
      let ends := fun (u : State) status => u.ciph.jobs = rest ∧
        ∃ e ∈ u.hif.finals, e.ring = j.ring ∧ e.tag = j.tag ∧ e.status = status ∧ e.time = 0
      (3 ≤ j.stops → answers (exec (.slotTooShort t) s) fun u => ends u 0x0C ∧ u.out = []) ∧
      (j.stops < 3 → answers (exec (.slotTooShort t) s) same) ∧
      ∀ key : Bytes, in3 → s.engineHeld = false → s.jobRefused j = none → s.keyFor j.slot j.attrNeeded = .done key →
        s3.beat.used + opCycles key.length j.work ≤ s3.slotCycles 3 →
        let d := j.input
        let runs := fun (own c : Instr) => (c = own ∧ s.get Fld.BEAT_STATUS_SLOT_CUR = 3 ∧ s.nextRequester = some 2) ∨
          (c = .serviceSlot [] [0] t ∧ rest = [] ∧ s.ciph.mgtJobs = [])
        let gives := fun (own : Instr) (bytes : Bytes) status => ∀ c, runs own c → answers (exec c s) fun u =>
          ends u status ∧ (if bytes = [] then u.out = [] else if s.hostUp && s.hif.linkReady then u.out = [.dmaWrite j.dst bytes]
            else u.out = [] ∧ u.hif.outputs = s.hif.outputs ++ [(j.dst, bytes)])
        let aad := (d.drop 12).take j.alen
        let text := (d.drop (12 + j.alen)).take j.len
        (j.op = 1 → gives (.cmacGen 0 t) (cmac key (d.take j.len)) 0) ∧
        (j.op = 2 → gives (.cmacVerify 0 t) []
          (if (cmac key (d.take j.len)).take (bits j.aux 4 0) = (d.drop j.len).take (bits j.aux 4 0) then 0 else 0x22)) ∧
        (j.op = 3 → gives (.ctr 0 t) (ctrMode key (d.take 16) ((d.drop 16).take j.len)) 0) ∧
        (j.op = 4 → gives (.gcmEnc 0 t)
          (gcmCrypt key (d.take 12) text ++ gcmTag key (d.take 12) aad (gcmCrypt key (d.take 12) text)) 0) ∧
        (j.op = 5 → if gcmTag key (d.take 12) aad text = (d.drop (12 + j.alen + j.len)).take 16 then
            gives (.gcmDec 0 t) (gcmCrypt key (d.take 12) text) 0
          else gives (.gcmDec 0 t) [] 0x22) ∧
        (j.op = 6 → j.target ≠ j.slot → ∀ inner : KeySlot, s.keyOf j.target = some inner →
          gives (.wrap 0 t) (keyWrap key inner.key) 0) ∧
        (j.op = 7 → match keyUnwrap key (d.take j.len) with
          | some inner => ∀ c, runs (.unwrap 0 t) c → answers (exec c s) fun u => u.out = [] ∧ ends u 0 ∧
              u.keyState j.target = 3 ∧
              ∃ l ∈ u.ciph.loads, l.slot = j.target ∧ l.key = inner ∧ l.attr = j.attr ∧ l.limit = j.aux
          | none => gives (.unwrap 0 t) [] 0x24)

/-! ### The Crow's Nest -/

/-- NEST_FRAME_START, NEST_FRAME_END, NEST_TRAY_IDENTITY and NEST_COMMIT_APPLY. -/
def Obligations.SensorFramesAreJudgedAndContextsOpen : Prop :=
  ∀ (i number : Nat) (c : CsiCounts) (lines : List NestLine) (t : Tai) (s : State), s.up = true → i < 2 →
    let same := fun (u : State) => s.keepsRegs u [] ∧ s.keeps u []
    let adds := fun (u : State) k x => u.reg64 (Reg.NEST_IMGi_CNTk i k) = (s.reg64 (Reg.NEST_IMGi_CNTk i k) + x) % 2 ^ 64
    let once := fun (u : State) off => u.reg64 off = (s.reg64 off + 1) % 2 ^ 64
    let discards := fun (u : State) reason => once u (Reg.NEST_IMGi_DISCARD i) ∧
      u.get (Fld.NEST_IMGi_LAST_REASON i) = reason ∧ SMap.look u.nest.regions i = none ∧
      ((s.at t).firstInSecond (0x0E03 * 65536 + i) = true → u.told 0x0E03 0 [n4 i, n4 reason])
    (answers (exec (.nestFrameStart i number c t) s) fun u =>
      if s.imagerOn i then
        SMap.look u.nest.open_ i = some { start := t, number := number % 65536, cfg := s.live.filter nestRange } ∧
          adds u 0 c.eccCorr ∧ adds u 1 c.eccDrop ∧ adds u 2 c.crcLines ∧ adds u 3 c.dtDrop ∧
          ((SMap.look s.nest.open_ i).isSome = true → discards u 4) ∧
          (SMap.look s.nest.open_ i = none → u.reg64 (Reg.NEST_IMGi_DISCARD i) = s.reg64 (Reg.NEST_IMGi_DISCARD i))
      else same u) ∧
    (s.nest.inbox = [] → SMap.look s.nest.open_ i = none → answers (exec (.nestFrameEnd i lines c t) s) same) ∧
    (∀ f : NestFrame, s.nest.inbox = [] → SMap.look s.nest.open_ i = some f →
      let v := s.nestSwap f.cfg
      let sized := lines.length = v.cur (Fld.NEST_IMGi_SIZE_HEIGHT i) ∧
        ∀ l ∈ lines, l.pixels.length = v.cur (Fld.NEST_IMGi_SIZE_WIDTH i)
      let sound := (lines.filter fun l => !l.crcOk).length ≤ v.cur (Fld.NEST_IMGi_CFG_BAD_LINES i)
      let spaced := ∀ p, SMap.look s.nest.lastStart i = some p → p + 15000000 ≤ f.start
      let blobs := (v.blobs i lines).filter fun (b : Blob) =>
        decide (v.cur (Fld.NEST_IMGi_AREA_AREA_MIN i) ≤ b.length ∧ b.length ≤ v.cur (Fld.NEST_IMGi_AREA_AREA_MAX i))
      answers (exec (.nestFrameEnd i lines c t) s) fun u =>
        SMap.look u.nest.open_ i = none ∧
        (¬ sized → discards u 1) ∧ (sized → ¬ sound → discards u 2) ∧ (sized → sound → ¬ spaced → discards u 3) ∧
        (sized → sound → spaced →
          once u (Reg.NEST_IMGi_FRAMES i) ∧ u.get (Fld.NEST_IMGi_LAST_FSEQ i) = f.number % 65536 ∧
            u.get (Fld.NEST_IMGi_LAST_DETS i) = min 1024 blobs.length ∧
            u.reg (Reg.NEST_IMGi_FSUM i) =
              BitVec.ofNat 32 (crc32 ((lines.map fun l => Config.pixelBytes l.pixels).flatten)) ∧
            SMap.look u.nest.lastStart i = some f.start ∧
            u.reg64 (Reg.NEST_IMGi_DISCARD i) = s.reg64 (Reg.NEST_IMGi_DISCARD i))) ∧
    (s.nest.inbox = [] → answers (exec (.nestTrayIdentity t) s) same) ∧
    (∀ (f : Frame) (rest : List Frame), s.nest.inbox = f :: rest →
      answers (exec (.nestTrayIdentity t) s) fun u =>
        u.nest.inbox = rest ∧
        (¬(s.nestPowered = true ∧ s.on Fld.NEST_CTRL_EN = true) → s.keepsRegs u [] ∧ s.keeps u [.nest] ∧
          u.nest.ctxs = s.nest.ctxs) ∧
        (s.nestPowered = true → s.on Fld.NEST_CTRL_EN = true → u.nest.traySeq = s.nest.traySeq + 1 ∧
          (s.nestTracks = true → ∀ set ∈ s.nestSets, ∃ e ∈ u.nest.ctxs, e.1 / 4 = set ∧
            e.2.seq = s.nest.traySeq + 1 ∧ e.2.slot = s.traySlot f.wire.data ∧ e.2.x = s.f32 Reg.NEST_ORG_X ∧
            e.2.y = s.f32 Reg.NEST_ORG_Y))) ∧
    answers (exec (.nestCommitApply t) s) fun u =>
      if (s.at t).commitDue = true ∧ s.nestPowered = true ∧ s.cmds.contains .nestCommit = true then
        u.cmds = s.cmds.filter (fun c => c != RegCmd.nestCommit) ∧ u.get Fld.NEST_STATUS_PENDING = 0 ∧
          (if s.nestErrors = 0 then
             ∀ (off : Nat) (r : RegRow), 0x1A0000 ≤ off → off < 0x1B0000 → RegMap.find off = some r → r.st ≠ 0 →
               off ≠ Reg.NEST_STATUS → u.liveReg off = s.reg off
           else
             u.reg Reg.NEST_CFG_ERR = s.reg Reg.NEST_CFG_ERR ||| BitVec.ofNat 32 s.nestErrors ∧
               u.told 0x0E06 0 [n4 (u.w Reg.NEST_CFG_ERR)] ∧
               s.keepsRegs u (Reg.NEST_STATUS :: Reg.NEST_CFG_ERR :: dropCounters) ∧ s.keeps u (.cmds :: eventParts))
      else same u

/-! ### The redundant pair -/

/-- CLAIM_WINDOW, CLAIM_WATCHDOG, REPLAY_AGE_EXPIRY, FENCE_EVIDENCE_TIMEOUT and AUTO_YIELD. -/
def Obligations.TheClaimGoesToTheHigherNumber : Prop :=
  ∀ (t : Tai) (s : State), s.up = true →
    let same := fun (u : State) => s.keepsRegs u [] ∧ s.keeps u []
    let once := fun (u : State) off => u.reg64 off = (s.reg64 off + 1) % 2 ^ 64
    (∀ (ext : Nat) (tick : Bool), ext < 2 ^ 19 →
      let cmd := Instr.claimWindow ext 0 tick t
      let opens := (s.at t).windowOpen = true
      (¬ opens → answers (exec cmd s) same) ∧
      (opens → s.role = 0 → answers (exec cmd s) fun u => u.out = [] ∧ u.hal.result = some false ∧ u.hal.bid = false ∧
        u.beat.windowRun = true ∧
        (s.get Fld.BEAT_STATUS_SLOT_CUR = 4 → s.keepsRegs u [Reg.HAL_HEALTH] ∧ s.keeps u [.beat, .hal])) ∧
      (opens → s.role = 1 → answers (exec cmd s) fun u => u.out = [] ∧
        (if ext = 0 then u.hal.lone = s.hal.lone - 1 ∧ u.hal.result = some (s.hal.lone - 1 == 0)
         else u.hal.lone = 2 ∧ u.hal.result = some false ∧ once u (Reg.HAL_CNTk 10) ∧
           u.told 0x0F07 unitPartner [n8 (s.reg64 (Reg.HAL_CNTk 10) + 1)])) ∧
      (opens → 2 ≤ s.role → answers (exec cmd s) fun u =>
        let number := s.cur Fld.HAL_CFG_PRIORITY * 2 ^ 12 + s.healthScore * 2 + s.strap
        u.hal.number = number ∧ u.hal.result = some u.hal.won ∧
        (u.hal.won = true ↔ u.hal.bid = true ∧ ∀ k < 16, bit ext k = true → bit number k = true) ∧
        u.get Fld.HAL_CLAIM_LOCAL = (if u.hal.bid then number else 0) ∧
        (∃ driven, Output.claimBits true driven ∈ u.out ∧ (u.hal.bid = false → driven = 0) ∧
          (u.hal.won = true → driven = number)) ∧
        (u.hal.bid = true → once u (Reg.HAL_CNTk (if u.hal.won then 1 else 2))) ∧
        (s.role = 4 → tick = true → s.domain 4 = 2 → s.glb.phase = .running → s.hal.yielding = false →
          s.hal.strapAt = none → s.hal.heard = true → s.get Fld.HAL_STATUS_PARTNER_LOST = 0 →
          bit ext (if s.strap = 0 then 16 else 17) = true → u.hal.bid = true))) ∧
    (answers (exec (.claimWatchdog t) s) fun u =>
      if s.claimed = true ∧ s.hal.windowAt + 2 * s.beatLen ≤ t then
        u.claimed = false ∧ u.hal.result = none ∧ u.role = (if s.role = 4 then 2 else s.role) ∧
          ∀ p < 48, u.sending p = none ∧ u.canDrives p = false
      else same u) ∧
    ((s.hal.replay.map (·.1)).Nodup → answers (exec (.replayAgeExpiry t) s) fun u =>
      let old := fun (h : Held) => decide (s.cur Fld.HAL_RPL_RPL_AGE ≤ h.age)
      (∀ p, SMap.get [] u.hal.replay p = (SMap.get [] s.hal.replay p).filter fun h => !old h) ∧
        u.reg64 (Reg.HAL_CNTk 6) =
          (s.reg64 (Reg.HAL_CNTk 6) + (s.hal.replay.map fun e => (e.2.filter old).length).sum) % 2 ^ 64) ∧
    (answers (exec (.fenceEvidenceTimeout t) s) fun u =>
      if s.role = 5 ∧ s.on Fld.HAL_CFG_EVIDENCE_EN = true ∧ s.cur Fld.HAL_CFG_FENCE_BEATS ≤ s.hal.evidence ∧
          s.hal.unfenced = 0 then
        u.hal = { s.hal with unfenced := 4 } ∧ s.keepsRegs u [] ∧ s.keeps u [.hal]
      else same u) ∧
    answers (exec (.autoYield t) s) fun u =>
      if s.on Fld.HAL_CFG_AUTO_YIELD = true ∧ 8 ≤ s.hal.lower ∧ s.yieldOk = true then
        u.hal = { s.hal with yieldNext := true, lower := 0 } ∧ s.keepsRegs u [] ∧ s.keeps u [.hal]
      else same u

/-- HALYARD_HEARTBEAT, HALYARD_DELTA, HALYARD_IMAGE, HALYARD_IMAGE_REQ, HALYARD_MARKER and HALYARD_CRC_ERROR. -/
def Obligations.HalyardFramesKeepThePairTogether : Prop :=
  ∀ (frame : Bytes) (t : Tai) (s : State), s.up = true → 16 ≤ frame.length → frame.length ≤ 1040 →
    let same := fun (u : State) => s.keepsRegs u [] ∧ s.keeps u []
    let f := halParse frame
    let inOrder := s.hal.rxFseq = none ∨ ∃ q, s.hal.rxFseq = some q ∧ f.fseq = (q + 1) % 65536
    let shadows := s.role = 2 ∨ s.role = 3
    (answers (exec (.halyardCrcError t) s) fun u =>
      u.reg64 (Reg.HAL_CNTk 8) = (s.reg64 (Reg.HAL_CNTk 8) + 1) % 2 ^ 64 ∧
        s.keepsRegs u (pair64 (Reg.HAL_CNTk 8)) ∧ s.keeps u []) ∧
    (s.role < 2 → (∀ c ∈ [Instr.halyardDelta frame t, .halyardImage frame t, .halyardImageReq frame t, .halyardMarker frame t],
        answers (exec c s) same) ∧ (frame.length = 48 → answers (exec (.halyardHeartbeat frame t) s) same)) ∧
    (2 ≤ s.role → inOrder →
      (frame.length = 48 → f.type = 1 → f.payload.length = 32 → answers (exec (.halyardHeartbeat frame t) s) fun u =>
        (∃ h, u.hal.last = some h ∧ h.claim = field frame 16 2 ∧ h.health = field frame 18 2 % 2048 ∧
          h.role = field frame 20 1 ∧ h.flags = field frame 21 1 ∧ h.start = field frame 24 8) ∧
        u.hal.heard = true ∧ u.hal.since = 0 ∧ u.get Fld.HAL_STATUS_LINK_UP = 1 ∧
        u.get Fld.HAL_STATUS_PARTNER_LOST = 0 ∧ u.get Fld.HAL_STATUS_PARTNER_ROLE = field frame 20 1 % 8 ∧
        (s.get Fld.HAL_STATUS_PARTNER_LOST = 1 → u.told 0x0F03 unitPartner [n4 (field frame 20 1)])) ∧
      (∀ item : HalItem, shadows → fmtOk f.fmt = true → halItems 1024 f.payload = some [item] → item.cls = 1 →
        item.body.length = 8 → item.index < 65536 →
        (f.type = 2 → answers (exec (.halyardDelta frame t) s) fun u => u.lane item.index = field item.body 0 8) ∧
        (f.type = 3 → s.role = 2 → answers (exec (.halyardImage frame t) s) fun u =>
          u.lane item.index = field item.body 0 8 ∧
            (bit f.flags 1 = true → u.hal.image = true ∧ u.get Fld.HAL_STATUS_SHADOW_VALID = 1))) ∧
      (shadows → fmtOk f.fmt = true → halItems 1024 f.payload = none → f.type = 2 →
        answers (exec (.halyardDelta frame t) s) fun u => u.told 0x0F09 unitPartner [n4 1] ∧ u.role = 2 ∧
          u.get Fld.HAL_STATUS_SHADOW_VALID = 0) ∧
      (f.type = 5 → answers (exec (.halyardImageReq frame t) s) fun u =>
        if s.role = 4 then
          u.out.length = (halPack s.imageItems).length ∧
            ∀ e ∈ u.out.zip (halPack s.imageItems), ∃ header, e.1 = .halyard 3 header e.2
        else u.out = []) ∧
      (f.type = 4 → f.payload.length = 16 → answers (exec (.halyardMarker frame t) s) fun u =>
        let port := field f.payload 2 1
        let held := SMap.get [] s.hal.replay port
        u.reg64 (Reg.HAL_CNTk 9) = (s.reg64 (Reg.HAL_CNTk 9) + 1) % 2 ^ 64 ∧
          (∀ p, p ≠ port → SMap.get [] u.hal.replay p = SMap.get [] s.hal.replay p) ∧
          SMap.get [] u.hal.replay port = (match held.findIdx? (s.markerMatches f.payload) with
            | some i => held.eraseIdx i
            | none => held)))

/-! ### The power domains -/

/-- DOMAIN_CLOSE, DOMAIN_WAKE, DOMAIN_IDLE_CLOSE, DOMAIN_DRAIN_END, PWR_DOMAIN_OFF, PWR_DOMAIN_ON, DOMAIN_MUSTER_WAKE,
DOMAIN_ACTIVITY_WAKE, GLB_RAIL_FAULT and RAIL_RETURN. The reason of a wake after a rail's return is the model's (log entry 81). -/
def Obligations.DomainsCloseDrainAndReturnInOrder : Prop :=
  ∀ (d : Nat) (t : Tai) (s : State), s.up = true → d < 24 →
    let same := fun (u : State) => s.keepsRegs u [] ∧ s.keeps u []
    let boundary := (s.at t).atBoundary = true
    let reason := s.get (Fld.PWR_Dd_STAT_REASON d)
    let moves := fun (u : State) (st why : Nat) =>
      u.domain d = st ∧ u.get (Fld.PWR_Dd_STAT_REASON d) = why % 16 ∧ (u.word (unitOf 2 d)).code = st
    let alone := fun (u : State) => s.keepsRegs u (Reg.PWR_Dd_STAT d :: dropCounters) ∧
      s.keeps u (.mgt :: .pin :: eventParts)
    (answers (exec (.domainClose d t) s) fun u =>
      match (s.dom d).close with
      | some r => if boundary ∧ s.domain d = 2 then moves u 3 r ∧ (u.dom d).close = none ∧ alone u else same u
      | none => same u) ∧
    (answers (exec (.domainIdleClose d t) s) fun u =>
      if boundary ∧ s.domain d = 2 ∧ s.policy d = 2 ∧ s.cur (Fld.PWR_Dd_CFG_IDLE_BEATS d) < (s.dom d).idle then
        moves u 3 9 ∧ (u.dom d).idle = 0 ∧ alone u
      else same u) ∧
    (answers (exec (.domainWake d t) s) fun u =>
      match (s.dom d).wake with
      | some r =>
        if s.domain d = 0 ∧ s.needsMet d = true ∧ s.get Fld.PWR_STATUS_BRACE = 0 ∧ boundary then
          moves u 1 r ∧ (u.dom d).wake = none ∧ (u.dom d).since = u.time.now ∧ alone u
        else same u
      | none => same u) ∧
    (7 ≤ d → d ≤ 10 → answers (exec (.domainMusterWake d t) s) fun u =>
      if boundary ∧ s.domain d = 0 ∧ s.policy d = 2 ∧ s.get Fld.PWR_STATUS_BRACE = 0 ∧ (s.dom d).wake = none ∧
          (∃ n ∈ portsOf d, s.spanOverlaps n s.beat.start (s.beat.start + s.beatLen + 180000) = true) then
        moves u 1 3 ∧ (u.dom d).wakeAt = u.time.now ∧ (u.dom d).since = u.time.now ∧ alone u
      else same u) ∧
    (answers (exec (.domainDrainEnd d t) s) fun u =>
      let empty := (portsOf d).all fun p => (List.range 8).all fun c => s.queueLen p c == 0
      if boundary ∧ s.domain d = 3 ∧ 1 ≤ (s.dom d).bounds ∧ (empty = true ∨ 2 ≤ (s.dom d).bounds) then
        (d ≠ 13 ∨ (∀ c < 16, (s.serOf c).frame = none) →
          moves u 4 reason ∧ (∀ p ∈ portsOf d, ∀ c < 8, u.queue p c = []) ∧
            ∀ p ∈ portsOf d, ∀ c < 8, ∀ k ∈ s.queue p c, ∀ f : Frame, s.frame? k.fid = some f →
              s.on (Fld.FAB_CLASSc_WOE f.cls) = true →
              (s.dom d).hold.length + ((portsOf d).map fun p => ((List.range 8).map fun c => (s.queue p c).length).sum).sum ≤ 256 →
              k ∈ (u.dom d).hold)
      else same u) ∧
    (∀ lost, answers (exec (.pwrDomainOff d lost t) s) fun u =>
      if s.domain d = 4 ∧ s.transmits d = false then
        u.domain d = 0 ∧ u.get (Fld.PWR_Dd_STAT_REASON d) = reason ∧ (u.dom d).close = none ∧
          (lost = false → (u.word (unitOf 2 d)).code = 0) ∧ (∃ k, u.told 0x1002 (unitOf 2 d) [n4 reason, n4 k]) ∧
          (7 ≤ d → d ≤ 10 → ∀ n ∈ portsOf d, u.canState n = if s.canState n = 0 then 0 else 6)
      else same u) ∧
    (∀ lost, answers (exec (.pwrDomainOn d lost [] t) s) fun u =>
      if s.domain d = 1 ∧ (s.dom d).since + wakeLatency d ≤ t ∧ s.railOk d = true then
        u.domain d = 2 ∧ u.get (Fld.PWR_Dd_STAT_REASON d) = reason ∧ (lost = false → (u.word (unitOf 2 d)).code = 2) ∧
          u.told 0x1001 (unitOf 2 d) [n4 reason, n8 (u.time.now - (s.dom d).wakeAt)] ∧
          (u.dom d).close = (s.dom d).close ∧ (u.dom d).hold = [] ∧
          (d = 13 → ∀ k ∈ (s.dom d).hold, k.port ∈ portsOf d → ∀ f : Frame, s.frame? k.fid = some f →
            { k with ahead := false } ∈ u.queue k.port f.cls)
      else same u) ∧
    (∀ uart i, (uart = true ∧ i < 16) ∨ (uart = false ∧ i < 8) →
      answers (exec (.domainActivityWake uart i t) s) fun u =>
        let e := if uart then 13 else 12
        let sel := bit (s.cur (if uart then Fld.PWR_WAKE_SRC_UART_EDGE else Fld.PWR_WAKE_SRC_T1S_ACT)) i
        if sel = true ∧ s.policy e = 2 ∧ s.get Fld.PWR_STATUS_BRACE = 0 then
          (if s.domain e = 0 ∧ (s.dom e).wake = none then
             (u.dom e).wake = some 4 ∧ (u.dom e).wakeAt = u.time.now ∧ s.keepsRegs u [Reg.PWR_Dd_STAT e] ∧ s.keeps u [.pwr]
           else if s.domain e = 3 ∨ s.domain e = 4 then
             u.domain e = 2 ∧ u.get (Fld.PWR_Dd_STAT_REASON e) = 4 ∧ (u.dom e).hold = [] ∧
               u.told 0x1001 (unitOf 2 e) [n4 4, n8 0]
           else same u)
        else same u) ∧
    ∀ vsds : Bool,
      let ok := if vsds then s.pwr.vsds else s.pwr.vcan
      let fell := if vsds then s.pwr.vsdsFell else s.pwr.vcanFell
      let valid := fun (u : State) => if vsds then u.pwr.vsds else u.pwr.vcan
      (answers (exec (.glbRailFault vsds t) s) fun u =>
        valid u = false ∧
          ((∃ e ∈ railDomains vsds, 2 ≤ s.domain e) → u.told 0x0122 0 [n4 (b2n vsds), n4 0] ∧
            ∀ e ∈ railDomains vsds, 2 ≤ s.domain e → u.domain e = 0 ∧ u.get (Fld.PWR_Dd_STAT_REASON e) = 10 ∧
              ∀ p ∈ portsOf e, u.sending p = none) ∧
          ((∀ e ∈ railDomains vsds, s.domain e < 2) → s.keepsRegs u [] ∧ s.keeps u [.pwr])) ∧
      answers (exec (.railReturn vsds t) s) fun u =>
        if ok then same u
        else
          valid u = true ∧ (fell = true → u.told 0x0122 0 [n4 (b2n vsds), n4 1]) ∧
            (∀ e ∈ railDomains vsds, s.domain e = 1 → (u.dom e).since = u.time.now) ∧
            (∀ e ∈ railDomains vsds, s.domain e = 0 → s.get (Fld.PWR_Dd_STAT_REASON e) = 10 →
              s.get Fld.PWR_STATUS_BRACE = 0 → s.policy e = 0 → (s.dom e).wake = none → (u.dom e).wake = some 6) ∧
            s.keepsRegs u ((railDomains vsds).map (fun e => Reg.PWR_Dd_STAT e) ++ dropCounters) ∧ s.keeps u eventParts

/-! ### The brace, starts and resets -/

/-- PWR_MAIN_FAIL, MAIN_GOOD, MAIN_NOT_GOOD, SHED_WINDOW_END, PWR_BRACE_ABORTED, PWR_BRACE_COMMIT, PWR_ON_BACKUP,
BACKUP_RETURN, PWR_ON_MAIN, BOOT_HANDOVER, WARM_RESET, POWER_ON_RESET and POWER_ON_RESET_RELEASE. -/
def Obligations.TheBraceRunsItsStatesAndStartsFollowResets : Prop :=
  ∀ (t : Tai) (s : State), s.up = true →
    let same := fun (u : State) => s.keepsRegs u [] ∧ s.keeps u []
    let once := fun (u : State) k => u.reg64 (Reg.PWR_CNTk k) = (s.reg64 (Reg.PWR_CNTk k) + 1) % 2 ^ 64
    let enters := fun (u : State) st => u.brace = st ∧ u.pwr.entered = u.time.now
    let window := s.pwr.entered + 1000000 * s.cur Fld.PWR_BRACE_CFG_SHED_MS
    let restores := fun (u : State) wait => ∀ d ∈ s.restoreOrder, s.domain d = 0 →
      u.domain d = 1 ∧ u.get (Fld.PWR_Dd_STAT_REASON d) = 6 ∧ (u.dom d).since = u.time.now + wait
    let starts := fun (u : State) cause =>
      (u.glb.phase = .boot ∧ u.glb.cause = cause) ∨ (u.glb.phase = .recovery ∧ u.glb.cause = 8)
    (answers (exec (.pwrMainFail t) s) fun u =>
      if s.pwr.good = none ∧ s.pwr.fell + 1000 * s.cur Fld.PWR_BRACE_CFG_MAIN_FILT_US ≤ t ∧ (s.brace = 0 ∨ s.brace = 5) then
        enters u 1 ∧ u.pwr.shedAt = u.time.now ∧ once u 0 ∧ u.reg64 Reg.PWR_LAST_FAIL = u.time.now % 2 ^ 64 ∧
          u.told 0x1004 0 [n4 s.brace] ∧
          ∀ d < 24, u.domain d = if d ∈ [0, 1, 11, 21] then s.domain d else 0
      else same u) ∧
    (answers (exec (.mainGood t) s) fun u =>
      if s.pwr.good = none then
        u.pwr = { s.pwr with good := some u.time.now } ∧ u.get Fld.PWR_STATUS_MAIN_OK = 1 ∧
          s.keepsRegs u [Reg.PWR_STATUS] ∧ s.keeps u [.pwr]
      else same u) ∧
    (answers (exec (.mainNotGood t) s) fun u =>
      if s.pwr.good = none then same u
      else
        u.pwr = { s.pwr with good := none, fell := u.time.now } ∧ u.get Fld.PWR_STATUS_MAIN_OK = 0 ∧
          (if 1 ≤ s.brace ∧ s.brace ≤ 4 then once u 2 else u.reg64 (Reg.PWR_CNTk 2) = s.reg64 (Reg.PWR_CNTk 2)) ∧
          s.keepsRegs u (Reg.PWR_STATUS :: pair64 (Reg.PWR_CNTk 2)) ∧ s.keeps u [.pwr]) ∧
    (answers (exec (.shedWindowEnd t) s) fun u =>
      if s.brace = 1 ∧ window ≤ t ∧ s.aborts t = false then
        enters u 2 ∧ s.keepsRegs u [Reg.PWR_STATUS] ∧ s.keeps u [.pwr]
      else same u) ∧
    (answers (exec (.pwrBraceAborted t) s) fun u =>
      if s.brace = 1 ∧ s.aborts t = true then
        enters u 5 ∧ u.pwr.inBackup = none ∧ once u 1 ∧ u.told 0x1005 0 [n8 (u.time.now - s.pwr.shedAt)] ∧ restores u 0
      else same u) ∧
    (∀ progs, answers (exec (.pwrBraceCommit progs t) s) fun u =>
      if s.brace = 2 then
        enters u 3 ∧ u.get Fld.PWR_STATUS_PATH_BKUP = 1 ∧
          u.told 0x1006 0 [n4 (s.nvm.used - u.nvm.used), n8 (u.time.now - s.pwr.entered)]
      else same u) ∧
    (answers (exec (.pwrOnBackup t) s) fun u =>
      if s.brace = 3 ∧ s.pwr.entered + 1000000 ≤ t then
        if s.get Fld.PWR_STATUS_BKUP_OK = 0 then u.glb.phase = .powerOnReset ∧ u.glb.cause = 1 ∧ u.regs = State.reset.regs
        else
        enters u 4 ∧ u.domain 21 = 0 ∧ once u 3 ∧ u.told 0x1007 0 [n8 (s.reg64 (Reg.PWR_CNTk 2))] ∧
          ∀ d < 24, d ≠ 21 → u.domain d = s.domain d
      else same u) ∧
    (∀ g, s.pwr.good = some g → answers (exec (.backupReturn t) s) fun u =>
      if s.brace = 4 ∧ g + 50000000 ≤ t ∧ s.pwr.entered + 20000000 ≤ t then
        enters u 5 ∧ u.get Fld.PWR_STATUS_PATH_BKUP = 0 ∧ u.pwr.inBackup = some (u.time.now - s.pwr.entered) ∧
          restores u 1000000
      else same u) ∧
    (s.pwr.good = none → answers (exec (.backupReturn t) s) same) ∧
    (∀ bad : List (Nat × Nat), (∀ q ∈ bad, q.1 < 2 ∧ (q.2 = 7 ∨ q.2 = 8)) →
      answers (exec (.pwrOnMain bad t) s) fun u =>
        let ready := fun d => (s.dom d).since + wakeLatency d ≤ t ∧ s.railOk d = true
        (s.brace ≠ 5 → same u) ∧
        (s.brace = 5 → (∃ d ∈ s.restoreOrder, s.domain d = 1 ∧ ¬ ready d) →
          u.brace = 5 ∧ ∀ d ∈ s.restoreOrder, s.domain d = 1 → (ready d → u.domain d = 2) ∧ (¬ ready d → u.domain d = 1)) ∧
        (s.brace = 5 → (∀ d ∈ s.restoreOrder, s.domain d = 1 → ready d) → s.glb.warmDue = none →
          enters u 0 ∧ once u 4 ∧ (∀ d ∈ s.restoreOrder, s.domain d = 1 → u.domain d = 2) ∧
            ∀ b, s.pwr.inBackup = some b → u.told 0x1008 0 [n8 b, n8 (u.time.now - s.pwr.entered)]) ∧
        ∀ cause, s.brace = 5 → (∀ d ∈ s.restoreOrder, s.domain d = 1 → ready d) → s.glb.warmDue = some cause →
          u.brace = 0 ∧ u.glb.warmDue = none ∧ starts u cause) ∧
    (answers (exec (.bootHandover t) s) fun u =>
      let slot := s.glb.bootSlot
      let version := hdrField (SMap.get [] s.nvm.slots slot) 16 4
      if s.glb.phase = .boot then
        u.glb.phase = .running ∧ u.get Fld.GLB_BOOT_STATUS_FW_RUNNING = 1 ∧ u.get Fld.MGT_STATUS_FW_RUNNING = 1 ∧
          u.get Fld.GLB_RESET_CAUSE_CAUSE = s.glb.cause % 256 ∧
          u.get Fld.GLB_RESET_CAUSE_STARTS = min 65535 (s.get Fld.GLB_RESET_CAUSE_STARTS + 1) ∧
          u.reg Reg.GLB_FW_VERSION = BitVec.ofNat 32 version ∧ u.told 0x0120 0 [n4 s.glb.cause, n4 slot, n4 version] ∧
          u.glb.bankStaged = (s.currentBank.isSome && s.glb.cause != 8) ∧
          (s.bootPtr.trial = true → u.updState = 7 ∧ u.nvm.trialFrom = u.time.now)
      else same u) ∧
    (∀ bad : List (Nat × Nat), (∀ q ∈ bad, q.1 < 2 ∧ (q.2 = 7 ∨ q.2 = 8)) →
      answers (exec (.warmReset bad t) s) fun u =>
        if s.brace = 0 then
          starts u 3 ∧ (∀ j < 4096, ∀ k < 8, u.reg (Reg.RT_LIVE_ROUTE j k) = 0#32) ∧
            (∀ n < 48, u.canState n = 0 ∧
              u.get (Fld.CANP_STATUS_BOFF_PENDING n) = s.get (Fld.CANP_STATUS_BOFF_PENDING n)) ∧
            u.get Fld.MGT_STATUS_FW_RUNNING = 0
        else u.glb = { s.glb with warmDue := some 3 } ∧ s.keepsRegs u [] ∧ s.keeps u [.glb]) ∧
    ∀ v : State, (∀ porst, answers (exec (.powerOnReset porst) v) fun u =>
        u.glb.phase = .powerOnReset ∧ u.glb.cause = (if porst then 2 else 1) ∧ u.regs = State.reset.regs ∧
          u.live = State.reset.live ∧ u.cmds = [] ∧ u.nvm.sectors = v.nvm.sectors ∧ u.nvm.banks = v.nvm.banks ∧
          u.nvm.ptrs = v.nvm.ptrs ∧ u.nvm.slots = v.nvm.slots ∧ u.ciph.backing = v.ciph.backing ∧ u.pending = v.pending) ∧
      ∀ (unitId recovery main bkup vcan vsds : Bool) (bad : List (Nat × Nat)),
        (∀ q ∈ bad, q.1 < 2 ∧ (q.2 = 7 ∨ q.2 = 8)) →
        answers (exec (.powerOnResetRelease unitId recovery main bkup vcan vsds bad) v) fun u =>
          if v.glb.phase = .powerOnReset then
            u.get Fld.GLB_STRAPS_UNIT_ID = b2n unitId ∧ u.get Fld.GLB_STRAPS_RECOVERY = b2n recovery ∧
              u.get Fld.HAL_STATUS_STRAP = b2n unitId ∧ u.get Fld.PWR_STATUS_MAIN_OK = b2n main ∧
              u.get Fld.PWR_STATUS_BKUP_OK = b2n bkup ∧ u.get Fld.BEAT_STATUS_SLOT_CUR = 7 ∧
              (recovery = true → u.glb.phase = .recovery ∧ u.glb.cause = 8) ∧
              (recovery = false → v.bootPtr.trial = false → v.slotResult bad v.bootPtr.active = 0 →
                u.glb.phase = .boot ∧ u.glb.cause = v.glb.cause ∧ u.glb.bootSlot = v.bootPtr.active)
          else v.keepsRegs u [] ∧ v.keeps u []

/-! ### Shroud -/

/-- TERM_MEASUREMENT, SHR_FAULT_SET, SHR_FAULT_CLEARED, PAIR_SWAP, THERMAL_SHUTDOWN and THERMAL_RECOVERY. -/
def Obligations.LineFaultsAreSetClearedAndActedOn : Prop :=
  ∀ (t : Tai) (s : State), s.up = true →
    let same := fun (u : State) => s.keepsRegs u [] ∧ s.keeps u []
    let now := s.at t
    (∀ n ohm16, n < 48 → answers (exec (.termMeasurement n ohm16 t) s) fun u =>
      match now.termBase n with
      | none => same u
      | some b =>
        ((s.shrOf n).done = some b → same u) ∧
        ((s.shrOf n).done ≠ some b →
          (∀ r, ohm16 = some r → now.termRuns n = true →
            let shown := if 4800 < r then 0xFFFF else r
            let cls := termClass shown
            let runs := if (s.shrOf n).cls = cls then (s.shrOf n).runs + 1 else 1
            u.get (Fld.SHR_CANn_TERM_OHM16 n) = shown ∧ u.get (Fld.SHR_CANn_TERM_MISSED n) = 0 ∧
              (u.shrOf n).done = some b ∧ (u.shrOf n).cls = cls ∧ (u.shrOf n).runs = runs ∧
              (runs < s.cur Fld.SHR_CFG_CONFIRM →
                (u.shrOf n).setAt = (s.shrOf n).setAt ∧ s.keepsRegs u [Reg.SHR_CANn_TERM n] ∧ s.keeps u [.shr]) ∧
              (s.cur Fld.SHR_CFG_CONFIRM ≤ runs →
                ∀ c ∈ [1, 2, 3], u.faulted n c = decide (c = cls))) ∧
          (ohm16 = none ∨ now.termRuns n = false →
            if now.beatIndex = b + 14 ∧ s.on (Fld.SHR_CANn_CFG_TERM_MEAS_EN n) = true then
              u.get (Fld.SHR_CANn_TERM_MISSED n) = min 255 (s.get (Fld.SHR_CANn_TERM_MISSED n) + 1) ∧
                (u.shrOf n).done = some b ∧ s.keepsRegs u [Reg.SHR_CANn_TERM n] ∧ s.keeps u [.shr]
            else same u))) ∧
    (∀ p code, (p < 48 ∧ 4 ≤ code ∧ code ≤ 10) ∨ (48 ≤ p ∧ p < 56 ∧ code = 0x12) ∨ (p = 79 ∧ (code = 0x20 ∨ code = 0x21)) →
      let key := fun event => event * 65536 + 256 * code + p
      let shown := fun (u : State) v =>
        (p < 48 → u.get ⟨Reg.SHR_CANn_STAT p, code, code⟩ = v) ∧
        (code = 0x12 → u.get ⟨Reg.SHR_T1Ss_STAT (p - 48), 2, 2⟩ = v ∧ u.get (Fld.T1S_Ss_STATUS_POL_CORRECTED (p - 48)) = v) ∧
        (code = 0x20 → u.get Fld.SHR_SENSE_STAT_MAIN_REVERSED = v) ∧
        (code = 0x21 → u.get Fld.SHR_SENSE_STAT_BKUP_REVERSED = v)
      let status := if p < 48 then [Reg.SHR_CANn_STAT p]
        else if p < 56 then [Reg.SHR_T1Ss_STAT (p - 48), Reg.T1S_Ss_STATUS (p - 48)]
        else [Reg.SHR_SENSE_STAT, Reg.PWR_STATUS]
      (∀ value held, answers (exec (.shrFaultSet p code value held t) s) fun u =>
        if s.shrTests p code = true ∧ s.shrHolds p code value held = true ∧ s.faulted p code = false then
          u.faulted p code = true ∧ shown u 1 ∧ (code = 0x21 → u.get Fld.PWR_STATUS_BKUP_OK = 0) ∧
            u.reg64 (Reg.SHR_CNTc code) = (s.reg64 (Reg.SHR_CNTc code) + 1) % 2 ^ 64 ∧
            u.get Fld.SHR_ACTIVE_COUNT = (s.get Fld.SHR_ACTIVE_COUNT + 1) % 65536 ∧
            (now.firstInSecond (key 0x1101) = true →
              u.told 0x1101 (shrUnit p) [n4 code, n4 (s.shrAction p code), .d4 value]) ∧
            s.keepsRegs u (Reg.SHR_ACTIVE :: (status ++ pair64 (Reg.SHR_CNTc code) ++ dropCounters)) ∧
            s.keeps u (.shr :: eventParts)
        else same u) ∧
      ∀ held, answers (exec (.shrFaultCleared p code held t) s) fun u =>
        if s.shrTests p code = true ∧ shrGone code held = true ∧ s.faulted p code = true then
          u.faulted p code = false ∧ shown u 0 ∧
            u.get Fld.SHR_ACTIVE_COUNT = s.get Fld.SHR_ACTIVE_COUNT - 1 ∧
            (∀ e, (s.shrOf p).setAt.find? (fun e => e.1 == code) = some e → now.firstInSecond (key 0x1102) = true →
              u.told 0x1102 (shrUnit p) [n4 code, n8 e.2]) ∧
            s.keepsRegs u (Reg.SHR_ACTIVE :: (status ++ dropCounters)) ∧ s.keeps u (.shr :: eventParts)
        else same u) ∧
    (∀ n < 48, answers (exec (.pairSwap n t) s) fun u =>
      if s.domain (domainOf n) ≠ 2 then same u
      else if s.on (Fld.SHR_CANn_CFG_SWAP_EN n) = true then
        (if s.faulted n 9 = true ∧ (s.shrOf n).acted = false then
           u.get (Fld.SHR_CANn_STAT_SWAPPED n) = 1 - s.get (Fld.SHR_CANn_STAT_SWAPPED n) ∧ (u.shrOf n).acted = true ∧
             s.keepsRegs u [Reg.SHR_CANn_STAT n] ∧ s.keeps u [.shr]
         else same u)
      else u.get (Fld.SHR_CANn_STAT_SWAPPED n) = 0 ∧ s.keepsRegs u [Reg.SHR_CANn_STAT n] ∧ s.keeps u []) ∧
    ∀ p < 56,
      let code := if p < 48 then 0x0B else 0x13
      (answers (exec (.thermalShutdown p t) s) fun u =>
        if s.domain (domainOf p) = 2 then
          u.faulted p code = true ∧
            (s.faulted p code = false → u.reg64 (Reg.SHR_CNTc code) = (s.reg64 (Reg.SHR_CNTc code) + 1) % 2 ^ 64 ∧
              (p < 48 → u.get (Fld.SHR_CANn_STAT_THERMAL p) = 1) ∧
              (now.firstInSecond (0x1101 * 65536 + 256 * code + p) = true →
                u.told 0x1101 (unitOf 1 p) [n4 code, n4 1, .d4 0])) ∧
            (48 ≤ p → u.sending p = none)
        else same u) ∧
      answers (exec (.thermalRecovery p t) s) fun u =>
        if s.domain (domainOf p) = 2 ∧ s.faulted p code = true then
          u.faulted p code = false ∧ (p < 48 → u.get (Fld.SHR_CANn_STAT_THERMAL p) = 0) ∧
            u.get Fld.SHR_ACTIVE_COUNT = s.get Fld.SHR_ACTIVE_COUNT - 1
        else same u

/-! ### Journal, configuration and firmware update -/

/-- JOURNAL_ENTRY_PROGRAM, JOURNAL_SECTOR_ERASE, SNAPSHOT_ROUND, NVM_CFG_SAVED, KEY_BACKING_ERASE_DONE, UPDATE_SLOT_PROGRAMMED,
UPDATE_VERIFIED, PREPARATION_DONE, QUIESCE_END, PAUSE_END, PAUSE_START_FAILURE, CONFIRM_TIMEOUT and NVM_FALLBACK. -/
def Obligations.TheJournalIsWrittenAndTheUpdateRunsItsStates : Prop :=
  ∀ (t : Tai) (s : State), s.up = true →
    let same := fun (u : State) => s.keepsRegs u [] ∧ s.keeps u []
    let once := fun (u : State) k => u.reg64 (Reg.NVM_CNTk k) = (s.reg64 (Reg.NVM_CNTk k) + 1) % 2 ^ 64
    let tells := fun (u : State) new result => u.updState = new ∧ u.told 0x1208 0 [n4 s.updState, n4 new, n4 result]
    let moves := fun (u : State) new result => tells u new result ∧ u.get Fld.NVM_UPD_STATUS_RESULT = result
    let version := fun slot => hdrField (SMap.get [] s.nvm.slots slot) 16 4
    (∀ pulses bad, answers (exec (.journalEntryProgram pulses bad t) s) fun u =>
      match s.nvm.buffer with
      | [] => same u
      | e :: rest =>
        let place := s.journalPlace e.size
        let runs := s.domain 21 = 2 ∧ (s.glb.phase = .running ∨ s.glb.phase = .pause) ∧ s.stage 0 ≠ 4 ∧
          ¬(place.2 = true ∧ (SMap.look s.nvm.sectors place.1).isSome = true)
        (¬ runs → same u) ∧
        (runs →
          u.nvm.jseq = (s.nvm.jseq + 1) % 2 ^ 32 ∧ u.reg Reg.NVM_JHEAD = BitVec.ofNat 32 u.nvm.jseq ∧ once u 0 ∧
            u.nvm.cur = some place.1 ∧
            (∃ x, SMap.look u.nvm.sectors place.1 = some x ∧
              x.body = (if place.2 then [] else ((SMap.look s.nvm.sectors place.1).map (·.body)).getD []) ++ e.bytes s.nvm.jseq) ∧
            (∀ m, m ≠ place.1 → SMap.look u.nvm.sectors m = SMap.look s.nvm.sectors m) ∧
            (pulses ≤ 16 → bad = false →
              (let l := (pulses :: (s.wearOf (s.physOf 0 place.1)).pulses).take 16
               l.sum < s.cur Fld.NVM_JCFG_PULSE_WARN * l.length) →
              u.nvm.buffer = rest ∧ u.nvm.used = s.nvm.used - e.size ∧
                s.keepsRegs u (Reg.NVM_JHEAD :: Reg.NVM_JTAIL :: pair64 (Reg.NVM_CNTk 0)) ∧ s.keeps u [.nvm]))) ∧
    (∀ fail, answers (exec (.journalSectorErase fail t) s) fun u =>
      match s.margin with
      | none => same u
      | some n =>
        if s.domain 21 = 2 then
          SMap.look u.nvm.sectors n = none ∧ (∀ m, m ≠ n → SMap.look u.nvm.sectors m = SMap.look s.nvm.sectors m) ∧
            (u.wearOf (s.physOf 0 n)).erases = (s.wearOf (s.physOf 0 n)).erases + 1
        else same u) ∧
    (answers (exec (.snapshotRound t) s) fun u =>
      let valid := (List.range 32).filter fun r => s.on (Fld.NVM_SNAPr_CTRL_VALID r)
      let entry : Nat → JEntry := fun r =>
        let base := s.cur (Fld.NVM_SNAPr_BASE_BASE r)
        let n := s.cur (Fld.NVM_SNAPr_CTRL_N r)
        let rep := s.cur (Fld.NVM_SNAPr_CTRL_REPEAT r)
        let stride := s.cur (Fld.NVM_SNAPr_STRIDE_STRIDE r)
        { type := 3, time := u.time.now, body := le 4 base ++ le 1 n ++ le 1 rep ++ le 2 0 ++ le 4 stride ++ (snapshotOffsets base n stride rep).flatMap fun o => le 8 (s.reg64 o) }
      if s.snapshotDue = true ∧ s.get Fld.BEAT_STATUS_SLOT_CUR = 4 then
        (s.journaling = true → s.nvm.lost = 0 →
          s.nvm.used + ((valid.map entry).map JEntry.size).sum ≤ 65536 →
          u.nvm.buffer = s.nvm.buffer ++ valid.map entry ∧ s.keepsRegs u [] ∧ s.keeps u [.nvm]) ∧
        (s.journaling = false → same u)
      else same u) ∧
    (∀ ok wear, answers (exec (.nvmCfgSaved ok wear t) s) fun u =>
      match s.nvm.saving with
      | none => same u
      | some (b, x) =>
        u.nvm.saving = none ∧ u.get Fld.NVM_STATUS_CFG_BUSY = 0 ∧
          (ok = true → u.nvm.banks = SMap.put s.nvm.banks b x ∧ u.get Fld.NVM_CFG_STAT_RESULT = 1 ∧
            u.get Fld.NVM_STATUS_CFG_DIRTY = 0 ∧ once u 5 ∧ u.told 0x1207 0 [n4 b, n4 x.gen]) ∧
          (ok = false → u.nvm.banks = s.nvm.banks ∧ u.get Fld.NVM_CFG_STAT_RESULT = 5)) ∧
    (∀ wear, answers (exec (.keyBackingEraseDone wear t) s) fun u =>
      if s.ciph.erasing = true ∧ s.domain 21 = 2 ∧ s.brace ≠ 2 then
        u.ciph = { s.ciph with erasing := false } ∧ (wear = [] → s.keepsRegs u [] ∧ s.keeps u [.ciph])
      else same u) ∧
    (∀ (header : Bytes) result, header.length = 256 → result = 0 ∨ result = 2 ∨ result = 3 →
      answers (exec (.updateSlotProgrammed header result t) s) fun u =>
        if s.updState = 1 then
          moves u (if result = 0 then 2 else 0) result ∧
            (result = 0 → u.nvm.slots = SMap.put s.nvm.slots s.nvm.target header) ∧ (result ≠ 0 → u.nvm.slots = s.nvm.slots) ∧
            s.keepsRegs u (Reg.NVM_UPD_STATUS :: dropCounters) ∧ s.keeps u eventParts
        else same u) ∧
    (∀ sigOk digestOk, s.nvm.target < 2 → answers (exec (.updateVerified sigOk digestOk t) s) fun u =>
      let h := headerResult (s.headerOf s.nvm.target) (some (s.get Fld.NVM_UPD_LEN_BYTES)) s.nvm.minSvn
      let r := if h ≠ 0 then h else if sigOk = false then 7 else if digestOk = false then 8 else 0
      if s.updState = 2 then
        moves u (if r = 0 then 3 else 0) r ∧ u.get (Fld.NVM_SLOTs_STAT_VALID s.nvm.target) = b2n (r == 0) ∧
          u.get (Fld.NVM_SLOTs_STAT_REASON s.nvm.target) = r
      else same u) ∧
    (∀ ok body progs, answers (exec (.preparationDone ok body progs t) s) fun u =>
      if s.updState = 4 then
        (ok = false → moves u 3 13) ∧
        (ok = true → moves u 5 0 ∧ u.nvm.quiesce = 0 ∧
          (s.nvm.clean = false → ∀ b x, s.currentBank = some b → SMap.look s.nvm.banks b = some x →
            let fmt := hdrField (s.headerOf s.nvm.target) 28 2
            SMap.look u.nvm.banks b = some x ∧
              (x.fmt ≠ fmt → ∃ y, SMap.look u.nvm.banks (1 - b) = some y ∧ y.fmt = fmt)))
      else same u) ∧
    (answers (exec (.quiesceEnd t) s) fun u =>
      if s.updState = 5 ∧ (s.at t).atBoundary = true ∧ (s.allDone = true ∨ 8 ≤ s.nvm.quiesce) then
        moves u 6 0 ∧ u.glb.phase = .pause ∧ u.bootPtr.active = s.nvm.target ∧ u.bootPtr.trial = true ∧
          u.bootPtr.boots = 0 ∧ u.fab.frames = [] ∧ u.fab.queues = []
      else same u) ∧
    (answers (exec (.pauseEnd t) s) fun u =>
      if s.glb.phase = .pause ∧ s.domain 2 = 2 ∧ s.nvm.fallback = none then
        moves u 7 0 ∧ u.glb.phase = .running ∧ once u 6 ∧ u.nvm.trialFrom = u.time.now ∧
          u.get Fld.MGT_STATUS_FW_RUNNING = 1 ∧ u.told 0x0120 0 [n4 5, n4 s.nvm.target, n4 (version s.nvm.target)]
      else same u) ∧
    (answers (exec (.pauseStartFailure t) s) fun u =>
      if s.glb.phase = .pause ∧ s.domain 2 = 2 ∧ s.nvm.fallback = none then
        u.glb.phase = .pause ∧ u.nvm.fallback = some 2 ∧ u.bootPtr.active = 1 - s.nvm.target ∧ u.bootPtr.trial = false
      else same u) ∧
    (answers (exec (.confirmTimeout t) s) fun u =>
      if s.updState = 7 ∧ s.glb.phase = .running ∧
          s.nvm.trialFrom + 1000000000 * s.cur Fld.NVM_UPD_TMO_CONFIRM_S ≤ max s.time.now t then
        u.glb.phase = .pause ∧ u.nvm.fallback = some 0 ∧ u.bootPtr.active = 1 - s.get Fld.NVM_UPD_STATUS_SLOT ∧
          u.bootPtr.trial = false
      else same u) ∧
    answers (exec (.nvmFallback t) s) fun u =>
      if s.domain 2 ≠ 2 then same u
      else match s.glb.phase, s.nvm.fallback with
      | .pause, some c =>
        moves u 0 (if c = 2 then 15 else 0) ∧ u.glb.phase = .running ∧ u.nvm.fallback = none ∧ once u 7 ∧
          u.told 0x1209 0 [n4 c] ∧ u.told 0x0120 0 [n4 6, n4 (1 - s.nvm.target), n4 (version (1 - s.nvm.target))]
      | _, _ => same u

/-! ### Unit state and the management path -/

/-- STATE_SKEW, REGISTRY_REDERIVE, SERVICE_READ, SERVICE_WRITE, SERVICE_SUBSCRIBE, SERVICE_UNSUBSCRIBE, NOTIFY, ARP_REQUEST,
ICMP_ECHO, NEIGHBOUR_DISCOVERY, ICMPV6_ECHO, HOST_SNAPSHOT_LATCH, MGT_ECC_UNCORR and SMB_SCL_TIMEOUT. -/
def Obligations.TheManagementPathAnswersAndTheRegistryHeals : Prop :=
  ∀ (t : Tai) (s : State), s.up = true →
    let same := fun (u : State) => s.keepsRegs u [] ∧ s.keeps u []
    let once := fun (u : State) off => u.reg64 off = (s.reg64 off + 1) % 2 ^ 64
    let cnt := fun k => Reg.MGT_CNTk k
    let sent := Reg.ETH_Pq_CNTk 4 8
    let mac := s.ownMac 60
    let v6 := s.on Fld.MGT_NET_CFG_V6_EN
    let replies := fun (u : State) service dst port (data : Bytes) =>
      u.out = [.mgmt service mac dst port data] ∧ once u sent
    let answersOne := fun (u : State) service dst data =>
      replies u service dst 0 data ∧ s.keepsRegs u (pair64 sent) ∧ s.keeps u [.mgt]
    let heard := fun src => s.servicesUp = true ∧ (isMapped src = true ∨ v6 = true)
    let status := fun src (r : Request) op =>
      if malformed r op = true then 1
      else if (op = 2 ∨ op = 3) ∧ s.svcAllowed src = false then 2
      else if op ≤ 2 ∧ (r.offset % 4 ≠ 0 ∨ 0x4000000 < r.offset + 4 * r.count) then 3
      else if op = 3 ∧ 4 ≤ s.mgt.subs.length then 4
      else 0
    let answer := fun (r : Request) op status data =>
      svcDatagram r.magic r.version (0x80 + op) r.seq status r.count r.offset 0 data
    let turnedAway := fun (u : State) src full (touched : List Part) =>
      (¬ heard src → s.keepsRegs u [] ∧ s.keeps u touched ∧ u.out = []) ∧
        (heard src → full = true → once u (cnt 10) ∧ s.keepsRegs u (pair64 (cnt 10)) ∧ s.keeps u touched ∧ u.out = [])
    let refused := fun (u : State) src port (r : Request) op (touched : List Part) =>
      once u (cnt 9) ∧ replies u 5 src port (answer r op (status src r op) []) ∧
        s.keepsRegs u (pair64 (cnt 9) ++ pair64 sent) ∧ s.keeps u touched
    (∀ unit, registryUnit unit = true → answers (exec (.stateSkew unit t) s) fun u =>
      match SMap.look s.mgt.suspects unit with
      | none => same u
      | some x =>
        if (s.at t).atBoundary = true ∧ 2 ≤ x.beats ∧ SMap.look s.mgt.owed unit = none then
          once u (cnt 8) ∧ SMap.look u.mgt.owed unit = some x.time ∧
            (∃ e ∈ u.ev.raised, e.code = 0x1401 ∧ e.unit = unit ∧ e.epoch = nextEpoch (s.word unit).epoch ∧
              e.detail = [n4 (s.word unit).code, n4 (s.presentState unit), n8 x.time]) ∧
            s.keepsRegs u (pair64 (cnt 8) ++ dropCounters) ∧ s.keeps u (.mgt :: eventParts)
        else same u) ∧
    (∀ unit, registryUnit unit = true → answers (exec (.registryRederive unit t) s) fun u =>
      let bad := s.mgt.bad.contains unit
      if s.commitDue = true ∧ ((SMap.look s.mgt.owed unit).isSome = true ∨ bad = true) then
        u.word unit = { code := s.presentState unit, epoch := nextEpoch (s.word unit).epoch } ∧
          SMap.look u.mgt.suspects unit = none ∧ SMap.look u.mgt.owed unit = none ∧ unit ∉ u.mgt.bad ∧
          u.get Fld.MGT_SKEW_LAST_UNIT = unit ∧ u.get Fld.MGT_SKEW_LAST_BLK_STATE = s.presentState unit % 256 ∧
          u.get Fld.MGT_SKEW_LAST_REG_STATE = (if bad then 0xFF else (s.word unit).code % 256) ∧
          (∀ x, SMap.look s.mgt.owed unit = some x → u.reg64 Reg.MGT_SKEW_TIME = x % 2 ^ 64) ∧
          s.keepsRegs u (Reg.MGT_SKEW_LAST :: (pair64 Reg.MGT_SKEW_TIME ++ dropCounters)) ∧
          s.keeps u (.free :: .mgt :: eventParts)
      else same u) ∧
    (∀ src port (r : Request) full pads, port < 65536 → answers (exec (.serviceRead src port r full pads t) s) fun u =>
      turnedAway u src full [.pin] ∧
        (heard src → full = false → status src r 1 ≠ 0 → refused u src port r 1 [.pin, .mgt]) ∧
        (heard src → full = false → status src r 1 = 0 →
          let values := (State.svcReads r.count r.offset (((s.at t).sampleNet pads).count (cnt 9))).1
          once u (cnt 9) ∧ replies u 5 src port (answer r 1 0 values) ∧ values.length = 4 * r.count)) ∧
    (∀ src port (r : Request) full, port < 65536 → answers (exec (.serviceWrite src port r full t) s) fun u =>
      turnedAway u src full [] ∧
        (heard src → full = false → status src r 2 ≠ 0 → refused u src port r 2 [.mgt]) ∧
        (heard src → full = false → status src r 2 = 0 →
          let w := State.svcWrites r.count r.offset r.body ((s.at t).count (cnt 9))
          (∀ off, off ∉ pair64 sent → u.reg off = w.reg off) ∧
            (w.servicesUp = true → u.out = w.out ++ [.mgmt 5 (w.ownMac 60) src port (answer r 2 0 [])]) ∧
            (w.servicesUp = false → u = w))) ∧
    (∀ src port (r : Request) full, port < 65536 → answers (exec (.serviceSubscribe src port r full t) s) fun u =>
      let listed := s.mgt.subs.contains (src, port)
      let done := status src r 3 = 0 ∨ (status src r 3 = 4 ∧ listed = true)
      turnedAway u src full [] ∧
        (heard src → full = false → ¬ done → refused u src port r 3 [.mgt] ∧ u.mgt.subs = s.mgt.subs) ∧
        (heard src → full = false → done →
          u.mgt.subs = (if listed then s.mgt.subs else s.mgt.subs ++ [(src, port)]) ∧ once u (cnt 9) ∧
            replies u 5 src port (answer r 3 0 []) ∧ s.keepsRegs u (pair64 (cnt 9) ++ pair64 sent) ∧ s.keeps u [.mgt])) ∧
    (∀ src port (r : Request) full, port < 65536 → answers (exec (.serviceUnsubscribe src port r full t) s) fun u =>
      turnedAway u src full [] ∧
        (heard src → full = false → status src r 4 ≠ 0 → refused u src port r 4 [.mgt] ∧ u.mgt.subs = s.mgt.subs) ∧
        (heard src → full = false → status src r 4 = 0 →
          u.mgt.subs = s.mgt.subs.filter (fun e => e != (src, port)) ∧ once u (cnt 9) ∧
            replies u 5 src port (answer r 4 0 []) ∧ s.keepsRegs u (pair64 (cnt 9) ++ pair64 sent) ∧ s.keeps u [.mgt])) ∧
    (answers (exec (.notify t) s) fun u =>
      match s.mgt.inbox with
      | [] => same u
      | f :: rest =>
        u.mgt.inbox = rest ∧ s.keepsRegs u (pair64 (cnt 11) ++ pair64 sent) ∧ s.keeps u [.free, .mgt] ∧
          ∃ head : Bytes, head.length = 28 ∧
            let item := head ++ recordData f.wire
            let data := padTo ((item.length + 3) / 4 * 4) 0#8 item
            let fits := s.mgt.subs.filter fun e => decide (data.length ≤ datagramRoom e.1)
            let sends := s.servicesUp = true ∧ fits ≠ []
            (¬ sends → once u (cnt 11) ∧ u.out = [] ∧ u.mgt.notifies = s.mgt.notifies) ∧
            (sends →
              u.mgt.notifies = s.mgt.notifies + 1 ∧ u.reg64 sent = (s.reg64 sent + fits.length) % 2 ^ 64 ∧
                u.out = fits.map fun e =>
                  Output.mgmt 6 mac e.1 e.2 (svcDatagram 0x5347 1 5 (u.mgt.notifies % 65536) 0 0 0 data.length data))) ∧
    (∀ (hw : Bytes) ip target, hw.length = 6 → ip < 2 ^ 32 → target < 2 ^ 32 →
      answers (exec (.arpRequest hw ip target t) s) fun u =>
        if s.servicesUp = true ∧ target = s.ip4 then
          answersOne u 1 (mapped4 ip)
            (be 2 1 ++ be 2 0x0800 ++ be 1 6 ++ be 1 4 ++ be 2 2 ++ mac ++ be 4 target ++ hw ++ be 4 ip)
        else same u) ∧
    (∀ src dst (body : Bytes), src < 2 ^ 32 → dst < 2 ^ 32 → answers (exec (.icmpEcho src dst body t) s) fun u =>
      if s.servicesUp = true ∧ dst = s.ip4 then answersOne u 2 (mapped4 src) (icmpMessage 0 body) else same u) ∧
    (∀ src target, src < 2 ^ 128 → target < 2 ^ 128 → answers (exec (.neighbourDiscovery src target t) s) fun u =>
      if s.servicesUp = true ∧ v6 = true ∧ (target = s.addr6 (Reg.MGT_NET_IP6k 0) ∨ target = s.linkLocal) then
        let dst := if src = 0 then 0xFF02 * 2 ^ 112 + 1 else src
        answersOne u 3 dst (icmp6Message target dst 136
          (be 4 (if src = 0 then 0x20000000 else 0x60000000) ++ be 16 target ++ be 1 2 ++ be 1 1 ++ mac))
      else same u) ∧
    (∀ src dst (body : Bytes), src < 2 ^ 128 → dst < 2 ^ 128 → answers (exec (.icmpv6Echo src dst body t) s) fun u =>
      if s.servicesUp = true ∧ v6 = true ∧ (dst = s.addr6 (Reg.MGT_NET_IP6k 0) ∨ dst = s.linkLocal) then
        answersOne u 4 src (icmp6Message dst src 129 body)
      else same u) ∧
    (answers (exec (.hostSnapshotLatch t) s) fun u =>
      let slot := s.get Fld.BEAT_STATUS_SLOT_CUR
      let values := s.snapRanges.flatMap fun r => s.rangeBytes r
      let addr := s.live64 Reg.MGT_SNAP_ADDR
      let header := le 8 (s.slotStart 4) ++ le 4 ((s.snapRanges.map fun r => 2 ^ r).sum) ++ le 4 values.length ++
        le 4 (s.mgt.snaps + 1) ++ List.replicate 12 0#8
      if s.slotsRun = true ∧ s.glb.phase = .running ∧ (slot = 3 ∨ slot = 4) then
        (s.mgt.snapDue = false → s.mgt.snapHeld = [] → same u) ∧
        (s.mgt.snapDue = true → u.mgt.snapDue = false ∧ u.mgt.snaps = s.mgt.snaps + 1 ∧
          (if s.hostUp = true ∧ s.hif.linkReady = true then
             u.mgt.snapHeld = [] ∧ u.get Fld.MGT_SNAP_STAT_PENDING = 0 ∧
               u.get Fld.MGT_SNAP_STAT_SEQ = (s.mgt.snaps + 1) % 65536 ∧
               u.out = (if values = [] then [] else [.dmaWrite (addr + 32) values]) ++ [.dmaWrite addr header] ∧
               s.keepsRegs u [Reg.MGT_SNAP_STAT] ∧ s.keeps u [.mgt]
           else
             u.mgt.snapHeld = [(addr + 32, values), (addr, header)] ∧ u.out = [] ∧ s.keepsRegs u [] ∧ s.keeps u [.mgt]))
      else same u) ∧
    (∀ area index sel, area < 3 → (area = 0 → sel < 640) → (area = 2 → sel < 4 ∧ index < 65536) →
      answers (exec (.mgtEccUncorr area index sel t) s) fun u =>
        once u (cnt (2 * area + 1)) ∧ u.told 0x1403 0 [n4 area, n4 index] ∧
          (area = 0 → u.queue (sel / 8) (sel % 8) = []) ∧
          (area = 1 → s.get Fld.MGT_STATUS_FW_RUNNING = 1 → u.mgt.inbox = [] ∧ u.mgt.subs = [] ∧
            u.get Fld.GLB_RESET_CAUSE_CAUSE = 7 ∧ u.get Fld.MGT_STATUS_FW_RUNNING = 1) ∧
          (area = 2 → 65536 * sel + index ∈ u.ciph.invalid ∧ s.keepsRegs u (pair64 (cnt 5) ++ dropCounters) ∧
            s.keeps u (.ciph :: eventParts))) ∧
    answers (exec (.smbSclTimeout t) s) fun u =>
      u.out = [.smbusRelease] ∧ s.keepsRegs u [] ∧ s.keeps u []
end

