-- ==== Sys2Proof/Laws/State.lean ====
section
/-! SUPPORT. One lemma for each field and each named update of the state: what the update leaves, so that no proof unfolds
a record update. -/

namespace Sys2Proof.Machine

/-! ### setReg -/

@[simp] theorem State.setReg_pending (s : State) (o : Nat) (v : Word) : (s.setReg o v).pending = s.pending := rfl
@[simp] theorem State.setReg_out (s : State) (o : Nat) (v : Word) : (s.setReg o v).out = s.out := rfl
@[simp] theorem State.setReg_free (s : State) (o : Nat) (v : Word) : (s.setReg o v).free = s.free := rfl
@[simp] theorem State.setReg_live (s : State) (o : Nat) (v : Word) : (s.setReg o v).live = s.live := rfl
@[simp] theorem State.setReg_paced (s : State) (o : Nat) (v : Word) : (s.setReg o v).paced = s.paced := rfl
@[simp] theorem State.setReg_cmds (s : State) (o : Nat) (v : Word) : (s.setReg o v).cmds = s.cmds := rfl
@[simp] theorem State.setReg_glb (s : State) (o : Nat) (v : Word) : (s.setReg o v).glb = s.glb := rfl
@[simp] theorem State.setReg_beat (s : State) (o : Nat) (v : Word) : (s.setReg o v).beat = s.beat := rfl
@[simp] theorem State.setReg_time (s : State) (o : Nat) (v : Word) : (s.setReg o v).time = s.time := rfl
@[simp] theorem State.setReg_ev (s : State) (o : Nat) (v : Word) : (s.setReg o v).ev = s.ev := rfl
@[simp] theorem State.setReg_hif (s : State) (o : Nat) (v : Word) : (s.setReg o v).hif = s.hif := rfl
@[simp] theorem State.setReg_fab (s : State) (o : Nat) (v : Word) : (s.setReg o v).fab = s.fab := rfl
@[simp] theorem State.setReg_ra (s : State) (o : Nat) (v : Word) : (s.setReg o v).ra = s.ra := rfl
@[simp] theorem State.setReg_can (s : State) (o : Nat) (v : Word) : (s.setReg o v).can = s.can := rfl
@[simp] theorem State.setReg_reef (s : State) (o : Nat) (v : Word) : (s.setReg o v).reef = s.reef := rfl
@[simp] theorem State.setReg_eth (s : State) (o : Nat) (v : Word) : (s.setReg o v).eth = s.eth := rfl
@[simp] theorem State.setReg_ser (s : State) (o : Nat) (v : Word) : (s.setReg o v).ser = s.ser := rfl
@[simp] theorem State.setReg_ciph (s : State) (o : Nat) (v : Word) : (s.setReg o v).ciph = s.ciph := rfl
@[simp] theorem State.setReg_nest (s : State) (o : Nat) (v : Word) : (s.setReg o v).nest = s.nest := rfl
@[simp] theorem State.setReg_hal (s : State) (o : Nat) (v : Word) : (s.setReg o v).hal = s.hal := rfl
@[simp] theorem State.setReg_pwr (s : State) (o : Nat) (v : Word) : (s.setReg o v).pwr = s.pwr := rfl
@[simp] theorem State.setReg_shr (s : State) (o : Nat) (v : Word) : (s.setReg o v).shr = s.shr := rfl
@[simp] theorem State.setReg_pin (s : State) (o : Nat) (v : Word) : (s.setReg o v).pin = s.pin := rfl
@[simp] theorem State.setReg_nvm (s : State) (o : Nat) (v : Word) : (s.setReg o v).nvm = s.nvm := rfl
@[simp] theorem State.setReg_mgt (s : State) (o : Nat) (v : Word) : (s.setReg o v).mgt = s.mgt := rfl

/-! ### setLive -/

@[simp] theorem State.setLive_pending (s : State) (o : Nat) (v : Word) : (s.setLive o v).pending = s.pending := rfl
@[simp] theorem State.setLive_out (s : State) (o : Nat) (v : Word) : (s.setLive o v).out = s.out := rfl
@[simp] theorem State.setLive_free (s : State) (o : Nat) (v : Word) : (s.setLive o v).free = s.free := rfl
@[simp] theorem State.setLive_regs (s : State) (o : Nat) (v : Word) : (s.setLive o v).regs = s.regs := rfl
@[simp] theorem State.setLive_paced (s : State) (o : Nat) (v : Word) : (s.setLive o v).paced = s.paced := rfl
@[simp] theorem State.setLive_cmds (s : State) (o : Nat) (v : Word) : (s.setLive o v).cmds = s.cmds := rfl
@[simp] theorem State.setLive_glb (s : State) (o : Nat) (v : Word) : (s.setLive o v).glb = s.glb := rfl
@[simp] theorem State.setLive_beat (s : State) (o : Nat) (v : Word) : (s.setLive o v).beat = s.beat := rfl
@[simp] theorem State.setLive_time (s : State) (o : Nat) (v : Word) : (s.setLive o v).time = s.time := rfl
@[simp] theorem State.setLive_ev (s : State) (o : Nat) (v : Word) : (s.setLive o v).ev = s.ev := rfl
@[simp] theorem State.setLive_hif (s : State) (o : Nat) (v : Word) : (s.setLive o v).hif = s.hif := rfl
@[simp] theorem State.setLive_fab (s : State) (o : Nat) (v : Word) : (s.setLive o v).fab = s.fab := rfl
@[simp] theorem State.setLive_ra (s : State) (o : Nat) (v : Word) : (s.setLive o v).ra = s.ra := rfl
@[simp] theorem State.setLive_can (s : State) (o : Nat) (v : Word) : (s.setLive o v).can = s.can := rfl
@[simp] theorem State.setLive_reef (s : State) (o : Nat) (v : Word) : (s.setLive o v).reef = s.reef := rfl
@[simp] theorem State.setLive_eth (s : State) (o : Nat) (v : Word) : (s.setLive o v).eth = s.eth := rfl
@[simp] theorem State.setLive_ser (s : State) (o : Nat) (v : Word) : (s.setLive o v).ser = s.ser := rfl
@[simp] theorem State.setLive_ciph (s : State) (o : Nat) (v : Word) : (s.setLive o v).ciph = s.ciph := rfl
@[simp] theorem State.setLive_nest (s : State) (o : Nat) (v : Word) : (s.setLive o v).nest = s.nest := rfl
@[simp] theorem State.setLive_hal (s : State) (o : Nat) (v : Word) : (s.setLive o v).hal = s.hal := rfl
@[simp] theorem State.setLive_pwr (s : State) (o : Nat) (v : Word) : (s.setLive o v).pwr = s.pwr := rfl
@[simp] theorem State.setLive_shr (s : State) (o : Nat) (v : Word) : (s.setLive o v).shr = s.shr := rfl
@[simp] theorem State.setLive_pin (s : State) (o : Nat) (v : Word) : (s.setLive o v).pin = s.pin := rfl
@[simp] theorem State.setLive_nvm (s : State) (o : Nat) (v : Word) : (s.setLive o v).nvm = s.nvm := rfl
@[simp] theorem State.setLive_mgt (s : State) (o : Nat) (v : Word) : (s.setLive o v).mgt = s.mgt := rfl

/-! ### put -/

@[simp] theorem State.put_pending (s : State) (f : Fld) (v : Nat) : (s.put f v).pending = s.pending := rfl
@[simp] theorem State.put_out (s : State) (f : Fld) (v : Nat) : (s.put f v).out = s.out := rfl
@[simp] theorem State.put_free (s : State) (f : Fld) (v : Nat) : (s.put f v).free = s.free := rfl
@[simp] theorem State.put_live (s : State) (f : Fld) (v : Nat) : (s.put f v).live = s.live := rfl
@[simp] theorem State.put_paced (s : State) (f : Fld) (v : Nat) : (s.put f v).paced = s.paced := rfl
@[simp] theorem State.put_cmds (s : State) (f : Fld) (v : Nat) : (s.put f v).cmds = s.cmds := rfl
@[simp] theorem State.put_glb (s : State) (f : Fld) (v : Nat) : (s.put f v).glb = s.glb := rfl
@[simp] theorem State.put_beat (s : State) (f : Fld) (v : Nat) : (s.put f v).beat = s.beat := rfl
@[simp] theorem State.put_time (s : State) (f : Fld) (v : Nat) : (s.put f v).time = s.time := rfl
@[simp] theorem State.put_ev (s : State) (f : Fld) (v : Nat) : (s.put f v).ev = s.ev := rfl
@[simp] theorem State.put_hif (s : State) (f : Fld) (v : Nat) : (s.put f v).hif = s.hif := rfl
@[simp] theorem State.put_fab (s : State) (f : Fld) (v : Nat) : (s.put f v).fab = s.fab := rfl
@[simp] theorem State.put_ra (s : State) (f : Fld) (v : Nat) : (s.put f v).ra = s.ra := rfl
@[simp] theorem State.put_can (s : State) (f : Fld) (v : Nat) : (s.put f v).can = s.can := rfl
@[simp] theorem State.put_reef (s : State) (f : Fld) (v : Nat) : (s.put f v).reef = s.reef := rfl
@[simp] theorem State.put_eth (s : State) (f : Fld) (v : Nat) : (s.put f v).eth = s.eth := rfl
@[simp] theorem State.put_ser (s : State) (f : Fld) (v : Nat) : (s.put f v).ser = s.ser := rfl
@[simp] theorem State.put_ciph (s : State) (f : Fld) (v : Nat) : (s.put f v).ciph = s.ciph := rfl
@[simp] theorem State.put_nest (s : State) (f : Fld) (v : Nat) : (s.put f v).nest = s.nest := rfl
@[simp] theorem State.put_hal (s : State) (f : Fld) (v : Nat) : (s.put f v).hal = s.hal := rfl
@[simp] theorem State.put_pwr (s : State) (f : Fld) (v : Nat) : (s.put f v).pwr = s.pwr := rfl
@[simp] theorem State.put_shr (s : State) (f : Fld) (v : Nat) : (s.put f v).shr = s.shr := rfl
@[simp] theorem State.put_pin (s : State) (f : Fld) (v : Nat) : (s.put f v).pin = s.pin := rfl
@[simp] theorem State.put_nvm (s : State) (f : Fld) (v : Nat) : (s.put f v).nvm = s.nvm := rfl
@[simp] theorem State.put_mgt (s : State) (f : Fld) (v : Nat) : (s.put f v).mgt = s.mgt := rfl

/-! ### putCur -/

@[simp] theorem State.putCur_pending (s : State) (f : Fld) (v : Nat) : (s.putCur f v).pending = s.pending := rfl
@[simp] theorem State.putCur_out (s : State) (f : Fld) (v : Nat) : (s.putCur f v).out = s.out := rfl
@[simp] theorem State.putCur_free (s : State) (f : Fld) (v : Nat) : (s.putCur f v).free = s.free := rfl
@[simp] theorem State.putCur_regs (s : State) (f : Fld) (v : Nat) : (s.putCur f v).regs = s.regs := rfl
@[simp] theorem State.putCur_paced (s : State) (f : Fld) (v : Nat) : (s.putCur f v).paced = s.paced := rfl
@[simp] theorem State.putCur_cmds (s : State) (f : Fld) (v : Nat) : (s.putCur f v).cmds = s.cmds := rfl
@[simp] theorem State.putCur_glb (s : State) (f : Fld) (v : Nat) : (s.putCur f v).glb = s.glb := rfl
@[simp] theorem State.putCur_beat (s : State) (f : Fld) (v : Nat) : (s.putCur f v).beat = s.beat := rfl
@[simp] theorem State.putCur_time (s : State) (f : Fld) (v : Nat) : (s.putCur f v).time = s.time := rfl
@[simp] theorem State.putCur_ev (s : State) (f : Fld) (v : Nat) : (s.putCur f v).ev = s.ev := rfl
@[simp] theorem State.putCur_hif (s : State) (f : Fld) (v : Nat) : (s.putCur f v).hif = s.hif := rfl
@[simp] theorem State.putCur_fab (s : State) (f : Fld) (v : Nat) : (s.putCur f v).fab = s.fab := rfl
@[simp] theorem State.putCur_ra (s : State) (f : Fld) (v : Nat) : (s.putCur f v).ra = s.ra := rfl
@[simp] theorem State.putCur_can (s : State) (f : Fld) (v : Nat) : (s.putCur f v).can = s.can := rfl
@[simp] theorem State.putCur_reef (s : State) (f : Fld) (v : Nat) : (s.putCur f v).reef = s.reef := rfl
@[simp] theorem State.putCur_eth (s : State) (f : Fld) (v : Nat) : (s.putCur f v).eth = s.eth := rfl
@[simp] theorem State.putCur_ser (s : State) (f : Fld) (v : Nat) : (s.putCur f v).ser = s.ser := rfl
@[simp] theorem State.putCur_ciph (s : State) (f : Fld) (v : Nat) : (s.putCur f v).ciph = s.ciph := rfl
@[simp] theorem State.putCur_nest (s : State) (f : Fld) (v : Nat) : (s.putCur f v).nest = s.nest := rfl
@[simp] theorem State.putCur_hal (s : State) (f : Fld) (v : Nat) : (s.putCur f v).hal = s.hal := rfl
@[simp] theorem State.putCur_pwr (s : State) (f : Fld) (v : Nat) : (s.putCur f v).pwr = s.pwr := rfl
@[simp] theorem State.putCur_shr (s : State) (f : Fld) (v : Nat) : (s.putCur f v).shr = s.shr := rfl
@[simp] theorem State.putCur_pin (s : State) (f : Fld) (v : Nat) : (s.putCur f v).pin = s.pin := rfl
@[simp] theorem State.putCur_nvm (s : State) (f : Fld) (v : Nat) : (s.putCur f v).nvm = s.nvm := rfl
@[simp] theorem State.putCur_mgt (s : State) (f : Fld) (v : Nat) : (s.putCur f v).mgt = s.mgt := rfl

/-! ### putBoth -/

@[simp] theorem State.putBoth_pending (s : State) (f : Fld) (v : Nat) : (s.putBoth f v).pending = s.pending := rfl
@[simp] theorem State.putBoth_out (s : State) (f : Fld) (v : Nat) : (s.putBoth f v).out = s.out := rfl
@[simp] theorem State.putBoth_free (s : State) (f : Fld) (v : Nat) : (s.putBoth f v).free = s.free := rfl
@[simp] theorem State.putBoth_paced (s : State) (f : Fld) (v : Nat) : (s.putBoth f v).paced = s.paced := rfl
@[simp] theorem State.putBoth_cmds (s : State) (f : Fld) (v : Nat) : (s.putBoth f v).cmds = s.cmds := rfl
@[simp] theorem State.putBoth_glb (s : State) (f : Fld) (v : Nat) : (s.putBoth f v).glb = s.glb := rfl
@[simp] theorem State.putBoth_beat (s : State) (f : Fld) (v : Nat) : (s.putBoth f v).beat = s.beat := rfl
@[simp] theorem State.putBoth_time (s : State) (f : Fld) (v : Nat) : (s.putBoth f v).time = s.time := rfl
@[simp] theorem State.putBoth_ev (s : State) (f : Fld) (v : Nat) : (s.putBoth f v).ev = s.ev := rfl
@[simp] theorem State.putBoth_hif (s : State) (f : Fld) (v : Nat) : (s.putBoth f v).hif = s.hif := rfl
@[simp] theorem State.putBoth_fab (s : State) (f : Fld) (v : Nat) : (s.putBoth f v).fab = s.fab := rfl
@[simp] theorem State.putBoth_ra (s : State) (f : Fld) (v : Nat) : (s.putBoth f v).ra = s.ra := rfl
@[simp] theorem State.putBoth_can (s : State) (f : Fld) (v : Nat) : (s.putBoth f v).can = s.can := rfl
@[simp] theorem State.putBoth_reef (s : State) (f : Fld) (v : Nat) : (s.putBoth f v).reef = s.reef := rfl
@[simp] theorem State.putBoth_eth (s : State) (f : Fld) (v : Nat) : (s.putBoth f v).eth = s.eth := rfl
@[simp] theorem State.putBoth_ser (s : State) (f : Fld) (v : Nat) : (s.putBoth f v).ser = s.ser := rfl
@[simp] theorem State.putBoth_ciph (s : State) (f : Fld) (v : Nat) : (s.putBoth f v).ciph = s.ciph := rfl
@[simp] theorem State.putBoth_nest (s : State) (f : Fld) (v : Nat) : (s.putBoth f v).nest = s.nest := rfl
@[simp] theorem State.putBoth_hal (s : State) (f : Fld) (v : Nat) : (s.putBoth f v).hal = s.hal := rfl
@[simp] theorem State.putBoth_pwr (s : State) (f : Fld) (v : Nat) : (s.putBoth f v).pwr = s.pwr := rfl
@[simp] theorem State.putBoth_shr (s : State) (f : Fld) (v : Nat) : (s.putBoth f v).shr = s.shr := rfl
@[simp] theorem State.putBoth_pin (s : State) (f : Fld) (v : Nat) : (s.putBoth f v).pin = s.pin := rfl
@[simp] theorem State.putBoth_nvm (s : State) (f : Fld) (v : Nat) : (s.putBoth f v).nvm = s.nvm := rfl
@[simp] theorem State.putBoth_mgt (s : State) (f : Fld) (v : Nat) : (s.putBoth f v).mgt = s.mgt := rfl

/-! ### setReg64 -/

@[simp] theorem State.setReg64_pending (s : State) (o v : Nat) : (s.setReg64 o v).pending = s.pending := rfl
@[simp] theorem State.setReg64_out (s : State) (o v : Nat) : (s.setReg64 o v).out = s.out := rfl
@[simp] theorem State.setReg64_free (s : State) (o v : Nat) : (s.setReg64 o v).free = s.free := rfl
@[simp] theorem State.setReg64_live (s : State) (o v : Nat) : (s.setReg64 o v).live = s.live := rfl
@[simp] theorem State.setReg64_paced (s : State) (o v : Nat) : (s.setReg64 o v).paced = s.paced := rfl
@[simp] theorem State.setReg64_cmds (s : State) (o v : Nat) : (s.setReg64 o v).cmds = s.cmds := rfl
@[simp] theorem State.setReg64_glb (s : State) (o v : Nat) : (s.setReg64 o v).glb = s.glb := rfl
@[simp] theorem State.setReg64_beat (s : State) (o v : Nat) : (s.setReg64 o v).beat = s.beat := rfl
@[simp] theorem State.setReg64_time (s : State) (o v : Nat) : (s.setReg64 o v).time = s.time := rfl
@[simp] theorem State.setReg64_ev (s : State) (o v : Nat) : (s.setReg64 o v).ev = s.ev := rfl
@[simp] theorem State.setReg64_hif (s : State) (o v : Nat) : (s.setReg64 o v).hif = s.hif := rfl
@[simp] theorem State.setReg64_fab (s : State) (o v : Nat) : (s.setReg64 o v).fab = s.fab := rfl
@[simp] theorem State.setReg64_ra (s : State) (o v : Nat) : (s.setReg64 o v).ra = s.ra := rfl
@[simp] theorem State.setReg64_can (s : State) (o v : Nat) : (s.setReg64 o v).can = s.can := rfl
@[simp] theorem State.setReg64_reef (s : State) (o v : Nat) : (s.setReg64 o v).reef = s.reef := rfl
@[simp] theorem State.setReg64_eth (s : State) (o v : Nat) : (s.setReg64 o v).eth = s.eth := rfl
@[simp] theorem State.setReg64_ser (s : State) (o v : Nat) : (s.setReg64 o v).ser = s.ser := rfl
@[simp] theorem State.setReg64_ciph (s : State) (o v : Nat) : (s.setReg64 o v).ciph = s.ciph := rfl
@[simp] theorem State.setReg64_nest (s : State) (o v : Nat) : (s.setReg64 o v).nest = s.nest := rfl
@[simp] theorem State.setReg64_hal (s : State) (o v : Nat) : (s.setReg64 o v).hal = s.hal := rfl
@[simp] theorem State.setReg64_pwr (s : State) (o v : Nat) : (s.setReg64 o v).pwr = s.pwr := rfl
@[simp] theorem State.setReg64_shr (s : State) (o v : Nat) : (s.setReg64 o v).shr = s.shr := rfl
@[simp] theorem State.setReg64_pin (s : State) (o v : Nat) : (s.setReg64 o v).pin = s.pin := rfl
@[simp] theorem State.setReg64_nvm (s : State) (o v : Nat) : (s.setReg64 o v).nvm = s.nvm := rfl
@[simp] theorem State.setReg64_mgt (s : State) (o v : Nat) : (s.setReg64 o v).mgt = s.mgt := rfl

/-! ### count -/

@[simp] theorem State.count_pending (s : State) (o n : Nat) : (s.count o n).pending = s.pending := rfl
@[simp] theorem State.count_out (s : State) (o n : Nat) : (s.count o n).out = s.out := rfl
@[simp] theorem State.count_free (s : State) (o n : Nat) : (s.count o n).free = s.free := rfl
@[simp] theorem State.count_live (s : State) (o n : Nat) : (s.count o n).live = s.live := rfl
@[simp] theorem State.count_paced (s : State) (o n : Nat) : (s.count o n).paced = s.paced := rfl
@[simp] theorem State.count_cmds (s : State) (o n : Nat) : (s.count o n).cmds = s.cmds := rfl
@[simp] theorem State.count_glb (s : State) (o n : Nat) : (s.count o n).glb = s.glb := rfl
@[simp] theorem State.count_beat (s : State) (o n : Nat) : (s.count o n).beat = s.beat := rfl
@[simp] theorem State.count_time (s : State) (o n : Nat) : (s.count o n).time = s.time := rfl
@[simp] theorem State.count_ev (s : State) (o n : Nat) : (s.count o n).ev = s.ev := rfl
@[simp] theorem State.count_hif (s : State) (o n : Nat) : (s.count o n).hif = s.hif := rfl
@[simp] theorem State.count_fab (s : State) (o n : Nat) : (s.count o n).fab = s.fab := rfl
@[simp] theorem State.count_ra (s : State) (o n : Nat) : (s.count o n).ra = s.ra := rfl
@[simp] theorem State.count_can (s : State) (o n : Nat) : (s.count o n).can = s.can := rfl
@[simp] theorem State.count_reef (s : State) (o n : Nat) : (s.count o n).reef = s.reef := rfl
@[simp] theorem State.count_eth (s : State) (o n : Nat) : (s.count o n).eth = s.eth := rfl
@[simp] theorem State.count_ser (s : State) (o n : Nat) : (s.count o n).ser = s.ser := rfl
@[simp] theorem State.count_ciph (s : State) (o n : Nat) : (s.count o n).ciph = s.ciph := rfl
@[simp] theorem State.count_nest (s : State) (o n : Nat) : (s.count o n).nest = s.nest := rfl
@[simp] theorem State.count_hal (s : State) (o n : Nat) : (s.count o n).hal = s.hal := rfl
@[simp] theorem State.count_pwr (s : State) (o n : Nat) : (s.count o n).pwr = s.pwr := rfl
@[simp] theorem State.count_shr (s : State) (o n : Nat) : (s.count o n).shr = s.shr := rfl
@[simp] theorem State.count_pin (s : State) (o n : Nat) : (s.count o n).pin = s.pin := rfl
@[simp] theorem State.count_nvm (s : State) (o n : Nat) : (s.count o n).nvm = s.nvm := rfl
@[simp] theorem State.count_mgt (s : State) (o n : Nat) : (s.count o n).mgt = s.mgt := rfl

/-! ### count32 -/

@[simp] theorem State.count32_pending (s : State) (o n : Nat) : (s.count32 o n).pending = s.pending := rfl
@[simp] theorem State.count32_out (s : State) (o n : Nat) : (s.count32 o n).out = s.out := rfl
@[simp] theorem State.count32_free (s : State) (o n : Nat) : (s.count32 o n).free = s.free := rfl
@[simp] theorem State.count32_live (s : State) (o n : Nat) : (s.count32 o n).live = s.live := rfl
@[simp] theorem State.count32_paced (s : State) (o n : Nat) : (s.count32 o n).paced = s.paced := rfl
@[simp] theorem State.count32_cmds (s : State) (o n : Nat) : (s.count32 o n).cmds = s.cmds := rfl
@[simp] theorem State.count32_glb (s : State) (o n : Nat) : (s.count32 o n).glb = s.glb := rfl
@[simp] theorem State.count32_beat (s : State) (o n : Nat) : (s.count32 o n).beat = s.beat := rfl
@[simp] theorem State.count32_time (s : State) (o n : Nat) : (s.count32 o n).time = s.time := rfl
@[simp] theorem State.count32_ev (s : State) (o n : Nat) : (s.count32 o n).ev = s.ev := rfl
@[simp] theorem State.count32_hif (s : State) (o n : Nat) : (s.count32 o n).hif = s.hif := rfl
@[simp] theorem State.count32_fab (s : State) (o n : Nat) : (s.count32 o n).fab = s.fab := rfl
@[simp] theorem State.count32_ra (s : State) (o n : Nat) : (s.count32 o n).ra = s.ra := rfl
@[simp] theorem State.count32_can (s : State) (o n : Nat) : (s.count32 o n).can = s.can := rfl
@[simp] theorem State.count32_reef (s : State) (o n : Nat) : (s.count32 o n).reef = s.reef := rfl
@[simp] theorem State.count32_eth (s : State) (o n : Nat) : (s.count32 o n).eth = s.eth := rfl
@[simp] theorem State.count32_ser (s : State) (o n : Nat) : (s.count32 o n).ser = s.ser := rfl
@[simp] theorem State.count32_ciph (s : State) (o n : Nat) : (s.count32 o n).ciph = s.ciph := rfl
@[simp] theorem State.count32_nest (s : State) (o n : Nat) : (s.count32 o n).nest = s.nest := rfl
@[simp] theorem State.count32_hal (s : State) (o n : Nat) : (s.count32 o n).hal = s.hal := rfl
@[simp] theorem State.count32_pwr (s : State) (o n : Nat) : (s.count32 o n).pwr = s.pwr := rfl
@[simp] theorem State.count32_shr (s : State) (o n : Nat) : (s.count32 o n).shr = s.shr := rfl
@[simp] theorem State.count32_pin (s : State) (o n : Nat) : (s.count32 o n).pin = s.pin := rfl
@[simp] theorem State.count32_nvm (s : State) (o n : Nat) : (s.count32 o n).nvm = s.nvm := rfl
@[simp] theorem State.count32_mgt (s : State) (o n : Nat) : (s.count32 o n).mgt = s.mgt := rfl

/-! ### orReg -/

@[simp] theorem State.orReg_pending (s : State) (o m : Nat) : (s.orReg o m).pending = s.pending := rfl
@[simp] theorem State.orReg_out (s : State) (o m : Nat) : (s.orReg o m).out = s.out := rfl
@[simp] theorem State.orReg_free (s : State) (o m : Nat) : (s.orReg o m).free = s.free := rfl
@[simp] theorem State.orReg_live (s : State) (o m : Nat) : (s.orReg o m).live = s.live := rfl
@[simp] theorem State.orReg_paced (s : State) (o m : Nat) : (s.orReg o m).paced = s.paced := rfl
@[simp] theorem State.orReg_cmds (s : State) (o m : Nat) : (s.orReg o m).cmds = s.cmds := rfl
@[simp] theorem State.orReg_glb (s : State) (o m : Nat) : (s.orReg o m).glb = s.glb := rfl
@[simp] theorem State.orReg_beat (s : State) (o m : Nat) : (s.orReg o m).beat = s.beat := rfl
@[simp] theorem State.orReg_time (s : State) (o m : Nat) : (s.orReg o m).time = s.time := rfl
@[simp] theorem State.orReg_ev (s : State) (o m : Nat) : (s.orReg o m).ev = s.ev := rfl
@[simp] theorem State.orReg_hif (s : State) (o m : Nat) : (s.orReg o m).hif = s.hif := rfl
@[simp] theorem State.orReg_fab (s : State) (o m : Nat) : (s.orReg o m).fab = s.fab := rfl
@[simp] theorem State.orReg_ra (s : State) (o m : Nat) : (s.orReg o m).ra = s.ra := rfl
@[simp] theorem State.orReg_can (s : State) (o m : Nat) : (s.orReg o m).can = s.can := rfl
@[simp] theorem State.orReg_reef (s : State) (o m : Nat) : (s.orReg o m).reef = s.reef := rfl
@[simp] theorem State.orReg_eth (s : State) (o m : Nat) : (s.orReg o m).eth = s.eth := rfl
@[simp] theorem State.orReg_ser (s : State) (o m : Nat) : (s.orReg o m).ser = s.ser := rfl
@[simp] theorem State.orReg_ciph (s : State) (o m : Nat) : (s.orReg o m).ciph = s.ciph := rfl
@[simp] theorem State.orReg_nest (s : State) (o m : Nat) : (s.orReg o m).nest = s.nest := rfl
@[simp] theorem State.orReg_hal (s : State) (o m : Nat) : (s.orReg o m).hal = s.hal := rfl
@[simp] theorem State.orReg_pwr (s : State) (o m : Nat) : (s.orReg o m).pwr = s.pwr := rfl
@[simp] theorem State.orReg_shr (s : State) (o m : Nat) : (s.orReg o m).shr = s.shr := rfl
@[simp] theorem State.orReg_pin (s : State) (o m : Nat) : (s.orReg o m).pin = s.pin := rfl
@[simp] theorem State.orReg_nvm (s : State) (o m : Nat) : (s.orReg o m).nvm = s.nvm := rfl
@[simp] theorem State.orReg_mgt (s : State) (o m : Nat) : (s.orReg o m).mgt = s.mgt := rfl

/-! ### countPort -/

@[simp] theorem State.countPort_pending (s : State) (p k n : Nat) : (s.countPort p k n).pending = s.pending := rfl
@[simp] theorem State.countPort_out (s : State) (p k n : Nat) : (s.countPort p k n).out = s.out := rfl
@[simp] theorem State.countPort_free (s : State) (p k n : Nat) : (s.countPort p k n).free = s.free := rfl
@[simp] theorem State.countPort_live (s : State) (p k n : Nat) : (s.countPort p k n).live = s.live := rfl
@[simp] theorem State.countPort_paced (s : State) (p k n : Nat) : (s.countPort p k n).paced = s.paced := rfl
@[simp] theorem State.countPort_cmds (s : State) (p k n : Nat) : (s.countPort p k n).cmds = s.cmds := rfl
@[simp] theorem State.countPort_glb (s : State) (p k n : Nat) : (s.countPort p k n).glb = s.glb := rfl
@[simp] theorem State.countPort_beat (s : State) (p k n : Nat) : (s.countPort p k n).beat = s.beat := rfl
@[simp] theorem State.countPort_time (s : State) (p k n : Nat) : (s.countPort p k n).time = s.time := rfl
@[simp] theorem State.countPort_ev (s : State) (p k n : Nat) : (s.countPort p k n).ev = s.ev := rfl
@[simp] theorem State.countPort_hif (s : State) (p k n : Nat) : (s.countPort p k n).hif = s.hif := rfl
@[simp] theorem State.countPort_fab (s : State) (p k n : Nat) : (s.countPort p k n).fab = s.fab := rfl
@[simp] theorem State.countPort_ra (s : State) (p k n : Nat) : (s.countPort p k n).ra = s.ra := rfl
@[simp] theorem State.countPort_can (s : State) (p k n : Nat) : (s.countPort p k n).can = s.can := rfl
@[simp] theorem State.countPort_reef (s : State) (p k n : Nat) : (s.countPort p k n).reef = s.reef := rfl
@[simp] theorem State.countPort_eth (s : State) (p k n : Nat) : (s.countPort p k n).eth = s.eth := rfl
@[simp] theorem State.countPort_ser (s : State) (p k n : Nat) : (s.countPort p k n).ser = s.ser := rfl
@[simp] theorem State.countPort_ciph (s : State) (p k n : Nat) : (s.countPort p k n).ciph = s.ciph := rfl
@[simp] theorem State.countPort_nest (s : State) (p k n : Nat) : (s.countPort p k n).nest = s.nest := rfl
@[simp] theorem State.countPort_hal (s : State) (p k n : Nat) : (s.countPort p k n).hal = s.hal := rfl
@[simp] theorem State.countPort_pwr (s : State) (p k n : Nat) : (s.countPort p k n).pwr = s.pwr := rfl
@[simp] theorem State.countPort_shr (s : State) (p k n : Nat) : (s.countPort p k n).shr = s.shr := rfl
@[simp] theorem State.countPort_pin (s : State) (p k n : Nat) : (s.countPort p k n).pin = s.pin := rfl
@[simp] theorem State.countPort_nvm (s : State) (p k n : Nat) : (s.countPort p k n).nvm = s.nvm := rfl
@[simp] theorem State.countPort_mgt (s : State) (p k n : Nat) : (s.countPort p k n).mgt = s.mgt := rfl

/-! ### emit -/

@[simp] theorem State.emit_pending (s : State) (o : Output) : (s.emit o).pending = s.pending := rfl
@[simp] theorem State.emit_free (s : State) (o : Output) : (s.emit o).free = s.free := rfl
@[simp] theorem State.emit_regs (s : State) (o : Output) : (s.emit o).regs = s.regs := rfl
@[simp] theorem State.emit_live (s : State) (o : Output) : (s.emit o).live = s.live := rfl
@[simp] theorem State.emit_paced (s : State) (o : Output) : (s.emit o).paced = s.paced := rfl
@[simp] theorem State.emit_cmds (s : State) (o : Output) : (s.emit o).cmds = s.cmds := rfl
@[simp] theorem State.emit_glb (s : State) (o : Output) : (s.emit o).glb = s.glb := rfl
@[simp] theorem State.emit_beat (s : State) (o : Output) : (s.emit o).beat = s.beat := rfl
@[simp] theorem State.emit_time (s : State) (o : Output) : (s.emit o).time = s.time := rfl
@[simp] theorem State.emit_ev (s : State) (o : Output) : (s.emit o).ev = s.ev := rfl
@[simp] theorem State.emit_hif (s : State) (o : Output) : (s.emit o).hif = s.hif := rfl
@[simp] theorem State.emit_fab (s : State) (o : Output) : (s.emit o).fab = s.fab := rfl
@[simp] theorem State.emit_ra (s : State) (o : Output) : (s.emit o).ra = s.ra := rfl
@[simp] theorem State.emit_can (s : State) (o : Output) : (s.emit o).can = s.can := rfl
@[simp] theorem State.emit_reef (s : State) (o : Output) : (s.emit o).reef = s.reef := rfl
@[simp] theorem State.emit_eth (s : State) (o : Output) : (s.emit o).eth = s.eth := rfl
@[simp] theorem State.emit_ser (s : State) (o : Output) : (s.emit o).ser = s.ser := rfl
@[simp] theorem State.emit_ciph (s : State) (o : Output) : (s.emit o).ciph = s.ciph := rfl
@[simp] theorem State.emit_nest (s : State) (o : Output) : (s.emit o).nest = s.nest := rfl
@[simp] theorem State.emit_hal (s : State) (o : Output) : (s.emit o).hal = s.hal := rfl
@[simp] theorem State.emit_pwr (s : State) (o : Output) : (s.emit o).pwr = s.pwr := rfl
@[simp] theorem State.emit_shr (s : State) (o : Output) : (s.emit o).shr = s.shr := rfl
@[simp] theorem State.emit_pin (s : State) (o : Output) : (s.emit o).pin = s.pin := rfl
@[simp] theorem State.emit_nvm (s : State) (o : Output) : (s.emit o).nvm = s.nvm := rfl
@[simp] theorem State.emit_mgt (s : State) (o : Output) : (s.emit o).mgt = s.mgt := rfl

/-! ### begin -/

@[simp] theorem State.begin_pending (s : State) : (s.begin).pending = s.pending := rfl
@[simp] theorem State.begin_free (s : State) : (s.begin).free = s.free := rfl
@[simp] theorem State.begin_regs (s : State) : (s.begin).regs = s.regs := rfl
@[simp] theorem State.begin_live (s : State) : (s.begin).live = s.live := rfl
@[simp] theorem State.begin_paced (s : State) : (s.begin).paced = s.paced := rfl
@[simp] theorem State.begin_cmds (s : State) : (s.begin).cmds = s.cmds := rfl
@[simp] theorem State.begin_glb (s : State) : (s.begin).glb = s.glb := rfl
@[simp] theorem State.begin_beat (s : State) : (s.begin).beat = s.beat := rfl
@[simp] theorem State.begin_time (s : State) : (s.begin).time = s.time := rfl
@[simp] theorem State.begin_hif (s : State) : (s.begin).hif = s.hif := rfl
@[simp] theorem State.begin_fab (s : State) : (s.begin).fab = s.fab := rfl
@[simp] theorem State.begin_ra (s : State) : (s.begin).ra = s.ra := rfl
@[simp] theorem State.begin_can (s : State) : (s.begin).can = s.can := rfl
@[simp] theorem State.begin_reef (s : State) : (s.begin).reef = s.reef := rfl
@[simp] theorem State.begin_eth (s : State) : (s.begin).eth = s.eth := rfl
@[simp] theorem State.begin_ser (s : State) : (s.begin).ser = s.ser := rfl
@[simp] theorem State.begin_ciph (s : State) : (s.begin).ciph = s.ciph := rfl
@[simp] theorem State.begin_nest (s : State) : (s.begin).nest = s.nest := rfl
@[simp] theorem State.begin_hal (s : State) : (s.begin).hal = s.hal := rfl
@[simp] theorem State.begin_pwr (s : State) : (s.begin).pwr = s.pwr := rfl
@[simp] theorem State.begin_shr (s : State) : (s.begin).shr = s.shr := rfl
@[simp] theorem State.begin_pin (s : State) : (s.begin).pin = s.pin := rfl
@[simp] theorem State.begin_nvm (s : State) : (s.begin).nvm = s.nvm := rfl
@[simp] theorem State.begin_mgt (s : State) : (s.begin).mgt = s.mgt := rfl

/-! ### at -/

@[simp] theorem State.at_pending (s : State) (t : Tai) : (s.at t).pending = s.pending := rfl
@[simp] theorem State.at_free (s : State) (t : Tai) : (s.at t).free = s.free := rfl
@[simp] theorem State.at_regs (s : State) (t : Tai) : (s.at t).regs = s.regs := rfl
@[simp] theorem State.at_live (s : State) (t : Tai) : (s.at t).live = s.live := rfl
@[simp] theorem State.at_paced (s : State) (t : Tai) : (s.at t).paced = s.paced := rfl
@[simp] theorem State.at_cmds (s : State) (t : Tai) : (s.at t).cmds = s.cmds := rfl
@[simp] theorem State.at_glb (s : State) (t : Tai) : (s.at t).glb = s.glb := rfl
@[simp] theorem State.at_beat (s : State) (t : Tai) : (s.at t).beat = s.beat := rfl
@[simp] theorem State.at_hif (s : State) (t : Tai) : (s.at t).hif = s.hif := rfl
@[simp] theorem State.at_fab (s : State) (t : Tai) : (s.at t).fab = s.fab := rfl
@[simp] theorem State.at_ra (s : State) (t : Tai) : (s.at t).ra = s.ra := rfl
@[simp] theorem State.at_can (s : State) (t : Tai) : (s.at t).can = s.can := rfl
@[simp] theorem State.at_reef (s : State) (t : Tai) : (s.at t).reef = s.reef := rfl
@[simp] theorem State.at_eth (s : State) (t : Tai) : (s.at t).eth = s.eth := rfl
@[simp] theorem State.at_ser (s : State) (t : Tai) : (s.at t).ser = s.ser := rfl
@[simp] theorem State.at_ciph (s : State) (t : Tai) : (s.at t).ciph = s.ciph := rfl
@[simp] theorem State.at_nest (s : State) (t : Tai) : (s.at t).nest = s.nest := rfl
@[simp] theorem State.at_hal (s : State) (t : Tai) : (s.at t).hal = s.hal := rfl
@[simp] theorem State.at_pwr (s : State) (t : Tai) : (s.at t).pwr = s.pwr := rfl
@[simp] theorem State.at_shr (s : State) (t : Tai) : (s.at t).shr = s.shr := rfl
@[simp] theorem State.at_pin (s : State) (t : Tai) : (s.at t).pin = s.pin := rfl
@[simp] theorem State.at_nvm (s : State) (t : Tai) : (s.at t).nvm = s.nvm := rfl
@[simp] theorem State.at_mgt (s : State) (t : Tai) : (s.at t).mgt = s.mgt := rfl

/-! ### spoke -/

@[simp] theorem State.spoke_pending (s : State) (k : Nat) : (s.spoke k).pending = s.pending := rfl
@[simp] theorem State.spoke_out (s : State) (k : Nat) : (s.spoke k).out = s.out := rfl
@[simp] theorem State.spoke_free (s : State) (k : Nat) : (s.spoke k).free = s.free := rfl
@[simp] theorem State.spoke_regs (s : State) (k : Nat) : (s.spoke k).regs = s.regs := rfl
@[simp] theorem State.spoke_live (s : State) (k : Nat) : (s.spoke k).live = s.live := rfl
@[simp] theorem State.spoke_paced (s : State) (k : Nat) : (s.spoke k).paced = s.paced := rfl
@[simp] theorem State.spoke_cmds (s : State) (k : Nat) : (s.spoke k).cmds = s.cmds := rfl
@[simp] theorem State.spoke_glb (s : State) (k : Nat) : (s.spoke k).glb = s.glb := rfl
@[simp] theorem State.spoke_beat (s : State) (k : Nat) : (s.spoke k).beat = s.beat := rfl
@[simp] theorem State.spoke_time (s : State) (k : Nat) : (s.spoke k).time = s.time := rfl
@[simp] theorem State.spoke_hif (s : State) (k : Nat) : (s.spoke k).hif = s.hif := rfl
@[simp] theorem State.spoke_fab (s : State) (k : Nat) : (s.spoke k).fab = s.fab := rfl
@[simp] theorem State.spoke_ra (s : State) (k : Nat) : (s.spoke k).ra = s.ra := rfl
@[simp] theorem State.spoke_can (s : State) (k : Nat) : (s.spoke k).can = s.can := rfl
@[simp] theorem State.spoke_reef (s : State) (k : Nat) : (s.spoke k).reef = s.reef := rfl
@[simp] theorem State.spoke_eth (s : State) (k : Nat) : (s.spoke k).eth = s.eth := rfl
@[simp] theorem State.spoke_ser (s : State) (k : Nat) : (s.spoke k).ser = s.ser := rfl
@[simp] theorem State.spoke_ciph (s : State) (k : Nat) : (s.spoke k).ciph = s.ciph := rfl
@[simp] theorem State.spoke_nest (s : State) (k : Nat) : (s.spoke k).nest = s.nest := rfl
@[simp] theorem State.spoke_hal (s : State) (k : Nat) : (s.spoke k).hal = s.hal := rfl
@[simp] theorem State.spoke_pwr (s : State) (k : Nat) : (s.spoke k).pwr = s.pwr := rfl
@[simp] theorem State.spoke_shr (s : State) (k : Nat) : (s.spoke k).shr = s.shr := rfl
@[simp] theorem State.spoke_pin (s : State) (k : Nat) : (s.spoke k).pin = s.pin := rfl
@[simp] theorem State.spoke_nvm (s : State) (k : Nat) : (s.spoke k).nvm = s.nvm := rfl
@[simp] theorem State.spoke_mgt (s : State) (k : Nat) : (s.spoke k).mgt = s.mgt := rfl

/-! ### setWord -/

@[simp] theorem State.setWord_pending (s : State) (u : Nat) (w : StateWord) : (s.setWord u w).pending = s.pending := rfl
@[simp] theorem State.setWord_out (s : State) (u : Nat) (w : StateWord) : (s.setWord u w).out = s.out := rfl
@[simp] theorem State.setWord_free (s : State) (u : Nat) (w : StateWord) : (s.setWord u w).free = s.free := rfl
@[simp] theorem State.setWord_regs (s : State) (u : Nat) (w : StateWord) : (s.setWord u w).regs = s.regs := rfl
@[simp] theorem State.setWord_live (s : State) (u : Nat) (w : StateWord) : (s.setWord u w).live = s.live := rfl
@[simp] theorem State.setWord_paced (s : State) (u : Nat) (w : StateWord) : (s.setWord u w).paced = s.paced := rfl
@[simp] theorem State.setWord_cmds (s : State) (u : Nat) (w : StateWord) : (s.setWord u w).cmds = s.cmds := rfl
@[simp] theorem State.setWord_glb (s : State) (u : Nat) (w : StateWord) : (s.setWord u w).glb = s.glb := rfl
@[simp] theorem State.setWord_beat (s : State) (u : Nat) (w : StateWord) : (s.setWord u w).beat = s.beat := rfl
@[simp] theorem State.setWord_time (s : State) (u : Nat) (w : StateWord) : (s.setWord u w).time = s.time := rfl
@[simp] theorem State.setWord_ev (s : State) (u : Nat) (w : StateWord) : (s.setWord u w).ev = s.ev := rfl
@[simp] theorem State.setWord_hif (s : State) (u : Nat) (w : StateWord) : (s.setWord u w).hif = s.hif := rfl
@[simp] theorem State.setWord_fab (s : State) (u : Nat) (w : StateWord) : (s.setWord u w).fab = s.fab := rfl
@[simp] theorem State.setWord_ra (s : State) (u : Nat) (w : StateWord) : (s.setWord u w).ra = s.ra := rfl
@[simp] theorem State.setWord_can (s : State) (u : Nat) (w : StateWord) : (s.setWord u w).can = s.can := rfl
@[simp] theorem State.setWord_reef (s : State) (u : Nat) (w : StateWord) : (s.setWord u w).reef = s.reef := rfl
@[simp] theorem State.setWord_eth (s : State) (u : Nat) (w : StateWord) : (s.setWord u w).eth = s.eth := rfl
@[simp] theorem State.setWord_ser (s : State) (u : Nat) (w : StateWord) : (s.setWord u w).ser = s.ser := rfl
@[simp] theorem State.setWord_ciph (s : State) (u : Nat) (w : StateWord) : (s.setWord u w).ciph = s.ciph := rfl
@[simp] theorem State.setWord_nest (s : State) (u : Nat) (w : StateWord) : (s.setWord u w).nest = s.nest := rfl
@[simp] theorem State.setWord_hal (s : State) (u : Nat) (w : StateWord) : (s.setWord u w).hal = s.hal := rfl
@[simp] theorem State.setWord_pwr (s : State) (u : Nat) (w : StateWord) : (s.setWord u w).pwr = s.pwr := rfl
@[simp] theorem State.setWord_shr (s : State) (u : Nat) (w : StateWord) : (s.setWord u w).shr = s.shr := rfl
@[simp] theorem State.setWord_pin (s : State) (u : Nat) (w : StateWord) : (s.setWord u w).pin = s.pin := rfl
@[simp] theorem State.setWord_nvm (s : State) (u : Nat) (w : StateWord) : (s.setWord u w).nvm = s.nvm := rfl

/-! ### setTxRing -/

@[simp] theorem State.setTxRing_pending (s : State) (n : Nat) (r : TxRing) : (s.setTxRing n r).pending = s.pending := rfl
@[simp] theorem State.setTxRing_out (s : State) (n : Nat) (r : TxRing) : (s.setTxRing n r).out = s.out := rfl
@[simp] theorem State.setTxRing_free (s : State) (n : Nat) (r : TxRing) : (s.setTxRing n r).free = s.free := rfl
@[simp] theorem State.setTxRing_regs (s : State) (n : Nat) (r : TxRing) : (s.setTxRing n r).regs = s.regs := rfl
@[simp] theorem State.setTxRing_live (s : State) (n : Nat) (r : TxRing) : (s.setTxRing n r).live = s.live := rfl
@[simp] theorem State.setTxRing_paced (s : State) (n : Nat) (r : TxRing) : (s.setTxRing n r).paced = s.paced := rfl
@[simp] theorem State.setTxRing_cmds (s : State) (n : Nat) (r : TxRing) : (s.setTxRing n r).cmds = s.cmds := rfl
@[simp] theorem State.setTxRing_glb (s : State) (n : Nat) (r : TxRing) : (s.setTxRing n r).glb = s.glb := rfl
@[simp] theorem State.setTxRing_beat (s : State) (n : Nat) (r : TxRing) : (s.setTxRing n r).beat = s.beat := rfl
@[simp] theorem State.setTxRing_time (s : State) (n : Nat) (r : TxRing) : (s.setTxRing n r).time = s.time := rfl
@[simp] theorem State.setTxRing_ev (s : State) (n : Nat) (r : TxRing) : (s.setTxRing n r).ev = s.ev := rfl
@[simp] theorem State.setTxRing_fab (s : State) (n : Nat) (r : TxRing) : (s.setTxRing n r).fab = s.fab := rfl
@[simp] theorem State.setTxRing_ra (s : State) (n : Nat) (r : TxRing) : (s.setTxRing n r).ra = s.ra := rfl
@[simp] theorem State.setTxRing_can (s : State) (n : Nat) (r : TxRing) : (s.setTxRing n r).can = s.can := rfl
@[simp] theorem State.setTxRing_reef (s : State) (n : Nat) (r : TxRing) : (s.setTxRing n r).reef = s.reef := rfl
@[simp] theorem State.setTxRing_eth (s : State) (n : Nat) (r : TxRing) : (s.setTxRing n r).eth = s.eth := rfl
@[simp] theorem State.setTxRing_ser (s : State) (n : Nat) (r : TxRing) : (s.setTxRing n r).ser = s.ser := rfl
@[simp] theorem State.setTxRing_ciph (s : State) (n : Nat) (r : TxRing) : (s.setTxRing n r).ciph = s.ciph := rfl
@[simp] theorem State.setTxRing_nest (s : State) (n : Nat) (r : TxRing) : (s.setTxRing n r).nest = s.nest := rfl
@[simp] theorem State.setTxRing_hal (s : State) (n : Nat) (r : TxRing) : (s.setTxRing n r).hal = s.hal := rfl
@[simp] theorem State.setTxRing_pwr (s : State) (n : Nat) (r : TxRing) : (s.setTxRing n r).pwr = s.pwr := rfl
@[simp] theorem State.setTxRing_shr (s : State) (n : Nat) (r : TxRing) : (s.setTxRing n r).shr = s.shr := rfl
@[simp] theorem State.setTxRing_pin (s : State) (n : Nat) (r : TxRing) : (s.setTxRing n r).pin = s.pin := rfl
@[simp] theorem State.setTxRing_nvm (s : State) (n : Nat) (r : TxRing) : (s.setTxRing n r).nvm = s.nvm := rfl
@[simp] theorem State.setTxRing_mgt (s : State) (n : Nat) (r : TxRing) : (s.setTxRing n r).mgt = s.mgt := rfl

/-! ### setRxRing -/

@[simp] theorem State.setRxRing_pending (s : State) (n : Nat) (r : RxRing) : (s.setRxRing n r).pending = s.pending := rfl
@[simp] theorem State.setRxRing_out (s : State) (n : Nat) (r : RxRing) : (s.setRxRing n r).out = s.out := rfl
@[simp] theorem State.setRxRing_free (s : State) (n : Nat) (r : RxRing) : (s.setRxRing n r).free = s.free := rfl
@[simp] theorem State.setRxRing_regs (s : State) (n : Nat) (r : RxRing) : (s.setRxRing n r).regs = s.regs := rfl
@[simp] theorem State.setRxRing_live (s : State) (n : Nat) (r : RxRing) : (s.setRxRing n r).live = s.live := rfl
@[simp] theorem State.setRxRing_paced (s : State) (n : Nat) (r : RxRing) : (s.setRxRing n r).paced = s.paced := rfl
@[simp] theorem State.setRxRing_cmds (s : State) (n : Nat) (r : RxRing) : (s.setRxRing n r).cmds = s.cmds := rfl
@[simp] theorem State.setRxRing_glb (s : State) (n : Nat) (r : RxRing) : (s.setRxRing n r).glb = s.glb := rfl
@[simp] theorem State.setRxRing_beat (s : State) (n : Nat) (r : RxRing) : (s.setRxRing n r).beat = s.beat := rfl
@[simp] theorem State.setRxRing_time (s : State) (n : Nat) (r : RxRing) : (s.setRxRing n r).time = s.time := rfl
@[simp] theorem State.setRxRing_ev (s : State) (n : Nat) (r : RxRing) : (s.setRxRing n r).ev = s.ev := rfl
@[simp] theorem State.setRxRing_fab (s : State) (n : Nat) (r : RxRing) : (s.setRxRing n r).fab = s.fab := rfl
@[simp] theorem State.setRxRing_ra (s : State) (n : Nat) (r : RxRing) : (s.setRxRing n r).ra = s.ra := rfl
@[simp] theorem State.setRxRing_can (s : State) (n : Nat) (r : RxRing) : (s.setRxRing n r).can = s.can := rfl
@[simp] theorem State.setRxRing_reef (s : State) (n : Nat) (r : RxRing) : (s.setRxRing n r).reef = s.reef := rfl
@[simp] theorem State.setRxRing_eth (s : State) (n : Nat) (r : RxRing) : (s.setRxRing n r).eth = s.eth := rfl
@[simp] theorem State.setRxRing_ser (s : State) (n : Nat) (r : RxRing) : (s.setRxRing n r).ser = s.ser := rfl
@[simp] theorem State.setRxRing_ciph (s : State) (n : Nat) (r : RxRing) : (s.setRxRing n r).ciph = s.ciph := rfl
@[simp] theorem State.setRxRing_nest (s : State) (n : Nat) (r : RxRing) : (s.setRxRing n r).nest = s.nest := rfl
@[simp] theorem State.setRxRing_hal (s : State) (n : Nat) (r : RxRing) : (s.setRxRing n r).hal = s.hal := rfl
@[simp] theorem State.setRxRing_pwr (s : State) (n : Nat) (r : RxRing) : (s.setRxRing n r).pwr = s.pwr := rfl
@[simp] theorem State.setRxRing_shr (s : State) (n : Nat) (r : RxRing) : (s.setRxRing n r).shr = s.shr := rfl
@[simp] theorem State.setRxRing_pin (s : State) (n : Nat) (r : RxRing) : (s.setRxRing n r).pin = s.pin := rfl
@[simp] theorem State.setRxRing_nvm (s : State) (n : Nat) (r : RxRing) : (s.setRxRing n r).nvm = s.nvm := rfl
@[simp] theorem State.setRxRing_mgt (s : State) (n : Nat) (r : RxRing) : (s.setRxRing n r).mgt = s.mgt := rfl

/-! ### rxDrop -/

@[simp] theorem State.rxDrop_pending (s : State) (n : Nat) : (s.rxDrop n).pending = s.pending := rfl
@[simp] theorem State.rxDrop_out (s : State) (n : Nat) : (s.rxDrop n).out = s.out := rfl
@[simp] theorem State.rxDrop_free (s : State) (n : Nat) : (s.rxDrop n).free = s.free := rfl
@[simp] theorem State.rxDrop_live (s : State) (n : Nat) : (s.rxDrop n).live = s.live := rfl
@[simp] theorem State.rxDrop_paced (s : State) (n : Nat) : (s.rxDrop n).paced = s.paced := rfl
@[simp] theorem State.rxDrop_cmds (s : State) (n : Nat) : (s.rxDrop n).cmds = s.cmds := rfl
@[simp] theorem State.rxDrop_glb (s : State) (n : Nat) : (s.rxDrop n).glb = s.glb := rfl
@[simp] theorem State.rxDrop_beat (s : State) (n : Nat) : (s.rxDrop n).beat = s.beat := rfl
@[simp] theorem State.rxDrop_time (s : State) (n : Nat) : (s.rxDrop n).time = s.time := rfl
@[simp] theorem State.rxDrop_ev (s : State) (n : Nat) : (s.rxDrop n).ev = s.ev := rfl
@[simp] theorem State.rxDrop_fab (s : State) (n : Nat) : (s.rxDrop n).fab = s.fab := rfl
@[simp] theorem State.rxDrop_ra (s : State) (n : Nat) : (s.rxDrop n).ra = s.ra := rfl
@[simp] theorem State.rxDrop_can (s : State) (n : Nat) : (s.rxDrop n).can = s.can := rfl
@[simp] theorem State.rxDrop_reef (s : State) (n : Nat) : (s.rxDrop n).reef = s.reef := rfl
@[simp] theorem State.rxDrop_eth (s : State) (n : Nat) : (s.rxDrop n).eth = s.eth := rfl
@[simp] theorem State.rxDrop_ser (s : State) (n : Nat) : (s.rxDrop n).ser = s.ser := rfl
@[simp] theorem State.rxDrop_ciph (s : State) (n : Nat) : (s.rxDrop n).ciph = s.ciph := rfl
@[simp] theorem State.rxDrop_nest (s : State) (n : Nat) : (s.rxDrop n).nest = s.nest := rfl
@[simp] theorem State.rxDrop_hal (s : State) (n : Nat) : (s.rxDrop n).hal = s.hal := rfl
@[simp] theorem State.rxDrop_pwr (s : State) (n : Nat) : (s.rxDrop n).pwr = s.pwr := rfl
@[simp] theorem State.rxDrop_shr (s : State) (n : Nat) : (s.rxDrop n).shr = s.shr := rfl
@[simp] theorem State.rxDrop_pin (s : State) (n : Nat) : (s.rxDrop n).pin = s.pin := rfl
@[simp] theorem State.rxDrop_nvm (s : State) (n : Nat) : (s.rxDrop n).nvm = s.nvm := rfl
@[simp] theorem State.rxDrop_mgt (s : State) (n : Nat) : (s.rxDrop n).mgt = s.mgt := rfl

/-! ### setShr -/

@[simp] theorem State.setShr_pending (s : State) (p : Nat) (x : ShrLine) : (s.setShr p x).pending = s.pending := rfl
@[simp] theorem State.setShr_out (s : State) (p : Nat) (x : ShrLine) : (s.setShr p x).out = s.out := rfl
@[simp] theorem State.setShr_free (s : State) (p : Nat) (x : ShrLine) : (s.setShr p x).free = s.free := rfl
@[simp] theorem State.setShr_regs (s : State) (p : Nat) (x : ShrLine) : (s.setShr p x).regs = s.regs := rfl
@[simp] theorem State.setShr_live (s : State) (p : Nat) (x : ShrLine) : (s.setShr p x).live = s.live := rfl
@[simp] theorem State.setShr_paced (s : State) (p : Nat) (x : ShrLine) : (s.setShr p x).paced = s.paced := rfl
@[simp] theorem State.setShr_cmds (s : State) (p : Nat) (x : ShrLine) : (s.setShr p x).cmds = s.cmds := rfl
@[simp] theorem State.setShr_glb (s : State) (p : Nat) (x : ShrLine) : (s.setShr p x).glb = s.glb := rfl
@[simp] theorem State.setShr_beat (s : State) (p : Nat) (x : ShrLine) : (s.setShr p x).beat = s.beat := rfl
@[simp] theorem State.setShr_time (s : State) (p : Nat) (x : ShrLine) : (s.setShr p x).time = s.time := rfl
@[simp] theorem State.setShr_ev (s : State) (p : Nat) (x : ShrLine) : (s.setShr p x).ev = s.ev := rfl
@[simp] theorem State.setShr_hif (s : State) (p : Nat) (x : ShrLine) : (s.setShr p x).hif = s.hif := rfl
@[simp] theorem State.setShr_fab (s : State) (p : Nat) (x : ShrLine) : (s.setShr p x).fab = s.fab := rfl
@[simp] theorem State.setShr_ra (s : State) (p : Nat) (x : ShrLine) : (s.setShr p x).ra = s.ra := rfl
@[simp] theorem State.setShr_can (s : State) (p : Nat) (x : ShrLine) : (s.setShr p x).can = s.can := rfl
@[simp] theorem State.setShr_reef (s : State) (p : Nat) (x : ShrLine) : (s.setShr p x).reef = s.reef := rfl
@[simp] theorem State.setShr_eth (s : State) (p : Nat) (x : ShrLine) : (s.setShr p x).eth = s.eth := rfl
@[simp] theorem State.setShr_ser (s : State) (p : Nat) (x : ShrLine) : (s.setShr p x).ser = s.ser := rfl
@[simp] theorem State.setShr_ciph (s : State) (p : Nat) (x : ShrLine) : (s.setShr p x).ciph = s.ciph := rfl
@[simp] theorem State.setShr_nest (s : State) (p : Nat) (x : ShrLine) : (s.setShr p x).nest = s.nest := rfl
@[simp] theorem State.setShr_hal (s : State) (p : Nat) (x : ShrLine) : (s.setShr p x).hal = s.hal := rfl
@[simp] theorem State.setShr_pwr (s : State) (p : Nat) (x : ShrLine) : (s.setShr p x).pwr = s.pwr := rfl
@[simp] theorem State.setShr_pin (s : State) (p : Nat) (x : ShrLine) : (s.setShr p x).pin = s.pin := rfl
@[simp] theorem State.setShr_nvm (s : State) (p : Nat) (x : ShrLine) : (s.setShr p x).nvm = s.nvm := rfl
@[simp] theorem State.setShr_mgt (s : State) (p : Nat) (x : ShrLine) : (s.setShr p x).mgt = s.mgt := rfl

/-! ### partnerEvidence -/

@[simp] theorem State.partnerEvidence_pending (s : State) : (s.partnerEvidence).pending = s.pending := rfl
@[simp] theorem State.partnerEvidence_out (s : State) : (s.partnerEvidence).out = s.out := rfl
@[simp] theorem State.partnerEvidence_free (s : State) : (s.partnerEvidence).free = s.free := rfl
@[simp] theorem State.partnerEvidence_regs (s : State) : (s.partnerEvidence).regs = s.regs := rfl
@[simp] theorem State.partnerEvidence_live (s : State) : (s.partnerEvidence).live = s.live := rfl
@[simp] theorem State.partnerEvidence_paced (s : State) : (s.partnerEvidence).paced = s.paced := rfl
@[simp] theorem State.partnerEvidence_cmds (s : State) : (s.partnerEvidence).cmds = s.cmds := rfl
@[simp] theorem State.partnerEvidence_glb (s : State) : (s.partnerEvidence).glb = s.glb := rfl
@[simp] theorem State.partnerEvidence_beat (s : State) : (s.partnerEvidence).beat = s.beat := rfl
@[simp] theorem State.partnerEvidence_time (s : State) : (s.partnerEvidence).time = s.time := rfl
@[simp] theorem State.partnerEvidence_ev (s : State) : (s.partnerEvidence).ev = s.ev := rfl
@[simp] theorem State.partnerEvidence_hif (s : State) : (s.partnerEvidence).hif = s.hif := rfl
@[simp] theorem State.partnerEvidence_fab (s : State) : (s.partnerEvidence).fab = s.fab := rfl
@[simp] theorem State.partnerEvidence_ra (s : State) : (s.partnerEvidence).ra = s.ra := rfl
@[simp] theorem State.partnerEvidence_can (s : State) : (s.partnerEvidence).can = s.can := rfl
@[simp] theorem State.partnerEvidence_reef (s : State) : (s.partnerEvidence).reef = s.reef := rfl
@[simp] theorem State.partnerEvidence_eth (s : State) : (s.partnerEvidence).eth = s.eth := rfl
@[simp] theorem State.partnerEvidence_ser (s : State) : (s.partnerEvidence).ser = s.ser := rfl
@[simp] theorem State.partnerEvidence_ciph (s : State) : (s.partnerEvidence).ciph = s.ciph := rfl
@[simp] theorem State.partnerEvidence_nest (s : State) : (s.partnerEvidence).nest = s.nest := rfl
@[simp] theorem State.partnerEvidence_pwr (s : State) : (s.partnerEvidence).pwr = s.pwr := rfl
@[simp] theorem State.partnerEvidence_shr (s : State) : (s.partnerEvidence).shr = s.shr := rfl
@[simp] theorem State.partnerEvidence_pin (s : State) : (s.partnerEvidence).pin = s.pin := rfl
@[simp] theorem State.partnerEvidence_nvm (s : State) : (s.partnerEvidence).nvm = s.nvm := rfl
@[simp] theorem State.partnerEvidence_mgt (s : State) : (s.partnerEvidence).mgt = s.mgt := rfl

/-! ### Events, journal entries and transition messages

Each of these operations touches the registers (the counters of dropped entries), the events, the host interface's ring 63,
the events held through a brace, the journal buffer and the registry, and nothing else. -/

/-! ### toRing -/

@[simp] theorem State.toRing_pending (s : State) (n : Nat) (e : RxEntry) : (s.toRing n e).pending = s.pending := by
  unfold State.toRing; dsimp only; (repeat' split) <;> rfl
@[simp] theorem State.toRing_out (s : State) (n : Nat) (e : RxEntry) : (s.toRing n e).out = s.out := by
  unfold State.toRing; dsimp only; (repeat' split) <;> rfl
@[simp] theorem State.toRing_free (s : State) (n : Nat) (e : RxEntry) : (s.toRing n e).free = s.free := by
  unfold State.toRing; dsimp only; (repeat' split) <;> rfl
@[simp] theorem State.toRing_live (s : State) (n : Nat) (e : RxEntry) : (s.toRing n e).live = s.live := by
  unfold State.toRing; dsimp only; (repeat' split) <;> rfl
@[simp] theorem State.toRing_paced (s : State) (n : Nat) (e : RxEntry) : (s.toRing n e).paced = s.paced := by
  unfold State.toRing; dsimp only; (repeat' split) <;> rfl
@[simp] theorem State.toRing_cmds (s : State) (n : Nat) (e : RxEntry) : (s.toRing n e).cmds = s.cmds := by
  unfold State.toRing; dsimp only; (repeat' split) <;> rfl
@[simp] theorem State.toRing_glb (s : State) (n : Nat) (e : RxEntry) : (s.toRing n e).glb = s.glb := by
  unfold State.toRing; dsimp only; (repeat' split) <;> rfl
@[simp] theorem State.toRing_beat (s : State) (n : Nat) (e : RxEntry) : (s.toRing n e).beat = s.beat := by
  unfold State.toRing; dsimp only; (repeat' split) <;> rfl
@[simp] theorem State.toRing_time (s : State) (n : Nat) (e : RxEntry) : (s.toRing n e).time = s.time := by
  unfold State.toRing; dsimp only; (repeat' split) <;> rfl
@[simp] theorem State.toRing_ev (s : State) (n : Nat) (e : RxEntry) : (s.toRing n e).ev = s.ev := by
  unfold State.toRing; dsimp only; (repeat' split) <;> rfl
@[simp] theorem State.toRing_fab (s : State) (n : Nat) (e : RxEntry) : (s.toRing n e).fab = s.fab := by
  unfold State.toRing; dsimp only; (repeat' split) <;> rfl
@[simp] theorem State.toRing_ra (s : State) (n : Nat) (e : RxEntry) : (s.toRing n e).ra = s.ra := by
  unfold State.toRing; dsimp only; (repeat' split) <;> rfl
@[simp] theorem State.toRing_can (s : State) (n : Nat) (e : RxEntry) : (s.toRing n e).can = s.can := by
  unfold State.toRing; dsimp only; (repeat' split) <;> rfl
@[simp] theorem State.toRing_reef (s : State) (n : Nat) (e : RxEntry) : (s.toRing n e).reef = s.reef := by
  unfold State.toRing; dsimp only; (repeat' split) <;> rfl
@[simp] theorem State.toRing_eth (s : State) (n : Nat) (e : RxEntry) : (s.toRing n e).eth = s.eth := by
  unfold State.toRing; dsimp only; (repeat' split) <;> rfl
@[simp] theorem State.toRing_ser (s : State) (n : Nat) (e : RxEntry) : (s.toRing n e).ser = s.ser := by
  unfold State.toRing; dsimp only; (repeat' split) <;> rfl
@[simp] theorem State.toRing_ciph (s : State) (n : Nat) (e : RxEntry) : (s.toRing n e).ciph = s.ciph := by
  unfold State.toRing; dsimp only; (repeat' split) <;> rfl
@[simp] theorem State.toRing_nest (s : State) (n : Nat) (e : RxEntry) : (s.toRing n e).nest = s.nest := by
  unfold State.toRing; dsimp only; (repeat' split) <;> rfl
@[simp] theorem State.toRing_hal (s : State) (n : Nat) (e : RxEntry) : (s.toRing n e).hal = s.hal := by
  unfold State.toRing; dsimp only; (repeat' split) <;> rfl
@[simp] theorem State.toRing_pwr (s : State) (n : Nat) (e : RxEntry) : (s.toRing n e).pwr = s.pwr := by
  unfold State.toRing; dsimp only; (repeat' split) <;> rfl
@[simp] theorem State.toRing_shr (s : State) (n : Nat) (e : RxEntry) : (s.toRing n e).shr = s.shr := by
  unfold State.toRing; dsimp only; (repeat' split) <;> rfl
@[simp] theorem State.toRing_pin (s : State) (n : Nat) (e : RxEntry) : (s.toRing n e).pin = s.pin := by
  unfold State.toRing; dsimp only; (repeat' split) <;> rfl
@[simp] theorem State.toRing_nvm (s : State) (n : Nat) (e : RxEntry) : (s.toRing n e).nvm = s.nvm := by
  unfold State.toRing; dsimp only; (repeat' split) <;> rfl
@[simp] theorem State.toRing_mgt (s : State) (n : Nat) (e : RxEntry) : (s.toRing n e).mgt = s.mgt := by
  unfold State.toRing; dsimp only; (repeat' split) <;> rfl

/-! ### buffer -/

@[simp] theorem State.buffer_pending (s : State) (e : JEntry) : (s.buffer e).pending = s.pending := by
  unfold State.buffer; dsimp only; (repeat' split) <;> rfl
@[simp] theorem State.buffer_out (s : State) (e : JEntry) : (s.buffer e).out = s.out := by
  unfold State.buffer; dsimp only; (repeat' split) <;> rfl
@[simp] theorem State.buffer_free (s : State) (e : JEntry) : (s.buffer e).free = s.free := by
  unfold State.buffer; dsimp only; (repeat' split) <;> rfl
@[simp] theorem State.buffer_live (s : State) (e : JEntry) : (s.buffer e).live = s.live := by
  unfold State.buffer; dsimp only; (repeat' split) <;> rfl
@[simp] theorem State.buffer_paced (s : State) (e : JEntry) : (s.buffer e).paced = s.paced := by
  unfold State.buffer; dsimp only; (repeat' split) <;> rfl
@[simp] theorem State.buffer_cmds (s : State) (e : JEntry) : (s.buffer e).cmds = s.cmds := by
  unfold State.buffer; dsimp only; (repeat' split) <;> rfl
@[simp] theorem State.buffer_glb (s : State) (e : JEntry) : (s.buffer e).glb = s.glb := by
  unfold State.buffer; dsimp only; (repeat' split) <;> rfl
@[simp] theorem State.buffer_beat (s : State) (e : JEntry) : (s.buffer e).beat = s.beat := by
  unfold State.buffer; dsimp only; (repeat' split) <;> rfl
@[simp] theorem State.buffer_time (s : State) (e : JEntry) : (s.buffer e).time = s.time := by
  unfold State.buffer; dsimp only; (repeat' split) <;> rfl
@[simp] theorem State.buffer_ev (s : State) (e : JEntry) : (s.buffer e).ev = s.ev := by
  unfold State.buffer; dsimp only; (repeat' split) <;> rfl
@[simp] theorem State.buffer_hif (s : State) (e : JEntry) : (s.buffer e).hif = s.hif := by
  unfold State.buffer; dsimp only; (repeat' split) <;> rfl
@[simp] theorem State.buffer_fab (s : State) (e : JEntry) : (s.buffer e).fab = s.fab := by
  unfold State.buffer; dsimp only; (repeat' split) <;> rfl
@[simp] theorem State.buffer_ra (s : State) (e : JEntry) : (s.buffer e).ra = s.ra := by
  unfold State.buffer; dsimp only; (repeat' split) <;> rfl
@[simp] theorem State.buffer_can (s : State) (e : JEntry) : (s.buffer e).can = s.can := by
  unfold State.buffer; dsimp only; (repeat' split) <;> rfl
@[simp] theorem State.buffer_reef (s : State) (e : JEntry) : (s.buffer e).reef = s.reef := by
  unfold State.buffer; dsimp only; (repeat' split) <;> rfl
@[simp] theorem State.buffer_eth (s : State) (e : JEntry) : (s.buffer e).eth = s.eth := by
  unfold State.buffer; dsimp only; (repeat' split) <;> rfl
@[simp] theorem State.buffer_ser (s : State) (e : JEntry) : (s.buffer e).ser = s.ser := by
  unfold State.buffer; dsimp only; (repeat' split) <;> rfl
@[simp] theorem State.buffer_ciph (s : State) (e : JEntry) : (s.buffer e).ciph = s.ciph := by
  unfold State.buffer; dsimp only; (repeat' split) <;> rfl
@[simp] theorem State.buffer_nest (s : State) (e : JEntry) : (s.buffer e).nest = s.nest := by
  unfold State.buffer; dsimp only; (repeat' split) <;> rfl
@[simp] theorem State.buffer_hal (s : State) (e : JEntry) : (s.buffer e).hal = s.hal := by
  unfold State.buffer; dsimp only; (repeat' split) <;> rfl
@[simp] theorem State.buffer_pwr (s : State) (e : JEntry) : (s.buffer e).pwr = s.pwr := by
  unfold State.buffer; dsimp only; (repeat' split) <;> rfl
@[simp] theorem State.buffer_shr (s : State) (e : JEntry) : (s.buffer e).shr = s.shr := by
  unfold State.buffer; dsimp only; (repeat' split) <;> rfl
@[simp] theorem State.buffer_pin (s : State) (e : JEntry) : (s.buffer e).pin = s.pin := by
  unfold State.buffer; dsimp only; (repeat' split) <;> rfl
@[simp] theorem State.buffer_mgt (s : State) (e : JEntry) : (s.buffer e).mgt = s.mgt := by
  unfold State.buffer; dsimp only; (repeat' split) <;> rfl

/-! ### spread -/

@[simp] theorem State.spread_pending (s : State) (e : Event) : (s.spread e).pending = s.pending := by
  unfold State.spread; dsimp only; split <;> simp
@[simp] theorem State.spread_out (s : State) (e : Event) : (s.spread e).out = s.out := by
  unfold State.spread; dsimp only; split <;> simp
@[simp] theorem State.spread_free (s : State) (e : Event) : (s.spread e).free = s.free := by
  unfold State.spread; dsimp only; split <;> simp
@[simp] theorem State.spread_live (s : State) (e : Event) : (s.spread e).live = s.live := by
  unfold State.spread; dsimp only; split <;> simp
@[simp] theorem State.spread_paced (s : State) (e : Event) : (s.spread e).paced = s.paced := by
  unfold State.spread; dsimp only; split <;> simp
@[simp] theorem State.spread_cmds (s : State) (e : Event) : (s.spread e).cmds = s.cmds := by
  unfold State.spread; dsimp only; split <;> simp
@[simp] theorem State.spread_glb (s : State) (e : Event) : (s.spread e).glb = s.glb := by
  unfold State.spread; dsimp only; split <;> simp
@[simp] theorem State.spread_beat (s : State) (e : Event) : (s.spread e).beat = s.beat := by
  unfold State.spread; dsimp only; split <;> simp
@[simp] theorem State.spread_time (s : State) (e : Event) : (s.spread e).time = s.time := by
  unfold State.spread; dsimp only; split <;> simp
@[simp] theorem State.spread_ev (s : State) (e : Event) : (s.spread e).ev = s.ev := by
  unfold State.spread; dsimp only; split <;> simp
@[simp] theorem State.spread_fab (s : State) (e : Event) : (s.spread e).fab = s.fab := by
  unfold State.spread; dsimp only; split <;> simp
@[simp] theorem State.spread_ra (s : State) (e : Event) : (s.spread e).ra = s.ra := by
  unfold State.spread; dsimp only; split <;> simp
@[simp] theorem State.spread_can (s : State) (e : Event) : (s.spread e).can = s.can := by
  unfold State.spread; dsimp only; split <;> simp
@[simp] theorem State.spread_reef (s : State) (e : Event) : (s.spread e).reef = s.reef := by
  unfold State.spread; dsimp only; split <;> simp
@[simp] theorem State.spread_eth (s : State) (e : Event) : (s.spread e).eth = s.eth := by
  unfold State.spread; dsimp only; split <;> simp
@[simp] theorem State.spread_ser (s : State) (e : Event) : (s.spread e).ser = s.ser := by
  unfold State.spread; dsimp only; split <;> simp
@[simp] theorem State.spread_ciph (s : State) (e : Event) : (s.spread e).ciph = s.ciph := by
  unfold State.spread; dsimp only; split <;> simp
@[simp] theorem State.spread_nest (s : State) (e : Event) : (s.spread e).nest = s.nest := by
  unfold State.spread; dsimp only; split <;> simp
@[simp] theorem State.spread_hal (s : State) (e : Event) : (s.spread e).hal = s.hal := by
  unfold State.spread; dsimp only; split <;> simp
@[simp] theorem State.spread_pwr (s : State) (e : Event) : (s.spread e).pwr = s.pwr := by
  unfold State.spread; dsimp only; split <;> simp
@[simp] theorem State.spread_shr (s : State) (e : Event) : (s.spread e).shr = s.shr := by
  unfold State.spread; dsimp only; split <;> simp
@[simp] theorem State.spread_pin (s : State) (e : Event) : (s.spread e).pin = s.pin := by
  unfold State.spread; dsimp only; split <;> simp
@[simp] theorem State.spread_mgt (s : State) (e : Event) : (s.spread e).mgt = s.mgt := by
  unfold State.spread; dsimp only; split <;> simp

/-! ### raiseWith -/

@[simp] theorem State.raiseWith_pending (s : State) (p c u : Nat) (d : List Detail) : (s.raiseWith p c u d).pending = s.pending := by
  unfold State.raiseWith; dsimp only; (repeat' split) <;> simp
@[simp] theorem State.raiseWith_out (s : State) (p c u : Nat) (d : List Detail) : (s.raiseWith p c u d).out = s.out := by
  unfold State.raiseWith; dsimp only; (repeat' split) <;> simp
@[simp] theorem State.raiseWith_free (s : State) (p c u : Nat) (d : List Detail) : (s.raiseWith p c u d).free = s.free := by
  unfold State.raiseWith; dsimp only; (repeat' split) <;> simp
@[simp] theorem State.raiseWith_live (s : State) (p c u : Nat) (d : List Detail) : (s.raiseWith p c u d).live = s.live := by
  unfold State.raiseWith; dsimp only; (repeat' split) <;> simp
@[simp] theorem State.raiseWith_paced (s : State) (p c u : Nat) (d : List Detail) : (s.raiseWith p c u d).paced = s.paced := by
  unfold State.raiseWith; dsimp only; (repeat' split) <;> simp
@[simp] theorem State.raiseWith_cmds (s : State) (p c u : Nat) (d : List Detail) : (s.raiseWith p c u d).cmds = s.cmds := by
  unfold State.raiseWith; dsimp only; (repeat' split) <;> simp
@[simp] theorem State.raiseWith_glb (s : State) (p c u : Nat) (d : List Detail) : (s.raiseWith p c u d).glb = s.glb := by
  unfold State.raiseWith; dsimp only; (repeat' split) <;> simp
@[simp] theorem State.raiseWith_beat (s : State) (p c u : Nat) (d : List Detail) : (s.raiseWith p c u d).beat = s.beat := by
  unfold State.raiseWith; dsimp only; (repeat' split) <;> simp
@[simp] theorem State.raiseWith_time (s : State) (p c u : Nat) (d : List Detail) : (s.raiseWith p c u d).time = s.time := by
  unfold State.raiseWith; dsimp only; (repeat' split) <;> simp
@[simp] theorem State.raiseWith_fab (s : State) (p c u : Nat) (d : List Detail) : (s.raiseWith p c u d).fab = s.fab := by
  unfold State.raiseWith; dsimp only; (repeat' split) <;> simp
@[simp] theorem State.raiseWith_ra (s : State) (p c u : Nat) (d : List Detail) : (s.raiseWith p c u d).ra = s.ra := by
  unfold State.raiseWith; dsimp only; (repeat' split) <;> simp
@[simp] theorem State.raiseWith_can (s : State) (p c u : Nat) (d : List Detail) : (s.raiseWith p c u d).can = s.can := by
  unfold State.raiseWith; dsimp only; (repeat' split) <;> simp
@[simp] theorem State.raiseWith_reef (s : State) (p c u : Nat) (d : List Detail) : (s.raiseWith p c u d).reef = s.reef := by
  unfold State.raiseWith; dsimp only; (repeat' split) <;> simp
@[simp] theorem State.raiseWith_eth (s : State) (p c u : Nat) (d : List Detail) : (s.raiseWith p c u d).eth = s.eth := by
  unfold State.raiseWith; dsimp only; (repeat' split) <;> simp
@[simp] theorem State.raiseWith_ser (s : State) (p c u : Nat) (d : List Detail) : (s.raiseWith p c u d).ser = s.ser := by
  unfold State.raiseWith; dsimp only; (repeat' split) <;> simp
@[simp] theorem State.raiseWith_ciph (s : State) (p c u : Nat) (d : List Detail) : (s.raiseWith p c u d).ciph = s.ciph := by
  unfold State.raiseWith; dsimp only; (repeat' split) <;> simp
@[simp] theorem State.raiseWith_nest (s : State) (p c u : Nat) (d : List Detail) : (s.raiseWith p c u d).nest = s.nest := by
  unfold State.raiseWith; dsimp only; (repeat' split) <;> simp
@[simp] theorem State.raiseWith_hal (s : State) (p c u : Nat) (d : List Detail) : (s.raiseWith p c u d).hal = s.hal := by
  unfold State.raiseWith; dsimp only; (repeat' split) <;> simp
@[simp] theorem State.raiseWith_shr (s : State) (p c u : Nat) (d : List Detail) : (s.raiseWith p c u d).shr = s.shr := by
  unfold State.raiseWith; dsimp only; (repeat' split) <;> simp
@[simp] theorem State.raiseWith_pin (s : State) (p c u : Nat) (d : List Detail) : (s.raiseWith p c u d).pin = s.pin := by
  unfold State.raiseWith; dsimp only; (repeat' split) <;> simp
@[simp] theorem State.raiseWith_mgt (s : State) (p c u : Nat) (d : List Detail) : (s.raiseWith p c u d).mgt = s.mgt := by
  unfold State.raiseWith; dsimp only; (repeat' split) <;> simp

/-! ### raise -/

@[simp] theorem State.raise_pending (s : State) (c u : Nat) (d : List Detail) : (s.raise c u d).pending = s.pending := by
  unfold State.raise State.lossCheck; split <;> simp
@[simp] theorem State.raise_out (s : State) (c u : Nat) (d : List Detail) : (s.raise c u d).out = s.out := by
  unfold State.raise State.lossCheck; split <;> simp
@[simp] theorem State.raise_free (s : State) (c u : Nat) (d : List Detail) : (s.raise c u d).free = s.free := by
  unfold State.raise State.lossCheck; split <;> simp
@[simp] theorem State.raise_live (s : State) (c u : Nat) (d : List Detail) : (s.raise c u d).live = s.live := by
  unfold State.raise State.lossCheck; split <;> simp
@[simp] theorem State.raise_paced (s : State) (c u : Nat) (d : List Detail) : (s.raise c u d).paced = s.paced := by
  unfold State.raise State.lossCheck; split <;> simp
@[simp] theorem State.raise_cmds (s : State) (c u : Nat) (d : List Detail) : (s.raise c u d).cmds = s.cmds := by
  unfold State.raise State.lossCheck; split <;> simp
@[simp] theorem State.raise_glb (s : State) (c u : Nat) (d : List Detail) : (s.raise c u d).glb = s.glb := by
  unfold State.raise State.lossCheck; split <;> simp
@[simp] theorem State.raise_beat (s : State) (c u : Nat) (d : List Detail) : (s.raise c u d).beat = s.beat := by
  unfold State.raise State.lossCheck; split <;> simp
@[simp] theorem State.raise_time (s : State) (c u : Nat) (d : List Detail) : (s.raise c u d).time = s.time := by
  unfold State.raise State.lossCheck; split <;> simp
@[simp] theorem State.raise_fab (s : State) (c u : Nat) (d : List Detail) : (s.raise c u d).fab = s.fab := by
  unfold State.raise State.lossCheck; split <;> simp
@[simp] theorem State.raise_ra (s : State) (c u : Nat) (d : List Detail) : (s.raise c u d).ra = s.ra := by
  unfold State.raise State.lossCheck; split <;> simp
@[simp] theorem State.raise_can (s : State) (c u : Nat) (d : List Detail) : (s.raise c u d).can = s.can := by
  unfold State.raise State.lossCheck; split <;> simp
@[simp] theorem State.raise_reef (s : State) (c u : Nat) (d : List Detail) : (s.raise c u d).reef = s.reef := by
  unfold State.raise State.lossCheck; split <;> simp
@[simp] theorem State.raise_eth (s : State) (c u : Nat) (d : List Detail) : (s.raise c u d).eth = s.eth := by
  unfold State.raise State.lossCheck; split <;> simp
@[simp] theorem State.raise_ser (s : State) (c u : Nat) (d : List Detail) : (s.raise c u d).ser = s.ser := by
  unfold State.raise State.lossCheck; split <;> simp
@[simp] theorem State.raise_ciph (s : State) (c u : Nat) (d : List Detail) : (s.raise c u d).ciph = s.ciph := by
  unfold State.raise State.lossCheck; split <;> simp
@[simp] theorem State.raise_nest (s : State) (c u : Nat) (d : List Detail) : (s.raise c u d).nest = s.nest := by
  unfold State.raise State.lossCheck; split <;> simp
@[simp] theorem State.raise_hal (s : State) (c u : Nat) (d : List Detail) : (s.raise c u d).hal = s.hal := by
  unfold State.raise State.lossCheck; split <;> simp
@[simp] theorem State.raise_shr (s : State) (c u : Nat) (d : List Detail) : (s.raise c u d).shr = s.shr := by
  unfold State.raise State.lossCheck; split <;> simp
@[simp] theorem State.raise_pin (s : State) (c u : Nat) (d : List Detail) : (s.raise c u d).pin = s.pin := by
  unfold State.raise State.lossCheck; split <;> simp
@[simp] theorem State.raise_mgt (s : State) (c u : Nat) (d : List Detail) : (s.raise c u d).mgt = s.mgt := by
  unfold State.raise State.lossCheck; split <;> simp

/-! ### raiseOnce -/

@[simp] theorem State.raiseOnce_pending (s : State) (k c u : Nat) (d : List Detail) : (s.raiseOnce k c u d).pending = s.pending := by
  unfold State.raiseOnce; split <;> simp
@[simp] theorem State.raiseOnce_out (s : State) (k c u : Nat) (d : List Detail) : (s.raiseOnce k c u d).out = s.out := by
  unfold State.raiseOnce; split <;> simp
@[simp] theorem State.raiseOnce_free (s : State) (k c u : Nat) (d : List Detail) : (s.raiseOnce k c u d).free = s.free := by
  unfold State.raiseOnce; split <;> simp
@[simp] theorem State.raiseOnce_live (s : State) (k c u : Nat) (d : List Detail) : (s.raiseOnce k c u d).live = s.live := by
  unfold State.raiseOnce; split <;> simp
@[simp] theorem State.raiseOnce_paced (s : State) (k c u : Nat) (d : List Detail) : (s.raiseOnce k c u d).paced = s.paced := by
  unfold State.raiseOnce; split <;> simp
@[simp] theorem State.raiseOnce_cmds (s : State) (k c u : Nat) (d : List Detail) : (s.raiseOnce k c u d).cmds = s.cmds := by
  unfold State.raiseOnce; split <;> simp
@[simp] theorem State.raiseOnce_glb (s : State) (k c u : Nat) (d : List Detail) : (s.raiseOnce k c u d).glb = s.glb := by
  unfold State.raiseOnce; split <;> simp
@[simp] theorem State.raiseOnce_beat (s : State) (k c u : Nat) (d : List Detail) : (s.raiseOnce k c u d).beat = s.beat := by
  unfold State.raiseOnce; split <;> simp
@[simp] theorem State.raiseOnce_time (s : State) (k c u : Nat) (d : List Detail) : (s.raiseOnce k c u d).time = s.time := by
  unfold State.raiseOnce; split <;> simp
@[simp] theorem State.raiseOnce_fab (s : State) (k c u : Nat) (d : List Detail) : (s.raiseOnce k c u d).fab = s.fab := by
  unfold State.raiseOnce; split <;> simp
@[simp] theorem State.raiseOnce_ra (s : State) (k c u : Nat) (d : List Detail) : (s.raiseOnce k c u d).ra = s.ra := by
  unfold State.raiseOnce; split <;> simp
@[simp] theorem State.raiseOnce_can (s : State) (k c u : Nat) (d : List Detail) : (s.raiseOnce k c u d).can = s.can := by
  unfold State.raiseOnce; split <;> simp
@[simp] theorem State.raiseOnce_reef (s : State) (k c u : Nat) (d : List Detail) : (s.raiseOnce k c u d).reef = s.reef := by
  unfold State.raiseOnce; split <;> simp
@[simp] theorem State.raiseOnce_eth (s : State) (k c u : Nat) (d : List Detail) : (s.raiseOnce k c u d).eth = s.eth := by
  unfold State.raiseOnce; split <;> simp
@[simp] theorem State.raiseOnce_ser (s : State) (k c u : Nat) (d : List Detail) : (s.raiseOnce k c u d).ser = s.ser := by
  unfold State.raiseOnce; split <;> simp
@[simp] theorem State.raiseOnce_ciph (s : State) (k c u : Nat) (d : List Detail) : (s.raiseOnce k c u d).ciph = s.ciph := by
  unfold State.raiseOnce; split <;> simp
@[simp] theorem State.raiseOnce_nest (s : State) (k c u : Nat) (d : List Detail) : (s.raiseOnce k c u d).nest = s.nest := by
  unfold State.raiseOnce; split <;> simp
@[simp] theorem State.raiseOnce_hal (s : State) (k c u : Nat) (d : List Detail) : (s.raiseOnce k c u d).hal = s.hal := by
  unfold State.raiseOnce; split <;> simp
@[simp] theorem State.raiseOnce_shr (s : State) (k c u : Nat) (d : List Detail) : (s.raiseOnce k c u d).shr = s.shr := by
  unfold State.raiseOnce; split <;> simp
@[simp] theorem State.raiseOnce_pin (s : State) (k c u : Nat) (d : List Detail) : (s.raiseOnce k c u d).pin = s.pin := by
  unfold State.raiseOnce; split <;> simp
@[simp] theorem State.raiseOnce_mgt (s : State) (k c u : Nat) (d : List Detail) : (s.raiseOnce k c u d).mgt = s.mgt := by
  unfold State.raiseOnce; split <;> simp

/-! ### log -/

@[simp] theorem State.log_pending (s : State) (n : Nat) (b : Bytes) : (s.log n b).pending = s.pending := by
  unfold State.log State.lossCheck; split <;> simp
@[simp] theorem State.log_out (s : State) (n : Nat) (b : Bytes) : (s.log n b).out = s.out := by
  unfold State.log State.lossCheck; split <;> simp
@[simp] theorem State.log_free (s : State) (n : Nat) (b : Bytes) : (s.log n b).free = s.free := by
  unfold State.log State.lossCheck; split <;> simp
@[simp] theorem State.log_live (s : State) (n : Nat) (b : Bytes) : (s.log n b).live = s.live := by
  unfold State.log State.lossCheck; split <;> simp
@[simp] theorem State.log_paced (s : State) (n : Nat) (b : Bytes) : (s.log n b).paced = s.paced := by
  unfold State.log State.lossCheck; split <;> simp
@[simp] theorem State.log_cmds (s : State) (n : Nat) (b : Bytes) : (s.log n b).cmds = s.cmds := by
  unfold State.log State.lossCheck; split <;> simp
@[simp] theorem State.log_glb (s : State) (n : Nat) (b : Bytes) : (s.log n b).glb = s.glb := by
  unfold State.log State.lossCheck; split <;> simp
@[simp] theorem State.log_beat (s : State) (n : Nat) (b : Bytes) : (s.log n b).beat = s.beat := by
  unfold State.log State.lossCheck; split <;> simp
@[simp] theorem State.log_time (s : State) (n : Nat) (b : Bytes) : (s.log n b).time = s.time := by
  unfold State.log State.lossCheck; split <;> simp
@[simp] theorem State.log_fab (s : State) (n : Nat) (b : Bytes) : (s.log n b).fab = s.fab := by
  unfold State.log State.lossCheck; split <;> simp
@[simp] theorem State.log_ra (s : State) (n : Nat) (b : Bytes) : (s.log n b).ra = s.ra := by
  unfold State.log State.lossCheck; split <;> simp
@[simp] theorem State.log_can (s : State) (n : Nat) (b : Bytes) : (s.log n b).can = s.can := by
  unfold State.log State.lossCheck; split <;> simp
@[simp] theorem State.log_reef (s : State) (n : Nat) (b : Bytes) : (s.log n b).reef = s.reef := by
  unfold State.log State.lossCheck; split <;> simp
@[simp] theorem State.log_eth (s : State) (n : Nat) (b : Bytes) : (s.log n b).eth = s.eth := by
  unfold State.log State.lossCheck; split <;> simp
@[simp] theorem State.log_ser (s : State) (n : Nat) (b : Bytes) : (s.log n b).ser = s.ser := by
  unfold State.log State.lossCheck; split <;> simp
@[simp] theorem State.log_ciph (s : State) (n : Nat) (b : Bytes) : (s.log n b).ciph = s.ciph := by
  unfold State.log State.lossCheck; split <;> simp
@[simp] theorem State.log_nest (s : State) (n : Nat) (b : Bytes) : (s.log n b).nest = s.nest := by
  unfold State.log State.lossCheck; split <;> simp
@[simp] theorem State.log_hal (s : State) (n : Nat) (b : Bytes) : (s.log n b).hal = s.hal := by
  unfold State.log State.lossCheck; split <;> simp
@[simp] theorem State.log_shr (s : State) (n : Nat) (b : Bytes) : (s.log n b).shr = s.shr := by
  unfold State.log State.lossCheck; split <;> simp
@[simp] theorem State.log_pin (s : State) (n : Nat) (b : Bytes) : (s.log n b).pin = s.pin := by
  unfold State.log State.lossCheck; split <;> simp
@[simp] theorem State.log_mgt (s : State) (n : Nat) (b : Bytes) : (s.log n b).mgt = s.mgt := by
  unfold State.log State.lossCheck; split <;> simp

/-! ### message -/

@[simp] theorem State.message_pending (s : State) (u c : Nat) (l : Bool) : (s.message u c l).pending = s.pending := by
  unfold State.message; split <;> simp
@[simp] theorem State.message_out (s : State) (u c : Nat) (l : Bool) : (s.message u c l).out = s.out := by
  unfold State.message; split <;> simp
@[simp] theorem State.message_free (s : State) (u c : Nat) (l : Bool) : (s.message u c l).free = s.free := by
  unfold State.message; split <;> simp
@[simp] theorem State.message_live (s : State) (u c : Nat) (l : Bool) : (s.message u c l).live = s.live := by
  unfold State.message; split <;> simp
@[simp] theorem State.message_paced (s : State) (u c : Nat) (l : Bool) : (s.message u c l).paced = s.paced := by
  unfold State.message; split <;> simp
@[simp] theorem State.message_cmds (s : State) (u c : Nat) (l : Bool) : (s.message u c l).cmds = s.cmds := by
  unfold State.message; split <;> simp
@[simp] theorem State.message_glb (s : State) (u c : Nat) (l : Bool) : (s.message u c l).glb = s.glb := by
  unfold State.message; split <;> simp
@[simp] theorem State.message_beat (s : State) (u c : Nat) (l : Bool) : (s.message u c l).beat = s.beat := by
  unfold State.message; split <;> simp
@[simp] theorem State.message_time (s : State) (u c : Nat) (l : Bool) : (s.message u c l).time = s.time := by
  unfold State.message; split <;> simp
@[simp] theorem State.message_fab (s : State) (u c : Nat) (l : Bool) : (s.message u c l).fab = s.fab := by
  unfold State.message; split <;> simp
@[simp] theorem State.message_ra (s : State) (u c : Nat) (l : Bool) : (s.message u c l).ra = s.ra := by
  unfold State.message; split <;> simp
@[simp] theorem State.message_can (s : State) (u c : Nat) (l : Bool) : (s.message u c l).can = s.can := by
  unfold State.message; split <;> simp
@[simp] theorem State.message_reef (s : State) (u c : Nat) (l : Bool) : (s.message u c l).reef = s.reef := by
  unfold State.message; split <;> simp
@[simp] theorem State.message_eth (s : State) (u c : Nat) (l : Bool) : (s.message u c l).eth = s.eth := by
  unfold State.message; split <;> simp
@[simp] theorem State.message_ser (s : State) (u c : Nat) (l : Bool) : (s.message u c l).ser = s.ser := by
  unfold State.message; split <;> simp
@[simp] theorem State.message_ciph (s : State) (u c : Nat) (l : Bool) : (s.message u c l).ciph = s.ciph := by
  unfold State.message; split <;> simp
@[simp] theorem State.message_nest (s : State) (u c : Nat) (l : Bool) : (s.message u c l).nest = s.nest := by
  unfold State.message; split <;> simp
@[simp] theorem State.message_hal (s : State) (u c : Nat) (l : Bool) : (s.message u c l).hal = s.hal := by
  unfold State.message; split <;> simp
@[simp] theorem State.message_shr (s : State) (u c : Nat) (l : Bool) : (s.message u c l).shr = s.shr := by
  unfold State.message; split <;> simp
@[simp] theorem State.message_pin (s : State) (u c : Nat) (l : Bool) : (s.message u c l).pin = s.pin := by
  unfold State.message; split <;> simp

/-! ### observe -/

@[simp] theorem State.observe_pending (s : State) (u : Nat) : (s.observe u).pending = s.pending := by
  unfold State.observe; split <;> rfl
@[simp] theorem State.observe_out (s : State) (u : Nat) : (s.observe u).out = s.out := by
  unfold State.observe; split <;> rfl
@[simp] theorem State.observe_free (s : State) (u : Nat) : (s.observe u).free = s.free := by
  unfold State.observe; split <;> rfl
@[simp] theorem State.observe_regs (s : State) (u : Nat) : (s.observe u).regs = s.regs := by
  unfold State.observe; split <;> rfl
@[simp] theorem State.observe_live (s : State) (u : Nat) : (s.observe u).live = s.live := by
  unfold State.observe; split <;> rfl
@[simp] theorem State.observe_paced (s : State) (u : Nat) : (s.observe u).paced = s.paced := by
  unfold State.observe; split <;> rfl
@[simp] theorem State.observe_cmds (s : State) (u : Nat) : (s.observe u).cmds = s.cmds := by
  unfold State.observe; split <;> rfl
@[simp] theorem State.observe_glb (s : State) (u : Nat) : (s.observe u).glb = s.glb := by
  unfold State.observe; split <;> rfl
@[simp] theorem State.observe_beat (s : State) (u : Nat) : (s.observe u).beat = s.beat := by
  unfold State.observe; split <;> rfl
@[simp] theorem State.observe_time (s : State) (u : Nat) : (s.observe u).time = s.time := by
  unfold State.observe; split <;> rfl
@[simp] theorem State.observe_ev (s : State) (u : Nat) : (s.observe u).ev = s.ev := by
  unfold State.observe; split <;> rfl
@[simp] theorem State.observe_hif (s : State) (u : Nat) : (s.observe u).hif = s.hif := by
  unfold State.observe; split <;> rfl
@[simp] theorem State.observe_fab (s : State) (u : Nat) : (s.observe u).fab = s.fab := by
  unfold State.observe; split <;> rfl
@[simp] theorem State.observe_ra (s : State) (u : Nat) : (s.observe u).ra = s.ra := by
  unfold State.observe; split <;> rfl
@[simp] theorem State.observe_can (s : State) (u : Nat) : (s.observe u).can = s.can := by
  unfold State.observe; split <;> rfl
@[simp] theorem State.observe_reef (s : State) (u : Nat) : (s.observe u).reef = s.reef := by
  unfold State.observe; split <;> rfl
@[simp] theorem State.observe_eth (s : State) (u : Nat) : (s.observe u).eth = s.eth := by
  unfold State.observe; split <;> rfl
@[simp] theorem State.observe_ser (s : State) (u : Nat) : (s.observe u).ser = s.ser := by
  unfold State.observe; split <;> rfl
@[simp] theorem State.observe_ciph (s : State) (u : Nat) : (s.observe u).ciph = s.ciph := by
  unfold State.observe; split <;> rfl
@[simp] theorem State.observe_nest (s : State) (u : Nat) : (s.observe u).nest = s.nest := by
  unfold State.observe; split <;> rfl
@[simp] theorem State.observe_hal (s : State) (u : Nat) : (s.observe u).hal = s.hal := by
  unfold State.observe; split <;> rfl
@[simp] theorem State.observe_pwr (s : State) (u : Nat) : (s.observe u).pwr = s.pwr := by
  unfold State.observe; split <;> rfl
@[simp] theorem State.observe_shr (s : State) (u : Nat) : (s.observe u).shr = s.shr := by
  unfold State.observe; split <;> rfl
@[simp] theorem State.observe_pin (s : State) (u : Nat) : (s.observe u).pin = s.pin := by
  unfold State.observe; split <;> rfl
@[simp] theorem State.observe_nvm (s : State) (u : Nat) : (s.observe u).nvm = s.nvm := by
  unfold State.observe; split <;> rfl

/-! ### observePort -/

@[simp] theorem State.observePort_pending (s : State) (p : Nat) : (s.observePort p).pending = s.pending := by
  simp [State.observePort]
@[simp] theorem State.observePort_out (s : State) (p : Nat) : (s.observePort p).out = s.out := by
  simp [State.observePort]
@[simp] theorem State.observePort_free (s : State) (p : Nat) : (s.observePort p).free = s.free := by
  simp [State.observePort]
@[simp] theorem State.observePort_regs (s : State) (p : Nat) : (s.observePort p).regs = s.regs := by
  simp [State.observePort]
@[simp] theorem State.observePort_live (s : State) (p : Nat) : (s.observePort p).live = s.live := by
  simp [State.observePort]
@[simp] theorem State.observePort_paced (s : State) (p : Nat) : (s.observePort p).paced = s.paced := by
  simp [State.observePort]
@[simp] theorem State.observePort_cmds (s : State) (p : Nat) : (s.observePort p).cmds = s.cmds := by
  simp [State.observePort]
@[simp] theorem State.observePort_glb (s : State) (p : Nat) : (s.observePort p).glb = s.glb := by
  simp [State.observePort]
@[simp] theorem State.observePort_beat (s : State) (p : Nat) : (s.observePort p).beat = s.beat := by
  simp [State.observePort]
@[simp] theorem State.observePort_time (s : State) (p : Nat) : (s.observePort p).time = s.time := by
  simp [State.observePort]
@[simp] theorem State.observePort_ev (s : State) (p : Nat) : (s.observePort p).ev = s.ev := by
  simp [State.observePort]
@[simp] theorem State.observePort_hif (s : State) (p : Nat) : (s.observePort p).hif = s.hif := by
  simp [State.observePort]
@[simp] theorem State.observePort_fab (s : State) (p : Nat) : (s.observePort p).fab = s.fab := by
  simp [State.observePort]
@[simp] theorem State.observePort_ra (s : State) (p : Nat) : (s.observePort p).ra = s.ra := by
  simp [State.observePort]
@[simp] theorem State.observePort_can (s : State) (p : Nat) : (s.observePort p).can = s.can := by
  simp [State.observePort]
@[simp] theorem State.observePort_reef (s : State) (p : Nat) : (s.observePort p).reef = s.reef := by
  simp [State.observePort]
@[simp] theorem State.observePort_eth (s : State) (p : Nat) : (s.observePort p).eth = s.eth := by
  simp [State.observePort]
@[simp] theorem State.observePort_ser (s : State) (p : Nat) : (s.observePort p).ser = s.ser := by
  simp [State.observePort]
@[simp] theorem State.observePort_ciph (s : State) (p : Nat) : (s.observePort p).ciph = s.ciph := by
  simp [State.observePort]
@[simp] theorem State.observePort_nest (s : State) (p : Nat) : (s.observePort p).nest = s.nest := by
  simp [State.observePort]
@[simp] theorem State.observePort_hal (s : State) (p : Nat) : (s.observePort p).hal = s.hal := by
  simp [State.observePort]
@[simp] theorem State.observePort_pwr (s : State) (p : Nat) : (s.observePort p).pwr = s.pwr := by
  simp [State.observePort]
@[simp] theorem State.observePort_shr (s : State) (p : Nat) : (s.observePort p).shr = s.shr := by
  simp [State.observePort]
@[simp] theorem State.observePort_pin (s : State) (p : Nat) : (s.observePort p).pin = s.pin := by
  simp [State.observePort]
@[simp] theorem State.observePort_nvm (s : State) (p : Nat) : (s.observePort p).nvm = s.nvm := by
  simp [State.observePort]

/-! ### cfgReject -/

@[simp] theorem State.cfgReject_pending (s : State) (f : Fld) (c u : Nat) : (s.cfgReject f c u).pending = s.pending := by
  simp [State.cfgReject]
@[simp] theorem State.cfgReject_out (s : State) (f : Fld) (c u : Nat) : (s.cfgReject f c u).out = s.out := by
  simp [State.cfgReject]
@[simp] theorem State.cfgReject_free (s : State) (f : Fld) (c u : Nat) : (s.cfgReject f c u).free = s.free := by
  simp [State.cfgReject]
@[simp] theorem State.cfgReject_live (s : State) (f : Fld) (c u : Nat) : (s.cfgReject f c u).live = s.live := by
  simp [State.cfgReject]
@[simp] theorem State.cfgReject_paced (s : State) (f : Fld) (c u : Nat) : (s.cfgReject f c u).paced = s.paced := by
  simp [State.cfgReject]
@[simp] theorem State.cfgReject_cmds (s : State) (f : Fld) (c u : Nat) : (s.cfgReject f c u).cmds = s.cmds := by
  simp [State.cfgReject]
@[simp] theorem State.cfgReject_glb (s : State) (f : Fld) (c u : Nat) : (s.cfgReject f c u).glb = s.glb := by
  simp [State.cfgReject]
@[simp] theorem State.cfgReject_beat (s : State) (f : Fld) (c u : Nat) : (s.cfgReject f c u).beat = s.beat := by
  simp [State.cfgReject]
@[simp] theorem State.cfgReject_time (s : State) (f : Fld) (c u : Nat) : (s.cfgReject f c u).time = s.time := by
  simp [State.cfgReject]
@[simp] theorem State.cfgReject_fab (s : State) (f : Fld) (c u : Nat) : (s.cfgReject f c u).fab = s.fab := by
  simp [State.cfgReject]
@[simp] theorem State.cfgReject_ra (s : State) (f : Fld) (c u : Nat) : (s.cfgReject f c u).ra = s.ra := by
  simp [State.cfgReject]
@[simp] theorem State.cfgReject_can (s : State) (f : Fld) (c u : Nat) : (s.cfgReject f c u).can = s.can := by
  simp [State.cfgReject]
@[simp] theorem State.cfgReject_reef (s : State) (f : Fld) (c u : Nat) : (s.cfgReject f c u).reef = s.reef := by
  simp [State.cfgReject]
@[simp] theorem State.cfgReject_eth (s : State) (f : Fld) (c u : Nat) : (s.cfgReject f c u).eth = s.eth := by
  simp [State.cfgReject]
@[simp] theorem State.cfgReject_ser (s : State) (f : Fld) (c u : Nat) : (s.cfgReject f c u).ser = s.ser := by
  simp [State.cfgReject]
@[simp] theorem State.cfgReject_ciph (s : State) (f : Fld) (c u : Nat) : (s.cfgReject f c u).ciph = s.ciph := by
  simp [State.cfgReject]
@[simp] theorem State.cfgReject_nest (s : State) (f : Fld) (c u : Nat) : (s.cfgReject f c u).nest = s.nest := by
  simp [State.cfgReject]
@[simp] theorem State.cfgReject_hal (s : State) (f : Fld) (c u : Nat) : (s.cfgReject f c u).hal = s.hal := by
  simp [State.cfgReject]
@[simp] theorem State.cfgReject_shr (s : State) (f : Fld) (c u : Nat) : (s.cfgReject f c u).shr = s.shr := by
  simp [State.cfgReject]
@[simp] theorem State.cfgReject_pin (s : State) (f : Fld) (c u : Nat) : (s.cfgReject f c u).pin = s.pin := by
  simp [State.cfgReject]
@[simp] theorem State.cfgReject_mgt (s : State) (f : Fld) (c u : Nat) : (s.cfgReject f c u).mgt = s.mgt := by
  simp [State.cfgReject]

/-! ### halSend -/

@[simp] theorem State.halSend_pending (s : State) (n : Nat) (i : Bool) (p : Bytes) : (s.halSend n i p).pending = s.pending := by
  rfl
@[simp] theorem State.halSend_free (s : State) (n : Nat) (i : Bool) (p : Bytes) : (s.halSend n i p).free = s.free := by
  rfl
@[simp] theorem State.halSend_regs (s : State) (n : Nat) (i : Bool) (p : Bytes) : (s.halSend n i p).regs = s.regs := by
  rfl
@[simp] theorem State.halSend_live (s : State) (n : Nat) (i : Bool) (p : Bytes) : (s.halSend n i p).live = s.live := by
  rfl
@[simp] theorem State.halSend_paced (s : State) (n : Nat) (i : Bool) (p : Bytes) : (s.halSend n i p).paced = s.paced := by
  rfl
@[simp] theorem State.halSend_cmds (s : State) (n : Nat) (i : Bool) (p : Bytes) : (s.halSend n i p).cmds = s.cmds := by
  rfl
@[simp] theorem State.halSend_glb (s : State) (n : Nat) (i : Bool) (p : Bytes) : (s.halSend n i p).glb = s.glb := by
  rfl
@[simp] theorem State.halSend_beat (s : State) (n : Nat) (i : Bool) (p : Bytes) : (s.halSend n i p).beat = s.beat := by
  rfl
@[simp] theorem State.halSend_time (s : State) (n : Nat) (i : Bool) (p : Bytes) : (s.halSend n i p).time = s.time := by
  rfl
@[simp] theorem State.halSend_ev (s : State) (n : Nat) (i : Bool) (p : Bytes) : (s.halSend n i p).ev = s.ev := by
  rfl
@[simp] theorem State.halSend_hif (s : State) (n : Nat) (i : Bool) (p : Bytes) : (s.halSend n i p).hif = s.hif := by
  rfl
@[simp] theorem State.halSend_fab (s : State) (n : Nat) (i : Bool) (p : Bytes) : (s.halSend n i p).fab = s.fab := by
  rfl
@[simp] theorem State.halSend_ra (s : State) (n : Nat) (i : Bool) (p : Bytes) : (s.halSend n i p).ra = s.ra := by
  rfl
@[simp] theorem State.halSend_can (s : State) (n : Nat) (i : Bool) (p : Bytes) : (s.halSend n i p).can = s.can := by
  rfl
@[simp] theorem State.halSend_reef (s : State) (n : Nat) (i : Bool) (p : Bytes) : (s.halSend n i p).reef = s.reef := by
  rfl
@[simp] theorem State.halSend_eth (s : State) (n : Nat) (i : Bool) (p : Bytes) : (s.halSend n i p).eth = s.eth := by
  rfl
@[simp] theorem State.halSend_ser (s : State) (n : Nat) (i : Bool) (p : Bytes) : (s.halSend n i p).ser = s.ser := by
  rfl
@[simp] theorem State.halSend_ciph (s : State) (n : Nat) (i : Bool) (p : Bytes) : (s.halSend n i p).ciph = s.ciph := by
  rfl
@[simp] theorem State.halSend_nest (s : State) (n : Nat) (i : Bool) (p : Bytes) : (s.halSend n i p).nest = s.nest := by
  rfl
@[simp] theorem State.halSend_pwr (s : State) (n : Nat) (i : Bool) (p : Bytes) : (s.halSend n i p).pwr = s.pwr := by
  rfl
@[simp] theorem State.halSend_shr (s : State) (n : Nat) (i : Bool) (p : Bytes) : (s.halSend n i p).shr = s.shr := by
  rfl
@[simp] theorem State.halSend_pin (s : State) (n : Nat) (i : Bool) (p : Bytes) : (s.halSend n i p).pin = s.pin := by
  rfl
@[simp] theorem State.halSend_nvm (s : State) (n : Nat) (i : Bool) (p : Bytes) : (s.halSend n i p).nvm = s.nvm := by
  rfl
@[simp] theorem State.halSend_mgt (s : State) (n : Nat) (i : Bool) (p : Bytes) : (s.halSend n i p).mgt = s.mgt := by
  rfl

end Sys2Proof.Machine
end

