-- ==== Sys2Proof/Laws/Registers.lean ====
section
/-! SUPPORT. Sparse maps, bit fields and the register file: what a read gives after a write. -/

namespace Sys2Proof.Machine

/-! ### Sparse maps -/

theorem SMap.get_put {α : Type} (d : α) (m : List (Nat × α)) (x y : Nat) (v : α) :
    SMap.get d (SMap.put m x v) y = if y = x then v else SMap.get d m y := by
  induction m with
  | nil => simp [SMap.put, SMap.get]
  | cons e m ih =>
    obtain ⟨k, w⟩ := e
    simp only [SMap.put]
    split
    · subst_vars; simp only [SMap.get]; split <;> rfl
    · split
      · simp only [SMap.get]
      · simp only [SMap.get, ih]; split <;> split <;> simp_all

theorem SMap.get_del {α : Type} (d : α) (m : List (Nat × α)) (x y : Nat) :
    SMap.get d (SMap.del m x) y = if y = x then d else SMap.get d m y := by
  unfold SMap.del
  induction m with
  | nil => simp [SMap.get]
  | cons e m ih =>
    obtain ⟨k, w⟩ := e
    by_cases h : k = x
    · subst h
      simp only [List.filter, bne_self_eq_false, SMap.get, ih]
      split <;> rfl
    · have hb : (k != x) = true := by simpa using h
      simp only [List.filter, hb, SMap.get, ih]
      split <;> split <;> simp_all

theorem SMap.get_set {α : Type} [DecidableEq α] (d : α) (m : List (Nat × α)) (x y : Nat) (v : α) :
    SMap.get d (SMap.set d m x v) y = if y = x then v else SMap.get d m y := by
  unfold SMap.set
  split
  · rw [SMap.get_del]; simp_all
  · rw [SMap.get_put]

theorem SMap.find_get {α : Type} (d : α) (m : List (Nat × α)) (x : Nat) :
    SMap.get d m x = ((m.find? fun e => e.1 == x).map Prod.snd).getD d := by
  induction m with
  | nil => rfl
  | cons e m ih =>
    obtain ⟨k, w⟩ := e
    by_cases h : k = x
    · simp [List.find?, SMap.get, h]
    · have hb : (k == x) = false := by simpa using h
      simp only [List.find?, hb, SMap.get, if_neg (fun g : x = k => h g.symm), ih]

/-- Every key of a canonical map is at least its first. -/
theorem SMap.rising_tail {α : Type} (e : Nat × α) (m : List (Nat × α)) (h : SMap.rising (e :: m) = true) :
    SMap.rising m = true ∧ ∀ f ∈ m, e.1 < f.1 := by
  induction m generalizing e with
  | nil => simp [SMap.rising]
  | cons f m ih =>
    obtain ⟨k, v⟩ := e
    obtain ⟨l, w⟩ := f
    simp only [SMap.rising, Bool.and_eq_true, decide_eq_true_eq] at h
    refine ⟨h.2, fun g hg => ?_⟩
    rcases List.mem_cons.1 hg with rfl | hg
    · exact h.1
    · exact Nat.lt_trans h.1 ((ih (l, w) h.2).2 g hg)

/-- A map whose first key is below all others is canonical when its tail is. -/
theorem SMap.rising_cons {α : Type} (e : Nat × α) (m : List (Nat × α)) (h : SMap.rising m = true)
    (hlt : ∀ f ∈ m, e.1 < f.1) : SMap.rising (e :: m) = true := by
  cases m with
  | nil => rfl
  | cons f m =>
    obtain ⟨k, v⟩ := e
    obtain ⟨l, w⟩ := f
    simp only [SMap.rising, Bool.and_eq_true, decide_eq_true_eq]
    exact ⟨hlt (l, w) (List.mem_cons_self ..), h⟩

theorem SMap.mem_put {α : Type} (m : List (Nat × α)) (x : Nat) (v : α) (f : Nat × α) (h : f ∈ SMap.put m x v) :
    f = (x, v) ∨ f ∈ m := by
  induction m with
  | nil => simpa [SMap.put] using h
  | cons e m ih =>
    obtain ⟨k, w⟩ := e
    simp only [SMap.put] at h
    split at h
    · rcases List.mem_cons.1 h with h | h
      · exact .inl h
      · exact .inr (List.mem_cons_of_mem _ h)
    · split at h
      · rcases List.mem_cons.1 h with h | h
        · exact .inl h
        · exact .inr h
      · rcases List.mem_cons.1 h with h | h
        · exact .inr (h ▸ List.mem_cons_self ..)
        · rcases ih h with h | h
          · exact .inl h
          · exact .inr (List.mem_cons_of_mem _ h)

theorem SMap.rising_put {α : Type} (m : List (Nat × α)) (x : Nat) (v : α) (h : SMap.rising m = true) :
    SMap.rising (SMap.put m x v) = true := by
  induction m with
  | nil => rfl
  | cons e m ih =>
    obtain ⟨k, w⟩ := e
    have ⟨ht, hl⟩ := SMap.rising_tail _ _ h
    simp only [SMap.put]
    split
    · subst_vars; exact SMap.rising_cons _ _ ht hl
    · split
      · rename_i hne hlt
        refine SMap.rising_cons _ _ h fun f hf => ?_
        rcases List.mem_cons.1 hf with rfl | hf
        · exact hlt
        · exact Nat.lt_trans hlt (hl f hf)
      · rename_i hne hlt
        refine SMap.rising_cons _ _ (ih ht) fun f hf => ?_
        rcases SMap.mem_put _ _ _ _ hf with rfl | hf
        · simp only; omega
        · exact hl f hf

theorem SMap.rising_filter {α : Type} (p : Nat × α → Bool) (m : List (Nat × α)) (h : SMap.rising m = true) :
    SMap.rising (m.filter p) = true := by
  induction m with
  | nil => rfl
  | cons e m ih =>
    have ⟨ht, hl⟩ := SMap.rising_tail _ _ h
    simp only [List.filter]
    split
    · exact SMap.rising_cons _ _ (ih ht) fun f hf => hl f (List.mem_filter.1 hf).1
    · exact ih ht

theorem SMap.rising_del {α : Type} (m : List (Nat × α)) (x : Nat) (h : SMap.rising m = true) :
    SMap.rising (SMap.del m x) = true := SMap.rising_filter _ _ h

theorem SMap.rising_set {α : Type} [DecidableEq α] (d : α) (m : List (Nat × α)) (x : Nat) (v : α)
    (h : SMap.rising m = true) : SMap.rising (SMap.set d m x v) = true := by
  unfold SMap.set
  split
  · exact SMap.rising_del _ _ h
  · exact SMap.rising_put _ _ _ h

/-! ### Bit fields -/

/-- A number with a field replaced, in three parts: below the field, the field, above it. -/
theorem setBits_parts (v hi lo f : Nat) :
    setBits v hi lo f =
      v % 2 ^ lo + 2 ^ lo * (f % 2 ^ (hi + 1 - lo) + 2 ^ (hi + 1 - lo) * (v / 2 ^ lo / 2 ^ (hi + 1 - lo))) := by
  unfold setBits bits
  generalize hp : 2 ^ lo = p
  generalize hw : 2 ^ (hi + 1 - lo) = w
  have h1 := Nat.div_add_mod v p
  have h2 := Nat.div_add_mod (v / p) w
  have h3 : p * (v / p) = p * (w * (v / p / w)) + v / p % w * p := by
    calc p * (v / p) = p * (w * (v / p / w) + v / p % w) := by rw [h2]
      _ = _ := by rw [Nat.mul_add, Nat.mul_comm p (v / p % w)]
  rw [Nat.mul_add, Nat.mul_comm p (f % w)]
  omega

/-- A field reads as it was written. -/
theorem bits_setBits_self (v hi lo f : Nat) : bits (setBits v hi lo f) hi lo = f % 2 ^ (hi + 1 - lo) := by
  rw [setBits_parts]
  unfold bits
  have hp : 0 < 2 ^ lo := Nat.two_pow_pos lo
  generalize 2 ^ lo = p at *
  generalize 2 ^ (hi + 1 - lo) = w at *
  rw [Nat.add_mul_div_left _ _ hp, Nat.div_eq_of_lt (Nat.mod_lt _ hp), Nat.zero_add, Nat.add_mul_mod_self_left, Nat.mod_mod]

/-- A field above the one written keeps its value. -/
theorem bits_setBits_above (v hi lo f hi' lo' : Nat) (h : hi < lo') (hl : lo ≤ hi) :
    bits (setBits v hi lo f) hi' lo' = bits v hi' lo' := by
  rw [setBits_parts]
  unfold bits
  congr 1
  have hp : 0 < 2 ^ lo := Nat.two_pow_pos lo
  have hw : 0 < 2 ^ (hi + 1 - lo) := Nat.two_pow_pos _
  have e : 2 ^ lo' = 2 ^ lo * (2 ^ (hi + 1 - lo) * 2 ^ (lo' - (hi + 1))) := by
    rw [← Nat.pow_add, ← Nat.pow_add]; congr 1; omega
  rw [e]
  generalize 2 ^ lo = p at *
  generalize 2 ^ (hi + 1 - lo) = w at *
  rw [← Nat.div_div_eq_div_mul, ← Nat.div_div_eq_div_mul, Nat.add_mul_div_left _ _ hp, Nat.div_eq_of_lt (Nat.mod_lt _ hp),
    Nat.zero_add, Nat.add_mul_div_left _ _ hw, Nat.div_eq_of_lt (Nat.mod_lt _ hw), Nat.zero_add,
    ← Nat.div_div_eq_div_mul, ← Nat.div_div_eq_div_mul]

/-- A field below the one written keeps its value. -/
theorem bits_setBits_below (v hi lo f hi' lo' : Nat) (h : hi' < lo) :
    bits (setBits v hi lo f) hi' lo' = bits v hi' lo' := by
  rw [setBits_parts]
  unfold bits
  by_cases hh : lo' ≤ hi'
  · have e : 2 ^ lo = 2 ^ lo' * 2 ^ (hi' + 1 - lo') * 2 ^ (lo - (hi' + 1)) := by
      rw [← Nat.pow_add, ← Nat.pow_add]; congr 1; omega
    have key : ∀ x : Nat, x / 2 ^ lo' % 2 ^ (hi' + 1 - lo') = x % (2 ^ lo' * 2 ^ (hi' + 1 - lo')) / 2 ^ lo' := by
      intro x; rw [Nat.mod_mul_right_div_self]
    rw [key, key]
    congr 1
    generalize hy : f % 2 ^ (hi + 1 - lo) + 2 ^ (hi + 1 - lo) * (v / 2 ^ lo / 2 ^ (hi + 1 - lo)) = y
    rw [e]
    generalize 2 ^ lo' * 2 ^ (hi' + 1 - lo') = q
    generalize 2 ^ (lo - (hi' + 1)) = r
    rw [Nat.mul_assoc, Nat.add_mul_mod_self_left, Nat.mod_mul_right_mod]
  · have : hi' + 1 - lo' = 0 := by omega
    simp [this, Nat.mod_one]

/-- A replaced field keeps a number within 32 bits. -/
theorem setBits_lt (v hi lo f : Nat) (hv : v < 2 ^ 32) (hh : hi < 32) (hl : lo ≤ hi) : setBits v hi lo f < 2 ^ 32 := by
  rw [setBits_parts]
  have hp : 0 < 2 ^ lo := Nat.two_pow_pos lo
  have hw : 0 < 2 ^ (hi + 1 - lo) := Nat.two_pow_pos _
  have e : 2 ^ 32 = 2 ^ lo * 2 ^ (hi + 1 - lo) * 2 ^ (31 - hi) := by
    rw [← Nat.pow_add, ← Nat.pow_add]; congr 1; omega
  have h1 := Nat.mod_lt v hp
  have h2 := Nat.mod_lt f hw
  have h3 : v / 2 ^ lo / 2 ^ (hi + 1 - lo) < 2 ^ (31 - hi) := by
    rw [Nat.div_div_eq_div_mul, Nat.div_lt_iff_lt_mul (by positivity)]
    rw [e] at hv; rw [Nat.mul_comm]; exact hv
  rw [e]
  generalize 2 ^ lo = p at *
  generalize 2 ^ (hi + 1 - lo) = w at *
  generalize 2 ^ (31 - hi) = r at *
  generalize v / p / w = a at *
  generalize f % w = b at *
  have h4 : b + w * a + 1 ≤ w * r := by
    have : w * (a + 1) ≤ w * r := Nat.mul_le_mul_left w h3
    rw [Nat.mul_add] at this; omega
  have h5 : p * (b + w * a + 1) ≤ p * (w * r) := Nat.mul_le_mul_left p h4
  rw [Nat.mul_add, Nat.mul_one] at h5
  rw [Nat.mul_assoc]; omega

/-! ### The register file -/

theorem State.reg_get (s : State) (o : Nat) : s.reg o = SMap.get (RegMap.resetOf o) s.regs o := by
  rw [SMap.find_get]; unfold State.reg; cases s.regs.find? fun e => e.1 == o <;> rfl
theorem State.liveReg_get (s : State) (o : Nat) : s.liveReg o = SMap.get (RegMap.resetOf o) s.live o := by
  rw [SMap.find_get]; unfold State.liveReg; cases s.live.find? fun e => e.1 == o <;> rfl

/-- A doubleword's read depends on the register file alone. -/
theorem State.reg_of_regs {s t : State} (h : s.regs = t.regs) (o : Nat) : s.reg o = t.reg o := by
  simp only [State.reg, h]
theorem State.liveReg_of_live {s t : State} (h : s.live = t.live) (o : Nat) : s.liveReg o = t.liveReg o := by
  simp only [State.liveReg, h]

/-- A default other than the key's own does not matter once the key has been set. -/
theorem SMap.get_set_other {α : Type} [DecidableEq α] (d e : α) (m : List (Nat × α)) (x y : Nat) (v : α) (h : y ≠ x) :
    SMap.get e (SMap.set d m x v) y = SMap.get e m y := by
  unfold SMap.set
  split
  · rw [SMap.get_del, if_neg h]
  · rw [SMap.get_put, if_neg h]

/-- Reading the register file after a write. -/
theorem State.reg_setReg (s : State) (o o' : Nat) (v : Word) : (s.setReg o v).reg o' = if o' = o then v else s.reg o' := by
  rw [State.reg_get, State.reg_get]
  by_cases h : o' = o
  · subst h; rw [if_pos rfl]; exact (SMap.get_set _ _ _ _ _).trans (if_pos rfl)
  · rw [if_neg h]; exact SMap.get_set_other _ _ _ _ _ _ h

@[simp] theorem State.reg_setReg_self (s : State) (o : Nat) (v : Word) : (s.setReg o v).reg o = v := by
  rw [State.reg_setReg, if_pos rfl]

theorem State.reg_setReg_ne (s : State) {o o' : Nat} (v : Word) (h : o' ≠ o) : (s.setReg o v).reg o' = s.reg o' := by
  rw [State.reg_setReg, if_neg h]

/-- Reading a value in force after it was put in force. -/
theorem State.liveReg_setLive (s : State) (o o' : Nat) (v : Word) :
    (s.setLive o v).liveReg o' = if o' = o then v else s.liveReg o' := by
  rw [State.liveReg_get, State.liveReg_get]
  by_cases h : o' = o
  · subst h; rw [if_pos rfl]; exact (SMap.get_set _ _ _ _ _).trans (if_pos rfl)
  · rw [if_neg h]; exact SMap.get_set_other _ _ _ _ _ _ h

@[simp] theorem State.reg_setLive (s : State) (o o' : Nat) (v : Word) : (s.setLive o v).reg o' = s.reg o' := rfl
@[simp] theorem State.liveReg_setReg (s : State) (o o' : Nat) (v : Word) : (s.setReg o v).liveReg o' = s.liveReg o' := rfl
@[simp] theorem State.cur_setReg (s : State) (o : Nat) (v : Word) (f : Fld) : (s.setReg o v).cur f = s.cur f := rfl
@[simp] theorem State.cur_put (s : State) (f g : Fld) (v : Nat) : (s.put f v).cur g = s.cur g := rfl
@[simp] theorem State.on_put (s : State) (f g : Fld) (v : Nat) : (s.put f v).on g = s.on g := rfl
@[simp] theorem State.reg_emit (s : State) (x : Output) (o : Nat) : (s.emit x).reg o = s.reg o := rfl
@[simp] theorem State.get_emit (s : State) (x : Output) (f : Fld) : (s.emit x).get f = s.get f := rfl
@[simp] theorem State.reg_begin (s : State) (o : Nat) : s.begin.reg o = s.reg o := rfl
@[simp] theorem State.get_begin (s : State) (f : Fld) : s.begin.get f = s.get f := rfl
@[simp] theorem State.cur_begin (s : State) (f : Fld) : s.begin.cur f = s.cur f := rfl
@[simp] theorem State.on_begin (s : State) (f : Fld) : s.begin.on f = s.on f := rfl
@[simp] theorem State.reg_at (s : State) (t : Tai) (o : Nat) : (s.at t).reg o = s.reg o := rfl
@[simp] theorem State.get_at (s : State) (t : Tai) (f : Fld) : (s.at t).get f = s.get f := rfl
@[simp] theorem State.cur_at (s : State) (t : Tai) (f : Fld) : (s.at t).cur f = s.cur f := rfl
@[simp] theorem State.on_at (s : State) (t : Tai) (f : Fld) : (s.at t).on f = s.on f := rfl
@[simp] theorem State.reg64_at (s : State) (t : Tai) (o : Nat) : (s.at t).reg64 o = s.reg64 o := rfl
@[simp] theorem State.domain_at (s : State) (t : Tai) (d : Nat) : (s.at t).domain d = s.domain d := rfl
@[simp] theorem State.now_at (s : State) (t : Tai) : (s.at t).time.now = max s.time.now t := rfl
@[simp] theorem State.out_at (s : State) (t : Tai) : (s.at t).out = [] := rfl
@[simp] theorem State.raised_at (s : State) (t : Tai) : (s.at t).ev.raised = [] := rfl
@[simp] theorem State.out_emit (s : State) (x : Output) : (s.emit x).out = s.out ++ [x] := rfl

/-- A field after a field of the same register was written, and any other. -/
theorem State.get_put_self (s : State) (f : Fld) (v : Nat) (hh : f.hi < 32) (hl : f.lo ≤ f.hi) :
    (s.put f v).get f = v % 2 ^ (f.hi + 1 - f.lo) := by
  simp only [State.get, State.put, State.reg_setReg_self, BitVec.toNat_ofNat]
  rw [Nat.mod_eq_of_lt (setBits_lt _ _ _ _ (s.reg f.off).isLt hh hl), bits_setBits_self]

theorem State.get_put_reg (s : State) (f g : Fld) (v : Nat) (h : g.off ≠ f.off) : (s.put f v).get g = s.get g := by
  simp only [State.get, State.put, State.reg_setReg, if_neg h]

theorem State.get_put_field (s : State) (f g : Fld) (v : Nat) (h : g.off = f.off) (hh : f.hi < 32) (hl : f.lo ≤ f.hi)
    (hd : f.hi < g.lo ∨ g.hi < f.lo) : (s.put f v).get g = s.get g := by
  simp only [State.get, State.put, h, State.reg_setReg_self, BitVec.toNat_ofNat]
  rw [Nat.mod_eq_of_lt (setBits_lt _ _ _ _ (s.reg f.off).isLt hh hl)]
  rcases hd with hd | hd
  · exact bits_setBits_above _ _ _ _ _ _ hd hl
  · exact bits_setBits_below _ _ _ _ _ _ hd

theorem State.reg_put (s : State) (f : Fld) (v o : Nat) (h : o ≠ f.off) : (s.put f v).reg o = s.reg o :=
  State.reg_setReg_ne _ _ h

/-! ### Counters -/

/-- A 64-bit register reads as it was written, modulo 2^64. -/
theorem State.reg64_setReg64 (s : State) (o v : Nat) : (s.setReg64 o v).reg64 o = v % 2 ^ 64 := by
  have h : o ≠ o + 4 := by omega
  simp only [State.reg64, State.setReg64, State.reg_setReg, if_neg h, if_true, BitVec.toNat_ofNat]
  omega

theorem State.reg_setReg64 (s : State) (o v o' : Nat) (h : o' ≠ o) (h4 : o' ≠ o + 4) : (s.setReg64 o v).reg o' = s.reg o' := by
  simp only [State.setReg64, State.reg_setReg, if_neg h, if_neg h4]

/-- A counter counts from its value, modulo 2^64 (R436). -/
theorem State.reg64_count (s : State) (o n : Nat) : (s.count o n).reg64 o = (s.reg64 o + n) % 2 ^ 64 :=
  State.reg64_setReg64 _ _ _

theorem State.reg_count (s : State) (o n o' : Nat) (h : o' ≠ o) (h4 : o' ≠ o + 4) : (s.count o n).reg o' = s.reg o' :=
  State.reg_setReg64 _ _ _ _ h h4

theorem State.reg64_count_ne (s : State) (o n o' : Nat) (h : o + 4 < o' ∨ o' + 4 < o) :
    (s.count o n).reg64 o' = s.reg64 o' := by
  simp only [State.reg64]
  rw [State.reg_count _ _ _ _ (by omega) (by omega), State.reg_count _ _ _ _ (by omega) (by omega)]

theorem State.get_count (s : State) (o n : Nat) (f : Fld) (h : f.off ≠ o) (h4 : f.off ≠ o + 4) :
    (s.count o n).get f = s.get f := by
  simp only [State.get]; rw [State.reg_count _ _ _ _ h h4]

/-! ### The canonical form of the register file -/

theorem State.rising_setReg (s : State) (o : Nat) (v : Word) (h : SMap.rising s.regs = true) :
    SMap.rising (s.setReg o v).regs = true := SMap.rising_set _ _ _ _ h

theorem State.rising_setLive (s : State) (o : Nat) (v : Word) (h : SMap.rising s.live = true) :
    SMap.rising (s.setLive o v).live = true := SMap.rising_set _ _ _ _ h

end Sys2Proof.Machine
end

