-- ==== Sys2Proof/Laws/Events.lean ====
section
/-! SUPPORT. Raising events: what is raised, and which registers stay. -/

namespace Sys2Proof.Machine

theorem State.reg_buffer (s : State) (e : JEntry) (o : Nat) (h : o ∉ dropCounters) : (s.buffer e).reg o = s.reg o := by
  simp only [dropCounters, List.mem_cons, List.not_mem_nil, or_false, not_or] at h
  unfold State.buffer
  dsimp only
  (repeat' split) <;> first
    | rfl
    | exact State.reg_count _ _ _ _ h.1 h.2.1

@[simp] theorem State.reg_setRxRing (s : State) (n : Nat) (r : RxRing) (o : Nat) : (s.setRxRing n r).reg o = s.reg o := rfl

theorem State.reg_rxDrop (s : State) (n o : Nat) (h : o ≠ Reg.HIF_RXn_DROP n) (h4 : o ≠ Reg.HIF_RXn_DROP n + 4) :
    (s.rxDrop n).reg o = s.reg o := by
  unfold State.rxDrop
  dsimp only
  rw [State.reg_setRxRing]
  exact State.reg_count _ _ _ _ h h4

theorem State.reg_toRing (s : State) (e : RxEntry) (o : Nat) (h : o ∉ dropCounters) : (s.toRing 63 e).reg o = s.reg o := by
  simp only [dropCounters, List.mem_cons, List.not_mem_nil, or_false, not_or] at h
  unfold State.toRing
  dsimp only
  generalize State.rxRing s 63 = r
  cases e <;> dsimp only <;> split <;> first
    | rw [State.reg_setRxRing]
    | exact State.reg_rxDrop _ _ _ h.2.2.1 h.2.2.2

theorem State.reg_spread (s : State) (e : Event) (o : Nat) (h : o ∉ dropCounters) : (s.spread e).reg o = s.reg o := by
  unfold State.spread
  rw [State.reg_buffer _ _ _ h]
  split
  · exact State.reg_toRing _ _ _ h
  · rfl

theorem State.reg_raiseWith (s : State) (p c u : Nat) (d : List Detail) (o : Nat) (h : o ∉ dropCounters) :
    (s.raiseWith p c u d).reg o = s.reg o := by
  unfold State.raiseWith
  dsimp only
  (repeat' split) <;> first
    | rfl
    | exact State.reg_spread _ _ _ h

theorem State.reg_raise (s : State) (c u : Nat) (d : List Detail) (o : Nat) (h : o ∉ dropCounters) :
    (s.raise c u d).reg o = s.reg o := by
  unfold State.raise State.lossCheck
  split
  · rw [State.reg_raiseWith _ _ _ _ _ _ h]
    exact State.reg_raiseWith _ _ _ _ _ _ h
  · exact State.reg_raiseWith _ _ _ _ _ _ h

theorem State.reg_raiseOnce (s : State) (k c u : Nat) (d : List Detail) (o : Nat) (h : o ∉ dropCounters) :
    (s.raiseOnce k c u d).reg o = s.reg o := by
  unfold State.raiseOnce
  split
  · exact State.reg_raise _ _ _ _ _ h
  · rfl

theorem State.reg_log (s : State) (n : Nat) (b : Bytes) (o : Nat) (h : o ∉ dropCounters) :
    (s.log n b).reg o = s.reg o := by
  unfold State.log State.lossCheck
  split
  · rw [State.reg_raiseWith _ _ _ _ _ _ h]
    exact State.reg_buffer _ _ _ h
  · exact State.reg_buffer _ _ _ h

/-! ### What is raised -/

@[simp] theorem State.ev_buffer (s : State) (e : JEntry) : (s.buffer e).ev = s.ev := by
  unfold State.buffer; dsimp only; (repeat' split) <;> rfl

@[simp] theorem State.ev_toRing (s : State) (n : Nat) (e : RxEntry) : (s.toRing n e).ev = s.ev := by
  unfold State.toRing; dsimp only; (repeat' split) <;> rfl

@[simp] theorem State.ev_spread (s : State) (e : Event) : (s.spread e).ev = s.ev := by
  unfold State.spread; dsimp only; split <;> simp

/-- The event that raising makes (R100, R101). -/
def State.eventOf (s : State) (epoch code unit : Nat) (detail : List Detail) : Event :=
  { code := code, unit := unit, epoch := epoch, eseq := (s.ev.eseq + 1) % 65536, time := s.time.now, detail := detail }

theorem State.raised_raiseWith (s : State) (p c u : Nat) (d : List Detail) :
    (s.raiseWith p c u d).ev.raised = s.ev.raised ++ [s.eventOf p c u d] := by
  unfold State.raiseWith
  dsimp only
  (repeat' split) <;> simp [State.eventOf]

/-- The event is raised, and behind it at most NVM_JOURNAL_LOSS. -/
theorem State.raised_raise (s : State) (c u : Nat) (d : List Detail) :
    ∃ l, (s.raise c u d).ev.raised = s.ev.raised ++ s.eventOf (s.epochOf u) c u d :: l := by
  unfold State.raise State.lossCheck
  split
  · generalize hx : s.raiseWith (s.epochOf u) c u d = x
    have h : x.ev.raised = s.ev.raised ++ [s.eventOf (s.epochOf u) c u d] := by rw [← hx, State.raised_raiseWith]
    refine ⟨[(x.spoke 0x1206).eventOf 0 0x1206 0 [n4 x.nvm.lost]], ?_⟩
    rw [State.raised_raiseWith]
    show x.ev.raised ++ _ = _
    rw [h, List.append_assoc]
    rfl
  · exact ⟨[], State.raised_raiseWith ..⟩

end Sys2Proof.Machine
end

