-- ==== Sys2Proof/Laws/Quiet.lean ====
section
/-! SUPPORT. What the work of the blocks leaves alone: the beat in progress, the phase, the time, and the GLB and BEAT
registers. One lemma for each operation that touches none of them. -/

set_option linter.unusedSimpArgs false
set_option linter.unusedTactic false
set_option linter.unreachableTactic false
set_option linter.unusedVariables false

namespace Sys2Proof.Machine

/-- The beat, the phase, the time, and a register file as the offsets below 0x20000 see it. -/
def quietOf (start next : Tai) (started run : Bool) (phase : Phase) (now : Tai) (regs : List (Nat × Word)) :
    Tai × Tai × Bool × Bool × Phase × Tai × ((o : Nat) → o < 0x20000 → Word) :=
  (start, next, started, run, phase, now, fun o _ => SMap.get (RegMap.resetOf o) regs o)

/-- What a quiet operation leaves. -/
def State.quiet (s : State) : Tai × Tai × Bool × Bool × Phase × Tai × ((o : Nat) → o < 0x20000 → Word) :=
  quietOf s.beat.start s.beat.next s.beat.started s.beat.intakeRun s.glb.phase s.time.now s.regs

theorem quiet_mk (pending : List Instr) out free regs live paced cmds glb beat time ev hif fab ra can reef eth ser ciph nest hal pwr
    shr pin nvm mgt :
    (State.mk pending out free regs live paced cmds glb beat time ev hif fab ra can reef eth ser ciph nest hal pwr shr pin nvm
      mgt).quiet = quietOf beat.start beat.next beat.started beat.intakeRun glb.phase time.now regs := rfl

theorem quiet_fold (s : State) :
    quietOf s.beat.start s.beat.next s.beat.started s.beat.intakeRun s.glb.phase s.time.now s.regs = s.quiet := rfl

theorem quiet_ite (c : Prop) [Decidable c] (a b : State) : (if c then a else b).quiet = if c then a.quiet else b.quiet := by
  split <;> rfl

theorem quiet_foldl {α : Type} (g : State → α → State) (h : ∀ s a, (g s a).quiet = s.quiet) (l : List α) (s : State) :
    (l.foldl g s).quiet = s.quiet := by
  induction l generalizing s with
  | nil => rfl
  | cons a l ih => exact (ih (g s a)).trans (h s a)

/-- Two states that agree on all this are equally quiet. -/
theorem quiet_of_regs (s : State) (r : List (Nat × Word))
    (h : ∀ o, o < 0x20000 → SMap.get (RegMap.resetOf o) r o = SMap.get (RegMap.resetOf o) s.regs o) :
    ({ s with regs := r }).quiet = s.quiet := by
  have : (fun (o : Nat) (_ : o < 0x20000) => SMap.get (RegMap.resetOf o) r o)
      = fun o _ => SMap.get (RegMap.resetOf o) s.regs o := by
    funext o ho; exact h o ho
  show (_, _, _, _, _, _, _) = (_, _, _, _, _, _, _)
  rw [this]

theorem State.setReg_quiet (s : State) (o : Nat) (v : Word) (h : 0x20000 ≤ o) : (s.setReg o v).quiet = s.quiet :=
  quiet_of_regs s _ fun _ hp => SMap.get_set_other _ _ _ _ _ _ (by omega)

theorem State.put_quiet (s : State) (f : Fld) (v : Nat) (h : 0x20000 ≤ f.off) : (s.put f v).quiet = s.quiet :=
  State.setReg_quiet _ _ _ h

theorem State.setReg64_quiet (s : State) (o v : Nat) (h : 0x20000 ≤ o) : (s.setReg64 o v).quiet = s.quiet :=
  (State.setReg_quiet _ _ _ (by omega)).trans (State.setReg_quiet _ _ _ h)

theorem State.count_quiet (s : State) (o n : Nat) (h : 0x20000 ≤ o) : (s.count o n).quiet = s.quiet :=
  State.setReg64_quiet _ _ _ h

theorem State.count32_quiet (s : State) (o n : Nat) (h : 0x20000 ≤ o) : (s.count32 o n).quiet = s.quiet :=
  State.setReg_quiet _ _ _ h

theorem State.orReg_quiet (s : State) (o m : Nat) (h : 0x20000 ≤ o) : (s.orReg o m).quiet = s.quiet :=
  State.setReg_quiet _ _ _ h

theorem State.setLive_quiet (s : State) (o : Nat) (v : Word) : (s.setLive o v).quiet = s.quiet := rfl

theorem State.putCur_quiet (s : State) (f : Fld) (v : Nat) : (s.putCur f v).quiet = s.quiet := rfl

theorem State.putBoth_quiet (s : State) (f : Fld) (v : Nat) (h : 0x20000 ≤ f.off) : (s.putBoth f v).quiet = s.quiet := by
  unfold State.putBoth
  rw [State.putCur_quiet, State.put_quiet _ _ _ h]

/-- Dropping other keys leaves a key's value. -/
theorem SMap.get_filter {α : Type} (d : α) (p : Nat × α → Bool) (m : List (Nat × α)) (x : Nat) (h : ∀ v, p (x, v) = true) :
    SMap.get d (m.filter p) x = SMap.get d m x := by
  induction m with
  | nil => rfl
  | cons e m ih =>
    obtain ⟨k, w⟩ := e
    by_cases hk : x = k
    · subst hk; simp [List.filter, h w, SMap.get]
    · simp only [List.filter]
      split
      · simp only [SMap.get, if_neg hk, ih]
      · simp only [SMap.get, if_neg hk, ih]

theorem quiet_if {c : Prop} [Decidable c] {a b : State} {q : _} (ha : a.quiet = q) (hb : b.quiet = q) :
    (if c then a else b).quiet = q := by split <;> assumption

theorem quiet_if2 {α : Type} {c : Prop} [Decidable c] {a b : α × State} {q : _} (ha : a.2.quiet = q) (hb : b.2.quiet = q) :
    (if c then a else b).2.quiet = q := by split <;> assumption

theorem quietOf_regs (s : State) (r : List (Nat × Word))
    (h : ∀ o, o < 0x20000 → SMap.get (RegMap.resetOf o) r o = SMap.get (RegMap.resetOf o) s.regs o) :
    quietOf s.beat.start s.beat.next s.beat.started s.beat.intakeRun s.glb.phase s.time.now r = s.quiet :=
  quiet_of_regs s r h

theorem State.nestCount_quiet (s : State) (i : Nat) (k : Nat) (n : Nat) : (State.nestCount s i k n).quiet = s.quiet := by
  unfold State.nestCount
  simp (disch := (first | assumption | omega | (simp only [Reg.NEST_IMGi_CNTk]; omega))) only [quiet_mk, quiet_fold, quiet_ite,
      quiet_foldl, ite_self, Bool.false_eq_true, if_true, if_false, State.count_quiet]

theorem State.emit_quiet (s : State) (o : Output) : (State.emit s o).quiet = s.quiet := by
  unfold State.emit
  simp (disch := (first | assumption | omega)) only [quiet_mk, quiet_fold, quiet_ite, quiet_foldl, ite_self,
      Bool.false_eq_true, if_true, if_false]

theorem State.halSend_quiet (s : State) (type : Nat) (imageEnd : Bool) (payload : Bytes) :
    (State.halSend s type imageEnd payload).quiet = s.quiet := by
  unfold State.halSend
  simp (disch := (first | assumption | omega | (simp only [Fld.HAL_STATUS_ROLE, Fld.HAL_STATUS_STRAP, Reg.HAL_STATUS]; omega))) only [quiet_mk, quiet_fold, quiet_ite,
      quiet_foldl, ite_self, Bool.false_eq_true, if_true, if_false, State.emit_quiet]

theorem State.delta_quiet (s : State) (cls : Nat) (index : Nat) (body : Bytes) :
    (State.delta s cls index body).quiet = s.quiet := by
  unfold State.delta
  simp (disch := (first | assumption | omega | (simp only [Fld.HAL_CTRL_PAIR_EN, Reg.HAL_CTRL]; omega))) only [quiet_mk, quiet_fold, quiet_ite,
      quiet_foldl, ite_self, Bool.false_eq_true, if_true, if_false, State.halSend_quiet]

theorem State.showCtx_quiet (s : State) (k : Nat) : (State.showCtx s k).quiet = s.quiet := by
  unfold State.showCtx
  simp (disch := (first | assumption | omega | (simp only [Reg.NEST_TRAY_CTX]; omega) | (intros; (try dsimp only); (repeat' (split; try (rename_i h; have h2 := congrArg Prod.snd h; dsimp only at h2; subst h2))) <;> simp (disch := (first | assumption | omega | (simp only [Reg.NEST_TRAY_CTX]; omega))) only [quiet_mk, quiet_fold, quiet_ite, quiet_foldl, ite_self, Bool.false_eq_true, if_true, if_false, State.delta_quiet, State.setReg_quiet]))) only [quiet_mk, quiet_fold, quiet_ite, quiet_foldl, ite_self, Bool.false_eq_true, if_true, if_false, State.delta_quiet, State.setReg_quiet]

theorem State.observe_quiet (s : State) (unit : Nat) : (State.observe s unit).quiet = s.quiet := by
  unfold State.observe
  simp (disch := (first | assumption | omega)) only [quiet_mk, quiet_fold, quiet_ite, quiet_foldl, ite_self,
      Bool.false_eq_true, if_true, if_false]

theorem State.staged_quiet (s : State) (k : Track) : (State.staged s k).quiet = s.quiet := by
  unfold State.staged
  simp (disch := (first | assumption | omega)) only [quiet_mk, quiet_fold, quiet_ite, quiet_foldl, ite_self,
      Bool.false_eq_true, if_true, if_false, State.observe_quiet]

theorem State.setCount_quiet (s : State) (set : Nat) (k : Nat) (n : Nat) :
    (State.setCount s set k n).quiet = s.quiet := by
  unfold State.setCount
  simp (disch := (first | assumption | omega | (simp only [Reg.NEST_SETs_CNTk]; omega))) only [quiet_mk, quiet_fold, quiet_ite,
      quiet_foldl, ite_self, Bool.false_eq_true, if_true, if_false, State.count_quiet]

theorem State.trackFree_quiet (s : State) (n : Nat) (k : Track) (ev : Nat) :
    (State.trackFree s n k ev).quiet = s.quiet := by
  unfold State.trackFree
  simp (disch := (first | assumption | omega)) only [quiet_mk, quiet_fold, quiet_ite, quiet_foldl, ite_self,
      Bool.false_eq_true, if_true, if_false, State.delta_quiet, State.setCount_quiet, State.staged_quiet]

theorem State.stopDelta_quiet (s : State) (o : NestOut) : (State.stopDelta s o).quiet = s.quiet := by
  unfold State.stopDelta
  (repeat' split) <;> first | with_reducible rfl | simp (disch := (first | assumption | omega)) only [quiet_mk, quiet_fold, quiet_ite,
      quiet_foldl, ite_self, Bool.false_eq_true, if_true, if_false, State.delta_quiet]

theorem State.setRxRing_quiet (s : State) (n : Nat) (r : RxRing) : (State.setRxRing s n r).quiet = s.quiet := by
  unfold State.setRxRing
  simp (disch := (first | assumption | omega)) only [quiet_mk, quiet_fold, quiet_ite, quiet_foldl, ite_self,
      Bool.false_eq_true, if_true, if_false]

theorem State.rxDrop_quiet (s : State) (n : Nat) : (State.rxDrop s n).quiet = s.quiet := by
  unfold State.rxDrop
  simp (disch := (first | assumption | omega | (simp only [Reg.HIF_RXn_DROP]; omega))) only [quiet_mk, quiet_fold, quiet_ite,
      quiet_foldl, ite_self, Bool.false_eq_true, if_true, if_false, State.count_quiet, State.setRxRing_quiet]

theorem State.toRing_quiet (s : State) (n : Nat) (e : RxEntry) : (State.toRing s n e).quiet = s.quiet := by
  unfold State.toRing
  simp (disch := (first | assumption | omega | (simp only [Fld.HIF_RXn_STAT_STATE, Reg.HIF_RXn_STAT]; omega))) only [quiet_mk, quiet_fold, quiet_ite,
      quiet_foldl, ite_self, Bool.false_eq_true, if_true, if_false, State.rxDrop_quiet, State.setRxRing_quiet]

theorem State.buffer_quiet (s : State) (e : JEntry) : (State.buffer s e).quiet = s.quiet := by
  unfold State.buffer
  simp (disch := (first | assumption | omega | (simp only [Reg.NVM_CNTk]; omega))) only [quiet_mk, quiet_fold, quiet_ite,
      quiet_foldl, ite_self, Bool.false_eq_true, if_true, if_false, State.count_quiet]

theorem State.spread_quiet (s : State) (e : Event) : (State.spread s e).quiet = s.quiet := by
  unfold State.spread
  simp (disch := (first | assumption | omega | (simp only [Fld.HIF_RXn_STAT_STATE, Reg.HIF_RXn_STAT]; omega))) only [quiet_mk, quiet_fold, quiet_ite,
      quiet_foldl, ite_self, Bool.false_eq_true, if_true, if_false, State.buffer_quiet, State.toRing_quiet]

theorem State.raiseWith_quiet (s : State) (epoch : Nat) (code : Nat) (unit : Nat) (detail : List Detail) :
    (State.raiseWith s epoch code unit detail).quiet = s.quiet := by
  unfold State.raiseWith
  simp (disch := (first | assumption | omega | (simp only [Fld.PWR_STATUS_BRACE, Reg.PWR_STATUS]; omega))) only [quiet_mk, quiet_fold, quiet_ite,
      quiet_foldl, ite_self, Bool.false_eq_true, if_true, if_false, State.spread_quiet]

theorem State.spoke_quiet (s : State) (key : Nat) : (State.spoke s key).quiet = s.quiet := by
  unfold State.spoke
  simp (disch := (first | assumption | omega)) only [quiet_mk, quiet_fold, quiet_ite, quiet_foldl, ite_self,
      Bool.false_eq_true, if_true, if_false]

theorem State.lossCheck_quiet (before : State) (s : State) : (State.lossCheck before s).quiet = s.quiet := by
  unfold State.lossCheck
  simp (disch := (first | assumption | omega)) only [quiet_mk, quiet_fold, quiet_ite, quiet_foldl, ite_self,
      Bool.false_eq_true, if_true, if_false, State.raiseWith_quiet, State.spoke_quiet]

theorem State.raise_quiet (s : State) (code : Nat) (unit : Nat) (detail : List Detail) :
    (State.raise s code unit detail).quiet = s.quiet := by
  unfold State.raise
  simp (disch := (first | assumption | omega)) only [quiet_mk, quiet_fold, quiet_ite, quiet_foldl, ite_self,
      Bool.false_eq_true, if_true, if_false, State.lossCheck_quiet, State.raiseWith_quiet]

theorem State.stageOut_quiet (s : State) (o : NestOut) : (State.stageOut s o).quiet = s.quiet := by
  unfold State.stageOut
  simp (disch := (first | assumption | omega)) only [quiet_mk, quiet_fold, quiet_ite, quiet_foldl, ite_self,
      Bool.false_eq_true, if_true, if_false, State.setCount_quiet]

theorem State.alarmFire_quiet (s : State) (r : Nat) (n : Nat) (k : Track) :
    (State.alarmFire s r n k).quiet = s.quiet := by
  unfold State.alarmFire
  simp (disch := (first | assumption | omega | (simp only [Fld.NEST_ALMr_CTRL_STOP_BRS, Fld.NEST_ALMr_CTRL_STOP_EN, Fld.NEST_ALMr_CTRL_STOP_IDE, Fld.NEST_ALMr_CTRL_STOP_KIND, Reg.NEST_ALMr_CTRL, Reg.NEST_ALMr_STAT, Reg.NEST_ALMr_STOP_ID]; omega))) only [quiet_mk, quiet_fold, quiet_ite,
      quiet_foldl, ite_self, Bool.false_eq_true, if_true, if_false, State.observe_quiet, State.raise_quiet,
      State.setCount_quiet, State.setReg_quiet, State.stageOut_quiet, State.stopDelta_quiet]

theorem State.alarmRule_quiet (n : Nat) (ks : Track × State) (r : Nat) : (State.alarmRule n ks r).2.quiet = ks.2.quiet := by
  obtain ⟨k, s⟩ := ks
  exact quiet_if2 rfl (quiet_if2 (quiet_if2 (State.alarmFire_quiet _ _ _ _) rfl) rfl)

theorem State.setTrack_quiet (s : State) (n : Nat) (k : Track) : (State.setTrack s n k).quiet = s.quiet := by
  unfold State.setTrack
  simp (disch := (first | assumption | omega)) only [quiet_mk, quiet_fold, quiet_ite, quiet_foldl, ite_self,
      Bool.false_eq_true, if_true, if_false, State.delta_quiet]

theorem State.trackHit_quiet (s : State) (i n : Nat) (k : Track) (d : Detect) (time : Tai) :
    (State.trackHit s i n k d time).quiet = s.quiet := by
  have key : ∀ (l : List Nat) (a : Track × State), (l.foldl (State.alarmRule n) a).2.quiet = a.2.quiet := by
    intro l
    induction l with
    | nil => intro a; rfl
    | cons r l ih => intro a; rw [List.foldl_cons, ih, State.alarmRule_quiet]
  have last : ∀ (a : Track × State), a.2.quiet = s.quiet →
      (if a.2.exits a.1.set a.1.x.p a.1.y.p then a.2.trackFree n a.1 6 else (a.2.setTrack n a.1).staged a.1).quiet = s.quiet :=
    fun a h => quiet_if ((State.trackFree_quiet _ _ _ _).trans h)
      ((State.staged_quiet _ _).trans ((State.setTrack_quiet _ _ _).trans h))
  unfold State.trackHit
  extract_lets rp hits confirm x1 x2 s0 s1 x3
  have h0 : s0.quiet = s.quiet := State.nestCount_quiet _ _ _ _
  have h1 : s1.quiet = s.quiet := quiet_if ((State.setCount_quiet _ _ _ _).trans h0) h0
  have h2 : (if x3.state = 2 then List.foldl (State.alarmRule n) (x3, s1) (List.range 16) else (x3, s1)).2.quiet = s.quiet :=
    quiet_if2 ((key _ _).trans h1) h1
  exact last _ h2

theorem State.setFrame_quiet (s : State) (fid : Nat) (f : Frame) : (State.setFrame s fid f).quiet = s.quiet := by
  unfold State.setFrame
  simp (disch := (first | assumption | omega)) only [quiet_mk, quiet_fold, quiet_ite, quiet_foldl, ite_self,
      Bool.false_eq_true, if_true, if_false]

theorem State.clearGap_quiet (s : State) (flow : Nat) : (State.clearGap s flow).quiet = s.quiet := by
  unfold State.clearGap
  simp (disch := (first | assumption | omega)) only [quiet_mk, quiet_fold, quiet_ite, quiet_foldl, ite_self,
      Bool.false_eq_true, if_true, if_false]

theorem State.draw_quiet (s : State) : (State.draw s).2.quiet = s.quiet := by
  unfold State.draw
  simp (disch := (first | assumption | omega)) only [quiet_mk, quiet_fold, quiet_ite, quiet_foldl, ite_self,
      Bool.false_eq_true, if_true, if_false]

theorem State.setTxRing_quiet (s : State) (n : Nat) (r : TxRing) : (State.setTxRing s n r).quiet = s.quiet := by
  unfold State.setTxRing
  simp (disch := (first | assumption | omega)) only [quiet_mk, quiet_fold, quiet_ite, quiet_foldl, ite_self,
      Bool.false_eq_true, if_true, if_false]

theorem State.hostFinal_quiet (s : State) (h : HostTag) (status : Nat) (unit : Nat) (egTotal : Nat) (egFail : Nat) (time : Tai) (flow : Option Nat) (replay : Bool) :
    (State.hostFinal s h status unit egTotal egFail time flow replay).quiet = s.quiet := by
  unfold State.hostFinal
  dsimp only
  (repeat' split) <;> first | with_reducible rfl | simp (disch := (first | assumption | omega | (simp only [Fld.HIF_TXn_STAT_OUTSTANDING, Reg.HIF_TXn_STAT]; omega))) only [quiet_mk, quiet_fold, quiet_ite,
      quiet_foldl, ite_self, Bool.false_eq_true, if_true, if_false, State.clearGap_quiet, State.put_quiet,
      State.setTxRing_quiet]

theorem State.gap_quiet (s : State) (flow : Nat) : (State.gap s flow).quiet = s.quiet := by
  unfold State.gap
  simp (disch := (first | assumption | omega)) only [quiet_mk, quiet_fold, quiet_ite, quiet_foldl, ite_self,
      Bool.false_eq_true, if_true, if_false]

theorem State.fifosEmpty_quiet (s : State) : (State.fifosEmpty s).quiet = s.quiet := by
  unfold State.fifosEmpty
  simp (disch := (first | assumption | omega | (simp only [Fld.FAB_HOSTBUF_BLOCKS, Reg.FAB_HOSTBUF]; omega))) only [quiet_mk, quiet_fold, quiet_ite,
      quiet_foldl, ite_self, Bool.false_eq_true, if_true, if_false]

theorem State.release_quiet (s : State) (fid : Nat) : (State.release s fid).quiet = s.quiet := by
  unfold State.release
  dsimp only
  (repeat' split) <;> first | with_reducible rfl | simp (disch := (first | assumption | omega | (simp only [Fld.FAB_FREE_BLOCKS, Reg.FAB_FREE]; omega))) only [quiet_mk, quiet_fold, quiet_ite,
      quiet_foldl, ite_self, Bool.false_eq_true, if_true, if_false, State.fifosEmpty_quiet, State.put_quiet]

theorem State.frameFinal_quiet (s : State) (fid : Nat) (f : Frame) : (State.frameFinal s fid f).quiet = s.quiet := by
  unfold State.frameFinal
  dsimp only
  (repeat' split) <;> first | with_reducible rfl | simp (disch := (first | assumption | omega)) only [quiet_mk, quiet_fold, quiet_ite,
      quiet_foldl, ite_self, Bool.false_eq_true, if_true, if_false, State.clearGap_quiet, State.draw_quiet,
      State.gap_quiet, State.hostFinal_quiet, State.release_quiet]

theorem State.marker_quiet (s : State) (f : Frame) (port : Nat) (status : Nat) :
    (State.marker s f port status).quiet = s.quiet := by
  unfold State.marker
  simp (disch := (first | assumption | omega | (simp only [Fld.HAL_CTRL_PAIR_EN, Reg.HAL_CTRL]; omega))) only [quiet_mk, quiet_fold, quiet_ite,
      quiet_foldl, ite_self, Bool.false_eq_true, if_true, if_false, State.draw_quiet, State.frameFinal_quiet,
      State.halSend_quiet]

theorem State.setReef_quiet (s : State) (n : Nat) (p : ReefPort) : (State.setReef s n p).quiet = s.quiet := by
  unfold State.setReef
  simp (disch := (first | assumption | omega)) only [quiet_mk, quiet_fold, quiet_ite, quiet_foldl, ite_self,
      Bool.false_eq_true, if_true, if_false]

theorem State.lose_quiet (s : State) (fid : Nat) : (State.lose s fid).quiet = s.quiet := by
  unfold State.lose
  (repeat' split) <;> first | with_reducible rfl | simp (disch := (first | assumption | omega)) only [quiet_mk, quiet_fold, quiet_ite,
      quiet_foldl, ite_self, Bool.false_eq_true, if_true, if_false, State.gap_quiet, State.setFrame_quiet]

theorem State.copyFinal_quiet (s : State) (fid : Nat) (port : Nat) (status : Nat) (stamp : Tai) (lost : Bool) :
    (State.copyFinal s fid port status stamp lost).quiet = s.quiet := by
  unfold State.copyFinal
  dsimp only
  (repeat' split) <;> first | with_reducible rfl | simp (disch := (first | assumption | omega)) only [quiet_mk, quiet_fold, quiet_ite,
      quiet_foldl, ite_self, Bool.false_eq_true, if_true, if_false, State.frameFinal_quiet, State.lose_quiet,
      State.marker_quiet, State.release_quiet, State.setFrame_quiet, State.setReef_quiet]

theorem State.dropInternal_quiet (s : State) (fid : Nat) : (State.dropInternal s fid).quiet = s.quiet := by
  unfold State.dropInternal
  (repeat' split) <;> first | with_reducible rfl | simp (disch := (first | assumption | omega | (intros; (try dsimp only); (repeat' (split; try (rename_i h; have h2 := congrArg Prod.snd h; dsimp only at h2; subst h2))) <;> simp (disch := (first | assumption | omega)) only [quiet_mk, quiet_fold, quiet_ite, quiet_foldl, ite_self, Bool.false_eq_true, if_true, if_false, State.copyFinal_quiet]))) only [quiet_mk, quiet_fold, quiet_ite, quiet_foldl, ite_self, Bool.false_eq_true, if_true, if_false, State.copyFinal_quiet]

theorem State.setRa_quiet (s : State) (fid : Nat) (x : RaFrame) : (State.setRa s fid x).quiet = s.quiet := by
  unfold State.setRa
  simp (disch := (first | assumption | omega)) only [quiet_mk, quiet_fold, quiet_ite, quiet_foldl, ite_self,
      Bool.false_eq_true, if_true, if_false]

theorem State.showQueues_quiet (s : State) (port : Nat) : (State.showQueues s port).quiet = s.quiet := by
  unfold State.showQueues
  simp (disch := (first | assumption | omega | (simp only [Fld.CANP_STATUS_STATE, Fld.FAB_QSTATp_FRAMES, Fld.FAB_QSTATp_HELD, Fld.FAB_QSTATp_NONEMPTY, Reg.CANP_STATUS, Reg.FAB_QSTATp]; omega))) only [quiet_mk, quiet_fold, quiet_ite,
      quiet_foldl, ite_self, Bool.false_eq_true, if_true, if_false, State.put_quiet]

theorem State.setDom_quiet (s : State) (d : Nat) (x : Domain) : (State.setDom s d x).quiet = s.quiet := by
  unfold State.setDom
  simp (disch := (first | assumption | omega | (simp only [Fld.PWR_Dd_STAT_HELD, Reg.PWR_Dd_STAT]; omega))) only [quiet_mk, quiet_fold, quiet_ite,
      quiet_foldl, ite_self, Bool.false_eq_true, if_true, if_false, State.put_quiet]

theorem State.withdraw_quiet (s : State) (fid : Nat) : (State.withdraw s fid).2.quiet = s.quiet := by
  unfold State.withdraw
  simp (disch := (first | assumption | omega | (intros; (try dsimp only); (repeat' (split; try (rename_i h; have h2 := congrArg Prod.snd h; dsimp only at h2; subst h2))) <;> simp (disch := (first | assumption | omega)) only [quiet_mk, quiet_fold, quiet_ite, quiet_foldl, ite_self, Bool.false_eq_true, if_true, if_false, State.setDom_quiet, State.showQueues_quiet]))) only [quiet_mk, quiet_fold, quiet_ite, quiet_foldl, ite_self, Bool.false_eq_true, if_true, if_false, State.setDom_quiet, State.showQueues_quiet]

theorem State.dropWaiting_quiet (s : State) (fid : Nat) : (State.dropWaiting s fid).quiet = s.quiet := by
  unfold State.dropWaiting
  simp (disch := (first | assumption | omega | (intros; (try dsimp only); (repeat' (split; try (rename_i h; have h2 := congrArg Prod.snd h; dsimp only at h2; subst h2))) <;> simp (disch := (first | assumption | omega)) only [quiet_mk, quiet_fold, quiet_ite, quiet_foldl, ite_self, Bool.false_eq_true, if_true, if_false, State.copyFinal_quiet, State.withdraw_quiet]))) only [quiet_mk, quiet_fold, quiet_ite, quiet_foldl, ite_self, Bool.false_eq_true, if_true, if_false, State.copyFinal_quiet, State.withdraw_quiet]

theorem State.raDisable_quiet (s : State) (j : Nat) (reason : Nat) (ingress : Nat) :
    (State.raDisable s j reason ingress).quiet = s.quiet := by
  unfold State.raDisable
  simp (disch := (first | assumption | omega | (simp only [Fld.FAB_RA_STATj_ACTIVE, Fld.FAB_RA_STATj_DISABLED, Fld.FAB_RA_STATj_REASON, Reg.FAB_RA_STATj]; omega))) only [quiet_mk, quiet_fold, quiet_ite,
      quiet_foldl, ite_self, Bool.false_eq_true, if_true, if_false, State.put_quiet, State.raise_quiet]

theorem quiet_raWindow (s : State) (route ingress : Nat) (h : List Nat) :
    (if 4 ≤ h.length then
      (({ s with fab := { s.fab with history := SMap.set [] s.fab.history route h } }).put (Fld.FAB_RA_STATj_WINDOW route)
        (min 4 h.length)).raDisable route 1 ingress
     else ({ s with fab := { s.fab with history := SMap.set [] s.fab.history route h } }).put (Fld.FAB_RA_STATj_WINDOW route)
        (min 4 h.length)).quiet = s.quiet := by
  have hw : ∀ x : State, (x.put (Fld.FAB_RA_STATj_WINDOW route) (min 4 h.length)).quiet = x.quiet := fun x =>
    State.put_quiet _ _ _ (by simp only [Fld.FAB_RA_STATj_WINDOW, Reg.FAB_RA_STATj]; omega)
  simp only [quiet_ite, State.raDisable_quiet, hw, quiet_mk, quiet_fold, ite_self]

theorem State.raCancelled_quiet (s : State) (route ingress reason : Nat) :
    (State.raCancelled s route ingress reason).quiet = s.quiet := by
  unfold State.raCancelled
  extract_lets s1 s2 s3
  have h1 : s1.quiet = s.quiet := by
    simp (disch := (simp only [Fld.FAB_RA_LAST_ROUTE, Fld.FAB_RA_LAST_REASON, Fld.FAB_RA_LAST_INGRESS, Reg.FAB_RA_LAST]; omega)) only
      [s1, State.put_quiet]
  have h3 : s3.quiet = s.quiet := by
    simp only [s3, s2]
    rw [State.raise_quiet, State.put_quiet _ _ _ (by simp only [Fld.FAB_RA_STATj_CANCELS, Reg.FAB_RA_STATj]; omega), h1]
  clear_value s3
  rw [quiet_ite, h3]
  split
  · rfl
  · exact (quiet_raWindow s3 route ingress _).trans h3

theorem State.setCan_quiet (s : State) (n : Nat) (p : CanPort) : (State.setCan s n p).quiet = s.quiet := by
  unfold State.setCan
  simp (disch := (first | assumption | omega)) only [quiet_mk, quiet_fold, quiet_ite, quiet_foldl, ite_self,
      Bool.false_eq_true, if_true, if_false]

theorem State.fillEnds_quiet (s : State) (port : Nat) : (State.fillEnds s port).quiet = s.quiet := by
  unfold State.fillEnds
  dsimp only
  (repeat' split) <;> first | with_reducible rfl | simp (disch := (first | assumption | omega)) only [quiet_mk, quiet_fold, quiet_ite,
      quiet_foldl, ite_self, Bool.false_eq_true, if_true, if_false]

theorem State.tailLeaves_quiet (s : State) (port : Nat) : (State.tailLeaves s port).quiet = s.quiet := by
  unfold State.tailLeaves
  (repeat' split) <;> first | with_reducible rfl | simp (disch := (first | assumption | omega)) only [quiet_mk, quiet_fold, quiet_ite,
      quiet_foldl, ite_self, Bool.false_eq_true, if_true, if_false, State.emit_quiet, State.fillEnds_quiet]

theorem State.setSending_quiet (s : State) (port : Nat) (c : Option Copy) :
    (State.setSending s port c).quiet = s.quiet := by
  unfold State.setSending
  simp (disch := (first | assumption | omega)) only [quiet_mk, quiet_fold, quiet_ite, quiet_foldl, ite_self,
      Bool.false_eq_true, if_true, if_false, State.showQueues_quiet]

theorem State.setOpportunity_quiet (s : State) (port : Nat) (n : Nat) :
    (State.setOpportunity s port n).quiet = s.quiet := by
  unfold State.setOpportunity
  simp (disch := (first | assumption | omega)) only [quiet_mk, quiet_fold, quiet_ite, quiet_foldl, ite_self,
      Bool.false_eq_true, if_true, if_false]

theorem State.raiseOnce_quiet (s : State) (key : Nat) (code : Nat) (unit : Nat) (detail : List Detail) :
    (State.raiseOnce s key code unit detail).quiet = s.quiet := by
  unfold State.raiseOnce
  simp (disch := (first | assumption | omega)) only [quiet_mk, quiet_fold, quiet_ite, quiet_foldl, ite_self,
      Bool.false_eq_true, if_true, if_false, State.raise_quiet, State.spoke_quiet]

theorem State.plcaLost_quiet (s : State) (k : Nat) : (State.plcaLost s k).quiet = s.quiet := by
  unfold State.plcaLost
  simp (disch := (first | assumption | omega | (simp only [Fld.T1S_Ss_CFG_NODE_ID, Fld.T1S_Ss_STATUS_PLCA_STATUS, Reg.T1S_Ss_CFG, Reg.T1S_Ss_CNTk, Reg.T1S_Ss_STATUS]; omega))) only [quiet_mk, quiet_fold, quiet_ite,
      quiet_foldl, ite_self, Bool.false_eq_true, if_true, if_false, State.count_quiet, State.put_quiet,
      State.raiseOnce_quiet]

theorem State.clearRetrain_quiet (s : State) (port : Nat) : (State.clearRetrain s port).quiet = s.quiet := by
  unfold State.clearRetrain
  simp (disch := (first | assumption | omega)) only [quiet_mk, quiet_fold, quiet_ite, quiet_foldl, ite_self,
      Bool.false_eq_true, if_true, if_false]

theorem State.setWord_quiet (s : State) (unit : Nat) (w : StateWord) : (State.setWord s unit w).quiet = s.quiet := by
  unfold State.setWord
  simp (disch := (first | assumption | omega)) only [quiet_mk, quiet_fold, quiet_ite, quiet_foldl, ite_self,
      Bool.false_eq_true, if_true, if_false]

theorem State.log_quiet (s : State) (type : Nat) (body : Bytes) : (State.log s type body).quiet = s.quiet := by
  unfold State.log
  simp (disch := (first | assumption | omega)) only [quiet_mk, quiet_fold, quiet_ite, quiet_foldl, ite_self,
      Bool.false_eq_true, if_true, if_false, State.buffer_quiet, State.lossCheck_quiet]

theorem State.message_quiet (s : State) (unit : Nat) (code : Nat) (lost : Bool) :
    (State.message s unit code lost).quiet = s.quiet := by
  unfold State.message
  simp (disch := (first | assumption | omega | (simp only [Reg.MGT_CNTk]; omega))) only [quiet_mk, quiet_fold, quiet_ite,
      quiet_foldl, ite_self, Bool.false_eq_true, if_true, if_false, State.count_quiet, State.log_quiet,
      State.setWord_quiet]

theorem State.setQueue_quiet (s : State) (port : Nat) (cls : Nat) (q : List Copy) :
    (State.setQueue s port cls q).quiet = s.quiet := by
  unfold State.setQueue
  simp (disch := (first | assumption | omega)) only [quiet_mk, quiet_fold, quiet_ite, quiet_foldl, ite_self,
      Bool.false_eq_true, if_true, if_false, State.showQueues_quiet]

theorem State.countPort_quiet (s : State) (port : Nat) (k : Nat) (n : Nat) :
    (State.countPort s port k n).quiet = s.quiet := by
  unfold State.countPort
  simp (disch := (first | assumption | omega | (simp only [Reg.FAB_PCNTp_k]; omega))) only [quiet_mk, quiet_fold, quiet_ite,
      quiet_foldl, ite_self, Bool.false_eq_true, if_true, if_false, State.count_quiet]

theorem State.dropCopy_quiet (s : State) (c : Copy) (counter : Nat) (status : Nat) :
    (State.dropCopy s c counter status).quiet = s.quiet := by
  unfold State.dropCopy
  simp (disch := (first | assumption | omega)) only [quiet_mk, quiet_fold, quiet_ite, quiet_foldl, ite_self,
      Bool.false_eq_true, if_true, if_false, State.copyFinal_quiet, State.countPort_quiet]

theorem State.dropHeads_quiet (port k : Nat) (s : State) : (State.dropHeads port k s).quiet = s.quiet := by
  induction k generalizing s with
  | zero => rfl
  | succ k ih =>
    unfold State.dropHeads
    split
    · rfl
    · dsimp only
      rw [ih]
      have h : 0x20000 ≤ (if port < 56 then Reg.T1S_Ss_CNTk (port - 48) 9 else Reg.ETH_Pq_CNTk (port - 56) 10) := by
        split <;> simp only [Reg.T1S_Ss_CNTk, Reg.ETH_Pq_CNTk] <;> omega
      generalize (if port < 56 then Reg.T1S_Ss_CNTk (port - 48) 9 else Reg.ETH_Pq_CNTk (port - 56) 10) = o at h ⊢
      split <;> rw [State.dropCopy_quiet, State.count_quiet _ _ _ h, State.setQueue_quiet]

theorem State.linkDrops_quiet (s : State) (port : Nat) : (State.linkDrops s port).quiet = s.quiet := by
  unfold State.linkDrops
  simp (disch := (first | assumption | omega)) only [quiet_mk, quiet_fold, quiet_ite, quiet_foldl, ite_self,
      Bool.false_eq_true, if_true, if_false, State.dropHeads_quiet]

theorem State.setEthState_quiet (s : State) (port : Nat) (st : Nat) (lost : Bool) :
    (State.setEthState s port st lost).quiet = s.quiet := by
  unfold State.setEthState
  dsimp only
  (repeat' split) <;> first | with_reducible rfl | simp (disch := (first | assumption | omega | (simp only [Fld.ETH_Pq_STATUS_STATE, Fld.T1S_Ss_STATUS_STATE, Reg.ETH_Pq_STATUS, Reg.T1S_Ss_STATUS]; omega))) only [quiet_mk, quiet_fold, quiet_ite,
      quiet_foldl, ite_self, Bool.false_eq_true, if_true, if_false, State.clearRetrain_quiet, State.linkDrops_quiet,
      State.message_quiet, State.plcaLost_quiet, State.put_quiet, State.setOpportunity_quiet]

theorem State.linkReports_quiet (s : State) (q : Nat) (cause : Nat) : (State.linkReports s q cause).quiet = s.quiet := by
  unfold State.linkReports
  simp (disch := (first | assumption | omega | (simp only [Fld.ETH_Pq_STATUS_AN_DONE, Fld.ETH_Pq_STATUS_FEC_LOCK, Fld.ETH_Pq_STATUS_HI_BER, Reg.ETH_Pq_STATUS]; omega))) only [quiet_mk, quiet_fold, quiet_ite,
      quiet_foldl, ite_self, Bool.false_eq_true, if_true, if_false, State.put_quiet]

theorem State.clearWire_quiet (s : State) (port : Nat) : (State.clearWire s port).quiet = s.quiet := by
  unfold State.clearWire
  simp (disch := (first | assumption | omega)) only [quiet_mk, quiet_fold, quiet_ite, quiet_foldl, ite_self,
      Bool.false_eq_true, if_true, if_false]

theorem State.cutCopy_quiet (s : State) (port : Nat) : (State.cutCopy s port).quiet = s.quiet := by
  unfold State.cutCopy
  dsimp only
  (repeat' split) <;> first | with_reducible rfl | simp (disch := (first | assumption | omega | (simp only [Reg.ETH_Pq_CNTk, Reg.T1S_Ss_CNTk]; omega))) only [quiet_mk, quiet_fold, quiet_ite,
      quiet_foldl, ite_self, Bool.false_eq_true, if_true, if_false, State.clearWire_quiet, State.count_quiet,
      State.dropCopy_quiet, State.setSending_quiet]

theorem State.linkDown_quiet (s : State) (port : Nat) (cause : Nat) (lost : Bool) :
    (State.linkDown s port cause lost).quiet = s.quiet := by
  unfold State.linkDown
  simp (disch := (first | assumption | omega)) only [quiet_mk, quiet_fold, quiet_ite, quiet_foldl, ite_self,
      Bool.false_eq_true, if_true, if_false, State.cutCopy_quiet, State.linkReports_quiet, State.raise_quiet,
      State.setEthState_quiet]

theorem State.wireEnds_quiet (s : State) (port : Nat) : (State.wireEnds s port).quiet = s.quiet := by
  unfold State.wireEnds
  simp (disch := (first | assumption | omega)) only [quiet_mk, quiet_fold, quiet_ite, quiet_foldl, ite_self,
      Bool.false_eq_true, if_true, if_false, State.clearWire_quiet, State.linkDown_quiet]

theorem State.destroyCopy_quiet (s : State) (port : Nat) (c : Copy) : (State.destroyCopy s port c).quiet = s.quiet := by
  unfold State.destroyCopy
  dsimp only
  (repeat' split) <;> first | with_reducible rfl | simp (disch := (first | assumption | omega | (simp only [Reg.ETH_Pq_CNTk, Reg.T1S_Ss_CNTk]; omega))) only [quiet_mk, quiet_fold, quiet_ite,
      quiet_foldl, ite_self, Bool.false_eq_true, if_true, if_false, State.copyFinal_quiet, State.count_quiet,
      State.emit_quiet, State.setCan_quiet, State.setSending_quiet, State.tailLeaves_quiet, State.wireEnds_quiet]

theorem State.raCancel_quiet (s : State) (fid : Nat) (reason : Nat) (copies : List (Nat × Copy)) :
    (State.raCancel s fid reason copies).quiet = s.quiet := by
  unfold State.raCancel
  dsimp only
  (repeat' split) <;> first | with_reducible rfl | simp (disch := (first | assumption | omega | (simp only [Reg.FAB_RA_ABORT_CNT]; omega) | (intros; (try dsimp only); (repeat' (split; try (rename_i h; have h2 := congrArg Prod.snd h; dsimp only at h2; subst h2))) <;> simp (disch := (first | assumption | omega | (simp only [Reg.FAB_RA_ABORT_CNT]; omega))) only [quiet_mk, quiet_fold, quiet_ite, quiet_foldl, ite_self, Bool.false_eq_true, if_true, if_false, State.count_quiet, State.destroyCopy_quiet, State.dropInternal_quiet, State.dropWaiting_quiet, State.raCancelled_quiet, State.setRa_quiet]))) only [quiet_mk, quiet_fold, quiet_ite, quiet_foldl, ite_self, Bool.false_eq_true, if_true, if_false, State.count_quiet, State.destroyCopy_quiet, State.dropInternal_quiet, State.dropWaiting_quiet, State.raCancelled_quiet, State.setRa_quiet]

theorem State.raDeadline_quiet (s : State) (egress : Nat) : (State.raDeadline s egress).quiet = s.quiet := by
  unfold State.raDeadline
  (repeat' split) <;> first | with_reducible rfl | simp (disch := (first | assumption | omega)) only [quiet_mk, quiet_fold, quiet_ite,
      quiet_foldl, ite_self, Bool.false_eq_true, if_true, if_false, State.raCancel_quiet, State.setRa_quiet]

theorem State.dropMeasurements_quiet (s : State) : (State.dropMeasurements s).quiet = s.quiet := by
  unfold State.dropMeasurements
  simp (disch := (first | assumption | omega)) only [quiet_mk, quiet_fold, quiet_ite, quiet_foldl, ite_self,
      Bool.false_eq_true, if_true, if_false]

theorem State.showServo_quiet (s : State) : (State.showServo s).quiet = s.quiet := by
  unfold State.showServo
  simp (disch := (first | assumption | omega | (simp only [Fld.TIME_STATUS_SLEW_CLAMPED, Reg.TIME_FREQ, Reg.TIME_STATUS]; omega))) only [quiet_mk, quiet_fold, quiet_ite,
      quiet_foldl, ite_self, Bool.false_eq_true, if_true, if_false, State.put_quiet, State.setReg_quiet]

theorem State.servoRun_quiet (s : State) : (State.servoRun s).quiet = s.quiet := by
  unfold State.servoRun
  simp (disch := (first | assumption | omega)) only [quiet_mk, quiet_fold, quiet_ite, quiet_foldl, ite_self,
      Bool.false_eq_true, if_true, if_false, State.showServo_quiet]

theorem State.follow__quiet (s : State) (sender : Nat) (gm : Nat) : (State.follow_ s sender gm).quiet = s.quiet := by
  unfold State.follow_
  simp (disch := (first | assumption | omega)) only [quiet_mk, quiet_fold, quiet_ite, quiet_foldl, ite_self,
      Bool.false_eq_true, if_true, if_false]

theorem State.setTimeState_quiet (s : State) (st : Nat) : (State.setTimeState s st).quiet = s.quiet := by
  unfold State.setTimeState
  simp (disch := (first | assumption | omega | (simp only [Fld.TIME_STATUS_STATE, Reg.TIME_STATUS]; omega))) only [quiet_mk, quiet_fold, quiet_ite,
      quiet_foldl, ite_self, Bool.false_eq_true, if_true, if_false, State.put_quiet]

theorem State.masterLost_quiet (s : State) : (State.masterLost s).quiet = s.quiet := by
  unfold State.masterLost
  simp (disch := (first | assumption | omega | (simp only [Fld.TIME_STATUS_MASTER_PORT, Reg.TIME_STATUS]; omega))) only [quiet_mk, quiet_fold, quiet_ite,
      quiet_foldl, ite_self, Bool.false_eq_true, if_true, if_false, State.dropMeasurements_quiet, State.follow__quiet,
      State.put_quiet, State.raise_quiet, State.servoRun_quiet, State.setTimeState_quiet, State.showServo_quiet]

theorem State.bmca_quiet (s : State) : (State.bmca s).quiet = s.quiet := by
  unfold State.bmca
  dsimp only
  (repeat' split) <;> first | with_reducible rfl | simp (disch := (first | assumption | omega | (simp only [Fld.TIME_STATUS_MASTER_PORT, Reg.TIME_STATUS]; omega))) only [quiet_mk, quiet_fold, quiet_ite,
      quiet_foldl, ite_self, Bool.false_eq_true, if_true, if_false, State.dropMeasurements_quiet, State.follow__quiet,
      State.masterLost_quiet, State.put_quiet, State.raise_quiet, State.servoRun_quiet, State.setTimeState_quiet,
      State.showServo_quiet]

theorem State.masterTimeout_quiet (s : State) (late : Bool) : (State.masterTimeout s late).quiet = s.quiet := by
  unfold State.masterTimeout
  simp (disch := (first | assumption | omega)) only [quiet_mk, quiet_fold, quiet_ite, quiet_foldl, ite_self,
      Bool.false_eq_true, if_true, if_false, State.bmca_quiet, State.masterLost_quiet]

theorem State.announce_quiet (s : State) (p : Nat) (a : Announce) : (State.announce s p a).quiet = s.quiet := by
  unfold State.announce
  simp (disch := (first | assumption | omega | (simp only [Fld.TIME_PORTp_ANN_TMO, Fld.TIME_PORTp_LOG_ANNOUNCE, Reg.TIME_PORTp]; omega))) only [quiet_mk, quiet_fold, quiet_ite,
      quiet_foldl, ite_self, Bool.false_eq_true, if_true, if_false, State.bmca_quiet]

theorem State.observePort_quiet (s : State) (p : Nat) : (State.observePort s p).quiet = s.quiet := by
  unfold State.observePort
  simp (disch := (first | assumption | omega)) only [quiet_mk, quiet_fold, quiet_ite, quiet_foldl, ite_self,
      Bool.false_eq_true, if_true, if_false, State.observe_quiet]

theorem State.countEth_quiet (s : State) (port : Nat) (k : Nat) (t1s : Option Nat) :
    (State.countEth s port k t1s).quiet = s.quiet := by
  unfold State.countEth
  (repeat' split) <;> first | with_reducible rfl | simp (disch := (first | assumption | omega | (simp only [Reg.ETH_Pq_CNTk, Reg.T1S_Ss_CNTk]; omega))) only [quiet_mk, quiet_fold, quiet_ite,
      quiet_foldl, ite_self, Bool.false_eq_true, if_true, if_false, State.count_quiet]

theorem State.reply_quiet (s : State) (service : Nat) (dst : Nat) (port : Nat) (data : Bytes) :
    (State.reply s service dst port data).quiet = s.quiet := by
  unfold State.reply
  simp (disch := (first | assumption | omega)) only [quiet_mk, quiet_fold, quiet_ite, quiet_foldl, ite_self,
      Bool.false_eq_true, if_true, if_false, State.countEth_quiet, State.emit_quiet, State.observePort_quiet]

theorem State.arpReply_quiet (s : State) (mac : Bytes) (ip : Nat) (target : Nat) :
    (State.arpReply s mac ip target).quiet = s.quiet := by
  unfold State.arpReply
  simp (disch := (first | assumption | omega)) only [quiet_mk, quiet_fold, quiet_ite, quiet_foldl, ite_self,
      Bool.false_eq_true, if_true, if_false, State.reply_quiet]

theorem State.setDomain_quiet (s : State) (d : Nat) (st : Nat) (reason : Nat) (lost : Bool) :
    (State.setDomain s d st reason lost).quiet = s.quiet := by
  unfold State.setDomain
  simp (disch := (first | assumption | omega | (simp only [Fld.PWR_Dd_STAT_REASON, Fld.PWR_Dd_STAT_STATE, Reg.PWR_Dd_STAT]; omega))) only [quiet_mk, quiet_fold, quiet_ite,
      quiet_foldl, ite_self, Bool.false_eq_true, if_true, if_false, State.message_quiet, State.put_quiet]

theorem State.setBrace_quiet (s : State) (st : Nat) : (State.setBrace s st).quiet = s.quiet := by
  unfold State.setBrace
  simp (disch := (first | assumption | omega | (simp only [Fld.PWR_STATUS_BRACE, Reg.PWR_STATUS]; omega))) only [quiet_mk, quiet_fold, quiet_ite,
      quiet_foldl, ite_self, Bool.false_eq_true, if_true, if_false, State.put_quiet]

theorem State.enterRestore_quiet (s : State) (backup : Option Nat) : (State.enterRestore s backup).quiet = s.quiet := by
  unfold State.enterRestore
  simp (disch := (first | assumption | omega | (intros; (try dsimp only); (repeat' (split; try (rename_i h; have h2 := congrArg Prod.snd h; dsimp only at h2; subst h2))) <;> simp (disch := (first | assumption | omega)) only [quiet_mk, quiet_fold, quiet_ite, quiet_foldl, ite_self, Bool.false_eq_true, if_true, if_false, State.setBrace_quiet, State.setDom_quiet, State.setDomain_quiet]))) only [quiet_mk, quiet_fold, quiet_ite, quiet_foldl, ite_self, Bool.false_eq_true, if_true, if_false, State.setBrace_quiet, State.setDom_quiet, State.setDomain_quiet]

theorem State.requeue_quiet (s : State) (port : Nat) (c : Copy) : (State.requeue s port c).quiet = s.quiet := by
  unfold State.requeue
  (repeat' split) <;> first | with_reducible rfl | simp (disch := (first | assumption | omega)) only [quiet_mk, quiet_fold, quiet_ite,
      quiet_foldl, ite_self, Bool.false_eq_true, if_true, if_false, State.release_quiet, State.setQueue_quiet,
      State.setSending_quiet]

theorem State.raFallback_quiet (s : State) (port : Nat) (c : Copy) : (State.raFallback s port c).quiet = s.quiet := by
  unfold State.raFallback
  simp (disch := (first | assumption | omega | (simp only [Reg.FAB_RA_FALLBACK_CNT]; omega))) only [quiet_mk, quiet_fold, quiet_ite,
      quiet_foldl, ite_self, Bool.false_eq_true, if_true, if_false, State.count_quiet, State.requeue_quiet]

theorem State.refuseCopy_quiet (s : State) (c : Copy) : (State.refuseCopy s c).quiet = s.quiet := by
  unfold State.refuseCopy
  simp (disch := (first | assumption | omega | (simp only [Reg.CANP_CNTk]; omega))) only [quiet_mk, quiet_fold, quiet_ite,
      quiet_foldl, ite_self, Bool.false_eq_true, if_true, if_false, State.count_quiet, State.dropCopy_quiet]

theorem State.attemptFails_quiet (s : State) (n : Nat) (oneShot : Nat) :
    (State.attemptFails s n oneShot).quiet = s.quiet := by
  unfold State.attemptFails
  dsimp only
  (repeat' split) <;> first | with_reducible rfl | simp (disch := (first | assumption | omega)) only [quiet_mk, quiet_fold, quiet_ite,
      quiet_foldl, ite_self, Bool.false_eq_true, if_true, if_false, State.copyFinal_quiet, State.dropCopy_quiet,
      State.raFallback_quiet, State.refuseCopy_quiet, State.requeue_quiet, State.setCan_quiet, State.setSending_quiet]

theorem State.setCap_quiet (s : State) (src : Nat) (c : CapSource) : (State.setCap s src c).quiet = s.quiet := by
  unfold State.setCap
  simp (disch := (first | assumption | omega | (simp only [Fld.TIME_CAPu_STAT_BUF, Fld.TIME_CAPu_STAT_OPEN, Fld.TIME_CAPu_STAT_SEQ, Reg.TIME_CAPu_LOST, Reg.TIME_CAPu_STAT]; omega))) only [quiet_mk, quiet_fold, quiet_ite,
      quiet_foldl, ite_self, Bool.false_eq_true, if_true, if_false, State.put_quiet, State.setReg_quiet]

theorem State.capRecord_quiet (s : State) (src : Nat) (flags : Nat) (start : Tai) (stop : Tai) :
    (State.capRecord s src flags start stop).quiet = s.quiet := by
  unfold State.capRecord
  simp (disch := (first | assumption | omega | (simp only [Fld.HIF_RXn_STAT_STATE, Fld.TIME_CAP_RING_EN, Fld.TIME_CAP_RING_RING, Reg.HIF_RXn_STAT, Reg.TIME_CAP_RING]; omega))) only [quiet_mk, quiet_fold, quiet_ite,
      quiet_foldl, ite_self, Bool.false_eq_true, if_true, if_false, State.raise_quiet, State.setCap_quiet,
      State.toRing_quiet]

theorem State.capStart_quiet (s : State) (src : Nat) (t : Tai) : (State.capStart s src t).quiet = s.quiet := by
  unfold State.capStart
  dsimp only
  (repeat' split) <;> first | with_reducible rfl | simp (disch := (first | assumption | omega)) only [quiet_mk, quiet_fold, quiet_ite,
      quiet_foldl, ite_self, Bool.false_eq_true, if_true, if_false, State.capRecord_quiet, State.setCap_quiet]

theorem State.canOpen_quiet (s : State) (n : Nat) (sof : Tai) : (State.canOpen s n sof).quiet = s.quiet := by
  unfold State.canOpen
  simp (disch := (first | assumption | omega)) only [quiet_mk, quiet_fold, quiet_ite, quiet_foldl, ite_self,
      Bool.false_eq_true, if_true, if_false, State.capStart_quiet]

theorem State.noVerdict_quiet (s : State) (fid : Nat) : (State.noVerdict s fid).quiet = s.quiet := by
  unfold State.noVerdict
  (repeat' split) <;> first | with_reducible rfl | simp (disch := (first | assumption | omega)) only [quiet_mk, quiet_fold, quiet_ite,
      quiet_foldl, ite_self, Bool.false_eq_true, if_true, if_false, State.setFrame_quiet]

theorem State.settle_quiet (s : State) (fid : Nat) : (State.settle s fid).quiet = s.quiet := by
  unfold State.settle
  (repeat' split) <;> first | with_reducible rfl | simp (disch := (first | assumption | omega)) only [quiet_mk, quiet_fold, quiet_ite,
      quiet_foldl, ite_self, Bool.false_eq_true, if_true, if_false, State.frameFinal_quiet, State.lose_quiet]

theorem State.raFail_quiet (s : State) (fid : Nat) (reason : Nat) : (State.raFail s fid reason).quiet = s.quiet := by
  unfold State.raFail
  dsimp only
  (repeat' split) <;> first | with_reducible rfl | simp (disch := (first | assumption | omega)) only [quiet_mk, quiet_fold, quiet_ite,
      quiet_foldl, ite_self, Bool.false_eq_true, if_true, if_false, State.dropInternal_quiet, State.dropWaiting_quiet,
      State.lose_quiet, State.noVerdict_quiet, State.raCancel_quiet, State.settle_quiet]

theorem State.arrivalFail_quiet (s : State) (port : Nat) (reason : Nat) :
    (State.arrivalFail s port reason).quiet = s.quiet := by
  unfold State.arrivalFail
  dsimp only
  (repeat' split) <;> first | with_reducible rfl | simp (disch := (first | assumption | omega)) only [quiet_mk, quiet_fold, quiet_ite,
      quiet_foldl, ite_self, Bool.false_eq_true, if_true, if_false, State.raFail_quiet]

theorem State.setTec_quiet (s : State) (n : Nat) (v : Nat) : (State.setTec s n v).quiet = s.quiet := by
  unfold State.setTec
  simp (disch := (first | assumption | omega | (simp only [Fld.CANP_ECNT_TEC, Reg.CANP_ECNT]; omega))) only [quiet_mk, quiet_fold, quiet_ite,
      quiet_foldl, ite_self, Bool.false_eq_true, if_true, if_false, State.put_quiet]

theorem State.setReefState_quiet (s : State) (n : Nat) (st : Nat) : (State.setReefState s n st).quiet = s.quiet := by
  unfold State.setReefState
  simp (disch := (first | assumption | omega | (simp only [Fld.REEF_PORTn_CFG_FORCE_AWAKE, Fld.REEF_PORTn_STAT_STATE, Reg.REEF_PORTn_AWAKE, Reg.REEF_PORTn_CFG, Reg.REEF_PORTn_STAT, Reg.REEF_SLEEP_MAP0, Reg.REEF_SLEEP_MAP1]; omega))) only [quiet_mk, quiet_fold, quiet_ite,
      quiet_foldl, ite_self, Bool.false_eq_true, if_true, if_false, State.put_quiet, State.setReg_quiet]

theorem State.keeperClear_quiet (s : State) (n : Nat) : (State.keeperClear s n).quiet = s.quiet := by
  unfold State.keeperClear
  simp (disch := (first | assumption | omega | (simp only [Reg.REEF_KPn_i_INFO, Reg.REEF_KPn_i_KEY, Reg.REEF_KPn_i_TIME]; omega) | (intros; (try dsimp only); (repeat' (split; try (rename_i h; have h2 := congrArg Prod.snd h; dsimp only at h2; subst h2))) <;> simp (disch := (first | assumption | omega | (simp only [Reg.REEF_KPn_i_INFO, Reg.REEF_KPn_i_KEY, Reg.REEF_KPn_i_TIME]; omega))) only [quiet_mk, quiet_fold, quiet_ite, quiet_foldl, ite_self, Bool.false_eq_true, if_true, if_false, State.setReg_quiet, State.setReg64_quiet]))) only [quiet_mk, quiet_fold, quiet_ite, quiet_foldl, ite_self, Bool.false_eq_true, if_true, if_false, State.setReg_quiet, State.setReg64_quiet]

theorem State.reefAwake_quiet (s : State) (n : Nat) : (State.reefAwake s n).quiet = s.quiet := by
  unfold State.reefAwake
  simp (disch := (first | assumption | omega)) only [quiet_mk, quiet_fold, quiet_ite, quiet_foldl, ite_self,
      Bool.false_eq_true, if_true, if_false, State.keeperClear_quiet, State.setReef_quiet, State.setReefState_quiet]

theorem State.musterMark_quiet (s : State) (n : Nat) : (State.musterMark s n).quiet = s.quiet := by
  unfold State.musterMark
  simp (disch := (first | assumption | omega)) only [quiet_mk, quiet_fold, quiet_ite, quiet_foldl, ite_self,
      Bool.false_eq_true, if_true, if_false]

theorem State.canShow_quiet (s : State) (n : Nat) : (State.canShow s n).quiet = s.quiet := by
  unfold State.canShow
  simp (disch := (first | assumption | omega | (simp only [Fld.CANP_STATUS_TX_ENABLED, Reg.CANP_STATUS]; omega))) only [quiet_mk, quiet_fold, quiet_ite,
      quiet_foldl, ite_self, Bool.false_eq_true, if_true, if_false, State.put_quiet]

theorem State.setRec_quiet (s : State) (n : Nat) (v : Nat) : (State.setRec s n v).quiet = s.quiet := by
  unfold State.setRec
  simp (disch := (first | assumption | omega | (simp only [Fld.CANP_ECNT_REC, Reg.CANP_ECNT]; omega))) only [quiet_mk, quiet_fold, quiet_ite,
      quiet_foldl, ite_self, Bool.false_eq_true, if_true, if_false, State.put_quiet]

theorem State.reefUnmanaged_quiet (s : State) (n : Nat) : (State.reefUnmanaged s n).quiet = s.quiet := by
  unfold State.reefUnmanaged
  simp (disch := (first | assumption | omega)) only [quiet_mk, quiet_fold, quiet_ite, quiet_foldl, ite_self,
      Bool.false_eq_true, if_true, if_false, State.setReef_quiet, State.setReefState_quiet]

theorem State.setCanState_quiet (s : State) (n : Nat) (st : Nat) (lost : Bool) :
    (State.setCanState s n st lost).quiet = s.quiet := by
  unfold State.setCanState
  simp (disch := (first | assumption | omega | (simp only [Fld.CANP_STATUS_STATE, Fld.REEF_PORTn_CFG_SLEEP_EN, Fld.REEF_PORTn_STAT_STATE, Reg.CANP_STATUS, Reg.REEF_PORTn_CFG, Reg.REEF_PORTn_STAT]; omega))) only [quiet_mk, quiet_fold, quiet_ite,
      quiet_foldl, ite_self, Bool.false_eq_true, if_true, if_false, State.canShow_quiet, State.message_quiet,
      State.musterMark_quiet, State.put_quiet, State.reefAwake_quiet, State.reefUnmanaged_quiet, State.setCan_quiet,
      State.setRec_quiet, State.setReef_quiet, State.setTec_quiet, State.showQueues_quiet]

theorem State.frameEnds_quiet (s : State) (n : Nat) : (State.frameEnds s n).quiet = s.quiet := by
  unfold State.frameEnds
  simp (disch := (first | assumption | omega)) only [quiet_mk, quiet_fold, quiet_ite, quiet_foldl, ite_self,
      Bool.false_eq_true, if_true, if_false, State.setCan_quiet, State.setCanState_quiet]

theorem State.countError_quiet (s : State) (n : Nat) (rule : ErrCount) : (State.countError s n rule).quiet = s.quiet := by
  unfold State.countError
  (repeat' split) <;> first | with_reducible rfl | simp (disch := (first | assumption | omega | (simp only [Fld.CANP_ECNT_REC, Fld.CANP_ECNT_TEC, Reg.CANP_ECNT]; omega))) only [quiet_mk, quiet_fold, quiet_ite,
      quiet_foldl, ite_self, Bool.false_eq_true, if_true, if_false, State.setRec_quiet, State.setTec_quiet]

theorem State.captureLost_quiet (s : State) (n : Nat) : (State.captureLost s n).quiet = s.quiet := by
  unfold State.captureLost
  simp (disch := (first | assumption | omega | (simp only [Reg.REEF_CNTn_k]; omega))) only [quiet_mk, quiet_fold, quiet_ite,
      quiet_foldl, ite_self, Bool.false_eq_true, if_true, if_false, State.count_quiet, State.raiseOnce_quiet]

theorem State.loopDelay_quiet (s : State) (n : Nat) (tdcv : Option Nat) : (State.loopDelay s n tdcv).quiet = s.quiet := by
  unfold State.loopDelay
  dsimp only
  (repeat' split) <;> first | with_reducible rfl | simp (disch := (first | assumption | omega | (simp only [Fld.CANP_STATUS_TDCV, Fld.CANP_TDC_FD_EN, Fld.CANP_TDC_XL_EN, Fld.lo, Reg.CANP_STATUS, Reg.CANP_TDC]; omega))) only [quiet_mk, quiet_fold, quiet_ite,
      quiet_foldl, ite_self, Bool.false_eq_true, if_true, if_false, State.put_quiet]

theorem State.holdCut_quiet (s : State) (n : Nat) (cls : Nat) : (State.holdCut s n cls).quiet = s.quiet := by
  unfold State.holdCut
  simp (disch := (first | assumption | omega | (simp only [Fld.FAB_QCFGp_c_HOLD, Reg.FAB_QCFGp_c]; omega) | (intros; (try dsimp only); (repeat' (split; try (rename_i h; have h2 := congrArg Prod.snd h; dsimp only at h2; subst h2))) <;> simp (disch := (first | assumption | omega | (simp only [Fld.FAB_QCFGp_c_HOLD, Reg.FAB_QCFGp_c]; omega))) only [quiet_mk, quiet_fold, quiet_ite, quiet_foldl, ite_self, Bool.false_eq_true, if_true, if_false, State.dropCopy_quiet, State.raiseOnce_quiet, State.setQueue_quiet]))) only [quiet_mk, quiet_fold, quiet_ite, quiet_foldl, ite_self, Bool.false_eq_true, if_true, if_false, State.dropCopy_quiet, State.raiseOnce_quiet, State.setQueue_quiet]

theorem State.busOff_quiet (s : State) (n : Nat) (lost : Bool) : (State.busOff s n lost).quiet = s.quiet := by
  unfold State.busOff
  simp (disch := (first | assumption | omega | (simp only [Fld.CANP_ECNT_TEC, Fld.CANP_LAST_ERR_CODE, Fld.CANP_STATUS_BOFF_PENDING, Fld.CANP_STATUS_BOFF_SEQ, Reg.CANP_CNTk, Reg.CANP_ECNT, Reg.CANP_LAST_ERR, Reg.CANP_STATUS]; omega) | (intros; (try dsimp only); (repeat' (split; try (rename_i h; have h2 := congrArg Prod.snd h; dsimp only at h2; subst h2))) <;> simp (disch := (first | assumption | omega | (simp only [Fld.CANP_ECNT_TEC, Fld.CANP_LAST_ERR_CODE, Fld.CANP_STATUS_BOFF_PENDING, Fld.CANP_STATUS_BOFF_SEQ, Reg.CANP_CNTk, Reg.CANP_ECNT, Reg.CANP_LAST_ERR, Reg.CANP_STATUS]; omega))) only [quiet_mk, quiet_fold, quiet_ite, quiet_foldl, ite_self, Bool.false_eq_true, if_true, if_false, State.count_quiet, State.holdCut_quiet, State.put_quiet, State.raise_quiet, State.setCan_quiet, State.setCanState_quiet]))) only [quiet_mk, quiet_fold, quiet_ite, quiet_foldl, ite_self, Bool.false_eq_true, if_true, if_false, State.count_quiet, State.holdCut_quiet, State.put_quiet, State.raise_quiet, State.setCan_quiet, State.setCanState_quiet]

theorem State.errorState_quiet (s : State) (n : Nat) (lost : Bool) : (State.errorState s n lost).quiet = s.quiet := by
  unfold State.errorState
  simp (disch := (first | assumption | omega | (simp only [Fld.CANP_ECNT_REC, Fld.CANP_ECNT_TEC, Reg.CANP_ECNT]; omega))) only [quiet_mk, quiet_fold, quiet_ite,
      quiet_foldl, ite_self, Bool.false_eq_true, if_true, if_false, State.busOff_quiet, State.raiseOnce_quiet,
      State.setCanState_quiet]

theorem State.canError_quiet (s : State) (n : Nat) (code : Nat) (phase : Nat) (tx : Bool) (rule : ErrCount) (sof16 : Option Nat) (tdcv : Option Nat) (lost : Bool) :
    (State.canError s n code phase tx rule sof16 tdcv lost).quiet = s.quiet := by
  unfold State.canError
  dsimp only
  (repeat' split) <;> first | with_reducible rfl | simp (disch := (first | assumption | omega | (simp only [Fld.CANP_LAST_ERR_CODE, Fld.CANP_LAST_ERR_DIR, Fld.CANP_LAST_ERR_PHASE, Fld.REEF_PORTn_CFG_WAKE_MODE, Fld.REEF_PORTn_STAT_CAP, Reg.CANP_CNTk, Reg.CANP_LAST_ERR, Reg.REEF_CNTn_k, Reg.REEF_PORTn_CFG, Reg.REEF_PORTn_STAT]; omega))) only [quiet_mk, quiet_fold, quiet_ite,
      quiet_foldl, ite_self, Bool.false_eq_true, if_true, if_false, State.arrivalFail_quiet, State.attemptFails_quiet,
      State.canOpen_quiet, State.captureLost_quiet, State.count_quiet, State.countError_quiet, State.errorState_quiet,
      State.frameEnds_quiet, State.loopDelay_quiet, State.put_quiet, State.setReef_quiet]

theorem State.capStop_quiet (s : State) (src : Nat) (t : Tai) : (State.capStop s src t).2.quiet = s.quiet := by
  unfold State.capStop
  dsimp only
  (repeat' split) <;> first | with_reducible rfl | simp (disch := (first | assumption | omega)) only [quiet_mk, quiet_fold, quiet_ite,
      quiet_foldl, ite_self, Bool.false_eq_true, if_true, if_false, State.capRecord_quiet, State.capStart_quiet,
      State.setCap_quiet]

theorem State.canPair_quiet (s : State) (n : Nat) (sof : Tai) (eof : Tai) :
    (State.canPair s n sof eof).2.quiet = s.quiet := by
  unfold State.canPair
  dsimp only
  (repeat' split) <;> first | with_reducible rfl | simp (disch := (first | assumption | omega)) only [quiet_mk, quiet_fold, quiet_ite,
      quiet_foldl, ite_self, Bool.false_eq_true, if_true, if_false, State.capStart_quiet, State.capStop_quiet]

theorem State.partnerEvidence_quiet (s : State) : (State.partnerEvidence s).quiet = s.quiet := by
  unfold State.partnerEvidence
  simp (disch := (first | assumption | omega)) only [quiet_mk, quiet_fold, quiet_ite, quiet_foldl, ite_self,
      Bool.false_eq_true, if_true, if_false]

theorem State.looked_quiet (s : State) (ingress : Nat) (host : Option (Nat × Nat)) (w : Wire) :
    (State.looked s ingress host w).2.quiet = s.quiet := by
  unfold State.looked
  dsimp only
  (repeat' split) <;> first | with_reducible rfl | simp (disch := (first | assumption | omega | (simp only [Reg.FAB_HITj]; omega))) only [quiet_mk, quiet_fold, quiet_ite,
      quiet_foldl, ite_self, Bool.false_eq_true, if_true, if_false, State.count_quiet]

theorem State.startArrival_quiet (s : State) (n : Nat) (w : Wire) (stamp : Tai) :
    (State.startArrival s n w stamp).2.quiet = s.quiet := by
  unfold State.startArrival
  dsimp only
  (repeat' split) <;> first | with_reducible rfl | simp (disch := (first | assumption | omega)) only [quiet_mk, quiet_fold, quiet_ite,
      quiet_foldl, ite_self, Bool.false_eq_true, if_true, if_false, State.looked_quiet]

theorem State.idleRestart_quiet (s : State) (n : Nat) (t : Tai) (isReport : Bool) :
    (State.idleRestart s n t isReport).quiet = s.quiet := by
  unfold State.idleRestart
  simp (disch := (first | assumption | omega | (simp only [Fld.REEF_PORTn_STAT_POST_MUS, Reg.REEF_PORTn_STAT]; omega))) only [quiet_mk, quiet_fold, quiet_ite,
      quiet_foldl, ite_self, Bool.false_eq_true, if_true, if_false, State.put_quiet, State.setReef_quiet]

theorem State.setWins_quiet (s : State) (m : Nat) (l : List MusterWin) : (State.setWins s m l).quiet = s.quiet := by
  unfold State.setWins
  simp (disch := (first | assumption | omega)) only [quiet_mk, quiet_fold, quiet_ite, quiet_foldl, ite_self,
      Bool.false_eq_true, if_true, if_false]

theorem State.keepWin_quiet (s : State) (m : Nat) (w : MusterWin) : (State.keepWin s m w).quiet = s.quiet := by
  unfold State.keepWin
  simp (disch := (first | assumption | omega)) only [quiet_mk, quiet_fold, quiet_ite, quiet_foldl, ite_self,
      Bool.false_eq_true, if_true, if_false, State.setWins_quiet]

theorem State.musterRecord_quiet (s : State) (m : Nat) (outcome : Nat) (flags : Nat) (start : Tai) (sof : Tai) (offset : Int) :
    (State.musterRecord s m outcome flags start sof offset).quiet = s.quiet := by
  unfold State.musterRecord
  simp (disch := (first | assumption | omega | (simp only [Fld.REEF_MUS_RING_EN, Fld.REEF_MUS_RING_RING, Fld.REEF_MUSm_CTRL_NODE, Fld.REEF_MUSm_CTRL_PORT, Fld.REEF_MUSm_STAT_MISSES, Fld.REEF_MUSm_STAT_MULT_LOG, Reg.REEF_MUS_RING, Reg.REEF_MUSm_CTRL, Reg.REEF_MUSm_STAT]; omega))) only [quiet_mk, quiet_fold, quiet_ite,
      quiet_foldl, ite_self, Bool.false_eq_true, if_true, if_false, State.toRing_quiet]

theorem State.queueCorr_quiet (s : State) (n : Nat) (node : Nat) (corr : Int) :
    (State.queueCorr s n node corr).2.quiet = s.quiet := by
  unfold State.queueCorr
  dsimp only
  (repeat' split) <;> first | with_reducible rfl | simp (disch := (first | assumption | omega | (simp only [Reg.REEF_CNTn_k]; omega))) only [quiet_mk, quiet_fold, quiet_ite,
      quiet_foldl, ite_self, Bool.false_eq_true, if_true, if_false, State.count_quiet, State.setReef_quiet]

theorem State.musterDelta_quiet (s : State) (m : Nat) : (State.musterDelta s m).quiet = s.quiet := by
  unfold State.musterDelta
  simp (disch := (first | assumption | omega | (simp only [Fld.REEF_MUSm_CTRL_NODE, Fld.REEF_MUSm_CTRL_PORT, Reg.REEF_MUSm_CTRL, Reg.REEF_MUSm_STAT]; omega))) only [quiet_mk, quiet_fold, quiet_ite,
      quiet_foldl, ite_self, Bool.false_eq_true, if_true, if_false, State.delta_quiet]

theorem State.musterReport_quiet (s : State) (n : Nat) (f : Wire) (sof : Tai) (woken : Bool) :
    (State.musterReport s n f sof woken).2.quiet = s.quiet := by
  unfold State.musterReport
  dsimp only
  (repeat' split) <;> first | with_reducible rfl | simp (disch := (first | assumption | omega | (simp only [Fld.REEF_MUSm_CTRL_NODE, Fld.REEF_MUSm_GUARD_CORR_THR, Fld.REEF_MUSm_GUARD_GUARD, Fld.REEF_MUSm_STAT_DRIFT, Fld.REEF_MUSm_STAT_DRIFT_SUSPECT, Fld.REEF_MUSm_STAT_MISSES, Fld.REEF_MUSm_STAT_MULT_LOG, Reg.REEF_CNTn_k, Reg.REEF_MUSm_CTRL, Reg.REEF_MUSm_GUARD, Reg.REEF_MUSm_STAT]; omega))) only [quiet_mk, quiet_fold, quiet_ite,
      quiet_foldl, ite_self, Bool.false_eq_true, if_true, if_false, State.count_quiet, State.keepWin_quiet,
      State.musterDelta_quiet, State.musterRecord_quiet, State.put_quiet, State.queueCorr_quiet, State.raise_quiet]

theorem State.setKeeper_quiet (s : State) (n : Nat) (i : Nat) (key : Nat) (count : Nat) (own : Bool) (t : Tai) :
    (State.setKeeper s n i key count own t).quiet = s.quiet := by
  unfold State.setKeeper
  simp (disch := (first | assumption | omega | (simp only [Fld.REEF_KPn_i_INFO_COUNT, Fld.REEF_KPn_i_INFO_OWN, Fld.REEF_KPn_i_INFO_VALID, Reg.REEF_KPn_i_INFO, Reg.REEF_KPn_i_KEY, Reg.REEF_KPn_i_TIME]; omega))) only [quiet_mk, quiet_fold, quiet_ite,
      quiet_foldl, ite_self, Bool.false_eq_true, if_true, if_false, State.put_quiet, State.setReg_quiet,
      State.setReg64_quiet]

theorem State.keeper_quiet (s : State) (n key : Nat) (own : Bool) (t : Tai) : (State.keeper s n key own t).quiet = s.quiet := by
  unfold State.keeper
  extract_lets hit s1
  have h1 : s1.quiet = s.quiet := by
    clear_value hit
    simp only [s1]
    cases hit <;> dsimp only <;> rw [State.setKeeper_quiet]
  exact h1

theorem State.reefSees_quiet (s : State) (n : Nat) (w : Wire) (sof : Tai) (t : Tai) (woken : Bool) :
    (State.reefSees s n w sof t woken).2.quiet = s.quiet := by
  unfold State.reefSees
  simp (disch := (first | assumption | omega | (simp only [Fld.REEF_PORTn_CFG_QUAL, Reg.REEF_PORTn_CFG]; omega))) only [quiet_mk, quiet_fold, quiet_ite,
      quiet_foldl, ite_self, Bool.false_eq_true, if_true, if_false, State.idleRestart_quiet, State.keeper_quiet,
      State.musterReport_quiet]

theorem State.takeArrival_quiet (s : State) (n : Nat) (w : Wire) (stamp : Tai) :
    (State.takeArrival s n w stamp).2.quiet = s.quiet := by
  unfold State.takeArrival
  dsimp only
  (repeat' split) <;> first | with_reducible rfl | simp (disch := (first | assumption | omega)) only [quiet_mk, quiet_fold, quiet_ite,
      quiet_foldl, ite_self, Bool.false_eq_true, if_true, if_false, State.startArrival_quiet]

theorem State.lastTry_quiet (s : State) (port : Nat) (cls : Nat) : (State.lastTry s port cls).quiet = s.quiet := by
  unfold State.lastTry
  (repeat' split) <;> first | with_reducible rfl | simp (disch := (first | assumption | omega)) only [quiet_mk, quiet_fold, quiet_ite,
      quiet_foldl, ite_self, Bool.false_eq_true, if_true, if_false, State.setSending_quiet]

theorem State.queueReset_quiet (s : State) (port : Nat) (cls : Nat) : (State.queueReset s port cls).quiet = s.quiet := by
  unfold State.queueReset
  dsimp only
  (repeat' split) <;> first | with_reducible rfl | simp (disch := (first | assumption | omega | (simp only [Reg.FAB_LAST_DISCARDk, Reg.FAB_QRESET_CNT]; omega) | (intros; (try dsimp only); (repeat' (split; try (rename_i h; have h2 := congrArg Prod.snd h; dsimp only at h2; subst h2))) <;> simp (disch := (first | assumption | omega | (simp only [Reg.FAB_LAST_DISCARDk, Reg.FAB_QRESET_CNT]; omega))) only [quiet_mk, quiet_fold, quiet_ite, quiet_foldl, ite_self, Bool.false_eq_true, if_true, if_false, State.count_quiet, State.dropCopy_quiet, State.lastTry_quiet, State.raise_quiet, State.release_quiet, State.setQueue_quiet, State.setReg_quiet]))) only [quiet_mk, quiet_fold, quiet_ite, quiet_foldl, ite_self, Bool.false_eq_true, if_true, if_false, State.count_quiet, State.dropCopy_quiet, State.lastTry_quiet, State.raise_quiet, State.release_quiet, State.setQueue_quiet, State.setReg_quiet]

theorem State.resetQueues_quiet (s : State) (bad : List (Nat × Nat)) : (State.resetQueues s bad).quiet = s.quiet := by
  unfold State.resetQueues
  simp (disch := (first | assumption | omega | (intros; (try dsimp only); (repeat' (split; try (rename_i h; have h2 := congrArg Prod.snd h; dsimp only at h2; subst h2))) <;> simp (disch := (first | assumption | omega)) only [quiet_mk, quiet_fold, quiet_ite, quiet_foldl, ite_self, Bool.false_eq_true, if_true, if_false, State.queueReset_quiet]))) only [quiet_mk, quiet_fold, quiet_ite, quiet_foldl, ite_self, Bool.false_eq_true, if_true, if_false, State.queueReset_quiet]

theorem State.recValid_quiet (s : State) (n : Nat) : (State.recValid s n).quiet = s.quiet := by
  unfold State.recValid
  simp (disch := (first | assumption | omega | (simp only [Fld.CANP_ECNT_REC, Reg.CANP_ECNT]; omega))) only [quiet_mk, quiet_fold, quiet_ite,
      quiet_foldl, ite_self, Bool.false_eq_true, if_true, if_false, State.draw_quiet, State.setRec_quiet]

theorem State.deliver_quiet (s : State) (fid : Nat) (port : Nat) : (State.deliver s fid port).quiet = s.quiet := by
  unfold State.deliver
  dsimp only
  (repeat' split) <;> first | with_reducible rfl | simp (disch := (first | assumption | omega | (simp only [Fld.FAB_CTRL_MISS_RING, Fld.HIF_RXn_STAT_STATE, Reg.FAB_CTRL, Reg.HIF_RXn_STAT]; omega))) only [quiet_mk, quiet_fold, quiet_ite,
      quiet_foldl, ite_self, Bool.false_eq_true, if_true, if_false, State.clearGap_quiet, State.copyFinal_quiet,
      State.countPort_quiet, State.release_quiet, State.rxDrop_quiet, State.toRing_quiet]

theorem State.deliverInternal_quiet (s : State) (fid : Nat) : (State.deliverInternal s fid).quiet = s.quiet := by
  unfold State.deliverInternal
  (repeat' split) <;> first | with_reducible rfl | simp (disch := (first | assumption | omega | (intros; (try dsimp only); (repeat' (split; try (rename_i h; have h2 := congrArg Prod.snd h; dsimp only at h2; subst h2))) <;> simp (disch := (first | assumption | omega)) only [quiet_mk, quiet_fold, quiet_ite, quiet_foldl, ite_self, Bool.false_eq_true, if_true, if_false, State.deliver_quiet, State.release_quiet]))) only [quiet_mk, quiet_fold, quiet_ite, quiet_foldl, ite_self, Bool.false_eq_true, if_true, if_false, State.deliver_quiet, State.release_quiet]

theorem State.mapCopies_quiet (s : State) (g : Copy → Copy) : (State.mapCopies s g).quiet = s.quiet := by
  unfold State.mapCopies
  simp (disch := (first | assumption | omega)) only [quiet_mk, quiet_fold, quiet_ite, quiet_foldl, ite_self,
      Bool.false_eq_true, if_true, if_false]

theorem State.readyCopies_quiet (s : State) (fid : Nat) : (State.readyCopies s fid).quiet = s.quiet := by
  unfold State.readyCopies
  dsimp only
  (repeat' split) <;> first | with_reducible rfl | simp (disch := (first | assumption | omega | (intros; (try dsimp only); (repeat' (split; try (rename_i h; have h2 := congrArg Prod.snd h; dsimp only at h2; subst h2))) <;> simp (disch := (first | assumption | omega)) only [quiet_mk, quiet_fold, quiet_ite, quiet_foldl, ite_self, Bool.false_eq_true, if_true, if_false, State.linkDrops_quiet, State.mapCopies_quiet, State.release_quiet]))) only [quiet_mk, quiet_fold, quiet_ite, quiet_foldl, ite_self, Bool.false_eq_true, if_true, if_false, State.linkDrops_quiet, State.mapCopies_quiet, State.release_quiet]

theorem State.raValid_quiet (s : State) (fid : Nat) (i : Inbound) (r : Route) :
    (State.raValid s fid i r).quiet = s.quiet := by
  unfold State.raValid
  dsimp only
  (repeat' split) <;> first | with_reducible rfl | simp (disch := (first | assumption | omega | (intros; (try dsimp only); (repeat' (split; try (rename_i h; have h2 := congrArg Prod.snd h; dsimp only at h2; subst h2))) <;> simp (disch := (first | assumption | omega)) only [quiet_mk, quiet_fold, quiet_ite, quiet_foldl, ite_self, Bool.false_eq_true, if_true, if_false, State.deliverInternal_quiet, State.fillEnds_quiet, State.mapCopies_quiet, State.readyCopies_quiet, State.setFrame_quiet, State.setRa_quiet]))) only [quiet_mk, quiet_fold, quiet_ite, quiet_foldl, ite_self, Bool.false_eq_true, if_true, if_false, State.deliverInternal_quiet, State.fillEnds_quiet, State.mapCopies_quiet, State.readyCopies_quiet, State.setFrame_quiet, State.setRa_quiet]

theorem State.afaRecord_quiet (s : State) (r : Route) (lane : Nat) (reason : Nat) (ingress : Nat) :
    (State.afaRecord s r lane reason ingress).quiet = s.quiet := by
  unfold State.afaRecord
  simp (disch := (first | assumption | omega | (simp only [Fld.CIPH_AFA_LAST_LANE, Fld.CIPH_AFA_LAST_REASON, Fld.CIPH_AFA_LAST_ROUTE, Reg.CIPH_AFA_LAST, Reg.CIPH_AFA_LAST_TIME]; omega))) only [quiet_mk, quiet_fold, quiet_ite,
      quiet_foldl, ite_self, Bool.false_eq_true, if_true, if_false, State.put_quiet, State.raiseOnce_quiet,
      State.setReg64_quiet]

theorem State.dropNoRoom_quiet (s : State) (i : Inbound) (r : Route) : (State.dropNoRoom s i r).quiet = s.quiet := by
  unfold State.dropNoRoom
  dsimp only
  (repeat' split) <;> first | with_reducible rfl | simp (disch := (first | assumption | omega | (simp only [Reg.CIPH_AFA_CNTk]; omega))) only [quiet_mk, quiet_fold, quiet_ite,
      quiet_foldl, ite_self, Bool.false_eq_true, if_true, if_false, State.afaRecord_quiet, State.count_quiet,
      State.frameFinal_quiet, State.gap_quiet, State.hostFinal_quiet]

theorem State.alloc_quiet (s : State) (f : Frame) : (State.alloc s f).2.quiet = s.quiet := by
  unfold State.alloc
  simp (disch := (first | assumption | omega | (simp only [Fld.FAB_FREE_BLOCKS, Reg.FAB_FREE]; omega))) only [quiet_mk, quiet_fold, quiet_ite,
      quiet_foldl, ite_self, Bool.false_eq_true, if_true, if_false, State.put_quiet]

theorem State.miss_quiet (s : State) (i : Inbound) : (State.miss s i).quiet = s.quiet := by
  unfold State.miss
  dsimp only
  (repeat' split) <;> first | with_reducible rfl | simp (disch := (first | assumption | omega | (simp only [Fld.FAB_CTRL_MISS_DELIVER, Fld.FAB_TUN_ETYPE_ETYPE, Reg.FAB_CTRL, Reg.FAB_TUN_ETYPE]; omega))) only [quiet_mk, quiet_fold, quiet_ite,
      quiet_foldl, ite_self, Bool.false_eq_true, if_true, if_false, State.alloc_quiet, State.countPort_quiet,
      State.deliver_quiet, State.frameFinal_quiet, State.gap_quiet, State.hostFinal_quiet, State.raiseOnce_quiet]

theorem State.enqueue_quiet (s : State) (c : Copy) (cls : Nat) : (State.enqueue s c cls).quiet = s.quiet := by
  unfold State.enqueue
  simp (disch := (first | assumption | omega)) only [quiet_mk, quiet_fold, quiet_ite, quiet_foldl, ite_self,
      Bool.false_eq_true, if_true, if_false, State.setQueue_quiet]

theorem State.reefWake_quiet (s : State) (n : Nat) (reason : Nat) : (State.reefWake s n reason).quiet = s.quiet := by
  unfold State.reefWake
  simp (disch := (first | assumption | omega | (simp only [Fld.REEF_PORTn_STAT_CAP, Fld.REEF_PORTn_STAT_LAST_REASON, Fld.REEF_PORTn_STAT_STATE, Fld.REEF_PORTn_TXWAKE_MODE, Reg.REEF_CNTn_k, Reg.REEF_PORTn_STAT, Reg.REEF_PORTn_TXWAKE]; omega))) only [quiet_mk, quiet_fold, quiet_ite,
      quiet_foldl, ite_self, Bool.false_eq_true, if_true, if_false, State.count_quiet, State.put_quiet,
      State.setReef_quiet]

theorem State.place_quiet (s : State) (c : Copy) (f : Frame) (limit : Bool) :
    (State.place s c f limit).quiet = s.quiet := by
  unfold State.place
  simp (disch := (first | assumption | omega | (simp only [Fld.CANP_MODE_LISTEN, Fld.CANP_STATUS_STATE, Fld.FAB_QCFGp_c_DEPTH, Fld.FAB_QCFGp_c_HOLD, Fld.REEF_PORTn_STAT_STATE, Reg.CANP_MODE, Reg.CANP_STATUS, Reg.FAB_QCFGp_c, Reg.REEF_PORTn_STAT]; omega))) only [quiet_mk, quiet_fold, quiet_ite,
      quiet_foldl, ite_self, Bool.false_eq_true, if_true, if_false, State.dropCopy_quiet, State.enqueue_quiet,
      State.linkDrops_quiet, State.raiseOnce_quiet, State.reefWake_quiet, State.refuseCopy_quiet]

theorem State.dropDomain_quiet (s : State) (c : Copy) : (State.dropDomain s c).quiet = s.quiet := by
  unfold State.dropDomain
  dsimp only
  (repeat' split) <;> first | with_reducible rfl | simp (disch := (first | assumption | omega | (simp only [Reg.ETH_Pq_CNTk, Reg.T1S_Ss_CNTk]; omega))) only [quiet_mk, quiet_fold, quiet_ite,
      quiet_foldl, ite_self, Bool.false_eq_true, if_true, if_false, State.count_quiet, State.dropCopy_quiet]

theorem State.dropHoldFull_quiet (s : State) (d : Nat) (c : Copy) : (State.dropHoldFull s d c).quiet = s.quiet := by
  unfold State.dropHoldFull
  simp (disch := (first | assumption | omega)) only [quiet_mk, quiet_fold, quiet_ite, quiet_foldl, ite_self,
      Bool.false_eq_true, if_true, if_false, State.dropDomain_quiet, State.raiseOnce_quiet]

theorem State.giveBack_quiet (s : State) (c : Copy) : (State.giveBack s c).quiet = s.quiet := by
  unfold State.giveBack
  (repeat' split) <;> first | with_reducible rfl | simp (disch := (first | assumption | omega)) only [quiet_mk, quiet_fold, quiet_ite,
      quiet_foldl, ite_self, Bool.false_eq_true, if_true, if_false, State.place_quiet, State.release_quiet]

theorem State.returnHeld_quiet (s : State) (d : Nat) : (State.returnHeld s d).quiet = s.quiet := by
  unfold State.returnHeld
  simp (disch := (first | assumption | omega | (intros; (try dsimp only); (repeat' (split; try (rename_i h; have h2 := congrArg Prod.snd h; dsimp only at h2; subst h2))) <;> simp (disch := (first | assumption | omega)) only [quiet_mk, quiet_fold, quiet_ite, quiet_foldl, ite_self, Bool.false_eq_true, if_true, if_false, State.giveBack_quiet, State.setDom_quiet]))) only [quiet_mk, quiet_fold, quiet_ite, quiet_foldl, ite_self, Bool.false_eq_true, if_true, if_false, State.giveBack_quiet, State.setDom_quiet]

theorem State.domainBack_quiet (s : State) (d : Nat) (reason : Nat) : (State.domainBack s d reason).quiet = s.quiet := by
  unfold State.domainBack
  simp (disch := (first | assumption | omega)) only [quiet_mk, quiet_fold, quiet_ite, quiet_foldl, ite_self,
      Bool.false_eq_true, if_true, if_false, State.raise_quiet, State.returnHeld_quiet, State.setDomain_quiet]

theorem State.wakeOne_quiet (s : State) (d : Nat) (reason : Nat) : (State.wakeOne s d reason).quiet = s.quiet := by
  unfold State.wakeOne
  simp (disch := (first | assumption | omega)) only [quiet_mk, quiet_fold, quiet_ite, quiet_foldl, ite_self,
      Bool.false_eq_true, if_true, if_false, State.domainBack_quiet, State.setDom_quiet]

theorem State.requestWake_quiet (s : State) (d : Nat) (reason : Nat) :
    (State.requestWake s d reason).quiet = s.quiet := by
  unfold State.requestWake
  simp (disch := (first | assumption | omega | (intros; (try dsimp only); (repeat' (split; try (rename_i h; have h2 := congrArg Prod.snd h; dsimp only at h2; subst h2))) <;> simp (disch := (first | assumption | omega)) only [quiet_mk, quiet_fold, quiet_ite, quiet_foldl, ite_self, Bool.false_eq_true, if_true, if_false, State.wakeOne_quiet]))) only [quiet_mk, quiet_fold, quiet_ite, quiet_foldl, ite_self, Bool.false_eq_true, if_true, if_false, State.wakeOne_quiet]

theorem State.divert_quiet (s : State) (c : Copy) (cls : Nat) : (State.divert s c cls).quiet = s.quiet := by
  unfold State.divert
  simp (disch := (first | assumption | omega | (simp only [Fld.FAB_CLASSc_WOE, Reg.FAB_CLASSc]; omega))) only [quiet_mk, quiet_fold, quiet_ite,
      quiet_foldl, ite_self, Bool.false_eq_true, if_true, if_false, State.dropDomain_quiet, State.dropHoldFull_quiet,
      State.requestWake_quiet, State.setDom_quiet]

theorem State.replayHold_quiet (s : State) (c : Copy) (stamp : Tai) : (State.replayHold s c stamp).quiet = s.quiet := by
  unfold State.replayHold
  dsimp only
  (repeat' split) <;> first | with_reducible rfl | simp (disch := (first | assumption | omega | (simp only [Fld.HAL_RPL_RPL_DEPTH, Reg.HAL_CNTk, Reg.HAL_RPL]; omega))) only [quiet_mk, quiet_fold, quiet_ite,
      quiet_foldl, ite_self, Bool.false_eq_true, if_true, if_false, State.copyFinal_quiet, State.count_quiet,
      State.raiseOnce_quiet]

theorem State.offer_quiet (s : State) (c : Copy) (f : Frame) : (State.offer s c f).quiet = s.quiet := by
  unfold State.offer
  simp (disch := (first | assumption | omega | (simp only [Fld.CANP_MODE_LISTEN, Fld.CANP_STATUS_STATE, Reg.CANP_MODE, Reg.CANP_STATUS, Reg.HAL_CNTk]; omega))) only [quiet_mk, quiet_fold, quiet_ite,
      quiet_foldl, ite_self, Bool.false_eq_true, if_true, if_false, State.copyFinal_quiet, State.count_quiet,
      State.divert_quiet, State.place_quiet, State.refuseCopy_quiet, State.replayHold_quiet]

theorem State.police_quiet (s : State) (r : Route) (len : Nat) : (State.police s r len).2.quiet = s.quiet := by
  unfold State.police
  dsimp only
  (repeat' split) <;> first | with_reducible rfl | simp (disch := (first | assumption | omega | (simp only [Reg.FAB_LIMi_TOK, Reg.RT_LIVE_LIM]; omega))) only [quiet_mk, quiet_fold, quiet_ite,
      quiet_foldl, ite_self, Bool.false_eq_true, if_true, if_false, State.setReg_quiet]

theorem State.dropIngress_quiet (s : State) (i : Inbound) (r : Route) (counter : Nat) (status : Nat) :
    (State.dropIngress s i r counter status).quiet = s.quiet := by
  unfold State.dropIngress
  dsimp only
  (repeat' split) <;> first | with_reducible rfl | simp (disch := (first | assumption | omega)) only [quiet_mk, quiet_fold, quiet_ite,
      quiet_foldl, ite_self, Bool.false_eq_true, if_true, if_false, State.countPort_quiet, State.frameFinal_quiet,
      State.gap_quiet, State.hostFinal_quiet]

theorem State.admitWith_quiet (s : State) (ahead : Bool) (i : Inbound) (l : Looked) :
    (State.admitWith s ahead i l).2.quiet = s.quiet := by
  unfold State.admitWith
  split
  · exact quiet_if rfl (State.miss_quiet _ _)
  · rename_i r
    refine quiet_if2 ?_ ?_
    · have h1 := State.countPort_quiet s i.ingress 3 1
      generalize State.countPort s i.ingress 3 1 = s1 at h1 ⊢
      dsimp only
      cases i.host with
      | none => exact h1
      | some h => exact (State.hostFinal_quiet _ _ _ _ _ _ _ _ _).trans h1
    · have h := State.police_quiet s r i.wire.data.length
      revert h
      rcases s.police r i.wire.data.length with ⟨pass, s1⟩
      intro h
      dsimp -zeta only at h ⊢
      refine quiet_if2 ?_ (quiet_if2 ?_ (quiet_if2 ?_ (quiet_if2 ?_ ?_)))
      · rw [State.raiseOnce_quiet, State.dropIngress_quiet, State.count_quiet _ _ _ (by simp only [Reg.FAB_LIMi_DROP]; omega), h]
      · rw [State.raiseOnce_quiet, State.dropIngress_quiet, h]
      · rw [State.dropIngress_quiet, h]
      · rw [State.dropNoRoom_quiet, h]
      · extract_lets fseq s2 s3 src s4 f s6 ready s7 s8 src2 s9
        have h2 : s2.quiet = s.quiet := (State.countPort_quiet _ _ _ _).trans h
        have h3 : s3.quiet = s.quiet := quiet_if h2 ((State.observePort_quiet _ _).trans h2)
        have h4 : s4.quiet = s.quiet := by simp only [s4, quiet_mk, src, quiet_fold, h3]
        have h5 := (State.alloc_quiet s4 f).trans h4
        have h6 : s6.quiet = s.quiet := by simp only [s6, quiet_mk, quiet_fold, h5]
        have h7 : s7.quiet = s.quiet := (quiet_foldl _ (fun _ _ => State.offer_quiet _ _ _) _ _).trans h6
        have h8 : s8.quiet = s.quiet := by simp only [s8, quiet_mk, quiet_fold, h7]
        have h9 : s9.quiet = s.quiet := by
          refine quiet_if ?_ h8
          simp only [quiet_mk, quiet_fold, h8]
        refine quiet_if2 h8 (quiet_if2 ?_ ?_)
        · simp only [quiet_mk, quiet_fold, h8]
        · exact (State.deliverInternal_quiet _ _).trans h9

theorem State.enter_quiet (s : State) (i : Inbound) (l : Looked) : (State.enter s i l).quiet = s.quiet := by
  unfold State.enter
  simp (disch := (first | assumption | omega)) only [quiet_mk, quiet_fold, quiet_ite, quiet_foldl, ite_self,
      Bool.false_eq_true, if_true, if_false, State.admitWith_quiet]

theorem State.received_quiet (s : State) (i : Inbound) (a : Arrival) : (State.received s i a).quiet = s.quiet := by
  unfold State.received
  (repeat' split) <;> first | with_reducible rfl | simp (disch := (first | assumption | omega | (simp only [Reg.CANP_CNTk]; omega))) only [quiet_mk, quiet_fold, quiet_ite,
      quiet_foldl, ite_self, Bool.false_eq_true, if_true, if_false, State.count_quiet, State.enter_quiet,
      State.raValid_quiet]

theorem State.frameBegins_quiet (s : State) (n : Nat) : (State.frameBegins s n).quiet = s.quiet := by
  unfold State.frameBegins
  simp (disch := (first | assumption | omega)) only [quiet_mk, quiet_fold, quiet_ite, quiet_foldl, ite_self,
      Bool.false_eq_true, if_true, if_false, State.setCan_quiet]

theorem State.canFrameValid_quiet (s : State) (n : Nat) (w : Wire) (sof16 : Nat) (eof16 : Nat) (bad : List (Nat × Nat)) (t : Tai) :
    (State.canFrameValid s n w sof16 eof16 bad t).quiet = s.quiet := by
  unfold State.canFrameValid
  simp (disch := (first | assumption | omega | (simp only [Fld.HAL_EVID_CAN_BCN, Fld.REEF_PORTn_STAT_CAP, Reg.CANP_CNTk, Reg.HAL_EVID, Reg.REEF_PORTn_STAT]; omega))) only [quiet_mk, quiet_fold, quiet_ite,
      quiet_foldl, ite_self, Bool.false_eq_true, if_true, if_false, State.canPair_quiet, State.captureLost_quiet,
      State.count_quiet, State.errorState_quiet, State.frameBegins_quiet, State.frameEnds_quiet,
      State.partnerEvidence_quiet, State.put_quiet, State.recValid_quiet, State.received_quiet, State.reefSees_quiet,
      State.resetQueues_quiet, State.setReef_quiet, State.startArrival_quiet, State.takeArrival_quiet]

theorem State.refuseQueues_quiet (s : State) (n : Nat) : (State.refuseQueues s n).quiet = s.quiet := by
  unfold State.refuseQueues
  extract_lets s1 d x held s2 rpl src s3
  have h1 : s1.quiet = s.quiet := by
    refine quiet_foldl _ (fun x c => ?_) _ _
    exact (quiet_foldl (fun (s : State) (c : Copy) => s.refuseCopy c) (fun _ _ => State.refuseCopy_quiet _ _) _ _).trans
      (State.setQueue_quiet _ _ _ _)
  clear_value s1
  have h2 : s2.quiet = s.quiet := (State.setDom_quiet _ _ _).trans h1
  have h3 : s3.quiet = s.quiet := by simp only [s3, quiet_mk, quiet_fold, h2]
  exact (quiet_foldl (fun (s : State) (c : Copy) => s.refuseCopy c) (fun _ _ => State.refuseCopy_quiet _ _) _ _).trans h3

theorem State.lastAttempt_quiet (s : State) (n : Nat) : (State.lastAttempt s n).quiet = s.quiet := by
  unfold State.lastAttempt
  simp (disch := (first | assumption | omega)) only [quiet_mk, quiet_fold, quiet_ite, quiet_foldl, ite_self,
      Bool.false_eq_true, if_true, if_false, State.setCan_quiet]

theorem State.canListen_quiet (s : State) (n : Nat) : (State.canListen s n).quiet = s.quiet := by
  unfold State.canListen
  simp (disch := (first | assumption | omega)) only [quiet_mk, quiet_fold, quiet_ite, quiet_foldl, ite_self,
      Bool.false_eq_true, if_true, if_false, State.canShow_quiet, State.lastAttempt_quiet, State.refuseQueues_quiet]

theorem State.canOff_quiet (s : State) (n : Nat) : (State.canOff s n).quiet = s.quiet := by
  unfold State.canOff
  simp (disch := (first | assumption | omega)) only [quiet_mk, quiet_fold, quiet_ite, quiet_foldl, ite_self,
      Bool.false_eq_true, if_true, if_false, State.arrivalFail_quiet, State.lastAttempt_quiet, State.refuseQueues_quiet,
      State.setCanState_quiet]

theorem State.canOn_quiet (s : State) (n : Nat) (lost : Bool) : (State.canOn s n lost).quiet = s.quiet := by
  unfold State.canOn
  simp (disch := (first | assumption | omega | (simp only [Fld.CANP_STATUS_BOFF_PENDING, Reg.CANP_STATUS]; omega))) only [quiet_mk, quiet_fold, quiet_ite,
      quiet_foldl, ite_self, Bool.false_eq_true, if_true, if_false, State.busOff_quiet, State.setCanState_quiet]

theorem State.originDone_quiet (s : State) (n : Nat) (f : Frame) (w : Wire) (stamp : Tai) (t : Tai) :
    (State.originDone s n f w stamp t).quiet = s.quiet := by
  unfold State.originDone
  dsimp only
  (repeat' split) <;> first | with_reducible rfl | simp (disch := (first | assumption | omega)) only [quiet_mk, quiet_fold, quiet_ite,
      quiet_foldl, ite_self, Bool.false_eq_true, if_true, if_false, State.idleRestart_quiet, State.keeper_quiet,
      State.setReef_quiet]

theorem State.canTxDone_quiet (s : State) (n : Nat) (sof16 : Nat) (eof16 : Nat) (tdcv : Option Nat) (t : Tai) :
    (State.canTxDone s n sof16 eof16 tdcv t).quiet = s.quiet := by
  unfold State.canTxDone
  dsimp only
  (repeat' split) <;> first | with_reducible rfl | simp (disch := (first | assumption | omega | (simp only [Fld.CANP_ECNT_TEC, Reg.CANP_ECNT]; omega))) only [quiet_mk, quiet_fold, quiet_ite,
      quiet_foldl, ite_self, Bool.false_eq_true, if_true, if_false, State.canFrameValid_quiet, State.canPair_quiet,
      State.copyFinal_quiet, State.countPort_quiet, State.emit_quiet, State.errorState_quiet, State.frameBegins_quiet,
      State.frameEnds_quiet, State.loopDelay_quiet, State.originDone_quiet, State.setCan_quiet, State.setRa_quiet,
      State.setSending_quiet, State.setTec_quiet]

theorem State.startCopy_quiet (s : State) (port : Nat) (cls : Nat) (c : Copy) :
    (State.startCopy s port cls c).quiet = s.quiet := by
  unfold State.startCopy
  simp (disch := (first | assumption | omega)) only [quiet_mk, quiet_fold, quiet_ite, quiet_foldl, ite_self,
      Bool.false_eq_true, if_true, if_false, State.observePort_quiet, State.setQueue_quiet, State.setSending_quiet]

theorem State.canTxStart_quiet (s : State) (n : Nat) (fault : Bool) : (State.canTxStart s n fault).quiet = s.quiet := by
  unfold State.canTxStart
  dsimp only
  (repeat' split) <;> first | with_reducible rfl | simp (disch := (first | assumption | omega)) only [quiet_mk, quiet_fold, quiet_ite,
      quiet_foldl, ite_self, Bool.false_eq_true, if_true, if_false, State.emit_quiet, State.frameBegins_quiet,
      State.queueReset_quiet, State.startCopy_quiet]

theorem State.markHeld_quiet (s : State) (n : Nat) : (State.markHeld s n).quiet = s.quiet := by
  unfold State.markHeld
  simp (disch := (first | assumption | omega)) only [quiet_mk, quiet_fold, quiet_ite, quiet_foldl, ite_self,
      Bool.false_eq_true, if_true, if_false]

theorem State.busOn_quiet (s : State) (n : Nat) (seqs : Nat) : (State.busOn s n seqs).quiet = s.quiet := by
  unfold State.busOn
  simp (disch := (first | assumption | omega | (simp only [Fld.CANP_STATUS_BOFF_PENDING, Fld.CANP_STATUS_BOFF_SEQ, Reg.CANP_STATUS]; omega))) only [quiet_mk, quiet_fold, quiet_ite,
      quiet_foldl, ite_self, Bool.false_eq_true, if_true, if_false, State.markHeld_quiet, State.put_quiet,
      State.raise_quiet, State.setCanState_quiet, State.setRec_quiet, State.setTec_quiet]

theorem State.timingSet_quiet (s : State) (n : Nat) (busy : Bool) : (State.timingSet s n busy).quiet = s.quiet := by
  unfold State.timingSet
  extract_lets s1 s2 e s3 s4 st x s5
  have h1 : s1.quiet = s.quiet := by simp only [s1, quiet_mk, quiet_fold]
  have h2 : s2.quiet = s.quiet :=
    (State.put_quiet _ _ _ (by simp only [Fld.CANP_STATUS_TIMING_PENDING, Reg.CANP_STATUS]; omega)).trans h1
  have h3 : s3.quiet = s.quiet := (State.orReg_quiet _ _ _ (by simp only [Reg.CANP_CFG_ERR]; omega)).trans h2
  have h4 : s4.quiet = s.quiet :=
    (quiet_foldl (fun (s : State) o => s.setLive o (s.reg o)) (fun _ _ => State.setLive_quiet _ _ _) _ _).trans h2
  have h5 : s5.quiet = s.quiet :=
    quiet_if ((State.put_quiet _ _ _ (by simp only [Fld.CANP_STATUS_BOFF_SEQ, Reg.CANP_STATUS]; omega)).trans h4)
      (quiet_if (quiet_if ((State.setCan_quiet _ _ _).trans h4) ((State.setCanState_quiet _ _ _ _).trans h4)) h4)
  exact quiet_if (quiet_if ((State.raise_quiet _ _ _ _).trans h3) h5) rfl

theorem State.raRecheck_quiet (s : State) (port : Option Nat) : (State.raRecheck s port).quiet = s.quiet := by
  unfold State.raRecheck
  simp (disch := (first | assumption | omega | (simp only [Fld.FAB_RA_STATj_DISABLED, Reg.FAB_RA_STATj]; omega) | (intros; (try dsimp only); (repeat' (split; try (rename_i h; have h2 := congrArg Prod.snd h; dsimp only at h2; subst h2))) <;> simp (disch := (first | assumption | omega | (simp only [Fld.FAB_RA_STATj_DISABLED, Reg.FAB_RA_STATj]; omega))) only [quiet_mk, quiet_fold, quiet_ite, quiet_foldl, ite_self, Bool.false_eq_true, if_true, if_false, State.raDisable_quiet]))) only [quiet_mk, quiet_fold, quiet_ite, quiet_foldl, ite_self, Bool.false_eq_true, if_true, if_false, State.raDisable_quiet]

theorem State.timingApply_quiet (s : State) (n : Nat) (busy : Bool) : (State.timingApply s n busy).quiet = s.quiet := by
  unfold State.timingApply
  simp (disch := (first | assumption | omega)) only [quiet_mk, quiet_fold, quiet_ite, quiet_foldl, ite_self,
      Bool.false_eq_true, if_true, if_false, State.raRecheck_quiet, State.timingSet_quiet]

theorem State.captureStart_quiet (s : State) (u : Nat) (t : Tai) (withStop : Bool) :
    (State.captureStart s u t withStop).quiet = s.quiet := by
  unfold State.captureStart
  dsimp only
  (repeat' split) <;> first | with_reducible rfl | simp (disch := (first | assumption | omega)) only [quiet_mk, quiet_fold, quiet_ite,
      quiet_foldl, ite_self, Bool.false_eq_true, if_true, if_false, State.capRecord_quiet, State.capStart_quiet,
      State.setCap_quiet]

theorem State.captureStop_quiet (s : State) (u : Nat) (t : Tai) : (State.captureStop s u t).quiet = s.quiet := by
  unfold State.captureStop
  have h := State.capStop_quiet s u t
  revert h
  rcases s.capStop u t with ⟨o, s1⟩
  intro h
  cases o with
  | none => exact h
  | some t0 => exact (State.capRecord_quiet _ _ _ _ _).trans h

theorem State.retireKey_quiet (s : State) (n : Nat) (reason : Nat) : (State.retireKey s n reason).quiet = s.quiet := by
  unfold State.retireKey
  simp (disch := (first | assumption | omega | (simp only [Fld.CIPH_KSn_STAT_REASON, Fld.CIPH_KSn_STAT_STATE, Reg.CIPH_KSn_STAT]; omega))) only [quiet_mk, quiet_fold, quiet_ite,
      quiet_foldl, ite_self, Bool.false_eq_true, if_true, if_false, State.put_quiet, State.raise_quiet]

theorem quiet_lsec (l a c : Nat) : 0x20000 ≤ (Fld.LSEC_TXSA_CTRL_VALID l a).off ∧ 0x20000 ≤ (Fld.LSEC_RXSA_CTRL_VALID l c a).off ∧
    0x20000 ≤ (Fld.LSEC_RXSC_CTRL_VALID l c).off := by
  refine ⟨?_, ?_, ?_⟩ <;> simp only [Fld.LSEC_TXSA_CTRL_VALID, Fld.LSEC_RXSA_CTRL_VALID, Reg.LSEC_TXSA_CTRL, Reg.LSEC_RXSA_CTRL,
    Fld.LSEC_RXSC_CTRL_VALID, Reg.LSEC_RXSC_CTRL] <;> omega

theorem quiet_putAll (fs : List Fld) (h : ∀ f ∈ fs, 0x20000 ≤ f.off) (s : State) :
    (fs.foldl (fun (s : State) (f : Fld) => s.putBoth f 0) s).quiet = s.quiet := by
  induction fs generalizing s with
  | nil => rfl
  | cons f fs ih =>
    rw [List.foldl_cons, ih (fun g hg => h g (List.mem_cons_of_mem _ hg)), State.putBoth_quiet _ _ _ (h f (List.mem_cons_self ..))]

theorem State.lsecErase_quiet (s : State) : (State.lsecErase s).quiet = s.quiet := by
  unfold State.lsecErase
  dsimp only
  rw [quiet_putAll]
  · have h := quiet_of_regs s (s.regs.filter fun e => !(decide (0x190000 ≤ e.1 ∧ e.1 < 0x194000) &&
      ((decide (0x100 ≤ e.1 % 0x1000 ∧ e.1 % 0x1000 < 0x300) && decide (e.1 % 0x1000 % 0x80 < 0x2C)) ||
       (decide (0x400 ≤ e.1 % 0x1000) && decide (0x40 ≤ (e.1 % 0x1000 - 0x400) % 0x180) &&
         decide ((e.1 % 0x1000 - 0x400) % 0x40 < 0x2C))))) fun o ho => SMap.get_filter _ _ _ _ fun v => by
        have : decide (0x190000 ≤ o ∧ o < 0x194000) = false := by simp only [decide_eq_false_iff_not]; omega
        rw [this]; rfl
    exact h
  · intro f hf
    simp only [List.mem_flatMap, List.mem_append, List.mem_map, List.mem_cons] at hf
    obtain ⟨l, -, ⟨a, -, rfl⟩ | ⟨c, -, rfl | ⟨a, -, rfl⟩⟩⟩ := hf
    · exact (quiet_lsec l a 0).1
    · exact (quiet_lsec l 0 c).2.2
    · exact (quiet_lsec l a c).2.1

theorem State.jobFinal_quiet (s : State) (j : Job) (status : Nat) : (State.jobFinal s j status).quiet = s.quiet := by
  unfold State.jobFinal
  simp (disch := (first | assumption | omega | (simp only [Fld.FAB_FREE_BLOCKS, Reg.FAB_FREE]; omega))) only [quiet_mk, quiet_fold, quiet_ite,
      quiet_foldl, ite_self, Bool.false_eq_true, if_true, if_false, State.hostFinal_quiet, State.put_quiet]

theorem State.alarm_quiet (s : State) (source : Nat) : (State.alarm s source).quiet = s.quiet := by
  unfold State.alarm
  dsimp only
  (repeat' split) <;> first | with_reducible rfl | simp (disch := (first | assumption | omega | (simp only [Fld.CIPH_KSn_STAT_REASON, Fld.CIPH_STATUS_ALARM_LATCHED, Reg.CIPH_ALARM, Reg.CIPH_KSn_STAT, Reg.CIPH_STATUS]; omega) | (intros; (try dsimp only); (repeat' (split; try (rename_i h; have h2 := congrArg Prod.snd h; dsimp only at h2; subst h2))) <;> simp (disch := (first | assumption | omega | (simp only [Fld.CIPH_KSn_STAT_REASON, Fld.CIPH_STATUS_ALARM_LATCHED, Reg.CIPH_ALARM, Reg.CIPH_KSn_STAT, Reg.CIPH_STATUS]; omega))) only [quiet_mk, quiet_fold, quiet_ite, quiet_foldl, ite_self, Bool.false_eq_true, if_true, if_false, State.jobFinal_quiet, State.lsecErase_quiet, State.orReg_quiet, State.put_quiet, State.raise_quiet, State.retireKey_quiet]))) only [quiet_mk, quiet_fold, quiet_ite, quiet_foldl, ite_self, Bool.false_eq_true, if_true, if_false, State.jobFinal_quiet, State.lsecErase_quiet, State.orReg_quiet, State.put_quiet, State.raise_quiet, State.retireKey_quiet]

theorem State.alarmClear_quiet (s : State) (ones : Nat) : (State.alarmClear s ones).quiet = s.quiet := by
  unfold State.alarmClear
  simp (disch := (first | assumption | omega | (simp only [Fld.CIPH_STATUS_ALARM_LATCHED, Reg.CIPH_ALARM, Reg.CIPH_STATUS]; omega))) only [quiet_mk, quiet_fold, quiet_ite,
      quiet_foldl, ite_self, Bool.false_eq_true, if_true, if_false, State.put_quiet, State.setReg_quiet]

theorem State.begin_quiet (s : State) : (State.begin s).quiet = s.quiet := by
  unfold State.begin
  simp (disch := (first | assumption | omega)) only [quiet_mk, quiet_fold, quiet_ite, quiet_foldl, ite_self,
      Bool.false_eq_true, if_true, if_false]

theorem State.keyLow_quiet (s : State) (n : Nat) : (State.keyLow s n).quiet = s.quiet := by
  unfold State.keyLow
  simp (disch := (first | assumption | omega | (simp only [Reg.CIPH_KSn_WARN]; omega))) only [quiet_mk, quiet_fold, quiet_ite,
      quiet_foldl, ite_self, Bool.false_eq_true, if_true, if_false, State.raise_quiet]

theorem State.forgetPartner_quiet (s : State) : (State.forgetPartner s).quiet = s.quiet := by
  unfold State.forgetPartner
  simp (disch := (simp only [Fld.HAL_STATUS_PRESENCE, Fld.HAL_STATUS_PARTNER_LOST, Fld.HAL_STATUS_SKEW,
    Fld.HAL_STATUS_LINE_FAULT, Fld.HAL_STATUS_PARTNER_ROLE, Reg.HAL_STATUS]; omega)) only
    [List.foldl_cons, List.foldl_nil, State.put_quiet, quiet_mk, quiet_fold]

theorem State.setRole_quiet (s : State) (role : Nat) (reason : Nat) : (State.setRole s role reason).quiet = s.quiet := by
  unfold State.setRole
  dsimp only
  (repeat' split) <;> first | with_reducible rfl | simp (disch := (first | assumption | omega | (simp only [Fld.HAL_STATUS_ROLE, Fld.HAL_STATUS_SHADOW_VALID, Reg.HAL_CNTk, Reg.HAL_LAST_CHANGE, Reg.HAL_STATUS]; omega))) only [quiet_mk, quiet_fold, quiet_ite,
      quiet_foldl, ite_self, Bool.false_eq_true, if_true, if_false, State.count_quiet, State.forgetPartner_quiet,
      State.message_quiet, State.put_quiet, State.raise_quiet, State.setReg64_quiet]

theorem State.showBeaconing_quiet (s : State) (k : Nat) : (State.showBeaconing s k).quiet = s.quiet := by
  unfold State.showBeaconing
  simp (disch := (first | assumption | omega | (simp only [Fld.T1S_Ss_STATUS_BEACONING, Reg.T1S_Ss_STATUS]; omega))) only [quiet_mk, quiet_fold, quiet_ite,
      quiet_foldl, ite_self, Bool.false_eq_true, if_true, if_false, State.put_quiet]

theorem State.claimShow_quiet (s : State) : (State.claimShow s).quiet = s.quiet := by
  unfold State.claimShow
  simp (disch := (first | assumption | omega | (intros; (try dsimp only); (repeat' (split; try (rename_i h; have h2 := congrArg Prod.snd h; dsimp only at h2; subst h2))) <;> simp (disch := (first | assumption | omega)) only [quiet_mk, quiet_fold, quiet_ite, quiet_foldl, ite_self, Bool.false_eq_true, if_true, if_false, State.canShow_quiet, State.showBeaconing_quiet]))) only [quiet_mk, quiet_fold, quiet_ite, quiet_foldl, ite_self, Bool.false_eq_true, if_true, if_false, State.canShow_quiet, State.showBeaconing_quiet]

theorem State.keepPads_quiet (before : State) (s : State) : (State.keepPads before s).quiet = s.quiet := by
  unfold State.keepPads
  simp (disch := (first | assumption | omega | (intros; (try dsimp only); (repeat' (split; try (rename_i h; have h2 := congrArg Prod.snd h; dsimp only at h2; subst h2))) <;> simp (disch := (first | assumption | omega)) only [quiet_mk, quiet_fold, quiet_ite, quiet_foldl, ite_self, Bool.false_eq_true, if_true, if_false]))) only [quiet_mk, quiet_fold, quiet_ite, quiet_foldl, ite_self, Bool.false_eq_true, if_true, if_false]

theorem State.pinsUnclaimed_quiet (before : State) (s : State) : (State.pinsUnclaimed before s).quiet = s.quiet := by
  unfold State.pinsUnclaimed
  simp (disch := (first | assumption | omega)) only [quiet_mk, quiet_fold, quiet_ite, quiet_foldl, ite_self,
      Bool.false_eq_true, if_true, if_false, State.keepPads_quiet]

theorem State.claimCut_quiet (s : State) (port : Nat) : (State.claimCut s port).2.quiet = s.quiet := by
  unfold State.claimCut
  dsimp only
  (repeat' split) <;> first | with_reducible rfl | simp (disch := (first | assumption | omega | (simp only [Fld.SER_Cc_STATUS_DE, Fld.SER_Cc_STATUS_TX_BUSY, Reg.SER_Cc_STATUS]; omega))) only [quiet_mk, quiet_fold, quiet_ite,
      quiet_foldl, ite_self, Bool.false_eq_true, if_true, if_false, State.emit_quiet, State.put_quiet,
      State.setCan_quiet, State.setSending_quiet]

theorem State.claimDrop_quiet (s : State) (port : Nat) : (State.claimDrop s port).quiet = s.quiet := by
  unfold State.claimDrop
  simp (disch := (first | assumption | omega | (intros; (try dsimp only); (repeat' (split; try (rename_i h; have h2 := congrArg Prod.snd h; dsimp only at h2; subst h2))) <;> simp (disch := (first | assumption | omega)) only [quiet_mk, quiet_fold, quiet_ite, quiet_foldl, ite_self, Bool.false_eq_true, if_true, if_false, State.claimCut_quiet, State.offer_quiet, State.setQueue_quiet]))) only [quiet_mk, quiet_fold, quiet_ite, quiet_foldl, ite_self, Bool.false_eq_true, if_true, if_false, State.claimCut_quiet, State.offer_quiet, State.setQueue_quiet]

theorem State.claimLost_quiet (s : State) : (State.claimLost s).quiet = s.quiet := by
  unfold State.claimLost
  simp (disch := (first | assumption | omega | (simp only [Fld.HAL_STATUS_CLAIMED, Reg.HAL_STATUS]; omega) | (intros; (try dsimp only); (repeat' (split; try (rename_i h; have h2 := congrArg Prod.snd h; dsimp only at h2; subst h2))) <;> simp (disch := (first | assumption | omega | (simp only [Fld.HAL_STATUS_CLAIMED, Reg.HAL_STATUS]; omega))) only [quiet_mk, quiet_fold, quiet_ite, quiet_foldl, ite_self, Bool.false_eq_true, if_true, if_false, State.claimDrop_quiet, State.claimShow_quiet, State.pinsUnclaimed_quiet, State.put_quiet]))) only [quiet_mk, quiet_fold, quiet_ite, quiet_foldl, ite_self, Bool.false_eq_true, if_true, if_false, State.claimDrop_quiet, State.claimShow_quiet, State.pinsUnclaimed_quiet, State.put_quiet]

theorem State.fenceTimeout_quiet (s : State) : (State.fenceTimeout s).quiet = s.quiet := by
  unfold State.fenceTimeout
  simp (disch := (first | assumption | omega | (simp only [Fld.HAL_CFG_EVIDENCE_EN, Fld.HAL_CFG_FENCE_BEATS, Reg.HAL_CFG]; omega))) only [quiet_mk, quiet_fold, quiet_ite,
      quiet_foldl, ite_self, Bool.false_eq_true, if_true, if_false]

theorem State.loneWindow_quiet (s : State) (dominant : Bool) : (State.loneWindow s dominant).quiet = s.quiet := by
  unfold State.loneWindow
  simp (disch := (first | assumption | omega | (simp only [Reg.HAL_CNTk]; omega))) only [quiet_mk, quiet_fold, quiet_ite,
      quiet_foldl, ite_self, Bool.false_eq_true, if_true, if_false, State.count_quiet, State.raise_quiet]

theorem State.presenceFault_quiet (s : State) (seen : Bool) : (State.presenceFault s seen).quiet = s.quiet := by
  unfold State.presenceFault
  simp (disch := (first | assumption | omega | (simp only [Fld.HAL_STATUS_LINE_FAULT, Fld.HAL_STATUS_SKEW, Reg.HAL_SKEW, Reg.HAL_STATUS]; omega))) only [quiet_mk, quiet_fold, quiet_ite,
      quiet_foldl, ite_self, Bool.false_eq_true, if_true, if_false, State.put_quiet, State.raise_quiet]

theorem State.splitBrain_quiet (s : State) : (State.splitBrain s).quiet = s.quiet := by
  unfold State.splitBrain
  simp (disch := (first | assumption | omega | (simp only [Fld.HAL_STATUS_PARTNER_LOST, Reg.HAL_STATUS]; omega))) only [quiet_mk, quiet_fold, quiet_ite,
      quiet_foldl, ite_self, Bool.false_eq_true, if_true, if_false, State.raise_quiet, State.setRole_quiet]

theorem State.judgeHeartbeat_quiet (s : State) : (State.judgeHeartbeat s).2.quiet = s.quiet := by
  unfold State.judgeHeartbeat
  dsimp only
  (repeat' split) <;> first | with_reducible rfl | simp (disch := (first | assumption | omega | (simp only [Fld.HAL_STATUS_PARTNER_LOST, Reg.HAL_CNTk, Reg.HAL_STATUS]; omega))) only [quiet_mk, quiet_fold, quiet_ite,
      quiet_foldl, ite_self, Bool.false_eq_true, if_true, if_false, State.count_quiet, State.put_quiet]

theorem State.pinsYield_quiet (s : State) (partnerWon : Bool) : (State.pinsYield s partnerWon).quiet = s.quiet := by
  unfold State.pinsYield
  simp (disch := (first | assumption | omega)) only [quiet_mk, quiet_fold, quiet_ite, quiet_foldl, ite_self,
      Bool.false_eq_true, if_true, if_false]

theorem State.pairWindow_quiet (s : State) (ext cut : Nat) (tick : Bool) : (State.pairWindow s ext cut tick).quiet = s.quiet := by
  unfold State.pairWindow
  have h0 := State.judgeHeartbeat_quiet s
  revert h0
  rcases s.judgeHeartbeat with ⟨newLoss, s0⟩
  intro h0
  dsimp -zeta only at h0 ⊢
  extract_lets seen s1 src s2 s3 s4 s5 score number bid w0 w1 w2 w3 w fault win winner won s6 s7 s8 s9 s10 s11 src2
  have h1 : s1.quiet = s.quiet := (State.put_quiet _ _ _ (by simp only [Fld.HAL_STATUS_PRESENCE, Reg.HAL_STATUS]; omega)).trans h0
  have h2 : s2.quiet = s.quiet := by simp only [s2, quiet_mk, src, quiet_fold, h1]
  have h3 : s3.quiet = s.quiet := quiet_if ((State.raise_quiet _ _ _ _).trans h2) h2
  have h4 : s4.quiet = s.quiet :=
    quiet_if ((State.put_quiet _ _ _ (by simp only [Fld.HAL_STATUS_LINE_FAULT, Reg.HAL_STATUS]; omega)).trans h3) h3
  have h5 : s5.quiet = s.quiet := (State.splitBrain_quiet _).trans ((State.presenceFault_quiet _ _).trans h4)
  have h6 : ∀ o : Option Nat, (match o with
      | some p => (s5.put Fld.HAL_STATUS_LINE_FAULT 1).raise 0x0F06 unitPartner [n4 p]
      | none => s5).quiet = s.quiet := by
    intro o
    cases o with
    | none => exact h5
    | some p =>
      exact (State.raise_quiet _ _ _ _).trans
        ((State.put_quiet _ _ _ (by simp only [Fld.HAL_STATUS_LINE_FAULT, Reg.HAL_STATUS]; omega)).trans h5)
  replace h6 : s6.quiet = s.quiet := h6 fault
  have h7 : s7.quiet = s.quiet := (State.put_quiet _ _ _ (by simp only [Fld.HAL_CLAIM_WINNER, Reg.HAL_CLAIM]; omega)).trans
    ((State.put_quiet _ _ _ (by simp only [Fld.HAL_CLAIM_LOCAL, Reg.HAL_CLAIM]; omega)).trans h6)
  have h8 : s8.quiet = s.quiet := quiet_if ((State.count_quiet _ _ _ (by simp only [Reg.HAL_CNTk]; omega)).trans h7) h7
  have h9 : s9.quiet = s.quiet := quiet_if ((State.count_quiet _ _ _ (by simp only [Reg.HAL_CNTk]; omega)).trans h8) h8
  have h10 : s10.quiet = s.quiet := (State.emit_quiet _ _).trans h9
  have h11 : s11.quiet = s.quiet := (State.pinsYield_quiet _ _).trans h10
  simp only [quiet_mk, src2, quiet_fold, h11]

theorem State.claimWindow_quiet (s : State) (ext : Nat) (cut : Nat) (tick : Bool) (t : Tai) :
    (State.claimWindow s ext cut tick t).quiet = s.quiet := by
  unfold State.claimWindow
  dsimp only
  (repeat' split) <;> first | with_reducible rfl | simp (disch := (first | assumption | omega | (simp only [Fld.HAL_HEALTH_SCORE, Reg.HAL_HEALTH]; omega))) only [quiet_mk, quiet_fold, quiet_ite,
      quiet_foldl, ite_self, Bool.false_eq_true, if_true, if_false, State.fenceTimeout_quiet, State.loneWindow_quiet,
      State.pairWindow_quiet, State.put_quiet]

theorem State.parityFault_quiet (s : State) (requester : Nat) (slot : Nat) :
    (State.parityFault s requester slot).quiet = s.quiet := by
  unfold State.parityFault
  dsimp only
  (repeat' split) <;> first | with_reducible rfl | simp (disch := (first | assumption | omega | (simp only [Reg.CIPH_PARITY_CNT]; omega))) only [quiet_mk, quiet_fold, quiet_ite,
      quiet_foldl, ite_self, Bool.false_eq_true, if_true, if_false, State.alarm_quiet, State.count_quiet,
      State.raise_quiet]

theorem State.reserve_quiet (s : State) (n : Nat) : (State.reserve s n).quiet = s.quiet := by
  unfold State.reserve
  dsimp only
  (repeat' split) <;> first | with_reducible rfl | simp (disch := (first | assumption | omega)) only [quiet_mk, quiet_fold, quiet_ite,
      quiet_foldl, ite_self, Bool.false_eq_true, if_true, if_false]

theorem State.keyLimitReached_quiet (s : State) (n : Nat) : (State.keyLimitReached s n).quiet = s.quiet := by
  unfold State.keyLimitReached
  simp (disch := (first | assumption | omega)) only [quiet_mk, quiet_fold, quiet_ite, quiet_foldl, ite_self,
      Bool.false_eq_true, if_true, if_false, State.retireKey_quiet]

theorem State.useKey_quiet (s : State) (n : Nat) : (State.useKey s n).quiet = s.quiet := by
  unfold State.useKey
  simp (disch := (first | assumption | omega | (simp only [Reg.CIPH_KSn_USED]; omega))) only [quiet_mk, quiet_fold, quiet_ite,
      quiet_foldl, ite_self, Bool.false_eq_true, if_true, if_false, State.count_quiet, State.keyLimitReached_quiet,
      State.keyLow_quiet, State.reserve_quiet]

theorem State.operate_quiet (s : State) (requester : Nat) (slot : Nat) (attr : Nat) (blocks : Nat) (mismatches : Nat) :
    (State.operate s requester slot attr blocks mismatches).2.quiet = s.quiet := by
  unfold State.operate
  dsimp only
  (repeat' split) <;> first | with_reducible rfl | simp (disch := (first | assumption | omega)) only [quiet_mk, quiet_fold, quiet_ite,
      quiet_foldl, ite_self, Bool.false_eq_true, if_true, if_false, State.parityFault_quiet, State.useKey_quiet]

theorem State.stageLoad_quiet (s : State) (slot : Nat) (size : Nat) (attr : Nat) (limit : Nat) (key : Bytes) :
    (State.stageLoad s slot size attr limit key).quiet = s.quiet := by
  unfold State.stageLoad
  simp (disch := (first | assumption | omega | (simp only [Fld.CIPH_KSn_STAT_STATE, Reg.CIPH_KSn_STAT]; omega))) only [quiet_mk, quiet_fold, quiet_ite,
      quiet_foldl, ite_self, Bool.false_eq_true, if_true, if_false, State.put_quiet]

theorem State.jobWrite_quiet (s : State) (addr : Nat) (data : Bytes) : (State.jobWrite s addr data).quiet = s.quiet := by
  unfold State.jobWrite
  simp (disch := (first | assumption | omega | (simp only [Fld.HIF_STATUS_LINK_UP, Reg.HIF_STATUS]; omega))) only [quiet_mk, quiet_fold, quiet_ite,
      quiet_foldl, ite_self, Bool.false_eq_true, if_true, if_false, State.emit_quiet]

theorem quiet_jobEnd (s : State) (j : Job) (n status : Nat) :
    (if s.ciph.jobs.length = n then s.jobFinal j status else s).quiet = s.quiet := by
  simp only [quiet_ite, State.jobFinal_quiet, ite_self]

theorem State.runHostJob_quiet (s : State) (mismatches : Nat) : (State.runHostJob s mismatches).quiet = s.quiet := by
  unfold State.runHostJob
  split
  · rfl
  · split
    · rw [State.jobFinal_quiet]
    · rename_i j rest _ _ _
      extract_lets cost src s1
      have h1 : s1.quiet = s.quiet := by simp only [s1, quiet_mk, quiet_fold]
      split
      · rw [State.put_quiet _ _ _ (by simp only [Fld.CIPH_LOCK_OWNER, Reg.CIPH_LOCK]; omega)]
        exact h1
      · have h := (State.operate_quiet s1 2 j.slot j.attrNeeded j.work mismatches).trans h1
        revert h
        rcases State.operate s1 2 j.slot j.attrNeeded j.work mismatches with ⟨u, t⟩
        intro h
        cases u with
        | done key =>
          dsimp only at h ⊢
          rcases t.jobOutput j key with ⟨st, out⟩
          dsimp only
          simp only [quiet_ite, State.jobFinal_quiet, State.stageLoad_quiet, State.jobWrite_quiet, h, ite_self]
        | exhausted => exact (quiet_jobEnd _ _ _ _).trans h
        | usage => exact (quiet_jobEnd _ _ _ _).trans h
        | fault => exact (quiet_jobEnd _ _ _ _).trans h

theorem State.jobOf_quiet (s : State) (op : Nat) (mismatches : Nat) : (State.jobOf s op mismatches).quiet = s.quiet := by
  unfold State.jobOf
  simp (disch := (first | assumption | omega | (simp only [Fld.BEAT_STATUS_SLOT_CUR, Reg.BEAT_STATUS]; omega))) only [quiet_mk, quiet_fold, quiet_ite,
      quiet_foldl, ite_self, Bool.false_eq_true, if_true, if_false, State.runHostJob_quiet]

theorem State.commitValidated_quiet (s : State) : (State.commitValidated s).quiet = s.quiet := by
  unfold State.commitValidated
  dsimp only
  (repeat' split) <;> first | with_reducible rfl | simp (disch := (first | assumption | omega | (simp only [Fld.FAB_STATUS_COMMIT, Reg.FAB_COMMIT_RES, Reg.FAB_STATUS]; omega))) only [quiet_mk, quiet_fold, quiet_ite,
      quiet_foldl, ite_self, Bool.false_eq_true, if_true, if_false, State.put_quiet, State.raise_quiet,
      State.setReg_quiet]

theorem State.domainClose_quiet (s : State) (d : Nat) (reason : Nat) :
    (State.domainClose s d reason).quiet = s.quiet := by
  unfold State.domainClose
  simp (disch := (first | assumption | omega)) only [quiet_mk, quiet_fold, quiet_ite, quiet_foldl, ite_self,
      Bool.false_eq_true, if_true, if_false, State.keepPads_quiet, State.setDom_quiet, State.setDomain_quiet]

theorem State.setSer_quiet (s : State) (c : Nat) (x : SerChan) : (State.setSer s c x).quiet = s.quiet := by
  unfold State.setSer
  simp (disch := (first | assumption | omega | (simp only [Fld.SER_Cc_STATUS_RX_FRAME, Reg.SER_Cc_STATUS]; omega))) only [quiet_mk, quiet_fold, quiet_ite,
      quiet_foldl, ite_self, Bool.false_eq_true, if_true, if_false, State.put_quiet]

theorem State.serClose_quiet (s : State) (c : Nat) (cause : Nat) (bad : List (Nat × Nat)) :
    (State.serClose s c cause bad).quiet = s.quiet := by
  unfold State.serClose
  dsimp only
  (repeat' split) <;> first | with_reducible rfl | simp (disch := (first | assumption | omega | (simp only [Reg.SER_Cc_CNTk]; omega))) only [quiet_mk, quiet_fold, quiet_ite,
      quiet_foldl, ite_self, Bool.false_eq_true, if_true, if_false, State.count_quiet, State.enter_quiet,
      State.looked_quiet, State.resetQueues_quiet, State.setSer_quiet]

theorem State.sweepCopy_quiet (s : State) (d : Nat) (c : Copy) : (State.sweepCopy s d c).quiet = s.quiet := by
  unfold State.sweepCopy
  dsimp only
  (repeat' split) <;> first | with_reducible rfl | simp (disch := (first | assumption | omega | (simp only [Fld.FAB_CLASSc_WOE, Reg.FAB_CLASSc]; omega))) only [quiet_mk, quiet_fold, quiet_ite,
      quiet_foldl, ite_self, Bool.false_eq_true, if_true, if_false, State.dropDomain_quiet, State.dropHoldFull_quiet,
      State.setDom_quiet]

theorem State.sweep_quiet (s : State) (d : Nat) : (State.sweep s d).quiet = s.quiet := by
  unfold State.sweep
  extract_lets copies s1 newer src s2
  have h1 : s1.quiet = s.quiet :=
    quiet_foldl _ (fun _ _ => quiet_foldl _ (fun _ _ => quiet_if rfl (State.setQueue_quiet _ _ _ _)) _ _) _ _
  have h2 : s2.quiet = s.quiet := (State.setDom_quiet _ _ _).trans h1
  exact (quiet_foldl _ (fun _ _ => State.sweepCopy_quiet _ _ _) _ _).trans h2

theorem State.domainWaking_quiet (s : State) (d : Nat) : (State.domainWaking s d).quiet = s.quiet := by
  unfold State.domainWaking
  dsimp only
  (repeat' split) <;> first | with_reducible rfl | simp (disch := (first | assumption | omega)) only [quiet_mk, quiet_fold, quiet_ite,
      quiet_foldl, ite_self, Bool.false_eq_true, if_true, if_false, State.setDom_quiet, State.setDomain_quiet]

theorem State.setPn_quiet (s : State) (off v : Nat) (h : 0x20000 ≤ off) : (State.setPn s off v).quiet = s.quiet := by
  unfold State.setPn
  exact quiet_if rfl (State.setReg64_quiet _ _ _ h)

theorem State.secReceive_quiet (s : State) (l : Nat) (data : Bytes) : (State.secReceive s l data).2.quiet = s.quiet := by
  unfold State.secReceive
  dsimp only
  (repeat' split) <;> first | with_reducible rfl | simp (disch := (first | assumption | omega | (simp only [Fld.LSEC_Ll_CTRL_CONF_OFS, Fld.LSEC_Ll_CTRL_REPLAY_PROT, Fld.LSEC_Ll_CTRL_VALIDATE, Fld.LSEC_RXSA_CTRL_VALID, Reg.LSEC_Ll_CNTk, Reg.LSEC_Ll_CTRL, Reg.LSEC_Ll_REPLAY_WIN, Reg.LSEC_RXSA_CTRL, Reg.LSEC_RXSA_KEY, Reg.LSEC_RXSA_PN, Reg.LSEC_RXSA_SALT, Reg.LSEC_RXSA_SSCI, Reg.LSEC_RXSC_SCI]; omega))) only [quiet_mk, quiet_fold, quiet_ite,
      quiet_foldl, ite_self, Bool.false_eq_true, if_true, if_false, State.count_quiet, State.setPn_quiet]

theorem State.ptpDiscard_quiet (s : State) : (State.ptpDiscard s).quiet = s.quiet := by
  unfold State.ptpDiscard
  simp (disch := (first | assumption | omega | (simp only [Reg.TIME_PTP_DISCARD]; omega))) only [quiet_mk, quiet_fold, quiet_ite,
      quiet_foldl, ite_self, Bool.false_eq_true, if_true, if_false, State.count32_quiet]

theorem State.countSent_quiet (s : State) (port : Nat) (mark : Nat) : (State.countSent s port mark).quiet = s.quiet := by
  unfold State.countSent
  simp (disch := (first | assumption | omega | (simp only [Reg.LSEC_Ll_CNTk]; omega))) only [quiet_mk, quiet_fold, quiet_ite,
      quiet_foldl, ite_self, Bool.false_eq_true, if_true, if_false, State.count_quiet, State.countEth_quiet]

theorem State.secTake_quiet (s : State) (l : Nat) (userLen : Nat) : (State.secTake s l userLen).2.quiet = s.quiet := by
  unfold State.secTake
  dsimp only
  (repeat' split) <;> first | with_reducible rfl | simp (disch := (first | assumption | omega | (simp only [Fld.LSEC_Ll_CTRL_CONF, Fld.LSEC_Ll_CTRL_CONF_OFS, Fld.LSEC_Ll_CTRL_INCLUDE_SCI, Fld.LSEC_Ll_CTRL_TX_AN, Fld.LSEC_TXSA_CTRL_EXHAUSTED, Fld.LSEC_TXSA_CTRL_VALID, Reg.LSEC_Ll_CTRL, Reg.LSEC_Ll_PN_THR, Reg.LSEC_Ll_SCI, Reg.LSEC_TXSA_CTRL, Reg.LSEC_TXSA_KEY, Reg.LSEC_TXSA_PN, Reg.LSEC_TXSA_SALT, Reg.LSEC_TXSA_SSCI]; omega))) only [quiet_mk, quiet_fold, quiet_ite,
      quiet_foldl, ite_self, Bool.false_eq_true, if_true, if_false, State.put_quiet, State.raise_quiet, State.setPn_quiet]

theorem State.secSend_quiet (s : State) (port : Nat) (bypass : Bool) (userLen : Nat) :
    (State.secSend s port bypass userLen).2.quiet = s.quiet := by
  unfold State.secSend
  (repeat' split) <;> first | with_reducible rfl | simp (disch := (first | assumption | omega)) only [quiet_mk, quiet_fold, quiet_ite,
      quiet_foldl, ite_self, Bool.false_eq_true, if_true, if_false, State.secTake_quiet]

theorem State.ptpLeaves_quiet (s : State) (port : Nat) (out : Option (Nat × Nat) → Output) :
    (State.ptpLeaves s port out).quiet = s.quiet := by
  unfold State.ptpLeaves
  dsimp only
  (repeat' split) <;> first | with_reducible rfl | simp (disch := (first | assumption | omega | (simp only [Fld.LSEC_Ll_CTRL_PTP_BYPASS, Reg.LSEC_Ll_CNTk, Reg.LSEC_Ll_CTRL]; omega))) only [quiet_mk, quiet_fold, quiet_ite,
      quiet_foldl, ite_self, Bool.false_eq_true, if_true, if_false, State.count_quiet, State.countSent_quiet,
      State.emit_quiet, State.observePort_quiet, State.secSend_quiet]

theorem State.ptpRelay_quiet (s : State) (port : Nat) (d : Bytes) (stamp : Tai) :
    (State.ptpRelay s port d stamp).quiet = s.quiet := by
  unfold State.ptpRelay
  simp (disch := (first | assumption | omega | (simp only [Fld.TIME_PORTp_P2P, Reg.TIME_PORTp]; omega) | (intros; (try dsimp only); (repeat' (split; try (rename_i h; have h2 := congrArg Prod.snd h; dsimp only at h2; subst h2))) <;> simp (disch := (first | assumption | omega | (simp only [Fld.TIME_PORTp_P2P, Reg.TIME_PORTp]; omega))) only [quiet_mk, quiet_fold, quiet_ite, quiet_foldl, ite_self, Bool.false_eq_true, if_true, if_false, State.ptpLeaves_quiet]))) only [quiet_mk, quiet_fold, quiet_ite, quiet_foldl, ite_self, Bool.false_eq_true, if_true, if_false, State.ptpLeaves_quiet]

theorem State.ptpReceived_quiet (s : State) (port : Nat) (d : Bytes) (stamp : Tai) (unsupported : Bool) :
    (State.ptpReceived s port d stamp unsupported).quiet = s.quiet := by
  unfold State.ptpReceived
  simp (disch := (first | assumption | omega)) only [quiet_mk, quiet_fold, quiet_ite, quiet_foldl, ite_self,
      Bool.false_eq_true, if_true, if_false, State.countEth_quiet, State.ptpDiscard_quiet, State.ptpRelay_quiet]

theorem State.classify_quiet (s : State) (port : Nat) (d : Bytes) (stamp : Tai) (unsupported : Bool) :
    (State.classify s port d stamp unsupported).quiet = s.quiet := by
  unfold State.classify
  simp (disch := (first | assumption | omega | (simp only [Fld.ETH_Pq_MODE_PROMISC, Reg.ETH_Pq_MODE]; omega))) only [quiet_mk, quiet_fold, quiet_ite,
      quiet_foldl, ite_self, Bool.false_eq_true, if_true, if_false, State.countEth_quiet, State.enter_quiet,
      State.looked_quiet, State.ptpReceived_quiet]

theorem State.ethReceived_quiet (s : State) (port : Nat) (data : Bytes) (edge16 : Nat) (fcsOk unsupported : Bool)
    (bad : List (Nat × Nat)) : (State.ethReceived s port data edge16 fcsOk unsupported bad).quiet = s.quiet := by
  unfold State.ethReceived
  refine quiet_if rfl (quiet_if (State.countEth_quiet _ _ _ _) (quiet_if (State.countEth_quiet _ _ _ _)
    (quiet_if (State.countEth_quiet _ _ _ _) ?_)))
  dsimp only
  have h1 := (State.resetQueues_quiet (s.countEth port 0 (some 0)) bad).trans (State.countEth_quiet _ _ _ _)
  generalize (s.countEth port 0 (some 0)).resetQueues bad = s1 at h1 ⊢
  refine quiet_if ?_ ((State.classify_quiet _ _ _ _ _).trans h1)
  have h2 := (State.secReceive_quiet s1 (port - 56) data).trans h1
  revert h2
  rcases s1.secReceive (port - 56) data with ⟨d, s2⟩
  intro h2
  cases d with
  | none => exact h2
  | some d => exact quiet_if ((State.countEth_quiet _ _ _ _).trans h2) (quiet_if ((State.countEth_quiet _ _ _ _).trans h2)
      ((State.classify_quiet _ _ _ _ _).trans h2))

theorem State.shrShow_quiet (s : State) (p : Nat) (code : Nat) (set : Bool) :
    (State.shrShow s p code set).quiet = s.quiet := by
  unfold State.shrShow
  simp (disch := (first | assumption | omega | (simp only [Fld.PWR_STATUS_BKUP_OK, Fld.SHR_CANn_STAT_THERMAL, Fld.SHR_SENSE_STAT_BKUP_REVERSED, Fld.SHR_SENSE_STAT_MAIN_REVERSED, Fld.T1S_Ss_STATUS_POL_CORRECTED, Reg.PWR_STATUS, Reg.SHR_CANn_STAT, Reg.SHR_SENSE_STAT, Reg.SHR_T1Ss_STAT, Reg.T1S_Ss_STATUS]; omega))) only [quiet_mk, quiet_fold, quiet_ite,
      quiet_foldl, ite_self, Bool.false_eq_true, if_true, if_false, State.put_quiet, State.setReg_quiet]

theorem State.setShr_quiet (s : State) (p : Nat) (x : ShrLine) : (State.setShr s p x).quiet = s.quiet := by
  unfold State.setShr
  simp (disch := (first | assumption | omega)) only [quiet_mk, quiet_fold, quiet_ite, quiet_foldl, ite_self,
      Bool.false_eq_true, if_true, if_false]

theorem State.shrClear_quiet (s : State) (p : Nat) (code : Nat) : (State.shrClear s p code).quiet = s.quiet := by
  unfold State.shrClear
  dsimp only
  (repeat' split) <;> first | with_reducible rfl | simp (disch := (first | assumption | omega | (simp only [Fld.SHR_ACTIVE_COUNT, Reg.SHR_ACTIVE]; omega))) only [quiet_mk, quiet_fold, quiet_ite,
      quiet_foldl, ite_self, Bool.false_eq_true, if_true, if_false, State.put_quiet, State.raiseOnce_quiet,
      State.setShr_quiet, State.shrShow_quiet]

theorem State.shrSet_quiet (s : State) (p : Nat) (code : Nat) (value : Int) :
    (State.shrSet s p code value).quiet = s.quiet := by
  unfold State.shrSet
  simp (disch := (first | assumption | omega | (simp only [Fld.SHR_ACTIVE_COUNT, Reg.SHR_ACTIVE, Reg.SHR_CNTc]; omega))) only [quiet_mk, quiet_fold, quiet_ite,
      quiet_foldl, ite_self, Bool.false_eq_true, if_true, if_false, State.count_quiet, State.put_quiet,
      State.raiseOnce_quiet, State.setShr_quiet, State.shrShow_quiet]

theorem State.shrConfirm_quiet (s : State) (p : Nat) (cls : Nat) (codes : List Nat) (value : Int) :
    (State.shrConfirm s p cls codes value).quiet = s.quiet := by
  unfold State.shrConfirm
  simp (disch := (first | assumption | omega | (simp only [Fld.SHR_CFG_CONFIRM, Reg.SHR_CFG]; omega) | (intros; (try dsimp only); (repeat' (split; try (rename_i h; have h2 := congrArg Prod.snd h; dsimp only at h2; subst h2))) <;> simp (disch := (first | assumption | omega | (simp only [Fld.SHR_CFG_CONFIRM, Reg.SHR_CFG]; omega))) only [quiet_mk, quiet_fold, quiet_ite, quiet_foldl, ite_self, Bool.false_eq_true, if_true, if_false, State.setShr_quiet, State.shrClear_quiet, State.shrSet_quiet]))) only [quiet_mk, quiet_fold, quiet_ite, quiet_foldl, ite_self, Bool.false_eq_true, if_true, if_false, State.setShr_quiet, State.shrClear_quiet, State.shrSet_quiet]

theorem State.shrAmplitude_quiet (s : State) (port : Nat) (mv : Nat) :
    (State.shrAmplitude s port mv).quiet = s.quiet := by
  unfold State.shrAmplitude
  simp (disch := (first | assumption | omega | (simp only [Fld.SHR_T1Ss_AMP_MV, Reg.SHR_T1Ss_AMP]; omega))) only [quiet_mk, quiet_fold, quiet_ite,
      quiet_foldl, ite_self, Bool.false_eq_true, if_true, if_false, State.put_quiet, State.shrConfirm_quiet]

theorem State.ethTxDone_quiet (s : State) (port : Nat) (edge16 : Nat) :
    (State.ethTxDone s port edge16).quiet = s.quiet := by
  unfold State.ethTxDone
  dsimp only
  (repeat' split) <;> first | with_reducible rfl | simp (disch := (first | assumption | omega)) only [quiet_mk, quiet_fold, quiet_ite,
      quiet_foldl, ite_self, Bool.false_eq_true, if_true, if_false, State.copyFinal_quiet, State.countPort_quiet,
      State.countSent_quiet, State.emit_quiet, State.setRa_quiet, State.setSending_quiet, State.tailLeaves_quiet,
      State.wireEnds_quiet]

theorem State.ethBytes_quiet (s : State) (port : Nat) (f : Frame) (c : Copy) :
    (State.ethBytes s port f c).2.2.quiet = s.quiet := by
  unfold State.ethBytes
  dsimp only
  (repeat' split) <;> first | with_reducible rfl | simp (disch := (first | assumption | omega)) only [quiet_mk, quiet_fold, quiet_ite,
      quiet_foldl, ite_self, Bool.false_eq_true, if_true, if_false, State.clearGap_quiet]

theorem State.ethTxStart_quiet (s : State) (port : Nat) (fault : Bool) :
    (State.ethTxStart s port fault).quiet = s.quiet := by
  unfold State.ethTxStart
  dsimp only
  (repeat' split) <;> first | with_reducible rfl | simp (disch := (first | assumption | omega | (simp only [Reg.LSEC_Ll_CNTk]; omega))) only [quiet_mk, quiet_fold, quiet_ite,
      quiet_foldl, ite_self, Bool.false_eq_true, if_true, if_false, State.copyFinal_quiet, State.count_quiet,
      State.emit_quiet, State.ethBytes_quiet, State.linkDrops_quiet, State.queueReset_quiet, State.secSend_quiet,
      State.setOpportunity_quiet, State.setQueue_quiet, State.startCopy_quiet]

theorem State.raClear_quiet (s : State) (j : Nat) (ingress : Nat) : (State.raClear s j ingress).quiet = s.quiet := by
  unfold State.raClear
  simp (disch := (first | assumption | omega | (simp only [Fld.FAB_RA_STATj_DISABLED, Fld.FAB_RA_STATj_REASON, Fld.FAB_RA_STATj_WINDOW, Reg.FAB_RA_STATj]; omega))) only [quiet_mk, quiet_fold, quiet_ite,
      quiet_foldl, ite_self, Bool.false_eq_true, if_true, if_false, State.put_quiet, State.raise_quiet]

theorem State.raShow_quiet (s : State) (j : Nat) : (State.raShow s j).quiet = s.quiet := by
  unfold State.raShow
  simp (disch := (first | assumption | omega | (simp only [Fld.FAB_RA_STATj_ACTIVE, Fld.FAB_RA_STATj_DISABLED, Reg.FAB_RA_STATj]; omega))) only [quiet_mk, quiet_fold, quiet_ite,
      quiet_foldl, ite_self, Bool.false_eq_true, if_true, if_false, State.put_quiet]

/-- Entries of other keys behind a map leave a key's value. -/
theorem SMap.get_append {α : Type} (d : α) (m r : List (Nat × α)) (x : Nat) (h : ∀ e ∈ r, e.1 ≠ x) :
    SMap.get d (m ++ r) x = SMap.get d m x := by
  induction m with
  | nil =>
    induction r with
    | nil => rfl
    | cons e r ih =>
      obtain ⟨k, w⟩ := e
      rw [List.nil_append] at ih ⊢
      simp only [SMap.get, if_neg (fun g : x = k => h (k, w) (List.mem_cons_self ..) g.symm)]
      exact ih fun e he => h e (List.mem_cons_of_mem _ he)
  | cons e m ih =>
    obtain ⟨k, w⟩ := e
    simp only [List.cons_append, SMap.get, ih]

theorem State.copyTables_quiet (s : State) : (State.copyTables s).quiet = s.quiet := by
  refine quiet_of_regs s _ fun o ho => ?_
  rw [SMap.get_append, SMap.get_append, SMap.get_filter]
  · intro v; simp only [decide_eq_true_eq]; omega
  · intro e he
    simp only [List.mem_map, List.mem_filter, decide_eq_true_eq] at he
    obtain ⟨f, ⟨_, hf⟩, rfl⟩ := he
    simp only; omega
  · intro e he
    simp only [List.mem_filter, decide_eq_true_eq] at he
    omega

theorem State.limGoLive_quiet (old : State) (s : State) (i : Nat) : (State.limGoLive old s i).quiet = s.quiet := by
  unfold State.limGoLive
  simp (disch := (first | assumption | omega | (simp only [Reg.FAB_LIMi_TOK, Reg.RT_LIVE_LIM]; omega))) only [quiet_mk, quiet_fold, quiet_ite,
      quiet_foldl, ite_self, Bool.false_eq_true, if_true, if_false, State.setReg_quiet]

theorem State.commitApply_quiet (s : State) : (State.commitApply s).quiet = s.quiet := by
  unfold State.commitApply
  simp (disch := (first | assumption | omega | (simp only [Fld.FAB_STATUS_COMMIT, Reg.FAB_COMMIT_RES, Reg.FAB_ROUTE_EPOCH, Reg.FAB_STATUS]; omega) | (intros; (try dsimp only); (repeat' (split; try (rename_i h; have h2 := congrArg Prod.snd h; dsimp only at h2; subst h2))) <;> simp (disch := (first | assumption | omega | (simp only [Fld.FAB_STATUS_COMMIT, Reg.FAB_COMMIT_RES, Reg.FAB_ROUTE_EPOCH, Reg.FAB_STATUS]; omega))) only [quiet_mk, quiet_fold, quiet_ite, quiet_foldl, ite_self, Bool.false_eq_true, if_true, if_false, State.copyTables_quiet, State.limGoLive_quiet, State.put_quiet, State.raClear_quiet, State.raRecheck_quiet, State.raShow_quiet, State.raise_quiet, State.setReg_quiet]))) only [quiet_mk, quiet_fold, quiet_ite, quiet_foldl, ite_self, Bool.false_eq_true, if_true, if_false, State.copyTables_quiet, State.limGoLive_quiet, State.put_quiet, State.raClear_quiet, State.raRecheck_quiet, State.raShow_quiet, State.raise_quiet, State.setReg_quiet]

theorem State.raRearm_quiet (s : State) (j : Nat) : (State.raRearm s j).quiet = s.quiet := by
  unfold State.raRearm
  simp (disch := (first | assumption | omega | (simp only [Fld.FAB_RA_STATj_DISABLED, Fld.FAB_RA_STATj_REASON, Fld.FAB_RA_STATj_WINDOW, Reg.FAB_RA_STATj]; omega))) only [quiet_mk, quiet_fold, quiet_ite,
      quiet_foldl, ite_self, Bool.false_eq_true, if_true, if_false, State.put_quiet, State.raClear_quiet,
      State.raShow_quiet]

theorem State.setTxState_quiet (s : State) (n : Nat) (st : Nat) : (State.setTxState s n st).quiet = s.quiet := by
  unfold State.setTxState
  simp (disch := (first | assumption | omega | (simp only [Fld.HIF_TXn_STAT_STATE, Reg.HIF_TXn_STAT]; omega))) only [quiet_mk, quiet_fold, quiet_ite,
      quiet_foldl, ite_self, Bool.false_eq_true, if_true, if_false, State.message_quiet, State.put_quiet]

theorem State.setRxState_quiet (s : State) (n : Nat) (st : Nat) : (State.setRxState s n st).quiet = s.quiet := by
  unfold State.setRxState
  simp (disch := (first | assumption | omega | (simp only [Fld.HIF_RXn_STAT_STATE, Reg.HIF_RXn_STAT]; omega))) only [quiet_mk, quiet_fold, quiet_ite,
      quiet_foldl, ite_self, Bool.false_eq_true, if_true, if_false, State.message_quiet, State.put_quiet]

theorem State.entryLost_quiet (s : State) (e : RxEntry) : (State.entryLost s e).quiet = s.quiet := by
  unfold State.entryLost
  dsimp only
  (repeat' split) <;> first | with_reducible rfl | simp (disch := (first | assumption | omega)) only [quiet_mk, quiet_fold, quiet_ite,
      quiet_foldl, ite_self, Bool.false_eq_true, if_true, if_false, State.copyFinal_quiet, State.gap_quiet,
      State.setCap_quiet]

theorem State.rxFlush_quiet (s : State) (n : Nat) : (State.rxFlush s n).quiet = s.quiet := by
  unfold State.rxFlush
  simp (disch := (first | assumption | omega | (simp only [Fld.HIF_RXn_STAT_HELD, Reg.HIF_RXn_STAT]; omega) | (intros; (try dsimp only); (repeat' (split; try (rename_i h; have h2 := congrArg Prod.snd h; dsimp only at h2; subst h2))) <;> simp (disch := (first | assumption | omega | (simp only [Fld.HIF_RXn_STAT_HELD, Reg.HIF_RXn_STAT]; omega))) only [quiet_mk, quiet_fold, quiet_ite, quiet_foldl, ite_self, Bool.false_eq_true, if_true, if_false, State.entryLost_quiet, State.put_quiet, State.rxDrop_quiet, State.setRxRing_quiet]))) only [quiet_mk, quiet_fold, quiet_ite, quiet_foldl, ite_self, Bool.false_eq_true, if_true, if_false, State.entryLost_quiet, State.put_quiet, State.rxDrop_quiet, State.setRxRing_quiet]

theorem State.gapBack_quiet (s : State) (c : Completion) : (State.gapBack s c).quiet = s.quiet := by
  unfold State.gapBack
  (repeat' split) <;> first | with_reducible rfl | simp (disch := (first | assumption | omega)) only [quiet_mk, quiet_fold, quiet_ite,
      quiet_foldl, ite_self, Bool.false_eq_true, if_true, if_false, State.gap_quiet]

theorem State.setRunning_quiet (s : State) (run : Bool) : (State.setRunning s run).quiet = s.quiet := by
  unfold State.setRunning
  simp (disch := (first | assumption | omega | (simp only [Fld.HIF_STATUS_RUNNING, Reg.HIF_STATUS]; omega))) only [quiet_mk, quiet_fold, quiet_ite,
      quiet_foldl, ite_self, Bool.false_eq_true, if_true, if_false, State.message_quiet, State.put_quiet]

theorem State.hifReset_quiet (s : State) : (State.hifReset s).quiet = s.quiet := by
  unfold State.hifReset
  extract_lets fresh s1 s2 s3 out src
  have h1 : s1.quiet = s.quiet := by
    refine quiet_foldl _ (fun x n => ?_) _ _
    extract_lets x1 x2 x3 x4
    have g1 : x1.quiet = x.quiet := State.rxFlush_quiet _ _
    have g2 : x2.quiet = x.quiet := (State.setRxRing_quiet _ _ _).trans g1
    have g3 : x3.quiet = x.quiet := quiet_if g2 ((State.setRxState_quiet _ _ _).trans g2)
    have g4 : x4.quiet = x.quiet := (State.setTxRing_quiet _ _ _).trans g3
    exact quiet_if g4 ((State.setTxState_quiet _ _ _).trans g4)
  have h2 : s2.quiet = s.quiet := (State.setRunning_quiet _ _).trans h1
  have h3 : s3.quiet = s.quiet :=
    (quiet_foldl (fun (s : State) (c : Completion) => s.gapBack c) (fun _ _ => State.gapBack_quiet _ _) _ _).trans h2
  refine Eq.trans ?_ h3
  simp only [quiet_mk]
  refine quietOf_regs s3 _ fun o ho => ?_
  refine SMap.get_filter _ _ _ _ fun v => ?_
  simp only [out, Bool.not_eq_true', decide_eq_false_iff_not]
  omega

theorem State.setLane_quiet (s : State) (i : Nat) (v : Nat) : (State.setLane s i v).quiet = s.quiet := by
  unfold State.setLane
  simp (disch := (first | assumption | omega)) only [quiet_mk, quiet_fold, quiet_ite, quiet_foldl, ite_self,
      Bool.false_eq_true, if_true, if_false]

theorem State.originDelta_quiet (s : State) (n : Nat) : (State.originDelta s n).quiet = s.quiet := by
  unfold State.originDelta
  simp (disch := (first | assumption | omega)) only [quiet_mk, quiet_fold, quiet_ite, quiet_foldl, ite_self,
      Bool.false_eq_true, if_true, if_false, State.delta_quiet]

theorem State.setRetractFv_quiet (s : State) (n : Nat) (v : Nat) : (State.setRetractFv s n v).quiet = s.quiet := by
  unfold State.setRetractFv
  simp (disch := (first | assumption | omega)) only [quiet_mk, quiet_fold, quiet_ite, quiet_foldl, ite_self,
      Bool.false_eq_true, if_true, if_false, State.originDelta_quiet]

theorem State.setBeaconFv_quiet (s : State) (n : Nat) (v : Nat) : (State.setBeaconFv s n v).quiet = s.quiet := by
  unfold State.setBeaconFv
  simp (disch := (first | assumption | omega)) only [quiet_mk, quiet_fold, quiet_ite, quiet_foldl, ite_self,
      Bool.false_eq_true, if_true, if_false, State.originDelta_quiet]

theorem State.fvApply_quiet (s : State) : (State.fvApply s).quiet = s.quiet := by
  unfold State.fvApply
  extract_lets todo s1 s2
  have h1 : s1.quiet = s.quiet := by simp only [s1, quiet_mk, quiet_fold]
  have h2 : s2.quiet = s.quiet := by
    refine (quiet_foldl _ (fun x e => ?_) _ _).trans h1
    extract_lets src x1 x2
    have g1 : x1.quiet = x.quiet := by simp only [x1, src, quiet_mk, quiet_fold]
    have g2 : x2.quiet = x.quiet := (State.setLane_quiet _ _ _).trans g1
    exact quiet_if (quiet_if ((State.delta_quiet _ _ _ _).trans g2) g2)
      (quiet_if ((State.setBeaconFv_quiet _ _ _).trans g1) ((State.setRetractFv_quiet _ _ _).trans g1))
  exact (State.put_quiet _ _ _ (by simp only [Fld.CIPH_FV_STAT_PENDING, Reg.CIPH_FV_STAT]; omega)).trans h2

theorem State.imageRequest_quiet (s : State) : (State.imageRequest s).quiet = s.quiet := by
  unfold State.imageRequest
  simp (disch := (first | assumption | omega | (simp only [Fld.HAL_STATUS_PARTNER_LOST, Fld.HAL_STATUS_PARTNER_ROLE, Reg.HAL_STATUS]; omega))) only [quiet_mk, quiet_fold, quiet_ite,
      quiet_foldl, ite_self, Bool.false_eq_true, if_true, if_false, State.halSend_quiet]

theorem State.foreignFmt_quiet (s : State) : (State.foreignFmt s).quiet = s.quiet := by
  unfold State.foreignFmt
  simp (disch := (first | assumption | omega | (simp only [Fld.HAL_STATUS_SHADOW_VALID, Reg.HAL_STATUS]; omega))) only [quiet_mk, quiet_fold, quiet_ite,
      quiet_foldl, ite_self, Bool.false_eq_true, if_true, if_false, State.imageRequest_quiet, State.put_quiet,
      State.raise_quiet, State.setRole_quiet]

theorem State.shadowBreak_quiet (s : State) (reason : Nat) : (State.shadowBreak s reason).quiet = s.quiet := by
  unfold State.shadowBreak
  simp (disch := (first | assumption | omega | (simp only [Fld.HAL_STATUS_SHADOW_VALID, Reg.HAL_STATUS]; omega))) only [quiet_mk, quiet_fold, quiet_ite,
      quiet_foldl, ite_self, Bool.false_eq_true, if_true, if_false, State.imageRequest_quiet, State.put_quiet,
      State.raise_quiet, State.setRole_quiet]

theorem State.shadowStop_quiet (s : State) (route : Nat) (b : Bytes) : (State.shadowStop s route b).quiet = s.quiet := by
  unfold State.shadowStop
  simp (disch := (first | assumption | omega | (simp only [Fld.NEST_ALMr_CTRL_STOP_BRS, Reg.NEST_ALMr_CTRL]; omega) | (intros; (try dsimp only); (repeat' (split; try (rename_i h; have h2 := congrArg Prod.snd h; dsimp only at h2; subst h2))) <;> simp (disch := (first | assumption | omega | (simp only [Fld.NEST_ALMr_CTRL_STOP_BRS, Reg.NEST_ALMr_CTRL]; omega))) only [quiet_mk, quiet_fold, quiet_ite, quiet_foldl, ite_self, Bool.false_eq_true, if_true, if_false, State.alloc_quiet, State.replayHold_quiet]))) only [quiet_mk, quiet_fold, quiet_ite, quiet_foldl, ite_self, Bool.false_eq_true, if_true, if_false, State.alloc_quiet, State.replayHold_quiet]

theorem State.dropCtx_quiet (s : State) (k : Nat) : (State.dropCtx s k).quiet = s.quiet := by
  unfold State.dropCtx
  simp (disch := (first | assumption | omega)) only [quiet_mk, quiet_fold, quiet_ite, quiet_foldl, ite_self,
      Bool.false_eq_true, if_true, if_false, State.showCtx_quiet]

theorem State.setCtx_quiet (s : State) (k : Nat) (x : TrayCtx) : (State.setCtx s k x).quiet = s.quiet := by
  unfold State.setCtx
  simp (disch := (first | assumption | omega)) only [quiet_mk, quiet_fold, quiet_ite, quiet_foldl, ite_self,
      Bool.false_eq_true, if_true, if_false, State.showCtx_quiet]

theorem State.shadowApply_some (s t : State) (i : HalItem) (h : s.shadowApply i = some t) : t.quiet = s.quiet := by
  unfold State.shadowApply at h
  dsimp only at h
  split at h
  · cases h; exact State.setLane_quiet _ _ _
  · split at h
    · cases h; exact (State.setRetractFv_quiet _ _ _).trans (State.setBeaconFv_quiet _ _ _)
    · split at h
      · have hm : ∀ v, (s.setReg (Reg.REEF_MUSm_STAT i.index) v).quiet = s.quiet := fun v =>
          State.setReg_quiet _ _ _ (by simp only [Reg.REEF_MUSm_STAT]; omega)
        split at h
        · cases h; exact (State.setReef_quiet _ _ _).trans (hm _)
        · split at h <;> cases h <;> exact (State.setReef_quiet _ _ _).trans (hm _)
      · split at h
        · cases h
          refine quiet_foldl _ (fun x k => ?_) _ _
          rw [State.setReg64_quiet _ _ _ (by simp only [Reg.REEF_KPn_i_TIME]; omega),
            State.setReg_quiet _ _ _ (by simp only [Reg.REEF_KPn_i_INFO]; omega),
            State.setReg_quiet _ _ _ (by simp only [Reg.REEF_KPn_i_KEY]; omega)]
        · split at h
          · cases h; simp only [quiet_mk, quiet_fold]
          · split at h
            · split at h <;> cases h
              · exact State.setCtx_quiet _ _ _
              · exact State.dropCtx_quiet _ _
            · split at h
              · cases h; exact State.shadowStop_quiet _ _ _
              · cases h

theorem State.shadowItems_quiet (s : State) (b : Bytes) : (State.shadowItems s b).2.quiet = s.quiet := by
  unfold State.shadowItems
  split
  · rfl
  · rename_i l _
    have key : ∀ (l : List HalItem) (a : Bool × State), (l.foldl (fun (a : Bool × State) (i : HalItem) =>
        if a.1 then (match a.2.shadowApply i with
          | some s => (true, s)
          | none => (false, a.2))
        else a) a).2.quiet = a.2.quiet := by
      intro l
      induction l with
      | nil => intro a; rfl
      | cons i l ih =>
        intro a
        rw [List.foldl_cons, ih]
        split
        · cases h : a.2.shadowApply i with
          | none => rfl
          | some t => exact State.shadowApply_some _ _ _ h
        · rfl
    exact key l (true, s)

theorem State.deltaFrame_quiet (s : State) (f : HalFrame) : (State.deltaFrame s f).quiet = s.quiet := by
  unfold State.deltaFrame
  simp (disch := (first | assumption | omega | (simp only [Fld.HAL_STATUS_PARTNER_ROLE, Reg.HAL_STATUS]; omega))) only [quiet_mk, quiet_fold, quiet_ite,
      quiet_foldl, ite_self, Bool.false_eq_true, if_true, if_false, State.foreignFmt_quiet, State.pairWindow_quiet,
      State.setRole_quiet, State.shadowBreak_quiet, State.shadowItems_quiet]

theorem State.halReceived_quiet (s : State) (f : HalFrame) : (State.halReceived s f).quiet = s.quiet := by
  unfold State.halReceived
  simp (disch := (first | assumption | omega | (simp only [Fld.HAL_STATUS_LINK_UP, Reg.HAL_STATUS]; omega))) only [quiet_mk, quiet_fold, quiet_ite,
      quiet_foldl, ite_self, Bool.false_eq_true, if_true, if_false, State.put_quiet, State.shadowBreak_quiet]

theorem State.halFrame_quiet (s : State) (frame : Bytes) (type : Nat) (act : State → HalFrame → State)
    (h : ∀ x f, (act x f).quiet = x.quiet) : (State.halFrame s frame type act).quiet = s.quiet :=
  quiet_if ((h _ _).trans (State.halReceived_quiet _ _)) (State.halReceived_quiet _ _)

theorem State.heartbeat_quiet (s : State) (f : HalFrame) : (State.heartbeat s f).quiet = s.quiet := by
  unfold State.heartbeat
  extract_lets b h src s1 s2 own s3 known src2 s4 s5 sp src3 s6 s7 lower src4 s8 src5
  have h1 : s1.quiet = s.quiet := by simp only [s1, src, quiet_mk, quiet_fold]
  have h2 : s2.quiet = s.quiet := (State.put_quiet _ _ _ (by simp only [Fld.HAL_HEALTH_PARTNER, Reg.HAL_HEALTH]; omega)).trans
    ((State.put_quiet _ _ _ (by simp only [Fld.HAL_STATUS_PARTNER_ROLE, Reg.HAL_STATUS]; omega)).trans h1)
  have h3 : s3.quiet = s.quiet := (State.setReg_quiet _ _ _ (by simp only [Reg.HAL_SKEW]; omega)).trans h2
  have h5 : s5.quiet = s.quiet := by
    refine quiet_if (quiet_if ?_ ((State.raise_quiet _ _ _ _).trans ?_)) h3 <;>
      simp only [s4, src2, quiet_mk, quiet_fold, h3]
  have h7 : s7.quiet = s.quiet := by
    refine quiet_if ((State.raise_quiet _ _ _ _).trans ?_) h5
    have hp : sp.quiet = s.quiet :=
      (State.put_quiet _ _ _ (by simp only [Fld.HAL_STATUS_PARTNER_LOST, Reg.HAL_STATUS]; omega)).trans h5
    simp only [s6, quiet_mk, quiet_fold, hp]
  have h8 : s8.quiet = s.quiet := by simp only [s8, src4, quiet_mk, quiet_fold, h7]
  refine quiet_if ((State.imageRequest_quiet _).trans ((State.setRole_quiet _ _ _).trans h8)) (quiet_if ((State.imageRequest_quiet _).trans (quiet_if h8 ?_)) h8)
  simp only [src5, quiet_mk, quiet_fold, h8]

theorem State.imageFrame_quiet (s : State) (f : HalFrame) : (State.imageFrame s f).quiet = s.quiet := by
  unfold State.imageFrame
  simp (disch := (first | assumption | omega | (simp only [Fld.HAL_STATUS_SHADOW_VALID, Reg.HAL_STATUS]; omega))) only [quiet_mk, quiet_fold, quiet_ite,
      quiet_foldl, ite_self, Bool.false_eq_true, if_true, if_false, State.foreignFmt_quiet, State.pairWindow_quiet,
      State.put_quiet, State.shadowBreak_quiet, State.shadowItems_quiet]

theorem State.sendImage_quiet (s : State) : (State.sendImage s).quiet = s.quiet := by
  unfold State.sendImage
  simp (disch := (first | assumption | omega | (intros; (try dsimp only); (repeat' (split; try (rename_i h; have h2 := congrArg Prod.snd h; dsimp only at h2; subst h2))) <;> simp (disch := (first | assumption | omega)) only [quiet_mk, quiet_fold, quiet_ite, quiet_foldl, ite_self, Bool.false_eq_true, if_true, if_false, State.halSend_quiet]))) only [quiet_mk, quiet_fold, quiet_ite, quiet_foldl, ite_self, Bool.false_eq_true, if_true, if_false, State.halSend_quiet]

theorem State.markerEntry_quiet (s : State) (e : Bytes) : (State.markerEntry s e).quiet = s.quiet := by
  unfold State.markerEntry
  dsimp only
  (repeat' split) <;> first | with_reducible rfl | simp (disch := (first | assumption | omega | (simp only [Reg.HAL_CNTk]; omega))) only [quiet_mk, quiet_fold, quiet_ite,
      quiet_foldl, ite_self, Bool.false_eq_true, if_true, if_false, State.copyFinal_quiet, State.count_quiet]

theorem State.markers_quiet (k : Nat) (b : Bytes) (s : State) : (State.markers k b s).quiet = s.quiet := by
  induction k generalizing b s with
  | zero => rfl
  | succ k ih => exact quiet_if rfl ((ih _ _).trans (State.markerEntry_quiet _ _))

theorem State.hifEnable_quiet (s : State) : (State.hifEnable s).quiet = s.quiet := by
  unfold State.hifEnable
  simp (disch := (first | assumption | omega | (simp only [Fld.HIF_STATUS_RUNNING, Reg.HIF_STATUS]; omega))) only [quiet_mk, quiet_fold, quiet_ite,
      quiet_foldl, ite_self, Bool.false_eq_true, if_true, if_false, State.setRunning_quiet]

theorem State.snapWrite_quiet (s : State) : (State.snapWrite s).quiet = s.quiet := by
  unfold State.snapWrite
  simp (disch := (first | assumption | omega | (simp only [Fld.MGT_SNAP_STAT_PENDING, Fld.MGT_SNAP_STAT_SEQ, Reg.MGT_SNAP_STAT]; omega) | (intros; (try dsimp only); (repeat' (split; try (rename_i h; have h2 := congrArg Prod.snd h; dsimp only at h2; subst h2))) <;> simp (disch := (first | assumption | omega | (simp only [Fld.MGT_SNAP_STAT_PENDING, Fld.MGT_SNAP_STAT_SEQ, Reg.MGT_SNAP_STAT]; omega))) only [quiet_mk, quiet_fold, quiet_ite, quiet_foldl, ite_self, Bool.false_eq_true, if_true, if_false, State.emit_quiet, State.put_quiet]))) only [quiet_mk, quiet_fold, quiet_ite, quiet_foldl, ite_self, Bool.false_eq_true, if_true, if_false, State.emit_quiet, State.put_quiet]

theorem State.snapLatch_quiet (s : State) : (State.snapLatch s).quiet = s.quiet := by
  unfold State.snapLatch
  simp (disch := (first | assumption | omega | (simp only [Reg.MGT_SNAP_ADDR]; omega))) only [quiet_mk, quiet_fold, quiet_ite,
      quiet_foldl, ite_self, Bool.false_eq_true, if_true, if_false]

theorem State.echoReply_quiet (s : State) (src : Nat) (dst : Nat) (body : Bytes) :
    (State.echoReply s src dst body).quiet = s.quiet := by
  unfold State.echoReply
  simp (disch := (first | assumption | omega)) only [quiet_mk, quiet_fold, quiet_ite, quiet_foldl, ite_self,
      Bool.false_eq_true, if_true, if_false, State.reply_quiet]

theorem State.echo6Reply_quiet (s : State) (src : Nat) (dst : Nat) (body : Bytes) :
    (State.echo6Reply s src dst body).quiet = s.quiet := by
  unfold State.echo6Reply
  simp (disch := (first | assumption | omega)) only [quiet_mk, quiet_fold, quiet_ite, quiet_foldl, ite_self,
      Bool.false_eq_true, if_true, if_false, State.reply_quiet]

theorem State.txFlush_quiet (s : State) (n : Nat) : (State.txFlush s n).quiet = s.quiet := by
  unfold State.txFlush
  simp (disch := (first | assumption | omega | (simp only [Fld.HIF_TXn_STAT_OUTSTANDING, Reg.HIF_TXn_STAT]; omega) | (intros; (try dsimp only); (repeat' (split; try (rename_i h; have h2 := congrArg Prod.snd h; dsimp only at h2; subst h2))) <;> simp (disch := (first | assumption | omega | (simp only [Fld.HIF_TXn_STAT_OUTSTANDING, Reg.HIF_TXn_STAT]; omega))) only [quiet_mk, quiet_fold, quiet_ite, quiet_foldl, ite_self, Bool.false_eq_true, if_true, if_false, State.gapBack_quiet, State.put_quiet, State.setTxRing_quiet]))) only [quiet_mk, quiet_fold, quiet_ite, quiet_foldl, ite_self, Bool.false_eq_true, if_true, if_false, State.gapBack_quiet, State.put_quiet, State.setTxRing_quiet]

theorem State.ringFault_quiet (s : State) (kind : Nat) (n : Nat) (code : Nat) :
    (State.ringFault s kind n code).quiet = s.quiet := by
  unfold State.ringFault
  dsimp only
  (repeat' split) <;> first | with_reducible rfl | simp (disch := (first | assumption | omega | (simp only [Fld.HIF_RXn_STAT_FAULT, Fld.HIF_TXn_STAT_FAULT, Reg.HIF_RXFAULT0, Reg.HIF_RXFAULT1, Reg.HIF_RXn_STAT, Reg.HIF_TXFAULT0, Reg.HIF_TXFAULT1, Reg.HIF_TXn_STAT]; omega))) only [quiet_mk, quiet_fold, quiet_ite,
      quiet_foldl, ite_self, Bool.false_eq_true, if_true, if_false, State.orReg_quiet, State.put_quiet,
      State.raise_quiet, State.rxFlush_quiet, State.setRxState_quiet, State.setTxRing_quiet, State.setTxState_quiet,
      State.txFlush_quiet]

theorem State.rxDoorbell_quiet (s : State) (n : Nat) (ack : Nat) : (State.rxDoorbell s n ack).quiet = s.quiet := by
  unfold State.rxDoorbell
  simp (disch := (first | assumption | omega)) only [quiet_mk, quiet_fold, quiet_ite, quiet_foldl, ite_self,
      Bool.false_eq_true, if_true, if_false, State.ringFault_quiet, State.setRxRing_quiet]

theorem State.txDoorbell_quiet (s : State) (n : Nat) (prod : Nat) (cack : Nat) :
    (State.txDoorbell s n prod cack).quiet = s.quiet := by
  unfold State.txDoorbell
  simp (disch := (first | assumption | omega)) only [quiet_mk, quiet_fold, quiet_ite, quiet_foldl, ite_self,
      Bool.false_eq_true, if_true, if_false, State.ringFault_quiet, State.setTxRing_quiet]

theorem State.doorbells_quiet (s : State) (p : PageWords) : (State.doorbells s p).quiet = s.quiet := by
  unfold State.doorbells
  simp (disch := (first | assumption | omega | (intros; (try dsimp only); (repeat' (split; try (rename_i h; have h2 := congrArg Prod.snd h; dsimp only at h2; subst h2))) <;> simp (disch := (first | assumption | omega)) only [quiet_mk, quiet_fold, quiet_ite, quiet_foldl, ite_self, Bool.false_eq_true, if_true, if_false, State.rxDoorbell_quiet, State.txDoorbell_quiet]))) only [quiet_mk, quiet_fold, quiet_ite, quiet_foldl, ite_self, Bool.false_eq_true, if_true, if_false, State.rxDoorbell_quiet, State.txDoorbell_quiet]

theorem State.fetchOne_quiet (s : State) (n : Nat) (d : DescRead) : (State.fetchOne s n d).2.quiet = s.quiet := by
  unfold State.fetchOne
  dsimp only
  (repeat' split) <;> first | with_reducible rfl | simp (disch := (first | assumption | omega | (simp only [Fld.FAB_FREE_BLOCKS, Fld.HIF_TXn_STAT_OUTSTANDING, Reg.FAB_FREE, Reg.HIF_TXn_STAT]; omega))) only [quiet_mk, quiet_fold, quiet_ite,
      quiet_foldl, ite_self, Bool.false_eq_true, if_true, if_false, State.hostFinal_quiet, State.observe_quiet,
      State.put_quiet, State.raise_quiet, State.ringFault_quiet, State.setTxRing_quiet]

theorem State.fetchRing_quiet (n k : Nat) (l : List DescRead) (s : State) : (State.fetchRing n k l s).2.quiet = s.quiet := by
  induction k generalizing l s with
  | zero => unfold State.fetchRing; rfl
  | succ k ih =>
    cases l with
    | nil => rfl
    | cons d l =>
      unfold State.fetchRing
      split
      · have h := State.fetchOne_quiet s n d
        revert h
        rcases s.fetchOne n d with ⟨e, t⟩
        intro h
        cases e
        · exact (ih l t).trans h
        · exact h
        · exact h
      · rfl

theorem quiet_fetchRings (reads : List DescRead) (l : List Nat) (a : Bool × State) :
    (l.foldl (fun (a : Bool × State) n =>
      let (w, s) := State.fetchRing n (a.2.cur (Fld.HIF_TXn_CFG_QUOTA n)) (reads.filter fun d => d.ring == n) a.2
      (a.1 || w, s)) a).2.quiet = a.2.quiet := by
  induction l generalizing a with
  | nil => rfl
  | cons n l ih => exact (ih _).trans (State.fetchRing_quiet ..)

theorem State.intake_quiet (s : State) (page : Option PageWords) (reads : List DescRead) :
    (State.intake s page reads).quiet = s.quiet := by
  unfold State.intake
  extract_lets src s1 s2 s3 s4
  have h1 : s1.quiet = s.quiet := by simp only [s1, src, quiet_ite, quiet_mk, quiet_fold, ite_self]
  have h2 : s2.quiet = s.quiet :=
    (State.count_quiet _ _ _ (by simp only [Reg.HIF_DB_FETCH_CNT]; omega)).trans h1
  refine quiet_if ?_ h1
  cases page with
  | none =>
    refine (State.raise_quiet _ _ _ _).trans ?_
    simp only [s3, State.count32_quiet _ _ _ (show 0x20000 ≤ Reg.HIF_DB_ERR_CNT by decide),
      State.put_quiet _ _ _ (show 0x20000 ≤ Fld.HIF_STATUS_DB_ERR.off by decide), h2]
  | some p =>
    have h4 : ((s2.put Fld.HIF_STATUS_DB_ERR 0).doorbells p).quiet = s.quiet := by
      rw [State.doorbells_quiet, State.put_quiet _ _ _ (show 0x20000 ≤ Fld.HIF_STATUS_DB_ERR.off by decide), h2]
    have h5 := (quiet_fetchRings reads (List.range 64) (false, (s2.put Fld.HIF_STATUS_DB_ERR 0).doorbells p)).trans h4
    dsimp only at h5 ⊢
    exact quiet_if ((State.count_quiet _ _ _ (by simp only [Reg.FAB_HOSTBUF_WAIT]; omega)).trans h5) h5

theorem State.showHealth_quiet (s : State) : (State.showHealth s).quiet = s.quiet := by
  unfold State.showHealth
  simp (disch := (first | assumption | omega | (simp only [Fld.NVM_SPARES_FREE, Fld.NVM_SPARES_JOURNAL, Fld.NVM_STATUS_CHEALTH, Fld.NVM_STATUS_JHEALTH, Fld.NVM_STATUS_JREADONLY, Reg.NVM_SPARES, Reg.NVM_STATUS]; omega))) only [quiet_mk, quiet_fold, quiet_ite,
      quiet_foldl, ite_self, Bool.false_eq_true, if_true, if_false, State.put_quiet]

theorem State.raiseStage_quiet (s : State) (area : Nat) (st : Nat) : (State.raiseStage s area st).quiet = s.quiet := by
  unfold State.raiseStage
  simp (disch := (first | assumption | omega)) only [quiet_mk, quiet_fold, quiet_ite, quiet_foldl, ite_self,
      Bool.false_eq_true, if_true, if_false, State.raise_quiet, State.showHealth_quiet]

theorem State.retireSector_quiet (s : State) (area : Nat) (sector : Nat) :
    (State.retireSector s area sector).quiet = s.quiet := by
  unfold State.retireSector
  simp (disch := (first | assumption | omega | (simp only [Reg.NVM_CNTk]; omega))) only [quiet_mk, quiet_fold, quiet_ite,
      quiet_foldl, ite_self, Bool.false_eq_true, if_true, if_false, State.count_quiet, State.raise_quiet,
      State.raiseStage_quiet, State.showHealth_quiet]

theorem State.setWear_quiet (s : State) (p : Nat) (x : Wear) : (State.setWear s p x).quiet = s.quiet := by
  unfold State.setWear
  simp (disch := (first | assumption | omega)) only [quiet_mk, quiet_fold, quiet_ite, quiet_foldl, ite_self,
      Bool.false_eq_true, if_true, if_false]

theorem State.programmed_quiet (s : State) (area : Nat) (sector : Nat) (pulses : Nat) (bad : Bool) :
    (State.programmed s area sector pulses bad).quiet = s.quiet := by
  unfold State.programmed
  simp (disch := (first | assumption | omega | (simp only [Fld.NVM_JCFG_PULSE_WARN, Reg.NVM_JCFG]; omega))) only [quiet_mk, quiet_fold, quiet_ite,
      quiet_foldl, ite_self, Bool.false_eq_true, if_true, if_false, State.raiseStage_quiet, State.retireSector_quiet,
      State.setWear_quiet]

theorem State.showJournal_quiet (s : State) : (State.showJournal s).quiet = s.quiet := by
  unfold State.showJournal
  simp (disch := (first | assumption | omega | (simp only [Reg.NVM_JHEAD, Reg.NVM_JTAIL]; omega))) only [quiet_mk, quiet_fold, quiet_ite,
      quiet_foldl, ite_self, Bool.false_eq_true, if_true, if_false, State.setReg_quiet]

theorem State.programEntry_quiet (s : State) (pulses : Nat) (bad : Bool) :
    (State.programEntry s pulses bad).quiet = s.quiet := by
  unfold State.programEntry
  dsimp only
  (repeat' split) <;> first | with_reducible rfl | simp (disch := (first | assumption | omega | (simp only [Reg.NVM_CNTk]; omega))) only [quiet_mk, quiet_fold, quiet_ite,
      quiet_foldl, ite_self, Bool.false_eq_true, if_true, if_false, State.count_quiet, State.programmed_quiet,
      State.showJournal_quiet]

theorem State.erased_quiet (s : State) (area : Nat) (sector : Nat) (fail : Bool) :
    (State.erased s area sector fail).quiet = s.quiet := by
  unfold State.erased
  simp (disch := (first | assumption | omega)) only [quiet_mk, quiet_fold, quiet_ite, quiet_foldl, ite_self,
      Bool.false_eq_true, if_true, if_false, State.raise_quiet, State.retireSector_quiet, State.setWear_quiet]

theorem State.eraseAhead_quiet (s : State) (fail : Bool) : (State.eraseAhead s fail).quiet = s.quiet := by
  unfold State.eraseAhead
  dsimp only
  (repeat' split) <;> first | with_reducible rfl | simp (disch := (first | assumption | omega)) only [quiet_mk, quiet_fold, quiet_ite,
      quiet_foldl, ite_self, Bool.false_eq_true, if_true, if_false, State.erased_quiet, State.showJournal_quiet]

theorem State.wearBy_quiet (s : State) (area : Nat) (w : SectorWear) : (State.wearBy s area w).quiet = s.quiet := by
  unfold State.wearBy
  simp (disch := (first | assumption | omega)) only [quiet_mk, quiet_fold, quiet_ite, quiet_foldl, ite_self,
      Bool.false_eq_true, if_true, if_false, State.erased_quiet, State.programmed_quiet]

theorem State.loadLive_quiet (s : State) (l : KeyLoad) : (State.loadLive s l).quiet = s.quiet := by
  unfold State.loadLive
  simp (disch := (first | assumption | omega | (simp only [Fld.CIPH_KSn_STAT_ATTR, Fld.CIPH_KSn_STAT_REASON, Fld.CIPH_KSn_STAT_SIZE, Fld.CIPH_KSn_STAT_STATE, Reg.CIPH_KSn_LIMIT, Reg.CIPH_KSn_STAT, Reg.CIPH_KSn_USED]; omega))) only [quiet_mk, quiet_fold, quiet_ite,
      quiet_foldl, ite_self, Bool.false_eq_true, if_true, if_false, State.put_quiet, State.raise_quiet,
      State.setReg_quiet, State.setReg64_quiet]

theorem State.loadsLive_quiet (s : State) : (State.loadsLive s).quiet = s.quiet := by
  unfold State.loadsLive
  simp (disch := (first | assumption | omega | (intros; (try dsimp only); (repeat' (split; try (rename_i h; have h2 := congrArg Prod.snd h; dsimp only at h2; subst h2))) <;> simp (disch := (first | assumption | omega)) only [quiet_mk, quiet_fold, quiet_ite, quiet_foldl, ite_self, Bool.false_eq_true, if_true, if_false, State.loadLive_quiet]))) only [quiet_mk, quiet_fold, quiet_ite, quiet_foldl, ite_self, Bool.false_eq_true, if_true, if_false, State.loadLive_quiet]

theorem State.retireApply_quiet (s : State) (n : Nat) : (State.retireApply s n).quiet = s.quiet := by
  unfold State.retireApply
  simp (disch := (first | assumption | omega)) only [quiet_mk, quiet_fold, quiet_ite, quiet_foldl, ite_self,
      Bool.false_eq_true, if_true, if_false, State.retireKey_quiet]

theorem State.unmask_quiet (s : State) (v : Nat) : (State.unmask s v).quiet = s.quiet := by
  unfold State.unmask
  simp (disch := (first | assumption | omega | (simp only [Reg.MSIX_ENTRY, Reg.MSIX_PBA]; omega))) only [quiet_mk, quiet_fold, quiet_ite,
      quiet_foldl, ite_self, Bool.false_eq_true, if_true, if_false, State.setReg_quiet]

theorem State.musterSettle_quiet (s : State) (m : Nat) (t : Tai) : (State.musterSettle s m t).quiet = s.quiet := by
  unfold State.musterSettle
  dsimp only
  (repeat' split) <;> first | with_reducible rfl | simp (disch := (first | assumption | omega | (simp only [Fld.CANP_STATUS_STATE, Fld.REEF_MUSm_CTRL_NODE, Fld.REEF_MUSm_CTRL_PORT, Fld.REEF_MUSm_CTRL_VALID, Fld.REEF_MUSm_STAT_CARD_LOST, Fld.REEF_MUSm_STAT_DRIFT_SUSPECT, Fld.REEF_MUSm_STAT_MISSES, Fld.REEF_MUSm_STAT_MULT_LOG, Fld.REEF_PORTn_STAT_POST_MUS, Reg.CANP_STATUS, Reg.REEF_MUSm_CTRL, Reg.REEF_MUSm_STAT, Reg.REEF_PORTn_STAT]; omega))) only [quiet_mk, quiet_fold, quiet_ite,
      quiet_foldl, ite_self, Bool.false_eq_true, if_true, if_false, State.keepWin_quiet, State.keeper_quiet,
      State.musterDelta_quiet, State.musterRecord_quiet, State.put_quiet, State.raise_quiet, State.setWins_quiet]

theorem State.neighbourReply_quiet (s : State) (src : Nat) (target : Nat) :
    (State.neighbourReply s src target).quiet = s.quiet := by
  unfold State.neighbourReply
  simp (disch := (first | assumption | omega)) only [quiet_mk, quiet_fold, quiet_ite, quiet_foldl, ite_self,
      Bool.false_eq_true, if_true, if_false, State.reply_quiet]

theorem State.nestFollow_quiet (s : State) : (State.nestFollow s).quiet = s.quiet := by
  unfold State.nestFollow
  simp (disch := (first | assumption | omega | (simp only [Fld.NEST_CTRL_EN, Fld.NEST_CTRL_SPLIT, Fld.NEST_STATUS_SET0, Fld.NEST_STATUS_SET1, Reg.NEST_CTRL, Reg.NEST_STATUS]; omega))) only [quiet_mk, quiet_fold, quiet_ite,
      quiet_foldl, ite_self, Bool.false_eq_true, if_true, if_false, State.message_quiet, State.put_quiet]

theorem State.nestChanged_quiet (old : State) (s : State) : (State.nestChanged old s).quiet = s.quiet := by
  unfold State.nestChanged
  simp (disch := (first | assumption | omega | (simp only [Fld.NEST_CTRL_EN, Fld.NEST_CTRL_SPLIT, Fld.NEST_IMGi_CFG_EN, Reg.NEST_CTRL, Reg.NEST_IMGi_CFG]; omega) | (intros; (try dsimp only); (repeat' (split; try (rename_i h; have h2 := congrArg Prod.snd h; dsimp only at h2; subst h2))) <;> simp (disch := (first | assumption | omega | (simp only [Fld.NEST_CTRL_EN, Fld.NEST_CTRL_SPLIT, Fld.NEST_IMGi_CFG_EN, Reg.NEST_CTRL, Reg.NEST_IMGi_CFG]; omega))) only [quiet_mk, quiet_fold, quiet_ite, quiet_foldl, ite_self, Bool.false_eq_true, if_true, if_false, State.dropCtx_quiet, State.nestFollow_quiet, State.trackFree_quiet]))) only [quiet_mk, quiet_fold, quiet_ite, quiet_foldl, ite_self, Bool.false_eq_true, if_true, if_false, State.dropCtx_quiet, State.nestFollow_quiet, State.trackFree_quiet]

theorem State.goLive_quiet (s : State) (lo : Nat) (hi : Nat) : (State.goLive s lo hi).quiet = s.quiet := by
  unfold State.goLive
  simp (disch := (first | assumption | omega)) only [quiet_mk, quiet_fold, quiet_ite, quiet_foldl, ite_self,
      Bool.false_eq_true, if_true, if_false]

theorem State.nestCommitApply_quiet (s : State) : (State.nestCommitApply s).quiet = s.quiet := by
  unfold State.nestCommitApply
  simp (disch := (first | assumption | omega | (simp only [Fld.NEST_STATUS_PENDING, Reg.NEST_CFG_ERR, Reg.NEST_STATUS]; omega))) only [quiet_mk, quiet_fold, quiet_ite,
      quiet_foldl, ite_self, Bool.false_eq_true, if_true, if_false, State.goLive_quiet, State.nestChanged_quiet,
      State.orReg_quiet, State.put_quiet, State.raise_quiet]

theorem State.openCtx_quiet (s : State) (d : Bytes) (seq : Nat) (set : Nat) :
    (State.openCtx s d seq set).quiet = s.quiet := by
  unfold State.openCtx
  simp (disch := (first | assumption | omega | (simp only [Fld.NEST_TRAYID_ID_LEN, Reg.NEST_ORG_X, Reg.NEST_ORG_Y, Reg.NEST_TRAYID]; omega))) only [quiet_mk, quiet_fold, quiet_ite,
      quiet_foldl, ite_self, Bool.false_eq_true, if_true, if_false, State.dropCtx_quiet, State.setCtx_quiet]

theorem State.trayIdentity_quiet (s : State) : (State.trayIdentity s).quiet = s.quiet := by
  unfold State.trayIdentity
  dsimp only
  (repeat' split) <;> first | with_reducible rfl | simp (disch := (first | assumption | omega | (simp only [Fld.NEST_CTRL_EN, Reg.NEST_CTRL]; omega) | (intros; (try dsimp only); (repeat' (split; try (rename_i h; have h2 := congrArg Prod.snd h; dsimp only at h2; subst h2))) <;> simp (disch := (first | assumption | omega | (simp only [Fld.NEST_CTRL_EN, Reg.NEST_CTRL]; omega))) only [quiet_mk, quiet_fold, quiet_ite, quiet_foldl, ite_self, Bool.false_eq_true, if_true, if_false, State.openCtx_quiet]))) only [quiet_mk, quiet_fold, quiet_ite, quiet_foldl, ite_self, Bool.false_eq_true, if_true, if_false, State.openCtx_quiet]

theorem State.trayDrain_quiet (k : Nat) (s : State) : (State.trayDrain k s).quiet = s.quiet := by
  induction k generalizing s with
  | zero => rfl
  | succ k ih => exact (ih _).trans (State.trayIdentity_quiet _)

theorem State.csiCounts_quiet (s : State) (i : Nat) (c : CsiCounts) : (State.csiCounts s i c).quiet = s.quiet := by
  unfold State.csiCounts
  simp (disch := (first | assumption | omega)) only [quiet_mk, quiet_fold, quiet_ite, quiet_foldl, ite_self,
      Bool.false_eq_true, if_true, if_false, State.nestCount_quiet]

theorem State.nestAdvance_quiet (s : State) (i : Nat) (time : Tai) : (State.nestAdvance s i time).quiet = s.quiet := by
  unfold State.nestAdvance
  dsimp only
  (repeat' split) <;> first | with_reducible rfl | simp (disch := (first | assumption | omega | (simp only [Fld.NEST_SETs_CFG_EGO_IMG, Reg.NEST_IMGi_EGO_VX, Reg.NEST_IMGi_EGO_VY, Reg.NEST_SETs_CFG, Reg.NEST_TRAY_EXIT_X]; omega) | (intros; (try dsimp only); (repeat' (split; try (rename_i h; have h2 := congrArg Prod.snd h; dsimp only at h2; subst h2))) <;> simp (disch := (first | assumption | omega | (simp only [Fld.NEST_SETs_CFG_EGO_IMG, Reg.NEST_IMGi_EGO_VX, Reg.NEST_IMGi_EGO_VY, Reg.NEST_SETs_CFG, Reg.NEST_TRAY_EXIT_X]; omega))) only [quiet_mk, quiet_fold, quiet_ite, quiet_foldl, ite_self, Bool.false_eq_true, if_true, if_false, State.dropCtx_quiet, State.setCtx_quiet]))) only [quiet_mk, quiet_fold, quiet_ite, quiet_foldl, ite_self, Bool.false_eq_true, if_true, if_false, State.dropCtx_quiet, State.setCtx_quiet]

theorem State.nestEgo_quiet (s : State) (i : Nat) (lines : List NestLine) (time : Tai) :
    (State.nestEgo s i lines time).quiet = s.quiet := by
  unfold State.nestEgo
  dsimp only
  (repeat' split) <;> first | with_reducible rfl | simp (disch := (first | assumption | omega | (simp only [Fld.NEST_IMGi_EGO0_X0, Fld.NEST_IMGi_EGO0_Y0, Fld.NEST_IMGi_EGO1_EN, Fld.NEST_IMGi_EGO1_LH, Fld.NEST_IMGi_EGO1_LW, Fld.NEST_IMGi_EGO1_MIN_Q, Fld.NEST_IMGi_EGO_Q_Q, Reg.NEST_IMGi_EGO, Reg.NEST_IMGi_EGO0, Reg.NEST_IMGi_EGO1, Reg.NEST_IMGi_EGO_Q, Reg.NEST_IMGi_EGO_VX, Reg.NEST_IMGi_EGO_VY]; omega))) only [quiet_mk, quiet_fold, quiet_ite,
      quiet_foldl, ite_self, Bool.false_eq_true, if_true, if_false, State.nestCount_quiet, State.put_quiet,
      State.setReg_quiet]

theorem State.trackBirth_quiet (s : State) (i : Nat) (set : Nat) (d : Detect) (time : Tai) :
    (State.trackBirth s i set d time).quiet = s.quiet := by
  unfold State.trackBirth
  dsimp only
  (repeat' split) <;> first | with_reducible rfl | simp (disch := (first | assumption | omega | (simp only [Reg.NEST_PV0_POS, Reg.NEST_PV0_T, Reg.NEST_R_POS, Reg.NEST_R_T, Reg.NEST_SETs_CNTk]; omega))) only [quiet_mk, quiet_fold, quiet_ite,
      quiet_foldl, ite_self, Bool.false_eq_true, if_true, if_false, State.raiseOnce_quiet, State.setCount_quiet,
      State.setTrack_quiet, State.staged_quiet]

theorem State.trackMiss_quiet (s : State) (n : Nat) (k : Track) (time : Tai) :
    (State.trackMiss s n k time).quiet = s.quiet := by
  unfold State.trackMiss
  simp (disch := (first | assumption | omega | (simp only [Fld.NEST_TRK_CFG_MAX_MISS, Reg.NEST_TRK_CFG]; omega))) only [quiet_mk, quiet_fold, quiet_ite,
      quiet_foldl, ite_self, Bool.false_eq_true, if_true, if_false, State.setTrack_quiet, State.staged_quiet,
      State.trackFree_quiet]

theorem State.nestTrack_quiet (s : State) (i : Nat) (dets : List Detect) (time : Tai) :
    (State.nestTrack s i dets time).quiet = s.quiet := by
  unfold State.nestTrack
  extract_lets set mine s1 predicted
  have h1 : s1.quiet = s.quiet := quiet_if (State.nestCount_quiet _ _ _ _) rfl
  have key : ∀ (l : List Detect) (a : Assoc), (l.foldl (State.associate i time) a).2.2.quiet = a.2.2.quiet := by
    intro l
    induction l with
    | nil => intro a; rfl
    | cons d l ih =>
      intro a
      rw [List.foldl_cons, ih]
      obtain ⟨free, left, x⟩ := a
      unfold State.associate
      dsimp only
      split
      · exact State.trackHit_quiet _ _ _ _ _ _
      · rfl
  have h2 := (key (detectSort dets) (predicted, [], s1)).trans h1
  revert h2
  rcases (detectSort dets).foldl (State.associate i time) (predicted, [], s1) with ⟨free, left, s2⟩
  intro h2
  dsimp -zeta only at h2 ⊢
  extract_lets s3
  have h3 : s3.quiet = s.quiet := (quiet_foldl _ (fun _ _ => State.trackBirth_quiet _ _ _ _ _) _ _).trans h2
  exact (quiet_foldl _ (fun _ _ => quiet_if (State.trackMiss_quiet _ _ _ _) rfl) _ _).trans h3

theorem State.nestAccept_quiet (s : State) (i : Nat) (f : NestFrame) (lines : List NestLine) (t : Tai) :
    (State.nestAccept s i f lines t).quiet = s.quiet := by
  unfold State.nestAccept
  simp (disch := (first | assumption | omega | (simp only [Fld.NEST_IMGi_AREA_AREA_MAX, Fld.NEST_IMGi_AREA_AREA_MIN, Fld.NEST_IMGi_LAST_DETS, Fld.NEST_IMGi_LAST_FSEQ, Fld.NEST_IMGi_LAT_LAT_US, Fld.NEST_IMGi_REF_T_T, Reg.NEST_IMGi_AREA, Reg.NEST_IMGi_CNTk, Reg.NEST_IMGi_FRAMES, Reg.NEST_IMGi_FSUM, Reg.NEST_IMGi_LAST, Reg.NEST_IMGi_LAT, Reg.NEST_IMGi_REF_T]; omega))) only [quiet_mk, quiet_fold, quiet_ite,
      quiet_foldl, ite_self, Bool.false_eq_true, if_true, if_false, State.count_quiet, State.nestAdvance_quiet,
      State.nestCount_quiet, State.nestEgo_quiet, State.nestTrack_quiet, State.put_quiet, State.raiseOnce_quiet,
      State.setReg_quiet]

theorem State.nestSwap_quiet (s : State) (cfg : List (Nat × Word)) : (State.nestSwap s cfg).quiet = s.quiet := by
  unfold State.nestSwap
  simp (disch := (first | assumption | omega)) only [quiet_mk, quiet_fold, quiet_ite, quiet_foldl, ite_self,
      Bool.false_eq_true, if_true, if_false]

theorem State.nestDiscard_quiet (s : State) (i : Nat) (reason : Nat) :
    (State.nestDiscard s i reason).quiet = s.quiet := by
  unfold State.nestDiscard
  simp (disch := (first | assumption | omega | (simp only [Fld.NEST_IMGi_LAST_REASON, Reg.NEST_IMGi_DISCARD, Reg.NEST_IMGi_LAST]; omega))) only [quiet_mk, quiet_fold, quiet_ite,
      quiet_foldl, ite_self, Bool.false_eq_true, if_true, if_false, State.count_quiet, State.put_quiet,
      State.raiseOnce_quiet]

theorem State.nestEnd_quiet (s : State) (i : Nat) (lines : List NestLine) (c : CsiCounts) (t : Tai) :
    (State.nestEnd s i lines c t).quiet = s.quiet := by
  unfold State.nestEnd
  dsimp only
  (repeat' split) <;> first | with_reducible rfl | simp (disch := (first | assumption | omega)) only [quiet_mk, quiet_fold, quiet_ite,
      quiet_foldl, ite_self, Bool.false_eq_true, if_true, if_false, State.csiCounts_quiet, State.nestAccept_quiet,
      State.nestCount_quiet, State.nestDiscard_quiet, State.nestSwap_quiet]

theorem State.nestStart_quiet (s : State) (i : Nat) (number : Nat) (c : CsiCounts) (t : Tai) :
    (State.nestStart s i number c t).quiet = s.quiet := by
  unfold State.nestStart
  simp (disch := (first | assumption | omega)) only [quiet_mk, quiet_fold, quiet_ite, quiet_foldl, ite_self,
      Bool.false_eq_true, if_true, if_false, State.csiCounts_quiet, State.nestDiscard_quiet]

theorem State.notify_quiet (s : State) : (State.notify s).quiet = s.quiet := by
  unfold State.notify
  dsimp only
  (repeat' split) <;> first | with_reducible rfl | simp (disch := (first | assumption | omega | (simp only [Reg.MGT_CNTk]; omega) | (intros; (try dsimp only); (repeat' (split; try (rename_i h; have h2 := congrArg Prod.snd h; dsimp only at h2; subst h2))) <;> simp (disch := (first | assumption | omega | (simp only [Reg.MGT_CNTk]; omega))) only [quiet_mk, quiet_fold, quiet_ite, quiet_foldl, ite_self, Bool.false_eq_true, if_true, if_false, State.count_quiet, State.draw_quiet, State.reply_quiet]))) only [quiet_mk, quiet_fold, quiet_ite, quiet_foldl, ite_self, Bool.false_eq_true, if_true, if_false, State.count_quiet, State.draw_quiet, State.reply_quiet]

theorem State.showBanks_quiet (s : State) : (State.showBanks s).quiet = s.quiet := by
  unfold State.showBanks
  simp (disch := (first | assumption | omega | (simp only [Fld.NVM_BANKb_CFG_FMT, Fld.NVM_BANKb_GEN, Fld.NVM_CFG_STAT_A_VALID, Fld.NVM_CFG_STAT_B_VALID, Fld.NVM_CFG_STAT_CURRENT, Fld.NVM_CFG_STAT_NONE, Reg.NVM_BANKb, Reg.NVM_CFG_STAT]; omega) | (intros; (try dsimp only); (repeat' (split; try (rename_i h; have h2 := congrArg Prod.snd h; dsimp only at h2; subst h2))) <;> simp (disch := (first | assumption | omega | (simp only [Fld.NVM_BANKb_CFG_FMT, Fld.NVM_BANKb_GEN, Fld.NVM_CFG_STAT_A_VALID, Fld.NVM_CFG_STAT_B_VALID, Fld.NVM_CFG_STAT_CURRENT, Fld.NVM_CFG_STAT_NONE, Reg.NVM_BANKb, Reg.NVM_CFG_STAT]; omega))) only [quiet_mk, quiet_fold, quiet_ite, quiet_foldl, ite_self, Bool.false_eq_true, if_true, if_false, State.put_quiet]))) only [quiet_mk, quiet_fold, quiet_ite, quiet_foldl, ite_self, Bool.false_eq_true, if_true, if_false, State.put_quiet]

theorem State.saveEnd_quiet (s : State) (ok : Bool) : (State.saveEnd s ok).quiet = s.quiet := by
  unfold State.saveEnd
  dsimp only
  (repeat' split) <;> first | with_reducible rfl | simp (disch := (first | assumption | omega | (simp only [Fld.NVM_CFG_STAT_RESULT, Fld.NVM_STATUS_CFG_BUSY, Fld.NVM_STATUS_CFG_DIRTY, Reg.NVM_CFG_STAT, Reg.NVM_CNTk, Reg.NVM_STATUS]; omega))) only [quiet_mk, quiet_fold, quiet_ite,
      quiet_foldl, ite_self, Bool.false_eq_true, if_true, if_false, State.count_quiet, State.put_quiet,
      State.raise_quiet, State.showBanks_quiet]

theorem State.updMoveOf_quiet (s : State) (slot : Nat) (new : Nat) (result : Nat) :
    (State.updMoveOf s slot new result).quiet = s.quiet := by
  unfold State.updMoveOf
  simp (disch := (first | assumption | omega | (simp only [Fld.NVM_UPD_STATUS_RESULT, Fld.NVM_UPD_STATUS_STATE, Reg.NVM_UPD_STATUS]; omega))) only [quiet_mk, quiet_fold, quiet_ite,
      quiet_foldl, ite_self, Bool.false_eq_true, if_true, if_false, State.log_quiet, State.put_quiet, State.raise_quiet]

theorem State.updMove_quiet (s : State) (new : Nat) (result : Nat) : (State.updMove s new result).quiet = s.quiet := by
  unfold State.updMove
  simp (disch := (first | assumption | omega)) only [quiet_mk, quiet_fold, quiet_ite, quiet_foldl, ite_self,
      Bool.false_eq_true, if_true, if_false, State.updMoveOf_quiet]

theorem State.transferFails_quiet (s : State) : (State.transferFails s).quiet = s.quiet := by
  unfold State.transferFails
  simp (disch := (first | assumption | omega | (simp only [Fld.NVM_UPD_STATUS_STATE, Reg.NVM_UPD_STATUS]; omega))) only [quiet_mk, quiet_fold, quiet_ite,
      quiet_foldl, ite_self, Bool.false_eq_true, if_true, if_false, State.updMove_quiet]

theorem State.perst_quiet (s : State) : (State.perst s).quiet = s.quiet := by
  unfold State.perst
  simp (disch := (first | assumption | omega)) only [quiet_mk, quiet_fold, quiet_ite, quiet_foldl, ite_self,
      Bool.false_eq_true, if_true, if_false, State.hifReset_quiet, State.transferFails_quiet]

theorem State.commitJournal_quiet (s : State) (progs : List (Nat × Bool)) :
    (State.commitJournal s progs).quiet = s.quiet := by
  unfold State.commitJournal
  simp (disch := (first | assumption | omega | (intros; (try dsimp only); (repeat' (split; try (rename_i h; have h2 := congrArg Prod.snd h; dsimp only at h2; subst h2))) <;> simp (disch := (first | assumption | omega)) only [quiet_mk, quiet_fold, quiet_ite, quiet_foldl, ite_self, Bool.false_eq_true, if_true, if_false, State.programEntry_quiet]))) only [quiet_mk, quiet_fold, quiet_ite, quiet_foldl, ite_self, Bool.false_eq_true, if_true, if_false, State.programEntry_quiet]

theorem State.setRail_quiet (s : State) (vsds : Bool) (ok : Bool) (fell : Bool) :
    (State.setRail s vsds ok fell).quiet = s.quiet := by
  unfold State.setRail
  simp (disch := (first | assumption | omega)) only [quiet_mk, quiet_fold, quiet_ite, quiet_foldl, ite_self,
      Bool.false_eq_true, if_true, if_false]

theorem State.railReturn_quiet (s : State) (vsds : Bool) : (State.railReturn s vsds).quiet = s.quiet := by
  unfold State.railReturn
  simp (disch := (first | assumption | omega | (simp only [Fld.PWR_Dd_CFG_ON, Fld.PWR_Dd_STAT_REASON, Fld.PWR_STATUS_BRACE, Reg.PWR_Dd_CFG, Reg.PWR_Dd_STAT, Reg.PWR_STATUS]; omega) | (intros; (try dsimp only); (repeat' (split; try (rename_i h; have h2 := congrArg Prod.snd h; dsimp only at h2; subst h2))) <;> simp (disch := (first | assumption | omega | (simp only [Fld.PWR_Dd_CFG_ON, Fld.PWR_Dd_STAT_REASON, Fld.PWR_STATUS_BRACE, Reg.PWR_Dd_CFG, Reg.PWR_Dd_STAT, Reg.PWR_STATUS]; omega))) only [quiet_mk, quiet_fold, quiet_ite, quiet_foldl, ite_self, Bool.false_eq_true, if_true, if_false, State.raise_quiet, State.requestWake_quiet, State.setDom_quiet, State.setRail_quiet]))) only [quiet_mk, quiet_fold, quiet_ite, quiet_foldl, ite_self, Bool.false_eq_true, if_true, if_false, State.raise_quiet, State.requestWake_quiet, State.setDom_quiet, State.setRail_quiet]

theorem State.musterRestart_quiet (s : State) (m : Nat) : (State.musterRestart s m).quiet = s.quiet := by
  unfold State.musterRestart
  simp (disch := (first | assumption | omega | (simp only [Fld.REEF_MUSm_STAT_CARD_LOST, Fld.REEF_MUSm_STAT_DRIFT_SUSPECT, Fld.REEF_MUSm_STAT_MISSES, Fld.REEF_MUSm_STAT_MULT_LOG, Reg.REEF_MUSm_STAT]; omega))) only [quiet_mk, quiet_fold, quiet_ite,
      quiet_foldl, ite_self, Bool.false_eq_true, if_true, if_false, State.musterDelta_quiet, State.put_quiet,
      State.setWins_quiet]

theorem State.reefReconfigure_quiet (old : State) (s : State) (n : Nat) :
    (State.reefReconfigure old s n).quiet = s.quiet := by
  unfold State.reefReconfigure
  simp (disch := (first | assumption | omega | (simp only [Fld.REEF_PORTn_CFG_FORCE_AWAKE, Fld.REEF_PORTn_CFG_SLEEP_EN, Fld.REEF_PORTn_INSOM_INSOMNIA_S, Reg.REEF_PORTn_CFG, Reg.REEF_PORTn_INSOM]; omega))) only [quiet_mk, quiet_fold, quiet_ite,
      quiet_foldl, ite_self, Bool.false_eq_true, if_true, if_false, State.reefAwake_quiet, State.reefUnmanaged_quiet,
      State.reefWake_quiet, State.setReef_quiet]

theorem State.reefFollow_quiet (old : State) (s : State) : (State.reefFollow old s).quiet = s.quiet := by
  unfold State.reefFollow
  simp (disch := (first | assumption | omega | (intros; (try dsimp only); (repeat' (split; try (rename_i h; have h2 := congrArg Prod.snd h; dsimp only at h2; subst h2))) <;> simp (disch := (first | assumption | omega)) only [quiet_mk, quiet_fold, quiet_ite, quiet_foldl, ite_self, Bool.false_eq_true, if_true, if_false, State.musterRestart_quiet, State.reefReconfigure_quiet]))) only [quiet_mk, quiet_fold, quiet_ite, quiet_foldl, ite_self, Bool.false_eq_true, if_true, if_false, State.musterRestart_quiet, State.reefReconfigure_quiet]

theorem State.reefCommitApply_quiet (s : State) : (State.reefCommitApply s).quiet = s.quiet := by
  unfold State.reefCommitApply
  simp (disch := (first | assumption | omega | (simp only [Fld.REEF_STATUS_PENDING, Reg.REEF_CFG_ERR, Reg.REEF_STATUS]; omega))) only [quiet_mk, quiet_fold, quiet_ite,
      quiet_foldl, ite_self, Bool.false_eq_true, if_true, if_false, State.goLive_quiet, State.orReg_quiet,
      State.put_quiet, State.raise_quiet, State.reefFollow_quiet]

theorem State.rederive_quiet (s : State) (unit : Nat) : (State.rederive s unit).quiet = s.quiet := by
  unfold State.rederive
  simp (disch := (first | assumption | omega | (simp only [Fld.MGT_SKEW_LAST_BLK_STATE, Fld.MGT_SKEW_LAST_REG_STATE, Fld.MGT_SKEW_LAST_UNIT, Reg.MGT_SKEW_LAST, Reg.MGT_SKEW_TIME]; omega))) only [quiet_mk, quiet_fold, quiet_ite,
      quiet_foldl, ite_self, Bool.false_eq_true, if_true, if_false, State.draw_quiet, State.log_quiet, State.put_quiet,
      State.setReg64_quiet, State.setWord_quiet]

theorem State.expirePort_quiet (s : State) (port : Nat) (held : List Held) :
    (State.expirePort s port held).quiet = s.quiet := by
  unfold State.expirePort
  simp (disch := (first | assumption | omega | (simp only [Fld.HAL_RPL_RPL_AGE, Reg.HAL_CNTk, Reg.HAL_RPL]; omega) | (intros; (try dsimp only); (repeat' (split; try (rename_i h; have h2 := congrArg Prod.snd h; dsimp only at h2; subst h2))) <;> simp (disch := (first | assumption | omega | (simp only [Fld.HAL_RPL_RPL_AGE, Reg.HAL_CNTk, Reg.HAL_RPL]; omega))) only [quiet_mk, quiet_fold, quiet_ite, quiet_foldl, ite_self, Bool.false_eq_true, if_true, if_false, State.copyFinal_quiet, State.count_quiet]))) only [quiet_mk, quiet_fold, quiet_ite, quiet_foldl, ite_self, Bool.false_eq_true, if_true, if_false, State.copyFinal_quiet, State.count_quiet]

theorem State.raSend_quiet (s : State) (fid : Nat) (ingress : Nat) (egress : Nat) (cls : Nat) (route : Nat) (c : Copy) :
    (State.raSend s fid ingress egress cls route c).quiet = s.quiet := by
  unfold State.raSend
  dsimp only
  (repeat' split) <;> first | with_reducible rfl | simp (disch := (first | assumption | omega | (simp only [Reg.FAB_RA_START_CNT, Reg.LSEC_Ll_CNTk]; omega))) only [quiet_mk, quiet_fold, quiet_ite,
      quiet_foldl, ite_self, Bool.false_eq_true, if_true, if_false, State.copyFinal_quiet, State.count_quiet,
      State.dropInternal_quiet, State.emit_quiet, State.ethBytes_quiet, State.frameBegins_quiet, State.secSend_quiet,
      State.setOpportunity_quiet, State.setQueue_quiet, State.setRa_quiet, State.startCopy_quiet]

theorem State.raStart_quiet (s : State) (ingress : Nat) (egress : Nat) (bad : List (Nat × Nat)) :
    (State.raStart s ingress egress bad).quiet = s.quiet := by
  unfold State.raStart
  dsimp only
  (repeat' split) <;> first | with_reducible rfl | simp (disch := (first | assumption | omega)) only [quiet_mk, quiet_fold, quiet_ite,
      quiet_foldl, ite_self, Bool.false_eq_true, if_true, if_false, State.admitWith_quiet, State.arrivalFail_quiet,
      State.raSend_quiet, State.resetQueues_quiet]

theorem State.rxDisable_quiet (s : State) (n : Nat) : (State.rxDisable s n).quiet = s.quiet := by
  unfold State.rxDisable
  simp (disch := (first | assumption | omega)) only [quiet_mk, quiet_fold, quiet_ite, quiet_foldl, ite_self,
      Bool.false_eq_true, if_true, if_false, State.rxFlush_quiet, State.setRxRing_quiet, State.setRxState_quiet]

theorem State.rxEnable_quiet (s : State) (n : Nat) : (State.rxEnable s n).quiet = s.quiet := by
  unfold State.rxEnable
  simp (disch := (first | assumption | omega | (simp only [Fld.HIF_RXn_CFG_KIND, Fld.HIF_RXn_CFG_LOG2, Fld.HIF_RXn_STAT_FAULT, Reg.HIF_RXn_CFG, Reg.HIF_RXn_STAT]; omega))) only [quiet_mk, quiet_fold, quiet_ite,
      quiet_foldl, ite_self, Bool.false_eq_true, if_true, if_false, State.put_quiet, State.setRxRing_quiet,
      State.setRxState_quiet]

theorem State.serRoom_quiet (s : State) (c : Nat) : (State.serRoom s c).2.quiet = s.quiet := by
  unfold State.serRoom
  dsimp only
  (repeat' split) <;> first | with_reducible rfl | simp (disch := (first | assumption | omega | (simp only [Fld.FAB_HOSTBUF_BLOCKS, Reg.FAB_HOSTBUF]; omega))) only [quiet_mk, quiet_fold, quiet_ite,
      quiet_foldl, ite_self, Bool.false_eq_true, if_true, if_false, State.setSer_quiet]

theorem State.serPut_quiet (s : State) (c : Nat) (byte : Byte) (stamp : Tai) (until_ : Tai) (parity : Bool) (framing : Bool) (brk : Bool) (noise : Bool) (bad : List (Nat × Nat)) :
    (State.serPut s c byte stamp until_ parity framing brk noise bad).quiet = s.quiet := by
  unfold State.serPut
  simp (disch := (first | assumption | omega | (simp only [Fld.SER_Cc_FRAME_DELIM, Fld.SER_Cc_FRAME_DELIM_EN, Fld.SER_Cc_FRAME_MAX_LEN, Reg.SER_Cc_CNTk, Reg.SER_Cc_FRAME]; omega))) only [quiet_mk, quiet_fold, quiet_ite,
      quiet_foldl, ite_self, Bool.false_eq_true, if_true, if_false, State.count_quiet, State.raiseOnce_quiet,
      State.serClose_quiet, State.serRoom_quiet, State.setSer_quiet]

theorem State.serJudge_quiet (s : State) (c : Nat) (cfg : Nat) (period : Nat) (line : List Bool) (start16 : Nat) (bad : List (Nat × Nat)) :
    (State.serJudge s c cfg period line start16 bad).quiet = s.quiet := by
  unfold State.serJudge
  simp (disch := (first | assumption | omega | (simp only [Reg.SER_Cc_CNTk]; omega))) only [quiet_mk, quiet_fold, quiet_ite,
      quiet_foldl, ite_self, Bool.false_eq_true, if_true, if_false, State.count_quiet, State.serPut_quiet]

theorem State.sawLine_quiet (s : State) (c : Nat) (low : Bool) (at16 : Nat) :
    (State.sawLine s c low at16).quiet = s.quiet := by
  unfold State.sawLine
  simp (disch := (first | assumption | omega)) only [quiet_mk, quiet_fold, quiet_ite, quiet_foldl, ite_self,
      Bool.false_eq_true, if_true, if_false, State.setSer_quiet]

theorem State.serLine_quiet (s : State) (c : Nat) (line : List Bool) (start16 : Nat) (bad : List (Nat × Nat)) (fuel : Nat) :
    (State.serLine s c line start16 bad fuel).quiet = s.quiet := by
  induction fuel generalizing s line start16 with
  | zero => unfold State.serLine; rfl
  | succ n ih =>
    cases line with
    | nil => rfl
    | cons level rest =>
      unfold State.serLine
      refine quiet_if ((ih _ _ _).trans (State.sawLine_quiet _ _ _ _)) (quiet_if ((ih _ _ _).trans ?_) ((ih _ _ _).trans ?_))
      · exact (State.sawLine_quiet _ _ _ _).trans (State.count_quiet _ _ _ (by simp only [Reg.SER_Cc_CNTk]; omega))
      · exact (State.sawLine_quiet _ _ _ _).trans (State.serJudge_quiet ..)

theorem State.serCharacter_quiet (s : State) (c : Nat) (line : List Bool) (start16 : Nat) (bad : List (Nat × Nat)) :
    (State.serCharacter s c line start16 bad).quiet = s.quiet := by
  unfold State.serCharacter
  simp (disch := (first | assumption | omega | (simp only [Fld.SER_Cc_STATUS_STATE, Reg.SER_Cc_DIV, Reg.SER_Cc_STATUS]; omega))) only [quiet_mk, quiet_fold, quiet_ite,
      quiet_foldl, ite_self, Bool.false_eq_true, if_true, if_false, State.serLine_quiet, State.setSer_quiet]

theorem State.serTxDone_quiet (s : State) (c : Nat) (edge16 : Nat) (t : Tai) :
    (State.serTxDone s c edge16 t).quiet = s.quiet := by
  unfold State.serTxDone
  dsimp only
  (repeat' split) <;> first | with_reducible rfl | simp (disch := (first | assumption | omega | (simp only [Fld.SER_Cc_DE_IFG, Fld.SER_Cc_DE_LAG, Fld.SER_Cc_STATUS_DE, Fld.SER_Cc_STATUS_TX_BUSY, Reg.SER_Cc_CNTk, Reg.SER_Cc_DE, Reg.SER_Cc_STATUS]; omega))) only [quiet_mk, quiet_fold, quiet_ite,
      quiet_foldl, ite_self, Bool.false_eq_true, if_true, if_false, State.copyFinal_quiet, State.count_quiet,
      State.countPort_quiet, State.emit_quiet, State.put_quiet, State.setSending_quiet, State.setSer_quiet]

theorem State.serTxStart_quiet (s : State) (c : Nat) (fault : Bool) (abandoned : Bool) :
    (State.serTxStart s c fault abandoned).quiet = s.quiet := by
  unfold State.serTxStart
  dsimp only
  (repeat' split) <;> first | with_reducible rfl | simp (disch := (first | assumption | omega | (simp only [Fld.SER_Cc_CFG_RS485, Fld.SER_Cc_DE_LEAD, Fld.SER_Cc_STATUS_DE, Fld.SER_Cc_STATUS_STATE, Fld.SER_Cc_STATUS_TX_BUSY, Reg.SER_Cc_CFG, Reg.SER_Cc_CNTk, Reg.SER_Cc_DE, Reg.SER_Cc_DIV, Reg.SER_Cc_STATUS]; omega))) only [quiet_mk, quiet_fold, quiet_ite,
      quiet_foldl, ite_self, Bool.false_eq_true, if_true, if_false, State.count_quiet, State.emit_quiet,
      State.put_quiet, State.queueReset_quiet, State.startCopy_quiet]

theorem State.tooShort_quiet (s : State) : (State.tooShort s).quiet = s.quiet := by
  unfold State.tooShort
  (repeat' split) <;> first | with_reducible rfl | simp (disch := (first | assumption | omega)) only [quiet_mk, quiet_fold, quiet_ite,
      quiet_foldl, ite_self, Bool.false_eq_true, if_true, if_false, State.jobFinal_quiet]

theorem State.snapRange_quiet (s : State) (r : Nat) : (State.snapRange s r).quiet = s.quiet := by
  unfold State.snapRange
  simp (disch := (first | assumption | omega | (simp only [Fld.NVM_SNAPr_BASE_BASE, Fld.NVM_SNAPr_CTRL_N, Fld.NVM_SNAPr_CTRL_REPEAT, Fld.NVM_SNAPr_CTRL_VALID, Fld.NVM_SNAPr_STRIDE_STRIDE, Reg.NVM_SNAPr_BASE, Reg.NVM_SNAPr_CTRL, Reg.NVM_SNAPr_STRIDE]; omega))) only [quiet_mk, quiet_fold, quiet_ite,
      quiet_foldl, ite_self, Bool.false_eq_true, if_true, if_false, State.log_quiet]

theorem State.snapshotRound_quiet (s : State) : (State.snapshotRound s).quiet = s.quiet := by
  unfold State.snapshotRound
  simp (disch := (first | assumption | omega | (intros; (try dsimp only); (repeat' (split; try (rename_i h; have h2 := congrArg Prod.snd h; dsimp only at h2; subst h2))) <;> simp (disch := (first | assumption | omega)) only [quiet_mk, quiet_fold, quiet_ite, quiet_foldl, ite_self, Bool.false_eq_true, if_true, if_false, State.snapRange_quiet]))) only [quiet_mk, quiet_fold, quiet_ite, quiet_foldl, ite_self, Bool.false_eq_true, if_true, if_false, State.snapRange_quiet]

theorem State.skew_quiet (s : State) (unit : Nat) : (State.skew s unit).quiet = s.quiet := by
  unfold State.skew
  dsimp only
  (repeat' split) <;> first | with_reducible rfl | simp (disch := (first | assumption | omega | (simp only [Reg.MGT_CNTk]; omega))) only [quiet_mk, quiet_fold, quiet_ite,
      quiet_foldl, ite_self, Bool.false_eq_true, if_true, if_false, State.count_quiet, State.lossCheck_quiet,
      State.raiseWith_quiet]

theorem State.termTry_quiet (s : State) (n : Nat) (ohm16 : Option Nat) : (State.termTry s n ohm16).quiet = s.quiet := by
  unfold State.termTry
  dsimp only
  (repeat' split) <;> first | with_reducible rfl | simp (disch := (first | assumption | omega | (simp only [Fld.SHR_CANn_CFG_TERM_MEAS_EN, Fld.SHR_CANn_TERM_MISSED, Fld.SHR_CANn_TERM_OHM16, Reg.SHR_CANn_CFG, Reg.SHR_CANn_TERM]; omega))) only [quiet_mk, quiet_fold, quiet_ite,
      quiet_foldl, ite_self, Bool.false_eq_true, if_true, if_false, State.put_quiet, State.setShr_quiet,
      State.shrConfirm_quiet]

theorem State.dropBeacon_quiet (s : State) (n : Nat) : (State.dropBeacon s n).quiet = s.quiet := by
  unfold State.dropBeacon
  simp (disch := (first | assumption | omega | (intros; (try dsimp only); (repeat' (split; try (rename_i h; have h2 := congrArg Prod.snd h; dsimp only at h2; subst h2))) <;> simp (disch := (first | assumption | omega)) only [quiet_mk, quiet_fold, quiet_ite, quiet_foldl, ite_self, Bool.false_eq_true, if_true, if_false, State.release_quiet, State.withdraw_quiet]))) only [quiet_mk, quiet_fold, quiet_ite, quiet_foldl, ite_self, Bool.false_eq_true, if_true, if_false, State.release_quiet, State.withdraw_quiet]

theorem State.tryMac_quiet (s : State) (slot : Nat) (d tag : Bytes) (mismatches : Nat) :
    (State.tryMac s slot d tag mismatches).2.quiet = s.quiet := by
  unfold State.tryMac
  have h := State.operate_quiet s 1 slot attrAfa (blocksIn d) mismatches
  revert h
  rcases State.operate s 1 slot attrAfa (blocksIn d) mismatches with ⟨u, t⟩
  intro h
  cases u <;> exact h

theorem State.checkTrailer_quiet (s : State) (r : Route) (w : Wire) (faults : List Nat) :
    (State.checkTrailer s r w faults).2.2.quiet = s.quiet := by
  unfold State.checkTrailer
  dsimp only
  (repeat' split) <;> first | with_reducible rfl | simp (disch := (first | assumption | omega)) only [quiet_mk, quiet_fold, quiet_ite,
      quiet_foldl, ite_self, Bool.false_eq_true, if_true, if_false, State.tryMac_quiet]

theorem State.setBeacon_quiet (s : State) (n : Nat) (b : Beacon) : (State.setBeacon s n b).quiet = s.quiet := by
  unfold State.setBeacon
  simp (disch := (first | assumption | omega)) only [quiet_mk, quiet_fold, quiet_ite, quiet_foldl, ite_self,
      Bool.false_eq_true, if_true, if_false]

theorem State.beaconDue_quiet (s : State) (n : Nat) : (State.beaconDue s n).quiet = s.quiet := by
  unfold State.beaconDue
  simp (disch := (first | assumption | omega)) only [quiet_mk, quiet_fold, quiet_ite, quiet_foldl, ite_self,
      Bool.false_eq_true, if_true, if_false, State.alloc_quiet, State.checkTrailer_quiet, State.dropBeacon_quiet,
      State.offer_quiet, State.setBeacon_quiet]

theorem State.pendStep_quiet (s : State) (v : Int) (host : Bool) : (State.pendStep s v host).quiet = s.quiet := by
  unfold State.pendStep
  dsimp only
  (repeat' split) <;> first | with_reducible rfl | simp (disch := (first | assumption | omega | (simp only [Fld.TIME_STATUS_STEP_PENDING, Reg.TIME_STATUS]; omega))) only [quiet_mk, quiet_fold, quiet_ite,
      quiet_foldl, ite_self, Bool.false_eq_true, if_true, if_false, State.put_quiet]

theorem State.evaluateStep_quiet (s : State) (mode : Nat) : (State.evaluateStep s mode).quiet = s.quiet := by
  unfold State.evaluateStep
  simp (disch := (first | assumption | omega | (simp only [Fld.TIME_STEP_STATUS_RESULT, Reg.TIME_STEP_STATUS, Reg.TIME_STEP_VALUE]; omega))) only [quiet_mk, quiet_fold, quiet_ite,
      quiet_foldl, ite_self, Bool.false_eq_true, if_true, if_false, State.pendStep_quiet, State.put_quiet,
      State.raise_quiet]

theorem State.evaluateSteps_quiet (s : State) : (State.evaluateSteps s).quiet = s.quiet := by
  unfold State.evaluateSteps
  extract_lets modes rest
  exact (quiet_foldl _ (fun _ _ => State.evaluateStep_quiet _ _) _ _).trans (by simp only [quiet_mk, quiet_fold])

theorem State.submit_quiet (s : State) (n : Nat) (bad : List (Nat × Nat)) : (State.submit s n bad).quiet = s.quiet := by
  unfold State.submit
  dsimp only
  (repeat' split) <;> first | with_reducible rfl | simp (disch := (first | assumption | omega | (simp only [Fld.FAB_FREE_BLOCKS, Reg.FAB_FREE]; omega))) only [quiet_mk, quiet_fold, quiet_ite,
      quiet_foldl, ite_self, Bool.false_eq_true, if_true, if_false, State.enter_quiet, State.looked_quiet,
      State.put_quiet, State.resetQueues_quiet]

theorem State.nop_quiet (s : State) (d : DescRead) : (State.nop s d).quiet = s.quiet := by
  unfold State.nop
  simp (disch := (first | assumption | omega | (simp only [Fld.HIF_STATUS_RUNNING, Fld.NVM_UPD_STATUS_STATE, Reg.HIF_STATUS, Reg.NVM_UPD_STATUS]; omega))) only [quiet_mk, quiet_fold, quiet_ite,
      quiet_foldl, ite_self, Bool.false_eq_true, if_true, if_false, State.fetchRing_quiet]

theorem State.txDisable_quiet (s : State) (n : Nat) : (State.txDisable s n).quiet = s.quiet := by
  unfold State.txDisable
  simp (disch := (first | assumption | omega)) only [quiet_mk, quiet_fold, quiet_ite, quiet_foldl, ite_self,
      Bool.false_eq_true, if_true, if_false, State.setTxState_quiet]

theorem State.txDrained_quiet (s : State) (n : Nat) : (State.txDrained s n).quiet = s.quiet := by
  unfold State.txDrained
  simp (disch := (first | assumption | omega | (simp only [Fld.HIF_TXn_STAT_OUTSTANDING, Reg.HIF_TXn_STAT]; omega))) only [quiet_mk, quiet_fold, quiet_ite,
      quiet_foldl, ite_self, Bool.false_eq_true, if_true, if_false, State.setTxState_quiet]

theorem State.txEnable_quiet (s : State) (n : Nat) : (State.txEnable s n).quiet = s.quiet := by
  unfold State.txEnable
  simp (disch := (first | assumption | omega | (simp only [Fld.HIF_TXn_CFG_LOG2, Fld.HIF_TXn_STAT_FAULT, Fld.HIF_TXn_STAT_OUTSTANDING, Reg.HIF_TXn_CFG, Reg.HIF_TXn_STAT]; omega))) only [quiet_mk, quiet_fold, quiet_ite,
      quiet_foldl, ite_self, Bool.false_eq_true, if_true, if_false, State.put_quiet, State.setTxRing_quiet,
      State.setTxState_quiet]

theorem State.slotProgrammed_quiet (s : State) (header : Bytes) (result : Nat) :
    (State.slotProgrammed s header result).quiet = s.quiet := by
  unfold State.slotProgrammed
  simp (disch := (first | assumption | omega)) only [quiet_mk, quiet_fold, quiet_ite, quiet_foldl, ite_self,
      Bool.false_eq_true, if_true, if_false, State.updMove_quiet]

theorem State.showSlot_quiet (s : State) (slot : Nat) (result : Nat) :
    (State.showSlot s slot result).quiet = s.quiet := by
  unfold State.showSlot
  simp (disch := (first | assumption | omega | (simp only [Fld.NVM_SLOTs_FMT_CFG_FMT, Fld.NVM_SLOTs_FMT_SHADOW_FMT, Fld.NVM_SLOTs_STAT_REASON, Fld.NVM_SLOTs_STAT_VALID, Reg.NVM_SLOTs_FMT, Reg.NVM_SLOTs_STAT, Reg.NVM_SLOTs_SVN, Reg.NVM_SLOTs_VER]; omega))) only [quiet_mk, quiet_fold, quiet_ite,
      quiet_foldl, ite_self, Bool.false_eq_true, if_true, if_false, State.put_quiet, State.setReg_quiet]

theorem State.slotVerified_quiet (s : State) (sigOk : Bool) (digestOk : Bool) :
    (State.slotVerified s sigOk digestOk).quiet = s.quiet := by
  unfold State.slotVerified
  simp (disch := (first | assumption | omega | (simp only [Fld.NVM_UPD_LEN_BYTES, Reg.NVM_UPD_LEN]; omega))) only [quiet_mk, quiet_fold, quiet_ite,
      quiet_foldl, ite_self, Bool.false_eq_true, if_true, if_false, State.showSlot_quiet, State.updMove_quiet]

theorem State.sendHeartbeat_quiet (s : State) : (State.sendHeartbeat s).quiet = s.quiet := by
  unfold State.sendHeartbeat
  simp (disch := (first | assumption | omega | (simp only [Fld.HAL_HEALTH_SCORE, Fld.HAL_STATUS_SHADOW_VALID, Reg.FAB_ROUTE_EPOCH, Reg.HAL_HEALTH, Reg.HAL_STATUS]; omega))) only [quiet_mk, quiet_fold, quiet_ite,
      quiet_foldl, ite_self, Bool.false_eq_true, if_true, if_false, State.halSend_quiet]

theorem State.claimRole_quiet (s : State) : (State.claimRole s).quiet = s.quiet := by
  unfold State.claimRole
  (repeat' split) <;> first | with_reducible rfl | simp (disch := (first | assumption | omega)) only [quiet_mk, quiet_fold, quiet_ite,
      quiet_foldl, ite_self, Bool.false_eq_true, if_true, if_false, State.setRole_quiet]

theorem State.replayPort_quiet (s : State) (port : Nat) (held : List Held) :
    (State.replayPort s port held).quiet = s.quiet := by
  unfold State.replayPort
  simp (disch := (first | assumption | omega | (simp only [Fld.CANP_MODE_LISTEN, Fld.REEF_PORTn_STAT_STATE, Reg.CANP_MODE, Reg.REEF_PORTn_STAT]; omega) | (intros; (try dsimp only); (repeat' (split; try (rename_i h; have h2 := congrArg Prod.snd h; dsimp only at h2; subst h2))) <;> simp (disch := (first | assumption | omega | (simp only [Fld.CANP_MODE_LISTEN, Fld.REEF_PORTn_STAT_STATE, Reg.CANP_MODE, Reg.REEF_PORTn_STAT]; omega))) only [quiet_mk, quiet_fold, quiet_ite, quiet_foldl, ite_self, Bool.false_eq_true, if_true, if_false, State.claimDrop_quiet, State.divert_quiet, State.holdCut_quiet, State.reefWake_quiet, State.refuseCopy_quiet, State.setFrame_quiet, State.setQueue_quiet]))) only [quiet_mk, quiet_fold, quiet_ite, quiet_foldl, ite_self, Bool.false_eq_true, if_true, if_false, State.claimDrop_quiet, State.divert_quiet, State.holdCut_quiet, State.reefWake_quiet, State.refuseCopy_quiet, State.setFrame_quiet, State.setQueue_quiet]

theorem State.replayAll_quiet (s : State) : (State.replayAll s).quiet = s.quiet := by
  unfold State.replayAll
  simp (disch := (first | assumption | omega | (simp only [Reg.HAL_CNTk]; omega) | (intros; (try dsimp only); (repeat' (split; try (rename_i h; have h2 := congrArg Prod.snd h; dsimp only at h2; subst h2))) <;> simp (disch := (first | assumption | omega | (simp only [Reg.HAL_CNTk]; omega))) only [quiet_mk, quiet_fold, quiet_ite, quiet_foldl, ite_self, Bool.false_eq_true, if_true, if_false, State.count_quiet, State.raise_quiet, State.replayPort_quiet]))) only [quiet_mk, quiet_fold, quiet_ite, quiet_foldl, ite_self, Bool.false_eq_true, if_true, if_false, State.count_quiet, State.raise_quiet, State.replayPort_quiet]

theorem State.freshnessAdvance_quiet (s : State) : (State.freshnessAdvance s).quiet = s.quiet := by
  unfold State.freshnessAdvance
  dsimp only
  rw [quiet_foldl _ (fun s n => by rw [State.setRetractFv_quiet, State.setBeaconFv_quiet]),
    quiet_foldl _ (fun s r => quiet_foldl _ (fun s k => by rw [State.delta_quiet, State.setLane_quiet]) _ s)]

theorem State.pinsClaimed_quiet (s : State) : (State.pinsClaimed s).quiet = s.quiet := by
  unfold State.pinsClaimed
  simp (disch := (first | assumption | omega)) only [quiet_mk, quiet_fold, quiet_ite, quiet_foldl, ite_self,
      Bool.false_eq_true, if_true, if_false]

theorem State.claimGained_quiet (s : State) : (State.claimGained s).quiet = s.quiet := by
  unfold State.claimGained
  simp (disch := (first | assumption | omega | (simp only [Fld.HAL_STATUS_CLAIMED, Reg.HAL_STATUS]; omega))) only [quiet_mk, quiet_fold, quiet_ite,
      quiet_foldl, ite_self, Bool.false_eq_true, if_true, if_false, State.claimShow_quiet, State.freshnessAdvance_quiet,
      State.pinsClaimed_quiet, State.put_quiet]

theorem State.claimOutputs_quiet (s : State) (become : Bool) : (State.claimOutputs s become).quiet = s.quiet := by
  unfold State.claimOutputs
  dsimp only
  (repeat' split) <;> first | with_reducible rfl | simp (disch := (first | assumption | omega)) only [quiet_mk, quiet_fold, quiet_ite,
      quiet_foldl, ite_self, Bool.false_eq_true, if_true, if_false, State.claimGained_quiet, State.claimLost_quiet,
      State.claimRole_quiet, State.imageRequest_quiet, State.replayAll_quiet]

theorem State.halBoundary_quiet (s : State) : (State.halBoundary s).quiet = s.quiet := by
  unfold State.halBoundary
  simp (disch := (first | assumption | omega)) only [quiet_mk, quiet_fold, quiet_ite, quiet_foldl, ite_self,
      Bool.false_eq_true, if_true, if_false, State.claimOutputs_quiet, State.claimRole_quiet, State.sendHeartbeat_quiet]

theorem State.keeperDeltas_quiet (s : State) : (State.keeperDeltas s).quiet = s.quiet := by
  unfold State.keeperDeltas
  simp (disch := (first | assumption | omega | (intros; (try dsimp only); (repeat' (split; try (rename_i h; have h2 := congrArg Prod.snd h; dsimp only at h2; subst h2))) <;> simp (disch := (first | assumption | omega)) only [quiet_mk, quiet_fold, quiet_ite, quiet_foldl, ite_self, Bool.false_eq_true, if_true, if_false, State.delta_quiet]))) only [quiet_mk, quiet_fold, quiet_ite, quiet_foldl, ite_self, Bool.false_eq_true, if_true, if_false, State.delta_quiet]

theorem State.limitersRefill_quiet (s : State) : (State.limitersRefill s).quiet = s.quiet := by
  unfold State.limitersRefill
  simp (disch := (first | assumption | omega | (simp only [Reg.FAB_LIMi_TOK, Reg.RT_LIVE_LIM]; omega) | (intros; (try dsimp only); (repeat' (split; try (rename_i h; have h2 := congrArg Prod.snd h; dsimp only at h2; subst h2))) <;> simp (disch := (first | assumption | omega | (simp only [Reg.FAB_LIMi_TOK, Reg.RT_LIVE_LIM]; omega))) only [quiet_mk, quiet_fold, quiet_ite, quiet_foldl, ite_self, Bool.false_eq_true, if_true, if_false, State.setReg_quiet]))) only [quiet_mk, quiet_fold, quiet_ite, quiet_foldl, ite_self, Bool.false_eq_true, if_true, if_false, State.setReg_quiet]

theorem State.raAge_quiet (s : State) : (State.raAge s).quiet = s.quiet := by
  unfold State.raAge
  simp (disch := (first | assumption | omega | (simp only [Fld.FAB_RA_STATj_WINDOW, Reg.FAB_RA_STATj]; omega) | (intros; (try dsimp only); (repeat' (split; try (rename_i h; have h2 := congrArg Prod.snd h; dsimp only at h2; subst h2))) <;> simp (disch := (first | assumption | omega | (simp only [Fld.FAB_RA_STATj_WINDOW, Reg.FAB_RA_STATj]; omega))) only [quiet_mk, quiet_fold, quiet_ite, quiet_foldl, ite_self, Bool.false_eq_true, if_true, if_false, State.put_quiet]))) only [quiet_mk, quiet_fold, quiet_ite, quiet_foldl, ite_self, Bool.false_eq_true, if_true, if_false, State.put_quiet]

theorem State.musterBoundary_quiet (s : State) (realigned : Bool) :
    (State.musterBoundary s realigned).quiet = s.quiet := by
  unfold State.musterBoundary
  simp (disch := (first | assumption | omega | (simp only [Fld.CANP_STATUS_STATE, Fld.REEF_MUSm_CTRL_PORT, Reg.CANP_STATUS, Reg.REEF_MUSm_CTRL]; omega) | (intros; (try dsimp only); (repeat' (split; try (rename_i h; have h2 := congrArg Prod.snd h; dsimp only at h2; subst h2))) <;> simp (disch := (first | assumption | omega | (simp only [Fld.CANP_STATUS_STATE, Fld.REEF_MUSm_CTRL_PORT, Reg.CANP_STATUS, Reg.REEF_MUSm_CTRL]; omega))) only [quiet_mk, quiet_fold, quiet_ite, quiet_foldl, ite_self, Bool.false_eq_true, if_true, if_false, State.keepWin_quiet]))) only [quiet_mk, quiet_fold, quiet_ite, quiet_foldl, ite_self, Bool.false_eq_true, if_true, if_false, State.keepWin_quiet]

theorem State.suspectsAge_quiet (s : State) : (State.suspectsAge s).quiet = s.quiet := by
  unfold State.suspectsAge
  simp (disch := (first | assumption | omega)) only [quiet_mk, quiet_fold, quiet_ite, quiet_foldl, ite_self,
      Bool.false_eq_true, if_true, if_false]

theorem State.pwrBoundary_quiet (s : State) : (State.pwrBoundary s).quiet = s.quiet := by
  unfold State.pwrBoundary
  simp (disch := (first | assumption | omega | (intros; (try dsimp only); (repeat' (split; try (rename_i h; have h2 := congrArg Prod.snd h; dsimp only at h2; subst h2))) <;> simp (disch := (first | assumption | omega)) only [quiet_mk, quiet_fold, quiet_ite, quiet_foldl, ite_self, Bool.false_eq_true, if_true, if_false, State.setDom_quiet]))) only [quiet_mk, quiet_fold, quiet_ite, quiet_foldl, ite_self, Bool.false_eq_true, if_true, if_false, State.setDom_quiet]

theorem State.pinBoundary_quiet (s : State) : (State.pinBoundary s).quiet = s.quiet := by
  unfold State.pinBoundary
  simp (disch := (first | assumption | omega | (simp only [Fld.PIN_CFGp_CLAIMED, Fld.PIN_CFGp_HOLD, Reg.PIN_CFGp]; omega))) only [quiet_mk, quiet_fold, quiet_ite,
      quiet_foldl, ite_self, Bool.false_eq_true, if_true, if_false]

theorem State.wbLate_quiet (s : State) : (State.wbLate s).quiet = s.quiet := by
  unfold State.wbLate
  simp (disch := (first | assumption | omega)) only [quiet_mk, quiet_fold, quiet_ite, quiet_foldl, ite_self,
      Bool.false_eq_true, if_true, if_false]

theorem State.tickTimers_quiet (s : State) : (State.tickTimers s).quiet = s.quiet := by
  unfold State.tickTimers
  simp (disch := (first | assumption | omega | (intros; (try dsimp only); (repeat' (split; try (rename_i h; have h2 := congrArg Prod.snd h; dsimp only at h2; subst h2))) <;> simp (disch := (first | assumption | omega)) only [quiet_mk, quiet_fold, quiet_ite, quiet_foldl, ite_self, Bool.false_eq_true, if_true, if_false, State.setRxRing_quiet, State.setTxRing_quiet]))) only [quiet_mk, quiet_fold, quiet_ite, quiet_foldl, ite_self, Bool.false_eq_true, if_true, if_false, State.setRxRing_quiet, State.setTxRing_quiet]

theorem State.keepEntries_quiet (s : State) (n : Nat) (l : List RxEntry) (held : Nat) :
    (State.keepEntries s n l held).quiet = s.quiet := by
  unfold State.keepEntries
  simp (disch := (first | assumption | omega | (simp only [Fld.HIF_RXn_STAT_HELD, Reg.HIF_RXn_STAT]; omega))) only [quiet_mk, quiet_fold, quiet_ite,
      quiet_foldl, ite_self, Bool.false_eq_true, if_true, if_false, State.put_quiet, State.setRxRing_quiet]

theorem State.recordDone_quiet (s : State) (fid : Nat) (f : Frame) : (State.recordDone s fid f).quiet = s.quiet := by
  unfold State.recordDone
  simp (disch := (first | assumption | omega)) only [quiet_mk, quiet_fold, quiet_ite, quiet_foldl, ite_self,
      Bool.false_eq_true, if_true, if_false, State.copyFinal_quiet, State.countPort_quiet]

theorem State.entryDone_quiet (s : State) (n : Nat) (e : RxEntry) : (State.entryDone s n e).quiet = s.quiet := by
  unfold State.entryDone State.recordDone
  split
  · dsimp only
    split
    · rw [State.copyFinal_quiet, State.countPort_quiet, State.setRxRing_quiet]
    · rw [State.setRxRing_quiet]
  · dsimp only; rw [State.setCap_quiet]
  · rfl

theorem State.writeRecord_quiet (s : State) (n fid epoch : Nat) (gap : Bool) :
    (State.writeRecord s n fid epoch gap).quiet = s.quiet := by
  unfold State.writeRecord State.recordDone
  split
  · rfl
  · dsimp only
    rw [State.copyFinal_quiet, State.countPort_quiet, State.observe_quiet, State.setRxRing_quiet, State.emit_quiet]

theorem State.putItem_quiet (s : State) (n : Nat) (type : Nat) (payload : Bytes) :
    (State.putItem s n type payload).quiet = s.quiet := by
  unfold State.putItem
  simp (disch := (first | assumption | omega)) only [quiet_mk, quiet_fold, quiet_ite, quiet_foldl, ite_self,
      Bool.false_eq_true, if_true, if_false, State.emit_quiet, State.setRxRing_quiet]

theorem State.padBytes_quiet (s : State) (len : Nat) : (State.padBytes s len).2.quiet = s.quiet := by
  unfold State.padBytes
  simp (disch := (first | assumption | omega)) only [quiet_mk, quiet_fold, quiet_ite, quiet_foldl, ite_self,
      Bool.false_eq_true, if_true, if_false]

theorem State.writeItem_quiet (s : State) (n : Nat) (type : Nat) (payload : Bytes) :
    (State.writeItem s n type payload).quiet = s.quiet := by
  unfold State.writeItem
  simp (disch := (first | assumption | omega)) only [quiet_mk, quiet_fold, quiet_ite, quiet_foldl, ite_self,
      Bool.false_eq_true, if_true, if_false, State.observe_quiet, State.padBytes_quiet, State.putItem_quiet,
      State.setRxRing_quiet]

theorem State.writeLoss_quiet (s : State) (n : Nat) : (State.writeLoss s n).quiet = s.quiet := by
  unfold State.writeLoss
  simp (disch := (first | assumption | omega)) only [quiet_mk, quiet_fold, quiet_ite, quiet_foldl, ite_self,
      Bool.false_eq_true, if_true, if_false, State.setRxRing_quiet, State.writeItem_quiet]

theorem State.ringFull_quiet (s : State) (n : Nat) : (State.ringFull s n).quiet = s.quiet := by
  unfold State.ringFull
  simp (disch := (first | assumption | omega | (simp only [Fld.HIF_RXn_CFG_POLICY, Reg.HIF_RXn_CFG]; omega))) only [quiet_mk, quiet_fold, quiet_ite,
      quiet_foldl, ite_self, Bool.false_eq_true, if_true, if_false, State.raiseOnce_quiet]

theorem State.serveRx_quiet (n : Nat) (room : Bool) (k : Nat) (l kept : List RxEntry) (old b : Nat) (s : State) :
    (State.serveRx n room k l kept old b s).2.quiet = s.quiet := by
  induction k generalizing l kept old b s with
  | zero => unfold State.serveRx; rfl
  | succ k ih =>
    cases l with
    | nil =>
      unfold State.serveRx
      exact State.keepEntries_quiet _ _ _ _
    | cons e l =>
      unfold State.serveRx
      split
      · dsimp only; rw [State.wbLate_quiet, State.keepEntries_quiet]
      · generalize hs : (if room = true then s.writeLoss n else s) = t
        have ht : t.quiet = s.quiet := by rw [← hs]; split <;> simp only [State.writeLoss_quiet]
        extract_lets t0 r drop space fits s2 s1
        have h1 : s1.quiet = s.quiet := by
          simp only [s1]
          split
          · exact ht
          · rw [State.ringFull_quiet]; exact ht
        have h2 : s2.quiet = s.quiet := by
          simp only [s2]
          split
          · split
            · rw [State.entryDone_quiet, State.writeItem_quiet]; exact ht
            · exact ht
          · split
            · rw [State.writeRecord_quiet]; exact ht
            · exact ht
        clear_value s1 s2 fits
        split
        · rw [ih, h2]
        · split
          · rw [ih, h1]
          · rw [ih]
            simp only [drop]
            rw [State.entryLost_quiet, State.rxDrop_quiet, h1]

theorem State.writeRing_quiet (s : State) (n : Nat) (q : List RxEntry) (room : Bool) (budget : Nat) :
    (State.writeRing s n q room budget).2.quiet = s.quiet := by
  unfold State.writeRing
  dsimp only
  (repeat' split) <;> first | with_reducible rfl | simp (disch := (first | assumption | omega)) only [quiet_mk, quiet_fold, quiet_ite,
      quiet_foldl, ite_self, Bool.false_eq_true, if_true, if_false, State.emit_quiet, State.keepEntries_quiet,
      State.serveRx_quiet, State.setRxRing_quiet, State.writeLoss_quiet]

theorem State.message__quiet (s : State) (v : Nat) : (State.message_ s v).quiet = s.quiet := by
  unfold State.message_
  simp (disch := (first | assumption | omega | (simp only [Reg.MSIX_ENTRY, Reg.MSIX_PBA]; omega))) only [quiet_mk, quiet_fold, quiet_ite,
      quiet_foldl, ite_self, Bool.false_eq_true, if_true, if_false, State.emit_quiet, State.orReg_quiet,
      State.setReg_quiet]

theorem State.messages_quiet (s : State) : (State.messages s).quiet = s.quiet := by
  unfold State.messages
  simp (disch := (first | assumption | omega | (simp only [Fld.HIF_ERR_VEC_VEC, Fld.HIF_RXn_IRQ_BEATS, Fld.HIF_RXn_IRQ_THRESH, Fld.HIF_RXn_IRQ_VEC, Fld.HIF_TXn_IRQ_BEATS, Fld.HIF_TXn_IRQ_THRESH, Fld.HIF_TXn_IRQ_VEC, Reg.HIF_ERR_VEC, Reg.HIF_RXn_IRQ, Reg.HIF_TXn_IRQ]; omega) | (intros; (try dsimp only); (repeat' (split; try (rename_i h; have h2 := congrArg Prod.snd h; dsimp only at h2; subst h2))) <;> simp (disch := (first | assumption | omega | (simp only [Fld.HIF_ERR_VEC_VEC, Fld.HIF_RXn_IRQ_BEATS, Fld.HIF_RXn_IRQ_THRESH, Fld.HIF_RXn_IRQ_VEC, Fld.HIF_TXn_IRQ_BEATS, Fld.HIF_TXn_IRQ_THRESH, Fld.HIF_TXn_IRQ_VEC, Reg.HIF_ERR_VEC, Reg.HIF_RXn_IRQ, Reg.HIF_TXn_IRQ]; omega))) only [quiet_mk, quiet_fold, quiet_ite, quiet_foldl, ite_self, Bool.false_eq_true, if_true, if_false, State.message__quiet, State.setRxRing_quiet, State.setTxRing_quiet]))) only [quiet_mk, quiet_fold, quiet_ite, quiet_foldl, ite_self, Bool.false_eq_true, if_true, if_false, State.message__quiet, State.setRxRing_quiet, State.setTxRing_quiet]

theorem State.writeCompletion_quiet (s : State) (c : Completion) : (State.writeCompletion s c).quiet = s.quiet := by
  unfold State.writeCompletion
  dsimp only
  (repeat' split) <;> first | with_reducible rfl | simp (disch := (first | assumption | omega | (simp only [Fld.HIF_TXn_STAT_OUTSTANDING, Reg.HIF_TXn_STAT]; omega))) only [quiet_mk, quiet_fold, quiet_ite,
      quiet_foldl, ite_self, Bool.false_eq_true, if_true, if_false, State.emit_quiet, State.gapBack_quiet,
      State.put_quiet, State.setTxRing_quiet]

theorem State.writePage_quiet (s : State) : (State.writePage s).quiet = s.quiet := by
  unfold State.writePage
  simp (disch := (first | assumption | omega | (simp only [Reg.HIF_CIP_BASE_HI, Reg.HIF_CIP_BASE_LO]; omega))) only [quiet_mk, quiet_fold, quiet_ite,
      quiet_foldl, ite_self, Bool.false_eq_true, if_true, if_false, State.emit_quiet]

theorem State.writeOutputs_quiet (s : State) : (State.writeOutputs s).quiet = s.quiet := by
  unfold State.writeOutputs
  simp (disch := (first | assumption | omega | (intros; (try dsimp only); (repeat' (split; try (rename_i h; have h2 := congrArg Prod.snd h; dsimp only at h2; subst h2))) <;> simp (disch := (first | assumption | omega)) only [quiet_mk, quiet_fold, quiet_ite, quiet_foldl, ite_self, Bool.false_eq_true, if_true, if_false, State.emit_quiet]))) only [quiet_mk, quiet_fold, quiet_ite, quiet_foldl, ite_self, Bool.false_eq_true, if_true, if_false, State.emit_quiet]

theorem State.foldl_writeRing_quiet (room : Bool) (due : List (Nat × List RxEntry)) (l : List Nat) (a : Nat × State) :
    (l.foldl (fun (a : Nat × State) k => a.2.writeRing k (SMap.get [] due k) room a.1) a).2.quiet = a.2.quiet := by
  induction l generalizing a with
  | nil => rfl
  | cons k l ih => exact (ih _).trans (State.writeRing_quiet ..)

theorem State.hostWriteback_quiet (s : State) (b : Nat) : (State.hostWriteback s b).quiet = s.quiet := by
  unfold State.hostWriteback
  extract_lets s1 room due s2 s3 n now src s4 s5
  have h1 : s1.quiet = s.quiet := State.tickTimers_quiet s
  have h2 : s2.quiet = s.quiet := (quiet_foldl _ (fun x e => State.setRxRing_quiet _ _ _) _ _).trans h1
  have h3 : s3.quiet = s.quiet := quiet_if ((State.writeOutputs_quiet _).trans h2) h2
  have h4 : s4.quiet = s.quiet := by simp only [s4, src, quiet_mk, quiet_fold, h3]
  have h5 : s5.quiet = s.quiet := by
    simp only [s5]
    rw [quiet_foldl _ (fun s c => State.writeCompletion_quiet _ _), h4]
  clear_value s5 n room due
  generalize List.range 64 = ks
  have hy := State.foldl_writeRing_quiet room due ks (b - n, s5)
  revert hy
  generalize List.foldl (fun (a : Nat × State) k => a.2.writeRing k (SMap.get [] due k) room a.1) (b - n, s5) ks = y
  obtain ⟨left, z⟩ := y
  intro hy
  dsimp only at hy ⊢
  simp only [quiet_ite, State.messages_quiet, State.writePage_quiet, State.wbLate_quiet, hy, h5, ite_self]

theorem State.trackWindow_quiet (s : State) (out : Tai) : (State.trackWindow s out).quiet = s.quiet := by
  unfold State.trackWindow
  dsimp only
  rw [quiet_foldl _ (fun s e => quiet_foldl _ (fun s w => State.setReg_quiet _ _ _ (by
    simp only [Reg.NEST_TRACK_WIN]; omega)) _ s)]
  exact quiet_of_regs s _ fun o h => SMap.get_filter _ _ _ _ fun v => by
    simp only [Bool.not_eq_true', decide_eq_false_iff_not]; omega

theorem State.nestOffer_quiet (s : State) (w : Wire) (mkey : Nat) (out : Tai) :
    (State.nestOffer s w mkey out).quiet = s.quiet := by
  unfold State.nestOffer
  simp (disch := (first | assumption | omega)) only [quiet_mk, quiet_fold, quiet_ite, quiet_foldl, ite_self,
      Bool.false_eq_true, if_true, if_false, State.enter_quiet, State.looked_quiet]

theorem State.nestAlarms_quiet (out : Tai) (l : List NestOut) (s : State) : (State.nestAlarms out l s).quiet = s.quiet := by
  induction l generalizing s with
  | nil => rfl
  | cons o rest ih =>
    unfold State.nestAlarms
    split
    · dsimp only; rw [ih, State.nestOffer_quiet]
    · rfl

theorem State.nestWriteback_quiet (s : State) (out : Tai) : (State.nestWriteback s out).quiet = s.quiet := by
  unfold State.nestWriteback
  simp (disch := (first | assumption | omega | (simp only [Fld.NEST_STATUS_HELD, Reg.NEST_STATUS]; omega) | (intros; (try dsimp only); (repeat' (split; try (rename_i h; have h2 := congrArg Prod.snd h; dsimp only at h2; subst h2))) <;> simp (disch := (first | assumption | omega | (simp only [Fld.NEST_STATUS_HELD, Reg.NEST_STATUS]; omega))) only [quiet_mk, quiet_fold, quiet_ite, quiet_foldl, ite_self, Bool.false_eq_true, if_true, if_false, State.nestAlarms_quiet, State.nestOffer_quiet, State.put_quiet, State.raiseOnce_quiet, State.trackWindow_quiet]))) only [quiet_mk, quiet_fold, quiet_ite, quiet_foldl, ite_self, Bool.false_eq_true, if_true, if_false, State.nestAlarms_quiet, State.nestOffer_quiet, State.put_quiet, State.raiseOnce_quiet, State.trackWindow_quiet]

theorem State.dropHostFrame_quiet (s : State) (fid : Nat) : (State.dropHostFrame s fid).quiet = s.quiet := by
  unfold State.dropHostFrame
  dsimp only
  (repeat' split) <;> first | with_reducible rfl | simp (disch := (first | assumption | omega | (intros; (try dsimp only); (repeat' (split; try (rename_i h; have h2 := congrArg Prod.snd h; dsimp only at h2; subst h2))) <;> simp (disch := (first | assumption | omega)) only [quiet_mk, quiet_fold, quiet_ite, quiet_foldl, ite_self, Bool.false_eq_true, if_true, if_false, State.copyFinal_quiet, State.setFrame_quiet, State.settle_quiet, State.withdraw_quiet]))) only [quiet_mk, quiet_fold, quiet_ite, quiet_foldl, ite_self, Bool.false_eq_true, if_true, if_false, State.copyFinal_quiet, State.setFrame_quiet, State.settle_quiet, State.withdraw_quiet]

theorem State.quiesceFlush_quiet (s : State) : (State.quiesceFlush s).quiet = s.quiet := by
  unfold State.quiesceFlush
  simp (disch := (first | assumption | omega | (simp only [Fld.FAB_FREE_BLOCKS, Reg.FAB_FREE]; omega) | (intros; (try dsimp only); (repeat' (split; try (rename_i h; have h2 := congrArg Prod.snd h; dsimp only at h2; subst h2))) <;> simp (disch := (first | assumption | omega | (simp only [Fld.FAB_FREE_BLOCKS, Reg.FAB_FREE]; omega))) only [quiet_mk, quiet_fold, quiet_ite, quiet_foldl, ite_self, Bool.false_eq_true, if_true, if_false, State.dropHostFrame_quiet, State.hostFinal_quiet, State.jobFinal_quiet, State.put_quiet]))) only [quiet_mk, quiet_fold, quiet_ite, quiet_foldl, ite_self, Bool.false_eq_true, if_true, if_false, State.dropHostFrame_quiet, State.hostFinal_quiet, State.jobFinal_quiet, State.put_quiet]

theorem State.makeTrailer_quiet (s : State) (domain slot : Nat) (afa12 : Bool) (w : Wire) (fv : Nat) (pad : Byte) (bad : Bool)
    (mismatches : Nat) : (State.makeTrailer s domain slot afa12 w fv pad bad mismatches).2.2.quiet = s.quiet := by
  unfold State.makeTrailer
  split
  · rfl
  · dsimp only
    have h := State.operate_quiet s 1 slot attrAfa (blocksIn (authData domain afa12 w fv (withRoom w.kind (trailerLen afa12) pad w.data))) mismatches
    revert h
    rcases State.operate s 1 slot attrAfa (blocksIn (authData domain afa12 w fv (withRoom w.kind (trailerLen afa12) pad w.data))) mismatches with ⟨u, t⟩
    intro h
    cases u <;> exact h

theorem State.generate_quiet (s : State) (fid : Nat) (mismatches : Nat) :
    (State.generate s fid mismatches).quiet = s.quiet := by
  unfold State.generate
  dsimp only
  (repeat' split) <;> first | with_reducible rfl | simp (disch := (first | assumption | omega | (simp only [Reg.CIPH_AFA_CNTk]; omega) | (intros; (try dsimp only); (repeat' (split; try (rename_i h; have h2 := congrArg Prod.snd h; dsimp only at h2; subst h2))) <;> simp (disch := (first | assumption | omega | (simp only [Reg.CIPH_AFA_CNTk]; omega))) only [quiet_mk, quiet_fold, quiet_ite, quiet_foldl, ite_self, Bool.false_eq_true, if_true, if_false, State.afaRecord_quiet, State.copyFinal_quiet, State.count_quiet, State.delta_quiet, State.makeTrailer_quiet, State.mapCopies_quiet, State.setLane_quiet, State.withdraw_quiet]))) only [quiet_mk, quiet_fold, quiet_ite, quiet_foldl, ite_self, Bool.false_eq_true, if_true, if_false, State.afaRecord_quiet, State.copyFinal_quiet, State.count_quiet, State.delta_quiet, State.makeTrailer_quiet, State.mapCopies_quiet, State.setLane_quiet, State.withdraw_quiet]

theorem State.beaconGenerate_quiet (s : State) (n : Nat) (mismatches : Nat) :
    (State.beaconGenerate s n mismatches).quiet = s.quiet := by
  unfold State.beaconGenerate
  dsimp only
  (repeat' split) <;> first | with_reducible rfl | simp (disch := (first | assumption | omega | (simp only [Fld.TIME_BCN_FMT_AFA12, Fld.TIME_BCN_FMT_KEY_SLOT, Reg.CIPH_AFA_CNTk, Reg.TIME_BCN_FMT]; omega))) only [quiet_mk, quiet_fold, quiet_ite,
      quiet_foldl, ite_self, Bool.false_eq_true, if_true, if_false, State.count_quiet, State.dropBeacon_quiet,
      State.generate_quiet, State.makeTrailer_quiet, State.mapCopies_quiet, State.setBeacon_quiet,
      State.setBeaconFv_quiet, State.setFrame_quiet, State.setReef_quiet]

theorem State.checkPassed_quiet (s : State) (fid : Nat) (f : Frame) (r : Route) (v : Verdict) :
    (State.checkPassed s fid f r v).quiet = s.quiet := by
  unfold State.checkPassed
  simp (disch := (first | assumption | omega | (simp only [Reg.CIPH_AFA_CNTk]; omega))) only [quiet_mk, quiet_fold, quiet_ite,
      quiet_foldl, ite_self, Bool.false_eq_true, if_true, if_false, State.count_quiet, State.deliverInternal_quiet,
      State.mapCopies_quiet, State.readyCopies_quiet, State.setFrame_quiet, State.setLane_quiet, State.settle_quiet]

theorem State.retractOn_quiet (s : State) (r : Route) (w : Wire) (stamp : Tai) (v : Verdict) (n : Nat) (mismatches : Nat) :
    (State.retractOn s r w stamp v n mismatches).2.quiet = s.quiet := by
  unfold State.retractOn
  dsimp only
  (repeat' split) <;> first | with_reducible rfl | simp (disch := (first | assumption | omega | (simp only [Reg.CIPH_AFA_CNTk]; omega))) only [quiet_mk, quiet_fold, quiet_ite,
      quiet_foldl, ite_self, Bool.false_eq_true, if_true, if_false, State.alloc_quiet, State.checkTrailer_quiet,
      State.count_quiet, State.generate_quiet, State.makeTrailer_quiet, State.offer_quiet, State.setCan_quiet,
      State.setRetractFv_quiet]

theorem State.retract_quiet (s : State) (r : Route) (w : Wire) (stamp : Tai) (v : Verdict) (ports faults : List Nat) :
    (State.retract s r w stamp v ports faults).2.quiet = s.quiet := by
  unfold State.retract
  generalize ports.zipIdx = l
  suffices h : ∀ a : (Bool × Bool) × State, (l.foldl (fun (a : (Bool × Bool) × State) (e : Nat × Nat) =>
      let (ok, s) := a.2.retractOn r w stamp v e.1 (faults.getD e.2 0)
      ((a.1.1 || ok, a.1.2 || !ok), s)) a).2.quiet = a.2.quiet from h _
  induction l with
  | nil => intro a; rfl
  | cons e l ih => intro a; rw [List.foldl_cons, ih]; exact State.retractOn_quiet ..

theorem State.checkFailed_quiet (s : State) (f : Frame) (r : Route) (v : Verdict) :
    (State.checkFailed s f r v).quiet = s.quiet := by
  unfold State.checkFailed
  simp (disch := (first | assumption | omega | (simp only [Reg.CIPH_AFA_CNTk]; omega))) only [quiet_mk, quiet_fold, quiet_ite,
      quiet_foldl, ite_self, Bool.false_eq_true, if_true, if_false, State.afaRecord_quiet, State.count_quiet,
      State.gap_quiet]

theorem State.checkRejects_quiet (s : State) (fid : Nat) (f : Frame) (r : Route) (v : Verdict) (faults : List Nat) :
    (State.checkRejects s fid f r v faults).quiet = s.quiet := by
  unfold State.checkRejects
  extract_lets fsrc s1
  have h1 : s1.quiet = s.quiet := (State.setFrame_quiet _ _ _).trans (State.checkFailed_quiet _ _ _ _)
  clear_value s1
  have h2 := (State.retract_quiet s1 r f.wire f.stamp v (SMap.get [] s1.hal.awaited fid) faults).trans h1
  revert h2
  rcases s1.retract r f.wire f.stamp v (SMap.get [] s1.hal.awaited fid) faults with ⟨x1, s2⟩
  intro h2
  dsimp -zeta only at h2 ⊢
  extract_lets src s3 ahead x dying gone still src2 s4 s5 s6 s7 s9 s10 s11 s12
  have h3 : s3.quiet = s.quiet := by simp only [s3, quiet_mk, quiet_fold, h2]
  have h4 : s4.quiet = s.quiet := by simp only [s4, quiet_mk, quiet_fold, h3]
  have h5 : s5.quiet = s.quiet := (quiet_foldl _ (fun _ _ => State.destroyCopy_quiet _ _ _) _ _).trans h4
  have h6 : s6.quiet = s.quiet := (State.dropWaiting_quiet _ _).trans h5
  have h7 : s7.quiet = s.quiet := quiet_if ((State.deliverInternal_quiet _ _).trans h6) ((State.dropInternal_quiet _ _).trans h6)
  have h8 := (State.retract_quiet s7 r f.wire f.stamp v gone faults).trans h7
  have h9 : s9.quiet = s.quiet := quiet_if h8 ((State.count_quiet _ _ _ (by simp only [Reg.FAB_RA_ABORT_CNT]; omega)).trans h8)
  have h10 : s10.quiet = s.quiet := quiet_if ((State.count_quiet _ _ _ (by simp only [Reg.FAB_RA_RETRACT_CNT]; omega)).trans h9) h9
  have h11 : s11.quiet = s.quiet := quiet_if ((State.raCancelled_quiet _ _ _ _).trans h10) h10
  have h12 : s12.quiet = s.quiet := quiet_if ((State.raise_quiet _ _ _ _).trans ((State.raDisable_quiet _ _ _ _).trans h11)) h11
  exact (State.settle_quiet _ _).trans h12

theorem State.authJob_quiet (s : State) (j : AuthJob) (faults : List Nat) :
    (State.authJob s j faults).2.quiet = s.quiet := by
  unfold State.authJob
  dsimp only
  (repeat' split) <;> first | with_reducible rfl | simp (disch := (first | assumption | omega)) only [quiet_mk, quiet_fold, quiet_ite,
      quiet_foldl, ite_self, Bool.false_eq_true, if_true, if_false, State.beaconGenerate_quiet, State.checkPassed_quiet,
      State.checkRejects_quiet, State.checkTrailer_quiet, State.generate_quiet]

theorem State.authRun_quiet (k : Nat) (faults : List Nat) (s : State) : (State.authRun k faults s).quiet = s.quiet := by
  induction k generalizing faults s with
  | zero => rfl
  | succ k ih =>
    unfold State.authRun
    split
    · rfl
    · split
      · rw [ih, State.authJob_quiet]; rfl
      · rfl

theorem State.showPend_quiet (s : State) : (State.showPend s).quiet = s.quiet := by
  unfold State.showPend
  simp (disch := (first | assumption | omega | (simp only [Fld.CIPH_LOCK_PEND, Reg.CIPH_LOCK]; omega))) only [quiet_mk, quiet_fold, quiet_ite,
      quiet_foldl, ite_self, Bool.false_eq_true, if_true, if_false, State.put_quiet]

theorem State.runMgtJob_quiet (s : State) (c : Nat) : (State.runMgtJob s c).quiet = s.quiet := by
  unfold State.runMgtJob
  simp (disch := (first | assumption | omega | (simp only [Fld.CIPH_LOCK_OWNER, Reg.CIPH_LOCK]; omega))) only [quiet_mk, quiet_fold, quiet_ite,
      quiet_foldl, ite_self, Bool.false_eq_true, if_true, if_false, State.put_quiet]

theorem State.serviceRun_quiet (n : Nat) (faults : List Nat) (s : State) :
    (State.serviceRun n faults s).quiet = s.quiet := by
  induction n generalizing faults s with
  | zero => exact State.showPend_quiet s
  | succ n ih =>
    unfold State.serviceRun
    refine quiet_if (State.showPend_quiet _) ?_
    split
    · rw [State.showPend_quiet, State.put_quiet _ _ _ (by simp only [Fld.CIPH_LOCK_OWNER, Reg.CIPH_LOCK]; omega)]
    · simp only [quiet_ite, ih, State.runHostJob_quiet, State.runMgtJob_quiet, quiet_mk, quiet_fold, ite_self]

theorem State.ptpSend_quiet (s : State) (port : Nat) (kind : Nat) (time : Int) (fields : List Nat) :
    (State.ptpSend s port kind time fields).quiet = s.quiet := by
  unfold State.ptpSend
  simp (disch := (first | assumption | omega)) only [quiet_mk, quiet_fold, quiet_ite, quiet_foldl, ite_self,
      Bool.false_eq_true, if_true, if_false, State.ptpLeaves_quiet]

theorem State.serIdle_quiet (s : State) (c : Nat) (bad : List (Nat × Nat)) : (State.serIdle s c bad).quiet = s.quiet := by
  unfold State.serIdle
  dsimp only
  (repeat' split) <;> first | with_reducible rfl | simp (disch := (first | assumption | omega | (simp only [Fld.SER_Cc_FRAME_IDLE_CH, Reg.SER_Cc_CFG, Reg.SER_Cc_FRAME]; omega))) only [quiet_mk, quiet_fold, quiet_ite,
      quiet_foldl, ite_self, Bool.false_eq_true, if_true, if_false, State.serClose_quiet]

end Sys2Proof.Machine
end

