-- ==== Sys2Proof/Laws/Step.lean ====
section
/-! SUPPORT. How a meaning answers: with its effect when power-on reset is over and its operands are well-formed. -/

namespace Sys2Proof.Machine

theorem State.up_iff (s : State) : s.up = true ↔ s.glb.phase ≠ .powerOnReset := by simp [State.up]

/-- A meaning on well-formed operands, once power-on reset is over, has its effect on everything but the queue. -/
theorem next_of_up {s x : State} {ok : Bool} {m : String} (hs : s.up = true) (hok : ok = true) :
    unlessHeld s (runIf ok m x) = .next { x with pending := s.pending } := by
  have h := (State.up_iff s).1 hs
  simp only [unlessHeld, keepQueue, runIf, hok, if_true, if_neg h]

/-- A meaning that power-on reset does not hold. -/
theorem next_of_wf {s x : State} {ok : Bool} {m : String} (hok : ok = true) :
    keepQueue s (runIf ok m x) = .next { x with pending := s.pending } := by
  simp only [keepQueue, runIf, hok, if_true]

/-- While power-on reset is asserted a command does nothing. -/
theorem next_of_held {s x : State} {ok : Bool} {m : String} (hs : s.up = false) (hok : ok = true) :
    unlessHeld s (runIf ok m x) = .next s.begin := by
  have h : s.glb.phase = .powerOnReset := by simpa [State.up] using hs
  simp only [unlessHeld, keepQueue, runIf, hok, if_true, if_pos h]
  rfl

/-- A meaning answers on well-formed operands and refuses all others by name. -/
theorem runs_or_refuses (s x : State) (ok : Bool) (m : String) :
    (ok = true → ∃ t, unlessHeld s (runIf ok m x) = .next t ∧ t.pending = s.pending) ∧
      (ok = false → unlessHeld s (runIf ok m x) = .refused (.noSuchUnit m)) := by
  constructor
  · rintro rfl; exact ⟨_, rfl, rfl⟩
  · rintro rfl; rfl

/-- The same of the meanings that power-on reset does not hold. -/
theorem runs_or_refuses_always (s x : State) (ok : Bool) (m : String) :
    (ok = true → ∃ t, keepQueue s (runIf ok m x) = .next t ∧ t.pending = s.pending) ∧
      (ok = false → keepQueue s (runIf ok m x) = .refused (.noSuchUnit m)) := by
  constructor
  · rintro rfl; exact ⟨_, rfl, rfl⟩
  · rintro rfl; rfl

theorem answers_next {t : State} {p : State → Prop} {o : Host.Outcome State Fault Refusal} (h : o = .next t) (hp : p t) :
    answers o p := ⟨t, h, hp⟩

/-- A meaning's effect, as a statement asks for it. -/
theorem answers_of_up {s x : State} {ok : Bool} {m : String} {p : State → Prop} (hs : s.up = true) (hok : ok = true)
    (hp : p { x with pending := s.pending }) : answers (unlessHeld s (runIf ok m x)) p := ⟨_, next_of_up hs hok, hp⟩

/-! ### The queue put back -/

@[simp] theorem State.reg_pending (s : State) (q : List Instr) (o : Nat) : ({ s with pending := q }).reg o = s.reg o := rfl
@[simp] theorem State.get_pending (s : State) (q : List Instr) (f : Fld) : ({ s with pending := q }).get f = s.get f := rfl
@[simp] theorem State.cur_pending (s : State) (q : List Instr) (f : Fld) : ({ s with pending := q }).cur f = s.cur f := rfl
@[simp] theorem State.reg64_pending (s : State) (q : List Instr) (o : Nat) : ({ s with pending := q }).reg64 o = s.reg64 o := rfl
@[simp] theorem State.liveReg_pending (s : State) (q : List Instr) (o : Nat) :
    ({ s with pending := q }).liveReg o = s.liveReg o := rfl
@[simp] theorem State.quiet_pending (s : State) (q : List Instr) : ({ s with pending := q }).quiet = s.quiet := rfl

/-! ### Quiet meanings -/

theorem sameBeat_of_quiet {s x : State} (h : x.quiet = s.quiet) : s.sameBeat x := by
  simp only [State.quiet, quietOf, Prod.mk.injEq] at h
  obtain ⟨h1, h2, h3, _, h5, _, h7⟩ := h
  refine ⟨h1, h2, h3, h5, fun off ho => ?_⟩
  rw [State.reg_get, State.reg_get]
  exact congrFun (congrFun h7 off) ho

/-- What `at` leaves. -/
theorem sameBeat_at (s : State) (t : Tai) : s.sameBeat (s.at t) := ⟨rfl, rfl, rfl, rfl, fun _ _ => rfl⟩
theorem sameBeat_begin (s : State) : s.sameBeat s.begin := ⟨rfl, rfl, rfl, rfl, fun _ _ => rfl⟩

theorem sameBeat_trans {a b c : State} (h : a.sameBeat b) (g : b.sameBeat c) : a.sameBeat c :=
  ⟨g.1.trans h.1, g.2.1.trans h.2.1, g.2.2.1.trans h.2.2.1, g.2.2.2.1.trans h.2.2.2.1,
    fun o ho => (g.2.2.2.2 o ho).trans (h.2.2.2.2 o ho)⟩

/-- A quiet meaning leaves the beat. -/
theorem sameBeat_of_meaning {s b x t : State} {ok : Bool} {m : String} (hb : s.sameBeat b) (hx : x.quiet = b.quiet)
    (h : unlessHeld s (runIf ok m x) = .next t) : s.sameBeat t := by
  cases ok with
  | false => cases h
  | true =>
    by_cases hs : s.up = true
    · rw [next_of_up hs rfl] at h
      cases h
      exact sameBeat_trans hb (sameBeat_of_quiet hx)
    · rw [next_of_held (by simpa using hs) rfl] at h
      cases h
      exact sameBeat_begin s

end Sys2Proof.Machine
end

