-- ==== Sys2Proof/Laws/RegWrite.lean ====
section
/-! SUPPORT. A register write that is taken: what the shared operation does with a command register, and with a stored one. -/

namespace Sys2Proof.Machine

theorem State.takes_at {s : State} {a : Access} (h : s.takes a) (t : Tai) : (s.at t).takes a := h

/-- A write that is taken is not refused where a register lies outside the read-only windows. -/
theorem writeRefused_taken {s : State} {a : Access} {off : Nat} {r : RegRow} (h : s.takes a) (hr : RegMap.find off = some r)
    (hw : readOnlyWindow off = false) : s.writeRefused a off = 0 := by
  obtain ⟨_, hp, hq, _, _, hb⟩ := h
  simp only [State.writeRefused, hp, hq, hw, hr, hb, false_and, if_false, ne_eq, not_true_eq_false, Bool.false_eq_true]

/-- The mask of a write of all four byte lanes. -/
theorem laneMask_all : laneMask 15 = 2 ^ 32 - 1 := by decide

theorem toNat_and_mask (v : Word) : v.toNat.land (2 ^ 32 - 1) = v.toNat := by
  show v.toNat &&& (2 ^ 32 - 1) = v.toNat
  rw [Nat.and_two_pow_sub_one_eq_mod, Nat.mod_eq_of_lt v.isLt]

/-- A command register stores nothing: a taken write starts what its acting bits name. -/
theorem regWrite_command {s : State} {a : Access} {off : Nat} {r : RegRow} (v : Word) (p : List (Nat × Bool))
    (b : List (Nat × Nat)) (h : s.takes a) (hr : RegMap.find off = some r) (hw : readOnlyWindow off = false)
    (hwide : r.wide = false) (hst : r.st = 0) (hc : r.w1c = 0) (hal : off ≠ Reg.CIPH_ALARM) :
    s.regWrite a off v p b = s.trigger off (v.toNat.land (r.wo.land (2 ^ 32 - 1))) p b := by
  have h0 := writeRefused_taken h hr hw
  obtain ⟨_, _, _, hl, _, hb⟩ := h
  have e1 : ∀ x : Nat, x.land 0 = 0 := fun x => Nat.and_zero x
  have e2 : ∀ x : Nat, Nat.land 0 x = 0 := fun x => Nat.zero_and x
  simp only [State.regWrite, hb, h0, hr, hwide, State.writeNarrow, hl, hst, hc, laneMask_all, toNat_and_mask, e1, e2, hal,
    if_false, if_true, ne_eq, not_true_eq_false, Bool.false_eq_true, Nat.sub_zero, bne_self_eq_false, Bool.or_false,
    List.any_nil, List.isEmpty_nil, false_and]
  rfl

/-- A 32-bit register that stores nothing and clears nothing: a write of it only starts what its acting bits name. -/
def commandAt (off wo : Nat) : Bool :=
  match RegMap.find off with
  | none => false
  | some r =>
    !r.wide && r.st == 0 && r.w1c == 0 && r.wo.land (2 ^ 32 - 1) == wo && !readOnlyWindow off && off != Reg.CIPH_ALARM

/-- A taken write of a command register. -/
theorem regWrite_commandAt {s : State} {a : Access} {off wo : Nat} (v : Word) (p : List (Nat × Bool)) (b : List (Nat × Nat))
    (h : s.takes a) (hc : commandAt off wo = true) : s.regWrite a off v p b = s.trigger off (v.toNat.land wo) p b := by
  unfold commandAt at hc
  cases hr : RegMap.find off with
  | none => rw [hr] at hc; cases hc
  | some r =>
    rw [hr] at hc
    simp only [Bool.and_eq_true, Bool.not_eq_true', beq_iff_eq, bne_iff_ne] at hc
    obtain ⟨⟨⟨⟨⟨h1, h2⟩, h3⟩, h4⟩, h5⟩, h6⟩ := hc
    rw [regWrite_command v p b h hr h5 h1 h2 h3 h6, h4]

theorem land_mask (x : Nat) (h : x < 2 ^ 32) : x.land (2 ^ 32 - 1) = x := by
  show x &&& (2 ^ 32 - 1) = x
  rw [Nat.and_two_pow_sub_one_eq_mod, Nat.mod_eq_of_lt h]

/-- The stored word as the write computes it. -/
theorem storedWord_toNat (r : RegRow) (old v : Word) (h : r.st < 2 ^ 32) :
    (storedWord r old v).toNat = (old.toNat.land (2 ^ 32 - 1 - r.st)).lor (v.toNat.land r.st) := by
  unfold storedWord
  rw [BitVec.toNat_or, BitVec.toNat_and, BitVec.toNat_and, BitVec.toNat_not, BitVec.toNat_ofNat, Nat.mod_eq_of_lt h]
  rfl

/-- A register of 32 bits whose value nothing rejects: the stored bits come from the write, in the register's timing class,
and the acting bits start what they name. -/
theorem regWrite_store {s : State} {a : Access} {off : Nat} {r : RegRow} (v : Word) (h : s.takes a)
    (hr : RegMap.find off = some r) (hw : readOnlyWindow off = false) (hwide : r.wide = false) (hst : r.st ≠ 0)
    (hlt : r.st < 2 ^ 32) (hc : r.w1c = 0) (hal : off ≠ Reg.CIPH_ALARM)
    (hv : s.valueChecks off (storedWord r (s.reg off) v).toNat = []) :
    s.regWrite a off v =
      (((s.storeAs r.cls off (storedWord r (s.reg off) v)).dirty off).afterStore off (s.reg off).toNat
        (storedWord r (s.reg off) v).toNat r.st).trigger off (v.toNat.land (r.wo.land (2 ^ 32 - 1))) [] [] := by
  have h0 := writeRefused_taken h hr hw
  obtain ⟨_, _, _, hl, _, hb⟩ := h
  have e1 : ∀ x : Nat, x.land 0 = 0 := fun x => Nat.and_zero x
  have e2 : ∀ x : Nat, Nat.land 0 x = 0 := fun x => Nat.zero_and x
  have e4 : ∀ x : Nat, x.lor 0 = x := fun x => Nat.or_zero x
  have e5 : ∀ x y : Nat, x ||| y = x.lor y := fun _ _ => rfl
  have e6 : (s.w off) = (s.reg off).toNat := rfl
  have e7 : (2 ^ 32 - 1 : Nat).land r.st = r.st := by
    show (2 ^ 32 - 1) &&& r.st = r.st
    rw [Nat.and_comm, Nat.and_two_pow_sub_one_eq_mod, Nat.mod_eq_of_lt hlt]
  have e8 := (storedWord_toNat r (s.reg off) v hlt).symm
  have e9 : (storedWord r (s.reg off) v).toNat.land (2 ^ 32 - 1) = (storedWord r (s.reg off) v).toNat :=
    land_mask _ (storedWord r (s.reg off) v).isLt
  simp only [State.regWrite, hb, h0, hr, hwide, State.writeNarrow, hl, hst, hc, laneMask_all, toNat_and_mask, e1, e2, e4, e5,
    e6, e7, land_mask _ hlt, e8, e9, hal, hv, if_false, if_true, ne_eq, not_true_eq_false, Bool.false_eq_true, Nat.sub_zero,
    bne_self_eq_false, Bool.or_false, List.any_nil, List.isEmpty_nil, List.foldl_nil, false_and, BitVec.ofNat_toNat, BitVec.setWidth_eq]
  rfl

/-! ### The rows of the register map -/

theorem RegMap.mem_ite {r : RegRow} {c : Prop} [Decidable c] {l m : List RegRow} (h : r ∈ if c then l else m) : r ∈ l ∨ r ∈ m := by
  by_cases hc : c
  · rw [if_pos hc] at h; exact .inl h
  · rw [if_neg hc] at h; exact .inr h

/-- What a test finds of every row holds of the row that covers an offset. -/
theorem RegMap.find_all (p : RegRow → Bool)
    (h : [RegMap.rowsGLB, RegMap.rowsBEAT, RegMap.rowsTIME, RegMap.rowsHIF, RegMap.rowsFAB, RegMap.rowsRT, RegMap.rowsCANP,
      RegMap.rowsREEF, RegMap.rowsETH, RegMap.rowsT1S, RegMap.rowsSER, RegMap.rowsCIPH, RegMap.rowsLSEC, RegMap.rowsNEST,
      RegMap.rowsHAL, RegMap.rowsPWR, RegMap.rowsSHR, RegMap.rowsNVM, RegMap.rowsPIN, RegMap.rowsMGT].all
        (fun l => l.all p) = true) {off : Nat} {r : RegRow} (hr : RegMap.find off = some r) : p r = true := by
  have hm : r ∈ RegMap.block off := List.mem_of_find?_eq_some hr
  simp only [List.all_cons, List.all_nil, Bool.and_true, Bool.and_eq_true, List.all_eq_true] at h
  unfold RegMap.block at hm
  obtain ⟨h1, h2, h3, h4, h5, h6, h7, h8, h9, h10, h11, h12, h13, h14, h15, h16, h17, h18, h19, h20⟩ := h
  rcases RegMap.mem_ite hm with hm | hm
  · exact h1 _ hm
  rcases RegMap.mem_ite hm with hm | hm
  · exact h2 _ hm
  rcases RegMap.mem_ite hm with hm | hm
  · exact h3 _ hm
  rcases RegMap.mem_ite hm with hm | hm
  · exact h4 _ hm
  rcases RegMap.mem_ite hm with hm | hm
  · exact h5 _ hm
  rcases RegMap.mem_ite hm with hm | hm
  · exact h6 _ hm
  rcases RegMap.mem_ite hm with hm | hm
  · exact h7 _ hm
  rcases RegMap.mem_ite hm with hm | hm
  · exact h8 _ hm
  rcases RegMap.mem_ite hm with hm | hm
  · exact h9 _ hm
  rcases RegMap.mem_ite hm with hm | hm
  · exact h10 _ hm
  rcases RegMap.mem_ite hm with hm | hm
  · exact h11 _ hm
  rcases RegMap.mem_ite hm with hm | hm
  · exact h12 _ hm
  rcases RegMap.mem_ite hm with hm | hm
  · exact h13 _ hm
  rcases RegMap.mem_ite hm with hm | hm
  · exact h14 _ hm
  rcases RegMap.mem_ite hm with hm | hm
  · exact h15 _ hm
  rcases RegMap.mem_ite hm with hm | hm
  · exact h16 _ hm
  rcases RegMap.mem_ite hm with hm | hm
  · exact h17 _ hm
  rcases RegMap.mem_ite hm with hm | hm
  · exact h18 _ hm
  rcases RegMap.mem_ite hm with hm | hm
  · exact h19 _ hm
  rcases RegMap.mem_ite hm with hm | hm
  · exact h20 _ hm
  exact absurd hm List.not_mem_nil

/-- The masks of a register of 32 bits lie within it. -/
theorem RegMap.masks_lt {off : Nat} {r : RegRow} (hr : RegMap.find off = some r) (hw : r.wide = false) :
    r.st < 2 ^ 32 ∧ r.w1c < 2 ^ 32 ∧ r.wo < 2 ^ 32 := by
  have h := RegMap.find_all (fun r => r.wide || (decide (r.st < 2 ^ 32) && (decide (r.w1c < 2 ^ 32) && decide (r.wo < 2 ^ 32))))
    (by decide) hr
  simpa [hw] using h

/-- A bit of a stored word: from the write where the register stores it, else as before. -/
theorem storedWord_testBit (r : RegRow) (old v : Word) (i : Nat) (hi : i < 32) :
    (storedWord r old v).toNat.testBit i = if r.st.testBit i then v.toNat.testBit i else old.toNat.testBit i := by
  have e : ∀ x : Word, x.toNat.testBit i = x.getLsbD i := fun _ => rfl
  rw [e, e, e]
  unfold storedWord
  simp only [BitVec.getLsbD_or, BitVec.getLsbD_and, BitVec.getLsbD_not, BitVec.getLsbD_ofNat, hi, decide_true, Bool.true_and]
  cases r.st.testBit i <;> simp

theorem testBit_bits (x hi lo k : Nat) : (bits x hi lo).testBit k = (decide (k < hi + 1 - lo) && x.testBit (lo + k)) := by
  unfold bits
  rw [Nat.testBit_mod_two_pow, Nat.testBit_div_two_pow, Nat.add_comm k lo]

/-- A field that the register stores comes from the write. -/
theorem bits_storedWord (r : RegRow) (old v : Word) (hi lo : Nat) (hh : hi < 32)
    (h : ∀ i < 32, lo ≤ i → i ≤ hi → r.st.testBit i = true) : bits (storedWord r old v).toNat hi lo = bits v.toNat hi lo := by
  apply Nat.eq_of_testBit_eq
  intro k
  rw [testBit_bits, testBit_bits]
  by_cases q : k < hi + 1 - lo
  · rw [storedWord_testBit _ _ _ _ (by omega), h _ (by omega) (by omega) (by omega), if_pos rfl]
  · simp only [q, decide_false, Bool.false_and]

/-- A field that it does not store stays. -/
theorem bits_storedWord_old (r : RegRow) (old v : Word) (hi lo : Nat) (hh : hi < 32)
    (h : ∀ i < 32, lo ≤ i → i ≤ hi → r.st.testBit i = false) : bits (storedWord r old v).toNat hi lo = bits old.toNat hi lo := by
  apply Nat.eq_of_testBit_eq
  intro k
  rw [testBit_bits, testBit_bits]
  by_cases q : k < hi + 1 - lo
  · rw [storedWord_testBit _ _ _ _ (by omega), h _ (by omega) (by omega) (by omega)]; rfl
  · simp only [q, decide_false, Bool.false_and]

/-- A register that no range of the map speaks of breaks none. -/
theorem rangeChecks_none {off v : Nat} (h : fieldRanges.all (fun r => !r.covers off) = true) : rangeChecks off v = [] := by
  unfold rangeChecks
  have e : (fieldRanges.filter fun r => r.covers off && !(decide (r.least ≤ bits v r.hi r.lo ∧ bits v r.hi r.lo ≤ r.most))) = [] := by
    rw [List.filter_eq_nil_iff]
    intro r hr
    have := List.all_eq_true.1 h r hr
    simp only [Bool.not_eq_true'] at this
    simp only [this, Bool.false_and, Bool.false_eq_true, not_false_eq_true]
  rw [e, List.map_nil]

/-- A register of 32 bits, with what its checks reject: the rejected bits keep their value and are reported. -/
theorem regWrite_checked {s : State} {a : Access} {off : Nat} {r : RegRow} (v : Word) (h : s.takes a)
    (hr : RegMap.find off = some r) (hw : readOnlyWindow off = false) (hwide : r.wide = false) (hst : r.st ≠ 0)
    (hlt : r.st < 2 ^ 32) (hc : r.w1c = 0) (hal : off ≠ Reg.CIPH_ALARM) (hwo : r.wo = 0) (rej : List Rejected)
    (hv : s.valueChecks off (storedWord r (s.reg off) v).toNat = rej) (hne : rej ≠ []) :
    s.regWrite a off v =
      (let keep := rej.foldl (fun (m : Nat) (x : Rejected) => m ||| x.mask) 0
       let want := ((storedWord r (s.reg off) v).toNat.land (2 ^ 32 - 1 - keep)) ||| ((s.reg off).toNat.land keep)
       let s1 := s.rejectAt off (rej.foldl (fun (m : Nat) (x : Rejected) => m ||| x.err) 0)
       if rej.any fun x => x.mask == 2 ^ 32 - 1 then s1
       else ((s1.storeAs r.cls off (BitVec.ofNat 32 want)).dirty off).afterStore off (s.reg off).toNat want r.st) := by
  have h0 := writeRefused_taken h hr hw
  obtain ⟨_, _, _, hl, _, hb⟩ := h
  have e1 : ∀ x : Nat, x.land 0 = 0 := fun x => Nat.and_zero x
  have e2 : ∀ x : Nat, Nat.land 0 x = 0 := fun x => Nat.zero_and x
  have e4 : ∀ x : Nat, x.lor 0 = x := fun x => Nat.or_zero x
  have e5 : ∀ x y : Nat, x ||| y = x.lor y := fun _ _ => rfl
  have e6 : (s.w off) = (s.reg off).toNat := rfl
  have e7 : (2 ^ 32 - 1 : Nat).land r.st = r.st := by
    show (2 ^ 32 - 1) &&& r.st = r.st
    rw [Nat.and_comm, Nat.and_two_pow_sub_one_eq_mod, Nat.mod_eq_of_lt hlt]
  have e8 := (storedWord_toNat r (s.reg off) v hlt).symm
  have e9 : (storedWord r (s.reg off) v).toNat.land (2 ^ 32 - 1) = (storedWord r (s.reg off) v).toNat :=
    land_mask _ (storedWord r (s.reg off) v).isLt
  have e10 : rej.isEmpty = false := by cases rej with | nil => exact absurd rfl hne | cons => rfl
  have e11 : ∀ x : State, x.trigger off 0 [] [] = x := fun _ => rfl
  simp only [State.regWrite, hb, h0, hr, hwide, State.writeNarrow, hl, hst, hc, laneMask_all, toNat_and_mask, e1, e2, e4, e5,
    e6, e7, land_mask _ hlt, e8, e9, hal, hv, e10, hwo, e11, if_false, if_true, ne_eq, not_true_eq_false, Bool.false_eq_true,
    Nat.sub_zero, bne_self_eq_false, Bool.or_false, false_and]
  rfl

/-- A stored value's class touches no other register. -/
theorem State.reg_storeAs (s : State) (c : TimingClass) (o o' : Nat) (v : Word) :
    (s.storeAs c o v).reg o' = if o' = o then v else s.reg o' := by
  unfold State.storeAs
  dsimp only
  cases c with
  | immediate => exact State.reg_setReg _ _ _ _
  | staged => exact State.reg_setReg _ _ _ _
  | commit =>
    show State.reg (if _ then _ else _) o' = _
    split <;> exact State.reg_setReg _ _ _ _

end Sys2Proof.Machine
end

