-- ==== Sys2Proof/Laws/Frame.lean ====
section
/-! SUPPORT. Frames: which parts and which registers the shared operations leave, and how frames compose. -/

namespace Sys2Proof.Machine

/-! ### Parts -/

theorem State.keeps_trans {s t u : State} {l m : List Part} (h : s.keeps t l) (g : t.keeps u m) : s.keeps u (l ++ m) := by
  intro p hp
  rw [List.mem_append, not_or] at hp
  have a := h p hp.1
  have b := g p hp.2
  cases p <;> first
    | exact Eq.trans b a
    | (simp only [Part.same] at a b ⊢; rw [b, a])

theorem State.keeps_mono {s t : State} {l m : List Part} (h : s.keeps t l) (hm : ∀ p ∈ l, p ∈ m) : s.keeps t m :=
  fun p hp => h p fun hl => hp (hm p hl)

theorem State.keeps_refl (s : State) : s.keeps s [] := by intro p _; cases p <;> rfl
theorem State.keeps_at (s : State) (t : Tai) : s.keeps (s.at t) [] := by intro p _; cases p <;> rfl
theorem State.keeps_begin (s : State) : s.keeps s.begin [] := by intro p _; cases p <;> rfl
theorem State.keeps_pending (s : State) (q : List Instr) : s.keeps { s with pending := q } [] := by intro p _; cases p <;> rfl
theorem State.keeps_emit (s : State) (x : Output) : s.keeps (s.emit x) [] := by intro p _; cases p <;> rfl
theorem State.keeps_regs (s : State) (r : List (Nat × Word)) : s.keeps { s with regs := r } [] := by
  intro p _; cases p <;> rfl
theorem State.keeps_setReg (s : State) (o : Nat) (v : Word) : s.keeps (s.setReg o v) [] := State.keeps_regs s _
theorem State.keeps_put (s : State) (f : Fld) (v : Nat) : s.keeps (s.put f v) [] := State.keeps_regs s _
theorem State.keeps_orReg (s : State) (o m : Nat) : s.keeps (s.orReg o m) [] := State.keeps_regs s _
theorem State.keeps_setReg64 (s : State) (o v : Nat) : s.keeps (s.setReg64 o v) [] := by intro p _; cases p <;> rfl
theorem State.keeps_count (s : State) (o n : Nat) : s.keeps (s.count o n) [] := State.keeps_setReg64 s _ _
theorem State.keeps_count32 (s : State) (o n : Nat) : s.keeps (s.count32 o n) [] := State.keeps_regs s _
theorem State.keeps_setLive (s : State) (o : Nat) (v : Word) : s.keeps (s.setLive o v) [.live] := by
  intro p hp; cases p <;> first | rfl | exact absurd (by decide) hp
theorem State.keeps_putCur (s : State) (f : Fld) (v : Nat) : s.keeps (s.putCur f v) [.live] := State.keeps_setLive s _ _
theorem State.keeps_putBoth (s : State) (f : Fld) (v : Nat) : s.keeps (s.putBoth f v) [.live] := by
  intro p hp; cases p <;> first | rfl | exact absurd (by decide) hp
theorem State.keeps_command (s : State) (c : RegCmd) : s.keeps (s.command c) [.cmds] := by
  unfold State.command
  split <;> intro p hp <;> cases p <;> first | rfl | exact absurd (by decide) hp
theorem State.keeps_raise (s : State) (c u : Nat) (d : List Detail) : s.keeps (s.raise c u d) eventParts := by
  intro p hp
  cases p <;> first | exact absurd (by decide) hp | simp [Part.same]
theorem State.keeps_raiseOnce (s : State) (k c u : Nat) (d : List Detail) : s.keeps (s.raiseOnce k c u d) eventParts := by
  intro p hp
  cases p <;> first | exact absurd (by decide) hp | simp [Part.same]
theorem State.keeps_log (s : State) (n : Nat) (b : Bytes) : s.keeps (s.log n b) eventParts := by
  intro p hp
  cases p <;> first | exact absurd (by decide) hp | simp [Part.same]
theorem State.keeps_message (s : State) (u c : Nat) (lost : Bool) : s.keeps (s.message u c lost) (.mgt :: eventParts) := by
  intro p hp
  cases p <;> first | exact absurd (by decide) hp | simp [Part.same]
theorem State.keeps_observe (s : State) (u : Nat) : s.keeps (s.observe u) [.mgt] := by
  intro p hp
  cases p <;> first | exact absurd (by decide) hp | simp [Part.same]
theorem State.keeps_observePort (s : State) (n : Nat) : s.keeps (s.observePort n) [.mgt] := by
  intro p hp
  cases p <;> first | exact absurd (by decide) hp | simp [Part.same]
theorem State.keeps_cfgReject (s : State) (f : Fld) (c u : Nat) : s.keeps (s.cfgReject f c u) eventParts := by
  intro p hp
  cases p <;> first | exact absurd (by decide) hp | simp [Part.same]

/-! ### Registers -/

theorem State.keepsRegs_trans {s t u : State} {l m : List Nat} (h : s.keepsRegs t l) (g : t.keepsRegs u m) :
    s.keepsRegs u (l ++ m) := by
  intro o ho
  rw [List.mem_append, not_or] at ho
  exact (g o ho.2).trans (h o ho.1)

theorem State.keepsRegs_mono {s t : State} {l m : List Nat} (h : s.keepsRegs t l) (hm : ∀ o ∈ l, o ∈ m) : s.keepsRegs t m :=
  fun o ho => h o fun hl => ho (hm o hl)

theorem State.keepsRegs_of_regs {s t : State} (h : t.regs = s.regs) : s.keepsRegs t [] :=
  fun _ _ => State.reg_of_regs h _

theorem State.keepsRegs_pending (s : State) (q : List Instr) : s.keepsRegs { s with pending := q } [] := fun _ _ => rfl
theorem State.keepsRegs_emit (s : State) (x : Output) : s.keepsRegs (s.emit x) [] := fun _ _ => rfl
theorem State.keepsRegs_at (s : State) (t : Tai) : s.keepsRegs (s.at t) [] := fun _ _ => rfl
theorem State.keepsRegs_setReg (s : State) (o : Nat) (v : Word) : s.keepsRegs (s.setReg o v) [o] :=
  fun x hx => State.reg_setReg_ne _ _ (by simpa using hx)
theorem State.keepsRegs_put (s : State) (f : Fld) (v : Nat) : s.keepsRegs (s.put f v) [f.off] :=
  fun x hx => State.reg_put _ _ _ _ (by simpa using hx)
theorem State.keepsRegs_orReg (s : State) (o m : Nat) : s.keepsRegs (s.orReg o m) [o] := State.keepsRegs_setReg s _ _
theorem State.keepsRegs_count32 (s : State) (o n : Nat) : s.keepsRegs (s.count32 o n) [o] := State.keepsRegs_setReg s _ _
theorem State.keepsRegs_putBoth (s : State) (f : Fld) (v : Nat) : s.keepsRegs (s.putBoth f v) [f.off] :=
  fun x hx => State.reg_put s f v x (by simpa using hx)
theorem State.keepsRegs_setReg64 (s : State) (o v : Nat) : s.keepsRegs (s.setReg64 o v) (pair64 o) :=
  fun x hx => by
    simp only [pair64, List.mem_cons, List.not_mem_nil, or_false, not_or] at hx
    exact State.reg_setReg64 _ _ _ _ hx.1 hx.2
theorem State.keepsRegs_count (s : State) (o n : Nat) : s.keepsRegs (s.count o n) (pair64 o) := State.keepsRegs_setReg64 s _ _
theorem State.keepsRegs_command (s : State) (c : RegCmd) : s.keepsRegs (s.command c) [] := by
  unfold State.command
  split <;> exact fun _ _ => rfl
theorem State.keepsRegs_raise (s : State) (c u : Nat) (d : List Detail) : s.keepsRegs (s.raise c u d) dropCounters :=
  fun o ho => State.reg_raise s c u d o ho
theorem State.keepsRegs_raiseOnce (s : State) (k c u : Nat) (d : List Detail) :
    s.keepsRegs (s.raiseOnce k c u d) dropCounters := fun o ho => State.reg_raiseOnce s k c u d o ho
theorem State.keepsRegs_log (s : State) (n : Nat) (b : Bytes) : s.keepsRegs (s.log n b) dropCounters :=
  fun o ho => State.reg_log s n b o ho

/-! ### Frames, one operation back

The frame of a result follows from the frame of what the last operation was applied to. -/

theorem State.keeps_back {s x y : State} {l m : List Part} (h : s.keeps x l) (g : x.keeps y m) (hm : ∀ p ∈ m, p ∈ l) :
    s.keeps y l := State.keeps_mono (State.keeps_trans h g) (by
  intro p hp; rcases List.mem_append.1 hp with hp | hp
  · exact hp
  · exact hm p hp)

theorem State.keepsRegs_back {s x y : State} {l m : List Nat} (h : s.keepsRegs x l) (g : x.keepsRegs y m)
    (hm : ∀ o ∈ m, o ∈ l) : s.keepsRegs y l := State.keepsRegs_mono (State.keepsRegs_trans h g) (by
  intro p hp; rcases List.mem_append.1 hp with hp | hp
  · exact hp
  · exact hm p hp)

theorem State.keeps_ite {s x y : State} {c : Prop} [Decidable c] {l : List Part} (h : s.keeps x l) (g : s.keeps y l) :
    s.keeps (if c then x else y) l := by split <;> assumption
theorem State.keepsRegs_ite {s x y : State} {c : Prop} [Decidable c] {l : List Nat} (h : s.keepsRegs x l)
    (g : s.keepsRegs y l) : s.keepsRegs (if c then x else y) l := by split <;> assumption
theorem State.keepsRegs_refl (s : State) : s.keepsRegs s [] := fun _ _ => rfl
theorem State.keeps_free {s x : State} {l : List Part} (u : Nat) (h : s.keeps x l) (hl : Part.free ∈ l) :
    s.keeps { x with free := u } l := by
  intro p hp
  have g := h p hp
  cases p <;> first | exact g | exact absurd hl hp
theorem State.keeps_live {s x : State} {l : List Part} (u : List (Nat × Word)) (h : s.keeps x l) (hl : Part.live ∈ l) :
    s.keeps { x with live := u } l := by
  intro p hp
  have g := h p hp
  cases p <;> first | exact g | exact absurd hl hp
theorem State.keeps_paced {s x : State} {l : List Part} (u : List Nat) (h : s.keeps x l) (hl : Part.paced ∈ l) :
    s.keeps { x with paced := u } l := by
  intro p hp
  have g := h p hp
  cases p <;> first | exact g | exact absurd hl hp
theorem State.keeps_cmds {s x : State} {l : List Part} (u : List RegCmd) (h : s.keeps x l) (hl : Part.cmds ∈ l) :
    s.keeps { x with cmds := u } l := by
  intro p hp
  have g := h p hp
  cases p <;> first | exact g | exact absurd hl hp
theorem State.keeps_glb {s x : State} {l : List Part} (u : Glb) (h : s.keeps x l) (hl : Part.glb ∈ l) :
    s.keeps { x with glb := u } l := by
  intro p hp
  have g := h p hp
  cases p <;> first | exact g | exact absurd hl hp
theorem State.keeps_beat {s x : State} {l : List Part} (u : BeatUnit) (h : s.keeps x l) (hl : Part.beat ∈ l) :
    s.keeps { x with beat := u } l := by
  intro p hp
  have g := h p hp
  cases p <;> first | exact g | exact absurd hl hp
theorem State.keeps_time {s x : State} {l : List Part} (u : TimeUnit) (h : s.keeps x l) (hl : Part.time ∈ l) :
    s.keeps { x with time := u } l := by
  intro p hp
  have g := h p hp
  cases p <;> first | exact g | exact absurd hl hp
theorem State.keeps_ev {s x : State} {l : List Part} (u : EventUnit) (h : s.keeps x l) (hl : Part.ev ∈ l) :
    s.keeps { x with ev := u } l := by
  intro p hp
  have g := h p hp
  cases p <;> first | exact g | exact absurd hl hp
theorem State.keeps_hif {s x : State} {l : List Part} (u : HostIf) (h : s.keeps x l) (hl : Part.hif ∈ l) :
    s.keeps { x with hif := u } l := by
  intro p hp
  have g := h p hp
  cases p <;> first | exact g | exact absurd hl hp
theorem State.keeps_fab {s x : State} {l : List Part} (u : Fabric) (h : s.keeps x l) (hl : Part.fab ∈ l) :
    s.keeps { x with fab := u } l := by
  intro p hp
  have g := h p hp
  cases p <;> first | exact g | exact absurd hl hp
theorem State.keeps_ra {s x : State} {l : List Part} (u : List (Nat × RaFrame)) (h : s.keeps x l) (hl : Part.ra ∈ l) :
    s.keeps { x with ra := u } l := by
  intro p hp
  have g := h p hp
  cases p <;> first | exact g | exact absurd hl hp
theorem State.keeps_can {s x : State} {l : List Part} (u : List (Nat × CanPort)) (h : s.keeps x l) (hl : Part.can ∈ l) :
    s.keeps { x with can := u } l := by
  intro p hp
  have g := h p hp
  cases p <;> first | exact g | exact absurd hl hp
theorem State.keeps_reef {s x : State} {l : List Part} (u : Reef) (h : s.keeps x l) (hl : Part.reef ∈ l) :
    s.keeps { x with reef := u } l := by
  intro p hp
  have g := h p hp
  cases p <;> first | exact g | exact absurd hl hp
theorem State.keeps_eth {s x : State} {l : List Part} (u : Eth) (h : s.keeps x l) (hl : Part.eth ∈ l) :
    s.keeps { x with eth := u } l := by
  intro p hp
  have g := h p hp
  cases p <;> first | exact g | exact absurd hl hp
theorem State.keeps_ser {s x : State} {l : List Part} (u : List (Nat × SerChan)) (h : s.keeps x l) (hl : Part.ser ∈ l) :
    s.keeps { x with ser := u } l := by
  intro p hp
  have g := h p hp
  cases p <;> first | exact g | exact absurd hl hp
theorem State.keeps_ciph {s x : State} {l : List Part} (u : Ciph) (h : s.keeps x l) (hl : Part.ciph ∈ l) :
    s.keeps { x with ciph := u } l := by
  intro p hp
  have g := h p hp
  cases p <;> first | exact g | exact absurd hl hp
theorem State.keeps_nest {s x : State} {l : List Part} (u : Nest) (h : s.keeps x l) (hl : Part.nest ∈ l) :
    s.keeps { x with nest := u } l := by
  intro p hp
  have g := h p hp
  cases p <;> first | exact g | exact absurd hl hp
theorem State.keeps_hal {s x : State} {l : List Part} (u : Hal) (h : s.keeps x l) (hl : Part.hal ∈ l) :
    s.keeps { x with hal := u } l := by
  intro p hp
  have g := h p hp
  cases p <;> first | exact g | exact absurd hl hp
theorem State.keeps_pwr {s x : State} {l : List Part} (u : Pwr) (h : s.keeps x l) (hl : Part.pwr ∈ l) :
    s.keeps { x with pwr := u } l := by
  intro p hp
  have g := h p hp
  cases p <;> first | exact g | exact absurd hl hp
theorem State.keeps_shr {s x : State} {l : List Part} (u : List (Nat × ShrLine)) (h : s.keeps x l) (hl : Part.shr ∈ l) :
    s.keeps { x with shr := u } l := by
  intro p hp
  have g := h p hp
  cases p <;> first | exact g | exact absurd hl hp
theorem State.keeps_pin {s x : State} {l : List Part} (u : PinUnit) (h : s.keeps x l) (hl : Part.pin ∈ l) :
    s.keeps { x with pin := u } l := by
  intro p hp
  have g := h p hp
  cases p <;> first | exact g | exact absurd hl hp
theorem State.keeps_nvm {s x : State} {l : List Part} (u : Nvm) (h : s.keeps x l) (hl : Part.nvm ∈ l) :
    s.keeps { x with nvm := u } l := by
  intro p hp
  have g := h p hp
  cases p <;> first | exact g | exact absurd hl hp
theorem State.keeps_mgt {s x : State} {l : List Part} (u : Mgt) (h : s.keeps x l) (hl : Part.mgt ∈ l) :
    s.keeps { x with mgt := u } l := by
  intro p hp
  have g := h p hp
  cases p <;> first | exact g | exact absurd hl hp

/-! ### Registers other than the counters that an event can touch -/

/-- Off the counters of dropped entries, raising an event leaves every field. -/
theorem State.get_raise (s : State) (c u : Nat) (d : List Detail) (f : Fld) (h : f.off ∉ dropCounters) :
    (s.raise c u d).get f = s.get f := by simp only [State.get, State.reg_raise s c u d f.off h]
theorem State.get_raiseOnce (s : State) (k c u : Nat) (d : List Detail) (f : Fld) (h : f.off ∉ dropCounters) :
    (s.raiseOnce k c u d).get f = s.get f := by simp only [State.get, State.reg_raiseOnce s k c u d f.off h]
theorem State.reg64_raise (s : State) (c u : Nat) (d : List Detail) (o : Nat) (h : o ∉ dropCounters)
    (h4 : o + 4 ∉ dropCounters) : (s.raise c u d).reg64 o = s.reg64 o := by
  simp only [State.reg64, State.reg_raise s c u d o h, State.reg_raise s c u d (o + 4) h4]
theorem State.reg64_raiseOnce (s : State) (k c u : Nat) (d : List Detail) (o : Nat) (h : o ∉ dropCounters)
    (h4 : o + 4 ∉ dropCounters) : (s.raiseOnce k c u d).reg64 o = s.reg64 o := by
  simp only [State.reg64, State.reg_raiseOnce s k c u d o h, State.reg_raiseOnce s k c u d (o + 4) h4]

/-- What raising tells. -/
theorem State.told_raise (s : State) (c u : Nat) (d : List Detail) : (s.raise c u d).told c u d := by
  obtain ⟨l, h⟩ := State.raised_raise s c u d
  exact ⟨s.eventOf (s.epochOf u) c u d, by rw [h]; simp, rfl, rfl, rfl⟩
theorem State.told_of_raised {s t : State} (h : t.ev.raised = s.ev.raised) {c u : Nat} {d : List Detail} (g : s.told c u d) :
    t.told c u d := by unfold State.told at *; rw [h]; exact g
theorem State.told_raiseOnce (s : State) (k c u : Nat) (d : List Detail) (h : s.firstInSecond k = true) :
    (s.raiseOnce k c u d).told c u d := by
  unfold State.raiseOnce; rw [if_pos h]; exact State.told_raise _ _ _ _

/-! ### Requests of command fields -/

@[simp] theorem State.reg_command (s : State) (c : RegCmd) (o : Nat) : (s.command c).reg o = s.reg o :=
  State.keepsRegs_command s c o (by simp)
@[simp] theorem State.get_command (s : State) (c : RegCmd) (f : Fld) : (s.command c).get f = s.get f := by
  simp only [State.get, State.reg_command]
theorem State.waitsFor_command (s : State) (c : RegCmd) : s.waitsFor (s.command c) c := by
  unfold State.command State.waitsFor
  split <;> simp_all
theorem State.waitsFor_pending {s u : State} {c : RegCmd} (h : s.waitsFor u c) (q : List Instr) :
    s.waitsFor { u with pending := q } c := h

end Sys2Proof.Machine
end

