-- ==== Sys2Proof/Laws/Commands.lean ====
section
/-! SUPPORT. The command registers: what a taken write of each starts. -/

set_option linter.unusedSimpArgs false

namespace Sys2Proof.Machine

/-- Command registers, and the bits of each that act. -/
theorem commandAt_FAB_RA_REARM : commandAt Reg.FAB_RA_REARM 0x80000FFF = true := by decide
theorem commandAt_REEF_PORTn_CTRL : ∀ n : Fin 48, commandAt (Reg.REEF_PORTn_CTRL n) 1 = true := by decide
theorem commandAt_CIPH_KSn_CTRL : ∀ n : Fin 64, commandAt (Reg.CIPH_KSn_CTRL n) 1 = true := by decide
theorem commandAt_PWR_Dd_CTRL : ∀ n : Fin 24, commandAt (Reg.PWR_Dd_CTRL n) 1 = true := by decide
theorem commandAt_NVM_CFG_CMD : commandAt Reg.NVM_CFG_CMD 1 = true := by decide
theorem commandAt_TIME_STEP_CTRL : commandAt Reg.TIME_STEP_CTRL 0x80000003 = true := by decide
theorem commandAt_NVM_UPD_CTRL : commandAt Reg.NVM_UPD_CTRL 0x31F = true := by decide
theorem commandAt_CANP_TIMING_GO : ∀ n : Fin 48, commandAt (Reg.CANP_TIMING_GO n) 0x80000000 = true := by decide
theorem commandAt_REEF_COMMIT : commandAt Reg.REEF_COMMIT 0x80000000 = true := by decide
theorem commandAt_NEST_COMMIT : commandAt Reg.NEST_COMMIT 0x80000000 = true := by decide
theorem commandAt_MGT_SNAP_GO : commandAt Reg.MGT_SNAP_GO 0x80000000 = true := by decide
theorem commandAt_FAB_COMMIT : commandAt Reg.FAB_COMMIT 1 = true := by decide
/-- The acting bits of a re-arm. -/
theorem acting_bits_FAB_RA_REARM (route : Nat) (h : route < 4096) : (BitVec.ofNat 32 (2 ^ 31 + route)).toNat.land
    0x80000FFF = 2^31 + route := by
  rw [BitVec.toNat_ofNat, Nat.mod_eq_of_lt (by omega)]
  show (2^31 + route) &&& (2147483648 ||| 4095) = _
  rw [Nat.and_or_distrib_left]
  have e1 : (2^31+route) &&& 4095 = route := by
    rw [show (4095:Nat) = 2^12-1 by rfl, Nat.and_two_pow_sub_one_eq_mod]; omega
  have e2 : (2^31+route) &&& 2147483648 = 2147483648 := by
    rw [show (2147483648:Nat) = 2^31 by rfl, Nat.and_two_pow]
    have : (2^31+route).testBit 31 = true := by rw [Nat.testBit_eq_decide_div_mod_eq]; simp; omega
    rw [this]; rfl
  rw [e1, e2, Nat.or_comm, Nat.or_comm]
  rw [show (2147483648:Nat) = 1 <<< 31 by rfl, ← Nat.shiftLeft_add_eq_or_of_lt (by omega)]; rfl
/-- What the acting bits of each command register start. -/
theorem trigger_FAB_RA_REARM (s : State) (n : Nat) (hn : n < 4096) : s.trigger Reg.FAB_RA_REARM (2^31+n) [] [] = s.command
    (.raRearm n) := by
      unfold State.trigger
      rw [if_neg (by omega), if_neg (by decide), if_neg (by decide), if_neg (by decide), if_neg (by decide), if_pos rfl,
          if_pos (by simp [bit]; omega)]
      congr 2; simp [bits]; omega
theorem trigger_REEF_PORTn_CTRL (s : State) (n : Nat) (hn : n < 48) : s.trigger (Reg.REEF_PORTn_CTRL n) 1 [] [] = s.command
    (.reefWake n) := by
  have ho : Reg.REEF_PORTn_CTRL n = 1314848 + 64 * n := rfl
  generalize Reg.REEF_PORTn_CTRL n = o at ho
  unfold State.trigger
  repeat first
    | rw [if_neg (by intro e; (try simp only [Reg.GLB_RESET, Reg.GLB_AF_CTRL, Reg.TIME_STEP_CTRL, Reg.FAB_COMMIT,
        Reg.FAB_RA_REARM, Reg.REEF_COMMIT, Reg.ETH_MDIO_CMD, Reg.CIPH_CLR_CTRL, Reg.CIPH_FV_SEL, Reg.NEST_COMMIT,
            Reg.HAL_CTRL, Reg.NVM_CFG_CMD, Reg.NVM_UPD_CTRL, Reg.MGT_SNAP_GO] at e); omega)]
    | rw [if_pos (by omega)]
  congr 2
  omega
theorem trigger_CIPH_KSn_CTRL (s : State) (n : Nat) (hn : n < 64) : s.trigger (Reg.CIPH_KSn_CTRL n) 1 [] [] = s.command
    (.keyRetire n) := by
  have ho : Reg.CIPH_KSn_CTRL n = 0x180114 + 32 * n := rfl
  generalize Reg.CIPH_KSn_CTRL n = o at ho
  unfold State.trigger
  repeat first
    | rw [if_neg (by intro e; (try simp only [Reg.GLB_RESET, Reg.GLB_AF_CTRL, Reg.TIME_STEP_CTRL, Reg.FAB_COMMIT,
        Reg.FAB_RA_REARM, Reg.REEF_COMMIT, Reg.ETH_MDIO_CMD, Reg.CIPH_CLR_CTRL, Reg.CIPH_FV_SEL, Reg.NEST_COMMIT,
            Reg.HAL_CTRL, Reg.NVM_CFG_CMD, Reg.NVM_UPD_CTRL, Reg.MGT_SNAP_GO] at e); omega)]
    | rw [if_pos (by omega)]
  congr 2
  omega
theorem trigger_PWR_Dd_CTRL (s : State) (n : Nat) (hn : n < 24) : s.trigger (Reg.PWR_Dd_CTRL n) 1 [] [] = s.command
    (.pwrWake n) := by
  have ho : Reg.PWR_Dd_CTRL n = 0x1D0108 + 16 * n := rfl
  generalize Reg.PWR_Dd_CTRL n = o at ho
  unfold State.trigger
  repeat first
    | rw [if_neg (by intro e; (try simp only [Reg.GLB_RESET, Reg.GLB_AF_CTRL, Reg.TIME_STEP_CTRL, Reg.FAB_COMMIT,
        Reg.FAB_RA_REARM, Reg.REEF_COMMIT, Reg.ETH_MDIO_CMD, Reg.CIPH_CLR_CTRL, Reg.CIPH_FV_SEL, Reg.NEST_COMMIT,
            Reg.HAL_CTRL, Reg.NVM_CFG_CMD, Reg.NVM_UPD_CTRL, Reg.MGT_SNAP_GO] at e); omega)]
    | rw [if_pos (by omega)]
  congr 2
  omega
theorem trigger_CANP_TIMING_GO (s : State) (n : Nat) (hn : n < 48) : s.trigger (Reg.CANP_TIMING_GO n) 0x80000000 [] [] =
    (s.put (Fld.CANP_STATUS_TIMING_PENDING n) 1).command (.canTiming n) := by
  have ho : Reg.CANP_TIMING_GO n = 0x100014 + 0x1000 * n := by rfl
  generalize Reg.CANP_TIMING_GO n = o at ho
  unfold State.trigger
  have e : (o - 0x100000) / 0x1000 = n := by omega
  repeat first
    | rw [if_neg (by intro e; (try simp only [Reg.GLB_RESET, Reg.GLB_AF_CTRL, Reg.TIME_STEP_CTRL, Reg.FAB_COMMIT,
        Reg.FAB_RA_REARM, Reg.REEF_COMMIT, Reg.ETH_MDIO_CMD, Reg.CIPH_CLR_CTRL, Reg.CIPH_FV_SEL, Reg.NEST_COMMIT,
            Reg.HAL_CTRL, Reg.NVM_CFG_CMD, Reg.NVM_UPD_CTRL, Reg.MGT_SNAP_GO] at e); omega)]
    | rw [if_pos (by omega)]
  rw [e]
/-- A write of NVM_UPD_CTRL out of recovery mode: the request waits at the end of the queue. -/
theorem regWrite_NVM_UPD_CTRL (s : State) (v : Nat) (t : Tai) (a : Access) (h : s.takes a) (v' : Word) (hv : v'.toNat.land
    0x31F = v) (hz : v.land 0x1f ≠ 0) :
   (s.at t).regWrite a Reg.NVM_UPD_CTRL v' = { s.at t with cmds := s.cmds ++ [.nvmUpd v]} := by
  rw [regWrite_commandAt _ _ _ (State.takes_at h t) commandAt_NVM_UPD_CTRL, hv]
  show (s.at t).trigger Reg.NVM_UPD_CTRL v [] [] = _
  have : v ≠ 0 := by rintro rfl; exact hz rfl
  have e : (s.at t).trigger Reg.NVM_UPD_CTRL v [] [] = (s.at t).updWritten v := by
    unfold State.trigger
    rw [if_neg this]
    rfl
  rw [e, State.updWritten, if_neg hz, if_neg (show ¬ (s.at t).glb.phase = .recovery from h.2.2.1)]
  rfl
/-- A register whose bits all act, in the byte lanes that a write enables. -/
def lanesAt (off : Nat) : Bool := match RegMap.find off with
  | none => false
  | some r => r.bl && !readOnlyWindow off && !r.wide && r.st == 0 && r.w1c == 0 && off != Reg.CIPH_ALARM && r.wo == 0xFFFFFFFF
/-- A write of such a register. -/
theorem regWrite_lanes {s : State} {a : Access} {off : Nat} {r : RegRow} (v : Word) (h : s.takesLanes a) (hr : RegMap.find
    off = some r) (hbl : r.bl = true) (hw : readOnlyWindow off = false)
    (hwide : r.wide = false) (hst : r.st = 0) (hc : r.w1c = 0) (hal : off ≠ Reg.CIPH_ALARM) (hwo : r.wo = 0xFFFFFFFF) :
    s.regWrite a off v = s.trigger off ((v.toNat.land (laneMask a.be)).land 0xFFFFFFFF) [] [] := by
  obtain ⟨_, hp, hq, hl, _, hb⟩ := h
  have h0 : s.writeRefused a off = 0 := by
    simp only [State.writeRefused, hp, hq, hw, hr, hbl, false_and, if_false, and_false, Bool.false_eq_true,
        Bool.true_eq_false]
  have e1 : ∀ x : Nat, x.land 0 = 0 := fun x => Nat.and_zero x
  have e2 : ∀ x : Nat, Nat.land 0 x = 0 := fun x => Nat.zero_and x
  simp only [State.regWrite, hb, h0, hr, hwide, State.writeNarrow, hl, hst, hc, hwo, e1, e2, hal,
    if_false, if_true, ne_eq, not_true_eq_false, Bool.false_eq_true, Nat.sub_zero, bne_self_eq_false, Bool.or_false,
    List.any_nil, List.isEmpty_nil, false_and]
  rfl
theorem land_lanes (v : Word) (be : Nat) : (v.toNat.land (laneMask be)).land 0xFFFFFFFF = v.toNat.land (laneMask be) := by
  rw [show (0xFFFFFFFF : Nat) = 2^32-1 by rfl]
  exact land_mask _ (Nat.lt_of_le_of_lt Nat.and_le_left v.isLt)
theorem lanesAt_PIN_SETw : ∀ w : Fin 4, lanesAt (Reg.PIN_SETw w) = true := by decide
theorem lanesAt_PIN_CLRw : ∀ w : Fin 4, lanesAt (Reg.PIN_CLRw w) = true := by decide
theorem regWrite_lanesAt {s : State} {a : Access} {off : Nat} (v : Word) (h : s.takesLanes a) (hr : lanesAt off = true) :
    s.regWrite a off v = s.trigger off (v.toNat.land (laneMask a.be)) [] [] := by
  unfold lanesAt at hr
  cases hf : RegMap.find off with
  | none => rw [hf] at hr; cases hr
  | some r =>
    rw [hf] at hr; simp only [Bool.and_eq_true, Bool.not_eq_true', beq_iff_eq, bne_iff_ne] at hr
    obtain ⟨⟨⟨⟨⟨⟨h1, h2⟩, h3⟩, h4⟩, h5⟩, h6⟩, h7⟩ := hr
    rw [regWrite_lanes v h hf h1 h2 h3 h4 h5 h6 h7, land_lanes]
theorem trigger_PIN_SETw (s : State) (w m : Nat) (hw : w < 4) (hm : m ≠ 0) : s.trigger (Reg.PIN_SETw w) m [] [] =
    s.pinCommand w m true := by
  have ho : Reg.PIN_SETw w = 0x200420 + 4 * w := by rfl
  generalize Reg.PIN_SETw w = o at ho
  unfold State.trigger
  have e : (o - 0x200420) / 4 = w := by omega
  repeat first
    | rw [if_neg (by intro e; (try simp only [Reg.GLB_RESET, Reg.GLB_AF_CTRL, Reg.TIME_STEP_CTRL, Reg.FAB_COMMIT,
        Reg.FAB_RA_REARM, Reg.REEF_COMMIT, Reg.ETH_MDIO_CMD, Reg.CIPH_CLR_CTRL, Reg.CIPH_FV_SEL, Reg.NEST_COMMIT,
            Reg.HAL_CTRL, Reg.NVM_CFG_CMD, Reg.NVM_UPD_CTRL, Reg.MGT_SNAP_GO] at e); omega)]
    | rw [if_pos (by omega)]
  rw [e]
theorem trigger_PIN_CLRw (s : State) (w m : Nat) (hw : w < 4) (hm : m ≠ 0) : s.trigger (Reg.PIN_CLRw w) m [] [] =
    s.pinCommand w m false := by
  have ho : Reg.PIN_CLRw w = 0x200430 + 4 * w := by rfl
  generalize Reg.PIN_CLRw w = o at ho
  unfold State.trigger
  have e : (o - 0x200430) / 4 = w := by omega
  repeat first
    | rw [if_neg (by intro e; (try simp only [Reg.GLB_RESET, Reg.GLB_AF_CTRL, Reg.TIME_STEP_CTRL, Reg.FAB_COMMIT,
        Reg.FAB_RA_REARM, Reg.REEF_COMMIT, Reg.ETH_MDIO_CMD, Reg.CIPH_CLR_CTRL, Reg.CIPH_FV_SEL, Reg.NEST_COMMIT,
            Reg.HAL_CTRL, Reg.NVM_CFG_CMD, Reg.NVM_UPD_CTRL, Reg.MGT_SNAP_GO] at e); omega)]
    | rw [if_pos (by omega)]
  rw [e]

end Sys2Proof.Machine
end

