-- ==== Sys2Proof/Laws/Isolation.lean ====
section
/-! SUPPORT. One lemma for each command that cannot touch the beat: the beat in progress, the phase and the GLB and BEAT
registers are as they were. -/

set_option linter.unusedSimpArgs false
set_option linter.unusedTactic false
set_option linter.unreachableTactic false
set_option linter.unusedVariables false

namespace Sys2Proof.Machine

theorem execAbortDeadline_beat (egress : Nat) (t : Tai) (s : State) (z : State)
    (h : execAbortDeadline egress t s = .next z) : s.sameBeat z := by
  unfold execAbortDeadline at h
  refine sameBeat_of_meaning (sameBeat_at s t) ?_ h
  simp (disch := (first | assumption | omega | omega)) only [quiet_mk, quiet_fold, quiet_ite, quiet_foldl, ite_self,
    Bool.false_eq_true, if_true, if_false, State.raDeadline_quiet]

theorem execAnnounceReceiptTimeout_beat (t : Tai) (s : State) (z : State)
    (h : execAnnounceReceiptTimeout t s = .next z) : s.sameBeat z := by
  unfold execAnnounceReceiptTimeout at h
  refine sameBeat_of_meaning (sameBeat_at s t) ?_ h
  simp (disch := (first | assumption | omega | omega)) only [quiet_mk, quiet_fold, quiet_ite, quiet_foldl, ite_self,
    Bool.false_eq_true, if_true, if_false, State.masterTimeout_quiet]

theorem execAnnounceReceived_beat (p : Nat) (a : Announce) (t : Tai) (s : State) (z : State)
    (h : execAnnounceReceived p a t s = .next z) : s.sameBeat z := by
  unfold execAnnounceReceived at h
  refine sameBeat_of_meaning (sameBeat_at s t) ?_ h
  simp (disch := (first | assumption | omega | omega)) only [quiet_mk, quiet_fold, quiet_ite, quiet_foldl, ite_self,
    Bool.false_eq_true, if_true, if_false, State.announce_quiet]

theorem execAnnounceTransmit_beat (p : Nat) (t : Tai) (s : State) (z : State)
    (h : execAnnounceTransmit p t s = .next z) : s.sameBeat z := by
  unfold execAnnounceTransmit at h
  refine sameBeat_of_meaning (sameBeat_at s t) ?_ h
  simp (disch := (first | assumption | omega | (simp only [Fld.TIME_PORTp_LOG_ANNOUNCE, Reg.TIME_PORTp]; omega))) only [quiet_mk, quiet_fold, quiet_ite,
    quiet_foldl, ite_self, Bool.false_eq_true, if_true, if_false, State.ptpSend_quiet]

theorem execArpRequest_beat (mac : Bytes) (ip : Nat) (target : Nat) (t : Tai) (s : State) (z : State)
    (h : execArpRequest mac ip target t s = .next z) : s.sameBeat z := by
  unfold execArpRequest at h
  refine sameBeat_of_meaning (sameBeat_at s t) ?_ h
  simp (disch := (first | assumption | omega | omega)) only [quiet_mk, quiet_fold, quiet_ite, quiet_foldl, ite_self,
    Bool.false_eq_true, if_true, if_false, State.arpReply_quiet]

theorem execAutoYield_beat (t : Tai) (s : State) (z : State)
    (h : execAutoYield t s = .next z) : s.sameBeat z := by
  unfold execAutoYield at h
  refine sameBeat_of_meaning (sameBeat_at s t) ?_ h
  simp (disch := (first | assumption | omega | (simp only [Fld.HAL_CFG_AUTO_YIELD, Reg.HAL_CFG]; omega))) only [quiet_mk, quiet_fold, quiet_ite,
    quiet_foldl, ite_self, Bool.false_eq_true, if_true, if_false]

theorem execBackupReturn_beat (t : Tai) (s : State) (z : State)
    (h : execBackupReturn t s = .next z) : s.sameBeat z := by
  unfold execBackupReturn at h
  refine sameBeat_of_meaning (sameBeat_at s t) ?_ h
  simp (disch := (first | assumption | omega | (simp only [Fld.PWR_STATUS_PATH_BKUP, Reg.PWR_STATUS]; omega))) only [quiet_mk, quiet_fold, quiet_ite,
    quiet_foldl, ite_self, Bool.false_eq_true, if_true, if_false, State.enterRestore_quiet, State.put_quiet]

theorem execCanArbitrationLost_beat (n : Nat) (t : Tai) (s : State) (z : State)
    (h : execCanArbitrationLost n t s = .next z) : s.sameBeat z := by
  unfold execCanArbitrationLost at h
  refine sameBeat_of_meaning (sameBeat_at s t) ?_ h
  simp (disch := (first | assumption | omega | (simp only [Reg.CANP_CNTk]; omega))) only [quiet_mk, quiet_fold, quiet_ite,
    quiet_foldl, ite_self, Bool.false_eq_true, if_true, if_false, State.attemptFails_quiet, State.count_quiet]

theorem execCanErrorDetected_beat (n : Nat) (code : Nat) (phase : Nat) (tx : Bool) (rule : ErrCount) (sof16 : Option Nat) (tdcv : Option Nat) (lost : Bool) (t : Tai) (s : State) (z : State)
    (h : execCanErrorDetected n code phase tx rule sof16 tdcv lost t s = .next z) : s.sameBeat z := by
  unfold execCanErrorDetected at h
  refine sameBeat_of_meaning (sameBeat_at s t) ?_ h
  simp (disch := (first | assumption | omega | omega)) only [quiet_mk, quiet_fold, quiet_ite, quiet_foldl, ite_self,
    Bool.false_eq_true, if_true, if_false, State.canError_quiet]

theorem execCanFrameValid_beat (n : Nat) (w : Wire) (sof16 : Nat) (eof16 : Nat) (bad : List (Nat × Nat)) (t : Tai) (s : State) (z : State)
    (h : execCanFrameValid n w sof16 eof16 bad t s = .next z) : s.sameBeat z := by
  unfold execCanFrameValid at h
  refine sameBeat_of_meaning (sameBeat_at s t) ?_ h
  simp (disch := (first | assumption | omega | omega)) only [quiet_mk, quiet_fold, quiet_ite, quiet_foldl, ite_self,
    Bool.false_eq_true, if_true, if_false, State.canFrameValid_quiet]

theorem execCanIntegrationDone_beat (n : Nat) (lost : Bool) (t : Tai) (s : State) (z : State)
    (h : execCanIntegrationDone n lost t s = .next z) : s.sameBeat z := by
  unfold execCanIntegrationDone at h
  refine sameBeat_of_meaning (sameBeat_at s t) ?_ h
  simp (disch := (first | assumption | omega | omega)) only [quiet_mk, quiet_fold, quiet_ite, quiet_foldl, ite_self,
    Bool.false_eq_true, if_true, if_false, State.errorState_quiet, State.setCan_quiet, State.setCanState_quiet]

theorem execCanListenOnly_beat (n : Nat) (t : Tai) (s : State) (z : State)
    (h : execCanListenOnly n t s = .next z) : s.sameBeat z := by
  unfold execCanListenOnly at h
  refine sameBeat_of_meaning (sameBeat_at s t) ?_ h
  simp (disch := (first | assumption | omega | (simp only [Fld.CANP_MODE_LISTEN, Reg.CANP_MODE]; omega))) only [quiet_mk, quiet_fold, quiet_ite,
    quiet_foldl, ite_self, Bool.false_eq_true, if_true, if_false, State.canListen_quiet, State.putBoth_quiet]

theorem execCanPortDisable_beat (n : Nat) (t : Tai) (s : State) (z : State)
    (h : execCanPortDisable n t s = .next z) : s.sameBeat z := by
  unfold execCanPortDisable at h
  refine sameBeat_of_meaning (sameBeat_at s t) ?_ h
  simp (disch := (first | assumption | omega | (simp only [Fld.CANP_MODE_EN, Reg.CANP_MODE]; omega))) only [quiet_mk, quiet_fold, quiet_ite,
    quiet_foldl, ite_self, Bool.false_eq_true, if_true, if_false, State.canOff_quiet, State.putBoth_quiet]

theorem execCanPortEnable_beat (n : Nat) (lost : Bool) (t : Tai) (s : State) (z : State)
    (h : execCanPortEnable n lost t s = .next z) : s.sameBeat z := by
  unfold execCanPortEnable at h
  refine sameBeat_of_meaning (sameBeat_at s t) ?_ h
  simp (disch := (first | assumption | omega | (simp only [Fld.CANP_MODE_EN, Reg.CANP_MODE]; omega))) only [quiet_mk, quiet_fold, quiet_ite,
    quiet_foldl, ite_self, Bool.false_eq_true, if_true, if_false, State.canOn_quiet, State.putBoth_quiet]

theorem execCanTxComplete_beat (n : Nat) (sof16 : Nat) (eof16 : Nat) (tdcv : Option Nat) (t : Tai) (s : State) (z : State)
    (h : execCanTxComplete n sof16 eof16 tdcv t s = .next z) : s.sameBeat z := by
  unfold execCanTxComplete at h
  refine sameBeat_of_meaning (sameBeat_at s t) ?_ h
  simp (disch := (first | assumption | omega | omega)) only [quiet_mk, quiet_fold, quiet_ite, quiet_foldl, ite_self,
    Bool.false_eq_true, if_true, if_false, State.canTxDone_quiet]

theorem execCanTxStart_beat (n : Nat) (fault : Bool) (t : Tai) (s : State) (z : State)
    (h : execCanTxStart n fault t s = .next z) : s.sameBeat z := by
  unfold execCanTxStart at h
  refine sameBeat_of_meaning (sameBeat_at s t) ?_ h
  simp (disch := (first | assumption | omega | omega)) only [quiet_mk, quiet_fold, quiet_ite, quiet_foldl, ite_self,
    Bool.false_eq_true, if_true, if_false, State.canTxStart_quiet]

theorem execCanpBusOn_beat (n : Nat) (seqs : Nat) (t : Tai) (s : State) (z : State)
    (h : execCanpBusOn n seqs t s = .next z) : s.sameBeat z := by
  unfold execCanpBusOn at h
  refine sameBeat_of_meaning (sameBeat_at s t) ?_ h
  simp (disch := (first | assumption | omega | omega)) only [quiet_mk, quiet_fold, quiet_ite, quiet_foldl, ite_self,
    Bool.false_eq_true, if_true, if_false, State.busOn_quiet]

theorem execCanpProtoExc_beat (n : Nat) (t : Tai) (s : State) (z : State)
    (h : execCanpProtoExc n t s = .next z) : s.sameBeat z := by
  unfold execCanpProtoExc at h
  refine sameBeat_of_meaning (sameBeat_at s t) ?_ h
  simp (disch := (first | assumption | omega | (simp only [Reg.CANP_CNTk]; omega))) only [quiet_mk, quiet_fold, quiet_ite,
    quiet_foldl, ite_self, Bool.false_eq_true, if_true, if_false, State.count_quiet, State.frameBegins_quiet,
    State.raiseOnce_quiet, State.setCan_quiet]

theorem execCanpTimingApply_beat (n : Nat) (busy : Bool) (t : Tai) (s : State) (z : State)
    (h : execCanpTimingApply n busy t s = .next z) : s.sameBeat z := by
  unfold execCanpTimingApply at h
  refine sameBeat_of_meaning (sameBeat_at s t) ?_ h
  simp (disch := (first | assumption | omega | omega)) only [quiet_mk, quiet_fold, quiet_ite, quiet_foldl, ite_self,
    Bool.false_eq_true, if_true, if_false, State.timingApply_quiet]

theorem execCanpTxdTimeout_beat (n : Nat) (phase : Nat) (t : Tai) (s : State) (z : State)
    (h : execCanpTxdTimeout n phase t s = .next z) : s.sameBeat z := by
  unfold execCanpTxdTimeout at h
  refine sameBeat_of_meaning (sameBeat_at s t) ?_ h
  simp (disch := (first | assumption | omega | (simp only [Fld.CANP_ECNT_TEC, Reg.CANP_CNTk, Reg.CANP_ECNT]; omega))) only [quiet_mk, quiet_fold, quiet_ite,
    quiet_foldl, ite_self, Bool.false_eq_true, if_true, if_false, State.canError_quiet, State.count_quiet,
    State.raise_quiet]

theorem execCaptureStart_beat (u : Nat) (edge16 : Nat) (width : Nat) (withStop : Bool) (s : State) (z : State)
    (h : execCaptureStart u edge16 width withStop s = .next z) : s.sameBeat z := by
  unfold execCaptureStart at h
  refine sameBeat_of_meaning (sameBeat_at s (edge16 / 16)) ?_ h
  simp (disch := (first | assumption | omega | (simp only [Fld.TIME_CAPu_CFG_START_EDGE, Fld.TIME_CAPu_CFG_STOP_EDGE, Reg.TIME_CAPu_CFG]; omega))) only [quiet_mk, quiet_fold, quiet_ite,
    quiet_foldl, ite_self, Bool.false_eq_true, if_true, if_false, State.captureStart_quiet]

theorem execCaptureStop_beat (u : Nat) (edge16 : Nat) (width : Nat) (s : State) (z : State)
    (h : execCaptureStop u edge16 width s = .next z) : s.sameBeat z := by
  unfold execCaptureStop at h
  refine sameBeat_of_meaning (sameBeat_at s (edge16 / 16)) ?_ h
  simp (disch := (first | assumption | omega | (simp only [Fld.TIME_CAPu_CFG_STOP_EDGE, Reg.TIME_CAPu_CFG]; omega))) only [quiet_mk, quiet_fold, quiet_ite,
    quiet_foldl, ite_self, Bool.false_eq_true, if_true, if_false, State.captureStop_quiet]

theorem execCiphAlarm_beat (source : Nat) (present : Nat) (value : Int) (high : Bool) (t : Tai) (s : State) (z : State)
    (h : execCiphAlarm source present value high t s = .next z) : s.sameBeat z := by
  unfold execCiphAlarm at h
  refine sameBeat_of_meaning (sameBeat_at s t) ?_ h
  simp (disch := (first | assumption | omega | omega)) only [quiet_mk, quiet_fold, quiet_ite, quiet_foldl, ite_self,
    Bool.false_eq_true, if_true, if_false, State.alarm_quiet]

theorem execCiphAlarmClear_beat (ones : Nat) (present : Nat) (s : State) (z : State)
    (h : execCiphAlarmClear ones present s = .next z) : s.sameBeat z := by
  unfold execCiphAlarmClear at h
  refine sameBeat_of_meaning (sameBeat_begin s) ?_ h
  simp (disch := (first | assumption | omega | omega)) only [quiet_mk, quiet_fold, quiet_ite, quiet_foldl, ite_self,
    Bool.false_eq_true, if_true, if_false, State.alarmClear_quiet]

theorem execCiphKeyLow_beat (n : Nat) (t : Tai) (s : State) (z : State)
    (h : execCiphKeyLow n t s = .next z) : s.sameBeat z := by
  unfold execCiphKeyLow at h
  refine sameBeat_of_meaning (sameBeat_at s t) ?_ h
  simp (disch := (first | assumption | omega | omega)) only [quiet_mk, quiet_fold, quiet_ite, quiet_foldl, ite_self,
    Bool.false_eq_true, if_true, if_false, State.keyLow_quiet]

theorem execClaimWatchdog_beat (t : Tai) (s : State) (z : State)
    (h : execClaimWatchdog t s = .next z) : s.sameBeat z := by
  unfold execClaimWatchdog at h
  refine sameBeat_of_meaning (sameBeat_at s t) ?_ h
  simp (disch := (first | assumption | omega | omega)) only [quiet_mk, quiet_fold, quiet_ite, quiet_foldl, ite_self,
    Bool.false_eq_true, if_true, if_false, State.claimLost_quiet, State.imageRequest_quiet, State.setRole_quiet]

theorem execCmacGen_beat (mismatches : Nat) (t : Tai) (s : State) (z : State)
    (h : execCmacGen mismatches t s = .next z) : s.sameBeat z := by
  unfold execCmacGen at h
  refine sameBeat_of_meaning (sameBeat_at s t) ?_ h
  simp (disch := (first | assumption | omega | omega)) only [quiet_mk, quiet_fold, quiet_ite, quiet_foldl, ite_self,
    Bool.false_eq_true, if_true, if_false, State.jobOf_quiet]

theorem execCmacVerify_beat (mismatches : Nat) (t : Tai) (s : State) (z : State)
    (h : execCmacVerify mismatches t s = .next z) : s.sameBeat z := by
  unfold execCmacVerify at h
  refine sameBeat_of_meaning (sameBeat_at s t) ?_ h
  simp (disch := (first | assumption | omega | omega)) only [quiet_mk, quiet_fold, quiet_ite, quiet_foldl, ite_self,
    Bool.false_eq_true, if_true, if_false, State.jobOf_quiet]

theorem execCommitValidationDone_beat (t : Tai) (s : State) (z : State)
    (h : execCommitValidationDone t s = .next z) : s.sameBeat z := by
  unfold execCommitValidationDone at h
  refine sameBeat_of_meaning (sameBeat_at s t) ?_ h
  simp (disch := (first | assumption | omega | omega)) only [quiet_mk, quiet_fold, quiet_ite, quiet_foldl, ite_self,
    Bool.false_eq_true, if_true, if_false, State.commitValidated_quiet]

theorem execCtr_beat (mismatches : Nat) (t : Tai) (s : State) (z : State)
    (h : execCtr mismatches t s = .next z) : s.sameBeat z := by
  unfold execCtr at h
  refine sameBeat_of_meaning (sameBeat_at s t) ?_ h
  simp (disch := (first | assumption | omega | omega)) only [quiet_mk, quiet_fold, quiet_ite, quiet_foldl, ite_self,
    Bool.false_eq_true, if_true, if_false, State.jobOf_quiet]

theorem execDelayReqInterval_beat (p : Nat) (egress16 : Nat) (resp : Option (Nat × Nat × Int × Nat)) (t : Tai) (s : State) (z : State)
    (h : execDelayReqInterval p egress16 resp t s = .next z) : s.sameBeat z := by
  unfold execDelayReqInterval at h
  refine sameBeat_of_meaning (sameBeat_at s t) ?_ h
  dsimp only
  (repeat' split) <;> first | with_reducible rfl | simp (disch := (first | assumption | omega | (simp only [Fld.TIME_PORTp_LOG_DELAY, Fld.TIME_PORTp_P2P, Reg.TIME_PORTp]; omega))) only [quiet_mk, quiet_fold, quiet_ite,
    quiet_foldl, ite_self, Bool.false_eq_true, if_true, if_false, State.ptpSend_quiet]

theorem execDomainActivityWake_beat (uart : Bool) (i : Nat) (t : Tai) (s : State) (z : State)
    (h : execDomainActivityWake uart i t s = .next z) : s.sameBeat z := by
  unfold execDomainActivityWake at h
  refine sameBeat_of_meaning (sameBeat_at s t) ?_ h
  simp (disch := (first | assumption | omega | (simp only [Fld.PWR_STATUS_BRACE, Fld.PWR_WAKE_SRC_T1S_ACT, Fld.PWR_WAKE_SRC_UART_EDGE, Reg.PWR_STATUS, Reg.PWR_WAKE_SRC]; omega))) only [quiet_mk, quiet_fold, quiet_ite,
    quiet_foldl, ite_self, Bool.false_eq_true, if_true, if_false, State.requestWake_quiet]

theorem execDomainClose_beat (d : Nat) (t : Tai) (s : State) (z : State)
    (h : execDomainClose d t s = .next z) : s.sameBeat z := by
  unfold execDomainClose at h
  refine sameBeat_of_meaning (sameBeat_at s t) ?_ h
  (repeat' split) <;> first | with_reducible rfl | simp (disch := (first | assumption | omega | omega)) only [quiet_mk, quiet_fold, quiet_ite,
    quiet_foldl, ite_self, Bool.false_eq_true, if_true, if_false, State.domainClose_quiet]

theorem execDomainDrainEnd_beat (d : Nat) (t : Tai) (s : State) (z : State)
    (h : execDomainDrainEnd d t s = .next z) : s.sameBeat z := by
  unfold execDomainDrainEnd at h
  refine sameBeat_of_meaning (sameBeat_at s t) ?_ h
  dsimp only
  refine quiet_if ?_ rfl
  have h1 : ∀ x : State, ((x.setDomain d 4 (x.get (Fld.PWR_Dd_STAT_REASON d))).sweep d).quiet = x.quiet := fun x =>
    (State.sweep_quiet _ _).trans (State.setDomain_quiet _ _ _ _ _)
  exact quiet_if ((quiet_foldl _ (fun _ _ => State.serClose_quiet _ _ _ _) _ _).trans (h1 _)) (h1 _)

theorem execDomainIdleClose_beat (d : Nat) (t : Tai) (s : State) (z : State)
    (h : execDomainIdleClose d t s = .next z) : s.sameBeat z := by
  unfold execDomainIdleClose at h
  refine sameBeat_of_meaning (sameBeat_at s t) ?_ h
  simp (disch := (first | assumption | omega | (simp only [Fld.PWR_Dd_CFG_IDLE_BEATS, Reg.PWR_Dd_CFG]; omega))) only [quiet_mk, quiet_fold, quiet_ite,
    quiet_foldl, ite_self, Bool.false_eq_true, if_true, if_false, State.domainClose_quiet]

theorem execDomainMusterWake_beat (d : Nat) (t : Tai) (s : State) (z : State)
    (h : execDomainMusterWake d t s = .next z) : s.sameBeat z := by
  unfold execDomainMusterWake at h
  refine sameBeat_of_meaning (sameBeat_at s t) ?_ h
  simp (disch := (first | assumption | omega | (simp only [Fld.PWR_STATUS_BRACE, Reg.PWR_STATUS]; omega))) only [quiet_mk, quiet_fold, quiet_ite,
    quiet_foldl, ite_self, Bool.false_eq_true, if_true, if_false, State.domainWaking_quiet, State.requestWake_quiet]

theorem execDomainWake_beat (d : Nat) (t : Tai) (s : State) (z : State)
    (h : execDomainWake d t s = .next z) : s.sameBeat z := by
  unfold execDomainWake at h
  refine sameBeat_of_meaning (sameBeat_at s t) ?_ h
  simp (disch := (first | assumption | omega | (simp only [Fld.PWR_STATUS_BRACE, Reg.PWR_STATUS]; omega))) only [quiet_mk, quiet_fold, quiet_ite,
    quiet_foldl, ite_self, Bool.false_eq_true, if_true, if_false, State.domainWaking_quiet]

theorem execEthFrameReceived_beat (port : Nat) (data : Bytes) (edge16 : Nat) (fcsOk : Bool) (unsupported : Bool) (bad : List (Nat × Nat)) (t : Tai) (s : State) (z : State)
    (h : execEthFrameReceived port data edge16 fcsOk unsupported bad t s = .next z) : s.sameBeat z := by
  unfold execEthFrameReceived at h
  refine sameBeat_of_meaning (sameBeat_at s t) ?_ h
  simp (disch := (first | assumption | omega | omega)) only [quiet_mk, quiet_fold, quiet_ite, quiet_foldl, ite_self,
    Bool.false_eq_true, if_true, if_false, State.ethReceived_quiet]

theorem execEthLinkDown_beat (q : Nat) (cause : Nat) (lost : Bool) (t : Tai) (s : State) (z : State)
    (h : execEthLinkDown q cause lost t s = .next z) : s.sameBeat z := by
  unfold execEthLinkDown at h
  refine sameBeat_of_meaning (sameBeat_at s t) ?_ h
  simp (disch := (first | assumption | omega | omega)) only [quiet_mk, quiet_fold, quiet_ite, quiet_foldl, ite_self,
    Bool.false_eq_true, if_true, if_false, State.linkDown_quiet]

theorem execEthLinkUp_beat (q : Nat) (anDone : Bool) (hiBer : Bool) (fecLock : Bool) (half : Bool) (speed : Nat) (lost : Bool) (t : Tai) (s : State) (z : State)
    (h : execEthLinkUp q anDone hiBer fecLock half speed lost t s = .next z) : s.sameBeat z := by
  unfold execEthLinkUp at h
  refine sameBeat_of_meaning (sameBeat_at s t) ?_ h
  simp (disch := (first | assumption | omega | (simp only [Fld.ETH_Pq_MODE_FEC, Fld.ETH_Pq_MODE_PCS, Fld.ETH_Pq_STATUS_AN_DONE, Fld.ETH_Pq_STATUS_FEC_LOCK, Fld.ETH_Pq_STATUS_HALF, Fld.ETH_Pq_STATUS_HI_BER, Fld.ETH_Pq_STATUS_SPEED, Reg.ETH_Pq_MODE, Reg.ETH_Pq_STATUS]; omega))) only [quiet_mk, quiet_fold, quiet_ite,
    quiet_foldl, ite_self, Bool.false_eq_true, if_true, if_false, State.put_quiet, State.raise_quiet,
    State.setEthState_quiet]

theorem execEthTxComplete_beat (port : Nat) (edge16 : Nat) (mv : Nat) (t : Tai) (s : State) (z : State)
    (h : execEthTxComplete port edge16 mv t s = .next z) : s.sameBeat z := by
  unfold execEthTxComplete at h
  refine sameBeat_of_meaning (sameBeat_at s t) ?_ h
  simp (disch := (first | assumption | omega | omega)) only [quiet_mk, quiet_fold, quiet_ite, quiet_foldl, ite_self,
    Bool.false_eq_true, if_true, if_false, State.ethTxDone_quiet, State.shrAmplitude_quiet]

theorem execEthTxStart_beat (port : Nat) (fault : Bool) (t : Tai) (s : State) (z : State)
    (h : execEthTxStart port fault t s = .next z) : s.sameBeat z := by
  unfold execEthTxStart at h
  refine sameBeat_of_meaning (sameBeat_at s t) ?_ h
  simp (disch := (first | assumption | omega | omega)) only [quiet_mk, quiet_fold, quiet_ite, quiet_foldl, ite_self,
    Bool.false_eq_true, if_true, if_false, State.ethTxStart_quiet]

theorem execFabCommitApplied_beat (t : Tai) (s : State) (z : State)
    (h : execFabCommitApplied t s = .next z) : s.sameBeat z := by
  unfold execFabCommitApplied at h
  refine sameBeat_of_meaning (sameBeat_at s t) ?_ h
  simp (disch := (first | assumption | omega | omega)) only [quiet_mk, quiet_fold, quiet_ite, quiet_foldl, ite_self,
    Bool.false_eq_true, if_true, if_false, State.commitApply_quiet]

theorem execFabRaRearmed_beat (route : Nat) (t : Tai) (s : State) (z : State)
    (h : execFabRaRearmed route t s = .next z) : s.sameBeat z := by
  unfold execFabRaRearmed at h
  refine sameBeat_of_meaning (sameBeat_at s t) ?_ h
  simp (disch := (first | assumption | omega | omega)) only [quiet_mk, quiet_fold, quiet_ite, quiet_foldl, ite_self,
    Bool.false_eq_true, if_true, if_false, State.raRearm_quiet]

theorem execFenceEvidenceTimeout_beat (t : Tai) (s : State) (z : State)
    (h : execFenceEvidenceTimeout t s = .next z) : s.sameBeat z := by
  unfold execFenceEvidenceTimeout at h
  refine sameBeat_of_meaning (sameBeat_at s t) ?_ h
  simp (disch := (first | assumption | omega | omega)) only [quiet_mk, quiet_fold, quiet_ite, quiet_foldl, ite_self,
    Bool.false_eq_true, if_true, if_false, State.fenceTimeout_quiet]

theorem execFunctionLevelReset_beat (t : Tai) (s : State) (z : State)
    (h : execFunctionLevelReset t s = .next z) : s.sameBeat z := by
  unfold execFunctionLevelReset at h
  refine sameBeat_of_meaning (sameBeat_at s t) ?_ h
  simp (disch := (first | assumption | omega | omega)) only [quiet_mk, quiet_fold, quiet_ite, quiet_foldl, ite_self,
    Bool.false_eq_true, if_true, if_false, State.hifReset_quiet]

theorem execFvWriteApply_beat (t : Tai) (s : State) (z : State)
    (h : execFvWriteApply t s = .next z) : s.sameBeat z := by
  unfold execFvWriteApply at h
  refine sameBeat_of_meaning (sameBeat_at s t) ?_ h
  simp (disch := (first | assumption | omega | omega)) only [quiet_mk, quiet_fold, quiet_ite, quiet_foldl, ite_self,
    Bool.false_eq_true, if_true, if_false, State.fvApply_quiet]

theorem execGcmDec_beat (mismatches : Nat) (t : Tai) (s : State) (z : State)
    (h : execGcmDec mismatches t s = .next z) : s.sameBeat z := by
  unfold execGcmDec at h
  refine sameBeat_of_meaning (sameBeat_at s t) ?_ h
  simp (disch := (first | assumption | omega | omega)) only [quiet_mk, quiet_fold, quiet_ite, quiet_foldl, ite_self,
    Bool.false_eq_true, if_true, if_false, State.jobOf_quiet]

theorem execGcmEnc_beat (mismatches : Nat) (t : Tai) (s : State) (z : State)
    (h : execGcmEnc mismatches t s = .next z) : s.sameBeat z := by
  unfold execGcmEnc at h
  refine sameBeat_of_meaning (sameBeat_at s t) ?_ h
  simp (disch := (first | assumption | omega | omega)) only [quiet_mk, quiet_fold, quiet_ite, quiet_foldl, ite_self,
    Bool.false_eq_true, if_true, if_false, State.jobOf_quiet]

theorem execHalyardCrcError_beat (t : Tai) (s : State) (z : State)
    (h : execHalyardCrcError t s = .next z) : s.sameBeat z := by
  unfold execHalyardCrcError at h
  refine sameBeat_of_meaning (sameBeat_at s t) ?_ h
  simp (disch := (first | assumption | omega | (simp only [Reg.HAL_CNTk]; omega))) only [quiet_mk, quiet_fold, quiet_ite,
    quiet_foldl, ite_self, Bool.false_eq_true, if_true, if_false, State.count_quiet]

theorem execHalyardDelta_beat (frame : Bytes) (t : Tai) (s : State) (z : State)
    (h : execHalyardDelta frame t s = .next z) : s.sameBeat z := by
  unfold execHalyardDelta at h
  refine sameBeat_of_meaning (sameBeat_at s t) ?_ h
  exact State.halFrame_quiet _ _ _ _ State.deltaFrame_quiet

theorem execHalyardHeartbeat_beat (frame : Bytes) (t : Tai) (s : State) (z : State)
    (h : execHalyardHeartbeat frame t s = .next z) : s.sameBeat z := by
  unfold execHalyardHeartbeat at h
  refine sameBeat_of_meaning (sameBeat_at s t) ?_ h
  exact State.halFrame_quiet _ _ _ _ State.heartbeat_quiet

theorem execHalyardImage_beat (frame : Bytes) (t : Tai) (s : State) (z : State)
    (h : execHalyardImage frame t s = .next z) : s.sameBeat z := by
  unfold execHalyardImage at h
  refine sameBeat_of_meaning (sameBeat_at s t) ?_ h
  exact State.halFrame_quiet _ _ _ _ State.imageFrame_quiet

theorem execHalyardImageReq_beat (frame : Bytes) (t : Tai) (s : State) (z : State)
    (h : execHalyardImageReq frame t s = .next z) : s.sameBeat z := by
  unfold execHalyardImageReq at h
  refine sameBeat_of_meaning (sameBeat_at s t) ?_ h
  exact State.halFrame_quiet _ _ _ _ fun x _ => quiet_if (State.sendImage_quiet x) rfl

theorem execHalyardMarker_beat (frame : Bytes) (t : Tai) (s : State) (z : State)
    (h : execHalyardMarker frame t s = .next z) : s.sameBeat z := by
  unfold execHalyardMarker at h
  refine sameBeat_of_meaning (sameBeat_at s t) ?_ h
  exact State.halFrame_quiet _ _ _ _ fun x f => State.markers_quiet 64 f.payload x

theorem execHostInterfaceDisable_beat (t : Tai) (s : State) (z : State)
    (h : execHostInterfaceDisable t s = .next z) : s.sameBeat z := by
  unfold execHostInterfaceDisable at h
  refine sameBeat_of_meaning (sameBeat_at s t) ?_ h
  simp (disch := (first | assumption | omega | (simp only [Fld.HIF_CTRL_EN, Reg.HIF_CTRL]; omega))) only [quiet_mk, quiet_fold, quiet_ite,
    quiet_foldl, ite_self, Bool.false_eq_true, if_true, if_false, State.putBoth_quiet, State.setRunning_quiet]

theorem execHostInterfaceEnable_beat (t : Tai) (s : State) (z : State)
    (h : execHostInterfaceEnable t s = .next z) : s.sameBeat z := by
  unfold execHostInterfaceEnable at h
  refine sameBeat_of_meaning (sameBeat_at s t) ?_ h
  simp (disch := (first | assumption | omega | (simp only [Fld.HIF_CTRL_EN, Reg.HIF_CTRL]; omega))) only [quiet_mk, quiet_fold, quiet_ite,
    quiet_foldl, ite_self, Bool.false_eq_true, if_true, if_false, State.hifEnable_quiet, State.putBoth_quiet]

theorem execHostSnapshotLatch_beat (t : Tai) (s : State) (z : State)
    (h : execHostSnapshotLatch t s = .next z) : s.sameBeat z := by
  unfold execHostSnapshotLatch at h
  refine sameBeat_of_meaning (sameBeat_at s t) ?_ h
  simp (disch := (first | assumption | omega | (simp only [Fld.BEAT_STATUS_SLOT_CUR, Reg.BEAT_STATUS]; omega))) only [quiet_mk, quiet_fold, quiet_ite,
    quiet_foldl, ite_self, Bool.false_eq_true, if_true, if_false, State.snapLatch_quiet, State.snapWrite_quiet]

theorem execIcmpEcho_beat (src : Nat) (dst : Nat) (body : Bytes) (t : Tai) (s : State) (z : State)
    (h : execIcmpEcho src dst body t s = .next z) : s.sameBeat z := by
  unfold execIcmpEcho at h
  refine sameBeat_of_meaning (sameBeat_at s t) ?_ h
  simp (disch := (first | assumption | omega | omega)) only [quiet_mk, quiet_fold, quiet_ite, quiet_foldl, ite_self,
    Bool.false_eq_true, if_true, if_false, State.echoReply_quiet]

theorem execIcmpv6Echo_beat (src : Nat) (dst : Nat) (body : Bytes) (t : Tai) (s : State) (z : State)
    (h : execIcmpv6Echo src dst body t s = .next z) : s.sameBeat z := by
  unfold execIcmpv6Echo at h
  refine sameBeat_of_meaning (sameBeat_at s t) ?_ h
  simp (disch := (first | assumption | omega | omega)) only [quiet_mk, quiet_fold, quiet_ite, quiet_foldl, ite_self,
    Bool.false_eq_true, if_true, if_false, State.echo6Reply_quiet]

theorem execJournalEntryProgram_beat (pulses : Nat) (bad : Bool) (t : Tai) (s : State) (z : State)
    (h : execJournalEntryProgram pulses bad t s = .next z) : s.sameBeat z := by
  unfold execJournalEntryProgram at h
  refine sameBeat_of_meaning (sameBeat_at s t) ?_ h
  simp (disch := (first | assumption | omega | omega)) only [quiet_mk, quiet_fold, quiet_ite, quiet_foldl, ite_self,
    Bool.false_eq_true, if_true, if_false, State.programEntry_quiet]

theorem execJournalSectorErase_beat (fail : Bool) (t : Tai) (s : State) (z : State)
    (h : execJournalSectorErase fail t s = .next z) : s.sameBeat z := by
  unfold execJournalSectorErase at h
  refine sameBeat_of_meaning (sameBeat_at s t) ?_ h
  simp (disch := (first | assumption | omega | omega)) only [quiet_mk, quiet_fold, quiet_ite, quiet_foldl, ite_self,
    Bool.false_eq_true, if_true, if_false, State.eraseAhead_quiet]

theorem execKeyBackingEraseDone_beat (wear : List SectorWear) (t : Tai) (s : State) (z : State)
    (h : execKeyBackingEraseDone wear t s = .next z) : s.sameBeat z := by
  unfold execKeyBackingEraseDone at h
  refine sameBeat_of_meaning (sameBeat_at s t) ?_ h
  refine quiet_if ?_ rfl
  exact (quiet_foldl (fun (s : State) w => s.wearBy 3 w) (fun _ _ => State.wearBy_quiet _ _ _) _ _).trans
    (by simp only [quiet_mk, quiet_fold])

theorem execKeyLimitReached_beat (n : Nat) (t : Tai) (s : State) (z : State)
    (h : execKeyLimitReached n t s = .next z) : s.sameBeat z := by
  unfold execKeyLimitReached at h
  refine sameBeat_of_meaning (sameBeat_at s t) ?_ h
  simp (disch := (first | assumption | omega | omega)) only [quiet_mk, quiet_fold, quiet_ite, quiet_foldl, ite_self,
    Bool.false_eq_true, if_true, if_false, State.keyLimitReached_quiet]

theorem execKeyLoadLive_beat (t : Tai) (s : State) (z : State)
    (h : execKeyLoadLive t s = .next z) : s.sameBeat z := by
  unfold execKeyLoadLive at h
  refine sameBeat_of_meaning (sameBeat_at s t) ?_ h
  simp (disch := (first | assumption | omega | omega)) only [quiet_mk, quiet_fold, quiet_ite, quiet_foldl, ite_self,
    Bool.false_eq_true, if_true, if_false, State.loadsLive_quiet]

theorem execKeyRetireApply_beat (n : Nat) (t : Tai) (s : State) (z : State)
    (h : execKeyRetireApply n t s = .next z) : s.sameBeat z := by
  unfold execKeyRetireApply at h
  refine sameBeat_of_meaning (sameBeat_at s t) ?_ h
  simp (disch := (first | assumption | omega | omega)) only [quiet_mk, quiet_fold, quiet_ite, quiet_foldl, ite_self,
    Bool.false_eq_true, if_true, if_false, State.retireApply_quiet]

theorem execMainGood_beat (t : Tai) (s : State) (z : State)
    (h : execMainGood t s = .next z) : s.sameBeat z := by
  unfold execMainGood at h
  refine sameBeat_of_meaning (sameBeat_at s t) ?_ h
  simp (disch := (first | assumption | omega | (simp only [Fld.PWR_STATUS_MAIN_OK, Reg.PWR_STATUS]; omega))) only [quiet_mk, quiet_fold, quiet_ite,
    quiet_foldl, ite_self, Bool.false_eq_true, if_true, if_false, State.put_quiet]

theorem execMainNotGood_beat (t : Tai) (s : State) (z : State)
    (h : execMainNotGood t s = .next z) : s.sameBeat z := by
  unfold execMainNotGood at h
  refine sameBeat_of_meaning (sameBeat_at s t) ?_ h
  simp (disch := (first | assumption | omega | (simp only [Fld.PWR_STATUS_MAIN_OK, Reg.PWR_CNTk, Reg.PWR_STATUS]; omega))) only [quiet_mk, quiet_fold, quiet_ite,
    quiet_foldl, ite_self, Bool.false_eq_true, if_true, if_false, State.count_quiet, State.put_quiet]

theorem execMdioDone_beat (data : Nat) (t : Tai) (s : State) (z : State)
    (h : execMdioDone data t s = .next z) : s.sameBeat z := by
  unfold execMdioDone at h
  refine sameBeat_of_meaning (sameBeat_at s t) ?_ h
  (repeat' split) <;> first | with_reducible rfl | simp (disch := (first | assumption | omega | (simp only [Fld.ETH_MDIO_CMD_BUSY, Fld.ETH_MDIO_DATA_DATA, Reg.ETH_MDIO_CMD, Reg.ETH_MDIO_DATA]; omega))) only [quiet_mk, quiet_fold, quiet_ite,
    quiet_foldl, ite_self, Bool.false_eq_true, if_true, if_false, State.put_quiet]

theorem execMsixCoalescingTimer_beat (tx : Bool) (ring : Nat) (s : State) (z : State)
    (h : execMsixCoalescingTimer tx ring s = .next z) : s.sameBeat z := by
  unfold execMsixCoalescingTimer at h
  refine sameBeat_of_meaning (sameBeat_begin s) ?_ h
  simp (disch := (first | assumption | omega | (simp only [Fld.HIF_RXn_IRQ_BEATS, Fld.HIF_TXn_IRQ_BEATS, Reg.HIF_RXn_IRQ, Reg.HIF_TXn_IRQ]; omega))) only [quiet_mk, quiet_fold, quiet_ite,
    quiet_foldl, ite_self, Bool.false_eq_true, if_true, if_false, State.setRxRing_quiet, State.setTxRing_quiet]

theorem execMsixUnmask_beat (v : Nat) (s : State) (z : State)
    (h : execMsixUnmask v s = .next z) : s.sameBeat z := by
  unfold execMsixUnmask at h
  refine sameBeat_of_meaning (sameBeat_begin s) ?_ h
  simp (disch := (first | assumption | omega | omega)) only [quiet_mk, quiet_fold, quiet_ite, quiet_foldl, ite_self,
    Bool.false_eq_true, if_true, if_false, State.unmask_quiet]

theorem execMusterPreWake_beat (n : Nat) (t : Tai) (s : State) (z : State)
    (h : execMusterPreWake n t s = .next z) : s.sameBeat z := by
  unfold execMusterPreWake at h
  refine sameBeat_of_meaning (sameBeat_at s t) ?_ h
  simp (disch := (first | assumption | omega | omega)) only [quiet_mk, quiet_fold, quiet_ite, quiet_foldl, ite_self,
    Bool.false_eq_true, if_true, if_false, State.reefWake_quiet]

theorem execMusterSpanEnd_beat (m : Nat) (t : Tai) (s : State) (z : State)
    (h : execMusterSpanEnd m t s = .next z) : s.sameBeat z := by
  unfold execMusterSpanEnd at h
  refine sameBeat_of_meaning (sameBeat_at s t) ?_ h
  simp (disch := (first | assumption | omega | omega)) only [quiet_mk, quiet_fold, quiet_ite, quiet_foldl, ite_self,
    Bool.false_eq_true, if_true, if_false, State.musterSettle_quiet]

theorem execNeighbourDiscovery_beat (src : Nat) (target : Nat) (t : Tai) (s : State) (z : State)
    (h : execNeighbourDiscovery src target t s = .next z) : s.sameBeat z := by
  unfold execNeighbourDiscovery at h
  refine sameBeat_of_meaning (sameBeat_at s t) ?_ h
  simp (disch := (first | assumption | omega | omega)) only [quiet_mk, quiet_fold, quiet_ite, quiet_foldl, ite_self,
    Bool.false_eq_true, if_true, if_false, State.neighbourReply_quiet]

theorem execNestCommitApply_beat (t : Tai) (s : State) (z : State)
    (h : execNestCommitApply t s = .next z) : s.sameBeat z := by
  unfold execNestCommitApply at h
  refine sameBeat_of_meaning (sameBeat_at s t) ?_ h
  simp (disch := (first | assumption | omega | omega)) only [quiet_mk, quiet_fold, quiet_ite, quiet_foldl, ite_self,
    Bool.false_eq_true, if_true, if_false, State.nestCommitApply_quiet]

theorem execNestFrameEnd_beat (i : Nat) (lines : List NestLine) (c : CsiCounts) (t : Tai) (s : State) (z : State)
    (h : execNestFrameEnd i lines c t s = .next z) : s.sameBeat z := by
  unfold execNestFrameEnd at h
  refine sameBeat_of_meaning (sameBeat_at s t) ?_ h
  simp (disch := (first | assumption | omega | omega)) only [quiet_mk, quiet_fold, quiet_ite, quiet_foldl, ite_self,
    Bool.false_eq_true, if_true, if_false, State.nestEnd_quiet, State.trayDrain_quiet]

theorem execNestFrameStart_beat (i : Nat) (number : Nat) (c : CsiCounts) (t : Tai) (s : State) (z : State)
    (h : execNestFrameStart i number c t s = .next z) : s.sameBeat z := by
  unfold execNestFrameStart at h
  refine sameBeat_of_meaning (sameBeat_at s t) ?_ h
  simp (disch := (first | assumption | omega | omega)) only [quiet_mk, quiet_fold, quiet_ite, quiet_foldl, ite_self,
    Bool.false_eq_true, if_true, if_false, State.nestStart_quiet]

theorem execNestTrayIdentity_beat (t : Tai) (s : State) (z : State)
    (h : execNestTrayIdentity t s = .next z) : s.sameBeat z := by
  unfold execNestTrayIdentity at h
  refine sameBeat_of_meaning (sameBeat_at s t) ?_ h
  simp (disch := (first | assumption | omega | omega)) only [quiet_mk, quiet_fold, quiet_ite, quiet_foldl, ite_self,
    Bool.false_eq_true, if_true, if_false, State.trayIdentity_quiet]

theorem execNotify_beat (t : Tai) (s : State) (z : State)
    (h : execNotify t s = .next z) : s.sameBeat z := by
  unfold execNotify at h
  refine sameBeat_of_meaning (sameBeat_at s t) ?_ h
  simp (disch := (first | assumption | omega | omega)) only [quiet_mk, quiet_fold, quiet_ite, quiet_foldl, ite_self,
    Bool.false_eq_true, if_true, if_false, State.notify_quiet]

theorem execNvmCfgSaved_beat (ok : Bool) (wear : List SectorWear) (t : Tai) (s : State) (z : State)
    (h : execNvmCfgSaved ok wear t s = .next z) : s.sameBeat z := by
  unfold execNvmCfgSaved at h
  refine sameBeat_of_meaning (sameBeat_at s t) ?_ h
  split
  · rename_i b _ _
    exact (State.saveEnd_quiet _ _).trans
      (quiet_foldl (fun (s : State) w => s.wearBy (1 + b) w) (fun _ _ => State.wearBy_quiet _ _ _) _ _)
  · rfl

theorem execPairSwap_beat (n : Nat) (t : Tai) (s : State) (z : State)
    (h : execPairSwap n t s = .next z) : s.sameBeat z := by
  unfold execPairSwap at h
  refine sameBeat_of_meaning (sameBeat_at s t) ?_ h
  simp (disch := (first | assumption | omega | (simp only [Fld.SHR_CANn_CFG_SWAP_EN, Fld.SHR_CANn_STAT_SWAPPED, Reg.SHR_CANn_CFG, Reg.SHR_CANn_STAT]; omega))) only [quiet_mk, quiet_fold, quiet_ite,
    quiet_foldl, ite_self, Bool.false_eq_true, if_true, if_false, State.put_quiet, State.setShr_quiet]

theorem execPcieLinkDown_beat (t : Tai) (s : State) (z : State)
    (h : execPcieLinkDown t s = .next z) : s.sameBeat z := by
  unfold execPcieLinkDown at h
  refine sameBeat_of_meaning (sameBeat_at s t) ?_ h
  simp (disch := (first | assumption | omega | (simp only [Fld.HIF_STATUS_LINK_UP, Reg.HIF_STATUS]; omega))) only [quiet_mk, quiet_fold, quiet_ite,
    quiet_foldl, ite_self, Bool.false_eq_true, if_true, if_false, State.put_quiet]

theorem execPcieLinkUp_beat (t : Tai) (s : State) (z : State)
    (h : execPcieLinkUp t s = .next z) : s.sameBeat z := by
  unfold execPcieLinkUp at h
  refine sameBeat_of_meaning (sameBeat_at s t) ?_ h
  simp (disch := (first | assumption | omega | (simp only [Fld.HIF_STATUS_LINK_UP, Reg.HIF_STATUS]; omega))) only [quiet_mk, quiet_fold, quiet_ite,
    quiet_foldl, ite_self, Bool.false_eq_true, if_true, if_false, State.put_quiet]

theorem execPerstReset_beat (t : Tai) (s : State) (z : State)
    (h : execPerstReset t s = .next z) : s.sameBeat z := by
  unfold execPerstReset at h
  refine sameBeat_of_meaning (sameBeat_at s t) ?_ h
  simp (disch := (first | assumption | omega | omega)) only [quiet_mk, quiet_fold, quiet_ite, quiet_foldl, ite_self,
    Bool.false_eq_true, if_true, if_false, State.perst_quiet]

theorem execPlcaBeacon_beat (k : Nat) (mv : Nat) (t : Tai) (s : State) (z : State)
    (h : execPlcaBeacon k mv t s = .next z) : s.sameBeat z := by
  unfold execPlcaBeacon at h
  refine sameBeat_of_meaning (sameBeat_at s t) ?_ h
  simp (disch := (first | assumption | omega | omega)) only [quiet_mk, quiet_fold, quiet_ite, quiet_foldl, ite_self,
    Bool.false_eq_true, if_true, if_false, State.emit_quiet, State.showBeaconing_quiet, State.shrAmplitude_quiet]

theorem execPlcaBeaconReceived_beat (k : Nat) (t : Tai) (s : State) (z : State)
    (h : execPlcaBeaconReceived k t s = .next z) : s.sameBeat z := by
  unfold execPlcaBeaconReceived at h
  refine sameBeat_of_meaning (sameBeat_at s t) ?_ h
  simp (disch := (first | assumption | omega | (simp only [Fld.HAL_EVID_T1S, Reg.HAL_EVID, Reg.T1S_Ss_CNTk]; omega))) only [quiet_mk, quiet_fold, quiet_ite,
    quiet_foldl, ite_self, Bool.false_eq_true, if_true, if_false, State.count_quiet, State.partnerEvidence_quiet,
    State.raiseOnce_quiet]

theorem execPtpDelayRequest_beat (p : Nat) (edge16 : Nat) (t : Tai) (s : State) (z : State)
    (h : execPtpDelayRequest p edge16 t s = .next z) : s.sameBeat z := by
  unfold execPtpDelayRequest at h
  refine sameBeat_of_meaning (sameBeat_at s t) ?_ h
  simp (disch := (first | assumption | omega | (simp only [Fld.TIME_PORTp_P2P, Reg.TIME_PORTp]; omega))) only [quiet_mk, quiet_fold, quiet_ite,
    quiet_foldl, ite_self, Bool.false_eq_true, if_true, if_false, State.ptpSend_quiet]

theorem execPwrBraceAborted_beat (t : Tai) (s : State) (z : State)
    (h : execPwrBraceAborted t s = .next z) : s.sameBeat z := by
  unfold execPwrBraceAborted at h
  refine sameBeat_of_meaning (sameBeat_at s t) ?_ h
  simp (disch := (first | assumption | omega | (simp only [Reg.PWR_CNTk]; omega))) only [quiet_mk, quiet_fold, quiet_ite,
    quiet_foldl, ite_self, Bool.false_eq_true, if_true, if_false, State.count_quiet, State.enterRestore_quiet,
    State.raise_quiet]

theorem execPwrBraceCommit_beat (progs : List (Nat × Bool)) (t : Tai) (s : State) (z : State)
    (h : execPwrBraceCommit progs t s = .next z) : s.sameBeat z := by
  unfold execPwrBraceCommit at h
  refine sameBeat_of_meaning (sameBeat_at s t) ?_ h
  simp (disch := (first | assumption | omega | (simp only [Fld.PWR_STATUS_PATH_BKUP, Reg.PWR_STATUS]; omega))) only [quiet_mk, quiet_fold, quiet_ite,
    quiet_foldl, ite_self, Bool.false_eq_true, if_true, if_false, State.commitJournal_quiet, State.put_quiet,
    State.raise_quiet, State.setBrace_quiet]

theorem execRailReturn_beat (vsds : Bool) (t : Tai) (s : State) (z : State)
    (h : execRailReturn vsds t s = .next z) : s.sameBeat z := by
  unfold execRailReturn at h
  refine sameBeat_of_meaning (sameBeat_at s t) ?_ h
  simp (disch := (first | assumption | omega | omega)) only [quiet_mk, quiet_fold, quiet_ite, quiet_foldl, ite_self,
    Bool.false_eq_true, if_true, if_false, State.railReturn_quiet]

theorem execReefCommitApply_beat (t : Tai) (s : State) (z : State)
    (h : execReefCommitApply t s = .next z) : s.sameBeat z := by
  unfold execReefCommitApply at h
  refine sameBeat_of_meaning (sameBeat_at s t) ?_ h
  simp (disch := (first | assumption | omega | omega)) only [quiet_mk, quiet_fold, quiet_ite, quiet_foldl, ite_self,
    Bool.false_eq_true, if_true, if_false, State.reefCommitApply_quiet]

theorem execReefDecWake_beat (n : Nat) (t : Tai) (s : State) (z : State)
    (h : execReefDecWake n t s = .next z) : s.sameBeat z := by
  unfold execReefDecWake at h
  refine sameBeat_of_meaning (sameBeat_at s t) ?_ h
  simp (disch := (first | assumption | omega | (simp only [Fld.REEF_PORTn_CFG_DEC_WAKE_EN, Fld.REEF_PORTn_CFG_WAKE_MODE, Reg.REEF_CNTn_k, Reg.REEF_PORTn_CFG]; omega))) only [quiet_mk, quiet_fold, quiet_ite,
    quiet_foldl, ite_self, Bool.false_eq_true, if_true, if_false, State.raise_quiet, State.reefWake_quiet]

theorem execReefInsomnia_beat (n : Nat) (t : Tai) (s : State) (z : State)
    (h : execReefInsomnia n t s = .next z) : s.sameBeat z := by
  unfold execReefInsomnia at h
  refine sameBeat_of_meaning (sameBeat_at s t) ?_ h
  simp (disch := (first | assumption | omega | (simp only [Fld.REEF_KPn_i_INFO_COUNT, Fld.REEF_PORTn_INSOM_INSOMNIA_S, Reg.REEF_KPn_i_INFO, Reg.REEF_KPn_i_KEY, Reg.REEF_PORTn_INSOM]; omega))) only [quiet_mk, quiet_fold, quiet_ite,
    quiet_foldl, ite_self, Bool.false_eq_true, if_true, if_false, State.log_quiet, State.raise_quiet, State.setReef_quiet]

theorem execReefSleep_beat (n : Nat) (busy : Bool) (t : Tai) (s : State) (z : State)
    (h : execReefSleep n busy t s = .next z) : s.sameBeat z := by
  unfold execReefSleep at h
  refine sameBeat_of_meaning (sameBeat_at s t) ?_ h
  simp (disch := (first | assumption | omega | (simp only [Reg.REEF_CNTn_k]; omega))) only [quiet_mk, quiet_fold, quiet_ite,
    quiet_foldl, ite_self, Bool.false_eq_true, if_true, if_false, State.count_quiet, State.setCanState_quiet,
    State.setDom_quiet, State.setReef_quiet, State.setReefState_quiet]

theorem execReefTxWake_beat (n : Nat) (bad : List (Nat × Nat)) (t : Tai) (s : State) (z : State)
    (h : execReefTxWake n bad t s = .next z) : s.sameBeat z := by
  unfold execReefTxWake at h
  refine sameBeat_of_meaning (sameBeat_at s t) ?_ h
  simp (disch := (first | assumption | omega | (simp only [Fld.REEF_PORTn_TXWAKE_MODE, Fld.REEF_PORTn_TXWAKE_PHASE_US, Reg.REEF_PORTn_TXWAKE]; omega))) only [quiet_mk, quiet_fold, quiet_ite,
    quiet_foldl, ite_self, Bool.false_eq_true, if_true, if_false, State.alloc_quiet, State.emit_quiet,
    State.resetQueues_quiet, State.setQueue_quiet, State.setReef_quiet]

theorem execReefTxWakeDelay_beat (n : Nat) (t : Tai) (s : State) (z : State)
    (h : execReefTxWakeDelay n t s = .next z) : s.sameBeat z := by
  unfold execReefTxWakeDelay at h
  refine sameBeat_of_meaning (sameBeat_at s t) ?_ h
  simp (disch := (first | assumption | omega | (simp only [Fld.REEF_PORTn_TXWAKE_DELAY_US, Reg.REEF_PORTn_TXWAKE]; omega))) only [quiet_mk, quiet_fold, quiet_ite,
    quiet_foldl, ite_self, Bool.false_eq_true, if_true, if_false, State.setReef_quiet]

theorem execReefWakeComplete_beat (n : Nat) (t : Tai) (s : State) (z : State)
    (h : execReefWakeComplete n t s = .next z) : s.sameBeat z := by
  unfold execReefWakeComplete at h
  refine sameBeat_of_meaning (sameBeat_at s t) ?_ h
  simp (disch := (first | assumption | omega | (simp only [Fld.REEF_PORTn_CFG_SLEEP_EN, Reg.REEF_PORTn_CFG]; omega))) only [quiet_mk, quiet_fold, quiet_ite,
    quiet_foldl, ite_self, Bool.false_eq_true, if_true, if_false, State.reefAwake_quiet, State.reefUnmanaged_quiet,
    State.setCanState_quiet, State.setReef_quiet]

theorem execRegistryRederive_beat (unit : Nat) (t : Tai) (s : State) (z : State)
    (h : execRegistryRederive unit t s = .next z) : s.sameBeat z := by
  unfold execRegistryRederive at h
  refine sameBeat_of_meaning (sameBeat_at s t) ?_ h
  simp (disch := (first | assumption | omega | omega)) only [quiet_mk, quiet_fold, quiet_ite, quiet_foldl, ite_self,
    Bool.false_eq_true, if_true, if_false, State.rederive_quiet]

theorem execReplayAgeExpiry_beat (t : Tai) (s : State) (z : State)
    (h : execReplayAgeExpiry t s = .next z) : s.sameBeat z := by
  unfold execReplayAgeExpiry at h
  refine sameBeat_of_meaning (sameBeat_at s t) ?_ h
  exact quiet_foldl (fun (s : State) (e : Nat × List Held) => s.expirePort e.1 e.2) (fun _ _ => State.expirePort_quiet _ _ _) _ _

theorem execRouteLookup_beat (port : Nat) (w : Wire) (sof16 : Nat) (t : Tai) (s : State) (z : State)
    (h : execRouteLookup port w sof16 t s = .next z) : s.sameBeat z := by
  unfold execRouteLookup at h
  refine sameBeat_of_meaning (sameBeat_at s t) ?_ h
  simp (disch := (first | assumption | omega | omega)) only [quiet_mk, quiet_fold, quiet_ite, quiet_foldl, ite_self,
    Bool.false_eq_true, if_true, if_false, State.canFrameValid_quiet, State.frameBegins_quiet, State.startArrival_quiet]

theorem execRunAheadCopyStart_beat (ingress : Nat) (egress : Nat) (bad : List (Nat × Nat)) (t : Tai) (s : State) (z : State)
    (h : execRunAheadCopyStart ingress egress bad t s = .next z) : s.sameBeat z := by
  unfold execRunAheadCopyStart at h
  refine sameBeat_of_meaning (sameBeat_at s t) ?_ h
  simp (disch := (first | assumption | omega | omega)) only [quiet_mk, quiet_fold, quiet_ite, quiet_foldl, ite_self,
    Bool.false_eq_true, if_true, if_false, State.raStart_quiet]

theorem execRxRingDisable_beat (ring : Nat) (t : Tai) (s : State) (z : State)
    (h : execRxRingDisable ring t s = .next z) : s.sameBeat z := by
  unfold execRxRingDisable at h
  refine sameBeat_of_meaning (sameBeat_at s t) ?_ h
  simp (disch := (first | assumption | omega | (simp only [Fld.HIF_RXn_CFG_EN, Reg.HIF_RXn_CFG]; omega))) only [quiet_mk, quiet_fold, quiet_ite,
    quiet_foldl, ite_self, Bool.false_eq_true, if_true, if_false, State.putBoth_quiet, State.rxDisable_quiet]

theorem execRxRingEnable_beat (ring : Nat) (t : Tai) (s : State) (z : State)
    (h : execRxRingEnable ring t s = .next z) : s.sameBeat z := by
  unfold execRxRingEnable at h
  refine sameBeat_of_meaning (sameBeat_at s t) ?_ h
  simp (disch := (first | assumption | omega | (simp only [Fld.HIF_RXn_CFG_EN, Reg.HIF_RXn_CFG]; omega))) only [quiet_mk, quiet_fold, quiet_ite,
    quiet_foldl, ite_self, Bool.false_eq_true, if_true, if_false, State.putBoth_quiet, State.rxEnable_quiet]

theorem execSerCharacter_beat (c : Nat) (line : List Bool) (start16 : Nat) (bad : List (Nat × Nat)) (t : Tai) (s : State) (z : State)
    (h : execSerCharacter c line start16 bad t s = .next z) : s.sameBeat z := by
  unfold execSerCharacter at h
  refine sameBeat_of_meaning (sameBeat_at s t) ?_ h
  simp (disch := (first | assumption | omega | omega)) only [quiet_mk, quiet_fold, quiet_ite, quiet_foldl, ite_self,
    Bool.false_eq_true, if_true, if_false, State.serCharacter_quiet]

theorem execSerIdleClose_beat (c : Nat) (bad : List (Nat × Nat)) (t : Tai) (s : State) (z : State)
    (h : execSerIdleClose c bad t s = .next z) : s.sameBeat z := by
  unfold execSerIdleClose at h
  refine sameBeat_of_meaning (sameBeat_at s t) ?_ h
  simp (disch := (first | assumption | omega | omega)) only [quiet_mk, quiet_fold, quiet_ite, quiet_foldl, ite_self,
    Bool.false_eq_true, if_true, if_false, State.serIdle_quiet]

theorem execSerTxComplete_beat (c : Nat) (edge16 : Nat) (t : Tai) (s : State) (z : State)
    (h : execSerTxComplete c edge16 t s = .next z) : s.sameBeat z := by
  unfold execSerTxComplete at h
  refine sameBeat_of_meaning (sameBeat_at s t) ?_ h
  simp (disch := (first | assumption | omega | omega)) only [quiet_mk, quiet_fold, quiet_ite, quiet_foldl, ite_self,
    Bool.false_eq_true, if_true, if_false, State.serTxDone_quiet]

theorem execSerTxStart_beat (c : Nat) (fault : Bool) (abandoned : Bool) (t : Tai) (s : State) (z : State)
    (h : execSerTxStart c fault abandoned t s = .next z) : s.sameBeat z := by
  unfold execSerTxStart at h
  refine sameBeat_of_meaning (sameBeat_at s t) ?_ h
  simp (disch := (first | assumption | omega | omega)) only [quiet_mk, quiet_fold, quiet_ite, quiet_foldl, ite_self,
    Bool.false_eq_true, if_true, if_false, State.serTxStart_quiet]

theorem execShedWindowEnd_beat (t : Tai) (s : State) (z : State)
    (h : execShedWindowEnd t s = .next z) : s.sameBeat z := by
  unfold execShedWindowEnd at h
  refine sameBeat_of_meaning (sameBeat_at s t) ?_ h
  simp (disch := (first | assumption | omega | (simp only [Fld.PWR_BRACE_CFG_SHED_MS, Reg.PWR_BRACE_CFG]; omega))) only [quiet_mk, quiet_fold, quiet_ite,
    quiet_foldl, ite_self, Bool.false_eq_true, if_true, if_false, State.setBrace_quiet]

theorem execShrFaultCleared_beat (p : Nat) (code : Nat) (held : Nat) (t : Tai) (s : State) (z : State)
    (h : execShrFaultCleared p code held t s = .next z) : s.sameBeat z := by
  unfold execShrFaultCleared at h
  refine sameBeat_of_meaning (sameBeat_at s t) ?_ h
  simp (disch := (first | assumption | omega | omega)) only [quiet_mk, quiet_fold, quiet_ite, quiet_foldl, ite_self,
    Bool.false_eq_true, if_true, if_false, State.shrClear_quiet]

theorem execShrFaultSet_beat (p : Nat) (code : Nat) (value : Int) (held : Nat) (t : Tai) (s : State) (z : State)
    (h : execShrFaultSet p code value held t s = .next z) : s.sameBeat z := by
  unfold execShrFaultSet at h
  refine sameBeat_of_meaning (sameBeat_at s t) ?_ h
  simp (disch := (first | assumption | omega | omega)) only [quiet_mk, quiet_fold, quiet_ite, quiet_foldl, ite_self,
    Bool.false_eq_true, if_true, if_false, State.shrSet_quiet]

theorem execSlotTooShort_beat (t : Tai) (s : State) (z : State)
    (h : execSlotTooShort t s = .next z) : s.sameBeat z := by
  unfold execSlotTooShort at h
  refine sameBeat_of_meaning (sameBeat_at s t) ?_ h
  simp (disch := (first | assumption | omega | omega)) only [quiet_mk, quiet_fold, quiet_ite, quiet_foldl, ite_self,
    Bool.false_eq_true, if_true, if_false, State.tooShort_quiet]

theorem execSmbSclTimeout_beat (t : Tai) (s : State) (z : State)
    (h : execSmbSclTimeout t s = .next z) : s.sameBeat z := by
  unfold execSmbSclTimeout at h
  refine sameBeat_of_meaning (sameBeat_at s t) ?_ h
  simp (disch := (first | assumption | omega | omega)) only [quiet_mk, quiet_fold, quiet_ite, quiet_foldl, ite_self,
    Bool.false_eq_true, if_true, if_false, State.emit_quiet]

theorem execSnapshotRound_beat (t : Tai) (s : State) (z : State)
    (h : execSnapshotRound t s = .next z) : s.sameBeat z := by
  unfold execSnapshotRound at h
  refine sameBeat_of_meaning (sameBeat_at s t) ?_ h
  simp (disch := (first | assumption | omega | (simp only [Fld.BEAT_STATUS_SLOT_CUR, Reg.BEAT_STATUS]; omega))) only [quiet_mk, quiet_fold, quiet_ite,
    quiet_foldl, ite_self, Bool.false_eq_true, if_true, if_false, State.snapshotRound_quiet]

theorem execStateSkew_beat (unit : Nat) (t : Tai) (s : State) (z : State)
    (h : execStateSkew unit t s = .next z) : s.sameBeat z := by
  unfold execStateSkew at h
  refine sameBeat_of_meaning (sameBeat_at s t) ?_ h
  simp (disch := (first | assumption | omega | omega)) only [quiet_mk, quiet_fold, quiet_ite, quiet_foldl, ite_self,
    Bool.false_eq_true, if_true, if_false, State.skew_quiet]

theorem execSyncReceiptTimeout_beat (t : Tai) (s : State) (z : State)
    (h : execSyncReceiptTimeout t s = .next z) : s.sameBeat z := by
  unfold execSyncReceiptTimeout at h
  refine sameBeat_of_meaning (sameBeat_at s t) ?_ h
  simp (disch := (first | assumption | omega | omega)) only [quiet_mk, quiet_fold, quiet_ite, quiet_foldl, ite_self,
    Bool.false_eq_true, if_true, if_false, State.masterTimeout_quiet]

theorem execSyncTransmit_beat (p : Nat) (edge16 : Nat) (t : Tai) (s : State) (z : State)
    (h : execSyncTransmit p edge16 t s = .next z) : s.sameBeat z := by
  unfold execSyncTransmit at h
  refine sameBeat_of_meaning (sameBeat_at s t) ?_ h
  simp (disch := (first | assumption | omega | (simp only [Fld.TIME_PORTp_LOG_SYNC, Fld.TIME_PORTp_ONE_STEP, Reg.TIME_PORTp]; omega))) only [quiet_mk, quiet_fold, quiet_ite,
    quiet_foldl, ite_self, Bool.false_eq_true, if_true, if_false, State.ptpSend_quiet]

theorem execT1sCollision_beat (k : Nat) (t : Tai) (s : State) (z : State)
    (h : execT1sCollision k t s = .next z) : s.sameBeat z := by
  unfold execT1sCollision at h
  refine sameBeat_of_meaning (sameBeat_at s t) ?_ h
  (repeat' split) <;> first | with_reducible rfl | simp (disch := (first | assumption | omega | (simp only [Reg.T1S_Ss_CNTk]; omega))) only [quiet_mk, quiet_fold, quiet_ite,
    quiet_foldl, ite_self, Bool.false_eq_true, if_true, if_false, State.clearWire_quiet, State.copyFinal_quiet,
    State.count_quiet, State.dropCopy_quiet, State.ethTxDone_quiet, State.raFallback_quiet, State.requeue_quiet,
    State.setSending_quiet]

theorem execT1sPlcaLost_beat (k : Nat) (t : Tai) (s : State) (z : State)
    (h : execT1sPlcaLost k t s = .next z) : s.sameBeat z := by
  unfold execT1sPlcaLost at h
  refine sameBeat_of_meaning (sameBeat_at s t) ?_ h
  simp (disch := (first | assumption | omega | omega)) only [quiet_mk, quiet_fold, quiet_ite, quiet_foldl, ite_self,
    Bool.false_eq_true, if_true, if_false, State.plcaLost_quiet]

theorem execT1sPlcaOk_beat (k : Nat) (t : Tai) (s : State) (z : State)
    (h : execT1sPlcaOk k t s = .next z) : s.sameBeat z := by
  unfold execT1sPlcaOk at h
  refine sameBeat_of_meaning (sameBeat_at s t) ?_ h
  simp (disch := (first | assumption | omega | (simp only [Fld.T1S_Ss_CFG_NODE_ID, Fld.T1S_Ss_CFG_PLCA_EN, Fld.T1S_Ss_STATUS_PLCA_STATUS, Reg.T1S_Ss_CFG, Reg.T1S_Ss_STATUS]; omega))) only [quiet_mk, quiet_fold, quiet_ite,
    quiet_foldl, ite_self, Bool.false_eq_true, if_true, if_false, State.put_quiet, State.raiseOnce_quiet]

theorem execT1sTransmitOpportunity_beat (k : Nat) (t : Tai) (s : State) (z : State)
    (h : execT1sTransmitOpportunity k t s = .next z) : s.sameBeat z := by
  unfold execT1sTransmitOpportunity at h
  refine sameBeat_of_meaning (sameBeat_at s t) ?_ h
  simp (disch := (first | assumption | omega | (simp only [Fld.T1S_Ss_BURST_MAX_BC, Fld.T1S_Ss_CFG_PLCA_EN, Reg.T1S_Ss_BURST, Reg.T1S_Ss_CFG]; omega))) only [quiet_mk, quiet_fold, quiet_ite,
    quiet_foldl, ite_self, Bool.false_eq_true, if_true, if_false, State.setOpportunity_quiet]

theorem execTermMeasurement_beat (n : Nat) (ohm16 : Option Nat) (t : Tai) (s : State) (z : State)
    (h : execTermMeasurement n ohm16 t s = .next z) : s.sameBeat z := by
  unfold execTermMeasurement at h
  refine sameBeat_of_meaning (sameBeat_at s t) ?_ h
  simp (disch := (first | assumption | omega | omega)) only [quiet_mk, quiet_fold, quiet_ite, quiet_foldl, ite_self,
    Bool.false_eq_true, if_true, if_false, State.termTry_quiet]

theorem execThermalRecovery_beat (p : Nat) (t : Tai) (s : State) (z : State)
    (h : execThermalRecovery p t s = .next z) : s.sameBeat z := by
  unfold execThermalRecovery at h
  refine sameBeat_of_meaning (sameBeat_at s t) ?_ h
  simp (disch := (first | assumption | omega | omega)) only [quiet_mk, quiet_fold, quiet_ite, quiet_foldl, ite_self,
    Bool.false_eq_true, if_true, if_false, State.shrClear_quiet]

theorem execThermalShutdown_beat (p : Nat) (t : Tai) (s : State) (z : State)
    (h : execThermalShutdown p t s = .next z) : s.sameBeat z := by
  unfold execThermalShutdown at h
  refine sameBeat_of_meaning (sameBeat_at s t) ?_ h
  simp (disch := (first | assumption | omega | omega)) only [quiet_mk, quiet_fold, quiet_ite, quiet_foldl, ite_self,
    Bool.false_eq_true, if_true, if_false, State.cutCopy_quiet, State.linkDrops_quiet, State.shrSet_quiet]

theorem execTimeBeaconDue_beat (bad : List (Nat × Nat)) (t : Tai) (s : State) (z : State)
    (h : execTimeBeaconDue bad t s = .next z) : s.sameBeat z := by
  unfold execTimeBeaconDue at h
  refine sameBeat_of_meaning (sameBeat_at s t) ?_ h
  refine quiet_if ?_ rfl
  exact (quiet_foldl (fun (s : State) n => s.beaconDue n) (fun _ _ => State.beaconDue_quiet _ _) _ _).trans
    (State.resetQueues_quiet _ _)

theorem execTimeJumpRefusedRepeat_beat (t : Tai) (s : State) (z : State)
    (h : execTimeJumpRefusedRepeat t s = .next z) : s.sameBeat z := by
  unfold execTimeJumpRefusedRepeat at h
  refine sameBeat_of_meaning (sameBeat_at s t) ?_ h
  simp (disch := (first | assumption | omega | (simp only [Reg.TIME_LAST_JUMP]; omega))) only [quiet_mk, quiet_fold, quiet_ite,
    quiet_foldl, ite_self, Bool.false_eq_true, if_true, if_false, State.raise_quiet]

theorem execTimeStepEvaluate_beat (t : Tai) (s : State) (z : State)
    (h : execTimeStepEvaluate t s = .next z) : s.sameBeat z := by
  unfold execTimeStepEvaluate at h
  refine sameBeat_of_meaning (sameBeat_at s t) ?_ h
  simp (disch := (first | assumption | omega | omega)) only [quiet_mk, quiet_fold, quiet_ite, quiet_foldl, ite_self,
    Bool.false_eq_true, if_true, if_false, State.evaluateSteps_quiet]

theorem execTxFrame_beat (ring : Nat) (bad : List (Nat × Nat)) (t : Tai) (s : State) (z : State)
    (h : execTxFrame ring bad t s = .next z) : s.sameBeat z := by
  unfold execTxFrame at h
  refine sameBeat_of_meaning (sameBeat_at s t) ?_ h
  simp (disch := (first | assumption | omega | omega)) only [quiet_mk, quiet_fold, quiet_ite, quiet_foldl, ite_self,
    Bool.false_eq_true, if_true, if_false, State.submit_quiet]

theorem execTxNop_beat (d : DescRead) (t : Tai) (s : State) (z : State)
    (h : execTxNop d t s = .next z) : s.sameBeat z := by
  unfold execTxNop at h
  refine sameBeat_of_meaning (sameBeat_at s t) ?_ h
  simp (disch := (first | assumption | omega | omega)) only [quiet_mk, quiet_fold, quiet_ite, quiet_foldl, ite_self,
    Bool.false_eq_true, if_true, if_false, State.nop_quiet]

theorem execTxRingDisable_beat (ring : Nat) (t : Tai) (s : State) (z : State)
    (h : execTxRingDisable ring t s = .next z) : s.sameBeat z := by
  unfold execTxRingDisable at h
  refine sameBeat_of_meaning (sameBeat_at s t) ?_ h
  simp (disch := (first | assumption | omega | (simp only [Fld.HIF_TXn_CFG_EN, Reg.HIF_TXn_CFG]; omega))) only [quiet_mk, quiet_fold, quiet_ite,
    quiet_foldl, ite_self, Bool.false_eq_true, if_true, if_false, State.putBoth_quiet, State.txDisable_quiet]

theorem execTxRingDrained_beat (ring : Nat) (t : Tai) (s : State) (z : State)
    (h : execTxRingDrained ring t s = .next z) : s.sameBeat z := by
  unfold execTxRingDrained at h
  refine sameBeat_of_meaning (sameBeat_at s t) ?_ h
  simp (disch := (first | assumption | omega | omega)) only [quiet_mk, quiet_fold, quiet_ite, quiet_foldl, ite_self,
    Bool.false_eq_true, if_true, if_false, State.txDrained_quiet]

theorem execTxRingEnable_beat (ring : Nat) (t : Tai) (s : State) (z : State)
    (h : execTxRingEnable ring t s = .next z) : s.sameBeat z := by
  unfold execTxRingEnable at h
  refine sameBeat_of_meaning (sameBeat_at s t) ?_ h
  simp (disch := (first | assumption | omega | (simp only [Fld.HIF_TXn_CFG_EN, Reg.HIF_TXn_CFG]; omega))) only [quiet_mk, quiet_fold, quiet_ite,
    quiet_foldl, ite_self, Bool.false_eq_true, if_true, if_false, State.putBoth_quiet, State.txEnable_quiet]

theorem execUnwrap_beat (mismatches : Nat) (t : Tai) (s : State) (z : State)
    (h : execUnwrap mismatches t s = .next z) : s.sameBeat z := by
  unfold execUnwrap at h
  refine sameBeat_of_meaning (sameBeat_at s t) ?_ h
  simp (disch := (first | assumption | omega | omega)) only [quiet_mk, quiet_fold, quiet_ite, quiet_foldl, ite_self,
    Bool.false_eq_true, if_true, if_false, State.jobOf_quiet]

theorem execUpdateSlotProgrammed_beat (header : Bytes) (result : Nat) (t : Tai) (s : State) (z : State)
    (h : execUpdateSlotProgrammed header result t s = .next z) : s.sameBeat z := by
  unfold execUpdateSlotProgrammed at h
  refine sameBeat_of_meaning (sameBeat_at s t) ?_ h
  simp (disch := (first | assumption | omega | omega)) only [quiet_mk, quiet_fold, quiet_ite, quiet_foldl, ite_self,
    Bool.false_eq_true, if_true, if_false, State.slotProgrammed_quiet]

theorem execUpdateVerified_beat (sigOk : Bool) (digestOk : Bool) (t : Tai) (s : State) (z : State)
    (h : execUpdateVerified sigOk digestOk t s = .next z) : s.sameBeat z := by
  unfold execUpdateVerified at h
  refine sameBeat_of_meaning (sameBeat_at s t) ?_ h
  simp (disch := (first | assumption | omega | omega)) only [quiet_mk, quiet_fold, quiet_ite, quiet_foldl, ite_self,
    Bool.false_eq_true, if_true, if_false, State.slotVerified_quiet]

theorem execWakeFrame_beat (n : Nat) (w : Wire) (t : Tai) (s : State) (z : State)
    (h : execWakeFrame n w t s = .next z) : s.sameBeat z := by
  unfold execWakeFrame at h
  refine sameBeat_of_meaning (sameBeat_at s t) ?_ h
  simp (disch := (first | assumption | omega | (simp only [Fld.REEF_PORTn_CFG_WAKE_MODE, Reg.REEF_CNTn_k, Reg.REEF_PORTn_CFG]; omega))) only [quiet_mk, quiet_fold, quiet_ite,
    quiet_foldl, ite_self, Bool.false_eq_true, if_true, if_false, State.count_quiet, State.reefWake_quiet,
    State.setReef_quiet]

theorem execWakePattern_beat (n : Nat) (dom1 : Nat) (rec : Nat) (dom2 : Nat) (t : Tai) (s : State) (z : State)
    (h : execWakePattern n dom1 rec dom2 t s = .next z) : s.sameBeat z := by
  unfold execWakePattern at h
  refine sameBeat_of_meaning (sameBeat_at s t) ?_ h
  simp (disch := (first | assumption | omega | (simp only [Fld.REEF_PORTn_CFG_FILT, Fld.REEF_PORTn_CFG_WAKE_MODE, Fld.REEF_PORTn_CFG_WUP_TMO, Reg.REEF_PORTn_CFG]; omega))) only [quiet_mk, quiet_fold, quiet_ite,
    quiet_foldl, ite_self, Bool.false_eq_true, if_true, if_false, State.reefWake_quiet]

theorem execWrap_beat (mismatches : Nat) (t : Tai) (s : State) (z : State)
    (h : execWrap mismatches t s = .next z) : s.sameBeat z := by
  unfold execWrap at h
  refine sameBeat_of_meaning (sameBeat_at s t) ?_ h
  simp (disch := (first | assumption | omega | omega)) only [quiet_mk, quiet_fold, quiet_ite, quiet_foldl, ite_self,
    Bool.false_eq_true, if_true, if_false, State.jobOf_quiet]

theorem execIntakeSlot_beat (page : Option PageWords) (reads : List DescRead) (t : Tai) (s z : State)
    (h : execIntakeSlot page reads t s = .next z) : s.sameBeat z := by
  unfold execIntakeSlot at h
  dsimp only at h
  split at h
  · refine sameBeat_of_meaning (b := { s.at t with beat := { (s.at t).beat with intakeRun := true } })
      ⟨rfl, rfl, rfl, rfl, fun _ _ => rfl⟩ ?_ h
    exact quiet_if (State.intake_quiet _ _ _) rfl
  · exact sameBeat_of_meaning (sameBeat_at s t) rfl h

end Sys2Proof.Machine
end

