-- ==== Sys2Proof/Tests/Slice0.lean ====
section
/-! SUPPORT. Tests of the model on small states, each of one step: the operands at the edge of every check of well-formedness,
expected values taken from the tables and rules named, and for every statement with hypotheses a state and operands that meet
them. -/

namespace Sys2Proof.Tests

open Sys2Proof Sys2Proof.Machine

set_option Elab.async false
set_option linter.unusedTactic false

/-- A state after hand-over, with every register at its reset value. -/
def run : State := { State.reset with glb := { State.reset.glb with phase := .running } }

/-- A PCIe write of all four byte lanes. -/
def acc : Access := { path := 0, be := 15, last := 0, len := 1 }

def accBad : Access := { acc with path := 4 }

def wire (kind : Nat) : Wire :=
  { kind := kind, ide := false, brs := false, rtr := false, esi := false, id := 0x123, af := 0, data := [1#8, 2#8, 3#8] }

def req : Request := { magic := 0x5347, version := 1, seq := 7, count := 1, offset := 0, body := [] }

def nopRead : DescRead := { ring := 63, bytes := none, payload := none }

def noCounts : CsiCounts := { eccCorr := 0, eccDrop := 0, dtDrop := 0, crcLines := 0 }

def announce : Announce := { sender := 7, gmId := 8, prio1 := 1, cls := 2, acc := 3, oslv := 4, prio2 := 5, steps := 6 }

def zeros (n : Nat) : Bytes := List.replicate n 0#8

/-- The next state of an outcome; the state after reset stands for a fault or a refusal. -/
def nxt (o : Host.Outcome State Fault Refusal) : State :=
  match o with
  | .next t => t
  | _ => State.reset

theorem smoke_access : [({ acc with path := 4 } : Access), { acc with be := 16 }, { acc with last := 16 }, { acc with len := 0 }].all (fun a => !a.ok) = true ∧
    ({ path := 3, be := 15, last := 15, len := 1 } : Access).ok = true := by decide

/-! ### Well-formedness: for every check a term at the edge that it takes and one that it refuses -/

theorem smoke_wellformed_1 : ([
    .beatBoundary 65535 0 false [(76, 7)] 0,
    .intakeSlot (some [(0x40, 0), (0x33C, 4294967295)]) [{ ring := 63, bytes := none, payload := none }] 0,
    .commitSlot 0 [0, 47] 0,
    .authenticationSlot [] [(76, 7)] 0,
    .serviceSlot [(3, 0), (6, 0)] [] 0,
    .writebackSlot 0 [4096] [0, 2, 4] [(76, 7)] 0,
    .claimWindow 524287 524287 false 0,
    .beatRealigned 65535 0 0,
    .beatLenArm acc 7 0,
    .beatSlotArm acc 1023 0,
    .beatPeakRead 3 15 4 0,
    .syncReceived 12 0 0 0 0 0 0,
    .announceReceived 12 announce 0,
    .announceTransmit 12 0,
    .syncTransmit 12 0 0,
    .ptpDelayRequest 12 0 0,
    .timeStepToMasterMean acc 0,
    .timeStepByValue acc 0,
    .timeBeaconDue [(76, 7)] 0,
    .captureStart 15 0 0 false,
    .captureStop 15 0 0,
    .timePtpDiscardRead 3 15 0,
    .txFrame 63 [(76, 7)] 0,
    .txNop ({ nopRead with bytes := some [3#8] }) 0,
    .msixCoalescingTimer false 63,
    .msixUnmask 255,
    .txRingEnable 63 0,
    .txRingDisable 63 0,
    .txRingDrained 63 0,
    .rxRingEnable 63 0,
    .rxRingDisable 63 0,
    .routeLookup 76 (wire 0) 0 0,
    .fabCommitGo acc 0,
    .runAheadCopyStart 47 76 [(76, 7)] 0,
    .abortDeadline 76 0,
    .fabRaRearm acc 4095 0,
    .fabRaRearmed 4095 0,
    .canFrameValid 47 (wire 2) 0 0 [(76, 7)] 0,
    .canpProtoExc 47 0,
    .canErrorDetected 47 6 1 false .receiver none none false 0,
    .canArbitrationLost 47 0,
    .canTxStart 47 false 0,
    .canTxComplete 47 0 0 none 0,
    .canpBusOn 47 0 0,
    .canIntegrationDone 47 false 0,
    .canpTxdTimeout 47 1 0,
    .canpTimingGo acc 47 0,
    .canpTimingApply 47 false 0,
    .canPortEnable 47 false 0,
    .canPortDisable 47 0] : List Instr).all (fun c => c.wf == true) = true := by decide +kernel

theorem smoke_wellformed_2 : ([
    .canListenOnly 47 0,
    .canpLastErrRead 3 15 47 0,
    .reefSleep 47 false 0,
    .wakePattern 47 0 0 0 0,
    .wakeFrame 47 (wire 2) 0,
    .musterPreWake 47 0,
    .reefHostWake acc 47 0,
    .reefDecWake 47 0,
    .reefWakeComplete 47 0,
    .reefTxWake 47 [(76, 7)] 0,
    .reefTxWakeDelay 47 0,
    .reefInsomnia 47 0,
    .musterSpanEnd 1023 0,
    .reefCommit acc 0,
    .ethFrameReceived 60 [] 0 false false [(76, 7)] 0,
    .ethTxStart 60 false 0,
    .ethTxComplete 60 0 0 0,
    .ethLinkUp 4 false false false false 0 false 0,
    .ethLinkDown 4 3 false 0,
    .lsecKeyWrite acc 3 8 3 7 false 0#32 0,
    .t1sTransmitOpportunity 7 0,
    .plcaBeacon 7 0 0,
    .plcaBeaconReceived 7 0,
    .t1sPlcaLost 7 0,
    .t1sPlcaOk 7 0,
    .t1sCollision 7 0,
    .mdioAddress acc 31 31 0,
    .mdioWrite acc 31 31 false 0,
    .mdioRead acc 31 31 false 0,
    .mdioPostReadIncrement acc 31 31 false 0,
    .smbWrite32 4294967295 0#32 2 0,
    .smbRead32 4294967295 0 0,
    .smbId 0x12 0,
    .serCharacter 15 [] 0 [(76, 7)] 0,
    .serIdleClose 15 [(76, 7)] 0,
    .serTxStart 15 false false 0,
    .serTxComplete 15 0 0,
    .ciphClearLoad acc 63 3 63 0,
    .keyRetire acc 63 0,
    .keyRetireApply 63 0,
    .keyLimitReached 63 0,
    .ciphKeyLow 63 0,
    .ciphAlarm 4 0 0 false 0,
    .ciphFvWrite acc 3 65535 0,
    .nestFrameStart 1 0 noCounts 0,
    .nestFrameEnd 1 [] noCounts 0,
    .nestCommit acc 0,
    .halyardHeartbeat (zeros 48) 0,
    .halyardDelta (zeros 16) 0,
    .halyardImage (zeros 16) 0] : List Instr).all (fun c => c.wf == true) = true := by decide +kernel

theorem smoke_wellformed_3 : ([
    .halyardImageReq (zeros 16) 0,
    .halyardMarker (zeros 16) 0,
    .halHandover acc 0,
    .halUnfence acc 0,
    .domainClose 23 0,
    .domainWake 23 0,
    .pwrCtrlWake acc 23 0,
    .domainIdleClose 23 0,
    .domainDrainEnd 23 0,
    .pwrDomainOff 23 false 0,
    .pwrDomainOn 23 false [(76, 7)] 0,
    .domainMusterWake 10 0,
    .domainActivityWake true 15 0,
    .pwrOnMain [(1, 7), (1, 8)] 0,
    .termMeasurement 47 none 0,
    .shrFaultSet 47 0x0A 0 0 0,
    .shrFaultCleared 47 0x0A 0 0,
    .pairSwap 47 0,
    .thermalShutdown 55 0,
    .thermalRecovery 55 0,
    .nvmCfgSave acc 0,
    .nvmUpdWrite acc 0,
    .updateSlotProgrammed (zeros 256) 3 0,
    .nvmUpdActivate acc false false 0,
    .nvmUpdConfirm acc 0,
    .nvmUpdFallback acc 0,
    .nvmUpdAbort acc 0,
    .stateSkew 4096 0,
    .registryRederive 4096 0,
    .serviceRead 0 65535 req false 0 0,
    .serviceWrite 0 65535 req false 0,
    .serviceSubscribe 0 65535 req false 0,
    .serviceUnsubscribe 0 65535 req false 0,
    .arpRequest (zeros 6) 4294967295 4294967295 0,
    .icmpEcho 4294967295 4294967295 [] 0,
    .neighbourDiscovery 340282366920938463463374607431768211455 340282366920938463463374607431768211455 0,
    .icmpv6Echo 340282366920938463463374607431768211455 340282366920938463463374607431768211455 [] 0,
    .mgtSnapGo acc 0,
    .mgtEccUncorr 2 65535 3 0,
    .powerOnResetRelease false false false false false false [(1, 7), (1, 8)],
    .warmReset [(1, 7), (1, 8)] 0,
    .glbReset acc 0#32 [] [(1, 7), (1, 8)] 0,
    .glbLock acc 0,
    .pinSet acc 3 0#32 0,
    .pinClr acc 3 0#32 0,
    .registerWrite acc 0x3FFFFFC 0#32 0,
    .w1cWrite acc 0x3FFFFFC 0#32 0,
    .registerRead64 0 15 0x3FFFFF8 true 0 0,
    .registerWrite64Low acc 0x3FFFFF8 0#32 0,
    .glbAfClear acc 0] : List Instr).all (fun c => c.wf == true) = true := by decide +kernel

theorem smoke_wellformed_4 : ([
    .delayReqInterval 12 0 none 0,
    .journalWindowRead 3 0x22fffc false false 0] : List Instr).all (fun c => c.wf == true) = true := by decide +kernel

theorem smoke_illformed_1 : ([
    .beatBoundary 65535 0 false [(77, 7)] 0,
    .beatBoundary 65535 0 false [(76, 8)] 0,
    .beatBoundary 65536 0 false [(76, 7)] 0,
    .intakeSlot (some [(0x3C, 0)]) [{ ring := 63, bytes := none, payload := none }] 0,
    .intakeSlot (some [(0x340, 0)]) [{ ring := 63, bytes := none, payload := none }] 0,
    .intakeSlot (some [(0x42, 0)]) [{ ring := 63, bytes := none, payload := none }] 0,
    .intakeSlot (some [(0x40, 4294967296)]) [{ ring := 63, bytes := none, payload := none }] 0,
    .intakeSlot (some [(0x40, 0), (0x33C, 4294967295)]) [{ ring := 64, bytes := none, payload := none }] 0,
    .commitSlot 0 [48] 0,
    .authenticationSlot [] [(77, 7)] 0,
    .authenticationSlot [] [(76, 8)] 0,
    .serviceSlot [(2, 0)] [] 0,
    .serviceSlot [(7, 0)] [] 0,
    .writebackSlot 0 [4096] [0, 2, 4] [(77, 7)] 0,
    .writebackSlot 0 [4096] [0, 2, 4] [(76, 8)] 0,
    .writebackSlot 0 [0] [0, 2, 4] [(76, 7)] 0,
    .writebackSlot 0 [4096] [1] [(76, 7)] 0,
    .writebackSlot 0 [4096] [3] [(76, 7)] 0,
    .writebackSlot 0 [4096] [5] [(76, 7)] 0,
    .claimWindow 524288 524287 false 0,
    .claimWindow 524287 524288 false 0,
    .beatRealigned 65536 0 0,
    .beatLenArm acc 8 0,
    .beatLenArm accBad 7 0,
    .beatSlotArm acc 1024 0,
    .beatSlotArm accBad 1023 0,
    .beatPeakRead 4 15 4 0,
    .beatPeakRead 3 16 4 0,
    .beatPeakRead 3 15 5 0,
    .syncReceived 13 0 0 0 0 0 0,
    .announceReceived 13 announce 0,
    .announceTransmit 13 0,
    .syncTransmit 13 0 0,
    .ptpDelayRequest 13 0 0,
    .timeStepToMasterMean accBad 0,
    .timeStepByValue accBad 0,
    .timeBeaconDue [(77, 7)] 0,
    .timeBeaconDue [(76, 8)] 0,
    .captureStart 16 0 0 false,
    .captureStop 16 0 0,
    .timePtpDiscardRead 4 15 0,
    .timePtpDiscardRead 3 16 0,
    .txFrame 63 [(77, 7)] 0,
    .txFrame 63 [(76, 8)] 0,
    .txFrame 64 [(76, 7)] 0,
    .txNop ({ nopRead with ring := 64 }) 0,
    .txNop ({ nopRead with bytes := some [1#8] }) 0,
    .msixCoalescingTimer false 64,
    .msixUnmask 256,
    .txRingEnable 64 0] : List Instr).all (fun c => c.wf == false) = true := by decide +kernel

theorem smoke_illformed_2 : ([
    .txRingDisable 64 0,
    .txRingDrained 64 0,
    .rxRingEnable 64 0,
    .rxRingDisable 64 0,
    .routeLookup 77 (wire 0) 0 0,
    .fabCommitGo accBad 0,
    .runAheadCopyStart 47 76 [(77, 7)] 0,
    .runAheadCopyStart 47 76 [(76, 8)] 0,
    .runAheadCopyStart 48 76 [(76, 7)] 0,
    .runAheadCopyStart 47 77 [(76, 7)] 0,
    .abortDeadline 77 0,
    .fabRaRearm acc 4096 0,
    .fabRaRearm accBad 4095 0,
    .fabRaRearmed 4096 0,
    .canFrameValid 47 (wire 2) 0 0 [(77, 7)] 0,
    .canFrameValid 47 (wire 2) 0 0 [(76, 8)] 0,
    .canFrameValid 48 (wire 2) 0 0 [(76, 7)] 0,
    .canFrameValid 47 (wire 3) 0 0 [(76, 7)] 0,
    .canpProtoExc 48 0,
    .canErrorDetected 48 6 1 false .receiver none none false 0,
    .canErrorDetected 47 7 1 false .receiver none none false 0,
    .canErrorDetected 47 6 2 false .receiver none none false 0,
    .canErrorDetected 47 0 1 false .receiver none none false 0,
    .canArbitrationLost 48 0,
    .canTxStart 48 false 0,
    .canTxComplete 48 0 0 none 0,
    .canpBusOn 48 0 0,
    .canIntegrationDone 48 false 0,
    .canpTxdTimeout 48 1 0,
    .canpTxdTimeout 47 2 0,
    .canpTimingGo acc 48 0,
    .canpTimingGo accBad 47 0,
    .canpTimingApply 48 false 0,
    .canPortEnable 48 false 0,
    .canPortDisable 48 0,
    .canListenOnly 48 0,
    .canpLastErrRead 4 15 47 0,
    .canpLastErrRead 3 16 47 0,
    .canpLastErrRead 3 15 48 0,
    .reefSleep 48 false 0,
    .wakePattern 48 0 0 0 0,
    .wakeFrame 48 (wire 2) 0,
    .wakeFrame 47 (wire 3) 0,
    .musterPreWake 48 0,
    .reefHostWake acc 48 0,
    .reefHostWake accBad 47 0,
    .reefDecWake 48 0,
    .reefWakeComplete 48 0,
    .reefTxWake 47 [(77, 7)] 0,
    .reefTxWake 47 [(76, 8)] 0] : List Instr).all (fun c => c.wf == false) = true := by decide +kernel

theorem smoke_illformed_3 : ([
    .reefTxWake 48 [(76, 7)] 0,
    .reefTxWakeDelay 48 0,
    .reefInsomnia 48 0,
    .musterSpanEnd 1024 0,
    .reefCommit accBad 0,
    .ethFrameReceived 60 [] 0 false false [(77, 7)] 0,
    .ethFrameReceived 60 [] 0 false false [(76, 8)] 0,
    .ethFrameReceived 61 [] 0 false false [(76, 7)] 0,
    .ethFrameReceived 47 [] 0 false false [(76, 7)] 0,
    .ethTxStart 61 false 0,
    .ethTxStart 47 false 0,
    .ethTxComplete 61 0 0 0,
    .ethTxComplete 47 0 0 0,
    .ethLinkUp 5 false false false false 0 false 0,
    .ethLinkDown 5 3 false 0,
    .ethLinkDown 4 4 false 0,
    .lsecKeyWrite acc 4 8 3 7 false 0#32 0,
    .lsecKeyWrite acc 3 9 3 7 false 0#32 0,
    .lsecKeyWrite acc 3 8 4 7 false 0#32 0,
    .lsecKeyWrite acc 3 8 3 8 false 0#32 0,
    .lsecKeyWrite accBad 3 8 3 7 false 0#32 0,
    .lsecKeyWrite acc 3 8 3 3 true 0#32 0,
    .t1sTransmitOpportunity 8 0,
    .plcaBeacon 8 0 0,
    .plcaBeaconReceived 8 0,
    .t1sPlcaLost 8 0,
    .t1sPlcaOk 8 0,
    .t1sCollision 8 0,
    .mdioAddress acc 32 31 0,
    .mdioAddress acc 31 32 0,
    .mdioAddress accBad 31 31 0,
    .mdioWrite acc 32 31 false 0,
    .mdioWrite acc 31 32 false 0,
    .mdioWrite accBad 31 31 false 0,
    .mdioRead acc 32 31 false 0,
    .mdioRead acc 31 32 false 0,
    .mdioRead accBad 31 31 false 0,
    .mdioPostReadIncrement acc 32 31 false 0,
    .mdioPostReadIncrement acc 31 32 false 0,
    .mdioPostReadIncrement accBad 31 31 false 0,
    .smbWrite32 4294967296 0#32 2 0,
    .smbWrite32 4294967295 0#32 3 0,
    .smbRead32 4294967296 0 0,
    .smbId 256 0,
    .smbId 0x10 0,
    .smbId 0x11 0,
    .smbId 256 0,
    .serCharacter 15 [] 0 [(77, 7)] 0,
    .serCharacter 15 [] 0 [(76, 8)] 0,
    .serCharacter 16 [] 0 [(76, 7)] 0] : List Instr).all (fun c => c.wf == false) = true := by decide +kernel

theorem smoke_illformed_4 : ([
    .serIdleClose 15 [(77, 7)] 0,
    .serIdleClose 15 [(76, 8)] 0,
    .serIdleClose 16 [(76, 7)] 0,
    .serTxStart 16 false false 0,
    .serTxComplete 16 0 0,
    .ciphClearLoad acc 64 3 63 0,
    .ciphClearLoad acc 63 4 63 0,
    .ciphClearLoad acc 63 3 64 0,
    .ciphClearLoad accBad 63 3 63 0,
    .keyRetire acc 64 0,
    .keyRetire accBad 63 0,
    .keyRetireApply 64 0,
    .keyLimitReached 64 0,
    .ciphKeyLow 64 0,
    .ciphAlarm 5 0 0 false 0,
    .ciphFvWrite acc 4 65535 0,
    .ciphFvWrite acc 3 65536 0,
    .ciphFvWrite accBad 3 65535 0,
    .nestFrameStart 2 0 noCounts 0,
    .nestFrameEnd 2 [] noCounts 0,
    .nestCommit accBad 0,
    .halyardHeartbeat (zeros 47) 0,
    .halyardDelta (zeros 15) 0,
    .halyardDelta (zeros 1041) 0,
    .halyardImage (zeros 15) 0,
    .halyardImage (zeros 1041) 0,
    .halyardImageReq (zeros 15) 0,
    .halyardImageReq (zeros 1041) 0,
    .halyardMarker (zeros 15) 0,
    .halyardMarker (zeros 1041) 0,
    .halHandover accBad 0,
    .halUnfence accBad 0,
    .domainClose 24 0,
    .domainWake 24 0,
    .pwrCtrlWake acc 24 0,
    .pwrCtrlWake accBad 23 0,
    .domainIdleClose 24 0,
    .domainDrainEnd 24 0,
    .pwrDomainOff 24 false 0,
    .pwrDomainOn 23 false [(77, 7)] 0,
    .pwrDomainOn 23 false [(76, 8)] 0,
    .pwrDomainOn 24 false [(76, 7)] 0,
    .domainMusterWake 11 0,
    .domainMusterWake 6 0,
    .domainActivityWake true 16 0,
    .domainActivityWake false 8 0,
    .pwrOnMain [(2, 7)] 0,
    .pwrOnMain [(1, 6)] 0,
    .pwrOnMain [(1, 9)] 0,
    .termMeasurement 48 none 0] : List Instr).all (fun c => c.wf == false) = true := by decide +kernel

theorem smoke_illformed_5 : ([
    .shrFaultSet 47 0x03 0 0 0,
    .shrFaultSet 47 0x0B 0 0 0,
    .shrFaultSet 48 0x0A 0 0 0,
    .shrFaultSet 55 0x11 0 0 0,
    .shrFaultSet 56 0x12 0 0 0,
    .shrFaultSet 79 0x1F 0 0 0,
    .shrFaultSet 79 0x22 0 0 0,
    .shrFaultSet 78 0x20 0 0 0,
    .shrFaultCleared 47 0x03 0 0,
    .shrFaultCleared 47 0x0B 0 0,
    .shrFaultCleared 48 0x0A 0 0,
    .shrFaultCleared 55 0x11 0 0,
    .shrFaultCleared 56 0x12 0 0,
    .shrFaultCleared 79 0x1F 0 0,
    .shrFaultCleared 79 0x22 0 0,
    .shrFaultCleared 78 0x20 0 0,
    .pairSwap 48 0,
    .thermalShutdown 56 0,
    .thermalRecovery 56 0,
    .nvmCfgSave accBad 0,
    .nvmUpdWrite accBad 0,
    .updateSlotProgrammed (zeros 255) 3 0,
    .updateSlotProgrammed (zeros 256) 1 0,
    .updateSlotProgrammed (zeros 256) 4 0,
    .nvmUpdActivate accBad false false 0,
    .nvmUpdConfirm accBad 0,
    .nvmUpdFallback accBad 0,
    .nvmUpdAbort accBad 0,
    .stateSkew 0 0,
    .registryRederive 0 0,
    .serviceRead 0 65536 req false 0 0,
    .serviceWrite 0 65536 req false 0,
    .serviceSubscribe 0 65536 req false 0,
    .serviceUnsubscribe 0 65536 req false 0,
    .arpRequest (zeros 6) 4294967296 4294967295 0,
    .arpRequest (zeros 6) 4294967295 4294967296 0,
    .arpRequest (zeros 5) 4294967295 4294967295 0,
    .icmpEcho 4294967296 4294967295 [] 0,
    .icmpEcho 4294967295 4294967296 [] 0,
    .neighbourDiscovery 340282366920938463463374607431768211456 340282366920938463463374607431768211455 0,
    .neighbourDiscovery 340282366920938463463374607431768211455 340282366920938463463374607431768211456 0,
    .icmpv6Echo 340282366920938463463374607431768211456 340282366920938463463374607431768211455 [] 0,
    .icmpv6Echo 340282366920938463463374607431768211455 340282366920938463463374607431768211456 [] 0,
    .mgtSnapGo accBad 0,
    .mgtEccUncorr 3 65535 3 0,
    .mgtEccUncorr 2 65536 3 0,
    .mgtEccUncorr 2 65535 4 0,
    .mgtEccUncorr 0 65535 640 0,
    .powerOnResetRelease false false false false false false [(2, 7)],
    .powerOnResetRelease false false false false false false [(1, 6)]] : List Instr).all (fun c => c.wf == false) = true := by decide +kernel

theorem smoke_illformed_6 : ([
    .powerOnResetRelease false false false false false false [(1, 9)],
    .warmReset [(2, 7)] 0,
    .warmReset [(1, 6)] 0,
    .warmReset [(1, 9)] 0,
    .glbReset acc 0#32 [] [(2, 7)] 0,
    .glbReset acc 0#32 [] [(1, 6)] 0,
    .glbReset acc 0#32 [] [(1, 9)] 0,
    .glbReset accBad 0#32 [] [(1, 7), (1, 8)] 0,
    .glbLock accBad 0,
    .pinSet acc 4 0#32 0,
    .pinSet accBad 3 0#32 0,
    .pinClr acc 4 0#32 0,
    .pinClr accBad 3 0#32 0,
    .registerWrite accBad 0x3FFFFFC 0#32 0,
    .registerWrite acc 0x4000000 0#32 0,
    .registerWrite acc 0x3FFFFFE 0#32 0,
    .w1cWrite accBad 0x3FFFFFC 0#32 0,
    .w1cWrite acc 0x4000000 0#32 0,
    .w1cWrite acc 0x3FFFFFE 0#32 0,
    .registerRead64 4 15 0x3FFFFF8 true 0 0,
    .registerRead64 0 16 0x3FFFFF8 true 0 0,
    .registerRead64 0 15 0x4000000 true 0 0,
    .registerRead64 0 15 0x3FFFFFE true 0 0,
    .registerRead64 1 15 0x3FFFFF8 true 0 0,
    .registerRead64 0 14 0x3FFFFF8 true 0 0,
    .registerRead64 0 15 0x3FFFFFC true 0 0,
    .registerWrite64Low accBad 0x3FFFFF8 0#32 0,
    .registerWrite64Low acc 0x4000000 0#32 0,
    .registerWrite64Low acc 0x3FFFFFE 0#32 0,
    .registerWrite64Low acc 0x3FFFFFC 0#32 0,
    .glbAfClear accBad 0,
    .delayReqInterval 13 0 none 0,
    .journalWindowRead 4 0x22fffc false false 0,
    .journalWindowRead 3 0x230000 false false 0,
    .journalWindowRead 3 2228220 false false 0] : List Instr).all (fun c => c.wf == false) = true := by decide +kernel

/-! ### Witnesses: for every statement with hypotheses, a state and operands that meet them -/

def isNext (o : Host.Outcome State Fault Refusal) : Bool :=
  match o with
  | .next _ => true
  | _ => false

theorem next_of {o : Host.Outcome State Fault Refusal} (h : isNext o = true) : o = .next (nxt o) := by
  cases o <;> simp_all [isNext, nxt]

def row (off : Nat) : RegRow := (RegMap.find off).getD { base := 0 }

/-- A beat in progress from 1 s, at its boundary. -/
def beating : State := { run with beat := { run.beat with started := true, start := 1000000000, next := 1000250000 } }

def claim (s : State) : State := s.put Fld.HAL_STATUS_CLAIMED 1

/-- A domain in a state of Table 14.2. -/
def domainIn (d st : Nat) (s : State) : State := s.put (Fld.PWR_Dd_STAT_STATE d) st

def slotIn (slot : Nat) (s : State) : State := s.put Fld.BEAT_STATUS_SLOT_CUR slot

def locked : State := { run with glb := { run.glb with locked := true } }

def paused : State := { run with glb := { run.glb with phase := .pause } }

def recovering : State := { run with glb := { run.glb with phase := .recovery } }

def queued : State := { run with pending := [.txNop nopRead 0, .notify 0] }

theorem witness_StepRunsTheCommandInFront : run.pending = [] ∧ queued.pending ≠ [] := by and_intros <;> decide +kernel

theorem witness_EveryWellFormedCommandCompletes :
    (Instr.txNop nopRead 0).wf = true ∧ (Instr.txNop { nopRead with ring := 64 } 0).wf = false := by and_intros <;> decide +kernel

theorem witness_AWellFormedQueueRunsToItsEnd : queued.queueOk = true := by decide +kernel

theorem witness_WellFormedQueuesStayWellFormed : queued.queueOk = true := by decide +kernel

theorem witness_PowerOnResetHoldsEveryCommand : State.reset.up = false ∧ (Instr.txNop nopRead 0).wf = true := by
  and_intros <;> decide +kernel

theorem witness_EverySlotNumberNamesASlotAndTheMinimumNeverFalls :
    queued.slotsNamed = true ∧ step queued = .next (nxt (step queued)) :=
  ⟨by decide +kernel, next_of (by decide +kernel)⟩

theorem witness_OnlyItsOwnCommandsMoveTheBeat :
    leavesBeat (.canTxStart 47 false 0) = true ∧
      exec (.canTxStart 47 false 0) run = .next (nxt (exec (.canTxStart 47 false 0) run)) :=
  ⟨by decide +kernel, next_of (by decide +kernel)⟩

theorem run_takes : run.takes acc := by unfold State.takes; decide +kernel

theorem witness_CommandFieldsWaitForTheirCommitSlot :
    run.takes acc ∧ 4095 < 4096 ∧ 47 < 48 ∧ 63 < 64 ∧ 23 < 24 := ⟨run_takes, by decide⟩

theorem witness_StepAndUpdateRequestsQueueInOrder : run.takes acc := run_takes

theorem witness_CommitRequestsShowPending :
    run.takes acc ∧ run.get Fld.MGT_SNAP_STAT_PENDING ≠ 1 ∧ run.get Fld.FAB_STATUS_COMMIT = 0 ∧
      (run.put Fld.FAB_STATUS_COMMIT 3).takes acc ∧ (run.put Fld.FAB_STATUS_COMMIT 3).get Fld.FAB_STATUS_COMMIT ≠ 0 := by
  and_intros <;> (try unfold State.takes) <;> decide +kernel

theorem witness_PinCommandsSetAndClearTheirBits :
    run.takesLanes { acc with be := 1 } ∧ 3 < 4 ∧ (0x80#32).toNat.land (laneMask 1) ≠ 0 := by
  and_intros <;> (try unfold State.takesLanes) <;> decide +kernel

theorem witness_LockLogAndHalyardRequestsDoOnlyTheirOwn : run.takes acc := run_takes

theorem witness_ResetNeedsItsConfirmCode :
    run.takes acc ∧ (Instr.glbReset acc 0x48300001#32 [] [] 0).wf = true ∧ bit (0x48300001#32).toNat 0 = true ∧
      bits (0x48300001#32).toNat 31 16 = 0x4830 ∧ run.get Fld.PWR_STATUS_BRACE = 0 ∧
      (run.put Fld.PWR_STATUS_BRACE 5).takes acc ∧ (run.put Fld.PWR_STATUS_BRACE 5).get Fld.PWR_STATUS_BRACE ≠ 0 := by
  and_intros <;> (try unfold State.takes) <;> decide +kernel

theorem witness_MdioStartsOneTransaction :
    run.takes acc ∧ 31 < 32 ∧ run.get Fld.ETH_MDIO_CMD_BUSY = 0 ∧ run.domain 22 = 2 ∧ (domainIn 22 0 run).takes acc ∧
      (domainIn 22 0 run).get Fld.ETH_MDIO_CMD_BUSY = 0 ∧ (domainIn 22 0 run).domain 22 ≠ 2 := by
  and_intros <;> (try unfold State.takes) <;> decide +kernel

def alarmed : State := run.put Fld.CIPH_STATUS_ALARM_LATCHED 1

/-- The edges of the clauses: sizes 2 and 3, a KEK that may also sign (attribute 3), tables 0, 2 and 3, indices 47 and 48. -/
theorem witness_ClearLoadsAndFreshnessWritesWait :
    run.takes acc ∧ badAttr 1 = false ∧ badAttr 0x3F = true ∧ run.get Fld.CIPH_STATUS_ALARM_LATCHED = 0 ∧
      alarmed.takes acc ∧ alarmed.get Fld.CIPH_STATUS_ALARM_LATCHED = 1 ∧
      ((0 : Nat) = 0 ∨ (2 < 3 ∧ 65535 < 48)) ∧ ((2 : Nat) = 0 ∨ (2 < 3 ∧ 47 < 48)) ∧ ((2 : Nat) = 3 ∨ (2 ≠ 0 ∧ 48 ≤ 48)) := by
  and_intros <;> (try unfold State.takes) <;> decide +kernel

/-- One register of each timing class: GLB_SCRATCH, TIME_SLEW_LIMIT, the first word of route 4095's shadow entry. -/
theorem witness_AcceptedValuesAreStored :
    run.takes acc ∧
      [Reg.GLB_SCRATCH, Reg.TIME_SLEW_LIMIT, Reg.RT_SHADOW_ROUTE 4095 0].all (fun off =>
        bar0 off && decide (RegMap.find off = some (row off)) && !(row off).wide && (row off).st != 0 && (row off).w1c == 0 &&
          (row off).wo == 0 && !readOnlyWindow off && off != Reg.GLB_LOCK && plainRegister off (row off) &&
          decide (run.valueChecks off (storedWord (row off) (run.reg off) 100#32).toNat = [])) = true ∧
      (row Reg.GLB_SCRATCH).cls = .immediate ∧ (row Reg.TIME_SLEW_LIMIT).cls = .commit ∧
      (row (Reg.RT_SHADOW_ROUTE 4095 0)).cls = .staged := by
  and_intros <;> (try unfold State.takes) <;> decide +kernel

/-- A slew limit of 0 is out of range (R51). -/
theorem witness_RejectedValuesAreReported :
    run.takes acc ∧ bar0 Reg.TIME_SLEW_LIMIT = true ∧ RegMap.find Reg.TIME_SLEW_LIMIT = some (row Reg.TIME_SLEW_LIMIT) ∧
      plainRegister Reg.TIME_SLEW_LIMIT (row Reg.TIME_SLEW_LIMIT) = true ∧
      run.valueChecks Reg.TIME_SLEW_LIMIT (storedWord (row Reg.TIME_SLEW_LIMIT) (run.reg Reg.TIME_SLEW_LIMIT) 0#32).toNat ≠ [] := by
  and_intros <;> (try unfold State.takes) <;> decide +kernel

theorem witness_OnesClearFlags :
    run.takes acc ∧ bar0 Reg.BEAT_OVERRUN = true ∧ RegMap.find Reg.BEAT_OVERRUN = some (row Reg.BEAT_OVERRUN) ∧
      (row Reg.BEAT_OVERRUN).wide = false ∧ (row Reg.BEAT_OVERRUN).st = 0 ∧ (row Reg.BEAT_OVERRUN).w1c ≠ 0 ∧
      (row Reg.BEAT_OVERRUN).wo = 0 ∧ readOnlyWindow Reg.BEAT_OVERRUN = false ∧ Reg.BEAT_OVERRUN ≠ Reg.CIPH_ALARM := by
  and_intros <;> (try unfold State.takes) <;> decide +kernel

theorem witness_WideRegistersChangeInOnePiece :
    let off := Reg.TIME_STEP_VALUE
    run.takes acc ∧ bar0 off = true ∧ bar0 (off + 4) = true ∧ RegMap.find off = some (row off) ∧
      RegMap.find (off + 4) = some (row off) ∧ (row off).wide = true ∧ (row off).st ≠ 0 ∧ readOnlyWindow off = false ∧
      (row off).isHigh off = false ∧ off % 8 = 0 ∧ (row off).isHigh (off + 4) = true ∧ 4 ≤ off + 4 ∧
      wideBad off (1 + 2 ^ 32 * 2) = false := by
  and_intros <;> (try unfold State.takes) <;> decide +kernel

/-- One discarded write of each reason: 5 in the pause, 6 in recovery, 3 read-only, 2 unmapped, 1 narrow; and no lane. -/
theorem witness_DiscardedWritesAreLogged :
    run.up = true ∧ paused.up = true ∧ recovering.up = true ∧ acc.ok = true ∧ ({ acc with be := 0 } : Access).ok = true ∧
      bar0 0x3FFFFFC = true ∧ recoveryOpen 0x3FFFFFC = false ∧ readOnlyWindow 0x3FFFFFC = false ∧
      RegMap.find 0x3FFFFFC = none ∧ readOnlyWindow (Reg.RT_LIVE_ROUTE 4095 7) = true ∧
      readOnlyWindow Reg.TIME_SLEW_LIMIT = false ∧ ({ acc with be := 14 } : Access).be ≠ 15 ∧
      RegMap.find Reg.TIME_SLEW_LIMIT = some (row Reg.TIME_SLEW_LIMIT) ∧ (row Reg.TIME_SLEW_LIMIT).bl = false := by
  and_intros <;> decide +kernel

theorem witness_ClosedFieldsKeepTheirValue :
    let off := Reg.CIPH_TAMPER_CFG
    locked.up = true ∧ locked.glb.phase ≠ .pause ∧ locked.glb.phase ≠ .recovery ∧ locked.glb.locked = true ∧ acc.ok = true ∧
      bar0 off = true ∧ RegMap.find off = some (row off) ∧ plainRegister off (row off) = true ∧
      (row off).lck = (row off).st ∧ locked.valueChecks off (locked.reg off).toNat = [] := by
  and_intros <;> decide +kernel

theorem witness_ArmedValuesAndKeyWordsAreStored :
    run.takes acc ∧ (4 : Nat) ≤ 4 ∧ (5 : Nat) ≤ 5 ∧ 5 ≤ 7 ∧ (7 : Nat) ≤ 7 ∧ 1023 < 1024 ∧
      ((false = false) ∨ 7 < 3) ∧ ((true = false) ∨ 2 < 3) := by
  and_intros <;> (try unfold State.takes) <;> decide +kernel

theorem witness_ReadClearReadsAnswerAndClear :
    run.up = true ∧ run.glb.phase ≠ .pause ∧ run.glb.phase ≠ .recovery ∧
      (∃ n < 5, Instr.beatPeakRead 3 15 4 0 = .beatPeakRead 3 15 n 0 ∧ Reg.BEAT_PEAKn 4 = Reg.BEAT_PEAKn n) := by
  refine ⟨by decide, by decide, by decide, 4, by decide, rfl, rfl⟩

/-- One read of each clause: no lane, in the pause, in recovery, unmapped, a register of 32 bits, a 64-bit pair. -/
theorem witness_ReadsAnswerThePresentValue :
    run.up = true ∧ paused.up = true ∧ paused.glb.phase = .pause ∧ Reg.BEAT_STATUS ≠ Reg.GLB_ID ∧
      Reg.BEAT_STATUS ≠ Reg.GLB_FW_VERSION ∧ Reg.BEAT_STATUS ≠ Reg.NVM_UPD_STATUS ∧ recovering.up = true ∧
      recovering.glb.phase = .recovery ∧ recoveryOpen Reg.TIME_NOW = false ∧ bar0 0x3FFFFFC = true ∧
      RegMap.find 0x3FFFFFC = none ∧ RegMap.find Reg.BEAT_STATUS = some (row Reg.BEAT_STATUS) ∧
      (row Reg.BEAT_STATUS).rc = false ∧ (row Reg.BEAT_STATUS).wide = false ∧ Reg.BEAT_STATUS < 0x20000 ∧
      RegMap.find Reg.BEAT_COUNT = some (row Reg.BEAT_COUNT) ∧ RegMap.find (Reg.BEAT_COUNT + 4) = some (row Reg.BEAT_COUNT) ∧
      (row Reg.BEAT_COUNT).wide = true ∧ (row Reg.BEAT_COUNT).rc = false ∧ (row Reg.BEAT_COUNT).isHigh Reg.BEAT_COUNT = false ∧
      (row Reg.BEAT_COUNT).isHigh (Reg.BEAT_COUNT + 4) = true ∧ (row Reg.BEAT_COUNT).rd = 2 ^ 64 - 1 ∧
      Reg.BEAT_COUNT % 8 = 0 := by
  and_intros <;> decide +kernel

theorem witness_UnmappedOffsetsReadZeroAndAreNotWritten :
    run.up = true ∧ run.glb.phase ≠ .pause ∧ run.glb.phase ≠ .recovery ∧ bar0 0x3FFFFF8 = true ∧
      RegMap.find 0x3FFFFF8 = none ∧ RegMap.find 0x3FFFFFC = none ∧ 0x3FFFFF8 % 8 = 0 ∧ acc.ok = true ∧ acc.be ≠ 0 := by
  and_intros <;> decide +kernel

def latched (off : Nat) : State :=
  { run with glb := { run.glb with latch := [(3, { off := off, val := 5#32 })] } }

theorem witness_ALowReadHoldsTheHighHalfForItsPath :
    let off := Reg.TIME_NOW
    run.up = true ∧ bar0 off = true ∧ RegMap.find off = some (row off) ∧ (row off).wide = true ∧ (row off).rc = false ∧
      (row off).isHigh off = false ∧ (row off).isHigh (off + 4) = true ∧ RegMap.find (off + 4) = some (row off) ∧
      (latched off).up = true ∧ SMap.look (latched off).glb.latch 3 = some { off := off, val := 5#32 } ∧
      (latched 0).up = true ∧ SMap.look (latched 0).glb.latch 3 = some { off := 0, val := 5#32 } ∧ 0 ≠ off := by
  and_intros <;> decide +kernel

theorem witness_JournalWindowShowsItsSectorsAsStored :
    run.up = true ∧ run.glb.phase ≠ .pause ∧ run.glb.phase ≠ .recovery ∧ 0x22FFFC < 0x230000 ∧ 0x22FFFC % 4 = 0 ∧
      SMap.look run.nvm.sectors (run.windowAt 0x22FFFC).1 = none := by
  and_intros <;> decide +kernel

def smbWrites : State := run.putBoth Fld.ETH_SMB_CFG_WRITE_EN 1

theorem witness_SmbusServesOneRegisterAtATime :
    run.up = true ∧ run.glb.phase ≠ .recovery ∧ run.domain 22 = 2 ∧ run.glb.phase ≠ .pause ∧ 0x13 < 256 ∧ 0x13 ≠ 0x10 ∧ 0x13 ≠ 0x11 ∧ 0x13 ≠ 0x12 ∧ (0x3FFFFFD % 4 ≠ 0) ∧ 0x4000000 ≤ 0x4000000 ∧
      (run.putBoth Fld.ETH_SMB_CFG_WRITE_EN 0).on Fld.ETH_SMB_CFG_WRITE_EN = false ∧ 0x3FFFFFC % 4 = 0 ∧ smbWrites.up = true ∧
      smbWrites.domain 22 = 2 ∧ smbWrites.on Fld.ETH_SMB_CFG_WRITE_EN = true ∧
      (smbWrites.putBoth Fld.ETH_SMB_CFG_PEC_REQ 1).on Fld.ETH_SMB_CFG_PEC_REQ = true ∧
      (smbWrites.putBoth Fld.ETH_SMB_CFG_PEC_REQ 0).on Fld.ETH_SMB_CFG_PEC_REQ = false := by
  and_intros <;> decide +kernel

/-- A host step of -99 ns is pending. -/
def stepping : State := { beating with time := { beating.time with step := some (-99) } }

/-- The beginning of the commit slot of the beat from 1 s. -/
def commitAt : Tai := 1000025000

theorem witness_ABeatStartsAtItsBoundary :
    let gap := beating.put Fld.BEAT_STATUS_REALIGNING 1
    beating.up = true ∧ 65535 < 65536 ∧ (1000250000 : Nat) = beating.beat.next ∧
      beating.get Fld.BEAT_STATUS_REALIGNING = 0 ∧ beating.beat.started = true ∧ (1000249999 : Nat) ≠ beating.beat.next ∧
      gap.up = true ∧ (1000250000 : Nat) = gap.beat.next ∧ gap.get Fld.BEAT_STATUS_REALIGNING = 1 ∧
      beating.stepWaits = false ∧ stepping.up = true ∧ stepping.stepWaits = true ∧
      (Instr.beatBoundary 65535 0 false [(76, 7)] 1000250000).wf = true := by
  and_intros <;> decide +kernel

/-- Slots 0, 2 and 4 at their ends, with and without an overrun, and a slot that has ended before. -/
theorem witness_OverrunsAreReportedAtTheSlotsEnd :
    let s := slotIn 4 beating
    let done := { s with beat := { s.beat with ended := true } }
    [s, slotIn 0 beating, slotIn 2 beating].all (fun x => x.up && x.beat.started && !x.beat.ended &&
      decide (x.get Fld.BEAT_STATUS_SLOT_CUR < 5) && decide (x.slotStop (x.get Fld.BEAT_STATUS_SLOT_CUR) ≤ (x.at 1000250000).time.now)) = true ∧
      s.slotLate 4 (s.demandNow 4 1001) = true ∧ s.slotLate 4 (s.demandNow 4 1000) = false ∧
      (s.at 1000250000).firstInSecond (0x0201 * 65536 + 4) = true ∧ done.up = true ∧ done.beat.ended = true ∧
      (s.at 1000245999).time.now < s.slotStop 4 := by
  and_intros <;> decide +kernel

def sharesArmed (s : State) : State :=
  { (s.put Fld.BEAT_SLOT_NEXT2_ARM 1).put Fld.BEAT_STATUS_SLOT_ARMED 1 with beat := { s.beat with shareSampled := true } }

def lenArmed (code : Nat) (s : State) : State :=
  { ((s.put Fld.BEAT_LEN_NEXT_ARM 1).put Fld.BEAT_LEN_NEXT_LEN code).put Fld.BEAT_STATUS_LEN_ARMED 1 with
    beat := { s.beat with lenSampled := true } }

/-- Shares whose intake is below its minimum time at 125 us (Table 2.2). -/
def thin : State := (beating.put Fld.BEAT_SLOT_CUR0_LO 50).put Fld.BEAT_SLOT_CUR0_HI 150

theorem witness_ArmedLengthsAndSharesComeIntoForce :
    let shares := sharesArmed beating
    let wrong := shares.put Fld.BEAT_SLOT_NEXT0_INTAKE 1023
    let len := lenArmed 4 beating
    let both := lenArmed 4 { shares with beat := { shares.beat with shareWithLen := true } }
    let short := lenArmed 0 thin
    [shares, wrong, len, both, short].all (fun s => s.up && (s.at 1000000000).atBoundary) = true ∧
      shares.sharesDue = true ∧ (shares.beat.shareWithLen && shares.lenDue) = false ∧ shares.nextErrors shares.beatLen = 0 ∧
      wrong.sharesDue = true ∧ (wrong.beat.shareWithLen && wrong.lenDue) = false ∧ wrong.nextErrors wrong.beatLen ≠ 0 ∧
      len.lenDue = true ∧ len.beat.start % 1000000000 = 0 ∧ (len.sharesDue && len.beat.shareWithLen) = false ∧
      len.shareErrorsNow (beatNs 4) = 0 ∧ both.lenDue = true ∧ (both.sharesDue && both.beat.shareWithLen) = true ∧
      both.nextErrors (beatNs 4) = 0 ∧ short.lenDue = true ∧ (short.sharesDue && short.beat.shareWithLen) = false ∧
      short.shareErrorsNow (beatNs 0) ≠ 0 := by
  and_intros <;> decide +kernel

def late : State := { (beating.put Fld.FAB_STATUS_COMMIT 2) with beat := { beating.beat with commitOverruns := 16 } }

/-- A commit with a time step deferred from an earlier slot. -/
def carried (s : State) : State :=
  { s with cmds := [.step 1, .reefCommit], fab := { s.fab with validated := true }
           beat := { s.beat with deferred := some { cmds := [.step 1, .reefCommit], loads := [], tables := true, bank := false, len := false, shares := false } } }

theorem witness_TheCommitSlotIsWholeOrDeferred :
    let s := slotIn 0 beating
    [s, carried s].all (fun x => x.up && (x.at commitAt).slotOpen 1 && x.get Fld.BEAT_STATUS_SLOT_CUR == 0 &&
      decide (x.beat.commitOverruns < 16)) = true ∧ s.beat.deferred = none ∧ (carried s).beat.deferred ≠ none ∧
      ([0, 47].all fun n => decide (n < 48)) = true ∧ (1000 : Nat) < 1001 ∧ (1000 : Nat) ≤ 1000 ∧
      late.up = true ∧ 16 ≤ late.beat.commitOverruns ∧ late.beat.deferred = none ∧
      ((carried late).beat.deferred.map fun d => d.tables) = some true ∧ 16 ≤ (carried late).beat.commitOverruns ∧
      (carried late).fab.validated = true := by
  and_intros <;> decide +kernel

theorem witness_AcceptedConfigurationComesIntoForce :
    let s := { beating with paced := [Reg.CIPH_TAMPER_CFG, Reg.PIN_CFGp 127], cmds := [.glbLock, .snapGo] }
    let staged := { beating with glb := { beating.glb with bankStaged := true } }
    s.up = true ∧ (s.at commitAt).commitDue = true ∧ comesAlone Reg.CIPH_TAMPER_CFG = true ∧ isPinCfg (Reg.PIN_CFGp 127) = true ∧
      isPinCfg Reg.CIPH_TAMPER_CFG = false ∧ RegCmd.glbLock ∈ s.cmds ∧ staged.up = true ∧
      (staged.at commitAt).commitDue = true ∧ staged.glb.bankStaged = true ∧ staged.glb.phase = .running ∧
      s.glb.bankStaged = false := by
  and_intros <;> decide +kernel

theorem witness_RouteCommitsAreValidatedAndGoLiveWhole :
    let asked := beating.put Fld.FAB_STATUS_COMMIT 1
    let bad := asked.setReg (Reg.RT_SHADOW_ROUTE 4095 0) 0xFFFFFFFF#32
    let valid := domainIn 4 2 { (beating.put Fld.FAB_STATUS_COMMIT 2) with fab := { beating.fab with validated := true } }
    let rearm := domainIn 4 2 { beating with cmds := [.raRearm 4095] }
    4095 < 4096 ∧ asked.up = true ∧ asked.get Fld.FAB_STATUS_COMMIT = 1 ∧ asked.validate = none ∧ bad.up = true ∧
      bad.get Fld.FAB_STATUS_COMMIT = 1 ∧ bad.validate.isSome = true ∧ valid.up = true ∧ valid.fab.validated = true ∧
      (valid.at commitAt).commitDue = true ∧ valid.domain 4 = 2 ∧ rearm.up = true ∧ RegCmd.raRearm 4095 ∈ rearm.cmds ∧
      (rearm.at commitAt).commitDue = true ∧ rearm.domain 4 = 2 := by
  and_intros <;> decide +kernel

/-- A slave lane, port 57. -/
def slave : State := ((run.putBoth (Fld.TIME_PORTp_EN 1) 1).putBoth Fld.TIME_PTP_CFG_PROFILE 3).putBoth (Fld.TIME_PORTp_ANN_TMO 1) 3

def following : State :=
  let s := slave.put Fld.TIME_STATUS_MASTER_PORT (ptpPort 1)
  { s with time := { s.time with sender := 7 } }

theorem witness_TheBestMasterIsFollowedUntilItIsLost :
    let refusing := following.put Fld.TIME_STATUS_STATE 4
    let late := { following with time := { following.time with sync := some (5, 0) } }
    slave.up = true ∧ 12 < 13 ∧ slave.ptpSlaveable 1 = true ∧ announce.path.contains Config.uid.toNat = false ∧
      run.ptpSlaveable 1 = false ∧ slave.masterPort = 0x7F ∧ following.up = true ∧ (following.at 5).announceLate = true ∧
      (following.at 5).syncLate = false ∧ late.up = true ∧ late.masterPort ≠ 0x7F ∧ (late.at 4000000005).syncLate = true ∧
      (refusing.time.refusedAt + 60000000000 ≤ max refusing.time.now 60000000000) ∧
      (max refusing.time.now 5 < refusing.time.refusedAt + 60000000000) ∧
      following.masterPort ≠ 0x7F ∧ following.ptpSlaveable 1 = true ∧ following.masterPort = ptpPort 1 ∧
      following.time.sender = 7 ∧ refusing.up = true ∧ refusing.ptpSlaveable 1 = true ∧ refusing.masterPort = ptpPort 1 ∧
      refusing.timeState = 4 ∧ ((refusing.cur Fld.TIME_JUMP_THR_NS : Nat) : Rat) < absRat 20000 := by
  and_intros <;> decide +kernel

def master : State :=
  (((run.putBoth (Fld.TIME_PORTp_EN 1) 1).putBoth Fld.TIME_PTP_CFG_PROFILE 1).putBoth (Fld.TIME_PORTp_ROLE 1) 1).put (Fld.ETH_Pq_STATUS_STATE 1) 2

theorem witness_PtpMessagesCarryTheirTimes :
    let peer := master.putBoth (Fld.TIME_PORTp_P2P 1) 1
    let end_ :=
      let s := following.put (Fld.ETH_Pq_STATUS_STATE 1) 2
      { s with time := { s.time with syncGap := [(1, 5)], reqSent := [(1, 7)] } }
    let guarded := (master.putBoth (Fld.LSEC_Ll_CTRL_TX_EN 1) 1).putBoth (Fld.LSEC_Ll_CTRL_PTP_BYPASS 1) 0
    let keyed := guarded.putBoth (Fld.LSEC_TXSA_CTRL_VALID 1 0) 1
    let clear := fun (s : State) => !s.secOn 57 || s.on (Fld.LSEC_Ll_CTRL_PTP_BYPASS 1)
    (master.at 5).intervalOver master.time.annSent 1 (intervalNs (master.cur (Fld.TIME_PORTp_LOG_ANNOUNCE 1))) = true ∧
      (end_.at 7).intervalOver end_.time.reqSent 1 (intervalNs (end_.cur (Fld.TIME_PORTp_LOG_DELAY 1))) = false ∧
      (end_.at 8000000007).intervalOver end_.time.reqSent 1 (intervalNs (end_.cur (Fld.TIME_PORTp_LOG_DELAY 1))) = true ∧
      ptpPort 1 = 57 ∧ [master, peer, end_].all clear = true ∧ [guarded, keyed].all (fun s => s.up && s.ptpMaster 1 && !clear s) = true ∧
      guarded.cur (Fld.LSEC_Ll_CTRL_TX_AN 1) = 0 ∧ guarded.cur (Fld.LSEC_TXSA_CTRL_VALID 1 0) = 0 ∧
      keyed.cur (Fld.LSEC_TXSA_CTRL_VALID 1 0) ≠ 0 ∧ keyed.get (Fld.LSEC_TXSA_CTRL_EXHAUSTED 1 0) = 0 ∧
      master.up = true ∧ 1 < 13 ∧ master.ptpMaster 1 = true ∧ master.on (Fld.TIME_PORTp_P2P 1) = false ∧
      run.ptpMaster 12 = false ∧ peer.up = true ∧ peer.ptpOn 1 = true ∧ peer.ptpUp 1 = true ∧
      peer.on (Fld.TIME_PORTp_P2P 1) = true ∧ end_.up = true ∧ end_.ptpOn 1 = true ∧ end_.ptpUp 1 = true ∧
      end_.masterPort = ptpPort 1 ∧ end_.on (Fld.TIME_PORTp_P2P 1) = false ∧ SMap.look end_.time.syncGap 1 = some 5 := by
  and_intros <;> decide +kernel

def beacons : State :=
  ((claim (slotIn 0 beating)).setLive Reg.TIME_BCN_EN0 4#32).put (Fld.CANP_STATUS_STATE 2) 2

theorem witness_StepsAreJudgedAppliedAndOpenTheGap :
    let one := { slotIn 0 beating with cmds := [.snapGo, .step 1] }
    let two := { (slotIn 0 beating).setReg64 Reg.TIME_STEP_VALUE 99 with cmds := [.step 2] }
    let modes := fun (s : State) => s.cmds.filterMap fun (c : RegCmd) =>
      match c with
      | .step m => some m
      | _ => none
    let due := fun (s : State) => s.slotsRun && max s.time.now 1000000000 == s.beat.start && !s.beat.beaconRun &&
      s.beatIndex % s.cur Fld.TIME_BCN_CFG_PERIOD == s.cur Fld.TIME_BCN_CFG_PHASE
    one.up = true ∧ (one.at commitAt).commitDue = true ∧ modes one = [1] ∧ one.time.held.length < 8 ∧ two.up = true ∧
      (two.at commitAt).commitDue = true ∧ modes two = [2] ∧ (one.at commitAt).stepRefusal 1 0 ≠ 0 ∧
      (two.at commitAt).stepRefusal 2 99 = 0 ∧ run.stepWaits = false ∧ (slotIn 4 stepping).up = true ∧
      (slotIn 4 stepping).stepWaits = true ∧ (slotIn 4 stepping).time.step = some (-99) ∧
      ((slotIn 4 stepping).at 1000250000).beatOver = true ∧ ((slotIn 4 stepping).at 1000249999).beatOver = false ∧
      (Instr.timeBeaconDue [(76, 7)] 0).wf = true ∧ due run = false ∧ beacons.up = true ∧ due beacons = true ∧
      (List.range 48).filter beacons.beaconOn = [2] ∧ beacons.beaconAllowed 2 = true := by
  and_intros <;> decide +kernel

/-- Capture unit 15 with both edges. -/
def capturing : State :=
  ((run.putBoth (Fld.TIME_CAPu_CFG_EN 15) 1).putBoth (Fld.TIME_CAPu_CFG_START_EDGE 15) 1).putBoth (Fld.TIME_CAPu_CFG_STOP_EDGE 15) 1

def opened (waiting : Nat) : State :=
  let s := ((capturing.putBoth Fld.TIME_CAP_RING_EN 1).putBoth Fld.TIME_CAP_RING_RING 63).put (Fld.HIF_RXn_STAT_STATE 63) 1
  { s with
    time := { s.time with caps := [(15, { opened := some 1000, waiting := waiting, seq := 0, lost := 0, total := 0, since := 0 })] }
    hif := { s.hif with rx := [(63, { RxRing.fresh with stream := true })] } }

theorem witness_CapturesFormPairs :
    15 < 16 ∧ capturing.up = true ∧ capturing.capEnabled 15 (Fld.TIME_CAPu_CFG_START_EDGE 15) = true ∧
      capturing.capPasses 15 0 = true ∧ (capturing.putBoth (Fld.TIME_CAPu_FILT_FILT 15) 3).capPasses 15 11 = false ∧
      (capturing.capOf 15).opened = none ∧ run.capEnabled 15 (Fld.TIME_CAPu_CFG_START_EDGE 15) = false ∧
      run.capEnabled 15 (Fld.TIME_CAPu_CFG_STOP_EDGE 15) = false ∧
      [opened 7, opened 8].all (fun s => s.up && s.capEnabled 15 (Fld.TIME_CAPu_CFG_STOP_EDGE 15) &&
        (s.capOf 15).opened == some 1000 && s.on Fld.TIME_CAP_RING_EN && s.cur Fld.TIME_CAP_RING_RING == 63) = true ∧
      ((opened 7).capOf 15).waiting < 8 ∧ (opened 7).get (Fld.HIF_RXn_STAT_STATE 63) = 1 ∧
      ((opened 7).rxRing 63).stream = true ∧ 8 ≤ ((opened 8).capOf 15).waiting ∧
      ((opened 7).putBoth Fld.TIME_CAP_RING_EN 0).on Fld.TIME_CAP_RING_EN = false := by
  and_intros <;> decide +kernel

/-- TX ring 63 in a state of Table 4.4, with an entry that no message has told of. -/
def txIn (state : Nat) : State :=
  { run.put (Fld.HIF_TXn_STAT_STATE 63) state with hif := { run.hif with tx := [(63, { TxRing.fresh with since := 1 })] } }

def rxIn (state : Nat) : State :=
  { run.put (Fld.HIF_RXn_STAT_STATE 63) state with hif := { run.hif with rx := [(63, { RxRing.fresh with since := 1 })] } }

theorem witness_HostRingsFollowTheirEnables :
    run.up = true ∧ 63 < 64 ∧ 255 < 256 ∧ run.get Fld.HIF_STATUS_RUNNING = 0 ∧ (txIn 0).txState 63 = 0 ∧
      (txIn 1).txState 63 = 1 ∧ (txIn 3).txState 63 = 3 ∧ (txIn 2).txState 63 = 2 ∧
      (txIn 2).get (Fld.HIF_TXn_STAT_OUTSTANDING 63) = 0 ∧
      ((txIn 2).put (Fld.HIF_TXn_STAT_OUTSTANDING 63) 1).get (Fld.HIF_TXn_STAT_OUTSTANDING 63) ≠ 0 ∧
      (rxIn 0).rxState 63 = 0 ∧ (rxIn 1).rxState 63 ≠ 0 ∧ 0 < ((txIn 1).txRing 63).since ∧ 0 < ((rxIn 1).rxRing 63).since ∧
      (txIn 3).up = true ∧ (rxIn 1).up = true ∧
      bit ((run.setReg (Reg.MSIX_PBA 7) 0x80000000#32).reg (Reg.MSIX_PBA (255 / 32))).toNat (255 % 32) = true := by
  and_intros <;> decide +kernel

/-- A running interface with TX ring 63 running, of 4 entries. -/
def hosted : State :=
  let s := ((((slotIn 0 beating).put Fld.HIF_STATUS_RUNNING 1).put Fld.HIF_STATUS_LINK_UP 1).put (Fld.HIF_TXn_STAT_STATE 63) 1).putBoth
    (Fld.HIF_TXn_CFG_QUOTA 63) 1
  { s with hif := { s.hif with linkReady := true, tx := [(63, { TxRing.fresh with log2 := 2, prod := 3, cprod := 2 })] } }

/-- A NOP and an inline FRAME descriptor with CMPL (Table 4.5). -/
def nopBytes : Bytes := [3#8, 1#8] ++ zeros 30

def frameBytes : Bytes := [1#8, 5#8, 5#8] ++ zeros 29

theorem witness_TheIntakeReadsDoorbellsAndDescriptors :
    let r := hosted.txRing 63
    let x := parseDesc frameBytes none
    let again := { hosted with beat := { hosted.beat with intakeRun := true } }
    hosted.up = true ∧ 63 < 64 ∧ (run.at 0).slotOpen 0 = false ∧ again.up = true ∧ again.beat.intakeRun = true ∧
      pageOk [(0x40, 0), (0x33C, 1)] = true ∧ (hosted.at 1000000000).slotOpen 0 = true ∧
      hosted.beat.intakeRun = false ∧ hosted.glb.phase = .running ∧ (slotIn 0 beating).get Fld.HIF_STATUS_RUNNING = 0 ∧
      ((slotIn 0 beating).at 1000000000).slotOpen 0 = true ∧ hosted.get Fld.HIF_STATUS_RUNNING = 1 ∧ hosted.hostUp = true ∧
      hosted.txState 63 = 1 ∧ (∀ m < 64, m ≠ 63 → hosted.txState m = 0) ∧ (∀ m < 64, hosted.rxState m = 0) ∧
      wraps 4 r.prod = false ∧ idxSub 4 r.fetch ≤ 2 ^ r.log2 ∧ wraps 2 r.cack = false ∧ idxSub 2 r.cack ≤ idxSub r.cprod r.cack ∧
      wraps 2 r.prod = true ∧ 2 ^ r.log2 < idxSub 5 r.fetch ∧ r.prod < 2 ^ 32 ∧ r.cack < 2 ^ 32 ∧ r.fetch ≠ r.prod ∧
      idxSub r.prod r.fetch ≤ 2 ^ r.log2 ∧ (parseDesc nopBytes none).opcode = 3 ∧ (parseDesc nopBytes none).cmpl = true ∧
      r.dead = false ∧ r.owed + 1 + idxSub r.cprod r.cack ≤ 2 ^ r.log2 ∧ 1 ≤ hosted.cur (Fld.HIF_TXn_CFG_QUOTA 63) ∧
      hosted.updState ≠ 5 ∧ x.opcode = 1 ∧ x.cmpl = true ∧ x.inline = true ∧ hosted.descRefused x = false ∧
      x.blocks 0 ≤ hosted.freeBlocks := by
  and_intros <;> decide +kernel

def doneAt63 : Completion :=
  { ring := 63, status := 0, replay := false, tag := 9, epoch := 1, egTotal := 1, egFail := 0, time := 5, flow := none, gap := false }

def writing : State :=
  let s := domainIn 18 0 (slotIn 2 hosted)
  { s with hif := { s.hif with finals := [doneAt63] } }

theorem witness_TheWritebackShowsTheUnitAndServesTheHost :
    let idle := { writing with hif := { writing.hif with finals := [] } }
    let boot := { writing with glb := { writing.glb with phase := .recovery } }
    let ended := { slotIn 3 writing with beat := { writing.beat with ended := true } }
    [writing, idle, boot, ended].all (fun s => s.up && (s.at 1000225000).slotOpen 4 && decide (s.get Fld.BEAT_STATUS_SLOT_CUR < 4)) = true ∧
      writing.get Fld.BEAT_STATUS_SLOT_CUR ≠ 3 ∧ ended.beat.ended = true ∧ (slotIn 4 writing).up = true ∧
      (writing.at 1000224999).slotOpen 4 = false ∧ boot.glb.phase ≠ .running ∧ writing.glb.phase = .running ∧
      writing.hostUp = true ∧ writing.hif.linkReady = true ∧
      writing.get Fld.HIF_STATUS_RUNNING = 1 ∧ writing.nestPowered = false ∧ writing.updState ≠ 5 ∧
      writing.mgt.snapDue = false ∧ writing.mgt.snapHeld = [] ∧ (∀ m < 64, writing.rxState m = 0) ∧ idle.hif.finals = [] ∧
      writing.hif.finals = [doneAt63] ∧ doneAt63.ring < 64 ∧ doneAt63.flow = none ∧ (writing.txRing 63).dead = false ∧
      writing.txState 63 ≠ 0 ∧ (∀ unit ∈ registryUnits, (writing.word unit).epoch < 65536 ∧ (writing.word unit).code < 65536) := by
  and_intros <;> decide +kernel

def fetched (dest : Nat) : Fetched :=
  { ring := 63, gen := 0, desc := { opcode := 1, flags := 1, dest := dest, format := 0, id := 0x123, len := 3, tag := 9, aux := 0,
                                    bufAddr := 0, raw := zeros 32, payload := some [1#8, 2#8, 3#8] } }

def holding (x : Fetched) (s : State) : State := { s with hif := { s.hif with fetched := [x] } }

/-- A valid route for the destination key 5 of the host, index 4095, to port 46 or to no port. -/
def hostRoute (egress : Nat) (s : State) : State :=
  let s := s.setReg (Reg.RT_LIVE_ROUTE 4095 0) (BitVec.ofNat 32 (1 + 78 * 256))
  let s := s.setReg (Reg.RT_LIVE_ROUTE 4095 3) (BitVec.ofNat 32 (63 + 5 * 256))
  (s.setReg (Reg.RT_LIVE_ROUTE 4095 5) (BitVec.ofNat 32 egress)).setReg (Reg.RT_LIVE_ROUTE 4095 6) 0xFFFF0000#32

theorem witness_HostFramesEnterTheFabricOrComplete :
    let miss := holding (fetched 5) run
    let r := hosted.txRing 63
    let sends := claim (domainIn 10 2 (domainIn 4 2 (hostRoute (2 ^ 14) (holding (fetched 5) (run.put (Fld.CANP_STATUS_STATE 46) 2)))))
    63 < 64 ∧ run.up = true ∧ hosted.up = true ∧ nopBytes.headD 0#8 = 3#8 ∧ (hosted.at 1000000000).slotOpen 0 = true ∧
      hosted.glb.phase = .running ∧ hosted.get Fld.NVM_UPD_STATUS_STATE ≠ 5 ∧ hosted.get Fld.HIF_STATUS_RUNNING = 1 ∧
      hosted.hostUp = true ∧ hosted.txState 63 = 1 ∧ r.fetch ≠ r.prod ∧ (parseDesc nopBytes none).opcode = 3 ∧
      (parseDesc nopBytes none).cmpl = true ∧ r.dead = false ∧ r.owed + 1 + idxSub r.cprod r.cack ≤ 2 ^ r.log2 ∧
      run.get Fld.HIF_STATUS_RUNNING = 0 ∧ (takeFetched 63 1 run.hif.fetched).isNone = true ∧
      (takeFetched 63 1 miss.hif.fetched).isSome = true ∧ (fetched 5).desc.cmpl = true ∧ (fetched 5).gen = (run.txRing 63).gen ∧
      (run.txRing 63).dead = false ∧
      (match (run.looked 78 (some (63, 5)) (wire 0)).1 with
       | .miss => true
       | .route _ => false) = true ∧
      (match ((hostRoute 0 run).looked 78 (some (63, 5)) (wire 0)).1 with
       | .miss => false
       | .route r => r.egress == []) = true ∧
      (match (sends.looked 78 (some (63, 5)) (wire 0)).1 with
       | .miss => false
       | .route r => r.egress == [46] && decide (1024 ≤ r.limiter) && !r.afaCheck && !r.afaAdd && r.xlate == 0) = true ∧
      sends.up = true ∧ (takeFetched 63 1 sends.hif.fetched).isSome = true ∧ sends.domain 4 = 2 ∧ sends.claimed = true ∧
      sends.domain (domainOf 46) = 2 ∧ sends.canState 46 = 2 ∧ sends.on (Fld.CANP_MODE_LISTEN 46) = false ∧
      sends.get (Fld.REEF_PORTn_STAT_STATE 46) ≠ 2 ∧ (run.put Fld.NVM_UPD_STATUS_STATE 1).get Fld.NVM_UPD_STATUS_STATE = 1 := by
  and_intros <;> decide +kernel

/-- CAN port 47 in a state of Table 7.5 with its error counters. -/
def canIn (state tec rec_ : Nat) (s : State) : State :=
  (((domainIn 10 2 s).put (Fld.CANP_STATUS_STATE 47) state).put (Fld.CANP_ECNT_TEC 47) tec).put (Fld.CANP_ECNT_REC 47) rec_

def enabled (s : State) : State := s.putBoth (Fld.CANP_MODE_EN 47) 1

def someRoute : Route :=
  { index := 4095, ctrl := 0, ingress := 47, cls := 7, xlate := 0, key := 0, mask := 0, hkeyRing := 0, hkeyDest := 0, authProf := 0,
    rxRing := 0, egress := [46], limiter := 0xFFFF, outId := 0, auth := [0, 0, 0, 0], tun := [] }

def frameAt (ingress : Nat) (cls : Nat) (w : Wire) : Frame :=
  { origin := .routed, ingress := ingress, wire := w, stamp := 5, dur := none, route := none, cls := cls, auth := 0, fseq := 0, blk := 0,
    blocks := 1, replay := false, woken := false, outWin := false, host := none, mkey := 0, mroute := 0, opened := [47],
    total := 1, done := [], prior := none }

def copyTo (port : Nat) (w : Wire) : Copy :=
  { fid := 0, port := port, wire := w, ready := true, addAfa := false, ahead := false, attempts := 0 }

/-- A frame in packet memory, with a copy that is being sent on a port. -/
def sendingOn (port : Nat) (f : Frame) (c : Copy) (s : State) : State :=
  { s with fab := { s.fab with frames := [(0, f)], sending := [(port, c)], nextFid := 1 } }

/-- A frame in packet memory, with a copy at the head of a queue. -/
def queuedOn (port cls : Nat) (f : Frame) (c : Copy) (s : State) : State :=
  { s with fab := { s.fab with frames := [(0, f)], queues := [(8 * port + cls, [c])], nextFid := 1 } }

/-- A timing that came into force in the middle of a frame. -/
def timingOwed : State :=
  let s := canIn 2 0 0 run
  { s with can := [(47, { s.canOf 47 with integrateAfter := true })] }

/-- Error active, error passive at the edge of bus off, driving with the claim, bus off, integrating. -/
theorem witness_CanErrorsAreCountedAndMoveTheState :
    let active := canIn 2 0 0 run
    let passive := canIn 3 255 135 run
    let drives := enabled (claim active)
    let losing := sendingOn 47 (frameAt 5 7 (wire 0)) (copyTo 47 (wire 0)) active
    47 < 48 ∧ active.up = true ∧ active.canState 47 = 2 ∧ active.sending 47 = none ∧ SMap.look active.fab.arrivals 47 = none ∧
      passive.up = true ∧ passive.canState 47 = 3 ∧ passive.get (Fld.CANP_ECNT_TEC 47) ≤ 255 ∧ passive.sending 47 = none ∧
      drives.up = true ∧ drives.canDrives 47 = true ∧ drives.sending 47 = none ∧ drives.canState 47 = 2 ∧
      SMap.look passive.fab.arrivals 47 = none ∧ SMap.look drives.fab.arrivals 47 = none ∧ 255 < (passive.get (Fld.CANP_ECNT_TEC 47)) + 8 ∧
      (active.canOf 47).silent = false ∧ (claim active).frozen 47 = false ∧ (claim active).up = true ∧ (claim active).canState 47 = 2 ∧ (timingOwed.canOf 47).integrateAfter = true ∧ timingOwed.up = true ∧
      timingOwed.canState 47 = 2 ∧ (copyTo 47 (wire 0)).ahead = false ∧ (copyTo 47 (wire 0)).last = false ∧
      (frameAt 5 7 (wire 0)).host = none ∧ (active.canOf 47).excepted = false ∧
      (active.at 1000).firstInSecond (0x0705 * 65536 + 47) = true ∧ (canIn 4 256 0 run).up = true ∧
      (canIn 4 256 0 run).get (Fld.CANP_STATUS_BOFF_SEQ 47) + 127 < 128 ∧
      ¬ (canIn 4 256 0 run).get (Fld.CANP_STATUS_BOFF_SEQ 47) + 128 < 128 ∧
      losing.up = true ∧ losing.sending 47 = some (copyTo 47 (wire 0)) ∧ losing.frame? 0 = some (frameAt 5 7 (wire 0)) ∧
      (losing.canOf 47).noRetry = false ∧ active.canKind 47 < 2 ∧ (canIn 4 256 0 run).canState 47 = 4 ∧
      (canIn 1 128 0 run).canState 47 = 1 := by
  and_intros <;> decide +kernel

theorem witness_CanPortsFollowTheirModesAndTiming :
    let off := canIn 0 0 0 run
    let dark := domainIn 10 0 off
    let owing := off.put (Fld.CANP_STATUS_BOFF_PENDING 47) 1
    let timed := { domainIn 10 2 (canIn 2 0 0 (slotIn 0 beating)) with cmds := [.canTiming 47] }
    let wrong := timed.setReg (Reg.CANP_NBT 47) 0#32
    [off, dark, owing, timed, wrong].all (fun s => s.up) = true ∧ 47 < 48 ∧ off.canState 47 = 0 ∧ dark.isolated (domainOf 47) = true ∧ dark.canState 47 = 0 ∧
      off.isolated (domainOf 47) = false ∧ owing.canState 47 = 0 ∧ owing.isolated (domainOf 47) = false ∧ off.get (Fld.CANP_STATUS_BOFF_PENDING 47) ≠ 1 ∧
      owing.get (Fld.CANP_STATUS_BOFF_PENDING 47) = 1 ∧ timed.canState 47 ≠ 0 ∧ timed.cmds.contains (.canTiming 47) = true ∧
      timed.timingErrors 47 = 0 ∧ wrong.timingErrors 47 ≠ 0 ∧ timed.sending 47 = none ∧
      (timed.at commitAt).commitDue = true ∧ (wrong.at commitAt).commitDue = true ∧ timed.domain (domainOf 47) = 2 ∧
      wrong.cmds.contains (.canTiming 47) = true ∧ wrong.liveRoutes = [] ∧ (timed.at 5).commitDue = false := by
  and_intros <;> decide +kernel

/-- Port 47 receives for port 46, both error active, with packet memory powered and the claim held. -/
def bridge : State :=
  claim ((domainIn 4 2 (enabled (canIn 2 0 0 run))).put (Fld.CANP_STATUS_STATE 46) 2)

def arrival (f : Option Nat) (r : Route) : Arrival :=
  { looked := .route r, rejected := false, fid := f, gone := false, wire := wire 0, stamp := 5, at_ := 1000 }

def arrived (s : State) (f : Option Nat) (r : Route) : State :=
  { s with fab := { s.fab with arrivals := [(47, arrival f r)] } }

theorem witness_CanFramesAreLookedUpQueuedAndSent :
    let came := arrived bridge none someRoute
    let waits := queuedOn 47 7 (frameAt 5 7 (wire 0)) (copyTo 47 (wire 0)) bridge
    let own : Frame := { frameAt 78 7 (wire 0) with host := some { ring := 63, tag := 9, cmpl := true, oneShot := false, dest := 0, gen := 0 } }
    let sends := sendingOn 47 own (copyTo 47 (wire 0)) bridge
    [bridge, came, waits, sends].all (fun s => s.up) = true ∧ 76 < 77 ∧ ((76 : Nat) < 48 → False) ∧ (77 : Nat) ≤ 77 ∧ bridge.canState 47 = 2 ∧
      (wire 0).kind ≤ bridge.canKind 47 ∧ bridge.get (Fld.CANP_ECNT_TEC 47) ≤ 255 ∧ SMap.look bridge.fab.arrivals 47 = none ∧
      SMap.look came.fab.arrivals 47 = some (arrival none someRoute) ∧
      someRoute.egress = [46] ∧ 46 < 48 ∧ 1024 ≤ someRoute.limiter ∧ someRoute.afaCheck = false ∧ someRoute.afaAdd = false ∧
      someRoute.xlate = 0 ∧ came.cur Fld.FAB_HOSTBUF_BLOCKS < came.freeBlocks ∧ came.domain 4 = 2 ∧ came.claimed = true ∧
      came.domain (domainOf 46) = 2 ∧ came.canState 46 = 2 ∧ came.on (Fld.CANP_MODE_LISTEN 46) = false ∧ came.get (Fld.REEF_PORTn_STAT_STATE 46) ≠ 2 ∧
      (bridge.canOf 47).excepted = false ∧ (came.canOf 47).excepted = false ∧ (waits.canOf 47).excepted = false ∧
      came.sending 46 = none ∧ came.queueLen 46 7 < came.cur (Fld.FAB_QCFGp_c_DEPTH 46 7) ∧ run.canDrives 47 = false ∧
      waits.canDrives 47 = true ∧ waits.sending 47 = none ∧ waits.hal.yielding = false ∧ waits.domain (domainOf 47) ≠ 4 ∧
      waits.pick 47 = some (7, copyTo 47 (wire 0)) ∧ waits.txWakeAllows 47 (copyTo 47 (wire 0)) = true ∧
      sends.sending 47 = some (copyTo 47 (wire 0)) ∧ sends.frame? 0 = some own ∧ own.opened = [47] ∧ own.done = [] ∧
      sends.get (Fld.CANP_ECNT_TEC 47) ≤ 255 ∧ own.origin = .routed ∧ own.auth ≠ 3 ∧ (sends.txRing 63).gen = 0 ∧ (sends.txRing 63).dead = false := by
  and_intros <;> decide +kernel

/-- No acceptance entry matches and the default rejects (R183). -/
theorem witness_CanFramesAreLookedUpQueuedAndSent_rejected :
    let s := bridge.putBoth (Fld.CANP_ACC_CFG_DEFAULT 47) 1
    s.up = true ∧ s.accRejects 47 (wire 0) = true ∧ SMap.look s.fab.arrivals 47 = none ∧ (wire 0).kind ≤ s.canKind 47 := by
  and_intros <;> decide +kernel

def raRoute : Route := { someRoute with ctrl := 3 }

theorem witness_RunAheadCopiesStartAndMeetTheirDeadline :
    let s := arrived ((queuedOn 46 7 (frameAt 47 7 (wire 0)) (copyTo 46 (wire 0)) bridge).put (Fld.FAB_RA_STATj_ACTIVE 4095) 1) (some 0) raRoute
    let eth := (arrived ((queuedOn 60 7 (frameAt 47 7 (wire 0)) (copyTo 60 (wire 0)) (domainIn (domainOf 60) 2 (bridge.put (Fld.ETH_Pq_STATUS_STATE 4) 2))).put
      (Fld.FAB_RA_STATj_ACTIVE 4095) 1) (some 0) { raRoute with egress := [60] })
    let x : RaFrame := { route := 4095, ingress := 47, started := [46], completed := [], past := [], valid := false, cancelled := false }
    let runs := { sendingOn 46 (frameAt 47 7 (wire 0)) { copyTo 46 (wire 0) with ahead := true } bridge with ra := [(0, x)] }
    let good := { runs with ra := [(0, { x with valid := true })] }
    [s, eth, runs, good].all (fun s => s.up) = true ∧ 47 < 48 ∧ 46 < 77 ∧ SMap.look bridge.fab.arrivals 47 = none ∧
      SMap.look s.fab.arrivals 47 = some (arrival (some 0) raRoute) ∧
      raRoute.runAhead = true ∧ 46 ∈ raRoute.external ∧ s.raPortReady 4095 46 7 (some 0) = true ∧ (s.at 1000000).raTime (arrival (some 0) raRoute) raRoute 47 46 = true ∧
      s.raTime { arrival (some 0) raRoute with at_ := 1000000000000 } raRoute 47 46 = false ∧ (copyTo 46 (wire 0)).attempts = 0 ∧
      eth.up = true ∧ eth.raPortReady 4095 60 7 (some 0) = true ∧ 60 ∈ ({ raRoute with egress := [60] } : Route).external ∧
      (eth.at 1000000).raTime (arrival (some 0) { raRoute with egress := [60] }) { raRoute with egress := [60] } 47 60 = true ∧
      eth.queue 60 7 = [copyTo 60 (wire 0)] ∧ eth.secOn 60 = false ∧ eth.frame? 0 = some (frameAt 47 7 (wire 0)) ∧
      good.sending 46 = some { copyTo 46 (wire 0) with ahead := true } ∧ s.queue 46 7 = [copyTo 46 (wire 0)] ∧
      bridge.sending 46 = none ∧ runs.sending 46 = some { copyTo 46 (wire 0) with ahead := true } ∧ runs.raOf 0 = some x ∧
      good.raOf 0 = some { x with valid := true } ∧ x.valid = false ∧ x.cancelled = false := by
  and_intros <;> decide +kernel

/-- Reef port 47 in a state of Table 8.1 and a CAN state, managed. -/
def reefIn (reef can : Nat) : State := (((enabled (canIn can 0 0 (claim beating))).put (Fld.REEF_PORTn_STAT_STATE 47) reef).putBoth (Fld.REEF_PORTn_CFG_SLEEP_EN 47) 1)

def owesWake (mode : Nat) : State :=
  let s := (reefIn 1 2).putBoth (Fld.REEF_PORTn_TXWAKE_MODE 47) mode
  s.setReef 47 { s.reefOf 47 with txWake := .due }

/-- Muster entry 1023 of port 47 with a window that has closed. -/
def window (misses : Nat) (report : Option Nat) (ran : Bool) : State :=
  ((reefIn 1 2).putBoth (Fld.REEF_MUSm_CTRL_PORT 1023) 47 |>.put (Fld.REEF_MUSm_STAT_MISSES 1023) misses).setWins 1023
    [{ port := 47, start := 10, opens := 5, closes := 20, report := report, settled := none, ran := ran, void := false }]

theorem witness_PortsSleepAndWakeForTheirCauses :
    let asleep := fun mode => (reefIn 2 5).putBoth (Fld.REEF_PORTn_CFG_WAKE_MODE 47) mode
    let errors :=
      let s := (asleep 2).putBoth (Fld.REEF_PORTn_CFG_DEC_WAKE_EN 47) 1
      s.setReef 47 { s.reefOf 47 with decErrs := 32 }
    let quiet :=
      let s := domainIn 11 2 (reefIn 1 2)
      { s with beat := { beating.beat with start := 2000000000, next := 2000250000 }, time := { s.time with now := 2000000000 } }
    let overlap := (asleep 1).setWins 1023 [{ port := 47, start := 10, opens := 5, closes := 20, report := none, settled := none, ran := true, void := false }]
    let delayed := (reefIn 1 2).setReef 47 { (reefIn 1 2).reefOf 47 with txWake := .delay, delayFrom := 1000 }
    let filt := (asleep 1).cur (Fld.REEF_PORTn_CFG_FILT 47) * 250
    [asleep 1, asleep 2, errors, quiet, owesWake 1, overlap, delayed, window 9 none true].all (fun s => s.up) = true ∧ 47 < 48 ∧ 1023 < 1024 ∧
      quiet.maySleep 47 false = true ∧ (quiet.at 2000000000).atBoundary = true ∧ overlap.reefState 47 = 2 ∧
      overlap.spanOverlaps 47 10 11 = true ∧ (asleep 1).spanOverlaps 47 10 11 = false ∧ (delayed.reefOf 47).txWake = .delay ∧
      (delayed.reefOf 47).delayFrom + delayed.cur (Fld.REEF_PORTn_TXWAKE_DELAY_US 47) * 1000 ≤ max delayed.time.now 5000000000 ∧
      (errors.cur (Fld.REEF_PORTn_CFG_WAKE_MODE 47)) = 2 ∧ (reefIn 1 2).maySleep 47 true = false ∧ (asleep 1).reefState 47 = 2 ∧
      (asleep 1).cur (Fld.REEF_PORTn_CFG_WAKE_MODE 47) = 1 ∧ filt ≤ 5000 ∧
      5000 + 5000 + filt ≤ (asleep 1).cur (Fld.REEF_PORTn_CFG_WUP_TMO 47) * 1000 ∧
      (asleep 2).cur (Fld.REEF_PORTn_CFG_WAKE_MODE 47) = 2 ∧ (wire 2).kind ≤ 2 ∧ errors.reefState 47 = 2 ∧
      errors.on (Fld.REEF_PORTn_CFG_DEC_WAKE_EN 47) = true ∧ 32 ≤ (errors.reefOf 47).decErrs ∧ (reefIn 3 5).reefState 47 = 3 ∧
      (reefIn 3 5).canState 47 = 5 ∧
      [0, 1, 2].all (fun m => decide (((owesWake m).reefOf 47).txWake = .due) && (owesWake m).canDrives 47 &&
        decide ((owesWake m).sending 47 = none)) = true ∧
      (let s := (reefIn 1 2).putBoth (Fld.REEF_PORTn_INSOM_INSOMNIA_S 47) 1
       let every := s.cur (Fld.REEF_PORTn_INSOM_INSOMNIA_S 47)
       0 < every ∧ ((s.reefOf 47).insom / every + 1) * every * 1000000000 ≤ s.awakeNs 47 100000000000) ∧
      [window 9 none true, window 0 none false, window 0 (some 1) true].all (fun s =>
        ((s.winsOf 1023).filter fun (x : MusterWin) => x.settled.isNone && decide (x.closes ≤ 20)).getLast?.isSome) = true ∧
      musterVoid ((window 9 none true).get (Fld.CANP_STATUS_STATE 47)) = false ∧
      ((window 9 none true).putBoth (Fld.REEF_MUSm_CTRL_VALID 1023) 1).on (Fld.REEF_MUSm_CTRL_VALID 1023) = true ∧
      (window 9 none true).cur (Fld.REEF_MUSm_CTRL_PORT 1023) = 47 := by
  and_intros <;> decide +kernel

theorem witness_PortsSleepAndWakeForTheirCauses_commit :
    let s := { (slotIn 0 beating).setReg (Reg.REEF_WKn_w_KEY 47 3) 77#32 with cmds := [.reefCommit] }
    let wrong := { (slotIn 0 beating).setReg (Reg.REEF_PORTn_CFG 47) 0#32 with cmds := [.reefCommit] }
    s.up = true ∧ s.cmds.contains .reefCommit = true ∧ (s.at commitAt).commitDue = true ∧ (wrong.at commitAt).commitDue = true ∧ s.reefErrors = 0 ∧ wrong.up = true ∧
      wrong.cmds.contains .reefCommit = true ∧ wrong.reefErrors ≠ 0 := by
  and_intros <;> decide +kernel

/-- An Ethernet-type port in a state of Table 9.2, its domain and packet memory on, with the claim. -/
def ethIn (port state : Nat) : State :=
  let s := claim (domainIn (domainOf port) 2 (domainIn 4 2 run))
  if port < 56 then s.put (Fld.T1S_Ss_STATUS_STATE (port - 48)) state else s.put (Fld.ETH_Pq_STATUS_STATE (port - 56)) state

def ethData (s : State) (port n : Nat) : Bytes := s.ownMac port ++ [1#8, 2#8, 3#8, 4#8, 5#8, 6#8, 0x12#8, 0x34#8] ++ zeros n

def plca : State := ((ethIn 55 2).putBoth (Fld.T1S_Ss_CFG_PLCA_EN 7) 1).putBoth (Fld.T1S_Ss_CFG_NODE_ID 7) 0

/-- A valid route with RAW_KEY and no egress for everything that port 59 receives. -/
def ethRoute : State := (ethIn 59 2).setReg (Reg.RT_LIVE_ROUTE 4095 0) (BitVec.ofNat 32 (0x21 + 59 * 256))

theorem witness_EthernetFramesLinksAndPlcaFollowTheManual :
    let s := ethIn 59 2
    let w := { wire 3 with id := 0, data := ethData s 59 46 }
    let other := 2#8 :: ethData s 59 46
    let sends := queuedOn 59 7 (frameAt 5 7 w) (copyTo 59 w) (ethIn 59 2)
    let busy := sendingOn 59 (frameAt 5 7 w) (copyTo 59 w) (ethIn 59 2)
    let t1s := sendingOn 55 (frameAt 5 7 { w with kind := 4 }) (copyTo 55 { w with kind := 4 }) (ethIn 55 2)
    [s, ethIn 59 1, sends, busy, plca, ethRoute, t1s, ethIn 60 2, ethIn 48 2].all (fun s => s.up) = true ∧ (ethIn 59 1).ethState 59 ≠ 2 ∧
      s.ethState 59 = 2 ∧ s.on (Fld.LSEC_Ll_CTRL_RX_EN 3) = false ∧ (ethData s 59 45).length + 4 < 64 ∧
      64 ≤ (ethData s 59 46).length + 4 ∧ (ethData s 59 2102).length + 4 ≤ 2120 ∧ (ethData s 59 46).take 6 = s.ownMac 59 ∧
      other.take 6 ≠ s.ownMac 59 ∧ groupMac other = false ∧ s.on (Fld.ETH_Pq_MODE_PROMISC 3) = false ∧
      etherType (ethData s 59 46) ∉ [0x8808, 0x0806, 0x0800, 0x86DD] ∧ s.isPtp 59 (ethData s 59 46) = false ∧
      (match ethRoute.lookup 59 none { wire 3 with id := 0, data := ethData s 59 46 } with
       | .route r => r.egress == []
       | .miss => false) = true ∧
      s.released 59 = false ∧ (ethIn 55 1).ethMay 55 = false ∧ sends.ethMay 59 = true ∧ sends.pick 59 = some (7, copyTo 59 w) ∧
      sends.frame? 0 = some (frameAt 5 7 w) ∧ w.kind = 3 ∧ s.on (Fld.LSEC_Ll_CTRL_TX_EN 3) = false ∧
      busy.sending 59 = some (copyTo 59 w) ∧ (ethIn 60 1).ethState (56 + 4) = 1 ∧ (ethIn 60 1).lsecHolds (56 + 4) = false ∧
      (ethIn 60 2).ethState (56 + 4) = 2 ∧ plca.ethState (48 + 7) = 2 ∧ plca.on (Fld.T1S_Ss_CFG_PLCA_EN 7) = true ∧
      plca.beaconing 7 = true ∧ plca.get (Fld.T1S_Ss_STATUS_PLCA_STATUS 7) = 0 ∧
      (copyTo 55 w).attempts < 16 ∧ (copyTo 55 w).last = false ∧ ({ copyTo 55 w with attempts := 16 } : Copy).attempts = 16 ∧
      (plca.at 5).firstInSecond (0x0A03 * 65536 + 7) = true ∧ plca.released 55 = false ∧ plca.eth.mdio = none ∧
      (plca.put (Fld.T1S_Ss_STATUS_PLCA_STATUS 7) 1).get (Fld.T1S_Ss_STATUS_PLCA_STATUS 7) = 1 ∧
      plca.sending (48 + 7) = none ∧ t1s.sending (48 + 7) = some (copyTo 55 { w with kind := 4 }) := by
  and_intros <;> decide +kernel

theorem witness_EthernetFramesLinksAndPlcaFollowTheManual_idle :
    let s := ethIn 55 2
    s.up = true ∧ s.ethState 55 = 2 ∧ s.released 55 = false ∧
      ({ s with hal := { s.hal with yielding := true } }).ethMay 55 = false := by
  and_intros <;> decide +kernel

/-- Serial channel 15, active. -/
def serial : State := claim (domainIn 13 2 (run.put (Fld.SER_Cc_STATUS_STATE 15) 2))

theorem witness_SerialChannelsAssembleAndSendFrames :
    let sends := queuedOn 76 7 (frameAt 5 7 (wire 5)) (copyTo 76 (wire 5)) serial
    let busy := sendingOn 76 (frameAt 5 7 (wire 5)) (copyTo 76 (wire 5)) serial
    let open_ := { serial with ser := [(15, { SerChan.fresh with frame := some { stamp := 5, bytes := [1#8], parity := false, framing := false, brk := false, overrun := false, noise := false, until_ := 1000 } })] }
    [run, serial, sends, busy, open_].all (fun s => s.up) = true ∧ 15 < 16 ∧ run.get (Fld.SER_Cc_STATUS_STATE 15) ≠ 2 ∧
      serial.get (Fld.SER_Cc_STATUS_STATE 15) = 2 ∧ serial.get (Fld.SER_Cc_STATUS_DE 15) = 0 ∧
      (serial.put (Fld.SER_Cc_STATUS_DE 15) 1).get (Fld.SER_Cc_STATUS_DE 15) = 1 ∧
      serial.serDeaf 15 2000 = false ∧ (serial.serOf 15).low = false ∧ [false].head? = some false ∧
      majority (bitSamples [false] 0) = true ∧ ([true, false, true, false, true, false, true, false] : List Bool).length = 8 ∧
      (serial.serOf 15).cfgAt ≤ 32000 / 16 ∧ (serial.putBoth (Fld.SER_Cc_CFG_RE_MODE 15) 1).on (Fld.SER_Cc_CFG_RE_MODE 15) = true ∧
      (serial.serOf 15).freeAt ≤ max serial.time.now 5 ∧ serData (serial.liveReg (Reg.SER_Cc_CFG 15)).toNat = 8 ∧
      serParity (serial.liveReg (Reg.SER_Cc_CFG 15)).toNat = 0 ∧ serial.cur Fld.FAB_HOSTBUF_BLOCKS < serial.freeBlocks ∧
      serial.on (Fld.SER_Cc_FRAME_DELIM_EN 15) = false ∧ 0 + 1 < serial.cur (Fld.SER_Cc_FRAME_MAX_LEN 15) ∧
      (open_.serOf 15).frame.isSome = true ∧ sends.sending (61 + 15) = none ∧ sends.domain 13 ≠ 4 ∧ sends.claimed = true ∧
      sends.hal.yielding = false ∧ sends.pick (61 + 15) = some (7, copyTo 76 (wire 5)) ∧
      busy.sending (61 + 15) = some (copyTo 76 (wire 5)) := by
  and_intros <;> decide +kernel

def keyOfOnes : KeySlot := { key := List.replicate 16 1#8, resv := 0 }

/-- Key slot 63 loaded with every usage attribute, in state 1 of Table 11.1. -/
def keyed (s : State) : State :=
  let s := (((domainIn 3 2 s).put (Fld.CIPH_KSn_STAT_STATE 63) 1).put (Fld.CIPH_KSn_STAT_ATTR 63) 63)
  { s with ciph := { s.ciph with keys := [(63, keyOfOnes)] } }

def loadOf (slot : Nat) : KeyLoad := { slot := slot, size := 0, attr := 63, limit := 5, key := List.replicate 16 2#8, prior := 0 }

theorem witness_KeysGoLiveRetireAndAreErased :
    let start := domainIn 3 2 (slotIn 0 beating)
    let loads := { start with ciph := { start.ciph with loads := [loadOf 63, loadOf 0] } }
    let retires := { keyed (slotIn 0 beating) with cmds := [.keyRetire 63] }
    let limited := (keyed run).setLive (Reg.CIPH_KSn_WARN 63) 5#32
    let warned := limited.setReg (Reg.CIPH_KSn_LIMIT 63) 5#32
    let used := (limited.setReg (Reg.CIPH_KSn_LIMIT 63) 5#32).setReg64 (Reg.CIPH_KSn_USED 63) 5
    let writes := { start with cmds := [.fvWrite 2 47 9] }
    [loads, retires, keyed run, warned, writes, run].all (fun s => s.up) = true ∧ 63 < 64 ∧ (run.at commitAt).commitDue = false ∧
      (loads.at commitAt).commitDue = true ∧ loads.domain 3 = 2 ∧ loadOf 63 ∈ loads.ciph.loads ∧
      (∀ x ∈ loads.ciph.loads, x.slot < 64 ∧ (x.slot = 63 → x = loadOf 63)) ∧ (loadOf 63).attr < 64 ∧ (loadOf 63).size < 4 ∧
      (retires.at commitAt).commitDue = true ∧ retires.cmds.contains (.keyRetire 63) = true ∧ (retires.keyOf 63).isSome = true ∧
      (∀ l ∈ retires.ciph.loads, l.slot ≠ 63) ∧ ((keyed run).keyOf 63).isSome = true ∧
      (used.keyLimit 63 ≤ used.keyUsed 63 ∧ used.up = true ∧ (used.keyOf 63).isSome = true) ∧ (warned.keyOf 63).isSome = true ∧
      (warned.liveReg (Reg.CIPH_KSn_WARN 63)).toNat ≠ 0 ∧
      warned.keyUsed 63 + (warned.liveReg (Reg.CIPH_KSn_WARN 63)).toNat = warned.keyLimit 63 ∧
      (run.at 5).ciphAlarmHolds 2 (135 * 64 + 1) false = true ∧ (run.at 5).ciphAlarmHolds 2 (135 * 64) false = false ∧
      (writes.at commitAt).commitDue = true ∧ writes.domain 3 = 2 ∧ RegCmd.fvWrite 2 47 9 ∈ writes.cmds ∧
      (∀ tb i x, RegCmd.fvWrite tb i x ∈ writes.cmds → tb = 2 ∧ i = 47 ∧ x = 9) := by
  and_intros <;> first | decide +kernel | (intro tb i x h; simpa [run] using h)

/-- Route 4095 with the authentication profile: key slot 63, AFA-8, 16 bits of lane. -/
def checkedRoute : Route := { someRoute with ctrl := 1, auth := [63, 0, 0, 0] }

def tagged (tagBytes : Bytes) : Wire := { wire 0 with data := [1#8, 2#8] ++ trailer false 1 tagBytes }

def checking (s : State) : State :=
  let s := keyed (slotIn 1 s)
  { s with fab := { s.fab with frames := [(0, { frameAt 47 7 (tagged (zeros 4)) with route := some checkedRoute, auth := 1 })],
                               authq := [.check 0], nextFid := 1 } }

def jobOf (op len : Nat) : Job :=
  { ring := 63, gen := 0, tag := 9, cmpl := true, op := op, slot := 63, target := 62, attr := 0, alen := 0, len := len, aux := 0,
    dst := 0x1000, input := zeros len, blocks := 1, stops := 0, running := false, late := false }

/-- The service slot of a beat from 1 s with one host job; key slot 62 holds a key as well. -/
def serving (j : Job) (slot : Nat) : State :=
  let s := (keyed (slotIn slot beating)).put (Fld.CIPH_KSn_STAT_ATTR 62) 63
  let s := s.put (Fld.CIPH_KSn_STAT_STATE 62) 1
  { s with ciph := { s.ciph with keys := [(62, keyOfOnes), (63, keyOfOnes)], jobs := [j] } }

theorem witness_CipherSlotsCheckFramesAndRunJobs :
    let s := checking beating
    let f := { frameAt 47 7 (tagged (zeros 4)) with route := some checkedRoute, auth := 1 }
    let stopped := serving { jobOf 1 16 with stops := 3 } 3
    let at2 : Tai := 1000050000
    let at3 : Tai := 1000150000
    [run, slotIn 1 beating, slotIn 2 beating, s, stopped].all (fun s => s.up) = true ∧ (run.at 5).slotOpen 2 = false ∧
      (run.at 5).slotOpen 3 = false ∧ ((slotIn 1 beating).at at2).slotOpen 2 = true ∧ (slotIn 1 beating).fab.authq = [] ∧
      (s.at at2).slotOpen 2 = true ∧ s.fab.authq = [.check 0] ∧ s.frame? 0 = some f ∧ f.route = some checkedRoute ∧
      ((s.at at2).enterSlot 2).beat.used + ((s.at at2).enterSlot 2).jobCycles (.check 0) ≤ ((s.at at2).enterSlot 2).slotCycles 2 ∧
      f.wire.rtr = false ∧ checkedRoute.afa12 = false ∧ checkedRoute.altEn = false ∧ s.keyOf 63 = some keyOfOnes ∧
      checkedRoute.keySlot = 63 ∧ s.keyAttr 63 attrAfa = true ∧ f.wire.data = [1#8, 2#8] ++ trailer false 1 (zeros 4) ∧
      (zeros 4).length = 4 ∧ s.lane (laneIndex checkedRoute f.wire) < 1 ∧
      1 ≤ s.lane (laneIndex checkedRoute f.wire) + checkedRoute.acceptWin ∧ s.fvInvalid 0 (laneIndex checkedRoute f.wire) = false ∧
      ((slotIn 2 beating).at at3).slotOpen 3 = true ∧ (slotIn 2 beating).ciph.mgtJobs = [] ∧ (slotIn 2 beating).ciph.jobs = [] ∧
      (((slotIn 2 beating).at at3).enterSlot 3).beat.used + 100 ≤ (((slotIn 2 beating).at at3).enterSlot 3).slotCycles 3 ∧
      3 ≤ ({ jobOf 1 16 with stops := 3 } : Job).stops ∧ (jobOf 1 16).stops < 3 ∧ (jobOf 1 16).gen = (stopped.txRing 63).gen ∧
      (stopped.txRing 63).dead = false ∧ (jobOf 1 16).target < 64 := by
  and_intros <;> decide +kernel

/-- One job of each operation that its own command runs; with an empty rest and slot 3 entered it is the next. -/
theorem witness_CipherSlotsCheckFramesAndRunJobs_jobs :
    [jobOf 1 16, { jobOf 2 16 with aux := 16, input := zeros 32 }, { jobOf 3 16 with input := zeros 32 },
     { jobOf 4 16 with input := zeros 28 }, { jobOf 5 16 with input := zeros 44 }, jobOf 6 24, { jobOf 7 24 with aux := 5 }].all (fun j =>
      let s := serving j 3
      let s3 := (s.at 1000150000).enterSlot 3
      s.up && (s.at 1000150000).slotOpen 3 && !s.engineHeld && (s.jobRefused j).isNone &&
        decide (s.keyFor j.slot j.attrNeeded = .done keyOfOnes.key) &&
        decide (s3.beat.used + opCycles 16 j.work ≤ s3.slotCycles 3) && s.nextRequester == some 2 && s.ciph.mgtJobs.isEmpty &&
        s.get Fld.BEAT_STATUS_SLOT_CUR == 3 && j.target != j.slot && s.keyOf j.target == some keyOfOnes) = true := by
  decide +kernel

/-- The Crow's Nest powered and enabled, both imagers on. -/
def nest : State :=
  (((domainIn 18 2 (domainIn 19 2 (domainIn 20 2 run))).putBoth Fld.NEST_CTRL_EN 1).putBoth (Fld.NEST_IMGi_CFG_EN 0) 1).putBoth
    (Fld.NEST_IMGi_CFG_EN 1) 1

def imaging (s : State) : State :=
  { s with nest := { s.nest with open_ := [(1, { start := 20000000, number := 65535, cfg := s.live.filter nestRange })] } }

def blank (w h : Nat) : List NestLine := List.replicate h { crcOk := true, pixels := List.replicate w 0 }

theorem witness_SensorFramesAreJudgedAndContextsOpen :
    let small := imaging (((nest.putBoth (Fld.NEST_IMGi_SIZE_WIDTH 1) 16).putBoth (Fld.NEST_IMGi_SIZE_HEIGHT 1) 8))
    let f : NestFrame := { start := 20000000, number := 65535, cfg := small.live.filter nestRange }
    let v := small.nestSwap f.cfg
    let hears := { nest with nest := { nest.nest with inbox := [frameAt 5 7 (wire 5)] } }
    let asked := { domainIn 18 2 (domainIn 19 2 (domainIn 20 2 (slotIn 0 beating))) with cmds := [.nestCommit] }
    let wrong := { asked.setReg (Reg.NEST_ALMr_CTRL 15) 0#32 with cmds := [.nestCommit] }
    [nest, small, hears, asked, wrong].all (fun s => s.up) = true ∧ 1 < 2 ∧ nest.imagerOn 1 = true ∧ run.imagerOn 1 = false ∧
      nest.nest.inbox = [] ∧ SMap.look nest.nest.open_ 1 = none ∧ small.nest.inbox = [] ∧ SMap.look small.nest.open_ 1 = some f ∧
      (blank 16 8).length = v.cur (Fld.NEST_IMGi_SIZE_HEIGHT 1) ∧
      ((blank 16 8).all fun l => l.pixels.length == v.cur (Fld.NEST_IMGi_SIZE_WIDTH 1)) = true ∧
      ((blank 16 8).filter fun l => !l.crcOk).length ≤ v.cur (Fld.NEST_IMGi_CFG_BAD_LINES 1) ∧
      SMap.look small.nest.lastStart 1 = none ∧ hears.nest.inbox = [frameAt 5 7 (wire 5)] ∧ hears.nestPowered = true ∧
      hears.on Fld.NEST_CTRL_EN = true ∧ (asked.at commitAt).commitDue = true ∧ asked.nestPowered = true ∧
      asked.cmds.contains .nestCommit = true ∧ asked.nestErrors = 0 ∧ wrong.cmds.contains .nestCommit = true ∧
      (wrong.at commitAt).commitDue = true ∧ wrong.nestErrors ≠ 0 := by
  and_intros <;> decide +kernel

/-- A unit in a role of Table 13.2, in the last microseconds of its beat. -/
def roleIn (role : Nat) (s : State) : State := s.put Fld.HAL_STATUS_ROLE role

theorem witness_TheClaimGoesToTheHigherNumber :
    let late := fun (role : Nat) => roleIn role (slotIn 4 beating)
    let active :=
      let s := domainIn 4 2 (late 4)
      { s with hal := { s.hal with strapAt := none, heard := true } }
    let watch := claim (late 4)
    let fenced :=
      let s := (late 5).putBoth Fld.HAL_CFG_EVIDENCE_EN 1
      { s with hal := { s.hal with evidence := s.cur Fld.HAL_CFG_FENCE_BEATS } }
    let yields :=
      let s := (late 4).putBoth Fld.HAL_CFG_AUTO_YIELD 1
      { s with hal := { s.hal with lower := 8, last := some { claim := 0, health := 9, role := 3, flags := 2, start := 0, epoch := 0, fmt := 0 } } }
    let window : Tai := 1000246000
    [late 0, late 1, late 2, active, watch, fenced, yields].all (fun s => s.up && (s.at window).windowOpen) = true ∧
      2 ^ 19 - 1 < 2 ^ 19 ∧ ((late 1).at 1000245999).windowOpen = false ∧ (late 0).role = 0 ∧ (late 1).role = 1 ∧ 2 ≤ (late 2).role ∧
      active.role = 4 ∧ active.domain 4 = 2 ∧ active.glb.phase = .running ∧ active.hal.yielding = false ∧ active.hal.strapAt = none ∧
      active.hal.heard = true ∧ active.get Fld.HAL_STATUS_PARTNER_LOST = 0 ∧
      bit (2 ^ 16) (if active.strap = 0 then 16 else 17) = true ∧ watch.claimed = true ∧
      watch.hal.windowAt + 2 * watch.beatLen ≤ 1000246000 ∧ (watch.hal.replay.map (·.1)).Nodup ∧ fenced.role = 5 ∧
      fenced.on Fld.HAL_CFG_EVIDENCE_EN = true ∧ fenced.cur Fld.HAL_CFG_FENCE_BEATS ≤ fenced.hal.evidence ∧
      fenced.hal.unfenced = 0 ∧ yields.on Fld.HAL_CFG_AUTO_YIELD = true ∧ 8 ≤ yields.hal.lower ∧ yields.yieldOk = true := by
  and_intros <;> decide +kernel

/-- A Halyard frame of a type, with FSEQ 0 (Table 13.5). -/
def halFrame (type flags : Nat) (payload : Bytes) : Bytes :=
  le 1 0 ++ le 1 type ++ le 1 flags ++ le 1 1 ++ le 4 0 ++ le 2 payload.length ++ le 2 0 ++ le 2 Config.shadowFmt.toNat ++ le 2 0 ++ payload

/-- A lane item (class 1) and a marker (Table 13.8). -/
def laneItem : HalItem := { cls := 1, index := 65535, body := le 8 77 }

def marker : Bytes := le 1 0 ++ le 1 0 ++ le 1 47 ++ le 1 7 ++ le 2 4095 ++ le 2 0 ++ le 8 5

theorem witness_HalyardFramesKeepThePairTogether :
    [roleIn 1 run, roleIn 2 run, roleIn 3 run, roleIn 4 run].all (fun s => s.up && s.hal.rxFseq.isNone) = true ∧
      16 ≤ (halFrame 5 0 []).length ∧ (zeros 1040).length ≤ 1040 ∧ (halFrame 1 0 (zeros 32)).length = 48 ∧
      (halParse (halFrame 1 0 (zeros 32))).type = 1 ∧ (halParse (halFrame 1 0 (zeros 32))).payload.length = 32 ∧
      (roleIn 1 run).role < 2 ∧ 2 ≤ (roleIn 2 run).role ∧ (roleIn 2 run).role = 2 ∧ (roleIn 3 run).role = 3 ∧ (roleIn 4 run).role = 4 ∧
      (halParse (halFrame 2 0 laneItem.bytes)).type = 2 ∧ (halParse (halFrame 3 2 laneItem.bytes)).type = 3 ∧
      bit (halParse (halFrame 3 2 laneItem.bytes)).flags 1 = true ∧
      halItems 1024 (halParse (halFrame 2 0 laneItem.bytes)).payload = some [laneItem] ∧ laneItem.cls = 1 ∧ laneItem.body.length = 8 ∧
      laneItem.index < 65536 ∧ halItems 1024 (halParse (halFrame 2 0 [1#8])).payload = none ∧ (halParse (halFrame 5 0 [])).type = 5 ∧
      (halParse (halFrame 4 0 marker)).type = 4 ∧ (halParse (halFrame 4 0 marker)).payload.length = 16 := by
  and_intros <;> decide +kernel

/-- The unit's shadow format is no constant that a proof sees; a frame that carries it is taken. -/
theorem witness_HalyardFramesKeepThePairTogether_format : fmtOk Config.shadowFmt.toNat = true := by simp [fmtOk]

def domOf (d : Nat) (x : Domain) (s : State) : State := { s with pwr := { s.pwr with domains := [(d, x)] } }

def freshDom : Domain := { hold := [], close := none, wake := none, wakeAt := 0, since := 0, idle := 0, mark := 0, bounds := 0 }

/-- The beat from 1 s at its boundary, domain 10 in a state of Table 14.2. -/
def domainAt (st : Nat) (x : Domain) : State := domOf 10 x (domainIn 10 st { beating with time := { beating.time with now := 1000000000 } })

theorem witness_DomainsCloseDrainAndReturnInOrder :
    let t : Tai := 1000000000
    let closing := domainAt 2 { freshDom with close := some 1 }
    let idle :=
      let s := (domainAt 2 { freshDom with idle := 65535 }).putBoth (Fld.PWR_Dd_CFG_POLICY 10) 2
      s.putBoth (Fld.PWR_Dd_CFG_IDLE_BEATS 10) 5
    let wakes := (needs 10).foldl (fun s e => domainIn e 2 s) (domainAt 0 { freshDom with wake := some 1 })
    let span : MusterWin := { port := 47, start := 1000000100, opens := 1000000000, closes := 1000000200, report := none, settled := none, ran := false, void := false }
    let muster := ((domainAt 0 freshDom).putBoth (Fld.PWR_Dd_CFG_POLICY 10) 2).setWins 1023 [span]
    let drained := queuedOn 47 7 (frameAt 5 7 (wire 0)) (copyTo 47 (wire 0)) (domainAt 3 { freshDom with bounds := 2 })
    let off := domainAt 4 freshDom
    let on := { domainAt 1 { freshDom with since := 5 } with pwr := { (domainAt 1 { freshDom with since := 5 }).pwr with vcan := true } }
    let sleeping := ((domainIn 13 0 run).putBoth (Fld.PWR_Dd_CFG_POLICY 13) 2).putBoth Fld.PWR_WAKE_SRC_UART_EDGE 0x8000
    [closing, idle, wakes, muster, drained, off, on, sleeping].all (fun s => s.up) = true ∧ 10 < 24 ∧
      [closing, idle, wakes, muster, drained].all (fun s => (s.at t).atBoundary) = true ∧ (run.at t).atBoundary = false ∧
      (closing.dom 10).close = some 1 ∧ closing.domain 10 = 2 ∧ idle.policy 10 = 2 ∧ idle.domain 10 = 2 ∧
      idle.cur (Fld.PWR_Dd_CFG_IDLE_BEATS 10) < (idle.dom 10).idle ∧ (wakes.dom 10).wake = some 1 ∧ wakes.domain 10 = 0 ∧
      wakes.needsMet 10 = true ∧ wakes.get Fld.PWR_STATUS_BRACE = 0 ∧ muster.domain 10 = 0 ∧ muster.policy 10 = 2 ∧
      (muster.dom 10).wake = none ∧ 47 ∈ portsOf 10 ∧
      muster.spanOverlaps 47 muster.beat.start (muster.beat.start + muster.beatLen + 180000) = true ∧
      drained.domain 10 = 3 ∧ 2 ≤ (drained.dom 10).bounds ∧ copyTo 47 (wire 0) ∈ drained.queue 47 7 ∧
      drained.frame? 0 = some (frameAt 5 7 (wire 0)) ∧ (drained.putBoth (Fld.FAB_CLASSc_WOE 7) 1).on (Fld.FAB_CLASSc_WOE 7) = true ∧
      off.domain 10 = 4 ∧ off.transmits 10 = false ∧ on.domain 10 = 1 ∧ (on.dom 10).since + wakeLatency 10 ≤ t ∧
      on.railOk 10 = true ∧ 15 < 16 ∧ bit (sleeping.cur Fld.PWR_WAKE_SRC_UART_EDGE) 15 = true ∧ sleeping.policy 13 = 2 ∧
      sleeping.domain 13 = 0 ∧ (sleeping.dom 13).wake = none ∧ sleeping.get Fld.PWR_STATUS_BRACE = 0 ∧
      10 ∈ railDomains false ∧ 2 ≤ (domainIn 10 2 run).domain 10 := by
  and_intros <;> decide +kernel

/-- The brace in a state of Table 14.5, entered at 5 ns, with main good since 10 ns or not. -/
def braceIn (st : Nat) (good : Option Tai) : State :=
  let s := run.put Fld.PWR_STATUS_BRACE st
  { s with pwr := { s.pwr with entered := 5, good := good, fell := 0, shedAt := 5 } }

/-- An image header that every check of Table 16.11 passes. -/
def header : Bytes :=
  le 4 0x4E485256 ++ le 2 1 ++ le 2 256 ++ le 4 0 ++ le 2 0x4830 ++ le 1 0xB0 ++ le 1 0 ++ le 4 7 ++ zeros 236

theorem witness_TheBraceRunsItsStatesAndStartsFollowResets :
    let far : Tai := 10000000000
    let boot := { run with glb := { run.glb with phase := .boot } }
    let held := { State.reset with glb := { State.reset.glb with phase := .powerOnReset }, nvm := { State.reset.nvm with slots := [(0, header), (1, header)] } }
    let owed := { braceIn 5 (some 10) with glb := { run.glb with warmDue := some 3 } }
    [braceIn 0 none, braceIn 1 none, braceIn 2 none, braceIn 3 none, braceIn 4 (some 10), braceIn 5 (some 10), owed, boot].all (fun s =>
        s.up) = true ∧ (braceIn 0 none).pwr.good = none ∧ (braceIn 0 none).brace = 0 ∧
      (braceIn 0 none).pwr.fell + 1000 * (braceIn 0 none).cur Fld.PWR_BRACE_CFG_MAIN_FILT_US ≤ far ∧ (braceIn 1 none).brace = 1 ∧
      (braceIn 1 none).pwr.entered + 1000000 * (braceIn 1 none).cur Fld.PWR_BRACE_CFG_SHED_MS ≤ far ∧
      (braceIn 1 none).aborts far = false ∧ (braceIn 1 (some 10)).aborts far = true ∧ (braceIn 2 none).brace = 2 ∧
      (braceIn 3 none).brace = 3 ∧ (braceIn 3 none).pwr.entered + 1000000 ≤ far ∧ (braceIn 4 (some 10)).pwr.good = some 10 ∧
      (braceIn 4 (some 10)).brace = 4 ∧ (braceIn 4 (some 10)).pwr.entered + 20000000 ≤ far ∧ (braceIn 5 (some 10)).brace = 5 ∧
      (∀ d ∈ (braceIn 5 (some 10)).restoreOrder, (braceIn 5 (some 10)).domain d ≠ 1) ∧ (braceIn 5 (some 10)).glb.warmDue = none ∧
      owed.glb.warmDue = some 3 ∧ (21 ∈ (domainIn 21 1 owed).restoreOrder) ∧ (domainIn 21 1 owed).domain 21 = 1 ∧
      (((domainIn 21 1 owed).dom 21).since + wakeLatency 21 ≤ far) ∧ (domainIn 21 1 owed).railOk 21 = true ∧
      boot.glb.phase = .boot ∧ (∀ q ∈ [((0, 7) : Nat × Nat), (1, 8)], q.1 < 2 ∧ (q.2 = 7 ∨ q.2 = 8)) ∧ run.brace = 0 ∧
      held.glb.phase = .powerOnReset ∧ held.bootPtr.trial = false ∧ held.slotResult [] held.bootPtr.active = 0 := by
  and_intros <;> decide +kernel

/-- Port 47 powered and error active, its termination measured with a base of the beat. -/
theorem witness_LineFaultsAreSetClearedAndActedOn :
    let s := (canIn 2 0 0 beating).putBoth (Fld.SHR_CANn_CFG_TERM_MEAS_EN 47) 1
    let faulty := { s with shr := SMap.put s.shr 47 { s.shrOf 47 with setAt := [(9, 5), (4, 5)] } }
    let swaps := faulty.putBoth (Fld.SHR_CANn_CFG_SWAP_EN 47) 1
    let hot := domainIn 12 2 run
    [s, faulty, swaps, hot, run].all (fun s => s.up) = true ∧ 47 < 48 ∧ s.shrTests 47 4 = true ∧ s.shrHolds 47 4 399 100000 = true ∧
      s.shrHolds 47 4 400 100000 = false ∧ s.faulted 47 4 = false ∧ (s.shrTests 47 10 = true ∧ s.shrHolds 47 10 15 16 = true) ∧
      hot.shrTests 55 0x12 = true ∧ hot.shrHolds 55 0x12 0 0 = true ∧ hot.faulted 55 0x12 = false ∧ run.shrTests 79 0x21 = true ∧
      run.shrHolds 79 0x21 (-501) (1000 * run.cur Fld.PWR_BRACE_CFG_MAIN_FILT_US) = true ∧ run.faulted 79 0x21 = false ∧
      faulty.shrTests 47 4 = true ∧ shrGone 4 100000000 = true ∧ faulty.faulted 47 4 = true ∧ swaps.domain (domainOf 47) = 2 ∧
      swaps.on (Fld.SHR_CANn_CFG_SWAP_EN 47) = true ∧ swaps.faulted 47 9 = true ∧ (swaps.shrOf 47).acted = false ∧
      s.on (Fld.SHR_CANn_CFG_SWAP_EN 47) = false ∧ (domainIn 10 0 run).domain (domainOf 47) ≠ 2 ∧ hot.domain (domainOf 55) = 2 := by
  and_intros <;> decide +kernel

/-- Port 0's measurement is due in the beat whose index its phase names. -/
theorem witness_LineFaultsAreSetClearedAndActedOn_termination :
    let s := (domainIn 7 2 (beating.put (Fld.CANP_STATUS_STATE 0) 2)).putBoth (Fld.SHR_CANn_CFG_TERM_MEAS_EN 0) 1
    s.up = true ∧ s.termBase 0 = some 4000 ∧ s.termRuns 0 = true ∧ (s.shrOf 0).done ≠ some 4000 ∧ run.termRuns 0 = false := by
  and_intros <;> decide +kernel

def entry : JEntry := { type := 3, time := 5, body := zeros 8 }

/-- The update sequence in a state of Table 16.9, the target slot 1. -/
def updIn (st : Nat) (s : State) : State :=
  let s := domainIn 21 2 (domainIn 2 2 (s.put Fld.NVM_UPD_STATUS_STATE st))
  { s with nvm := { s.nvm with target := 1, slots := [(0, header), (1, header)] } }

theorem witness_TheJournalIsWrittenAndTheUpdateRunsItsStates :
    let s := { updIn 0 run with nvm := { (updIn 0 run).nvm with buffer := [entry], used := entry.size } }
    let full := { s with nvm := { s.nvm with sectors := [(5, { sseq := 0, erases := 0, first := 0, body := [] })] } }
    let bank : Bank := { fmt := 1, gen := 7, time := 5, fw := 1, body := [(Reg.GLB_SCRATCH, 5#32)] }
    let saves := { run with nvm := { run.nvm with saving := some (1, bank) } }
    let erases := { domainIn 21 2 run with ciph := { run.ciph with erasing := true } }
    let boundary := { updIn 5 beating with time := { beating.time with now := 1000000000 }, nvm := { (updIn 5 beating).nvm with quiesce := 8 } }
    let pause := { updIn 6 run with glb := { run.glb with phase := .pause } }
    let falls := { pause with nvm := { pause.nvm with fallback := some 2 } }
    let snaps := slotIn 4 (beating.putBoth Fld.NVM_JCFG_SNAP_S 1)
    [s, full, saves, erases, updIn 1 run, updIn 2 run, updIn 4 run, boundary, pause, falls, updIn 7 run, snaps].all (fun s => s.up) = true ∧
      s.nvm.buffer = [entry] ∧ s.domain 21 = 2 ∧ s.glb.phase = .running ∧ s.stage 0 ≠ 4 ∧
      ¬((s.journalPlace entry.size).2 = true ∧ (SMap.look s.nvm.sectors (s.journalPlace entry.size).1).isSome = true) ∧
      (16 : Nat) ≤ 16 ∧
      (let l := (1 :: (s.wearOf (s.physOf 0 (s.journalPlace entry.size).1)).pulses).take 16
       l.sum < s.cur Fld.NVM_JCFG_PULSE_WARN * l.length) ∧
      full.margin = some 5 ∧ full.domain 21 = 2 ∧ snaps.snapshotDue = true ∧ saves.nvm.saving = some (1, bank) ∧
      erases.ciph.erasing = true ∧ erases.brace ≠ 2 ∧ header.length = 256 ∧ (updIn 1 run).updState = 1 ∧
      (updIn 2 run).updState = 2 ∧ (updIn 2 run).nvm.target < 2 ∧ (updIn 4 run).updState = 4 ∧ boundary.updState = 5 ∧
      (boundary.at 1000000000).atBoundary = true ∧ 8 ≤ boundary.nvm.quiesce ∧ pause.glb.phase = .pause ∧ pause.domain 2 = 2 ∧
      pause.nvm.fallback = none ∧ falls.nvm.fallback = some 2 ∧ falls.domain 2 = 2 ∧ (updIn 7 run).updState = 7 ∧
      (updIn 7 run).glb.phase = .running ∧
      (updIn 7 run).nvm.trialFrom + 1000000000 * (updIn 7 run).cur Fld.NVM_UPD_TMO_CONFIRM_S ≤ max (updIn 7 run).time.now (10 ^ 15) := by
  and_intros <;> decide +kernel

/-- The management services up: firmware running, port 60 up, NET enabled. -/
def serves : State :=
  (((domainIn 2 2 (run.put Fld.MGT_STATUS_FW_RUNNING 1)).put (Fld.ETH_Pq_STATUS_STATE 4) 2).putBoth Fld.MGT_NET_CFG_EN 1).putBoth
    Fld.MGT_NET_CFG_V6_EN 1

theorem witness_TheManagementPathAnswersAndTheRegistryHeals :
    let suspect := { beating with time := { beating.time with now := 1000000000 }, mgt := { beating.mgt with suspects := [(unitOf 1 79, { time := 5, beats := 2 })] } }
    let owes :=
      let s := slotIn 0 beating
      { s with time := { s.time with now := 1000025000 }, mgt := { s.mgt with owed := [(unitOf 1 79, 5)] } }
    let opens := serves.putBoth Fld.MGT_NET_CFG_WRITE_EN 1
    let told := { serves with mgt := { serves.mgt with inbox := [frameAt 5 7 (wire 0)], subs := [(1, 2)] } }
    let due := { slotIn 4 beating with mgt := { beating.mgt with snapDue := true } }
    let heardAt := mapped4 0x0A000001
    [suspect, owes, serves, opens, told, due, run].all (fun s => s.up) = true ∧ registryUnit (unitOf 1 79) = true ∧
      SMap.look suspect.mgt.suspects (unitOf 1 79) = some { time := 5, beats := 2 } ∧ (suspect.at 1000000000).atBoundary = true ∧
      SMap.look suspect.mgt.owed (unitOf 1 79) = none ∧ owes.commitDue = true ∧ (SMap.look owes.mgt.owed (unitOf 1 79)).isSome = true ∧
      serves.servicesUp = true ∧ run.servicesUp = false ∧ isMapped heardAt = true ∧ serves.on Fld.MGT_NET_CFG_V6_EN = true ∧
      malformed req 1 = false ∧ malformed { req with magic := 1 } 1 = true ∧ malformed { req with body := zeros 4 } 2 = false ∧
      malformed { req with count := 0 } 3 = false ∧ serves.svcAllowed heardAt = false ∧ opens.svcAllowed heardAt = true ∧
      req.offset % 4 = 0 ∧ req.offset + 4 * req.count ≤ 0x4000000 ∧ 65535 < 65536 ∧
      told.mgt.inbox = [frameAt 5 7 (wire 0)] ∧ told.servicesUp = true ∧ (zeros 6).length = 6 ∧ (2 ^ 32 - 1) < 2 ^ 32 ∧
      serves.ip4 < 2 ^ 32 ∧ serves.linkLocal < 2 ^ 128 ∧ due.slotsRun = true ∧ due.glb.phase = .running ∧
      due.get Fld.BEAT_STATUS_SLOT_CUR = 4 ∧ due.mgt.snapDue = true ∧ (slotIn 4 beating).mgt.snapDue = false ∧
      (slotIn 4 beating).mgt.snapHeld = [] ∧ (639 : Nat) < 640 ∧ (3 : Nat) < 4 ∧ (65535 : Nat) < 65536 := by
  and_intros <;> decide +kernel

/-! ### Single steps and shared operations, held to the manual's worked examples and the algorithms' published vectors -/

/-- Table 2.7: the slots of a 250 µs beat at the default shares, the usable writeback ending where the claim window opens. -/
theorem test_slots_of_table_2_7 :
    [0, 1, 2, 3, 4].map beating.slotStart = [1000000000, 1000025000, 1000050000, 1000150000, 1000225000] ∧
      beating.slotStop 4 = 1000246000 := by
  decide +kernel

/-- Chapter 7's example: the reset timing of CAN17 lies within Table 7.4. -/
theorem test_reset_timing_of_chapter_7 :
    State.reset.reg (Reg.CANP_NBT 17) = 0x3F3FFE00#32 ∧ State.reset.reg (Reg.CANP_DBT 17) = 0x13133A00#32 ∧
      (run.putBoth (Fld.CANP_MODE_KIND 17) 1).timingErrors 17 = 0 := by
  decide +kernel

/-- Chapter 6's example: 24 data bytes at 500 kbit/s and 2 Mbit/s on both buses are admitted, with a start offset of 0. -/
theorem test_run_ahead_of_chapter_6 :
    durationCan (1, false, true) (1, false, true) (320, 80) (320, 80) 24 = true ∧
      startOffset (1, false, true) (1, false, true) (320, 80) (320, 80) 24 = 0 := by
  decide +kernel

/-- Chapter 20's example: a byte write to HIF_TXFAULT0 is discarded and logged, and the fault bit still reads 1. -/
theorem test_narrow_write_of_chapter_20 :
    let s := run.setReg (Reg.HIF_TXFAULT0) 8#32
    let u := nxt (exec (.w1cWrite { acc with be := 1 } 0x30024 8#32 0) s)
    u.reg 0x30024 = 8#32 ∧ u.reg (Reg.GLB_AFi_ADDR 0) = 0x30024#32 ∧ u.reg (Reg.GLB_AFi_INFO 0) = 0x00011001#32 ∧
      u.reg Reg.GLB_AF_NEXT = 1#32 := by
  decide +kernel

/-- Chapter 20's example: the low half of FAB_PCNT17_0 leaves the high half of its instant in the latch of the path. -/
theorem test_low_read_of_chapter_20 :
    let s := run.setReg64 (Reg.FAB_PCNTp_k 17 0) 0xFFFFFFF8
    let u := nxt (exec (.registerRead64 0 15 0x43880 false 0 0) s)
    u.out = [.readData 0xFFFFFFF8#32] ∧ SMap.look u.glb.latch 0 = some { off := 0x43880, val := 0#32 } := by
  decide +kernel

/-- Chapter 11's example: the lane, the candidate and the first bytes of D of one check, and the cycles of 3 and 2 blocks. -/
theorem test_check_of_chapter_11 :
    let r : Route := { someRoute with index := 209, auth := [0, 0, 0x14000000, 1] }
    let w : Wire := { wire 1 with id := 0x353, data := zeros 18 }
    laneIndex r w = 3347 ∧ reconstruct 0x2FFFE 16 1 = 0x30001 ∧ r.acceptWin = 1024 ∧ r.altEn = true ∧
      (authData 1 false w 0x30001 (zeros 18)).take 16 =
        [1#8, 1#8, 0#8, 0#8, 3#8, 0x53#8, 0#8, 0#8, 0#8, 0#8, 0#8, 3#8, 0#8, 1#8, 0#8, 0x12#8] ∧
      opCycles 16 3 = 66 ∧ opCycles 16 2 = 52 := by
  decide +kernel

/-- AES's byte operations on the examples of FIPS 197: {57} times {83}, the S-box at 53 and its inverse. -/
theorem test_bytes_of_fips_197 :
    gmul 0x57#8 0x83#8 = 0xC1#8 ∧ subByte 0x53#8 = 0xED#8 ∧ invSubByte 0xED#8 = 0x53#8 := by
  decide +kernel

/-- The check value of CRC-32. -/
theorem test_crc32_check_value : crc32 [0x31#8, 0x32#8, 0x33#8, 0x34#8, 0x35#8, 0x36#8, 0x37#8, 0x38#8, 0x39#8] = 0xCBF43926 := by
  decide +kernel

/-- A bus-off port counts its sequences of 11 recessive bits one by one to the 128th (R180). -/
theorem test_bus_off_sequences :
    let s := canIn 4 256 0 run
    let u := nxt (exec (.canpBusOn 47 127 0) s)
    u.get (Fld.CANP_STATUS_BOFF_SEQ 47) = 127 ∧ u.canState 47 = 4 ∧
      (nxt (exec (.canpBusOn 47 1 0) u)).canState 47 = 2 := by
  decide +kernel

/-- With the backup absent the brace ends in a power-on reset (R374). -/
theorem test_brace_without_backup :
    (nxt (exec (.pwrOnBackup 10000000000) ((braceIn 3 none).put Fld.PWR_STATUS_BKUP_OK 0))).glb.phase = .powerOnReset := by
  decide +kernel

end Sys2Proof.Tests
end

namespace Sys2Proof.Machine

/-! ### Reading a field through a frame -/

/-- A field reads the same through a frame that does not list its register. -/
theorem State.keepsRegs.get {s u : State} {l : List Nat} (h : s.keepsRegs u l) {f : Fld} (hf : f.off ∉ l) :
    u.get f = s.get f := by
  simp only [State.get, h f.off hf]

theorem State.keepsRegs.reg64 {s u : State} {l : List Nat} (h : s.keepsRegs u l) {o : Nat} (ho : o ∉ l)
    (h4 : o + 4 ∉ l) : u.reg64 o = s.reg64 o := by
  simp only [State.reg64, h o ho, h (o + 4) h4]

/-- A field lies within its width. -/
theorem State.get_lt (s : State) (f : Fld) : s.get f < 2 ^ (f.hi + 1 - f.lo) := Nat.mod_lt _ (Nat.two_pow_pos _)

/-- A value that fits reads as it was put. -/
theorem State.get_put_fit (s : State) (f : Fld) (v : Nat) (hh : f.hi < 32) (hl : f.lo ≤ f.hi)
    (hv : v < 2 ^ (f.hi + 1 - f.lo)) : (s.put f v).get f = v := by
  rw [State.get_put_self s f v hh hl, Nat.mod_eq_of_lt hv]

theorem State.get_put_zero (s : State) (f : Fld) (hh : f.hi < 32) (hl : f.lo ≤ f.hi) : (s.put f 0).get f = 0 :=
  State.get_put_fit s f 0 hh hl (Nat.two_pow_pos _)

theorem State.get_putBoth (s : State) (f g : Fld) (v : Nat) : (s.putBoth f v).get g = (s.put f v).get g := rfl

/-- A field depends on the register file alone. -/
theorem State.get_of_regs {s u : State} (h : u.regs = s.regs) (f : Fld) : u.get f = s.get f := by
  simp only [State.get, State.reg_of_regs h]

theorem State.get_beat (s : State) (b : BeatUnit) (f : Fld) : ({ s with beat := b }).get f = s.get f := rfl

/-! ### Frames that grow by one operation -/

theorem State.keepsRegs.same {s x y : State} {l : List Nat} (h : s.keepsRegs x l) (hr : y.regs = x.regs) :
    s.keepsRegs y l := fun o ho => (State.reg_of_regs hr o).trans (h o ho)
theorem State.keepsRegs.put {s x : State} {l : List Nat} (h : s.keepsRegs x l) (f : Fld) (v : Nat) (hf : f.off ∈ l) :
    s.keepsRegs (x.put f v) l := State.keepsRegs_back h (State.keepsRegs_put x f v) (by simpa using hf)
theorem State.keepsRegs.putBoth {s x : State} {l : List Nat} (h : s.keepsRegs x l) (f : Fld) (v : Nat) (hf : f.off ∈ l) :
    s.keepsRegs (x.putBoth f v) l := State.keepsRegs_back h (State.keepsRegs_putBoth x f v) (by simpa using hf)

theorem State.keeps.put {s x : State} {l : List Part} (h : s.keeps x l) (f : Fld) (v : Nat) : s.keeps (x.put f v) l :=
  State.keeps_back h (State.keeps_put x f v) (by simp)
theorem State.keeps.putBoth {s x : State} {l : List Part} (h : s.keeps x l) (f : Fld) (v : Nat) (hl : Part.live ∈ l) :
    s.keeps (x.putBoth f v) l := State.keeps_back h (State.keeps_putBoth x f v) (by simpa using hl)

/-! ### Disarming (R26, R31) -/

theorem keepsRegs_disarmShares {s x : State} {l : List Nat} (h : s.keepsRegs x l) (h2 : Reg.BEAT_SLOT_NEXT2 ∈ l)
    (hs : Reg.BEAT_STATUS ∈ l) : s.keepsRegs x.disarmShares l :=
  ((h.putBoth Fld.BEAT_SLOT_NEXT2_ARM 0 h2).put Fld.BEAT_STATUS_SLOT_ARMED 0 hs).same rfl

theorem keeps_disarmShares {s x : State} {l : List Part} (h : s.keeps x l) (hb : Part.beat ∈ l) (hl : Part.live ∈ l) :
    s.keeps x.disarmShares l :=
  State.keeps_beat _ ((h.putBoth Fld.BEAT_SLOT_NEXT2_ARM 0 hl).put Fld.BEAT_STATUS_SLOT_ARMED 0) hb

theorem get_disarmShares_arm (s : State) : s.disarmShares.get Fld.BEAT_SLOT_NEXT2_ARM = 0 := by
  unfold State.disarmShares
  rw [State.get_beat, State.get_put_reg _ _ _ _ (by decide), State.get_putBoth, State.get_put_zero _ _ (by decide) (by decide)]

theorem get_disarmShares_armed (s : State) : s.disarmShares.get Fld.BEAT_STATUS_SLOT_ARMED = 0 := by
  unfold State.disarmShares
  rw [State.get_beat, State.get_put_zero _ _ (by decide) (by decide)]

theorem State.get_put_get (s t : State) (f g : Fld) (hh : f.hi < 32) (hl : f.lo ≤ f.hi)
    (hw : g.hi + 1 - g.lo ≤ f.hi + 1 - f.lo) : (s.put f (t.get g)).get f = t.get g :=
  State.get_put_fit _ _ _ hh hl (Nat.lt_of_lt_of_le (State.get_lt t g) (Nat.pow_le_pow_right (by decide) hw))

theorem State.keepsRegs.raise {s x : State} {l : List Nat} (h : s.keepsRegs x l) (c u : Nat) (d : List Detail)
    (hl : ∀ o ∈ dropCounters, o ∈ l) : s.keepsRegs (x.raise c u d) l :=
  State.keepsRegs_back h (State.keepsRegs_raise x c u d) hl
theorem State.keepsRegs.orReg {s x : State} {l : List Nat} (h : s.keepsRegs x l) (o m : Nat) (hl : o ∈ l) :
    s.keepsRegs (x.orReg o m) l := State.keepsRegs_back h (State.keepsRegs_orReg x o m) (by simpa using hl)
theorem State.keeps.raise {s x : State} {l : List Part} (h : s.keeps x l) (c u : Nat) (d : List Detail)
    (hl : ∀ p ∈ eventParts, p ∈ l) : s.keeps (x.raise c u d) l :=
  State.keeps_back h (State.keeps_raise x c u d) hl
theorem State.keeps.orReg {s x : State} {l : List Part} (h : s.keeps x l) (o m : Nat) : s.keeps (x.orReg o m) l :=
  State.keeps_back h (State.keeps_orReg x o m) (by simp)

theorem get_disarmShares_ne (s : State) {f : Fld} (h2 : f.off ≠ Reg.BEAT_SLOT_NEXT2) (hs : f.off ≠ Reg.BEAT_STATUS) :
    s.disarmShares.get f = s.get f :=
  (keepsRegs_disarmShares (l := [Reg.BEAT_SLOT_NEXT2, Reg.BEAT_STATUS])
    (State.keepsRegs_mono (State.keepsRegs_refl s) (by simp)) (by simp) (by simp)).get (by simp [h2, hs])

theorem get_disarmShares_writeback (s : State) :
    s.disarmShares.get Fld.BEAT_SLOT_NEXT2_WRITEBACK = s.get Fld.BEAT_SLOT_NEXT2_WRITEBACK := by
  unfold State.disarmShares
  rw [State.get_beat, State.get_put_reg _ _ _ _ (by decide), State.get_putBoth,
    State.get_put_field _ _ _ _ (by decide) (by decide) (by decide) (by decide)]

theorem sharesApply_rejected (s : State) {len : Nat} (h : s.nextErrors len ≠ 0) :
    s.sharesApply len = s.disarmShares.beatReject (s.nextErrors len) := if_pos h

/-- The offsets of the shares in force. -/
def sharesCur : List Nat := [Reg.BEAT_SLOT_CUR0, Reg.BEAT_SLOT_CUR1, Reg.BEAT_SLOT_CUR2]

/-- The staged shares come into force in the registers. -/
def State.sharesTaken (s : State) : State :=
  let s := (s.put Fld.BEAT_SLOT_CUR0_LO (s.get Fld.BEAT_SLOT_NEXT0_INTAKE)).put Fld.BEAT_SLOT_CUR0_HI
    (s.get Fld.BEAT_SLOT_NEXT0_COMMIT)
  let s := (s.put Fld.BEAT_SLOT_CUR1_LO (s.get Fld.BEAT_SLOT_NEXT1_AUTH)).put Fld.BEAT_SLOT_CUR1_HI
    (s.get Fld.BEAT_SLOT_NEXT1_SERVICE)
  s.put Fld.BEAT_SLOT_CUR2_WRITEBACK (s.get Fld.BEAT_SLOT_NEXT2_WRITEBACK)

theorem sharesApply_taken (s : State) {len : Nat} (h : s.nextErrors len = 0) :
    s.sharesApply len = s.disarmShares.sharesTaken := if_neg (not_not.2 h)

theorem keepsRegs_sharesTaken {s x : State} {l : List Nat} (h : s.keepsRegs x l) (hl : ∀ o ∈ sharesCur, o ∈ l) :
    s.keepsRegs x.sharesTaken l := by
  have h0 := hl Reg.BEAT_SLOT_CUR0 (by decide)
  have h1 := hl Reg.BEAT_SLOT_CUR1 (by decide)
  have h2 := hl Reg.BEAT_SLOT_CUR2 (by decide)
  exact ((((h.put Fld.BEAT_SLOT_CUR0_LO _ h0).put Fld.BEAT_SLOT_CUR0_HI _ h0).put Fld.BEAT_SLOT_CUR1_LO _ h1).put
    Fld.BEAT_SLOT_CUR1_HI _ h1).put Fld.BEAT_SLOT_CUR2_WRITEBACK _ h2

theorem keeps_sharesTaken {s x : State} {l : List Part} (h : s.keeps x l) : s.keeps x.sharesTaken l :=
  ((((h.put _ _).put _ _).put _ _).put _ _).put _ _

/-- The share in force of a slot is the one staged for it. -/
theorem share_sharesTaken (s : State) :
    s.sharesTaken.share 0 = s.get Fld.BEAT_SLOT_NEXT0_INTAKE ∧ s.sharesTaken.share 1 = s.get Fld.BEAT_SLOT_NEXT0_COMMIT ∧
      s.sharesTaken.share 2 = s.get Fld.BEAT_SLOT_NEXT1_AUTH ∧ s.sharesTaken.share 3 = s.get Fld.BEAT_SLOT_NEXT1_SERVICE ∧
      s.sharesTaken.share 4 = s.get Fld.BEAT_SLOT_NEXT2_WRITEBACK := by
  unfold State.sharesTaken
  simp (disch := decide) only [State.share, State.get_put_reg, State.get_put_get, State.get_put_field, and_self]

/-! ### Rejecting (R27, R32) -/

theorem keepsRegs_beatReject {s x : State} {l : List Nat} (h : s.keepsRegs x l) (e : Nat) (hc : Reg.BEAT_CFG_ERR ∈ l)
    (hl : ∀ o ∈ dropCounters, o ∈ l) : s.keepsRegs (x.beatReject e) l := (h.orReg _ e hc).raise _ _ _ hl

theorem keeps_beatReject {s x : State} {l : List Part} (h : s.keeps x l) (e : Nat) (hl : ∀ p ∈ eventParts, p ∈ l) :
    s.keeps (x.beatReject e) l := (h.orReg _ e).raise _ _ _ hl

theorem reg_beatReject (s : State) (e : Nat) :
    (s.beatReject e).reg Reg.BEAT_CFG_ERR = s.reg Reg.BEAT_CFG_ERR ||| BitVec.ofNat 32 e :=
  (State.reg_raise _ _ _ _ _ (by decide)).trans (State.reg_setReg_self ..)

theorem told_beatReject (s : State) (e : Nat) : ∃ d, (s.beatReject e).told 0x0204 0 d := ⟨_, State.told_raise _ _ _ _⟩

theorem get_beatReject (s : State) (e : Nat) {f : Fld} (hc : f.off ≠ Reg.BEAT_CFG_ERR) (hd : f.off ∉ dropCounters) :
    (s.beatReject e).get f = s.get f :=
  (State.get_raise _ _ _ _ _ hd).trans (State.keepsRegs.get (State.keepsRegs_orReg _ _ _) (by simpa using hc))

@[simp] theorem beat_beatReject (s : State) (e : Nat) : (s.beatReject e).beat = s.beat := by simp [State.beatReject]

/-! ### A share set at its boundary (R31, R32) -/

/-- The shares staged in `s` are in force in `u`, and none is armed any more. -/
def SharesIn (s u : State) : Prop :=
  u.share 0 = s.get Fld.BEAT_SLOT_NEXT0_INTAKE ∧ u.share 1 = s.get Fld.BEAT_SLOT_NEXT0_COMMIT ∧
    u.share 2 = s.get Fld.BEAT_SLOT_NEXT1_AUTH ∧ u.share 3 = s.get Fld.BEAT_SLOT_NEXT1_SERVICE ∧
    u.share 4 = s.get Fld.BEAT_SLOT_NEXT2_WRITEBACK ∧ u.get Fld.BEAT_SLOT_NEXT2_ARM = 0 ∧
    u.get Fld.BEAT_STATUS_SLOT_ARMED = 0

theorem sharesIn_sharesApply (s : State) {len : Nat} (h : s.nextErrors len = 0) : SharesIn s (s.sharesApply len) := by
  rw [sharesApply_taken s h]
  have hk : s.disarmShares.keepsRegs s.disarmShares.sharesTaken sharesCur :=
    keepsRegs_sharesTaken (State.keepsRegs_mono (State.keepsRegs_refl _) (by simp)) (by simp)
  obtain ⟨h0, h1, h2, h3, h4⟩ := share_sharesTaken s.disarmShares
  exact ⟨h0.trans (get_disarmShares_ne s (by decide) (by decide)), h1.trans (get_disarmShares_ne s (by decide) (by decide)),
    h2.trans (get_disarmShares_ne s (by decide) (by decide)), h3.trans (get_disarmShares_ne s (by decide) (by decide)),
    h4.trans (get_disarmShares_writeback s), (hk.get (by decide)).trans (get_disarmShares_arm s),
    (hk.get (by decide)).trans (get_disarmShares_armed s)⟩

/-- Shares in force are judged as they were when staged. -/
theorem shareErrorsNow_of_sharesIn {s u : State} (h : SharesIn s u) (len : Nat) : u.shareErrorsNow len = s.nextErrors len := by
  obtain ⟨h0, h1, h2, h3, h4, _, _⟩ := h
  simp only [State.shareErrorsNow, State.nextErrors, h0, h1, h2, h3, h4]

/-- The registers that a share set coming into force changes. -/
def sharesRegs : List Nat :=
  [Reg.BEAT_STATUS, Reg.BEAT_SLOT_CUR0, Reg.BEAT_SLOT_CUR1, Reg.BEAT_SLOT_CUR2, Reg.BEAT_SLOT_NEXT2]

theorem keepsRegs_sharesApply {s x : State} {l : List Nat} {len : Nat} (h : s.keepsRegs x l) (he : x.nextErrors len = 0)
    (hl : ∀ o ∈ sharesRegs, o ∈ l) : s.keepsRegs (x.sharesApply len) l := by
  rw [sharesApply_taken x he]
  exact keepsRegs_sharesTaken (keepsRegs_disarmShares h (hl _ (by decide)) (hl _ (by decide)))
    fun o ho => hl o (by revert o; decide)

theorem keeps_sharesApply {s x : State} {l : List Part} {len : Nat} (h : s.keeps x l) (he : x.nextErrors len = 0)
    (hb : Part.beat ∈ l) (hl : Part.live ∈ l) : s.keeps (x.sharesApply len) l := by
  rw [sharesApply_taken x he]
  exact keeps_sharesTaken (keeps_disarmShares h hb hl)

/-! ### A length at its second (R26, R27) -/

theorem keepsRegs_disarmLen {s x : State} {l : List Nat} (h : s.keepsRegs x l) (h2 : Reg.BEAT_LEN_NEXT ∈ l)
    (hs : Reg.BEAT_STATUS ∈ l) : s.keepsRegs x.disarmLen l :=
  ((h.putBoth Fld.BEAT_LEN_NEXT_ARM 0 h2).put Fld.BEAT_STATUS_LEN_ARMED 0 hs).same rfl

theorem keeps_disarmLen {s x : State} {l : List Part} (h : s.keeps x l) (hb : Part.beat ∈ l) (hl : Part.live ∈ l) :
    s.keeps x.disarmLen l :=
  State.keeps_beat _ ((h.putBoth Fld.BEAT_LEN_NEXT_ARM 0 hl).put Fld.BEAT_STATUS_LEN_ARMED 0) hb

theorem get_disarmLen_arm (s : State) : s.disarmLen.get Fld.BEAT_LEN_NEXT_ARM = 0 := by
  unfold State.disarmLen
  rw [State.get_beat, State.get_put_reg _ _ _ _ (by decide), State.get_putBoth, State.get_put_zero _ _ (by decide) (by decide)]

theorem get_disarmLen_armed (s : State) : s.disarmLen.get Fld.BEAT_STATUS_LEN_ARMED = 0 := by
  unfold State.disarmLen
  rw [State.get_beat, State.get_put_zero _ _ (by decide) (by decide)]

theorem get_disarmLen_status (s : State) {f : Fld} (h : f.off = Reg.BEAT_STATUS) (hf : 5 < f.lo ∨ f.hi < 5) :
    s.disarmLen.get f = s.get f := by
  unfold State.disarmLen
  rw [State.get_beat, State.get_put_field _ _ _ _ h (by decide) (by decide) hf, State.get_putBoth,
    State.get_put_reg _ _ _ _ (by rw [h]; decide)]

theorem get_disarmLen_ne (s : State) {f : Fld} (h2 : f.off ≠ Reg.BEAT_LEN_NEXT) (hs : f.off ≠ Reg.BEAT_STATUS) :
    s.disarmLen.get f = s.get f :=
  (keepsRegs_disarmLen (l := [Reg.BEAT_LEN_NEXT, Reg.BEAT_STATUS])
    (State.keepsRegs_mono (State.keepsRegs_refl s) (by simp)) (by simp) (by simp)).get (by simp [h2, hs])

theorem share_disarmLen (s : State) (k : Nat) : s.disarmLen.share k = s.share k := by
  unfold State.share; split <;> exact get_disarmLen_ne s (by decide) (by decide)

theorem shareErrorsNow_disarmLen (s : State) (len : Nat) : s.disarmLen.shareErrorsNow len = s.shareErrorsNow len := by
  simp only [State.shareErrorsNow, share_disarmLen]

/-- The length with this code takes effect in the beat that starts. -/
def State.lenTaken (s : State) (old new : Nat) : State :=
  let s := s.put Fld.BEAT_STATUS_LEN_CUR new
  let s := { s with beat := { s.beat with next := s.beat.start + s.beatLen } }
  (s.put Fld.BEAT_STATUS_BEAT_NUM s.beatNumber).raise 0x0203 0 [n4 old, n4 new]

/-- What `lenApply` works on once a share set sampled beside the length has been judged. -/
def State.beforeLen (s : State) : State :=
  if s.sharesDue && s.beat.shareWithLen then s.sharesApply (beatNs (s.get Fld.BEAT_LEN_NEXT_LEN)) else s

theorem lenApply_eq (s : State) :
    s.lenApply = if s.beforeLen.shareErrorsNow (beatNs (s.get Fld.BEAT_LEN_NEXT_LEN)) ≠ 0 then s.beforeLen.disarmLen.beatReject 8
      else s.beforeLen.disarmLen.lenTaken (s.get Fld.BEAT_STATUS_LEN_CUR) (s.get Fld.BEAT_LEN_NEXT_LEN) := by
  rw [← shareErrorsNow_disarmLen]; rfl

theorem State.keepsRegs.beat {s x : State} {l : List Nat} (h : s.keepsRegs x l) (b : BeatUnit) :
    s.keepsRegs { x with beat := b } l := h

theorem keepsRegs_lenTaken {s x : State} {l : List Nat} (h : s.keepsRegs x l) (old new : Nat) (hs : Reg.BEAT_STATUS ∈ l)
    (hl : ∀ o ∈ dropCounters, o ∈ l) : s.keepsRegs (x.lenTaken old new) l :=
  (((h.put Fld.BEAT_STATUS_LEN_CUR new hs).beat _).put Fld.BEAT_STATUS_BEAT_NUM _ hs).raise _ _ _ hl

theorem keeps_lenTaken {s x : State} {l : List Part} (h : s.keeps x l) (old new : Nat) (hb : Part.beat ∈ l)
    (hl : ∀ p ∈ eventParts, p ∈ l) : s.keeps (x.lenTaken old new) l :=
  State.keeps.raise (State.keeps.put (State.keeps_beat _ (h.put Fld.BEAT_STATUS_LEN_CUR new) hb) _ _) _ _ _ hl

theorem get_lenTaken_status (s : State) (old new : Nat) {f : Fld} (h : f.off = Reg.BEAT_STATUS) (hf : 2 < f.lo)
    (hn : f.hi < 16) : (s.lenTaken old new).get f = s.get f := by
  unfold State.lenTaken
  rw [State.get_raise _ _ _ _ _ (by rw [h]; decide), State.get_put_field _ _ _ _ h (by decide) (by decide) (.inr hn),
    State.get_beat, State.get_put_field _ _ _ _ h (by decide) (by decide) (.inl hf)]

theorem get_lenTaken_len (s : State) (old : Nat) {new : Nat} (h : new < 8) :
    (s.lenTaken old new).get Fld.BEAT_STATUS_LEN_CUR = new := by
  unfold State.lenTaken
  rw [State.get_raise _ _ _ _ _ (by decide), State.get_put_field _ _ _ _ (by decide) (by decide) (by decide) (by decide),
    State.get_beat, State.get_put_fit _ _ _ (by decide) (by decide) h]

theorem beatLen_put_len (s : State) {new : Nat} (h : new < 8) : (s.put Fld.BEAT_STATUS_LEN_CUR new).beatLen = beatNs new := by
  rw [State.beatLen, State.get_put_fit _ _ _ (by decide) (by decide) h]

theorem beat_lenTaken (s : State) (old : Nat) {new : Nat} (h : new < 8) :
    (s.lenTaken old new).beat = { s.beat with next := s.beat.start + beatNs new } := by
  unfold State.lenTaken
  simp only [State.raise_beat, State.put_beat, beatLen_put_len s h]

theorem told_lenTaken (s : State) (old new : Nat) : (s.lenTaken old new).told 0x0203 0 [n4 old, n4 new] :=
  State.told_raise _ _ _ _

/-- A length that the shares allow: what the beat is after it. -/
theorem lenApply_taken {s : State} {y : State} (hy : s.beforeLen = y)
    (h : y.shareErrorsNow (beatNs (s.get Fld.BEAT_LEN_NEXT_LEN)) = 0) :
    s.lenApply = y.disarmLen.lenTaken (s.get Fld.BEAT_STATUS_LEN_CUR) (s.get Fld.BEAT_LEN_NEXT_LEN) := by
  subst hy; rw [lenApply_eq]; exact if_neg (not_not.2 h)

/-! ### The queue that a command leaves as it was -/

/-- The state with this queue of commands that wait. -/
def State.withQueue (s : State) (q : List Instr) : State := { s with pending := q }

@[simp] theorem State.withQueue_beat (s : State) (q : List Instr) : (s.withQueue q).beat = s.beat := (rfl)
@[simp] theorem State.reg_withQueue (s : State) (q : List Instr) (o : Nat) : (s.withQueue q).reg o = s.reg o := (rfl)
@[simp] theorem State.get_withQueue (s : State) (q : List Instr) (f : Fld) : (s.withQueue q).get f = s.get f := (rfl)
@[simp] theorem State.share_withQueue (s : State) (q : List Instr) (k : Nat) : (s.withQueue q).share k = s.share k := (rfl)
@[simp] theorem State.told_withQueue (s : State) (q : List Instr) (c u : Nat) (d : List Detail) :
    (s.withQueue q).told c u d ↔ s.told c u d := Iff.rfl
@[simp] theorem State.keepsRegs_withQueue (s x : State) (q : List Instr) (l : List Nat) :
    s.keepsRegs (x.withQueue q) l ↔ s.keepsRegs x l := Iff.rfl
@[simp] theorem State.keeps_withQueue (s x : State) (q : List Instr) (l : List Part) :
    s.keeps (x.withQueue q) l ↔ s.keeps x l :=
  ⟨fun h p hp => (by have := h p hp; cases p <;> exact this), fun h p hp => (by have := h p hp; cases p <;> exact this)⟩

/-- A command on well-formed operands answers with its effect, whatever of it a statement asks for beside the queue. -/
theorem answers_effect {s x : State} {ok : Bool} {m : String} {p : State → Prop} (hs : s.up = true) (hok : ok = true)
    (hp : p (x.withQueue s.pending)) : answers (unlessHeld s (runIf ok m x)) p := answers_of_up hs hok hp

theorem State.keepsRegs.at (s : State) (t : Tai) (l : List Nat) : s.keepsRegs (s.at t) l := fun _ _ => rfl
theorem State.keeps.at (s : State) (t : Tai) (l : List Part) : s.keeps (s.at t) l :=
  State.keeps_mono (State.keeps_at s t) (by simp)

@[simp] theorem State.keepsRegs_from_at (s x : State) (t : Tai) (l : List Nat) :
    (s.at t).keepsRegs x l ↔ s.keepsRegs x l := Iff.rfl
@[simp] theorem State.keeps_from_at (s x : State) (t : Tai) (l : List Part) : (s.at t).keeps x l ↔ s.keeps x l :=
  ⟨fun h p hp => (by have := h p hp; cases p <;> exact this), fun h p hp => (by have := h p hp; cases p <;> exact this)⟩

@[simp] theorem nextErrors_at (s : State) (t : Tai) (len : Nat) : (s.at t).nextErrors len = s.nextErrors len := rfl

/-- BEAT_SLOT_APPLY at its boundary applies the sampled share set. -/
theorem answers_beatSlotApply {t : Tai} {s : State} {p : State → Prop} (hs : s.up = true) (hb : (s.at t).atBoundary = true)
    (hd : s.sharesDue = true) (hw : (s.beat.shareWithLen && s.lenDue) = false)
    (hp : p (((s.at t).sharesApply s.beatLen).withQueue s.pending)) : answers (exec (.beatSlotApply t) s) p := by
  refine answers_effect (m := "BEAT_SLOT_APPLY") hs rfl ?_
  have hc : (s.at t).atBoundary = true ∧ (s.at t).sharesDue = true ∧
    ((s.at t).beat.shareWithLen && (s.at t).lenDue) = false := ⟨hb, hd, hw⟩
  rw [if_pos hc]
  exact hp

/-- BEAT_LEN_CHANGED at a second's boundary applies the sampled length. -/
theorem answers_beatLenChanged {t : Tai} {s : State} {p : State → Prop} (hs : s.up = true) (hb : (s.at t).atBoundary = true)
    (hd : s.lenDue = true) (hm : s.beat.start % 1000000000 = 0)
    (hp : p ((s.at t).lenApply.withQueue s.pending)) : answers (exec (.beatLenChanged t) s) p := by
  refine answers_effect (m := "BEAT_LEN_CHANGED") hs rfl ?_
  have hc : (s.at t).atBoundary = true ∧ (s.at t).beat.start % 1000000000 = 0 ∧ (s.at t).lenDue = true := ⟨hb, hm, hd⟩
  rw [if_pos hc]
  exact hp

@[simp] theorem sharesIn_withQueue (s u : State) (q : List Instr) : SharesIn s (u.withQueue q) ↔ SharesIn s u := by
  simp only [SharesIn, State.share_withQueue, State.get_withQueue]

/-- A rejected set leaves its errors, its event and no arm. -/
theorem sharesApply_rejects {s x : State} {len : Nat} (hr : s.keepsRegs x []) (hk : s.keeps x [])
    (he : x.nextErrors len ≠ 0) :
    (x.sharesApply len).reg Reg.BEAT_CFG_ERR = s.reg Reg.BEAT_CFG_ERR ||| BitVec.ofNat 32 (x.nextErrors len) ∧
      (∃ d, (x.sharesApply len).told 0x0204 0 d) ∧ (x.sharesApply len).get Fld.BEAT_SLOT_NEXT2_ARM = 0 ∧
      (x.sharesApply len).get Fld.BEAT_STATUS_SLOT_ARMED = 0 ∧
      s.keepsRegs (x.sharesApply len) (Reg.BEAT_STATUS :: Reg.BEAT_SLOT_NEXT2 :: Reg.BEAT_CFG_ERR :: dropCounters) ∧
      s.keeps (x.sharesApply len) (.beat :: .live :: eventParts) := by
  rw [sharesApply_rejected _ he]
  have hd : s.keepsRegs x.disarmShares [Reg.BEAT_SLOT_NEXT2, Reg.BEAT_STATUS] :=
    keepsRegs_disarmShares (State.keepsRegs_mono hr (by simp)) (by simp) (by simp)
  refine ⟨?_, told_beatReject _ _, ?_, ?_, ?_, ?_⟩
  · rw [reg_beatReject, hd _ (by decide)]
  · exact (get_beatReject _ _ (by decide) (by decide)).trans (get_disarmShares_arm _)
  · exact (get_beatReject _ _ (by decide) (by decide)).trans (get_disarmShares_armed _)
  · exact keepsRegs_beatReject (State.keepsRegs_mono hd (by decide)) _ (by decide) (by decide)
  · exact keeps_beatReject (keeps_disarmShares (State.keeps_mono hk (by simp)) (by decide) (by decide)) _ (by decide)

/-- BEAT_SLOT_APPLY. -/
theorem beatSlotApply_meets {t : Tai} {s : State} (hs : s.up = true) (hb : (s.at t).atBoundary = true)
    (hd : s.sharesDue = true) (hw : (s.beat.shareWithLen && s.lenDue) = false) (he : s.nextErrors s.beatLen = 0) :
    answers (exec (.beatSlotApply t) s) fun u => SharesIn s u ∧
      s.keepsRegs u (Reg.BEAT_STATUS :: [Reg.BEAT_SLOT_CUR0, Reg.BEAT_SLOT_CUR1, Reg.BEAT_SLOT_CUR2, Reg.BEAT_SLOT_NEXT2]) ∧
      s.keeps u [.beat, .live] :=
  answers_beatSlotApply hs hb hd hw
    ⟨(sharesIn_withQueue ..).2 (sharesIn_sharesApply (s.at t) he),
      (State.keepsRegs_withQueue ..).2 (keepsRegs_sharesApply (.at s t _) he (by decide)),
      (State.keeps_withQueue ..).2 (keeps_sharesApply (.at s t _) he (by decide) (by decide))⟩

theorem beat_sharesTaken (s : State) : s.sharesTaken.beat = s.beat := by
  unfold State.sharesTaken
  rw [State.put_beat, State.put_beat, State.put_beat, State.put_beat, State.put_beat]

theorem beat_disarmShares (s : State) :
    s.disarmShares.beat = { s.beat with shareSampled := false, shareWithLen := false } := by
  unfold State.disarmShares
  dsimp only
  rw [State.put_beat, State.putBoth_beat]

theorem beat_disarmLen (s : State) : s.disarmLen.beat = { s.beat with lenSampled := false } := by
  unfold State.disarmLen
  dsimp only
  rw [State.put_beat, State.putBoth_beat]

/-- A frame outside the shares in force keeps them, and the arm with its indicator. -/
theorem sharesIn_of_keepsRegs {s y u : State} {l : List Nat} (h : SharesIn s y) (hr : y.keepsRegs u l)
    (hl : ∀ o ∈ sharesRegs, o ≠ Reg.BEAT_STATUS → o ∉ l)
    (ha : u.get Fld.BEAT_STATUS_SLOT_ARMED = y.get Fld.BEAT_STATUS_SLOT_ARMED) : SharesIn s u := by
  obtain ⟨h0, h1, h2, h3, h4, h5, h6⟩ := h
  have hc : ∀ f : Fld, f.off ∈ sharesRegs → f.off ≠ Reg.BEAT_STATUS → u.get f = y.get f := fun f hf hn => hr.get (hl _ hf hn)
  exact ⟨(hc _ (by decide) (by decide)).trans h0, (hc _ (by decide) (by decide)).trans h1,
    (hc _ (by decide) (by decide)).trans h2, (hc _ (by decide) (by decide)).trans h3,
    (hc _ (by decide) (by decide)).trans h4, (hc _ (by decide) (by decide)).trans h5, ha.trans h6⟩

/-- The registers that a length coming into force changes. -/
def lenRegs : List Nat := Reg.BEAT_STATUS :: Reg.BEAT_LEN_NEXT :: dropCounters

/-- The length `new` takes effect in place of `old`: what the beat shows then. -/
theorem lenTaken_disarmLen (y : State) (old : Nat) {new : Nat} (h : new < 8) :
    (y.disarmLen.lenTaken old new).get Fld.BEAT_STATUS_LEN_CUR = new ∧
      (y.disarmLen.lenTaken old new).beat.next = y.beat.start + beatNs new ∧
      (y.disarmLen.lenTaken old new).told 0x0203 0 [n4 old, n4 new] ∧
      (y.disarmLen.lenTaken old new).get Fld.BEAT_LEN_NEXT_ARM = 0 ∧
      (y.disarmLen.lenTaken old new).get Fld.BEAT_STATUS_LEN_ARMED = 0 ∧
      (y.disarmLen.lenTaken old new).beat.start = y.beat.start := by
  have hk : y.disarmLen.keepsRegs (y.disarmLen.lenTaken old new) (Reg.BEAT_STATUS :: dropCounters) :=
    keepsRegs_lenTaken (State.keepsRegs_mono (State.keepsRegs_refl _) (by simp)) _ _ (by decide) (by decide)
  refine ⟨get_lenTaken_len _ _ h, ?_, told_lenTaken _ _ _, (hk.get (by decide)).trans (get_disarmLen_arm y), ?_, ?_⟩
  · rw [beat_lenTaken _ _ h, beat_disarmLen]
  · exact (get_lenTaken_status _ _ _ rfl (by decide) (by decide)).trans (get_disarmLen_armed y)
  · rw [beat_lenTaken _ _ h, beat_disarmLen]

theorem keepsRegs_lenTaken_disarmLen {s y : State} {l : List Nat} (h : s.keepsRegs y l) (old new : Nat)
    (hl : ∀ o ∈ lenRegs, o ∈ l) : s.keepsRegs (y.disarmLen.lenTaken old new) l :=
  keepsRegs_lenTaken (keepsRegs_disarmLen h (hl _ (by decide)) (hl _ (by decide))) _ _ (hl _ (by decide))
    fun o ho => hl o (by simp [lenRegs, ho])

theorem keeps_lenTaken_disarmLen {s y : State} {l : List Part} (h : s.keeps y l) (old new : Nat) (hb : Part.beat ∈ l)
    (hl : Part.live ∈ l) (he : ∀ p ∈ eventParts, p ∈ l) : s.keeps (y.disarmLen.lenTaken old new) l :=
  keeps_lenTaken (keeps_disarmLen h hb hl) _ _ hb he

theorem beforeLen_alone {s : State} (h : (s.sharesDue && s.beat.shareWithLen) = false) : s.beforeLen = s :=
  if_neg (by simp [h])

theorem beforeLen_beside {s : State} (h : (s.sharesDue && s.beat.shareWithLen) = true) :
    s.beforeLen = s.sharesApply (beatNs (s.get Fld.BEAT_LEN_NEXT_LEN)) := if_pos h

theorem lenApply_rejected {s : State} (hd : (s.sharesDue && s.beat.shareWithLen) = false)
    (h : s.shareErrorsNow (beatNs (s.get Fld.BEAT_LEN_NEXT_LEN)) ≠ 0) : s.lenApply = s.disarmLen.beatReject 8 := by
  rw [lenApply_eq, beforeLen_alone hd]; exact if_pos h

/-- A length that the shares in force do not allow is refused, and the beat stays. -/
theorem lenApply_rejects (s x : State) (hx : x = s.disarmLen.beatReject 8) :
    x.reg Reg.BEAT_CFG_ERR = s.reg Reg.BEAT_CFG_ERR ||| 8#32 ∧ (∃ d, x.told 0x0204 0 d) ∧
      x.get Fld.BEAT_LEN_NEXT_ARM = 0 ∧ x.get Fld.BEAT_STATUS_LEN_ARMED = 0 ∧
      x.get Fld.BEAT_STATUS_LEN_CUR = s.get Fld.BEAT_STATUS_LEN_CUR ∧ x.beat.next = s.beat.next ∧
      s.keepsRegs x (Reg.BEAT_STATUS :: Reg.BEAT_LEN_NEXT :: Reg.BEAT_CFG_ERR :: dropCounters) ∧
      s.keeps x (.beat :: .live :: eventParts) := by
  subst hx
  have hd : s.keepsRegs s.disarmLen [Reg.BEAT_LEN_NEXT, Reg.BEAT_STATUS] :=
    keepsRegs_disarmLen (State.keepsRegs_mono (State.keepsRegs_refl s) (by simp)) (by decide) (by decide)
  have hg : ∀ f : Fld, f.off ≠ Reg.BEAT_CFG_ERR → f.off ∉ dropCounters → (s.disarmLen.beatReject 8).get f = s.disarmLen.get f :=
    fun f => get_beatReject _ _
  refine ⟨?_, told_beatReject _ _, (hg _ (by decide) (by decide)).trans (get_disarmLen_arm s),
    (hg _ (by decide) (by decide)).trans (get_disarmLen_armed s),
    (hg _ (by decide) (by decide)).trans (get_disarmLen_status s rfl (by decide)), ?_, ?_, ?_⟩
  · rw [reg_beatReject, hd _ (by decide)]
  · rw [beat_beatReject, beat_disarmLen]
  · exact keepsRegs_beatReject (State.keepsRegs_mono hd (by decide)) _ (by decide) (by decide)
  · exact keeps_beatReject (keeps_disarmLen (State.keeps_mono (State.keeps_refl s) (by simp)) (by decide) (by decide)) _ (by decide)

theorem start_sharesApply {s : State} {len : Nat} (h : s.nextErrors len = 0) : (s.sharesApply len).beat.start = s.beat.start := by
  rw [sharesApply_taken s h, beat_sharesTaken, beat_disarmShares]

/-- What BEAT_LEN_CHANGED shows of a length that takes effect in `u`. -/
def LenChanged (s u : State) : Prop :=
  u.get Fld.BEAT_STATUS_LEN_CUR = s.get Fld.BEAT_LEN_NEXT_LEN ∧
    u.beat.next = s.beat.start + beatNs (s.get Fld.BEAT_LEN_NEXT_LEN) ∧
    u.told 0x0203 0 [n4 (s.get Fld.BEAT_STATUS_LEN_CUR), n4 (s.get Fld.BEAT_LEN_NEXT_LEN)] ∧
    u.get Fld.BEAT_LEN_NEXT_ARM = 0 ∧ u.get Fld.BEAT_STATUS_LEN_ARMED = 0 ∧ u.beat.start = s.beat.start ∧
    s.keeps u (.beat :: .live :: eventParts)

@[simp] theorem lenChanged_withQueue (s u : State) (q : List Instr) : LenChanged s (u.withQueue q) ↔ LenChanged s u := by
  simp only [LenChanged, State.get_withQueue, State.withQueue_beat, State.told_withQueue, State.keeps_withQueue]

/-- The length of `s` takes effect on a state that differs from it by a share set at most. -/
theorem lenChanged_lenTaken {s y : State} (hk : s.keeps y [.beat, .live]) (hb : y.beat.start = s.beat.start) :
    LenChanged s (y.disarmLen.lenTaken (s.get Fld.BEAT_STATUS_LEN_CUR) (s.get Fld.BEAT_LEN_NEXT_LEN)) := by
  obtain ⟨h1, h2, h3, h4, h5, h6⟩ :=
    lenTaken_disarmLen y (s.get Fld.BEAT_STATUS_LEN_CUR) (State.get_lt s Fld.BEAT_LEN_NEXT_LEN)
  exact ⟨h1, h2.trans (by rw [hb]), h3, h4, h5, h6.trans hb,
    keeps_lenTaken_disarmLen (State.keeps_mono hk (by decide)) _ _ (by decide) (by decide) (by decide)⟩

/-- A share set sampled beside the length stays in force when the length takes effect. -/
theorem sharesIn_lenTaken {s y : State} (h : SharesIn s y) (old new : Nat) : SharesIn s (y.disarmLen.lenTaken old new) :=
  sharesIn_of_keepsRegs (l := lenRegs) h
    (keepsRegs_lenTaken_disarmLen (State.keepsRegs_mono (State.keepsRegs_refl y) (by simp)) _ _ (by decide)) (by decide)
    ((get_lenTaken_status _ _ _ rfl (by decide) (by decide)).trans (get_disarmLen_status y rfl (by decide)))

/-- A length with the shares in force, or with those staged beside it. -/
theorem beatLenChanged_meets {t : Tai} {s y : State} {l : List Nat} (hs : s.up = true) (hb : (s.at t).atBoundary = true)
    (hd : s.lenDue = true) (hm : s.beat.start % 1000000000 = 0) (hy : (s.at t).beforeLen = y)
    (he : y.shareErrorsNow (beatNs (s.get Fld.BEAT_LEN_NEXT_LEN)) = 0) (hk : s.keeps y [.beat, .live])
    (hr : s.keepsRegs y l) (hl : ∀ o ∈ lenRegs, o ∈ l) (hst : y.beat.start = s.beat.start) :
    answers (exec (.beatLenChanged t) s) fun u =>
      LenChanged s u ∧ (SharesIn s y → SharesIn s u) ∧ s.keepsRegs u l := by
  refine answers_beatLenChanged hs hb hd hm ?_
  rw [lenApply_taken hy he]
  exact ⟨(lenChanged_withQueue ..).2 (lenChanged_lenTaken hk hst),
    fun h => (sharesIn_withQueue ..).2 (sharesIn_lenTaken h _ _),
    (State.keepsRegs_withQueue ..).2 (keepsRegs_lenTaken_disarmLen hr _ _ hl)⟩

theorem answers_mono {o : Host.Outcome State Fault Refusal} {p q : State → Prop} (h : answers o p) (hpq : ∀ u, p u → q u) :
    answers o q := by
  obtain ⟨u, hu, hp⟩ := h
  exact ⟨u, hu, hpq u hp⟩

/-- Settles O32: a sampled share set and a sampled length are judged whole; each case is one of the lemmas above. -/
theorem armedLengthsAndSharesComeIntoForce : Obligations.ArmedLengthsAndSharesComeIntoForce := by
  intro t s hs hb
  refine ⟨fun hd hw => ⟨fun he => beatSlotApply_meets hs hb hd hw he, fun he => ?_⟩,
    fun hd hm => ⟨fun hw he => ?_, fun hw he => ?_, fun hw he => ?_⟩⟩
  · refine answers_beatSlotApply hs hb hd hw ?_
    simpa using sharesApply_rejects (s := s) (x := s.at t) (len := s.beatLen) (.at s t _) (.at s t _) he
  · exact answers_mono (beatLenChanged_meets hs hb hd hm (beforeLen_alone hw) he (.at s t _) (.at s t lenRegs) (by decide) rfl)
      fun u ⟨hc, _, hr⟩ => ⟨hc, hr⟩
  · have hin := sharesIn_sharesApply (s.at t) he
    exact answers_mono (beatLenChanged_meets (l := Reg.BEAT_LEN_NEXT :: (sharesRegs ++ dropCounters)) hs hb hd hm
        (beforeLen_beside hw) ((shareErrorsNow_of_sharesIn hin _).trans he)
        (keeps_sharesApply (.at s t _) he (by decide) (by decide)) (keepsRegs_sharesApply (.at s t _) he (by decide))
        (by decide) (start_sharesApply he))
      fun u ⟨hc, hi, hr⟩ => ⟨hc, hi hin, State.keepsRegs_mono hr (by decide)⟩
  · refine answers_beatLenChanged hs hb hd hm ?_
    simpa using lenApply_rejects (s.at t) _ (lenApply_rejected (s := s.at t) hw he)

/-! ### Entering the commit slot -/

/-- The intake slot ends without work of its own. -/
theorem leaveSlot_intake {s : State} (h : s.get Fld.BEAT_STATUS_SLOT_CUR = 0) :
    s.leaveSlot = { s with beat := { s.beat with ended := true } } := by
  unfold State.leaveSlot
  split
  · rename_i he
    rw [← he]
  · rw [h, if_neg (by decide), if_neg (by decide)]

theorem enterSlot_intake {s : State} (h : s.get Fld.BEAT_STATUS_SLOT_CUR = 0) :
    s.enterSlot 1 = { s.put Fld.BEAT_STATUS_SLOT_CUR 1 with
      beat := { s.beat with used := 0, demand := 0, ended := false } } := by
  unfold State.enterSlot
  rw [h, if_neg (by decide), leaveSlot_intake h]
  rfl

/-- The commit slot is in progress, with this much demanded of it. -/
def State.inCommit (s : State) (demand : Nat) : State := (s.enterSlot 1).demanded demand

theorem keepsRegs_inCommit {s : State} (h : s.get Fld.BEAT_STATUS_SLOT_CUR = 0) (d : Nat) :
    s.keepsRegs (s.inCommit d) [Reg.BEAT_STATUS] := by
  unfold State.inCommit
  rw [enterSlot_intake h]
  exact (State.keepsRegs.beat (State.keepsRegs.beat (State.keepsRegs_put s Fld.BEAT_STATUS_SLOT_CUR 1) _) _)

theorem keeps_inCommit {s : State} (h : s.get Fld.BEAT_STATUS_SLOT_CUR = 0) (d : Nat) : s.keeps (s.inCommit d) [.beat] := by
  unfold State.inCommit
  rw [enterSlot_intake h]
  exact State.keeps_beat _ (State.keeps_beat _ (State.keeps_mono (State.keeps_put s _ _) (by simp)) (by decide)) (by decide)

theorem get_inCommit {s : State} (h : s.get Fld.BEAT_STATUS_SLOT_CUR = 0) (d : Nat) :
    (s.inCommit d).get Fld.BEAT_STATUS_SLOT_CUR = 1 := by
  unfold State.inCommit State.demanded
  rw [enterSlot_intake h, State.get_beat, State.get_beat, State.get_put_fit _ _ _ (by decide) (by decide) (by decide)]

theorem beat_inCommit {s : State} (h : s.get Fld.BEAT_STATUS_SLOT_CUR = 0) (d : Nat) :
    (s.inCommit d).beat = { s.beat with used := 0, demand := max 0 d, ended := false } := by
  unfold State.inCommit
  rw [enterSlot_intake h]
  rfl

/-- With fewer than 16 overruns nothing of the commit is dropped. -/
theorem commitDropped_few {s : State} (h : s.beat.commitOverruns < 16) : s.commitDropped = s := if_pos h

theorem commitSlot_eq {s : State} (h : s.get Fld.BEAT_STATUS_SLOT_CUR = 0) (hn : s.beat.commitOverruns < 16) (d : Nat)
    (busy : List Nat) :
    s.commitSlot d busy = if 1000 < d then (s.inCommit d).commitDefer else (s.inCommit d).commitDone busy := by
  have hc : (s.inCommit d).commitDropped = s.inCommit d := commitDropped_few (by rw [beat_inCommit h]; exact hn)
  unfold State.commitSlot
  change (if 1000 < d then (s.inCommit d).commitDropped.commitDefer else (s.inCommit d).commitDropped.commitDone busy) = _
  rw [hc]

/-! ### What the commit holds back (R39, R40) -/

theorem commitContent_inCommit {s : State} (h : s.get Fld.BEAT_STATUS_SLOT_CUR = 0) (d : Nat) :
    (s.inCommit d).commitContent = s.commitContent := by
  have hr := keepsRegs_inCommit h d
  have hk := keeps_inCommit h d
  have hc : (s.inCommit d).cmds = s.cmds := hk .cmds (by decide)
  have hi : (s.inCommit d).ciph = s.ciph := hk .ciph (by decide)
  have hf : (s.inCommit d).fab = s.fab := hk .fab (by decide)
  have hg : (s.inCommit d).glb = s.glb := hk .glb (by decide)
  simp only [State.commitContent, hc, hi, hf, hg, hr.get (f := Fld.BEAT_LEN_NEXT_ARM) (by decide),
    hr.get (f := Fld.BEAT_SLOT_NEXT2_ARM) (by decide)]

/-- Does the commit that `d` describes hold a staged set, once `d` is remembered? (The test of `commitDefer`.) -/
def State.stagedIn (s : State) (d : Deferred) : Bool :=
  s.fab.validated && d.tables || (s.ciph.loads.any fun (l : KeyLoad) => d.loads.contains l.slot) ||
    (d.len && s.get Fld.BEAT_LEN_NEXT_ARM == 1 && !s.beat.lenSampled) ||
    (d.shares && s.get Fld.BEAT_SLOT_NEXT2_ARM == 1 && !s.beat.shareSampled) ||
    ({ s with cmds := s.cmds.filter fun (c : RegCmd) => d.cmds.contains c,
              ciph := { s.ciph with loads := [] }, fab := { s.fab with validated := false },
              beat := { s.beat with lenSampled := true, shareSampled := true } } : State).stagedPending

theorem commitDefer_eq (s : State) :
    s.commitDefer = { s with beat := { s.beat with
      deferred := some (s.beat.deferred.getD s.commitContent),
      commitOverruns := if ({ s with beat := { s.beat with deferred := some (s.beat.deferred.getD s.commitContent) } } : State).stagedIn
        (s.beat.deferred.getD s.commitContent) then s.beat.commitOverruns + 1 else 0 } } := rfl

/-- The requests that alone make a commit hold a staged set (R40). -/
def State.stagedCmds (s : State) : Bool := s.cmds.any fun (c : RegCmd) => match c with
  | .canTiming n => s.domain (domainOf n) == 2
  | .reefCommit => true
  | .nestCommit => s.nestPowered
  | .raRearm _ => s.domain 4 == 2
  | .fvWrite .. => true
  | .step _ => true
  | .snapGo => true
  | _ => false

theorem stagedPending_eq (s : State) :
    s.stagedPending = (s.fab.validated || !s.ciph.loads.isEmpty ||
      (s.get Fld.BEAT_LEN_NEXT_ARM == 1 && !s.beat.lenSampled) ||
      (s.get Fld.BEAT_SLOT_NEXT2_ARM == 1 && !s.beat.shareSampled) || s.stagedCmds) := rfl

/-- Of everything pending, the commit holds exactly what is staged. -/
theorem stagedIn_commitContent (s : State) : s.stagedIn s.commitContent = s.stagedPending := by
  have hl : (s.ciph.loads.any fun (l : KeyLoad) => (s.ciph.loads.map (·.slot)).contains l.slot) = !s.ciph.loads.isEmpty := by
    cases h : s.ciph.loads with
    | nil => rfl
    | cons l r => simp
  have hc : (s.cmds.filter fun (c : RegCmd) => s.cmds.contains c) = s.cmds :=
    List.filter_eq_self.2 fun c hc => by simpa using hc
  have hd : ∀ (b : BeatUnit) (f : Fabric) (c : Ciph),
      ({ s with cmds := s.cmds, ciph := c, fab := f, beat := b } : State).stagedCmds = s.stagedCmds := fun _ _ _ => rfl
  rw [stagedPending_eq]
  unfold State.stagedIn
  rw [stagedPending_eq]
  simp only [State.commitContent, hc, hl, Bool.and_self, hd]
  simp

theorem stagedIn_deferred (s : State) (o : Option Deferred) (d : Deferred) :
    ({ s with beat := { s.beat with deferred := o } } : State).stagedIn d = s.stagedIn d := rfl

theorem stagedPending_inCommit {s : State} (h : s.get Fld.BEAT_STATUS_SLOT_CUR = 0) (d : Nat) :
    (s.inCommit d).stagedPending = s.stagedPending := by
  have hr := keepsRegs_inCommit h d
  have hk := keeps_inCommit h d
  have hc : (s.inCommit d).cmds = s.cmds := hk .cmds (by decide)
  have hi : (s.inCommit d).ciph = s.ciph := hk .ciph (by decide)
  have hf : (s.inCommit d).fab = s.fab := hk .fab (by decide)
  have hdom : ∀ n, (s.inCommit d).domain n = s.domain n := fun n => hr.get (by
    simp only [Fld.PWR_Dd_STAT_STATE, Reg.PWR_Dd_STAT, Reg.BEAT_STATUS, List.mem_singleton]; omega)
  simp only [stagedPending_eq, State.stagedCmds, State.nestPowered, hc, hi, hf, hdom, beat_inCommit h,
    hr.get (f := Fld.BEAT_LEN_NEXT_ARM) (by decide), hr.get (f := Fld.BEAT_SLOT_NEXT2_ARM) (by decide)]

/-- A commit slot whose work does not fit: what it shows, what it keeps, and the overrun it counts. -/
theorem commitSlot_defers {s : State} (h : s.get Fld.BEAT_STATUS_SLOT_CUR = 0) (hn : s.beat.commitOverruns < 16) {d : Nat}
    (hd : 1000 < d) (busy : List Nat) :
    (s.commitSlot d busy).get Fld.BEAT_STATUS_SLOT_CUR = 1 ∧
      (s.commitSlot d busy).beat.deferred = some (s.beat.deferred.getD s.commitContent) ∧
      (s.beat.deferred = none →
        (s.commitSlot d busy).beat.commitOverruns = if s.stagedPending then s.beat.commitOverruns + 1 else 0) ∧
      s.keepsRegs (s.commitSlot d busy) [Reg.BEAT_STATUS] ∧ s.keeps (s.commitSlot d busy) [.beat] := by
  rw [commitSlot_eq h hn, if_pos hd, commitDefer_eq]
  have hb := beat_inCommit h d
  refine ⟨?_, ?_, fun hno => ?_, (keepsRegs_inCommit h d).beat _, State.keeps_beat _ (keeps_inCommit h d) (by decide)⟩
  · rw [State.get_beat, get_inCommit h]
  · simp only [hb, commitContent_inCommit h]
  · have ho : (s.inCommit d).beat.deferred = none := by rw [hb]; exact hno
    rw [ho, stagedIn_deferred, Option.getD_none, stagedIn_commitContent, stagedPending_inCommit h, hb]

/-! ### Requests of a commit that goes live -/

theorem cmds_pendStep (s : State) (v : Int) (host : Bool) : (s.pendStep v host).cmds = s.cmds := by
  unfold State.pendStep
  rw [State.put_cmds]

/-- The value of a step request: the mean of the held measurements (mode 1), or as written (R56). -/
def State.stepValue (s : State) (mode : Nat) : Int :=
  if mode = 1 then (if s.time.held.length < 8 then 0 else roundFree (meanOf s.time.held))
  else toSigned 64 (s.reg64 Reg.TIME_STEP_VALUE)

theorem evaluateStep_eq (s : State) (m : Nat) :
    s.evaluateStep m = if s.stepRefusal m (s.stepValue m) = 0
      then (s.put Fld.TIME_STEP_STATUS_RESULT 1).pendStep (s.stepValue m) true
      else (s.put Fld.TIME_STEP_STATUS_RESULT (s.stepRefusal m (s.stepValue m))).raise 0x0305 0
        [n4 (s.stepRefusal m (s.stepValue m))] := rfl

theorem cmds_evaluateStep (s : State) (m : Nat) : (s.evaluateStep m).cmds = s.cmds := by
  rw [evaluateStep_eq]
  split
  · rw [cmds_pendStep, State.put_cmds]
  · rw [State.raise_cmds, State.put_cmds]

theorem cmds_foldl_evaluateStep (l : List Nat) (s : State) :
    (l.foldl (fun (s : State) m => s.evaluateStep m) s).cmds = s.cmds := by
  induction l generalizing s with
  | nil => rfl
  | cons m l ih => rw [List.foldl_cons, ih, cmds_evaluateStep]

/-- Is a request none of a time step? -/
def RegCmd.noStep (c : RegCmd) : Bool := match c with
  | .step _ => false
  | _ => true

theorem cmds_evaluateSteps (s : State) : s.evaluateSteps.cmds = s.cmds.filter RegCmd.noStep := by
  unfold State.evaluateSteps
  rw [cmds_foldl_evaluateStep]
  rfl

theorem snapGo_not_mem_snapAccept (s : State) : RegCmd.snapGo ∉ s.snapAccept.cmds := by
  unfold State.snapAccept
  split
  · simp
  · rename_i h; simpa using h

theorem commitEnd_cmds (s : State) (busy : List Nat) : ∃ y : State, (s.commitEnd busy).cmds = y.snapAccept.evaluateSteps.cmds := by
  unfold State.commitEnd
  extract_lets _ _ _ _ _ _ _ _ _ _ k
  exact ⟨k.nvmCmds.rederiveAll, rfl⟩

/-- At the end of the slot no time step and no snapshot is asked for any more. -/
theorem commitEnd_drops (s : State) (busy : List Nat) :
    (∀ m, RegCmd.step m ∉ (s.commitEnd busy).cmds) ∧ RegCmd.snapGo ∉ (s.commitEnd busy).cmds := by
  obtain ⟨y, hy⟩ := commitEnd_cmds s busy
  rw [hy, cmds_evaluateSteps]
  exact ⟨fun m => by simp [RegCmd.noStep], fun h => snapGo_not_mem_snapAccept y (List.mem_filter.1 h).1⟩

/-- Does the commit in progress hold a request: all of them, or those that its first overrun held back? -/
def State.holds (s : State) (c : RegCmd) : Prop := s.beat.deferred = none ∨ ∃ d, s.beat.deferred = some d ∧ c ∈ d.cmds

/-- A request that the commit holds and its work does away with waits no longer. -/
theorem onCommit_drops {s : State} {work : State → State} {c : RegCmd} (h : s.holds c) (hw : ∀ t, c ∉ (work t).cmds) :
    c ∉ (s.onCommit work).cmds := by
  unfold State.onCommit
  rcases h with h | ⟨d, h, hc⟩
  · rw [h]; exact hw s
  · rw [h]
    simp only [List.mem_append, not_or, List.mem_filter, not_and]
    refine ⟨hw _, fun _ => by simpa using hc⟩

theorem beatSample_cmds (s : State) : s.beatSample.cmds = s.cmds := by
  unfold State.beatSample
  dsimp only
  rw [State.put_cmds, State.put_cmds]

theorem keepsRegs_beatSample (s : State) : s.keepsRegs s.beatSample [Reg.BEAT_STATUS] :=
  have h : s.keepsRegs s [Reg.BEAT_STATUS] := State.keepsRegs_mono (State.keepsRegs_refl s) (by simp)
  ((h.beat _).put Fld.BEAT_STATUS_LEN_ARMED _ (by decide)).put Fld.BEAT_STATUS_SLOT_ARMED _ (by decide)

/-- An armed length or share set has been sampled. -/
theorem beatSample_samples (s : State) :
    (s.beatSample.get Fld.BEAT_LEN_NEXT_ARM = 1 → s.beatSample.beat.lenSampled = true) ∧
      (s.beatSample.get Fld.BEAT_SLOT_NEXT2_ARM = 1 → s.beatSample.beat.shareSampled = true) := by
  rw [(keepsRegs_beatSample s).get (f := Fld.BEAT_LEN_NEXT_ARM) (by decide),
    (keepsRegs_beatSample s).get (f := Fld.BEAT_SLOT_NEXT2_ARM) (by decide)]
  unfold State.beatSample
  dsimp only
  rw [State.put_beat, State.put_beat]
  constructor <;> intro h <;> simp [h]

theorem beatSample_beat (s : State) :
    s.beatSample.beat.deferred = s.beat.deferred ∧ s.beatSample.beat.commitOverruns = s.beat.commitOverruns := by
  unfold State.beatSample
  dsimp only
  rw [State.put_beat, State.put_beat]
  exact ⟨rfl, rfl⟩

/-- The commit with its requests done, before the arms are sampled. -/
def State.commitWhole (s : State) (busy : List Nat) : State :=
  let s := s.onCommit fun (s : State) => (s.commitStart).commitEnd busy
  { s with beat := { s.beat with commitOverruns := 0, deferred := none } }

theorem commitWhole_cmds {s : State} {c : RegCmd} (h : s.holds c) (busy : List Nat)
    (hc : ∀ t : State, c ∉ (t.commitEnd busy).cmds) : c ∉ (s.commitWhole busy).cmds :=
  onCommit_drops (work := fun (s : State) => (s.commitStart).commitEnd busy) h fun t => hc t.commitStart

theorem commitDone_eq (s : State) (busy : List Nat) :
    s.commitDone busy = (s.commitWhole busy).beatSample ∨ s.beat.deferred ≠ none ∧ s.commitDone busy = s.commitWhole busy := by
  unfold State.commitDone
  cases h : s.beat.deferred with
  | none => exact .inl (by rw [if_pos rfl]; rfl)
  | some d =>
    dsimp only
    split
    · exact .inl rfl
    · exact .inr ⟨by simp, rfl⟩

/-- A commit that completes: its requests are gone, nothing is deferred, and a commit with nothing deferred before it has
sampled the arms. -/
theorem commitDone_completes (s : State) (busy : List Nat) :
    (∀ m, s.holds (.step m) → RegCmd.step m ∉ (s.commitDone busy).cmds) ∧
      (s.holds .snapGo → RegCmd.snapGo ∉ (s.commitDone busy).cmds) ∧
      (s.commitDone busy).beat.deferred = none ∧ (s.commitDone busy).beat.commitOverruns = 0 ∧
      (s.beat.deferred = none →
        ((s.commitDone busy).get Fld.BEAT_LEN_NEXT_ARM = 1 → (s.commitDone busy).beat.lenSampled = true) ∧
        ((s.commitDone busy).get Fld.BEAT_SLOT_NEXT2_ARM = 1 → (s.commitDone busy).beat.shareSampled = true)) := by
  have hstep : ∀ m, s.holds (.step m) → RegCmd.step m ∉ (s.commitWhole busy).cmds := fun m h =>
    commitWhole_cmds h busy fun t => (commitEnd_drops t busy).1 m
  have hsnap : s.holds .snapGo → RegCmd.snapGo ∉ (s.commitWhole busy).cmds := fun h =>
    commitWhole_cmds h busy fun t => (commitEnd_drops t busy).2
  have hb : (s.commitWhole busy).beat.deferred = none ∧ (s.commitWhole busy).beat.commitOverruns = 0 := ⟨rfl, rfl⟩
  rcases commitDone_eq s busy with h | ⟨hd, h⟩
  · rw [h, beatSample_cmds, (beatSample_beat _).1, (beatSample_beat _).2]
    exact ⟨hstep, hsnap, hb.1, hb.2, fun _ => beatSample_samples _⟩
  · rw [h]
    exact ⟨hstep, hsnap, hb.1, hb.2, fun hn => absurd hn hd⟩

/-! ### An abandoned commit (R40) -/

/-- The work of abandonment: what the commit holds is dropped. -/
def State.dropAll (s : State) : State :=
  let s := s.commitAbandon.dropLoads
  s.cmds.foldl (fun (s : State) c => s.dropStaged c) { s with cmds := [] }

/-- Nothing is deferred any more, and the overruns are counted anew. -/
def State.commitForgotten (s : State) : State := { s with beat := { s.beat with commitOverruns := 0, deferred := none } }

theorem commitDropped_many {s : State} (h : 16 ≤ s.beat.commitOverruns) :
    s.commitDropped = (s.onCommit State.dropAll).dropArms.commitForgotten.raise 0x0205 0 [n4 16] :=
  if_neg (Nat.not_lt.2 h)

/-! What the parts of it leave. -/

theorem keeps_commitAbandon (s : State) : s.keeps s.commitAbandon [.fab] := by
  unfold State.commitAbandon
  split
  · exact State.keeps_back (State.keeps.put (State.keeps_fab _ (State.keeps_mono (State.keeps_refl s) (by simp)) (by decide)) _ _)
      (State.keeps_setReg _ _ _) (by simp)
  · exact State.keeps_mono (State.keeps_refl s) (by simp)

theorem keeps_foldl {α : Type} {s x : State} {l : List Part} {g : State → α → State} (hg : ∀ y a, s.keeps y l → s.keeps (g y a) l)
    (as : List α) (h : s.keeps x l) : s.keeps (as.foldl g x) l := by
  induction as generalizing x with
  | nil => exact h
  | cons a as ih => exact ih (hg x a h)

theorem keeps_dropLoads {s x : State} {l : List Part} (h : s.keeps x l) (hc : Part.ciph ∈ l) : s.keeps x.dropLoads l :=
  keeps_foldl (fun _ _ hy => hy.put _ _) _ (State.keeps_ciph _ h hc)

theorem keeps_dropStaged {s x : State} {l : List Part} (h : s.keeps x l) (hc : Part.cmds ∈ l) (c : RegCmd) :
    s.keeps (x.dropStaged c) l := by
  cases c <;> simp only [State.dropStaged] <;> first
    | exact h.put _ _
    | exact State.keeps_cmds _ h hc
    | exact h
    | (split <;> first | exact h.put _ _ | exact h | exact State.keeps_cmds _ h hc)

theorem keeps_dropAll {s x : State} {l : List Part} (h : s.keeps x l) (hf : Part.fab ∈ l) (hi : Part.ciph ∈ l)
    (hc : Part.cmds ∈ l) : s.keeps x.dropAll l :=
  keeps_foldl (fun _ c hy => keeps_dropStaged hy hc c) _
    (State.keeps_cmds _ (keeps_dropLoads (State.keeps_back h (keeps_commitAbandon x) (by simpa using hf)) hi) hc)

theorem keeps_dropArms {s x : State} {l : List Part} (h : s.keeps x l) (hl : Part.live ∈ l) : s.keeps x.dropArms l := by
  have step : ∀ (y : State) (c : Prop) [Decidable c] (f : Fld), s.keeps y l → s.keeps (if c then y.putBoth f 0 else y) l :=
    fun y c _ f hy => State.keeps_ite (hy.putBoth f 0 hl) hy
  exact step _ _ _ (step _ _ _ h)

/-- The state with these requests and units. -/
def State.withStaged (s : State) (c : List RegCmd) (i : Ciph) (f : Fabric) (g : Glb) : State :=
  { s with cmds := c, ciph := i, fab := f, glb := g }

theorem keeps_withStaged {s x : State} {l : List Part} (h : s.keeps x l) (c : List RegCmd) (i : Ciph) (f : Fabric) (g : Glb)
    (hl : ∀ p ∈ [Part.cmds, Part.ciph, Part.fab, Part.glb], p ∈ l) : s.keeps (x.withStaged c i f g) l := by
  intro p hp
  have hk := h p hp
  cases p <;> first
    | exact hk
    | exact absurd (hl _ (by decide)) hp

/-- What the work on a pending commit sees: what was staged when its first overrun held it back. -/
def State.commitInside (s : State) (d : Deferred) : State :=
  s.withStaged (s.cmds.filter fun (c : RegCmd) => d.cmds.contains c)
    { s.ciph with loads := s.ciph.loads.filter fun (l : KeyLoad) => d.loads.contains l.slot }
    { s.fab with validated := s.fab.validated && d.tables } { s.glb with bankStaged := s.glb.bankStaged && d.bank }

/-- After the work, what was staged later stands beside what it left. -/
def State.commitMerged (t s : State) (d : Deferred) : State :=
  t.withStaged (t.cmds ++ s.cmds.filter fun (c : RegCmd) => !d.cmds.contains c)
    { t.ciph with loads := t.ciph.loads ++ s.ciph.loads.filter fun (l : KeyLoad) => !d.loads.contains l.slot }
    { t.fab with validated := t.fab.validated || (s.fab.validated && !d.tables) }
    { t.glb with bankStaged := t.glb.bankStaged || (s.glb.bankStaged && !d.bank) }

theorem onCommit_none {s : State} (h : s.beat.deferred = none) (work : State → State) : s.onCommit work = work s := by
  unfold State.onCommit; rw [h]

theorem onCommit_some {s : State} {d : Deferred} (h : s.beat.deferred = some d) (work : State → State) :
    s.onCommit work = (work (s.commitInside d)).commitMerged s d := by
  unfold State.onCommit; rw [h]; rfl

theorem keeps_onCommit {s : State} {work : State → State} {l : List Part} (hw : ∀ x, s.keeps x l → s.keeps (work x) l)
    (hl : ∀ p ∈ [Part.cmds, Part.ciph, Part.fab, Part.glb], p ∈ l) : s.keeps (s.onCommit work) l := by
  have h0 : s.keeps s l := State.keeps_mono (State.keeps_refl s) (by simp)
  cases h : s.beat.deferred with
  | none => rw [onCommit_none h]; exact hw s h0
  | some d =>
    rw [onCommit_some h]
    exact keeps_withStaged (hw _ (keeps_withStaged h0 _ _ _ _ hl)) _ _ _ _ hl

/-- The parts that an abandoned commit can touch. -/
def abandonParts : List Part := .beat :: .ciph :: .cmds :: .live :: .fab :: .glb :: eventParts

theorem keeps_commitDropped {s : State} (h : 16 ≤ s.beat.commitOverruns) : s.keeps s.commitDropped abandonParts := by
  rw [commitDropped_many h]
  exact (State.keeps_beat _ (keeps_dropArms (keeps_onCommit (fun x hx => keeps_dropAll hx (by decide) (by decide) (by decide))
    (by decide)) (by decide)) (by decide)).raise _ _ _ (by decide)

/-! The loads and the requests that are left. -/

theorem ciph_dropStaged (s : State) (c : RegCmd) : (s.dropStaged c).ciph = s.ciph :=
  keeps_dropStaged (l := [.cmds]) (State.keeps_mono (State.keeps_refl s) (by simp)) (by decide) c .ciph (by decide)

theorem foldl_same {α β : Type} {g : State → α → State} (view : State → β) (hg : ∀ y a, view (g y a) = view y) (as : List α)
    (x : State) : view (as.foldl g x) = view x := by
  induction as generalizing x with
  | nil => rfl
  | cons a as ih => exact (ih (g x a)).trans (hg x a)

theorem loads_dropLoads (s : State) : s.dropLoads.ciph.loads = [] := by
  unfold State.dropLoads
  rw [foldl_same State.ciph fun y a => State.put_ciph _ _ _]

theorem loads_dropAll (s : State) : s.dropAll.ciph.loads = [] := by
  unfold State.dropAll
  rw [foldl_same State.ciph ciph_dropStaged]
  exact loads_dropLoads _

/-- A request that abandonment drops outright: a Reef commit or a freshness write. -/
def RegCmd.dropped (c : RegCmd) : Prop := c = .reefCommit ∨ ∃ a b v, c = .fvWrite a b v

theorem dropStaged_cmds {s : State} {c d : RegCmd} (hc : c.dropped) (h : c ∉ s.cmds) : c ∉ (s.dropStaged d).cmds := by
  have keep : d ≠ c → c ∉ s.cmds ++ [d] := fun hd => by simp [h, Ne.symm hd]
  rcases hc with rfl | ⟨a, b, v, rfl⟩ <;> cases d <;> simp only [State.dropStaged] <;> (try split) <;> first
    | exact h
    | exact keep (by simp)

theorem dropAll_drops {c : RegCmd} (hc : c.dropped) (s : State) : c ∉ s.dropAll.cmds := by
  have key : ∀ (l : List RegCmd) (x : State), c ∉ x.cmds → c ∉ (l.foldl (fun (s : State) d => s.dropStaged d) x).cmds := by
    intro l
    induction l with
    | nil => exact fun _ h => h
    | cons d l ih => exact fun x h => ih _ (dropStaged_cmds hc h)
  exact key _ _ (by simp)

theorem cmds_dropArms (s : State) : s.dropArms.cmds = s.cmds :=
  keeps_dropArms (l := [.live]) (State.keeps_mono (State.keeps_refl s) (by simp)) (by decide) .cmds (by decide)

theorem ciph_dropArms (s : State) : s.dropArms.ciph = s.ciph :=
  keeps_dropArms (l := [.live]) (State.keeps_mono (State.keeps_refl s) (by simp)) (by decide) .ciph (by decide)

theorem cmds_commitDropped {s : State} (h : 16 ≤ s.beat.commitOverruns) :
    s.commitDropped.cmds = (s.onCommit State.dropAll).cmds := by
  rw [commitDropped_many h, State.raise_cmds]
  exact cmds_dropArms _

theorem ciph_commitDropped {s : State} (h : 16 ≤ s.beat.commitOverruns) :
    s.commitDropped.ciph = (s.onCommit State.dropAll).ciph := by
  rw [commitDropped_many h, State.raise_ciph]
  exact ciph_dropArms _

/-- The loads left are those that the commit did not hold. -/
theorem loads_onCommit_dropAll (s : State) :
    (s.beat.deferred = none → (s.onCommit State.dropAll).ciph.loads = []) ∧
      ∀ l ∈ (s.onCommit State.dropAll).ciph.loads, ∃ d, s.beat.deferred = some d ∧ l.slot ∉ d.loads := by
  cases h : s.beat.deferred with
  | none =>
    rw [onCommit_none h, loads_dropAll]
    simp
  | some d =>
    rw [onCommit_some h]
    refine ⟨fun h => (Option.some_ne_none _ h).elim, fun l hl => ⟨d, rfl, ?_⟩⟩
    have hl : l ∈ (s.commitInside d).dropAll.ciph.loads ++ s.ciph.loads.filter fun (l : KeyLoad) => !d.loads.contains l.slot := hl
    rw [loads_dropAll, List.nil_append, List.mem_filter] at hl
    simpa using hl.2

/-! The route commit that abandonment refuses (RESULT 3, REASON 12). -/

/-- The fabric's registers of route commits. -/
def fabCommitRegs : List Nat := [Reg.FAB_STATUS, Reg.FAB_COMMIT_RES]

theorem ne_of_fabCommitRegs {o x : Nat} (ho : o ∈ fabCommitRegs) (hx : x < 0x40000 ∨ 0x80000 ≤ x) : o ≠ x := by
  simp only [fabCommitRegs, Reg.FAB_STATUS, Reg.FAB_COMMIT_RES, List.mem_cons, List.not_mem_nil, or_false] at ho
  omega

theorem reg_dropStaged {s : State} {o : Nat} (ho : o ∈ fabCommitRegs) (c : RegCmd) : (s.dropStaged c).reg o = s.reg o := by
  have put : ∀ f v, (0x80000 ≤ f.off) → (s.put f v).reg o = s.reg o := fun f v h =>
    State.reg_put s f v o (ne_of_fabCommitRegs ho (.inr h))
  cases c with
  | canTiming n =>
    simp only [State.dropStaged]
    split
    · exact put _ _ (by simp only [Fld.CANP_STATUS_TIMING_PENDING, Reg.CANP_STATUS]; omega)
    · rfl
  | nestCommit => simp only [State.dropStaged]; split; exacts [put _ _ (by decide), rfl]
  | raRearm n => simp only [State.dropStaged]; split <;> rfl
  | reefCommit => exact put _ _ (by decide)
  | fvWrite a b v => exact put _ _ (by decide)
  | snapGo => exact put _ _ (by decide)
  | _ => rfl

theorem reg_dropLoads {s : State} {o : Nat} (ho : o ∈ fabCommitRegs) : s.dropLoads.reg o = s.reg o :=
  foldl_same (fun y => y.reg o) (fun y l => State.reg_put y _ _ o (ne_of_fabCommitRegs ho
    (.inr (by simp only [Fld.CIPH_KSn_STAT_STATE, Reg.CIPH_KSn_STAT]; omega)))) _ _

theorem reg_dropAll {s : State} {o : Nat} (ho : o ∈ fabCommitRegs) : s.dropAll.reg o = s.commitAbandon.reg o :=
  (foldl_same (fun y => y.reg o) (fun _ c => reg_dropStaged ho c) _ _).trans (reg_dropLoads ho)

theorem reg_dropArms {s : State} {o : Nat} (ho : o ∈ fabCommitRegs) : s.dropArms.reg o = s.reg o := by
  have step : ∀ (y : State) (c : Prop) [Decidable c] (f : Fld), f.off < 0x40000 →
      (if c then y.putBoth f 0 else y).reg o = y.reg o := fun y c _ f hf => by
    split
    · exact State.keepsRegs_putBoth y f 0 o (by simpa using ne_of_fabCommitRegs ho (.inl hf))
    · rfl
  exact (step _ _ _ (by decide)).trans (step _ _ _ (by decide))

theorem reg_commitDropped {s : State} (h : 16 ≤ s.beat.commitOverruns) {o : Nat} (ho : o ∈ fabCommitRegs) :
    s.commitDropped.reg o = (s.onCommit State.dropAll).reg o := by
  rw [commitDropped_many h, State.reg_raise _ _ _ _ _ (fun h => by
    have := ho; revert this h; revert o; decide)]
  exact reg_dropArms ho

/-- The result of a route commit that was abandoned. -/
def State.routesRefused (s : State) : Prop :=
  s.get Fld.FAB_STATUS_COMMIT = 0 ∧ s.get Fld.FAB_COMMIT_RES_RESULT = 3 ∧ s.get Fld.FAB_COMMIT_RES_REASON = 12

theorem routesRefused_commitAbandon {s : State} (h : s.fab.validated = true) : s.commitAbandon.routesRefused := by
  unfold State.commitAbandon
  rw [if_pos h]
  have hr : ∀ (y : State), (y.setReg Reg.FAB_COMMIT_RES (BitVec.ofNat 32 (3 + 12 * 2 ^ 4))).reg Reg.FAB_COMMIT_RES = 195#32 :=
    fun y => State.reg_setReg_self ..
  refine ⟨?_, ?_, ?_⟩
  · rw [State.keepsRegs.get (l := [Reg.FAB_COMMIT_RES]) (fun o ho => State.reg_setReg_ne _ _ (by simpa using ho)) (by decide),
      State.get_put_zero _ _ (by decide) (by decide)]
  · exact congrArg (fun w : Word => w.toNat / 2 ^ 0 % 2 ^ 2) (hr _)
  · exact congrArg (fun w : Word => w.toNat / 2 ^ 4 % 2 ^ 4) (hr _)

theorem routesRefused_of_regs {s u : State} (h : s.routesRefused) (hr : ∀ o ∈ fabCommitRegs, u.reg o = s.reg o) :
    u.routesRefused := by
  have hg : ∀ f : Fld, f.off ∈ fabCommitRegs → u.get f = s.get f := fun f hf => by simp only [State.get, hr _ hf]
  obtain ⟨h1, h2, h3⟩ := h
  exact ⟨(hg _ (by decide)).trans h1, (hg _ (by decide)).trans h2, (hg _ (by decide)).trans h3⟩

theorem routesRefused_dropAll {s : State} (h : s.fab.validated = true) : s.dropAll.routesRefused :=
  routesRefused_of_regs (routesRefused_commitAbandon h) fun _ ho => reg_dropAll ho

theorem routesRefused_commitDropped {s : State} (h : 16 ≤ s.beat.commitOverruns) (hv : s.fab.validated = true)
    (hd : ∀ d, s.beat.deferred = some d → d.tables = true) : s.commitDropped.routesRefused := by
  refine routesRefused_of_regs ?_ fun o ho => reg_commitDropped h ho
  cases hs : s.beat.deferred with
  | none => rw [onCommit_none hs]; exact routesRefused_dropAll hv
  | some d =>
    rw [onCommit_some hs]
    have hi : (s.commitInside d).fab.validated = true := by
      change (s.fab.validated && d.tables) = true
      rw [hv, hd d hs]; rfl
    exact routesRefused_of_regs (routesRefused_dropAll hi) fun _ _ => rfl

theorem beat_commitDropped {s : State} (h : 16 ≤ s.beat.commitOverruns) :
    s.commitDropped.beat.commitOverruns = 0 ∧ s.commitDropped.beat.deferred = none := by
  rw [commitDropped_many h, State.raise_beat]
  exact ⟨rfl, rfl⟩

theorem told_commitDropped {s : State} (h : 16 ≤ s.beat.commitOverruns) : s.commitDropped.told 0x0205 0 [n4 16] := by
  rw [commitDropped_many h]
  exact State.told_raise ..

/-! ### The obligation -/

/-- COMMIT_SLOT at its time does what `commitSlot` does. -/
theorem answers_commitSlot {t : Tai} {s : State} {p : State → Prop} {d : Nat} {busy : List Nat} (hs : s.up = true)
    (ho : (s.at t).slotOpen 1 = true) (hc : s.get Fld.BEAT_STATUS_SLOT_CUR = 0)
    (hb : (busy.all fun n => decide (n < 48)) = true) (hp : p (((s.at t).commitSlot d busy).withQueue s.pending)) :
    answers (exec (.commitSlot d busy t) s) p := by
  refine answers_effect (m := "COMMIT_SLOT") hs (decide_eq_true hb) ?_
  have h : (s.at t).slotOpen 1 = true ∧ (s.at t).get Fld.BEAT_STATUS_SLOT_CUR = 0 := ⟨ho, hc⟩
  rw [if_pos h]
  exact hp

/-- BEAT_COMMIT_ABANDONED drops the commit once it overran 16 times. -/
theorem answers_beatCommitAbandoned {t : Tai} {s : State} {p : State → Prop} (hs : s.up = true)
    (hp : p ((s.at t).commitDropped.withQueue s.pending)) : answers (exec (.beatCommitAbandoned t) s) p :=
  answers_effect (m := "BEAT_COMMIT_ABANDONED") hs rfl hp

/-- Settles O33: a commit slot that overruns defers (`commitSlot_defers`), one that fits completes (`commitDone_completes`),
and an abandoned commit drops what it held (`keeps_commitDropped` and the lemmas beside it). -/
theorem theCommitSlotIsWholeOrDeferred : Obligations.TheCommitSlotIsWholeOrDeferred := by
  intro d busy t s hs holds
  refine ⟨fun ho hc hn hb => ⟨fun hd => ?_, fun hd => ?_⟩, fun hn => ?_, fun hn => ?_⟩
  · refine answers_commitSlot hs ho hc hb ?_
    obtain ⟨hcur, hdef, hover, hr, hk⟩ := commitSlot_defers (s := s.at t) hc hn hd busy
    exact ⟨hcur, hdef, hover, (State.keepsRegs_withQueue ..).2 hr, (State.keeps_withQueue ..).2 ((State.keeps_from_at ..).1 hk)⟩
  · refine answers_commitSlot hs ho hc hb ?_
    rw [commitSlot_eq (s := s.at t) hc hn, if_neg (Nat.not_lt.2 hd)]
    have hh : ∀ c, holds c → ((s.at t).inCommit d).holds c := fun c h => by
      unfold State.holds
      rw [beat_inCommit (s := s.at t) hc]
      exact h
    obtain ⟨hstep, hsnap, hdef, hover, harm⟩ := commitDone_completes ((s.at t).inCommit d) busy
    exact ⟨fun m h => hstep m (hh _ h), fun h => hsnap (hh _ h), hdef, hover,
      fun h => harm (by rw [beat_inCommit (s := s.at t) hc]; exact h)⟩
  · refine answers_beatCommitAbandoned hs ?_
    rw [commitDropped_few (s := s.at t) hn]
    exact ⟨(State.keepsRegs_withQueue ..).2 (.at s t _), (State.keeps_withQueue ..).2 (.at s t _)⟩
  · refine answers_beatCommitAbandoned hs ?_
    have hd : ∀ c, holds c → c.dropped → c ∉ (s.at t).commitDropped.cmds := fun c h hc => by
      rw [cmds_commitDropped (s := s.at t) hn]
      exact onCommit_drops (s := s.at t) h (dropAll_drops hc)
    have hl := loads_onCommit_dropAll (s.at t)
    rw [← ciph_commitDropped (s := s.at t) hn] at hl
    obtain ⟨hover, hdef⟩ := beat_commitDropped (s := s.at t) hn
    exact ⟨hover, hdef, told_commitDropped (s := s.at t) hn, hl.1, hl.2, fun h => hd _ h (.inl rfl),
      fun a b c h => hd _ h (.inr ⟨a, b, c, rfl⟩), fun hv ht => routesRefused_commitDropped (s := s.at t) hn hv ht,
      (State.keeps_withQueue ..).2 ((State.keeps_from_at ..).1 (keeps_commitDropped (s := s.at t) hn))⟩

/-! ### Leaving a slot (R263) -/

/-- What stopping the running jobs may change: registers of the host interface's rings and of the packet memory, and the parts
of the host interface and of the ciphers. -/
structure JobFrame (s u : State) : Prop where
  reg : ∀ o, o < 0x30000 ∨ o = Reg.CIPH_LOCK → u.reg o = s.reg o
  keeps : s.keeps u [.hif, .ciph]
  inOverrun : u.hif.inOverrun = s.hif.inOverrun
  time : u.time = s.time
  ev : u.ev = s.ev

theorem JobFrame.refl (s : State) : JobFrame s s :=
  ⟨fun _ _ => rfl, State.keeps_mono (State.keeps_refl s) (by simp), rfl, rfl, rfl⟩

theorem JobFrame.trans {s x y : State} (h : JobFrame s x) (g : JobFrame x y) : JobFrame s y :=
  ⟨fun o ho => (g.reg o ho).trans (h.reg o ho), State.keeps_back h.keeps g.keeps (by simp), g.inOverrun.trans h.inOverrun,
    g.time.trans h.time, g.ev.trans h.ev⟩

theorem JobFrame.put {s x : State} (h : JobFrame s x) (f : Fld) (v : Nat)
    (hf : 0x30000 ≤ f.off ∧ f.off ≠ Reg.CIPH_LOCK) : JobFrame s (x.put f v) :=
  h.trans ⟨fun o ho => State.reg_put x f v o (by rcases ho with ho | rfl; exacts [by omega, hf.2.symm]),
    State.keeps_mono (State.keeps_put x f v) (by simp), by rw [State.put_hif], by rw [State.put_time],
      by rw [State.put_ev]⟩

theorem JobFrame.ciph {s x : State} (h : JobFrame s x) (c : Ciph) : JobFrame s { x with ciph := c } :=
  ⟨h.reg, State.keeps_ciph _ h.keeps (by decide), h.inOverrun, h.time, h.ev⟩

theorem JobFrame.hif {s x : State} (h : JobFrame s x) (u : HostIf) (hu : u.inOverrun = x.hif.inOverrun) :
    JobFrame s { x with hif := u } := ⟨h.reg, State.keeps_hif _ h.keeps (by decide), hu.trans h.inOverrun, h.time, h.ev⟩

theorem JobFrame.setTxRing {s x : State} (h : JobFrame s x) (n : Nat) (r : TxRing) : JobFrame s (x.setTxRing n r) := h.hif _ rfl

theorem jobFrame_hostFinal {s x : State} (h : JobFrame s x) (t : HostTag) (status unit total fail : Nat) (time : Tai)
    (replay : Bool) : JobFrame s (x.hostFinal t status unit total fail time none replay) := by
  unfold State.hostFinal
  rw [ite_self]
  dsimp only
  split
  · exact h.hif _ rfl
  · split
    · exact (h.setTxRing _ _).put (Fld.HIF_TXn_STAT_OUTSTANDING t.ring) _ (by
        simp only [Fld.HIF_TXn_STAT_OUTSTANDING, Reg.HIF_TXn_STAT, Reg.CIPH_LOCK]; omega)
    · exact h

theorem jobFrame_jobFinal {s x : State} (h : JobFrame s x) (j : Job) (status : Nat) : JobFrame s (x.jobFinal j status) :=
  jobFrame_hostFinal ((h.ciph _).put Fld.FAB_FREE_BLOCKS _ (by decide)) _ _ _ _ _ _ _

theorem jobFrame_tooShort {s x : State} (h : JobFrame s x) : JobFrame s x.tooShort := by
  unfold State.tooShort
  split
  · split
    · exact jobFrame_jobFinal h _ _
    · exact h
  · exact h

theorem jobFrame_stopJobs (s : State) : JobFrame (s.put Fld.CIPH_LOCK_OWNER 0) s.stopJobs := by
  have h := (JobFrame.refl (s.put Fld.CIPH_LOCK_OWNER 0)).ciph
  unfold State.stopJobs
  extract_lets y _ w _ r
  have hr : JobFrame (s.put Fld.CIPH_LOCK_OWNER 0) r := by
    unfold r
    split
    · split
      · exact jobFrame_tooShort ((h _).ciph _)
      · exact h _
    · exact h _
  split
  · exact hr
  · exact hr.ciph _

/-! Events leave the host interface's overrun flag. -/

theorem inOverrun_buffer (s : State) (e : JEntry) : (s.buffer e).hif.inOverrun = s.hif.inOverrun := by
  rw [State.buffer_hif]

theorem inOverrun_toRing (s : State) (n : Nat) (e : RxEntry) : (s.toRing n e).hif.inOverrun = s.hif.inOverrun := by
  unfold State.toRing
  extract_lets r stream
  split
  · rfl
  · unfold State.rxDrop
    change (s.count (Reg.HIF_RXn_DROP n)).hif.inOverrun = s.hif.inOverrun
    rw [State.count_hif]

theorem inOverrun_raiseWith (s : State) (p c u : Nat) (d : List Detail) :
    (s.raiseWith p c u d).hif.inOverrun = s.hif.inOverrun := by
  have spread : ∀ (y : State) (e : Event), (y.spread e).hif.inOverrun = y.hif.inOverrun := fun y e => by
    unfold State.spread
    rw [inOverrun_buffer]
    split
    · rw [inOverrun_toRing]
    · rfl
  unfold State.raiseWith
  extract_lets e y b
  split
  · split <;> rfl
  · rw [spread]

theorem inOverrun_lossCheck (s x : State) : (State.lossCheck s x).hif.inOverrun = x.hif.inOverrun := by
  unfold State.lossCheck
  split
  · rw [inOverrun_raiseWith, State.spoke_hif]
  · rfl

theorem inOverrun_raise (s : State) (c u : Nat) (d : List Detail) : (s.raise c u d).hif.inOverrun = s.hif.inOverrun :=
  (inOverrun_lossCheck _ _).trans (inOverrun_raiseWith ..)

theorem inOverrun_log (s : State) (n : Nat) (b : Bytes) : (s.log n b).hif.inOverrun = s.hif.inOverrun :=
  (inOverrun_lossCheck _ _).trans (inOverrun_buffer ..)

/-! ### The end of a slot (R41, R263) -/

/-- What leaving the slot in progress leaves in `u`. -/
structure SlotLeft (s u : State) : Prop where
  beat : u.beat = { s.beat with ended := true }
  reg : ∀ o, o < 0x30000 → u.reg o = s.reg o
  keeps : s.keeps u [.beat, .hif, .ciph]
  inOverrun : u.hif.inOverrun = s.hif.inOverrun
  time : u.time = s.time
  ev : u.ev = s.ev
  owner : s.get Fld.BEAT_STATUS_SLOT_CUR = 2 ∨ s.get Fld.BEAT_STATUS_SLOT_CUR = 3 → u.get Fld.CIPH_LOCK_OWNER = 0
  idle : s.get Fld.BEAT_STATUS_SLOT_CUR ≠ 3 ∨ (s.ciph.jobs.isEmpty && s.ciph.mgtJobs.isEmpty) = true →
    s.keepsRegs u [Reg.CIPH_LOCK] ∧ s.keeps u [.beat]

theorem ciph_noJobs {c : Ciph} (hj : c.jobs = []) (hm : c.mgtJobs = []) : ({ c with jobs := [], mgtJobs := [] } : Ciph) = c := by
  cases c
  simp_all

/-- A field depends on its register alone. -/
theorem State.get_of_reg {s u : State} {f : Fld} (h : u.reg f.off = s.reg f.off) : u.get f = s.get f := by
  simp only [State.get, h]

/-- With no job at hand, the service slot only gives the cipher lock back. -/
theorem stopJobs_idle {s : State} (h : (s.ciph.jobs.isEmpty && s.ciph.mgtJobs.isEmpty) = true) :
    s.stopJobs = s.put Fld.CIPH_LOCK_OWNER 0 := by
  obtain ⟨hj, hm⟩ := Bool.and_eq_true_iff.1 h
  unfold State.stopJobs
  have hy : (s.put Fld.CIPH_LOCK_OWNER 0).ciph = s.ciph := State.put_ciph ..
  generalize s.put Fld.CIPH_LOCK_OWNER 0 = y at hy
  have hj : y.ciph.jobs = [] := by rw [hy]; exact List.isEmpty_iff.1 hj
  have hm : y.ciph.mgtJobs = [] := by rw [hy]; exact List.isEmpty_iff.1 hm
  dsimp only
  rw [hj, hm]
  change { y with ciph := { y.ciph with jobs := [], mgtJobs := [] } } = y
  rw [ciph_noJobs hj hm]

theorem slotLeft_leaveSlot {s : State} (h : s.beat.ended = false) : SlotLeft s s.leaveSlot := by
  unfold State.leaveSlot
  rw [if_neg (by simp [h])]
  dsimp only
  have hk : s.keeps { s with beat := { s.beat with ended := true } } [.beat] :=
    State.keeps_beat _ (State.keeps_mono (State.keeps_refl s) (by simp)) (by decide)
  have hx : ({ s with beat := { s.beat with ended := true } } : State).beat = { s.beat with ended := true } := rfl
  have ht : ({ s with beat := { s.beat with ended := true } } : State).time = s.time := rfl
  have hv : ({ s with beat := { s.beat with ended := true } } : State).ev = s.ev := rfl
  have hr : s.keepsRegs { s with beat := { s.beat with ended := true } } [Reg.CIPH_LOCK] :=
    State.keepsRegs.beat (State.keepsRegs_mono (State.keepsRegs_refl s) (by simp)) _
  have hput := hr.put Fld.CIPH_LOCK_OWNER 0 (by decide)
  have hget : ∀ x : State, (x.put Fld.CIPH_LOCK_OWNER 0).get Fld.CIPH_LOCK_OWNER = 0 := fun x =>
    State.get_put_zero _ _ (by decide) (by decide)
  have hlow : ∀ o, o < 0x30000 → o ∉ [Reg.CIPH_LOCK] := fun o ho => by
    simp only [Reg.CIPH_LOCK, List.mem_singleton]; omega
  split
  · refine ⟨?_, fun o ho => hput o (hlow o ho), State.keeps_mono (hk.put _ _) (by decide), ?_, ?_, ?_, fun _ => hget _,
      fun _ => ⟨hput, hk.put _ _⟩⟩
    · rw [State.put_beat]
    · rw [State.put_hif]
    · rw [State.put_time]
    · rw [State.put_ev]
  · split
    · rename_i h3
      generalize { s with beat := { s.beat with ended := true } } = x at hk hput hget hx ht hv
      have hf := jobFrame_stopJobs x
      refine ⟨?_, fun o ho => (hf.reg o (.inl ho)).trans (hput o (hlow o ho)),
        State.keeps_back (State.keeps_mono (hk.put _ _) (by decide)) hf.keeps (by decide), ?_, ?_, ?_, fun _ => ?_, ?_⟩
      · rw [hf.keeps .beat (by decide), State.put_beat, hx]
      · rw [hf.inOverrun, State.put_hif, hk .hif (by decide)]
      · rw [hf.time, State.put_time, ht]
      · rw [hf.ev, State.put_ev, hv]
      · exact (State.get_of_reg (f := Fld.CIPH_LOCK_OWNER) (hf.reg _ (.inr rfl))).trans (hget x)
      · rintro (hn | hidle)
        · exact absurd h3 hn
        · have hc : x.ciph = s.ciph := hk .ciph (by decide)
          rw [stopJobs_idle (by rw [hc]; exact hidle)]
          exact ⟨hput, hk.put _ _⟩
    · exact ⟨rfl, fun o ho => hr o (hlow o ho), State.keeps_mono hk (by decide), rfl, rfl, rfl, by omega, fun _ => ⟨hr, hk⟩⟩

/-! ### The peak and the overrun of a slot (R38, R41) -/

/-- The slot's demand is shown in its peak, and a late intake slot is remembered. -/
def State.slotShown (s : State) (k d : Nat) (lateIntake : Bool) : State :=
  ({ s with beat := { s.beat with demand := 0 }, hif := { s.hif with inOverrun := s.hif.inOverrun || lateIntake } } : State).put
    (Fld.BEAT_PEAKn_USED k) (max (s.get (Fld.BEAT_PEAKn_USED k)) (min 2047 d))

theorem slotEnd_before {s : State} (h : 5 ≤ s.get Fld.BEAT_STATUS_SLOT_CUR ∨ s.beat.ended = true ∨
    s.time.now < s.slotStop (s.get Fld.BEAT_STATUS_SLOT_CUR)) (given : Nat) : s.slotEnd given = s := if_pos h

theorem slotEnd_at {s : State} {k d : Nat} {late : Bool} {given : Nat} (hk : s.get Fld.BEAT_STATUS_SLOT_CUR = k)
    (hd : s.demandNow k given = d) (hl : s.slotLate k d = late) (h5 : k < 5) (he : s.beat.ended = false)
    (ht : s.slotStop k ≤ s.time.now) :
    s.slotEnd given = if late then (s.leaveSlot.slotShown k d (k == 0 && late)).overrun k
      else s.leaveSlot.slotShown k d (k == 0 && late) := by
  subst hk hd hl
  refine if_neg ?_
  rw [he]
  simp only [Bool.false_eq_true, false_or, not_or]
  exact ⟨Nat.not_le.2 h5, Nat.not_lt.2 ht⟩

theorem keepsRegs_slotShown {s x : State} {l : List Nat} (h : s.keepsRegs x l) (k d : Nat) (b : Bool)
    (hl : Reg.BEAT_PEAKn k ∈ l) : s.keepsRegs (x.slotShown k d b) l :=
  State.keepsRegs.put (h.same rfl) (Fld.BEAT_PEAKn_USED k) _ hl

theorem keeps_slotShown {s x : State} {l : List Part} (h : s.keeps x l) (k d : Nat) (b : Bool) (hb : Part.beat ∈ l)
    (hh : Part.hif ∈ l) : s.keeps (x.slotShown k d b) l := by
  refine State.keeps.put (fun p hp => ?_) _ _
  have hk := h p hp
  cases p <;> first
    | exact hk
    | exact absurd hb hp
    | exact absurd hh hp

theorem beat_slotShown (s : State) (k d : Nat) (b : Bool) : (s.slotShown k d b).beat = { s.beat with demand := 0 } := by
  unfold State.slotShown; rw [State.put_beat]

theorem time_slotShown (s : State) (k d : Nat) (b : Bool) : (s.slotShown k d b).time = s.time := by
  unfold State.slotShown; rw [State.put_time]

theorem inOverrun_slotShown (s : State) (k d : Nat) (b : Bool) :
    (s.slotShown k d b).hif.inOverrun = (s.hif.inOverrun || b) := by
  unfold State.slotShown; rw [State.put_hif]

theorem get_slotShown (s : State) (k d : Nat) (b : Bool) :
    (s.slotShown k d b).get (Fld.BEAT_PEAKn_USED k) = max (s.get (Fld.BEAT_PEAKn_USED k)) (min 2047 d) := by
  have hp := State.get_lt s (Fld.BEAT_PEAKn_USED k)
  exact State.get_put_fit _ _ _ (by simp [Fld.BEAT_PEAKn_USED]) (by simp [Fld.BEAT_PEAKn_USED]) (by
    simp only [Fld.BEAT_PEAKn_USED] at hp ⊢; omega)

/-- The registers that show an overrun of slot `k`. -/
def overrunRegs (k : Nat) : List Nat :=
  Reg.BEAT_OVERRUN :: Reg.BEAT_LAST_OVR :: (pair64 (Reg.BEAT_OVR_CNTn k) ++ pair64 Reg.BEAT_LAST_OVR_TIME)

/-- An overrun stands in the registers. -/
def State.overrunRecorded (s : State) (k : Nat) : State :=
  let s := (s.orReg Reg.BEAT_OVERRUN (2 ^ k)).count (Reg.BEAT_OVR_CNTn k)
  let s := (s.put Fld.BEAT_LAST_OVR_SLOT k).put Fld.BEAT_LAST_OVR_BEAT_NUM (s.get Fld.BEAT_STATUS_BEAT_NUM)
  s.setReg64 Reg.BEAT_LAST_OVR_TIME s.beat.start

/-- It is reported: as an event once a second, in the journal otherwise. -/
def State.overrunTold (s : State) (k : Nat) : State :=
  let detail := [n4 k, n4 (s.get Fld.BEAT_STATUS_BEAT_NUM)]
  if s.firstInSecond (0x0201 * 65536 + k) then (s.spoke (0x0201 * 65536 + k)).raise 0x0201 0 detail
  else s.log 1 (Event.bytes { code := 0x0201, unit := 0, epoch := 0, eseq := s.ev.eseq, time := s.time.now, detail := detail })

theorem overrun_eq (s : State) (k : Nat) : s.overrun k = (s.overrunRecorded k).overrunTold k := rfl

theorem State.keepsRegs.count {s x : State} {l : List Nat} (h : s.keepsRegs x l) (o n : Nat) (hl : ∀ a ∈ pair64 o, a ∈ l) :
    s.keepsRegs (x.count o n) l := State.keepsRegs_back h (State.keepsRegs_count x o n) hl
theorem State.keepsRegs.setReg64 {s x : State} {l : List Nat} (h : s.keepsRegs x l) (o v : Nat) (hl : ∀ a ∈ pair64 o, a ∈ l) :
    s.keepsRegs (x.setReg64 o v) l := State.keepsRegs_back h (State.keepsRegs_setReg64 x o v) hl
theorem State.keeps.count {s x : State} {l : List Part} (h : s.keeps x l) (o n : Nat) : s.keeps (x.count o n) l :=
  State.keeps_back h (State.keeps_count x o n) (by simp)
theorem State.keeps.setReg64 {s x : State} {l : List Part} (h : s.keeps x l) (o v : Nat) : s.keeps (x.setReg64 o v) l :=
  State.keeps_back h (State.keeps_setReg64 x o v) (by simp)

theorem keeps_overrunRecorded {s x : State} {l : List Part} (h : s.keeps x l) (k : Nat) : s.keeps (x.overrunRecorded k) l :=
  ((((h.orReg _ _).count _ _).put _ _).put _ _).setReg64 _ _

theorem keepsRegs_overrunRecorded {s x : State} {l : List Nat} (h : s.keepsRegs x l) (k : Nat)
    (hl : ∀ o ∈ overrunRegs k, o ∈ l) : s.keepsRegs (x.overrunRecorded k) l :=
  ((((h.orReg _ _ (hl _ (by simp [overrunRegs]))).count _ _ (fun o ho => hl o (by simp [overrunRegs, ho]))).put
    Fld.BEAT_LAST_OVR_SLOT _ (hl _ (by simp [overrunRegs, Fld.BEAT_LAST_OVR_SLOT]))).put Fld.BEAT_LAST_OVR_BEAT_NUM _
    (hl _ (by simp [overrunRegs, Fld.BEAT_LAST_OVR_BEAT_NUM]))).setReg64 _ _ (fun o ho => hl o (by simp [overrunRegs, ho]))

theorem get_overrunRecorded_ne (s : State) {k : Nat} {f : Fld} (h : f.off ∉ overrunRegs k) :
    (s.overrunRecorded k).get f = s.get f :=
  State.keepsRegs.get (keepsRegs_overrunRecorded (State.keepsRegs_mono (State.keepsRegs_refl s) (by simp)) k (fun _ h => h)) h

/-- What the registers show of an overrun of slot `k`. -/
structure OverrunShown (s u : State) (k : Nat) : Prop where
  flag : u.reg Reg.BEAT_OVERRUN = s.reg Reg.BEAT_OVERRUN ||| BitVec.ofNat 32 (2 ^ k)
  count : u.reg64 (Reg.BEAT_OVR_CNTn k) = (s.reg64 (Reg.BEAT_OVR_CNTn k) + 1) % 2 ^ 64
  slot : u.get Fld.BEAT_LAST_OVR_SLOT = k
  num : u.get Fld.BEAT_LAST_OVR_BEAT_NUM = s.get Fld.BEAT_STATUS_BEAT_NUM
  time : u.reg64 Reg.BEAT_LAST_OVR_TIME = s.beat.start % 2 ^ 64

/-- The flag and the counter of an overrun. -/
def State.overrunCounted (s : State) (k : Nat) : State := (s.orReg Reg.BEAT_OVERRUN (2 ^ k)).count (Reg.BEAT_OVR_CNTn k)

theorem overrunRecorded_eq (s : State) (k : Nat) :
    s.overrunRecorded k = (((s.overrunCounted k).put Fld.BEAT_LAST_OVR_SLOT k).put Fld.BEAT_LAST_OVR_BEAT_NUM
      ((s.overrunCounted k).get Fld.BEAT_STATUS_BEAT_NUM)).setReg64 Reg.BEAT_LAST_OVR_TIME s.beat.start := by
  unfold State.overrunRecorded State.overrunCounted
  dsimp only
  rw [State.put_beat, State.put_beat, State.count_beat, State.orReg_beat]

theorem overrunCounted_shows (s : State) (k : Nat) :
    (s.overrunCounted k).reg Reg.BEAT_OVERRUN = s.reg Reg.BEAT_OVERRUN ||| BitVec.ofNat 32 (2 ^ k) ∧
      (s.overrunCounted k).reg64 (Reg.BEAT_OVR_CNTn k) = (s.reg64 (Reg.BEAT_OVR_CNTn k) + 1) % 2 ^ 64 ∧
      s.keepsRegs (s.overrunCounted k) (Reg.BEAT_OVERRUN :: pair64 (Reg.BEAT_OVR_CNTn k)) := by
  have ho : s.keepsRegs (s.orReg Reg.BEAT_OVERRUN (2 ^ k)) [Reg.BEAT_OVERRUN] := State.keepsRegs_orReg s _ _
  refine ⟨?_, ?_, State.keepsRegs.count (State.keepsRegs_mono ho (by simp)) _ _ (fun a h => by simp [h])⟩
  · refine (State.reg_count _ _ _ _ ?_ ?_).trans (State.reg_setReg_self ..) <;>
      simp only [Reg.BEAT_OVERRUN, Reg.BEAT_OVR_CNTn] <;> omega
  · refine (State.reg64_count ..).trans ?_
    rw [ho.reg64] <;> simp only [Reg.BEAT_OVERRUN, Reg.BEAT_OVR_CNTn, List.mem_singleton] <;> omega

theorem overrunShown_overrunRecorded (s : State) {k : Nat} (h : k < 5) : OverrunShown s (s.overrunRecorded k) k := by
  obtain ⟨hflag, hcount, hz⟩ := overrunCounted_shows s k
  have hnum : (s.overrunCounted k).get Fld.BEAT_STATUS_BEAT_NUM = s.get Fld.BEAT_STATUS_BEAT_NUM := hz.get (by
    simp only [Fld.BEAT_STATUS_BEAT_NUM, Reg.BEAT_STATUS, Reg.BEAT_OVERRUN, Reg.BEAT_OVR_CNTn, pair64, List.mem_cons,
      List.not_mem_nil, or_false]; omega)
  rw [overrunRecorded_eq]
  generalize s.overrunCounted k = z at hflag hcount hnum
  rw [hnum]
  have hr : z.keepsRegs (((z.put Fld.BEAT_LAST_OVR_SLOT k).put Fld.BEAT_LAST_OVR_BEAT_NUM (s.get Fld.BEAT_STATUS_BEAT_NUM)).setReg64
      Reg.BEAT_LAST_OVR_TIME s.beat.start) (Reg.BEAT_LAST_OVR :: pair64 Reg.BEAT_LAST_OVR_TIME) :=
    State.keepsRegs.setReg64 (((State.keepsRegs_mono (State.keepsRegs_refl z) (by simp)).put Fld.BEAT_LAST_OVR_SLOT _
      (by decide)).put Fld.BEAT_LAST_OVR_BEAT_NUM _ (by decide)) _ _ (by decide)
  have ht : ∀ (x : State) (f : Fld), f.off = Reg.BEAT_LAST_OVR → (x.setReg64 Reg.BEAT_LAST_OVR_TIME s.beat.start).get f = x.get f :=
    fun x f hf => State.keepsRegs.get (State.keepsRegs_setReg64 x _ _) (by rw [hf]; decide)
  refine ⟨(hr _ (by decide)).trans hflag, (hr.reg64 ?_ ?_).trans hcount, ?_, ?_, State.reg64_setReg64 ..⟩
  · simp only [Reg.BEAT_LAST_OVR, Reg.BEAT_LAST_OVR_TIME, Reg.BEAT_OVR_CNTn, pair64, List.mem_cons, List.not_mem_nil, or_false]; omega
  · simp only [Reg.BEAT_LAST_OVR, Reg.BEAT_LAST_OVR_TIME, Reg.BEAT_OVR_CNTn, pair64, List.mem_cons, List.not_mem_nil, or_false]; omega
  · rw [ht _ _ rfl, State.get_put_field _ Fld.BEAT_LAST_OVR_BEAT_NUM Fld.BEAT_LAST_OVR_SLOT _ rfl (by decide) (by decide) (by decide),
      State.get_put_fit _ _ _ (by decide) (by decide) (Nat.lt_trans h (by decide))]
  · rw [ht _ _ rfl, State.get_put_get _ _ _ _ (by decide) (by decide) (by decide)]

/-! ### How an overrun is told -/

theorem keepsRegs_overrunTold {s x : State} {l : List Nat} (h : s.keepsRegs x l) (k : Nat) (hl : ∀ o ∈ dropCounters, o ∈ l) :
    s.keepsRegs (x.overrunTold k) l := by
  have hspoke : s.keepsRegs (x.spoke (0x0201 * 65536 + k)) l := h.same (State.spoke_regs ..)
  unfold State.overrunTold
  dsimp only
  split
  · exact hspoke.raise _ _ _ hl
  · exact State.keepsRegs_back h (State.keepsRegs_log x _ _) hl

theorem keeps_overrunTold {s x : State} {l : List Part} (h : s.keeps x l) (k : Nat) (hl : ∀ p ∈ eventParts, p ∈ l) :
    s.keeps (x.overrunTold k) l := by
  have hspoke : s.keeps (x.spoke (0x0201 * 65536 + k)) l := State.keeps_ev _ h (hl _ (by decide))
  unfold State.overrunTold
  dsimp only
  split
  · exact hspoke.raise _ _ _ hl
  · exact State.keeps_back h (State.keeps_log x _ _) hl

theorem inOverrun_overrunTold (s : State) (k : Nat) : (s.overrunTold k).hif.inOverrun = s.hif.inOverrun := by
  unfold State.overrunTold
  dsimp only
  split
  · rw [inOverrun_raise, State.spoke_hif]
  · rw [inOverrun_log]

theorem told_overrunTold {s : State} {k : Nat} (h : s.firstInSecond (0x0201 * 65536 + k) = true) :
    (s.overrunTold k).told 0x0201 0 [n4 k, n4 (s.get Fld.BEAT_STATUS_BEAT_NUM)] := by
  unfold State.overrunTold
  rw [if_pos h]
  exact State.told_raise ..

theorem overrunShown_overrunTold {s u : State} {k : Nat} (h : OverrunShown s u k) (hk : k < 5) :
    OverrunShown s (u.overrunTold k) k := by
  have hr : u.keepsRegs (u.overrunTold k) dropCounters :=
    keepsRegs_overrunTold (State.keepsRegs_mono (State.keepsRegs_refl u) (by simp)) k (by simp)
  have hc : ∀ a, a < 5 → Reg.BEAT_OVR_CNTn a ∉ dropCounters ∧ Reg.BEAT_OVR_CNTn a + 4 ∉ dropCounters := by decide
  exact ⟨(hr _ (by decide)).trans h.flag, (hr.reg64 (hc k hk).1 (hc k hk).2).trans h.count, (hr.get (by decide)).trans h.slot,
    (hr.get (by decide)).trans h.num, (hr.reg64 (by decide) (by decide)).trans h.time⟩

/-- What SLOT_END leaves of the slot `k` in progress, once its demand `d` is known. -/
structure SlotEnded (s u : State) (k d : Nat) (late : Bool) : Prop where
  peak : u.get (Fld.BEAT_PEAKn_USED k) = max (s.get (Fld.BEAT_PEAKn_USED k)) (min 2047 d)
  demand : u.beat.demand = 0
  ended : u.beat.ended = true
  inOverrun : u.hif.inOverrun = (s.hif.inOverrun || (k == 0 && late))
  owner : k = 2 ∨ k = 3 → u.get Fld.CIPH_LOCK_OWNER = 0
  reg : ∀ off, off < 0x20000 → off ≠ Reg.BEAT_PEAKn k → off ∉ (if late then overrunRegs k else []) → u.reg off = s.reg off

theorem mem_overrunRegs {o k : Nat} (h : o ∈ overrunRegs k) (hk : k < 5) : 0x10024 ≤ o ∧ o < 0x10070 := by
  simp only [overrunRegs, pair64, Reg.BEAT_OVERRUN, Reg.BEAT_LAST_OVR, Reg.BEAT_LAST_OVR_TIME, Reg.BEAT_OVR_CNTn,
    List.mem_cons, List.mem_append, List.not_mem_nil, or_false] at h
  omega

/-- Leaving the slot and showing its peak does all but what an overrun adds. -/
theorem slotEnded_slotShown {s x : State} {k : Nat} (h : SlotLeft s x) (hk : s.get Fld.BEAT_STATUS_SLOT_CUR = k) (h5 : k < 5)
    (d : Nat) (b : Bool) : SlotEnded s (x.slotShown k d (k == 0 && b)) k d b := by
  have hr : x.keepsRegs (x.slotShown k d (k == 0 && b)) [Reg.BEAT_PEAKn k] :=
    keepsRegs_slotShown (State.keepsRegs_mono (State.keepsRegs_refl x) (by simp)) _ _ _ (by simp)
  have hpeak : x.get (Fld.BEAT_PEAKn_USED k) = s.get (Fld.BEAT_PEAKn_USED k) :=
    State.get_of_reg (h.reg _ (by simp only [Fld.BEAT_PEAKn_USED, Reg.BEAT_PEAKn]; omega))
  refine ⟨?_, ?_, ?_, ?_, fun hj => ?_, fun o ho hp _ => (hr o (by simpa using hp)).trans (h.reg o (by omega))⟩
  · rw [get_slotShown, hpeak]
  · rw [beat_slotShown]
  · rw [beat_slotShown, h.beat]
  · rw [inOverrun_slotShown, h.inOverrun]
  · exact (hr.get (by simp only [Fld.CIPH_LOCK_OWNER, Reg.CIPH_LOCK, Reg.BEAT_PEAKn, List.mem_singleton]; omega)).trans
      (h.owner (by rw [hk]; exact hj))

theorem keepsRegs_overrun {s x : State} {l : List Nat} {k : Nat} (h : s.keepsRegs x l) (hk : ∀ o ∈ overrunRegs k, o ∈ l)
    (hd : ∀ o ∈ dropCounters, o ∈ l) : s.keepsRegs (x.overrun k) l := by
  rw [overrun_eq]
  exact keepsRegs_overrunTold (keepsRegs_overrunRecorded h k hk) k hd

theorem keeps_overrun {s x : State} {l : List Part} (h : s.keeps x l) (k : Nat) (he : ∀ p ∈ eventParts, p ∈ l) :
    s.keeps (x.overrun k) l := by
  rw [overrun_eq]
  exact keeps_overrunTold (keeps_overrunRecorded h k) k he

theorem overrunShown_overrun (s : State) {k : Nat} (h5 : k < 5) : OverrunShown s (s.overrun k) k := by
  rw [overrun_eq]
  exact overrunShown_overrunTold (overrunShown_overrunRecorded s h5) h5

theorem told_overrun {s : State} {k : Nat} (h5 : k < 5) (h : s.firstInSecond (0x0201 * 65536 + k) = true) :
    (s.overrun k).told 0x0201 0 [n4 k, n4 (s.get Fld.BEAT_STATUS_BEAT_NUM)] := by
  have hk : s.keeps (s.overrunRecorded k) [] := keeps_overrunRecorded (State.keeps_refl s) k
  have hev : (s.overrunRecorded k).ev = s.ev := hk .ev (by decide)
  have htime : (s.overrunRecorded k).time = s.time := hk .time (by decide)
  have hnum : (s.overrunRecorded k).get Fld.BEAT_STATUS_BEAT_NUM = s.get Fld.BEAT_STATUS_BEAT_NUM :=
    get_overrunRecorded_ne s fun hm => absurd (mem_overrunRegs hm h5).1 (by decide)
  rw [overrun_eq, ← hnum]
  refine told_overrunTold ?_
  simpa only [State.firstInSecond, State.second, hev, htime] using h

/-- An overrun adds its report, and takes nothing of the slot's end back. -/
theorem slotEnded_overrun {s y : State} {k d : Nat} (h : SlotEnded s y k d true) (h5 : k < 5) :
    SlotEnded s (y.overrun k) k d true := by
  have hr : y.keepsRegs (y.overrun k) (overrunRegs k ++ dropCounters) :=
    keepsRegs_overrun (State.keepsRegs_mono (State.keepsRegs_refl y) (by simp)) (fun _ h => by simp [h]) (fun _ h => by simp [h])
  have hbeat : (y.overrun k).beat = y.beat :=
    keeps_overrun (l := eventParts) (State.keeps_mono (State.keeps_refl y) (by simp)) k (by simp) .beat (by decide)
  have hover : (y.overrun k).hif.inOverrun = y.hif.inOverrun := by
    have hk : y.keeps (y.overrunRecorded k) [] := keeps_overrunRecorded (State.keeps_refl y) k
    rw [overrun_eq, inOverrun_overrunTold, hk .hif (by decide)]
  have hdrop : ∀ o ∈ dropCounters, 0x20000 ≤ o ∧ o ≠ Reg.CIPH_LOCK := by decide
  have hfree : ∀ o, o ∉ overrunRegs k → o ∉ dropCounters → o ∉ overrunRegs k ++ dropCounters := fun o h g =>
    by simp [h, g]
  refine ⟨(hr.get (hfree _ (fun hm => ?_) fun hm => ?_)).trans h.peak, by rw [hbeat]; exact h.demand,
    by rw [hbeat]; exact h.ended, hover.trans h.inOverrun,
    fun hj => (hr.get (hfree _ (fun hm => ?_) (by decide))).trans (h.owner hj), fun o ho hp hn => ?_⟩
  · have := (mem_overrunRegs hm h5).2
    simp only [Fld.BEAT_PEAKn_USED, Reg.BEAT_PEAKn] at this
    omega
  · have := (hdrop _ hm).1
    simp only [Fld.BEAT_PEAKn_USED, Reg.BEAT_PEAKn] at this
    omega
  · exact absurd (mem_overrunRegs hm h5).2 (by decide)
  · exact (hr o (hfree o hn fun hm => by have := (hdrop o hm).1; omega)).trans (h.reg o ho hp hn)

theorem answers_slotEnd {t : Tai} {s : State} {p : State → Prop} {given : Nat} (hs : s.up = true)
    (hr : (s.at t).slotsRun = true) (hp : p (((s.at t).slotEnd given).withQueue s.pending)) :
    answers (exec (.slotEnd given t) s) p := by
  refine answers_effect (m := "SLOT_END") hs rfl ?_
  rw [if_pos hr]
  exact hp

theorem reg_slotShown_left {s x : State} {k : Nat} (h : SlotLeft s x) (d : Nat) (b : Bool) {o : Nat} (ho : o < 0x20000)
    (hp : o ≠ Reg.BEAT_PEAKn k) : (x.slotShown k d b).reg o = s.reg o :=
  (keepsRegs_slotShown (State.keepsRegs_mono (l := []) (State.keepsRegs_refl x) (by simp)) k d b (List.mem_singleton_self _) o
    (by simpa using hp)).trans (h.reg o (by omega))

/-- The overrun counts from what the registers showed before the slot's end. -/
theorem overrunShown_of_slotShown {s y u : State} {k : Nat} (h : OverrunShown y u k) (h5 : k < 5)
    (hr : ∀ o, o < 0x20000 → o ≠ Reg.BEAT_PEAKn k → y.reg o = s.reg o) (hb : y.beat.start = s.beat.start) :
    OverrunShown s u k := by
  obtain ⟨hflag, hcount, hslot, hnum, htime⟩ := h
  refine ⟨hflag.trans ?_, hcount.trans ?_, hslot, hnum.trans (State.get_of_reg (hr _ (by decide) ?_)), htime.trans (by rw [hb])⟩
  · rw [hr _ (by decide)]
    simp only [Reg.BEAT_OVERRUN, Reg.BEAT_PEAKn]
    omega
  · simp only [State.reg64]
    rw [hr, hr] <;> simp only [Reg.BEAT_OVR_CNTn, Reg.BEAT_PEAKn] <;> omega
  · simp only [Fld.BEAT_STATUS_BEAT_NUM, Reg.BEAT_STATUS, Reg.BEAT_PEAKn]
    omega

theorem firstInSecond_of_keeps {s u : State} {l : List Part} (h : s.keeps u l) (he : Part.ev ∉ l) (ht : u.time = s.time)
    (key : Nat) : u.firstInSecond key = s.firstInSecond key := by
  have hpart : u.ev = { s.ev with raised := u.ev.raised } := h .ev he
  have hev : u.ev.once = s.ev.once := by rw [hpart]
  simp only [State.firstInSecond, State.second, hev, ht]

/-- A slot that is not late leaves no job behind. -/
theorem idle_of_not_late {s : State} {k d : Nat} (h : s.slotLate k d = false) :
    k ≠ 3 ∨ (s.ciph.jobs.isEmpty && s.ciph.mgtJobs.isEmpty) = true := by
  by_cases hk : k = 3
  · refine .inr ?_
    simp only [State.slotLate, hk, Bool.or_eq_false_iff] at h
    simpa using h.1.2
  · exact .inl hk

/-- Settles O31: the slot's end shows the peak (`slotEnded_slotShown`), and an overrun besides (`overrunShown_overrun`). -/
theorem overrunsAreReportedAtTheSlotsEnd : Obligations.OverrunsAreReportedAtTheSlotsEnd := by
  intro given t s hs k d late shown
  refine ⟨fun h => ?_, fun hst h5 he ht => ?_⟩
  · refine answers_effect (m := "SLOT_END") hs rfl ?_
    rw [slotEnd_before (s := s.at t) h, ite_self]
    exact ⟨(State.keepsRegs_withQueue ..).2 (.at s t _), (State.keeps_withQueue ..).2 (.at s t _)⟩
  · have hrun : (s.at t).slotsRun = true := by
      have h7 : k ≠ 7 := by omega
      change (s.beat.started && k != 7) = true
      simp [hst, h7]
    have hleft : SlotLeft (s.at t) (s.at t).leaveSlot := slotLeft_leaveSlot he
    have hend : SlotEnded (s.at t) ((s.at t).leaveSlot.slotShown k d (k == 0 && late)) k d late :=
      slotEnded_slotShown hleft rfl h5 d late
    refine answers_slotEnd hs hrun ?_
    rw [slotEnd_at (s := s.at t) (k := k) (d := d) (late := late) rfl rfl rfl h5 he ht]
    cases hlate : late with
    | false =>
      rw [hlate] at hend
      obtain ⟨hpeak, hdem, hended, hover, howner, hreg⟩ := hend
      obtain ⟨hr, hk⟩ := hleft.idle (idle_of_not_late (d := d) hlate)
      exact ⟨hpeak, hdem, hended, hover, howner, hreg, fun _ =>
        ⟨(State.keepsRegs_withQueue ..).2 (keepsRegs_slotShown (State.keepsRegs_mono hr (by simp)) _ _ _ (by simp)),
        (State.keeps_withQueue ..).2 ((State.keeps_from_at ..).1
          (keeps_slotShown (State.keeps_mono hk (by decide)) _ _ _ (by decide) (by decide)))⟩, fun h => absurd h (by decide)⟩
    | true =>
      rw [hlate] at hend
      have hyr : ∀ o, o < 0x20000 → o ≠ Reg.BEAT_PEAKn k →
          ((s.at t).leaveSlot.slotShown k d (k == 0 && true)).reg o = (s.at t).reg o := fun o => reg_slotShown_left hleft d _
      have hyk : (s.at t).keeps ((s.at t).leaveSlot.slotShown k d (k == 0 && true)) [.beat, .hif, .ciph] :=
        keeps_slotShown hleft.keeps _ _ _ (by decide) (by decide)
      have hyi := fun h3 => (hleft.idle (.inl h3)).imp
        (fun hr => keepsRegs_slotShown (l := [Reg.BEAT_PEAKn k, Reg.CIPH_LOCK]) (State.keepsRegs_mono hr (by simp)) k d
          (k == 0 && true) (by simp))
        (fun hk => keeps_slotShown (l := [.beat, .hif]) (State.keeps_mono hk (by decide)) k d (k == 0 && true) (by decide)
          (by decide))
      have hyb : ((s.at t).leaveSlot.slotShown k d (k == 0 && true)).beat.start = (s.at t).beat.start := by
        rw [beat_slotShown, hleft.beat]
      have hyt : ((s.at t).leaveSlot.slotShown k d (k == 0 && true)).time = (s.at t).time := by
        rw [time_slotShown, hleft.time]
      generalize (s.at t).leaveSlot.slotShown k d (k == 0 && true) = y at hend hyr hyk hyi hyb hyt
      obtain ⟨hpeak, hdem, hended, hover, howner, hreg⟩ := slotEnded_overrun hend h5
      obtain ⟨hflag, hcount, hslot, hnum, htime⟩ := overrunShown_of_slotShown (overrunShown_overrun y h5) h5 hyr hyb
      have hnum' : y.get Fld.BEAT_STATUS_BEAT_NUM = s.get Fld.BEAT_STATUS_BEAT_NUM :=
        State.get_of_reg (hyr _ (by decide) (by simp only [Fld.BEAT_STATUS_BEAT_NUM, Reg.BEAT_STATUS, Reg.BEAT_PEAKn]; omega))
      refine ⟨hpeak, hdem, hended, hover, howner, hreg, fun h => absurd h (by decide), fun _ =>
        ⟨hflag, hcount, hslot, hnum, htime, fun hf => ?_, fun h3 => ⟨(State.keepsRegs_withQueue ..).2 ?_,
          (State.keeps_withQueue ..).2 ((State.keeps_from_at (t := t) ..).1 ?_)⟩⟩⟩
      · rw [← hnum']
        exact told_overrun h5 ((firstInSecond_of_keeps hyk (by decide) hyt _).trans hf)
      · exact keepsRegs_overrun (State.keepsRegs_mono (hyi h3).1 (by simp)) (fun o h => by
          have : o ∈ shown := h
          simp [this]) (fun o h => by simp [h])
      · exact keeps_overrun (State.keeps_mono (hyi h3).2 (by decide)) k (fun p h => by simp [h])

/-! ### The start of a beat (R21, R22) -/

/-- What leaving the slot in progress, if it has not ended, keeps. -/
structure BeatKept (s u : State) : Prop where
  next : u.beat.next = s.beat.next
  glb : u.glb = s.glb
  time : u.time = s.time
  ev : u.ev = s.ev
  reg : ∀ o, o < 0x30000 → u.reg o = s.reg o

theorem beatKept_leaveSlot (s : State) : BeatKept s s.leaveSlot := by
  cases he : s.beat.ended with
  | true =>
    have h : s.leaveSlot = s := if_pos he
    rw [h]
    exact ⟨rfl, rfl, rfl, rfl, fun _ _ => rfl⟩
  | false =>
    obtain ⟨hbeat, hreg, hkeeps, _, htime, hev, _, _⟩ := slotLeft_leaveSlot he
    exact ⟨by rw [hbeat], hkeeps .glb (by decide), htime, hev, hreg⟩

/-- The beat in progress and what it shows: the first slot, its number, one beat more. -/
def State.beatOpened (s : State) : State :=
  let s : State := { s with
    beat := { s.beat with start := s.beat.next, next := s.beat.next + s.beatLen, started := true, demand := 0, used := 0,
                          intakeRun := false, ended := false, beaconRun := false, windowRun := false },
    hif := { s.hif with inOverrun := false, wbOverrun := false },
    nvm := { s.nvm with quiesce := if s.updState = 5 then s.nvm.quiesce + 1 else s.nvm.quiesce } }
  ((s.put Fld.BEAT_STATUS_SLOT_CUR 0).put Fld.BEAT_STATUS_BEAT_NUM s.beatNumber).count Reg.BEAT_COUNT

/-- What the blocks do at a boundary. -/
def State.boundaryWork (s : State) (realigned : Bool) : State :=
  let s := (s.pinBoundary.halBoundary).keeperDeltas
  let s := ((s.limitersRefill).raAge).musterBoundary realigned
  ((s.suspectsAge).pwrBoundary).pinBoundary

theorem beatStart_eq (s : State) (r : Bool) : s.beatStart r = s.leaveSlot.beatOpened.boundaryWork r := rfl

theorem boundaryWork_quiet (s : State) (r : Bool) : (s.boundaryWork r).quiet = s.quiet := by
  unfold State.boundaryWork
  dsimp only
  rw [State.pinBoundary_quiet, State.pwrBoundary_quiet, State.suspectsAge_quiet, State.musterBoundary_quiet, State.raAge_quiet,
    State.limitersRefill_quiet, State.keeperDeltas_quiet, State.halBoundary_quiet, State.pinBoundary_quiet]

/-- The registers that show the beat in progress. -/
def beatRegs : List Nat := [Reg.BEAT_STATUS, Reg.BEAT_COUNT, Reg.BEAT_COUNT + 4]

/-- The beat that starts at the next boundary of `s` is the one in progress in `u`. -/
structure BeatBegins (s u : State) : Prop where
  start : u.beat.start = s.beat.next
  next : u.beat.next = s.beat.next + s.beatLen
  started : u.beat.started = true
  phase : u.glb.phase = s.glb.phase
  slot : u.get Fld.BEAT_STATUS_SLOT_CUR = 0
  number : u.get Fld.BEAT_STATUS_BEAT_NUM = s.beat.next % 1000000000 / s.beatLen
  count : u.reg64 Reg.BEAT_COUNT = (s.reg64 Reg.BEAT_COUNT + 1) % 2 ^ 64
  realigning : u.get Fld.BEAT_STATUS_REALIGNING = s.get Fld.BEAT_STATUS_REALIGNING
  reg : ∀ o, o < 0x20000 → o ∉ beatRegs → u.reg o = s.reg o

/-- A number of a beat within its second fits its field. -/
theorem beatNumber_fits (t code : Nat) : t % 1000000000 / beatNs code < 2 ^ 13 := by
  have h1 : 1 ≤ 2 ^ code := Nat.one_le_two_pow
  have h2 : 125000 ≤ beatNs code := Nat.le_mul_of_pos_right _ h1
  have h3 : t % 1000000000 < 1000000000 := Nat.mod_lt _ (by decide)
  exact Nat.div_lt_of_lt_mul (by omega)

/-- What the number, the first slot and the count show. -/
theorem beatShown (y : State) {n : Nat} (hn : n < 2 ^ 13) :
    let u := ((y.put Fld.BEAT_STATUS_SLOT_CUR 0).put Fld.BEAT_STATUS_BEAT_NUM n).count Reg.BEAT_COUNT
    u.get Fld.BEAT_STATUS_SLOT_CUR = 0 ∧ u.get Fld.BEAT_STATUS_BEAT_NUM = n ∧
      u.reg64 Reg.BEAT_COUNT = (y.reg64 Reg.BEAT_COUNT + 1) % 2 ^ 64 ∧
      u.get Fld.BEAT_STATUS_REALIGNING = y.get Fld.BEAT_STATUS_REALIGNING ∧ y.keepsRegs u beatRegs := by
  intro u
  have hp : y.keepsRegs ((y.put Fld.BEAT_STATUS_SLOT_CUR 0).put Fld.BEAT_STATUS_BEAT_NUM n) [Reg.BEAT_STATUS] :=
    ((State.keepsRegs_mono (State.keepsRegs_refl y) (by simp)).put Fld.BEAT_STATUS_SLOT_CUR _ (by decide)).put
      Fld.BEAT_STATUS_BEAT_NUM _ (by decide)
  have hu : ∀ f : Fld, f.off = Reg.BEAT_STATUS →
      u.get f = ((y.put Fld.BEAT_STATUS_SLOT_CUR 0).put Fld.BEAT_STATUS_BEAT_NUM n).get f := fun f hf =>
    State.keepsRegs.get (State.keepsRegs_count _ _ _) (by rw [hf]; decide)
  refine ⟨?_, ?_, ?_, ?_, State.keepsRegs.count (State.keepsRegs_mono hp (by decide)) _ _ (by decide)⟩
  · rw [hu _ rfl, State.get_put_field _ Fld.BEAT_STATUS_BEAT_NUM Fld.BEAT_STATUS_SLOT_CUR _ rfl (by decide) (by decide) (by decide),
      State.get_put_zero _ _ (by decide) (by decide)]
  · rw [hu _ rfl, State.get_put_fit _ _ _ (by decide) (by decide) hn]
  · exact (State.reg64_count _ _ _).trans (by rw [hp.reg64 (by decide) (by decide)])
  · rw [hu _ rfl,
      State.get_put_field _ Fld.BEAT_STATUS_BEAT_NUM Fld.BEAT_STATUS_REALIGNING _ rfl (by decide) (by decide) (by decide),
      State.get_put_field _ Fld.BEAT_STATUS_SLOT_CUR Fld.BEAT_STATUS_REALIGNING _ rfl (by decide) (by decide) (by decide)]

theorem beatBegins_beatOpened (s : State) : BeatBegins s s.beatOpened := by
  unfold State.beatOpened
  extract_lets _ _ _ y
  have hnum : y.beatNumber = s.beat.next % 1000000000 / s.beatLen := rfl
  have hstart : y.beat.start = s.beat.next := rfl
  have hnext : y.beat.next = s.beat.next + s.beatLen := rfl
  have hstarted : y.beat.started = true := rfl
  have hglb : y.glb = s.glb := rfl
  have hr : s.keepsRegs y [] := State.keepsRegs_of_regs rfl
  clear_value y
  obtain ⟨hslot, hn, hcount, hre, hreg⟩ := beatShown y (n := y.beatNumber) (by rw [hnum]; exact beatNumber_fits _ _)
  refine ⟨?_, ?_, ?_, ?_, hslot, hn.trans hnum, ?_, hre.trans (hr.get (by decide)), fun o _ ho => (hreg o ho).trans (hr o (by simp))⟩
  · rw [State.count_beat, State.put_beat, State.put_beat, hstart]
  · rw [State.count_beat, State.put_beat, State.put_beat, hnext]
  · rw [State.count_beat, State.put_beat, State.put_beat, hstarted]
  · rw [State.count_glb, State.put_glb, State.put_glb, hglb]
  · rw [hcount, hr.reg64 (by decide) (by decide)]

/-- Before the boundary and after it, what leaves the beat alone changes nothing of it. -/
theorem BeatBegins.quiet {s x y u : State} (h : BeatBegins x y) (hn : x.beat.next = s.beat.next) (hp : x.glb.phase = s.glb.phase)
    (hx : ∀ o, o < 0x20000 → x.reg o = s.reg o) (hu : u.quiet = y.quiet) : BeatBegins s u := by
  obtain ⟨ustart, unext, ustarted, uphase, ureg⟩ := sameBeat_of_quiet hu
  obtain ⟨hstart, hnext, hstarted, hphase, hslot, hnum, hcount, hre, hreg⟩ := h
  have hxs : ∀ f : Fld, f.off < 0x20000 → x.get f = s.get f := fun f hf => State.get_of_reg (hx _ hf)
  have hus : ∀ f : Fld, f.off < 0x20000 → u.get f = y.get f := fun f hf => State.get_of_reg (ureg _ hf)
  have hlen : x.beatLen = s.beatLen := by rw [State.beatLen, hxs _ (by decide)]; rfl
  have h64 : ∀ {a b : State}, (∀ o, o < 0x20000 → a.reg o = b.reg o) → a.reg64 Reg.BEAT_COUNT = b.reg64 Reg.BEAT_COUNT :=
    fun h => by simp only [State.reg64, h Reg.BEAT_COUNT (by decide), h (Reg.BEAT_COUNT + 4) (by decide)]
  refine ⟨?_, ?_, ustarted.trans hstarted, (uphase.trans hphase).trans hp, (hus _ (by decide)).trans hslot, ?_, ?_, ?_,
    fun o ho hb => (ureg o ho).trans ((hreg o ho hb).trans (hx o ho))⟩
  · rw [ustart, hstart, hn]
  · rw [unext, hnext, hn, hlen]
  · rw [hus _ (by decide), hnum, hn, hlen]
  · rw [h64 ureg, hcount, h64 hx]
  · rw [hus _ (by decide), hre, hxs _ (by decide)]

theorem beatBegins_beatStart (s : State) (r : Bool) : BeatBegins s (s.beatStart r) := by
  obtain ⟨hn, hg, _, _, hr⟩ := beatKept_leaveSlot s
  rw [beatStart_eq]
  exact (beatBegins_beatOpened s.leaveSlot).quiet hn (by rw [hg]) (fun o ho => hr o (by omega)) (boundaryWork_quiet _ _)

/-- What a boundary command shows of the beat that starts at `t` with this temperature. -/
def State.begun (s : State) (t : Tai) (temp : Nat) (u : State) : Prop :=
  u.beat.start = t ∧ u.beat.next = t + s.beatLen ∧ u.beat.started = true ∧ u.glb.phase = s.glb.phase ∧
    u.get Fld.BEAT_STATUS_SLOT_CUR = 0 ∧ u.get Fld.BEAT_STATUS_BEAT_NUM = t % 1000000000 / s.beatLen ∧
    u.reg64 Reg.BEAT_COUNT = (s.reg64 Reg.BEAT_COUNT + 1) % 2 ^ 64 ∧ u.get Fld.GLB_TEMP_T = temp

/-- The beat begins from a state that differs from `s` by what the command itself shows. -/
theorem begun_of_begins {s x u : State} {temp : Nat} {l : List Nat} (h : BeatBegins x u) (hn : x.beat.next = s.beat.next)
    (hp : x.glb.phase = s.glb.phase) (hr : s.keepsRegs x l) (hl : Reg.BEAT_COUNT ∉ l ∧ Reg.BEAT_COUNT + 4 ∉ l)
    (hlen : x.get Fld.BEAT_STATUS_LEN_CUR = s.get Fld.BEAT_STATUS_LEN_CUR) (ht : x.get Fld.GLB_TEMP_T = temp) :
    s.begun s.beat.next temp u := by
  obtain ⟨hstart, hnext, hstarted, hphase, hslot, hnum, hcount, _, hreg⟩ := h
  have hbl : x.beatLen = s.beatLen := by rw [State.beatLen, hlen]; rfl
  refine ⟨hstart.trans hn, ?_, hstarted, hphase.trans hp, hslot, ?_, ?_, (State.get_of_reg (hreg _ (by decide) (by decide))).trans ht⟩
  · rw [hnext, hn, hbl]
  · rw [hnum, hn, hbl]
  · rw [hcount, hr.reg64 hl.1 hl.2]

theorem State.reg_put_congr {x y : State} (f : Fld) (v : Nat) (h : ∀ o, o < 0x20000 → x.reg o = y.reg o) (hf : f.off < 0x20000) :
    ∀ o, o < 0x20000 → (x.put f v).reg o = (y.put f v).reg o := by
  intro o ho
  by_cases hof : o = f.off
  · subst hof
    simp only [State.put, State.reg_setReg_self, h _ hf]
  · rw [State.reg_put _ _ _ _ hof, State.reg_put _ _ _ _ hof, h o ho]

theorem sampleNet_quiet (s : State) (n : Nat) : (s.sampleNet n).quiet = s.quiet := rfl

theorem windowSkipped_quiet (s : State) : s.windowSkipped.quiet = s.quiet := by
  unfold State.windowSkipped
  split
  · dsimp only
    rw [quiet_mk]
    split
    · rfl
    · exact State.count_quiet s _ _ (by decide)
  · rfl

/-- Work that leaves the beat alone before the temperature is shown, and the backup sensor after it. -/
theorem beatBegins_sensed {s x u : State} {temp b : Nat} (hx : x.quiet = s.quiet)
    (h : BeatBegins ((x.put Fld.GLB_TEMP_T temp).put Fld.PWR_STATUS_BKUP_OK b) u) : BeatBegins (s.put Fld.GLB_TEMP_T temp) u := by
  obtain ⟨_, xnext, _, xphase, xreg⟩ := sameBeat_of_quiet hx
  refine h.quiet ?_ ?_ (fun o ho => ?_) rfl
  · rw [State.put_beat, State.put_beat, State.put_beat, xnext]
  · rw [State.put_glb, State.put_glb, State.put_glb, xphase]
  · rw [State.reg_put _ Fld.PWR_STATUS_BKUP_OK b o (by simp only [Fld.PWR_STATUS_BKUP_OK, Reg.PWR_STATUS]; omega)]
    exact State.reg_put_congr _ _ xreg (by decide) o ho

/-- The gap is over, and counted. -/
def State.gapEnded (s : State) : State := (s.put Fld.BEAT_STATUS_REALIGNING 0).count32 Reg.BEAT_REALIGN_CNT

/-- What BEAT_REALIGNED shows before the beat starts. -/
theorem gapEnded_shows (s : State) {temp : Nat} (ht : temp < 2 ^ 16) :
    s.keepsRegs (s.gapEnded.put Fld.GLB_TEMP_T temp) [Reg.BEAT_STATUS, Reg.BEAT_REALIGN_CNT, Reg.GLB_TEMP] ∧
      (s.gapEnded.put Fld.GLB_TEMP_T temp).get Fld.GLB_TEMP_T = temp ∧
      (s.gapEnded.put Fld.GLB_TEMP_T temp).get Fld.BEAT_STATUS_LEN_CUR = s.get Fld.BEAT_STATUS_LEN_CUR ∧
      (s.gapEnded.put Fld.GLB_TEMP_T temp).get Fld.BEAT_STATUS_REALIGNING = 0 ∧
      (s.gapEnded.put Fld.GLB_TEMP_T temp).reg Reg.BEAT_REALIGN_CNT = s.reg Reg.BEAT_REALIGN_CNT + 1 := by
  have hc : ∀ x : State, x.keepsRegs (x.count32 Reg.BEAT_REALIGN_CNT) [Reg.BEAT_REALIGN_CNT] := fun x =>
    State.keepsRegs_count32 x _ _
  have hp : s.keepsRegs (s.put Fld.BEAT_STATUS_REALIGNING 0) [Reg.BEAT_STATUS] := State.keepsRegs_put s _ _
  have hg : ∀ f : Fld, f.off = Reg.BEAT_STATUS →
      (s.gapEnded.put Fld.GLB_TEMP_T temp).get f = (s.put Fld.BEAT_STATUS_REALIGNING 0).get f := fun f hf => by
    rw [State.get_put_reg _ _ _ _ (by rw [hf]; decide)]
    exact (hc _).get (by rw [hf]; decide)
  refine ⟨?_, State.get_put_fit _ _ _ (by decide) (by decide) ht, ?_, ?_, ?_⟩
  · exact State.keepsRegs.put (State.keepsRegs_back (State.keepsRegs_mono hp (by decide)) (hc _) (by decide)) Fld.GLB_TEMP_T _
      (by decide)
  · rw [hg _ rfl,
      State.get_put_field _ Fld.BEAT_STATUS_REALIGNING Fld.BEAT_STATUS_LEN_CUR _ rfl (by decide) (by decide) (by decide)]
  · rw [hg _ rfl, State.get_put_zero _ _ (by decide) (by decide)]
  · rw [State.reg_put _ _ _ _ (by decide)]
    refine (State.reg_setReg_self ..).trans ?_
    rw [hp _ (by decide)]
    rfl

/-- The beat that BEAT_REALIGNED starts. -/
def State.realigned (s : State) (temp pads : Nat) : State :=
  (((s.gapEnded.sampleNet pads).put Fld.GLB_TEMP_T temp).windowSkipped).beatStart true

theorem beatBegins_realigned (s : State) (temp pads : Nat) :
    BeatBegins (s.gapEnded.put Fld.GLB_TEMP_T temp) (s.realigned temp pads) := by
  obtain ⟨_, hnext, _, hphase, hreg⟩ := sameBeat_of_quiet (windowSkipped_quiet ((s.gapEnded.sampleNet pads).put Fld.GLB_TEMP_T temp))
  refine (beatBegins_beatStart _ true).quiet ?_ ?_ (fun o ho => (hreg o ho).trans ?_) rfl
  · rw [hnext, State.put_beat, State.put_beat]; rfl
  · rw [hphase, State.put_glb, State.put_glb]; rfl
  · exact State.reg_put_congr _ _ (fun _ _ => rfl) (by decide) o ho

/-- BEAT_BOUNDARY at its boundary starts the beat. -/
theorem answers_beatBoundary {temp pads : Nat} {bkup : Bool} {bad : List (Nat × Nat)} {s : State} {p : State → Prop}
    (hs : s.up = true) (hwf : (Instr.beatBoundary temp pads bkup bad s.beat.next).wf = true)
    (hr : s.get Fld.BEAT_STATUS_REALIGNING = 0) (hw : s.stepWaits = false) (hon : s.beat.started = true ∨ s.glb.phase = .running)
    (hp : p ((((((s.at s.beat.next).resetQueues bad).sampleNet pads).put Fld.GLB_TEMP_T temp).put Fld.PWR_STATUS_BKUP_OK
      (b2n (bkup && !(s.at s.beat.next).faulted 79 0x21))).beatStart false |>.withQueue s.pending)) :
    answers (exec (.beatBoundary temp pads bkup bad s.beat.next) s) p := by
  refine answers_effect (m := "BEAT_BOUNDARY") hs hwf ?_
  have hon' : (s.glb.phase != .powerOnReset && (s.beat.started || s.glb.phase == .running) &&
      s.get Fld.BEAT_STATUS_REALIGNING == 0) = true := by
    have hup : (s.glb.phase != .powerOnReset) = true := hs
    rw [hup, hr]
    rcases hon with h | h <;> simp [h]
  rw [if_pos ⟨hon', rfl, hw⟩]
  exact hp

/-- BEAT_REALIGNED at the end of a gap starts the beat and tells the gap. -/
theorem answers_beatRealigned {temp pads : Nat} {t : Tai} {s : State} {p : State → Prop} (hs : s.up = true) (htemp : temp < 2 ^ 16)
    (ht : t = s.beat.next) (hr : s.get Fld.BEAT_STATUS_REALIGNING = 1)
    (hp : p ((((s.at t).realigned temp pads).raise 0x0202 0 [n8 (s.beat.next - s.beat.gapFrom),
      n4 (((s.at t).realigned temp pads).get Fld.BEAT_STATUS_BEAT_NUM)]).withQueue s.pending)) :
    answers (exec (.beatRealigned temp pads t) s) p := by
  refine answers_effect (m := "BEAT_REALIGNED") hs (decide_eq_true htemp) ?_
  have hc : (s.at t).get Fld.BEAT_STATUS_REALIGNING = 1 ∧ t = (s.at t).beat.next := ⟨hr, ht⟩
  rw [if_pos hc]
  exact hp

/-- Settles O30: a beat starts at its boundary (`beatBegins_beatStart`), and at no other time. -/
theorem aBeatStartsAtItsBoundary : Obligations.ABeatStartsAtItsBoundary := by
  intro temp pads bkup bad t s hs hwf begun
  have htemp : temp < 2 ^ 16 := by
    have h := hwf
    simp only [Instr.wf, decide_eq_true_eq] at h
    exact h.1
  refine ⟨fun ht hr hw hon => ?_, fun h => ?_, fun ht hr => ?_⟩
  · subst ht
    have hb := beatBegins_sensed (s := s.at s.beat.next) (x := ((s.at s.beat.next).resetQueues bad).sampleNet pads)
      ((sampleNet_quiet _ _).trans (State.resetQueues_quiet _ _)) (temp := temp)
      (b := b2n (bkup && !(s.at s.beat.next).faulted 79 0x21)) (beatBegins_beatStart _ false)
    refine answers_beatBoundary hs hwf hr hw hon ?_
    have hk : s.keepsRegs ((s.at s.beat.next).put Fld.GLB_TEMP_T temp) [Reg.GLB_TEMP] :=
      State.keepsRegs.put (.at s _ _) Fld.GLB_TEMP_T _ (by decide)
    have hbeg := begun_of_begins (s := s) hb (by rw [State.put_beat]; rfl) (by rw [State.put_glb]; rfl) hk (by decide)
      (hk.get (by decide)) (State.get_put_fit _ _ _ (by decide) (by decide) htemp)
    exact ⟨hbeg, fun o ho hn => (hb.reg o ho fun hm => hn (by revert hm; simp only [beatRegs, List.mem_cons]; tauto)).trans
      (hk o fun hm => hn (by simp only [List.mem_singleton] at hm; simp [hm]))⟩
  · refine answers_effect (m := "BEAT_BOUNDARY") hs hwf ?_
    rw [if_neg fun hc => h.elim (fun hn => hn hc.2.1) fun hw => Bool.noConfusion (hc.2.2.symm.trans hw)]
    exact ⟨(State.keepsRegs_withQueue ..).2 (.at s t _), (State.keeps_withQueue ..).2 (.at s t _)⟩
  · subst ht
    refine answers_beatRealigned hs htemp rfl hr ?_
    obtain ⟨hk, hget, hlen, hre, hcnt⟩ := gapEnded_shows (s.at s.beat.next) htemp
    have hb := beatBegins_realigned (s.at s.beat.next) temp pads
    have hq := hb.quiet (u := ((s.at s.beat.next).realigned temp pads).raise 0x0202 0
      [n8 (s.beat.next - s.beat.gapFrom), n4 (((s.at s.beat.next).realigned temp pads).get Fld.BEAT_STATUS_BEAT_NUM)])
      rfl rfl (fun _ _ => rfl) (State.raise_quiet ..)
    have hbeg := begun_of_begins (s := s) hq (by rw [State.put_beat]; rfl) (by rw [State.put_glb]; rfl) hk (by decide) hlen hget
    have hnum : ((s.at s.beat.next).realigned temp pads).get Fld.BEAT_STATUS_BEAT_NUM = s.beat.next % 1000000000 / s.beatLen := by
      have h : s.begun s.beat.next temp ((s.at s.beat.next).realigned temp pads) :=
        begun_of_begins hb (by rw [State.put_beat]; rfl) (by rw [State.put_glb]; rfl) hk (by decide) hlen hget
      obtain ⟨_, _, _, _, _, h, _, _⟩ := h
      exact h
    have hout : ∀ o, o ∉ [Reg.BEAT_STATUS, Reg.GLB_TEMP, Reg.BEAT_REALIGN_CNT, Reg.BEAT_COUNT, Reg.BEAT_COUNT + 4] →
        o ∉ beatRegs ∧ o ∉ [Reg.BEAT_STATUS, Reg.BEAT_REALIGN_CNT, Reg.GLB_TEMP] := fun o h => by
      simp only [beatRegs, List.mem_cons, List.not_mem_nil, or_false, not_or] at h ⊢
      tauto
    refine ⟨?_, hq.realigning.trans hre, (hq.reg _ (by decide) (by decide)).trans hcnt, ?_,
      fun o ho hn => (hq.reg o ho (hout o hn).1).trans (hk o (hout o hn).2)⟩
    · exact hbeg
    · rw [← hnum]
      exact State.told_raise ..

/-! ### Key and salt words of the link cipher (R224) -/

/-- The table that a word of an association stands in. -/
def saBase (chan : Nat) (salt : Bool) : Nat :=
  if chan = 0 then (if salt then 0x190120 else 0x190100) else (if salt then 0x190460 else 0x190440)

/-- A row of the table with this base, whose words are written whole and are in force at once. -/
def RegRow.keyTable (base : Nat) (r : RegRow) : Bool :=
  r.base == base && !r.wide && r.st == 2 ^ 32 - 1 && r.wo == 2 ^ 32 - 1 && r.w1c == 0 && r.cls == .immediate

/-- A word lies beyond the first 256 bytes of its lane. -/
theorem saWord_lane {l chan sa k : Nat} {salt : Bool} (hc : chan < 9) (ha : sa < 4) (hk : k < 8) :
    ∃ i, saWord l chan sa k salt = 0x190000 + 0x1000 * l + i ∧ 0x100 ≤ i ∧ i < 0x1000 := by
  refine ⟨saWord 0 chan sa k salt - 0x190000, ?_⟩
  unfold saWord Reg.LSEC_TXSA_SALT Reg.LSEC_TXSA_KEY Reg.LSEC_RXSA_SALT Reg.LSEC_RXSA_KEY
  split <;> split <;> omega

theorem saWord_range {l chan sa k : Nat} {salt : Bool} (hl : l < 4) (hc : chan < 9) (ha : sa < 4) (hk : k < 8) :
    0x190100 ≤ saWord l chan sa k salt ∧ saWord l chan sa k salt < 0x194000 ∧ saWord l chan sa k salt % 0x1000 ≠ 0 := by
  obtain ⟨i, h, hlo, hhi⟩ := saWord_lane (l := l) (salt := salt) hc ha hk
  omega

theorem block_lsec {off : Nat} (h : 0x190000 ≤ off) (h2 : off < 0x1A0000) : RegMap.block off = RegMap.rowsLSEC := by
  unfold RegMap.block
  repeat rw [if_neg (by omega)]
  rw [if_pos h2]

/-- The map gives each key word to its table. -/
theorem find_saKey : ∀ l < 4, ∀ chan < 9, ∀ sa < 4, ∀ k < 8,
    ((RegMap.rowsLSEC.find? fun r => r.covers (saWord l chan sa k false)).any (RegRow.keyTable (saBase chan false))) = true := by
  decide +kernel

/-- The map gives each salt word to its table. -/
theorem find_saSalt : ∀ l < 4, ∀ chan < 9, ∀ sa < 4, ∀ k < 3,
    ((RegMap.rowsLSEC.find? fun r => r.covers (saWord l chan sa k true)).any (RegRow.keyTable (saBase chan true))) = true := by
  decide +kernel

theorem find_saWord {l chan sa k : Nat} {salt : Bool} (hl : l < 4) (hc : chan < 9) (ha : sa < 4) (hk : k < 8)
    (hs : salt = false ∨ k < 3) :
    ∃ r, RegMap.find (saWord l chan sa k salt) = some r ∧ r.keyTable (saBase chan salt) = true := by
  obtain ⟨hlo, hhi, _⟩ := saWord_range (salt := salt) hl hc ha hk
  unfold RegMap.find
  rw [block_lsec (by omega) (by omega)]
  have h : ((RegMap.rowsLSEC.find? fun r => r.covers (saWord l chan sa k salt)).any (RegRow.keyTable (saBase chan salt))) = true := by
    cases salt with
    | false => exact find_saKey l hl chan hc sa ha k hk
    | true => exact find_saSalt l hl chan hc sa ha k (hs.resolve_left (by decide))
  simpa only [Option.any_eq_true] using h

/-- No range of the map speaks of a lane's association words: of its registers only the first has ranges. -/
theorem rangeChecks_lsec {l i v : Nat} (hl : l < 4) (hlo : 0x100 ≤ i) (hhi : i < 0x1000) :
    rangeChecks (0x190000 + 0x1000 * l + i) v = [] := by
  refine rangeChecks_none ?_
  simp only [fieldRanges, List.all_cons, List.all_nil, FieldRange.covers, RegMap.reaches, Bool.and_true, Bool.and_eq_true,
    Bool.not_eq_true', Bool.and_eq_false_imp, decide_eq_true_eq, decide_eq_false_iff_not]
  omega

theorem valueChecks_saWord (s : State) {l chan sa k : Nat} {salt : Bool} (hl : l < 4) (hc : chan < 9) (ha : sa < 4) (hk : k < 8)
    (v : Nat) : s.valueChecks (saWord l chan sa k salt) v = [] := by
  obtain ⟨i, h, hlo, hhi⟩ := saWord_lane (l := l) (salt := salt) hc ha hk
  rw [h]
  unfold State.valueChecks
  rw [rangeChecks_lsec hl hlo hhi, List.nil_append]
  repeat rw [if_neg (by omega)]
  rw [if_pos (by omega)]
  exact if_neg (by omega)

/-! ### What a write of an association word does -/

theorem storedWord_all {r : RegRow} {base : Nat} (h : r.keyTable base = true) (old v : Word) : storedWord r old v = v := by
  simp only [RegRow.keyTable, Bool.and_eq_true, beq_iff_eq] at h
  obtain ⟨⟨⟨⟨⟨_, _⟩, hst⟩, _⟩, _⟩, _⟩ := h
  have hm : BitVec.ofNat 32 (2 ^ 32 - 1) = BitVec.allOnes 32 := by decide
  simp only [storedWord, hst, hm, BitVec.not_allOnes, BitVec.and_zero, BitVec.zero_or, BitVec.and_allOnes]

theorem trigger_lsec (s : State) {off act : Nat} (h : 0x190000 ≤ off) (h2 : off < 0x1A0000) : s.trigger off act [] [] = s := by
  unfold State.trigger
  simp only [Reg.GLB_RESET, Reg.GLB_AF_CTRL, Reg.TIME_STEP_CTRL, Reg.FAB_COMMIT, Reg.FAB_RA_REARM, Reg.REEF_COMMIT,
    Reg.ETH_MDIO_CMD, Reg.CIPH_CLR_CTRL, Reg.CIPH_FV_SEL, Reg.NEST_COMMIT, Reg.HAL_CTRL, Reg.NVM_CFG_CMD, Reg.NVM_UPD_CTRL,
    Reg.MGT_SNAP_GO]
  split
  · rfl
  · repeat refine (if_neg (by omega)).trans ?_
    rfl

/-- The word is stored and in force. -/
def State.wordStored (s : State) (off : Nat) (v : Word) : State := (s.setReg off v).setLive off v

/-- An association begins with the first word of its key. -/
theorem saBegins_of {s : State} {off : Nat} {r : RegRow} (h : RegMap.find off = some r) :
    s.saBegins off = if r.base = 0x190100 ∧ (off - 0x190100) % 0x80 = 0 then
      some (s.secFresh ((off - 0x190100) / 0x1000) ((off - 0x190100) % 0x1000 / 0x80))
    else if r.base = 0x190440 ∧ (off - 0x190440) % 0x1000 % 0x180 % 0x40 = 0 then some (s.putBoth ⟨off + 0x38, 0, 0⟩ 0)
    else none := by
  unfold State.saBegins
  rw [h]

theorem afterStore_lsec (s : State) {off old new lanes : Nat} (h : 0x190000 ≤ off) (h2 : off < 0x1A0000) :
    s.afterStore off old new lanes = (s.saBegins off).getD s := by
  unfold State.afterStore
  cases s.saBegins off with
  | some x => rfl
  | none =>
    simp only [Reg.GLB_LOCK, Reg.BEAT_LEN_NEXT, Reg.BEAT_SLOT_NEXT2, Option.getD_none]
    repeat refine (if_neg (by omega)).trans ?_
    rfl

theorem dirty_lsec (s : State) {off : Nat} {r : RegRow} (hr : RegMap.find off = some r) (hc : r.cls = .immediate)
    (h : 0x190000 ≤ off) (h2 : off < 0x194000) : s.dirty off = s := by
  have hi : inImage off = false := by
    unfold inImage
    rw [hr]
    simp [hc, h, h2]
  unfold State.dirty
  rw [hi]
  rfl

/-- A taken write of an association word stores it, and may begin the association. -/
theorem regWrite_saWord {s : State} {a : Access} {l chan sa k : Nat} {salt : Bool} (h : s.takes a) (hl : l < 4) (hc : chan < 9)
    (ha : sa < 4) (hk : k < 8) (hs : salt = false ∨ k < 3) (v : Word) :
    s.regWrite a (saWord l chan sa k salt) v =
      ((s.wordStored (saWord l chan sa k salt) v).saBegins (saWord l chan sa k salt)).getD
        (s.wordStored (saWord l chan sa k salt) v) := by
  obtain ⟨r, hr, ht⟩ := find_saWord hl hc ha hk hs
  obtain ⟨hlo, hhi, _⟩ := saWord_range (salt := salt) hl hc ha hk
  have hall := storedWord_all ht
  have hchecks := fun w => valueChecks_saWord s (salt := salt) hl hc ha hk w
  simp only [RegRow.keyTable, Bool.and_eq_true, beq_iff_eq, Bool.not_eq_true'] at ht
  obtain ⟨⟨⟨⟨⟨_, hwide⟩, hst⟩, _⟩, hw1c⟩, hcls⟩ := ht
  generalize saWord l chan sa k salt = off at *
  have hwin : readOnlyWindow off = false := by
    unfold readOnlyWindow
    rw [decide_eq_false (by omega), decide_eq_false (by omega), decide_eq_false (by omega)]
    rfl
  rw [regWrite_store v h hr hwin hwide (by rw [hst]; decide) (by rw [hst]; decide) hw1c
    (by simp only [Reg.CIPH_ALARM]; omega) (hchecks _), trigger_lsec _ (by omega) (by omega),
    afterStore_lsec _ (by omega) (by omega), dirty_lsec _ hr hcls (by omega) hhi, hall, hcls]
  rfl

/-- The VALID bit of an association. -/
def saValid (l chan sa : Nat) : Fld :=
  if chan = 0 then Fld.LSEC_TXSA_CTRL_VALID l sa else Fld.LSEC_RXSA_CTRL_VALID l (chan - 1) sa

/-- A fresh association: not valid, and on the transmit side with its threshold untold. -/
def State.saFresh (s : State) (l chan sa : Nat) : State :=
  if chan = 0 then s.secFresh l sa else s.putBoth (saValid l chan sa) 0

/-- The first key word stands where its table's element starts. -/
theorem txKey_element {l sa k : Nat} (hs : sa < 4) (hk : k < 8) :
    (Reg.LSEC_TXSA_KEY l sa k - 0x190100) % 0x80 = 4 * k ∧ (Reg.LSEC_TXSA_KEY l sa k - 0x190100) / 0x1000 = l ∧
      (Reg.LSEC_TXSA_KEY l sa k - 0x190100) % 0x1000 / 0x80 = sa := by
  have h : Reg.LSEC_TXSA_KEY l sa k - 0x190100 = 0x1000 * l + (0x80 * sa + 4 * k) := by unfold Reg.LSEC_TXSA_KEY; omega
  have hm : (0x1000 * l + (0x80 * sa + 4 * k)) % 0x1000 = 0x80 * sa + 4 * k := by omega
  rw [h, hm]
  omega

theorem rxKey_element {l c sa k : Nat} (hc : c < 8) (hs : sa < 4) (hk : k < 8) :
    (Reg.LSEC_RXSA_KEY l c sa k - 0x190440) % 0x1000 % 0x180 % 0x40 = 4 * k := by
  have h : Reg.LSEC_RXSA_KEY l c sa k - 0x190440 = 0x1000 * l + (0x180 * c + (0x40 * sa + 4 * k)) := by
    unfold Reg.LSEC_RXSA_KEY; omega
  rw [h, Nat.mul_add_mod, Nat.mod_eq_of_lt (by omega : 0x180 * c + (0x40 * sa + 4 * k) < 0x1000), Nat.mul_add_mod,
    Nat.mod_eq_of_lt (by omega : 0x40 * sa + 4 * k < 0x180), Nat.mul_add_mod, Nat.mod_eq_of_lt (by omega)]

/-- Only the first word of a key begins its association. -/
theorem saBegins_saWord (s : State) {l chan sa k : Nat} {salt : Bool} (hl : l < 4) (hc : chan < 9) (ha : sa < 4) (hk : k < 8)
    (hs : salt = false ∨ k < 3) :
    s.saBegins (saWord l chan sa k salt) = if k = 0 ∧ salt = false then some (s.saFresh l chan sa) else none := by
  obtain ⟨r, hr, ht⟩ := find_saWord hl hc ha hk hs
  have hbase : r.base = saBase chan salt := by
    simp only [RegRow.keyTable, Bool.and_eq_true, beq_iff_eq] at ht
    exact ht.1.1.1.1.1
  rw [saBegins_of hr, hbase]
  cases salt with
  | true =>
    have hb : saBase chan true ≠ 0x190100 ∧ saBase chan true ≠ 0x190440 := by unfold saBase; split <;> decide
    rw [if_neg fun h => hb.1 h.1, if_neg fun h => hb.2 h.1, if_neg fun h => Bool.noConfusion h.2]
  | false =>
    by_cases h0 : chan = 0
    · subst h0
      obtain ⟨hk0, hl0, ha0⟩ := txKey_element (l := l) ha hk
      have hw : saWord l 0 sa k false = Reg.LSEC_TXSA_KEY l sa k := rfl
      rw [hw, hk0, hl0, ha0]
      by_cases hz : k = 0 <;> simp [saBase, State.saFresh, hz]
    · have hw : saWord l chan sa k false = Reg.LSEC_RXSA_KEY l (chan - 1) sa k := if_neg h0
      rw [hw, rxKey_element (by omega) ha hk]
      by_cases hz : k = 0
      · have hv : (⟨Reg.LSEC_RXSA_KEY l (chan - 1) sa 0 + 0x38, 0, 0⟩ : Fld) = saValid l chan sa := by
          unfold saValid
          rw [if_neg h0]
          simp only [Fld.LSEC_RXSA_CTRL_VALID, Reg.LSEC_RXSA_CTRL, Reg.LSEC_RXSA_KEY, Fld.mk.injEq, and_true]
          omega
        subst hz
        rw [hv]
        simp [saBase, State.saFresh, h0]
      · simp [saBase, h0, hz]

/-! What an association's start shows. -/

theorem State.liveReg_putBoth (s : State) (f : Fld) (v : Nat) {o : Nat} (h : o ≠ f.off) : (s.putBoth f v).liveReg o = s.liveReg o :=
  (State.liveReg_setLive _ _ _ _).trans (if_neg h)

theorem State.cur_putBoth_self (s : State) (f : Fld) (v : Nat) (hh : f.hi < 32) (hl : f.lo ≤ f.hi) :
    (s.putBoth f v).cur f = v % 2 ^ (f.hi + 1 - f.lo) := by
  simp only [State.cur, State.putBoth, State.putCur, State.liveReg_setLive, if_true, BitVec.toNat_ofNat]
  rw [Nat.mod_eq_of_lt (setBits_lt _ _ _ _ (State.liveReg _ _).isLt hh hl), bits_setBits_self]

theorem saValid_bit (l chan sa : Nat) : (saValid l chan sa).hi = 0 ∧ (saValid l chan sa).lo = 0 := by
  unfold saValid
  split <;> exact ⟨rfl, rfl⟩

theorem saValid_off_ne {l chan sa k : Nat} {salt : Bool} (hk : k < 8) (hs : salt = false ∨ k < 3) :
    saWord l chan sa k salt ≠ (saValid l chan sa).off := by
  unfold saValid saWord
  rcases hs with rfl | hs
  · simp only [Bool.false_eq_true, if_false]
    split <;> simp only [Fld.LSEC_TXSA_CTRL_VALID, Fld.LSEC_RXSA_CTRL_VALID, Reg.LSEC_TXSA_CTRL, Reg.LSEC_RXSA_CTRL,
      Reg.LSEC_TXSA_KEY, Reg.LSEC_RXSA_KEY] <;> omega
  · split <;> split <;> simp only [Fld.LSEC_TXSA_CTRL_VALID, Fld.LSEC_RXSA_CTRL_VALID, Reg.LSEC_TXSA_CTRL, Reg.LSEC_RXSA_CTRL,
      Reg.LSEC_TXSA_KEY, Reg.LSEC_RXSA_KEY, Reg.LSEC_TXSA_SALT, Reg.LSEC_RXSA_SALT] <;> omega

theorem secFresh_eq (s : State) (l a : Nat) :
    s.secFresh l a = { (s.putBoth (saValid l 0 a) 0).put (Fld.LSEC_TXSA_CTRL_EXHAUSTED l a) 0 with
      eth := { s.eth with told := s.eth.told.filter fun (x : Nat) => x != 4 * l + a } } := rfl

theorem keepsRegs_saFresh {s x : State} {m : List Nat} (h : s.keepsRegs x m) (l chan sa : Nat) (hm : (saValid l chan sa).off ∈ m) :
    s.keepsRegs (x.saFresh l chan sa) m := by
  unfold State.saFresh
  split
  · rename_i h0
    subst h0
    exact ((h.putBoth (saValid l 0 sa) 0 hm).put (Fld.LSEC_TXSA_CTRL_EXHAUSTED l sa) 0 hm).same rfl
  · exact h.putBoth _ _ hm

theorem keeps_saFresh {s x : State} {m : List Part} (h : s.keeps x m) (l chan sa : Nat) (hl : Part.live ∈ m) (he : Part.eth ∈ m) :
    s.keeps (x.saFresh l chan sa) m := by
  unfold State.saFresh
  split
  · rw [secFresh_eq]
    exact State.keeps_eth _ ((h.putBoth _ _ hl).put _ _) he
  · exact h.putBoth _ _ hl

theorem eth_saFresh (s : State) (l chan sa : Nat) : (s.saFresh l chan sa).eth =
    if chan = 0 then { s.eth with told := s.eth.told.filter fun (x : Nat) => x != 4 * l + sa } else s.eth := by
  unfold State.saFresh
  split
  · rfl
  · exact State.putBoth_eth ..

theorem valid_saFresh (s : State) (l chan sa : Nat) :
    (s.saFresh l chan sa).get (saValid l chan sa) = 0 ∧ (s.saFresh l chan sa).cur (saValid l chan sa) = 0 := by
  obtain ⟨hhi, hlo⟩ := saValid_bit l chan sa
  have hput : (s.putBoth (saValid l chan sa) 0).get (saValid l chan sa) = 0 :=
    (State.get_putBoth ..).trans (State.get_put_zero _ _ (by omega) (by omega))
  have hcur : (s.putBoth (saValid l chan sa) 0).cur (saValid l chan sa) = 0 :=
    (State.cur_putBoth_self _ _ _ (by omega) (by omega)).trans (Nat.zero_mod _)
  unfold State.saFresh
  split
  · rename_i h0
    subst h0
    refine ⟨?_, hcur⟩
    exact (State.get_put_field (s.putBoth (saValid l 0 sa) 0) (Fld.LSEC_TXSA_CTRL_EXHAUSTED l sa) (saValid l 0 sa) 0 rfl
      (by decide : (1 : Nat) < 32) (Nat.le_refl 1) (.inr Nat.one_pos)).trans hput
  · exact ⟨hput, hcur⟩

theorem liveReg_saFresh (s : State) (l chan sa : Nat) {o : Nat} (h : o ≠ (saValid l chan sa).off) :
    (s.saFresh l chan sa).liveReg o = s.liveReg o := by
  unfold State.saFresh
  split
  · rename_i h0
    subst h0
    exact State.liveReg_putBoth s (saValid l 0 sa) 0 h
  · exact State.liveReg_putBoth s _ 0 h

/-! ### Arming a length or a share set (R26, R31) -/

/-- The rows of the two registers that arm. -/
def rowLenNext : RegRow := { base := 0x10004, st := 0x80000007, rd := 0x80000007, cls := .staged, reset := 0x1 }
def rowSlotNext2 : RegRow := { base := 0x10010, st := 0x800003FF, rd := 0x800003FF, cls := .staged, reset := 0x64 }

theorem find_lenNext : RegMap.find Reg.BEAT_LEN_NEXT = some rowLenNext := by decide
theorem find_slotNext2 : RegMap.find Reg.BEAT_SLOT_NEXT2 = some rowSlotNext2 := by decide

/-- A word with ARM set is stored: the configuration is dirty, and the indicator shows what was sampled. -/
def State.armStored (s : State) (off : Nat) (w : Word) (shown : Fld) (sampled : Bool) : State :=
  ((s.setReg off w).put Fld.NVM_STATUS_CFG_DIRTY 1).put shown (b2n sampled)

theorem beat_lenSampled (b : BeatUnit) : { b with lenSampled := b.lenSampled && true } = b := by cases b; simp
theorem beat_shareSampled (b : BeatUnit) :
    { b with shareSampled := b.shareSampled && true, shareWithLen := b.shareWithLen && true } = b := by cases b; simp

theorem afterStore_lenNext (s : State) (old lanes : Nat) {new : Nat} (h : bit new 31 = true) :
    s.afterStore Reg.BEAT_LEN_NEXT old new lanes = s.put Fld.BEAT_STATUS_LEN_ARMED (b2n s.beat.lenSampled) := by
  have hs : s.saBegins Reg.BEAT_LEN_NEXT = none := by rw [saBegins_of find_lenNext]; rfl
  unfold State.afterStore
  rw [hs]
  dsimp only
  rw [if_neg (by decide), if_neg (by simp [Reg.BEAT_LEN_NEXT]), if_neg (by simp [Reg.BEAT_LEN_NEXT, Reg.GLB_LOCK]), if_pos rfl, h,
    beat_lenSampled, Bool.and_true]

theorem afterStore_slotNext2 (s : State) (old lanes : Nat) {new : Nat} (h : bit new 31 = true) :
    s.afterStore Reg.BEAT_SLOT_NEXT2 old new lanes = s.put Fld.BEAT_STATUS_SLOT_ARMED (b2n s.beat.shareSampled) := by
  have hs : s.saBegins Reg.BEAT_SLOT_NEXT2 = none := by rw [saBegins_of find_slotNext2]; rfl
  unfold State.afterStore
  rw [hs]
  dsimp only
  rw [if_neg (by decide), if_neg (by simp [Reg.BEAT_SLOT_NEXT2]), if_neg (by simp [Reg.BEAT_SLOT_NEXT2, Reg.GLB_LOCK]),
    if_neg (by decide), if_pos rfl, h, beat_shareSampled, Bool.and_true]

theorem trigger_zero (s : State) (off : Nat) : s.trigger off 0 [] [] = s := if_pos rfl

theorem dirty_of_inImage (s : State) {off : Nat} (h : inImage off = true) : s.dirty off = s.put Fld.NVM_STATUS_CFG_DIRTY 1 := if_pos h

/-- The word that arming writes. -/
def armWord (v : Nat) : Word := BitVec.ofNat 32 (2 ^ 31 + v)

theorem armWord_bits {v : Nat} (h : v < 2 ^ 10) :
    bits (armWord v).toNat 31 31 = 1 ∧ bits (armWord v).toNat 9 0 = v ∧ (v < 8 → bits (armWord v).toNat 2 0 = v) := by
  have hw : (armWord v).toNat = 2 ^ 31 + v := by
    unfold armWord
    rw [BitVec.toNat_ofNat, Nat.mod_eq_of_lt (by omega)]
  rw [hw]
  unfold bits
  omega

theorem bit_of_bits {x n : Nat} (h : bits x n n = 1) : bit x n = true := by
  have e : n + 1 - n = 1 := by omega
  simp only [bits, e, pow_one] at h
  simp [bit, h]

/-- The range of the length's code, the first of the map. -/
def rangeLen : FieldRange := { base := 0x10004, hi := 2, lo := 0, least := 0, most := 4, err := 1, whole := true }

theorem valueChecks_lenNext (s : State) (v : Nat) :
    s.valueChecks Reg.BEAT_LEN_NEXT v = rejectAll (decide (4 < bits v 2 0)) 1 := by
  have hcons : fieldRanges = rangeLen :: fieldRanges.tail := rfl
  have htail : (fieldRanges.tail.filter fun r => r.covers Reg.BEAT_LEN_NEXT &&
      !(decide (r.least ≤ bits v r.hi r.lo ∧ bits v r.hi r.lo ≤ r.most))) = [] := by
    have hall : fieldRanges.tail.all (fun r => !r.covers Reg.BEAT_LEN_NEXT) = true := by decide
    refine List.filter_eq_nil_iff.2 fun r hr => ?_
    have hr := List.all_eq_true.1 hall r hr
    simp only [Bool.not_eq_true'] at hr
    simp [hr]
  have hcov : rangeLen.covers Reg.BEAT_LEN_NEXT = true := by decide
  unfold State.valueChecks rangeChecks
  rw [if_pos (by decide), List.append_nil, hcons, List.filter_cons, htail, hcov]
  by_cases h : 4 < bits v 2 0
  · simp [rangeLen, rejectAll, h]
  · simp [rangeLen, rejectAll, h, Nat.not_lt.1 h]

theorem valueChecks_slotNext2 (s : State) (v : Nat) : s.valueChecks Reg.BEAT_SLOT_NEXT2 v = [] := by
  have h : rangeChecks Reg.BEAT_SLOT_NEXT2 v = [] := rangeChecks_none (by decide)
  unfold State.valueChecks
  rw [h, if_pos (by decide)]
  rfl

/-- A taken write of a length the map allows. -/
theorem regWrite_lenArm {s : State} {a : Access} (h : s.takes a) {len : Nat} (hlen : len ≤ 4) :
    s.regWrite a Reg.BEAT_LEN_NEXT (armWord len) = s.armStored Reg.BEAT_LEN_NEXT
      (storedWord rowLenNext (s.reg Reg.BEAT_LEN_NEXT) (armWord len)) Fld.BEAT_STATUS_LEN_ARMED s.beat.lenSampled := by
  obtain ⟨h31, _, h20⟩ := armWord_bits (v := len) (by omega)
  have harm := bits_storedWord rowLenNext (s.reg Reg.BEAT_LEN_NEXT) (armWord len) 31 31 (by decide) (by decide)
  have hcode := bits_storedWord rowLenNext (s.reg Reg.BEAT_LEN_NEXT) (armWord len) 2 0 (by decide) (by decide)
  have hok : s.valueChecks Reg.BEAT_LEN_NEXT (storedWord rowLenNext (s.reg Reg.BEAT_LEN_NEXT) (armWord len)).toNat = [] := by
    rw [valueChecks_lenNext, hcode, h20 (by omega), decide_eq_false (by omega)]
    rfl
  have hwo : (armWord len).toNat.land (rowLenNext.wo.land (2 ^ 32 - 1)) = 0 := Nat.and_zero _
  rw [regWrite_store _ h find_lenNext (by decide) rfl (by decide) (by decide) rfl (by decide) hok, hwo, trigger_zero,
    dirty_of_inImage _ (by decide), afterStore_lenNext _ _ _ (bit_of_bits (harm.trans h31)), State.put_beat]
  rfl

/-- A taken write of a share. -/
theorem regWrite_slotArm {s : State} {a : Access} (h : s.takes a) {share : Nat} (hs : share < 1024) :
    s.regWrite a Reg.BEAT_SLOT_NEXT2 (armWord share) = s.armStored Reg.BEAT_SLOT_NEXT2
      (storedWord rowSlotNext2 (s.reg Reg.BEAT_SLOT_NEXT2) (armWord share)) Fld.BEAT_STATUS_SLOT_ARMED s.beat.shareSampled := by
  obtain ⟨h31, _, _⟩ := armWord_bits (v := share) (by omega)
  have harm := bits_storedWord rowSlotNext2 (s.reg Reg.BEAT_SLOT_NEXT2) (armWord share) 31 31 (by decide) (by decide)
  have hwo : (armWord share).toNat.land (rowSlotNext2.wo.land (2 ^ 32 - 1)) = 0 := Nat.and_zero _
  rw [regWrite_store _ h find_slotNext2 (by decide) rfl (by decide) (by decide) rfl (by decide) (valueChecks_slotNext2 _ _), hwo,
    trigger_zero, dirty_of_inImage _ (by decide), afterStore_slotNext2 _ _ _ (bit_of_bits (harm.trans h31)), State.put_beat]
  rfl

/-- A taken write of a length that the map does not know is refused whole. -/
theorem regWrite_lenArm_refused {s : State} {a : Access} (h : s.takes a) {len : Nat} (h5 : 5 ≤ len) (h7 : len ≤ 7) :
    s.regWrite a Reg.BEAT_LEN_NEXT (armWord len) = s.rejectAt Reg.BEAT_LEN_NEXT 1 := by
  obtain ⟨_, _, h20⟩ := armWord_bits (v := len) (by omega)
  have hcode := bits_storedWord rowLenNext (s.reg Reg.BEAT_LEN_NEXT) (armWord len) 2 0 (by decide) (by decide)
  have hbad : s.valueChecks Reg.BEAT_LEN_NEXT (storedWord rowLenNext (s.reg Reg.BEAT_LEN_NEXT) (armWord len)).toNat =
      [{ mask := 2 ^ 32 - 1, err := 1 }] := by
    rw [valueChecks_lenNext, hcode, h20 (by omega), decide_eq_true (by omega)]
    rfl
  rw [regWrite_checked _ h find_lenNext (by decide) rfl (by decide) (by decide) rfl (by decide) rfl _ hbad (by simp)]
  rfl

theorem rejectAt_lenNext (s : State) : s.rejectAt Reg.BEAT_LEN_NEXT 1 = s.beatReject 1 := rfl

theorem State.get_of_word {u : State} {f : Fld} {o : Nat} {w : Word} (h : u.reg o = w) (hf : f.off = o) :
    u.get f = bits w.toNat f.hi f.lo := by
  subst hf h
  rfl

/-- What arming shows. -/
structure Armed (s u : State) (off : Nat) (w : Word) (shown : Fld) (sampled : Bool) : Prop where
  word : u.reg off = w
  armed : u.get shown = b2n sampled
  dirty : u.get Fld.NVM_STATUS_CFG_DIRTY = 1
  status : ∀ f : Fld, f.off = Reg.BEAT_STATUS → f.hi < shown.lo → u.get f = s.get f
  regs : s.keepsRegs u [off, Reg.BEAT_STATUS, Reg.NVM_STATUS]
  keeps : s.keeps u []

theorem armed_armStored (s : State) {off : Nat} (w : Word) {shown : Fld} (sampled : Bool) (hoff : off < 0x20000)
    (ho : off ≠ Reg.BEAT_STATUS) (hs : shown.off = Reg.BEAT_STATUS) (hh : shown.hi = shown.lo) (h32 : shown.hi < 32) :
    Armed s (s.armStored off w shown sampled) off w shown sampled := by
  have hn : off ≠ Reg.NVM_STATUS := by simp only [Reg.NVM_STATUS]; omega
  have hsn : shown.off ≠ Reg.NVM_STATUS := by rw [hs]; decide
  have hfit : b2n sampled < 2 ^ (shown.hi + 1 - shown.lo) := by
    have e : shown.hi + 1 - shown.lo = 1 := by omega
    rw [e]
    cases sampled <;> decide
  have h0 : s.keepsRegs (s.setReg off w) [off, Reg.BEAT_STATUS, Reg.NVM_STATUS] := fun o h =>
    State.reg_setReg_ne _ _ fun e => h (by simp [e])
  unfold State.armStored
  refine ⟨?_, State.get_put_fit _ _ _ h32 (by omega) hfit, ?_, fun f hf hlt => ?_, ?_, ?_⟩
  · rw [State.reg_put _ _ _ _ (by rw [hs]; exact ho), State.reg_put _ _ _ _ hn, State.reg_setReg_self]
  · rw [State.get_put_reg _ _ _ _ (by rw [hs]; decide), State.get_put_fit _ _ _ (by decide) (by decide) (by decide)]
  · rw [State.get_put_field _ shown f _ (hf.trans hs.symm) h32 (by omega) (.inr hlt), State.get_put_reg _ _ _ _ (by rw [hf]; decide)]
    exact State.get_of_reg (State.reg_setReg_ne _ _ (by rw [hf]; exact ho.symm))
  · exact (h0.put Fld.NVM_STATUS_CFG_DIRTY _ (by simp [Fld.NVM_STATUS_CFG_DIRTY])).put shown _ (by simp [hs])
  · exact (State.keeps.put (State.keeps_setReg s _ _) _ _).put _ _

/-- What a taken write of an association word leaves. -/
structure WordWritten (s u : State) (off l chan sa k : Nat) (salt : Bool) (v : Word) : Prop where
  reg : u.reg off = v
  live : u.liveReg off = v
  keeps : s.keeps u [.live, .eth]
  first : k = 0 → salt = false → u.get (saValid l chan sa) = 0 ∧ u.cur (saValid l chan sa) = 0 ∧
    s.keepsRegs u [off, (saValid l chan sa).off] ∧
    u.eth = if chan = 0 then { s.eth with told := s.eth.told.filter fun (x : Nat) => x != 4 * l + sa } else s.eth
  later : k ≠ 0 ∨ salt = true → s.keepsRegs u [off] ∧ u.eth = s.eth

theorem wordWritten_saWord {s : State} {a : Access} {l chan sa k : Nat} {salt : Bool} (h : s.takes a) (hl : l < 4)
    (hc : chan < 9) (ha : sa < 4) (hk : k < 8) (hs : salt = false ∨ k < 3) (v : Word) :
    WordWritten s (s.regWrite a (saWord l chan sa k salt) v) (saWord l chan sa k salt) l chan sa k salt v := by
  rw [regWrite_saWord h hl hc ha hk hs, saBegins_saWord _ hl hc ha hk hs]
  have hne := saValid_off_ne (l := l) (chan := chan) (sa := sa) hk hs
  generalize saWord l chan sa k salt = off at *
  have hr : s.keepsRegs (s.wordStored off v) [off] := fun o ho => State.reg_setReg_ne _ _ (by simpa using ho)
  have hkeeps : s.keeps (s.wordStored off v) [.live, .eth] :=
    State.keeps_back (State.keeps_mono (State.keeps_setReg s off v) (by simp)) (State.keeps_setLive _ off v) (by decide)
  have hreg : (s.wordStored off v).reg off = v := State.reg_setReg_self ..
  have hlive : (s.wordStored off v).liveReg off = v := (State.liveReg_setLive ..).trans (if_pos rfl)
  have heth : (s.wordStored off v).eth = s.eth := rfl
  generalize s.wordStored off v = x at *
  by_cases hf : k = 0 ∧ salt = false
  · rw [if_pos hf, Option.getD_some]
    have hx : x.keepsRegs (x.saFresh l chan sa) [(saValid l chan sa).off] :=
      keepsRegs_saFresh (State.keepsRegs_mono (State.keepsRegs_refl x) (by simp)) _ _ _ (by simp)
    obtain ⟨hget, hcur⟩ := valid_saFresh x l chan sa
    refine ⟨(hx _ (by simpa using hne)).trans hreg, (liveReg_saFresh x l chan sa hne).trans hlive,
      keeps_saFresh hkeeps _ _ _ (by decide) (by decide), fun _ _ => ⟨hget, hcur, ?_, ?_⟩, fun hn => ?_⟩
    · exact keepsRegs_saFresh (State.keepsRegs_mono hr (by simp)) _ _ _ (by simp)
    · rw [eth_saFresh, heth]
    · exact (hn.elim (fun h => h hf.1) fun h => Bool.noConfusion (hf.2.symm.trans h)).elim
  · rw [if_neg hf, Option.getD_none]
    exact ⟨hreg, hlive, hkeeps, fun h0 h1 => absurd ⟨h0, h1⟩ hf, fun _ => ⟨hr, heth⟩⟩

/-- Settles O23: an allowed arm is stored (`armed_armStored`), a length the map does not know is refused
(`regWrite_lenArm_refused`), and a word of an association is stored in force (`wordWritten_saWord`). -/
theorem armedValuesAndKeyWordsAreStored : Obligations.ArmedValuesAndKeyWordsAreStored := by
  intro a t s h
  have hat : (s.at t).takes a := State.takes_at h t
  obtain ⟨hup, _, _, _, hok, _⟩ := id h
  refine ⟨fun len hlen => ?_, fun len h5 h7 => ?_, fun share hshare => ?_, fun l chan sa k salt v hl hc ha hk hs => ?_⟩
  · refine answers_effect (m := "BEAT_LEN_ARM") hup (decide_eq_true ⟨hok, by omega⟩) ?_
    have hx := regWrite_lenArm hat hlen
    obtain ⟨hword, harm, hdirty, hstatus, hregs, hkeeps⟩ := armed_armStored (s.at t)
      (storedWord rowLenNext ((s.at t).reg Reg.BEAT_LEN_NEXT) (armWord len)) (shown := Fld.BEAT_STATUS_LEN_ARMED)
      (s.at t).beat.lenSampled (off := Reg.BEAT_LEN_NEXT) (by decide) (by decide) rfl rfl (by decide)
    rw [← hx] at hword harm hdirty hstatus hregs hkeeps
    obtain ⟨h31, _, h20⟩ := armWord_bits (v := len) (by omega)
    exact ⟨(State.get_of_word hword rfl).trans ((bits_storedWord _ _ _ 2 0 (by decide) (by decide)).trans (h20 (by omega))),
      (State.get_of_word hword rfl).trans ((bits_storedWord _ _ _ 31 31 (by decide) (by decide)).trans h31), harm, hdirty,
      hstatus _ rfl (by decide), (State.keepsRegs_withQueue ..).2 hregs,
      (State.keeps_withQueue ..).2 ((State.keeps_from_at ..).1 hkeeps)⟩
  · refine answers_effect (m := "BEAT_LEN_ARM") hup (decide_eq_true ⟨hok, by omega⟩) ?_
    have hx := (regWrite_lenArm_refused hat h5 h7).trans (rejectAt_lenNext _)
    have hr : s.keepsRegs ((s.at t).beatReject 1) (Reg.BEAT_CFG_ERR :: dropCounters) :=
      keepsRegs_beatReject (.at s t _) 1 (by decide) (by decide)
    have hk : s.keeps ((s.at t).beatReject 1) eventParts := keeps_beatReject (.at s t _) 1 (by decide)
    have hreg : ((s.at t).beatReject 1).reg Reg.BEAT_CFG_ERR = s.reg Reg.BEAT_CFG_ERR ||| 1#32 := reg_beatReject (s.at t) 1
    have htold := told_beatReject (s.at t) 1
    rw [← hx] at hr hk hreg htold
    exact ⟨hreg, htold, (State.keepsRegs_withQueue ..).2 hr, (State.keeps_withQueue ..).2 hk⟩
  · refine answers_effect (m := "BEAT_SLOT_ARM") hup (decide_eq_true ⟨hok, by omega⟩) ?_
    have hx := regWrite_slotArm hat hshare
    obtain ⟨hword, harm, hdirty, _, hregs, hkeeps⟩ := armed_armStored (s.at t)
      (storedWord rowSlotNext2 ((s.at t).reg Reg.BEAT_SLOT_NEXT2) (armWord share)) (shown := Fld.BEAT_STATUS_SLOT_ARMED)
      (s.at t).beat.shareSampled (off := Reg.BEAT_SLOT_NEXT2) (by decide) (by decide) rfl rfl (by decide)
    rw [← hx] at hword harm hdirty hregs hkeeps
    obtain ⟨h31, h90, _⟩ := armWord_bits (v := share) hshare
    exact ⟨(State.get_of_word hword rfl).trans ((bits_storedWord _ _ _ 9 0 (by decide) (by decide)).trans h90),
      (State.get_of_word hword rfl).trans ((bits_storedWord _ _ _ 31 31 (by decide) (by decide)).trans h31), harm, hdirty,
      (State.keepsRegs_withQueue ..).2 hregs, (State.keeps_withQueue ..).2 ((State.keeps_from_at ..).1 hkeeps)⟩
  · refine answers_effect (m := "LSEC_KEY_WRITE") hup (decide_eq_true ⟨hok, hl, hc, ha, hk, hs⟩) ?_
    obtain ⟨hreg, hlive, hkeeps, hfirst, hlater⟩ := wordWritten_saWord hat hl hc ha hk hs v
    exact ⟨hreg, hlive, (State.keeps_withQueue ..).2 ((State.keeps_from_at ..).1 hkeeps), hfirst, hlater⟩

/-- A vector far beyond the 64 of the table: its PBA bit falls on bit 16 of the view of port 0's word. -/
def strayVector : Nat := (Reg.MGT_PORTn 0 - Reg.MSIX_PBA 0) / 4 * 32 + 16

/-- A beat in progress with the host reached, nothing to write back, and the stray vector held as unmasked. -/
def strayed : State :=
  let s := { State.reset with
    glb := { State.reset.glb with phase := .running },
    beat := { State.reset.beat with started := true, start := 1000000000, next := 1000250000 } }
  let s := (((s.put Fld.BEAT_STATUS_SLOT_CUR 2).put Fld.HIF_STATUS_RUNNING 1).put Fld.HIF_STATUS_LINK_UP 1).put
    (Fld.PWR_Dd_STAT_STATE 18) 0
  { s with hif := { s.hif with linkReady := true, pbaVecs := [strayVector] } }

/-- The view of port 0's word after a writeback. -/
def viewed (o : Host.Outcome State Fault Refusal) : Word :=
  match o with
  | .next u => u.reg (viewOffset 4096)
  | _ => 0

theorem viewed_strayed : viewed (exec (.writebackSlot 0 [] [] [] 1000225000) strayed) = 0#32 := by decide +kernel

/-- What the statement asks of the state, and the code and the epoch that its view should show. -/
theorem strayed_meets : strayed.up = true ∧ (strayed.at 1000225000).slotOpen 4 = true ∧ strayed.get Fld.BEAT_STATUS_SLOT_CUR < 4 ∧
    strayed.get Fld.BEAT_STATUS_SLOT_CUR ≠ 3 ∧ strayed.glb.phase = .running ∧ strayed.hostUp = true ∧
    strayed.hif.linkReady = true ∧ strayed.get Fld.HIF_STATUS_RUNNING = 1 ∧ strayed.nestPowered = false ∧
    strayed.updState ≠ 5 ∧ strayed.mgt.snapDue = false ∧ strayed.mgt.snapHeld = [] ∧ (∀ m < 64, strayed.rxState m = 0) ∧
    strayed.hif.finals = [] ∧ 4096 ∈ registryUnits ∧ strayed.mgt.bad = [] ∧ (strayed.word 4096).code = 0 ∧
    (strayed.word 4096).epoch = 1 := by and_intros <;> decide +kernel

/-- Refutes O42: the messages of a writeback go out after the view is latched, and a message clears its vector's PBA bit. The
statement speaks of every state, so of one that holds a vector beyond the table among those just unmasked: the bit that its
message clears is the epoch's lowest bit in the view of port 0. No command leads there (MSIX_UNMASK and the writes of the
vector table hold only vectors of the table); where every vector lies in the table, the page of PBA bits and the view are
apart. -/
theorem not_theWritebackShowsTheUnitAndServesTheHost : ¬ Obligations.TheWritebackShowsTheUnitAndServesTheHost := by
  intro h
  obtain ⟨hup, hopen, hcur, hnot3, hrun, hhost, hlink, hrunning, hnest, hupd, hdue, hheld, hrx, hfinals, hunit, hbad, hcode,
    hepoch⟩ := strayed_meets
  obtain ⟨_, hslot⟩ := h 0 1000225000 strayed hup
  obtain ⟨_, hserve⟩ := hslot hopen hcur (.inl hnot3)
  obtain ⟨hidle, _⟩ := hserve hrun hhost hlink hrunning hnest hupd hdue hheld hrx
  obtain ⟨u, hu, ⟨_, _, hview⟩, _, _⟩ := hidle hfinals
  have hshown : u.reg (viewOffset 4096) = 0#32 := by
    have hv := viewed_strayed
    rw [hu] at hv
    exact hv
  have hword := hview 4096 hunit (by rw [hepoch]; decide) (by rw [hcode]; decide)
  rw [hshown, hbad, hcode, hepoch] at hword
  exact absurd hword (by decide)

/-! ### What the fabric leaves of the beat and of the time

Beacons that are dropped and queued again, and queues that are reset, move frames. The beat, the time, its registers and the
events already raised stay; where only frames are dropped, so do the claim and the states of the CAN ports. -/

/-- Is a register none of those that show the claim and the states of the CAN ports? -/
def offApart (o : Nat) : Prop := o ≠ Reg.HAL_STATUS ∧ ∀ n < 48, o ≠ Reg.CANP_STATUS n

/-- Does a field lie apart from the claim and from the states of the CAN ports? -/
def Fld.apart (f : Fld) : Prop := (16 ≤ f.lo ∧ f.lo ≤ f.hi ∧ f.hi < 32) ∨ offApart f.off

/-- The claim and the states of the CAN ports read the same. -/
structure State.samePorts (s u : State) : Prop where
  claimed : u.get Fld.HAL_STATUS_CLAIMED = s.get Fld.HAL_STATUS_CLAIMED
  canState : ∀ n < 48, u.get (Fld.CANP_STATUS_STATE n) = s.get (Fld.CANP_STATUS_STATE n)

/-- What work on frames leaves; `ports`: the claim and the states of the CAN ports too. -/
structure Calm (ports : Bool) (s u : State) : Prop where
  beat : u.beat = s.beat
  time : { u.time with beacons := [] } = { s.time with beacons := [] }
  live : u.live = s.live
  raised : s.ev.raised <+: u.ev.raised
  reg : ∀ o, o < 0x30000 → u.reg o = s.reg o
  same : ports = true → s.samePorts u

theorem Calm.refl (b : Bool) (s : State) : Calm b s s :=
  ⟨rfl, rfl, rfl, List.prefix_rfl, fun _ _ => rfl, fun _ => ⟨rfl, fun _ _ => rfl⟩⟩

section
variable {b : Bool} {s x y : State}

theorem Calm.trans (h : Calm b s x) (g : Calm b x y) : Calm b s y := by
  obtain ⟨hb, ht, hl, he, hr, hp⟩ := h
  obtain ⟨gb, gt, gl, ge, gr, gp⟩ := g
  exact ⟨gb.trans hb, gt.trans ht, gl.trans hl, he.trans ge, fun o ho => (gr o ho).trans (hr o ho), fun hw =>
    ⟨(gp hw).claimed.trans (hp hw).claimed, fun n hn => ((gp hw).canState n hn).trans ((hp hw).canState n hn)⟩⟩

/-- Other parts may change. -/
theorem Calm.same_parts (h : Calm b s x) (hb : y.beat = x.beat) (ht : y.time = x.time) (hl : y.live = x.live)
    (he : y.ev.raised = x.ev.raised) (hr : y.regs = x.regs) : Calm b s y :=
  h.trans ⟨hb, by rw [ht], hl, by rw [he], fun o _ => State.reg_of_regs hr o, fun _ =>
    ⟨State.get_of_regs hr _, fun _ _ => State.get_of_regs hr _⟩⟩

/-- Registers above those of the time may change, apart from the claim and the ports' states. -/
theorem Calm.regs (h : Calm b s x) (hb : y.beat = x.beat) (ht : y.time = x.time) (hl : y.live = x.live)
    (he : y.ev.raised = x.ev.raised) {l : List Nat} (hr : x.keepsRegs y l) (hlow : ∀ o ∈ l, 0x30000 ≤ o)
    (hp : b = true → ∀ o ∈ l, offApart o) : Calm b s y :=
  h.trans ⟨hb, by rw [ht], hl, by rw [he], fun o ho => hr o fun hm => absurd (hlow o hm) (by omega), fun hw =>
    ⟨hr.get fun hm => (hp hw _ hm).1 rfl, fun n hn => hr.get fun hm => (hp hw _ hm).2 n hn rfl⟩⟩

theorem Calm.put (h : Calm b s x) (f : Fld) (v : Nat) (hf : 0x30000 ≤ f.off) (ha : b = true → f.apart) : Calm b s (x.put f v) := by
  have hget : ∀ g : Fld, g.hi < 16 → f.apart → (g.off = Reg.HAL_STATUS ∨ ∃ n < 48, g.off = Reg.CANP_STATUS n) →
      (x.put f v).get g = x.get g := by
    intro g hg hap hoff
    by_cases he : g.off = f.off
    · rcases hap with ⟨hlo, hle, hhi⟩ | ⟨hh, hc⟩
      · exact State.get_put_field _ _ _ _ he hhi hle (.inr (by omega))
      · rcases hoff with h | ⟨n, hn, h⟩
        · exact absurd (he.symm.trans h) hh
        · exact absurd (he.symm.trans h) (hc n hn)
    · exact State.get_put_reg _ _ _ _ he
  exact h.trans ⟨State.put_beat .., by rw [State.put_time], State.put_live .., by rw [State.put_ev],
    fun o ho => State.reg_put _ _ _ _ (by omega), fun hw =>
    ⟨hget _ (by decide) (ha hw) (.inl rfl), fun n hn => hget _ (by simp [Fld.CANP_STATUS_STATE]) (ha hw) (.inr ⟨n, hn, rfl⟩)⟩⟩

theorem Calm.foldl {α : Type} {g : State → α → State} {l : List α} (hg : ∀ a ∈ l, ∀ z, Calm b s z → Calm b s (g z a))
    (h : Calm b s x) : Calm b s (l.foldl g x) := by
  induction l generalizing x with
  | nil => exact h
  | cons a l ih => exact ih (fun c hc => hg c (.tail _ hc)) (hg a (.head _) x h)

theorem Calm.ite {c : Prop} [Decidable c] (h : Calm b s x) (g : Calm b s y) : Calm b s (if c then x else y) := by
  split <;> assumption

theorem Calm.count (h : Calm b s x) (o n : Nat) (ho : 0x30000 ≤ o) (hp : b = true → offApart o ∧ offApart (o + 4)) :
    Calm b s (x.count o n) :=
  h.regs (State.count_beat ..) (State.count_time ..) (State.count_live ..) (by rw [State.count_ev]) (State.keepsRegs_count x o n)
    (by simp only [pair64, List.mem_cons, List.not_mem_nil, or_false]; omega)
    fun hw a ha => by
      simp only [pair64, List.mem_cons, List.not_mem_nil, or_false] at ha
      rcases ha with rfl | rfl
      exacts [(hp hw).1, (hp hw).2]

theorem Calm.setReg (h : Calm b s x) (o : Nat) (v : Word) (ho : 0x30000 ≤ o) (hp : b = true → offApart o) :
    Calm b s (x.setReg o v) :=
  h.regs rfl rfl rfl rfl (l := [o]) (fun a ha => State.reg_setReg_ne _ _ (by simpa using ha)) (by simpa using ho)
    fun hw => by simpa using hp hw

/-! Events. -/

theorem dropCounters_apart : ∀ o ∈ dropCounters, 0x30000 ≤ o ∧ offApart o := by
  unfold offApart
  decide

theorem Calm.raise (h : Calm b s x) (c u : Nat) (d : List Detail) : Calm b s (x.raise c u d) := by
  obtain ⟨l, hl⟩ := State.raised_raise x c u d
  exact h.trans ⟨State.raise_beat .., by rw [State.raise_time], State.raise_live .., by rw [hl]; exact List.prefix_append ..,
    fun o ho => State.reg_raise _ _ _ _ _ fun hm => absurd (dropCounters_apart o hm).1 (by omega), fun _ =>
    ⟨State.get_raise _ _ _ _ _ (by decide), fun n hn => State.get_raise _ _ _ _ _ fun hm =>
      (dropCounters_apart _ hm).2.2 n hn rfl⟩⟩

theorem Calm.spoke (h : Calm b s x) (key : Nat) : Calm b s (x.spoke key) :=
  h.same_parts (State.spoke_beat ..) (State.spoke_time ..) (State.spoke_live ..) rfl (State.spoke_regs ..)

theorem Calm.raiseOnce (h : Calm b s x) (k c u : Nat) (d : List Detail) : Calm b s (x.raiseOnce k c u d) := by
  unfold State.raiseOnce
  exact ((h.spoke k).raise c u d).ite h

theorem raised_log (s : State) (n : Nat) (d : Bytes) : s.ev.raised <+: (s.log n d).ev.raised := by
  unfold State.log State.lossCheck
  split
  · rw [State.raised_raiseWith]
    exact List.IsPrefix.trans (by rw [← State.buffer_ev]; exact List.prefix_rfl) (List.prefix_append _ _)
  · rw [State.buffer_ev]

theorem Calm.log (h : Calm b s x) (n : Nat) (d : Bytes) : Calm b s (x.log n d) :=
  h.trans ⟨State.log_beat .., by rw [State.log_time], State.log_live .., raised_log .., fun o ho => State.reg_log _ _ _ _ fun hm =>
    absurd (dropCounters_apart o hm).1 (by omega), fun _ =>
    ⟨State.get_of_reg (State.reg_log _ _ _ _ (by decide)), fun n hn => State.get_of_reg (State.reg_log _ _ _ _ fun hm =>
      (dropCounters_apart _ hm).2.2 n hn rfl)⟩⟩

end

/-! Frames and their outcomes. -/

section
variable {b : Bool} {s x y : State}

theorem Calm.fab (h : Calm b s x) (u : Fabric) : Calm b s { x with fab := u } := h.same_parts rfl rfl rfl rfl rfl
theorem Calm.hif (h : Calm b s x) (u : HostIf) : Calm b s { x with hif := u } := h.same_parts rfl rfl rfl rfl rfl
theorem Calm.hal (h : Calm b s x) (u : Hal) : Calm b s { x with hal := u } := h.same_parts rfl rfl rfl rfl rfl
theorem Calm.pwr (h : Calm b s x) (u : Pwr) : Calm b s { x with pwr := u } := h.same_parts rfl rfl rfl rfl rfl
theorem Calm.setFrame (h : Calm b s x) (fid : Nat) (f : Frame) : Calm b s (x.setFrame fid f) := h.fab _
theorem Calm.clearGap (h : Calm b s x) (fl : Nat) : Calm b s (x.clearGap fl) := h.fab _
theorem Calm.gap (h : Calm b s x) (fl : Nat) : Calm b s (x.gap fl) := h.fab _
theorem Calm.draw (h : Calm b s x) : Calm b s x.draw.2 := h.same_parts rfl rfl rfl rfl rfl
theorem Calm.setReef (h : Calm b s x) (n : Nat) (p : ReefPort) : Calm b s (x.setReef n p) := h.same_parts rfl rfl rfl rfl rfl
theorem Calm.halSend (h : Calm b s x) (t : Nat) (e : Bool) (p : Bytes) : Calm b s (x.halSend t e p) :=
  h.same_parts rfl rfl rfl rfl rfl

theorem Calm.fifosEmpty (h : Calm b s x) : Calm b s x.fifosEmpty := by
  unfold State.fifosEmpty
  split
  · exact h.same_parts rfl rfl rfl rfl rfl
  · exact h

theorem Calm.putFree (h : Calm b s x) (v : Nat) : Calm b s (x.put Fld.FAB_FREE_BLOCKS v) :=
  h.put _ _ (by decide) fun _ => .inr (by unfold offApart; decide)

theorem Calm.release (h : Calm b s x) (fid : Nat) : Calm b s (x.release fid) := by
  unfold State.release
  split
  · exact h
  · exact (h.putFree _).fifosEmpty.same_parts rfl rfl rfl rfl rfl

theorem Calm.lose (h : Calm b s x) (fid : Nat) : Calm b s (x.lose fid) := by
  unfold State.lose
  split
  · exact (h.setFrame _ _).gap _
  · exact h

theorem Calm.marker (h : Calm b s x) (f : Frame) (p st : Nat) : Calm b s (x.marker f p st) := by
  unfold State.marker
  exact (h.draw.halSend _ _ _).ite h

/-- A ring's count of what is outstanding stands in the upper half of its register. -/
theorem Calm.putOutstanding (h : Calm b s x) (ring v : Nat) : Calm b s (x.put (Fld.HIF_TXn_STAT_OUTSTANDING ring) v) :=
  h.put _ _ (by simp only [Fld.HIF_TXn_STAT_OUTSTANDING, Reg.HIF_TXn_STAT]; omega) fun _ => .inl (by
    simp [Fld.HIF_TXn_STAT_OUTSTANDING])

theorem Calm.hostFinal (h : Calm b s x) (t : HostTag) (st u et ef : Nat) (time : Tai) (flow : Option Nat) (r : Bool) :
    Calm b s (x.hostFinal t st u et ef time flow r) := by
  have hclear : ∀ z, Calm b s z → ∀ o : Option Nat, Calm b s (match o with | some fl => z.clearGap fl | none => z) :=
    fun z hz o => by
      cases o with
      | none => exact hz
      | some fl => exact hz.clearGap fl
  unfold State.hostFinal
  extract_lets r live gap c z _ w
  split
  · exact (hclear x h flow).hif _
  · have hw : Calm b s w := ((h.hif _).putOutstanding _ _).ite h
    split
    · exact hw
    · exact (hw.clearGap _).hif _

end

section
variable {b : Bool} {s x y : State}

theorem Calm.frameFinal (h : Calm b s x) (fid : Nat) (f : Frame) : Calm b s (x.frameFinal fid f) := by
  unfold State.frameFinal
  extract_lets own y fails _ z w
  have hy : Calm b s y := by
    unfold y
    split
    · exact h.clearGap _
    · exact h
  have hz : Calm b s z := by
    unfold z
    clear_value fails
    split
    · exact hy
    · dsimp only
      split
      · exact hy.draw.hostFinal _ _ _ _ _ _ _ _
      · exact hy.hostFinal _ _ _ _ _ _ _ _
  have hw : Calm b s w := by
    unfold w
    split
    · exact hz.gap _
    · exact hz
  exact hw.release _

theorem Calm.copyFinal (h : Calm b s x) (fid p st : Nat) (t : Tai) (l : Bool) : Calm b s (x.copyFinal fid p st t l) := by
  unfold State.copyFinal
  extract_lets y
  have hy : Calm b s y := by
    unfold y
    split
    · exact h.lose _
    · exact h
  split
  · exact hy
  · rename_i f _
    extract_lets m _ r g
    have hr : Calm b s r := by
      unfold r
      split
      · exact (hy.marker _ _ _).setReef _ _
      · exact hy.marker _ _ _
    split
    · exact hr.frameFinal _ _
    · exact hr.setFrame _ _

/-- The registers of the queues of a port lie among those of the fabric. -/
theorem Calm.putQueues (h : Calm b s x) {p : Nat} (hp : b = true → p < 77) (f : Fld) (v : Nat) (hf : f.off = Reg.FAB_QSTATp p) :
    Calm b s (x.put f v) :=
  h.put f v (by rw [hf]; simp only [Reg.FAB_QSTATp]; omega) fun hb => .inr (by
    have := hp hb
    unfold offApart
    rw [hf]
    simp only [Reg.FAB_QSTATp, Reg.HAL_STATUS, Reg.CANP_STATUS]
    exact ⟨by omega, fun n _ => by omega⟩)

theorem Calm.showQueues (h : Calm b s x) {p : Nat} (hp : b = true → p < 77) : Calm b s (x.showQueues p) := by
  unfold State.showQueues
  exact ((h.putQueues hp _ _ rfl).putQueues hp _ _ rfl).putQueues hp _ _ rfl

theorem Calm.setQueue (h : Calm b s x) {p : Nat} (hp : b = true → p < 77) (c : Nat) (q : List Copy) : Calm b s (x.setQueue p c q) :=
  (h.fab _).showQueues hp

theorem Calm.countPort (h : Calm b s x) (p : Nat) {k : Nat} (n : Nat) (hk : k < 15) (h8 : b = true → k = 8) :
    Calm b s (x.countPort p k n) :=
  h.count _ _ (by simp only [Reg.FAB_PCNTp_k]; omega) fun hb => by
    have := h8 hb
    unfold offApart
    simp only [Reg.FAB_PCNTp_k, Reg.HAL_STATUS, Reg.CANP_STATUS]
    exact ⟨⟨by omega, fun n _ => by omega⟩, by omega, fun n _ => by omega⟩

theorem Calm.dropCopy (h : Calm b s x) (c : Copy) {k : Nat} (st : Nat) (hk : k < 15) (h8 : b = true → k = 8) :
    Calm b s (x.dropCopy c k st) := (h.countPort _ _ hk h8).copyFinal _ _ _ _ _

theorem Calm.setSending (h : Calm b s x) {p : Nat} (hp : b = true → p < 77) (c : Option Copy) : Calm b s (x.setSending p c) :=
  (h.fab _).showQueues hp

theorem Calm.lastTry (h : Calm b s x) {p : Nat} (hp : b = true → p < 77) (c : Nat) : Calm b s (x.lastTry p c) := by
  unfold State.lastTry
  split
  · exact h
  · split
    · exact h.setSending hp _
    · exact h

theorem Calm.queueReset (h : Calm b s x) {p : Nat} (hp : b = true → p < 77) (c : Nat) : Calm b s (x.queueReset p c) := by
  unfold State.queueReset
  extract_lets q n y z w v u
  have hy : Calm b s y := h.lastTry hp c
  have hz : Calm b s z := by
    unfold z
    split
    · exact hy
    · split
      · exact hy
      · refine Calm.foldl (fun e he d hd => ?_) hy
        have h4 : e.1 < 4 := List.mem_range.1 (List.of_mem_zip (a := e.1) (b := e.2) he).1
        refine hd.setReg _ _ (by simp only [Reg.FAB_LAST_DISCARDk]; omega) fun _ => ?_
        unfold offApart
        simp only [Reg.FAB_LAST_DISCARDk, Reg.HAL_STATUS, Reg.CANP_STATUS]
        exact ⟨by omega, fun n _ => by omega⟩
  have hu : Calm b s v := Calm.foldl (fun e _ d hd => hd.dropCopy e 0x07 (by decide) fun _ => rfl) (hz.setQueue hp c [])
  exact (hu.count _ _ (by decide) fun _ => by unfold offApart; decide).raise _ _ _

theorem calm_resetQueues {bad : List (Nat × Nat)} (hb : ∀ e ∈ bad, e.1 < 77) : Calm b s (s.resetQueues bad) :=
  Calm.foldl (fun e he _ hz => hz.queueReset (fun _ => hb e he) e.2) (Calm.refl b s)

end

/-! Copies that are queued, held, diverted or refused. -/

section
variable {s x y : State}

theorem Calm.setDom (h : Calm false s x) (d : Nat) (v : Domain) : Calm false s (x.setDom d v) :=
  (h.pwr _).put _ _ (by simp only [Fld.PWR_Dd_STAT_HELD, Reg.PWR_Dd_STAT]; omega) nofun

theorem Calm.withdraw (h : Calm false s x) (fid : Nat) : Calm false s (x.withdraw fid).2 := by
  unfold State.withdraw
  exact Calm.foldl (fun _ _ _ hz => hz.showQueues nofun) (Calm.foldl (fun _ _ _ hz => hz.setDom _ _) ((h.fab _).hal _))

theorem Calm.dropBeacon (h : Calm false s x) (n : Nat) : Calm false s (x.dropBeacon n) :=
  Calm.foldl (fun _ _ _ hz => (hz.withdraw _).release _) h

theorem Calm.countPlca (h : Calm false s x) (p : Nat) :
    Calm false s (x.count (if p < 56 then Reg.T1S_Ss_CNTk (p - 48) 9 else Reg.ETH_Pq_CNTk (p - 56) 10)) :=
  h.count _ _ (by split <;> simp only [Reg.T1S_Ss_CNTk, Reg.ETH_Pq_CNTk] <;> omega) nofun

theorem Calm.dropHeads (p k : Nat) (h : Calm false s x) : Calm false s (State.dropHeads p k x) := by
  induction k generalizing x with
  | zero => exact h
  | succ k ih =>
    unfold State.dropHeads
    split
    · exact h
    · have hq := fun c q => (h.setQueue (p := p) nofun c q).countPlca p
      exact ih (((hq _ _).dropCopy (k := 10) _ _ (by decide) nofun).ite ((hq _ _).dropCopy (k := 11) _ _ (by decide) nofun))

theorem Calm.linkDrops (h : Calm false s x) (p : Nat) : Calm false s (x.linkDrops p) := by
  unfold State.linkDrops
  split
  · exact h.dropHeads _ _
  · exact h

theorem Calm.message (h : Calm false s x) (u c : Nat) (l : Bool) : Calm false s (x.message u c l) := by
  unfold State.message
  split
  · exact h.count _ _ (by decide) nofun
  · extract_lets w e y _ z
    have hz : Calm false s z := h.same_parts rfl rfl rfl rfl rfl
    exact hz.log _ _

theorem Calm.setDomain (h : Calm false s x) (d st r : Nat) : Calm false s (x.setDomain d st r) :=
  ((h.put _ _ (by simp only [Fld.PWR_Dd_STAT_STATE, Reg.PWR_Dd_STAT]; omega) nofun).put _ _
    (by simp only [Fld.PWR_Dd_STAT_REASON, Reg.PWR_Dd_STAT]; omega) nofun).message _ _ _

theorem Calm.refuseCopy (h : Calm false s x) (c : Copy) : Calm false s (x.refuseCopy c) :=
  (h.count _ _ (by simp only [Reg.CANP_CNTk]; omega) nofun).dropCopy _ _ (by decide) nofun

theorem Calm.alloc (h : Calm false s x) (f : Frame) : Calm false s (x.alloc f).2 := (h.putFree _).fab _

theorem Calm.enqueue (h : Calm false s x) (c : Copy) (k : Nat) : Calm false s (x.enqueue c k) := h.setQueue nofun _ _

theorem Calm.reefWake (h : Calm false s x) (n r : Nat) : Calm false s (x.reefWake n r) := by
  have hput : ∀ {z : State}, Calm false s z → ∀ (f : Fld) (v : Nat), f.off = Reg.REEF_PORTn_STAT n → Calm false s (z.put f v) :=
    fun hz f v hf => hz.put f v (by rw [hf]; simp only [Reg.REEF_PORTn_STAT]; omega) nofun
  unfold State.reefWake
  split
  · exact Calm.setReef ((hput (hput (hput h _ _ rfl) _ _ rfl) _ _ rfl).count _ _ (by simp only [Reg.REEF_CNTn_k]; omega) nofun) _ _
  · exact h

theorem Calm.place (h : Calm false s x) (c : Copy) (f : Frame) (l : Bool) : Calm false s (x.place c f l) := by
  have hq := (h.enqueue c f.cls).linkDrops c.port
  unfold State.place
  extract_lets cls q z
  split
  · exact h.refuseCopy _
  · split
    · exact (h.dropCopy _ _ (by decide) nofun).raiseOnce _ _ _ _
    · split
      · exact (h.dropCopy _ _ (by decide) nofun).raiseOnce _ _ _ _
      · split
        · exact hq.reefWake _ _
        · exact hq

theorem Calm.dropDomain (h : Calm false s x) (c : Copy) : Calm false s (x.dropDomain c) := by
  unfold State.dropDomain
  refine Calm.dropCopy ?_ _ _ (by decide) nofun
  split
  · exact h.countPlca _
  · exact h

theorem Calm.giveBack (h : Calm false s x) (c : Copy) : Calm false s (x.giveBack c) := by
  unfold State.giveBack
  split
  · exact h
  · exact h.place _ _ _

theorem Calm.domainBack (h : Calm false s x) (d r : Nat) : Calm false s (x.domainBack d r) :=
  (Calm.foldl (fun _ _ _ hz => hz.giveBack _) ((h.setDomain d 2 r).setDom _ _)).raise _ _ _

theorem Calm.wakeOne (h : Calm false s x) (d r : Nat) : Calm false s (x.wakeOne d r) := by
  unfold State.wakeOne
  dsimp only
  split
  · exact h.domainBack _ _
  · split
    · exact h.setDom _ _
    · exact h

theorem Calm.requestWake (h : Calm false s x) (d r : Nat) : Calm false s (x.requestWake d r) :=
  (Calm.foldl (fun _ _ _ hz => hz.wakeOne _ _) h).wakeOne _ _

theorem Calm.divert (h : Calm false s x) (c : Copy) (k : Nat) : Calm false s (x.divert c k) := by
  unfold State.divert
  dsimp only
  split
  · split
    · exact (h.setDom _ _).requestWake _ _
    · exact (h.dropDomain _).raiseOnce _ _ _ _
  · exact h.dropDomain _

theorem Calm.countHal (h : Calm false s x) (k : Nat) : Calm false s (x.count (Reg.HAL_CNTk k)) :=
  h.count _ _ (by simp only [Reg.HAL_CNTk]; omega) nofun

theorem Calm.replayHold (h : Calm false s x) (c : Copy) (t : Tai) : Calm false s (x.replayHold c t) := by
  unfold State.replayHold
  extract_lets held _ z
  have hz : Calm false s z := by
    unfold z
    clear_value held
    split
    · split
      · exact h
      · exact (((h.hal _).countHal 11).copyFinal _ _ _ _ _).raiseOnce _ _ _ _
    · exact h
  exact hz.hal _

theorem Calm.offer (h : Calm false s x) (c : Copy) (f : Frame) : Calm false s (x.offer c f) := by
  unfold State.offer
  dsimp only
  split
  · exact h.copyFinal _ _ _ _ _
  · split
    · exact h.refuseCopy _
    · split
      · split
        · exact h.replayHold _ _
        · exact (h.countHal 7).copyFinal _ _ _ _ _
      · split
        · exact h.divert _ _
        · exact h.place _ _ _

theorem Calm.setBeacon (h : Calm false s x) (n : Nat) (v : Beacon) : Calm false s (x.setBeacon n v) :=
  h.trans ⟨rfl, rfl, rfl, List.prefix_rfl, fun _ _ => rfl, nofun⟩

theorem Calm.beaconDue (h : Calm false s x) (n : Nat) : Calm false s (x.beaconDue n) := by
  unfold State.beaconDue
  split
  · have ho := fun c f => (((h.dropBeacon n).alloc (deviceFrame .beacon n 7 (x.dropBeacon n).beaconWire)).setBeacon n
      { ((x.dropBeacon n).alloc (deviceFrame .beacon n 7 (x.dropBeacon n).beaconWire)).2.beaconOf n with due := true }).offer c f
    dsimp only
    split
    · exact ho _ _
    · exact (ho _ _).fab _
  · exact h

theorem calm_beaconsReplaced (s : State) : Calm false s s.beaconsReplaced := by
  refine Calm.foldl (fun n _ z hz => ?_) (Calm.refl _ s)
  split
  · exact (hz.dropBeacon n).beaconDue n
  · exact hz

end

/-! ### Judging a time step (R57) -/

theorem stepRefusal_le (s : State) (m : Nat) (v : Int) : s.stepRefusal m v < 8 := by
  unfold State.stepRefusal
  repeat' split
  all_goals decide

/-- The registers that show a judgement. -/
def judgedRegs : List Nat := Reg.TIME_STEP_STATUS :: Reg.TIME_STATUS :: dropCounters

theorem keepsRegs_evaluateStep {s x : State} {l : List Nat} (h : s.keepsRegs x l) (m : Nat) (hl : ∀ o ∈ judgedRegs, o ∈ l) :
    s.keepsRegs (x.evaluateStep m) l := by
  have hput := fun v => h.put Fld.TIME_STEP_STATUS_RESULT v (hl _ (by decide))
  rw [evaluateStep_eq]
  split
  · exact ((hput 1).same rfl).put Fld.TIME_STATUS_STEP_PENDING 1 (hl _ (by decide))
  · exact (hput _).raise _ _ _ fun o ho => hl o (by simp [judgedRegs, ho])

theorem keeps_evaluateStep {s x : State} {l : List Part} (h : s.keeps x l) (m : Nat) (ht : Part.time ∈ l)
    (hl : ∀ p ∈ eventParts, p ∈ l) : s.keeps (x.evaluateStep m) l := by
  rw [evaluateStep_eq]
  split
  · unfold State.pendStep
    exact State.keeps.put (State.keeps_time _ (h.put _ _) ht) _ _
  · exact (h.put _ _).raise _ _ _ hl

/-- A step that nothing refuses is pending. -/
theorem evaluateStep_taken {s : State} {m : Nat} (h : s.stepRefusal m (s.stepValue m) = 0) :
    (s.evaluateStep m).get Fld.TIME_STEP_STATUS_RESULT = 1 ∧ (s.evaluateStep m).time.step = some (s.stepValue m) ∧
      (s.evaluateStep m).get Fld.TIME_STATUS_STEP_PENDING = 1 := by
  rw [evaluateStep_eq, if_pos h]
  generalize s.stepValue m = v
  unfold State.pendStep
  refine ⟨?_, ?_, State.get_put_fit _ _ _ (by decide) (by decide) (by decide)⟩
  · rw [State.get_put_reg _ _ _ _ (by decide)]
    exact (State.get_of_regs (by rfl) _).trans (State.get_put_fit s _ _ (by decide) (by decide) (by decide))
  · rw [State.put_time]
    rfl

/-- A refused step shows its case and tells it. -/
theorem evaluateStep_refused {s : State} {m : Nat} (h : s.stepRefusal m (s.stepValue m) ≠ 0) :
    (s.evaluateStep m).get Fld.TIME_STEP_STATUS_RESULT = s.stepRefusal m (s.stepValue m) ∧
      (s.evaluateStep m).time.step = s.time.step ∧
      (s.evaluateStep m).told 0x0305 0 [n4 (s.stepRefusal m (s.stepValue m))] := by
  rw [evaluateStep_eq, if_neg h]
  refine ⟨?_, ?_, State.told_raise ..⟩
  · rw [State.get_raise _ _ _ _ _ (by decide), State.get_put_fit _ _ _ (by decide) (by decide) (stepRefusal_le _ _ _)]
  · rw [State.raise_time, State.put_time]

/-- The state without the requests of time steps. -/
def State.withoutSteps (s : State) : State := { s with cmds := s.cmds.filter RegCmd.noStep }

/-- The modes of the steps that are asked for. -/
def State.stepModes (s : State) : List Nat := s.cmds.filterMap fun (c : RegCmd) => match c with
  | .step m => some m
  | _ => none

theorem evaluateSteps_one {s : State} {m : Nat} (h : s.stepModes = [m]) : s.evaluateSteps = s.withoutSteps.evaluateStep m := by
  change s.stepModes.foldl (fun (s : State) m => s.evaluateStep m) s.withoutSteps = _
  rw [h]
  rfl

theorem stepRefusal_withoutSteps (s : State) (m : Nat) :
    s.withoutSteps.stepRefusal m (s.withoutSteps.stepValue m) = s.stepRefusal m (s.stepValue m) := rfl

/-- What judging the one step that is asked for shows. -/
structure StepJudged (s u : State) (v : Int) (code : Nat) : Prop where
  gone : ∀ m, RegCmd.step m ∉ u.cmds
  others : ∀ c ∈ s.cmds, (∀ m, c ≠ .step m) → c ∈ u.cmds
  result : u.get Fld.TIME_STEP_STATUS_RESULT = if code = 0 then 1 else code
  taken : code = 0 → u.time.step = some v ∧ u.get Fld.TIME_STATUS_STEP_PENDING = 1
  refused : code ≠ 0 → u.time.step = s.time.step ∧ u.told 0x0305 0 [n4 code]
  regs : s.keepsRegs u judgedRegs
  keeps : s.keeps u (.cmds :: .time :: eventParts)

theorem stepJudged_evaluateSteps {s : State} {m : Nat} (h : s.stepModes = [m]) :
    StepJudged s s.evaluateSteps (s.stepValue m) (s.stepRefusal m (s.stepValue m)) := by
  have hcmds := cmds_evaluateSteps s
  have hx := evaluateSteps_one h
  have hk : s.keeps s.withoutSteps (.cmds :: .time :: eventParts) :=
    State.keeps_cmds _ (State.keeps_mono (State.keeps_refl s) (by simp)) (by decide)
  have hr : s.keepsRegs s.withoutSteps judgedRegs := fun _ _ => rfl
  have hcode := stepRefusal_withoutSteps s m
  refine ⟨fun k hk => ?_, fun c hc hn => ?_, ?_, fun h0 => ?_, fun h0 => ?_, ?_, ?_⟩
  · rw [hcmds] at hk
    exact absurd (List.mem_filter.1 hk).2 (by simp [RegCmd.noStep])
  · rw [hcmds]
    refine List.mem_filter.2 ⟨hc, ?_⟩
    unfold RegCmd.noStep
    split
    · exact absurd rfl (hn _)
    · rfl
  · rw [hx]
    by_cases h0 : s.stepRefusal m (s.stepValue m) = 0
    · rw [if_pos h0]
      exact (evaluateStep_taken (hcode.trans h0)).1
    · rw [if_neg h0]
      exact (evaluateStep_refused (fun e => h0 (hcode.symm.trans e))).1
  · rw [hx]
    exact (evaluateStep_taken (hcode.trans h0)).2
  · rw [hx]
    exact (evaluateStep_refused (fun e => h0 (hcode.symm.trans e))).2
  · rw [hx]
    exact keepsRegs_evaluateStep hr m (fun _ h => h)
  · rw [hx]
    exact keeps_evaluateStep hk m (by decide) (by decide)

/-! ### Applying a time step (R58) -/

/-- The time, and every instant that is remembered, moves. -/
def State.timeMoved (s : State) (new : Tai) (v : Int) : State :=
  (({ s with time := s.time.step_ new v } : State).marksMove v).dropMeasurements

/-- The registers show the step. -/
def State.stepShown (s : State) (last : Int) : State :=
  ((s.put Fld.TIME_STATUS_STEP_PENDING 0).setReg64 Reg.TIME_LAST_STEP (ofInt 8 last)).showServo

/-- A step of the host is answered. -/
def State.stepAnswered (s : State) (host : Option Int) (old : Tai) : State :=
  match host with
  | some h => (s.put Fld.TIME_STEP_STATUS_RESULT 2).raise 0x0304 0 [n8 old, n8 (shifted h old)]
  | none => s

/-- The realignment gap begins (R24). -/
def State.gapOpened (s : State) (new : Tai) : State :=
  (({ s.leaveSlot with beat := { s.leaveSlot.beat with gapFrom := new, next := s.boundaryFrom new } } : State).put
    Fld.BEAT_STATUS_REALIGNING 1).put Fld.BEAT_STATUS_SLOT_CUR 7

theorem applyStep_eq {s : State} (h : s.stepWaits = true) {x : State} (hx : s.servoRun = x) :
    s.applyStep = ((((x.timeMoved (shifted x.stepSum x.time.now) x.stepSum).stepShown
      (x.time.lockStep.getD (x.time.step.getD 0))).stepAnswered x.time.step x.time.now).gapOpened
        (shifted x.stepSum x.time.now)).beaconsReplaced := by
  subst hx
  exact if_pos h

/-- What a step asks of the time. -/
theorem timeMoved_moves (s : State) (new : Tai) (v : Int) :
    (s.timeMoved new v).time.now = new ∧ (s.timeMoved new v).time.step = none ∧ (s.timeMoved new v).time.lockStep = none ∧
      (s.timeMoved new v).time.held = [] ∧ (s.timeMoved new v).regs = s.regs := ⟨rfl, rfl, rfl, rfl, rfl⟩

theorem State.keepsRegs.setReg {s x : State} {l : List Nat} (h : s.keepsRegs x l) {o : Nat} (v : Word) (ho : o ∈ l) :
    s.keepsRegs (x.setReg o v) l := fun a ha => (State.reg_setReg_ne _ _ fun e => ha (by rw [e]; exact ho)).trans (h a ha)

theorem keepsRegs_showServo {s x : State} {l : List Nat} (h : s.keepsRegs x l) (hf : Reg.TIME_FREQ ∈ l) (ht : Reg.TIME_STATUS ∈ l) :
    s.keepsRegs x.showServo l := by
  unfold State.showServo
  exact (h.setReg _ hf).put Fld.TIME_STATUS_SLEW_CLAMPED _ ht

theorem time_showServo (s : State) : s.showServo.time = s.time := by
  unfold State.showServo
  dsimp only
  rw [State.put_time, State.setReg_time]

theorem get_showServo_pending (s : State) : s.showServo.get Fld.TIME_STATUS_STEP_PENDING = s.get Fld.TIME_STATUS_STEP_PENDING := by
  unfold State.showServo
  dsimp only
  rw [State.get_put_field _ Fld.TIME_STATUS_SLEW_CLAMPED Fld.TIME_STATUS_STEP_PENDING _ rfl (by decide) (by decide) (by decide)]
  exact State.get_of_reg (State.reg_setReg_ne _ _ (by decide))

/-- The servo runs up to the step without moving the time. -/
theorem servoRun_keeps (s : State) : s.servoRun.time.now = s.time.now ∧ s.servoRun.time.step = s.time.step ∧
    s.servoRun.time.lockStep = s.time.lockStep ∧ s.keepsRegs s.servoRun [Reg.TIME_FREQ, Reg.TIME_STATUS] := by
  unfold State.servoRun
  extract_lets dt gone added
  rw [time_showServo]
  exact ⟨rfl, rfl, rfl, keepsRegs_showServo (fun _ _ => rfl) (by decide) (by decide)⟩

/-- The registers that show a step. -/
def stepRegs : List Nat := Reg.TIME_STATUS :: Reg.TIME_FREQ :: pair64 Reg.TIME_LAST_STEP

theorem stepShown_shows (s : State) (last : Int) :
    (s.stepShown last).get Fld.TIME_STATUS_STEP_PENDING = 0 ∧
      (s.stepShown last).reg64 Reg.TIME_LAST_STEP = ofInt 8 last % 2 ^ 64 ∧ (s.stepShown last).time = s.time ∧
      s.keepsRegs (s.stepShown last) stepRegs := by
  have hp : s.keepsRegs (s.put Fld.TIME_STATUS_STEP_PENDING 0) stepRegs :=
    State.keepsRegs.put (State.keepsRegs_mono (State.keepsRegs_refl s) (by simp)) Fld.TIME_STATUS_STEP_PENDING 0 (by decide)
  have hlast : ∀ x : State, x.keepsRegs (x.setReg64 Reg.TIME_LAST_STEP (ofInt 8 last)) (pair64 Reg.TIME_LAST_STEP) := fun x =>
    State.keepsRegs_setReg64 x _ _
  have hservo : ∀ x : State, x.keepsRegs x.showServo [Reg.TIME_FREQ, Reg.TIME_STATUS] := fun x =>
    keepsRegs_showServo (fun _ _ => rfl) (by decide) (by decide)
  unfold State.stepShown
  refine ⟨?_, ?_, ?_, keepsRegs_showServo (hp.setReg64 _ _ (by decide)) (by decide) (by decide)⟩
  · rw [get_showServo_pending, (hlast _).get (by decide), State.get_put_zero _ _ (by decide) (by decide)]
  · rw [(hservo _).reg64 (by decide) (by decide), State.reg64_setReg64]
  · rw [time_showServo, State.setReg64_time, State.put_time]

theorem keepsRegs_stepAnswered {s x : State} {l : List Nat} (h : s.keepsRegs x l) (host : Option Int) (old : Tai)
    (hr : Reg.TIME_STEP_STATUS ∈ l) (hl : ∀ o ∈ dropCounters, o ∈ l) : s.keepsRegs (x.stepAnswered host old) l := by
  cases host with
  | none => exact h
  | some v => exact (h.put Fld.TIME_STEP_STATUS_RESULT 2 hr).raise _ _ _ hl

theorem time_stepAnswered (s : State) (host : Option Int) (old : Tai) : (s.stepAnswered host old).time = s.time := by
  cases host with
  | none => rfl
  | some v =>
    unfold State.stepAnswered
    dsimp only
    rw [State.raise_time, State.put_time]

theorem stepAnswered_tells (s : State) (v : Int) (old : Tai) :
    (s.stepAnswered (some v) old).get Fld.TIME_STEP_STATUS_RESULT = 2 ∧
      (s.stepAnswered (some v) old).told 0x0304 0 [n8 old, n8 (shifted v old)] := by
  unfold State.stepAnswered
  refine ⟨?_, State.told_raise ..⟩
  dsimp only
  rw [State.get_raise _ _ _ _ _ (by decide), State.get_put_fit _ _ _ (by decide) (by decide) (by decide)]

/-- What the gap's start shows, and what it keeps of the time and the events. -/
theorem gapOpened_shows (s : State) (new : Tai) :
    (s.gapOpened new).beat.gapFrom = new ∧ (s.gapOpened new).beat.next = s.boundaryFrom new ∧
      (s.gapOpened new).get Fld.BEAT_STATUS_REALIGNING = 1 ∧ (s.gapOpened new).get Fld.BEAT_STATUS_SLOT_CUR = 7 ∧
      (s.gapOpened new).time = s.time ∧ (s.gapOpened new).ev = s.ev ∧
      ∀ o, o < 0x30000 → o ≠ Reg.BEAT_STATUS → (s.gapOpened new).reg o = s.reg o := by
  obtain ⟨_, _, htime, hev, hreg⟩ := beatKept_leaveSlot s
  unfold State.gapOpened
  generalize hy : ({ s.leaveSlot with beat := { s.leaveSlot.beat with gapFrom := new, next := s.boundaryFrom new } } : State) = y
  have hb : y.beat.gapFrom = new ∧ y.beat.next = s.boundaryFrom new := by rw [← hy]; exact ⟨rfl, rfl⟩
  have ht : y.time = s.time := by rw [← hy]; exact htime
  have he : y.ev = s.ev := by rw [← hy]; exact hev
  have hr : ∀ o, o < 0x30000 → y.reg o = s.reg o := by rw [← hy]; exact hreg
  refine ⟨?_, ?_, ?_, State.get_put_fit _ _ _ (by decide) (by decide) (by decide), ?_, ?_, fun o ho hn => ?_⟩
  · rw [State.put_beat, State.put_beat, hb.1]
  · rw [State.put_beat, State.put_beat, hb.2]
  · rw [State.get_put_field _ Fld.BEAT_STATUS_SLOT_CUR Fld.BEAT_STATUS_REALIGNING _ rfl (by decide) (by decide) (by decide),
      State.get_put_fit _ _ _ (by decide) (by decide) (by decide)]
  · rw [State.put_time, State.put_time, ht]
  · rw [State.put_ev, State.put_ev, he]
  · rw [State.reg_put _ _ _ _ hn, State.reg_put _ _ _ _ hn, hr o ho]

/-- The instant to which the pending steps move the time. -/
def State.stepTarget (s : State) : Tai := shifted s.stepSum s.time.now

/-- The pending steps moved the time, were shown and answered; the gap has not begun. -/
def State.stepTold (s : State) : State :=
  ((s.servoRun.timeMoved s.stepTarget s.stepSum).stepShown (s.time.lockStep.getD (s.time.step.getD 0))).stepAnswered
    s.time.step s.time.now

/-- A step is told, opens its gap, and the beacons not yet begun are replaced. -/
theorem applyStep_told {s : State} (h : s.stepWaits = true) :
    s.applyStep = (s.stepTold.gapOpened s.stepTarget).beaconsReplaced := by
  obtain ⟨hnow, hstep, hlock, _⟩ := servoRun_keeps s
  have hsum : s.servoRun.stepSum = s.stepSum := by unfold State.stepSum; rw [hstep, hlock]
  rw [applyStep_eq h rfl, hsum, hnow, hstep, hlock]
  rfl

theorem applyStep_of_no_step {s : State} (h : s.stepWaits = false) : s.applyStep = s :=
  if_neg (by rw [h]; decide)

/-- The registers that a step changes before its gap begins. -/
def toldRegs : List Nat :=
  Reg.TIME_STATUS :: Reg.TIME_FREQ :: Reg.TIME_STEP_STATUS :: (pair64 Reg.TIME_LAST_STEP ++ dropCounters)

theorem time_stepTold (s : State) : s.stepTold.time.now = s.stepTarget ∧ s.stepTold.time.step = none ∧
    s.stepTold.time.lockStep = none ∧ s.stepTold.time.held = [] := by
  obtain ⟨hnow, hstep, hlock, hheld, _⟩ := timeMoved_moves s.servoRun s.stepTarget s.stepSum
  unfold State.stepTold
  rw [time_stepAnswered, (stepShown_shows _ _).2.2.1]
  exact ⟨hnow, hstep, hlock, hheld⟩

theorem keepsRegs_stepTold (s : State) : s.keepsRegs s.stepTold toldRegs := by
  obtain ⟨_, _, _, hservo⟩ := servoRun_keeps s
  obtain ⟨_, _, _, _, hmoved⟩ := timeMoved_moves s.servoRun s.stepTarget s.stepSum
  obtain ⟨_, _, _, hshown⟩ := stepShown_shows (s.servoRun.timeMoved s.stepTarget s.stepSum)
    (s.time.lockStep.getD (s.time.step.getD 0))
  have hback := State.keepsRegs_back (State.keepsRegs_mono (m := toldRegs) ((hservo.same hmoved)) (by decide)) hshown (by decide)
  exact keepsRegs_stepAnswered hback _ _ (by decide) (by decide)

/-- A step shows that none is pending any more, and its size. -/
theorem stepTold_shows (s : State) : s.stepTold.get Fld.TIME_STATUS_STEP_PENDING = 0 ∧
    s.stepTold.reg64 Reg.TIME_LAST_STEP = ofInt 8 (s.time.lockStep.getD (s.time.step.getD 0)) % 2 ^ 64 := by
  obtain ⟨hpend, hlast, _, _⟩ := stepShown_shows (s.servoRun.timeMoved s.stepTarget s.stepSum)
    (s.time.lockStep.getD (s.time.step.getD 0))
  have hk := keepsRegs_stepAnswered (l := Reg.TIME_STEP_STATUS :: dropCounters)
    (State.keepsRegs_mono (State.keepsRegs_refl ((s.servoRun.timeMoved s.stepTarget s.stepSum).stepShown
      (s.time.lockStep.getD (s.time.step.getD 0)))) (by simp)) s.time.step s.time.now (by decide) (fun _ h => .tail _ h)
  exact ⟨(hk.get (by decide)).trans hpend, (hk.reg64 (by decide) (by decide)).trans hlast⟩

theorem stepTold_tells {s : State} {v : Int} (h : s.time.step = some v) :
    s.stepTold.get Fld.TIME_STEP_STATUS_RESULT = 2 ∧
      s.stepTold.told 0x0304 0 [n8 s.time.now, n8 (shifted v s.time.now)] := by
  unfold State.stepTold
  rw [h]
  exact stepAnswered_tells _ _ _

/-- The registers of the boot, the beat and the time that applying a step may change. -/
def appliedRegs : List Nat :=
  Reg.TIME_STATUS :: Reg.TIME_FREQ :: Reg.TIME_STEP_STATUS :: Reg.BEAT_STATUS :: pair64 Reg.TIME_LAST_STEP

/-- What applying the pending steps shows. -/
structure StepApplied (s u : State) : Prop where
  now : u.time.now = s.stepTarget
  step : u.time.step = none
  lockStep : u.time.lockStep = none
  held : u.time.held = []
  pending : u.get Fld.TIME_STATUS_STEP_PENDING = 0
  last : u.reg64 Reg.TIME_LAST_STEP = ofInt 8 (s.time.lockStep.getD (s.time.step.getD 0)) % 2 ^ 64
  realigning : u.get Fld.BEAT_STATUS_REALIGNING = 1
  slot : u.get Fld.BEAT_STATUS_SLOT_CUR = 7
  gapFrom : u.beat.gapFrom = s.stepTarget
  next : u.beat.next = s.boundaryFrom s.stepTarget
  host : ∀ v : Int, s.time.step = some v → u.get Fld.TIME_STEP_STATUS_RESULT = 2 ∧
    u.told 0x0304 0 [n8 s.time.now, n8 (shifted v s.time.now)]
  regs : ∀ o, o < 0x30000 → o ∉ appliedRegs → u.reg o = s.reg o

theorem Calm.now {b : Bool} {s u : State} (h : Calm b s u) : u.time.now = s.time.now := congrArg (·.now) h.time
theorem Calm.step {b : Bool} {s u : State} (h : Calm b s u) : u.time.step = s.time.step := congrArg (·.step) h.time
theorem Calm.lockStep {b : Bool} {s u : State} (h : Calm b s u) : u.time.lockStep = s.time.lockStep := congrArg (·.lockStep) h.time
theorem Calm.held {b : Bool} {s u : State} (h : Calm b s u) : u.time.held = s.time.held := congrArg (·.held) h.time

theorem Calm.get {b : Bool} {s u : State} (h : Calm b s u) {f : Fld} (hf : f.off < 0x30000) : u.get f = s.get f :=
  State.get_of_reg (h.reg _ hf)

theorem boundaryFrom_congr {s u : State} (h : u.get Fld.BEAT_STATUS_LEN_CUR = s.get Fld.BEAT_STATUS_LEN_CUR) (t : Tai) :
    u.boundaryFrom t = s.boundaryFrom t := by
  unfold State.boundaryFrom State.beatLen
  rw [h]

theorem stepApplied_applyStep {s : State} (h : s.stepWaits = true) : StepApplied s s.applyStep := by
  rw [applyStep_told h]
  obtain ⟨hnow, hstep, hlock, hheld⟩ := time_stepTold s
  obtain ⟨hpend, hlast⟩ := stepTold_shows s
  obtain ⟨hfrom, hnext, hre, hslot, htime, hev, hreg⟩ := gapOpened_shows s.stepTold s.stepTarget
  have hk := keepsRegs_stepTold s
  have hc := calm_beaconsReplaced (s.stepTold.gapOpened s.stepTarget)
  have hr : ∀ o, o < 0x30000 → o ≠ Reg.BEAT_STATUS →
      (s.stepTold.gapOpened s.stepTarget).beaconsReplaced.reg o = s.stepTold.reg o :=
    fun o ho hn => (hc.reg o ho).trans (hreg o ho hn)
  have hg : ∀ f : Fld, f.off < 0x30000 → f.off ≠ Reg.BEAT_STATUS →
      (s.stepTold.gapOpened s.stepTarget).beaconsReplaced.get f = s.stepTold.get f :=
    fun f ho hn => State.get_of_reg (hr _ ho hn)
  refine
    { now := hc.now.trans (by rw [htime, hnow])
      step := hc.step.trans (by rw [htime, hstep])
      lockStep := hc.lockStep.trans (by rw [htime, hlock])
      held := hc.held.trans (by rw [htime, hheld])
      pending := (hg _ (by decide) (by decide)).trans hpend
      last := ?_
      realigning := (hc.get (by decide)).trans hre
      slot := (hc.get (by decide)).trans hslot
      gapFrom := by rw [hc.beat, hfrom]
      next := ?_
      host := fun v hv => ?_
      regs := fun o ho hn => ?_ }
  · rw [← hlast]
    unfold State.reg64
    rw [hr _ (by decide) (by decide), hr _ (by decide) (by decide)]
  · rw [hc.beat, hnext]
    exact boundaryFrom_congr (hk.get (by decide)) _
  · obtain ⟨hres, e, he, hd⟩ := stepTold_tells hv
    exact ⟨(hg _ (by decide) (by decide)).trans hres, e, hc.raised.subset (by rw [hev]; exact he), hd⟩
  · simp only [appliedRegs, List.mem_cons, not_or] at hn
    obtain ⟨h1, h2, h3, h4, h5⟩ := hn
    refine (hr o ho h4).trans (hk o fun hm => ?_)
    simp only [toldRegs, List.mem_cons, List.mem_append] at hm
    rcases hm with hm | hm | hm | hm | hm
    exacts [h1 hm, h2 hm, h3 hm, h5 hm, absurd (dropCounters_apart o hm).1 (by omega)]

/-! ### The beacon of a beat (R65) -/

/-- A beacon that is due waits for its trailer. -/
theorem beaconDue_queues {s : State} {n : Nat} (h : s.beaconAllowed n = true) : AuthJob.beacon n ∈ (s.beaconDue n).fab.authq := by
  unfold State.beaconDue
  rw [if_pos h]
  dsimp only
  split
  · next hc => exact List.contains_iff_mem.1 hc
  · exact List.mem_append_right _ (List.mem_singleton_self _)

theorem beaconOn_of_live {s u : State} (h : u.live = s.live) : u.beaconOn = s.beaconOn := by
  unfold State.beaconOn State.liveReg
  rw [h]

/-- Where only frames are dropped, a port may carry its beacon as before. -/
theorem Calm.beaconAllowed {s u : State} (h : Calm true s u) {n : Nat} (hn : n < 48) : u.beaconAllowed n = s.beaconAllowed n := by
  obtain ⟨hclaim, hcan⟩ := h.same rfl
  unfold State.beaconAllowed State.canState State.claimed State.on State.cur State.liveReg
  rw [hclaim, hcan n hn, beaconOn_of_live h.live, h.live]

/-- The state of a beat whose beacons are about to be queued. -/
def State.beaconsBegun (s : State) (bad : List (Nat × Nat)) : State :=
  { s with beat := { s.beat with beaconRun := true } }.resetQueues bad

/-- The only enabled port that may carry a beacon queues it. -/
theorem beaconsBegun_queues {s : State} {bad : List (Nat × Nat)} (hb : ∀ e ∈ bad, e.1 < 77) {n : Nat} (hn : n < 48)
    (ha : s.beaconAllowed n = true) : AuthJob.beacon n ∈ ((s.beaconsBegun bad).beaconDue n).fab.authq ∧
      ((s.beaconsBegun bad).beaconDue n).beat.beaconRun = true := by
  have hc : Calm true { s with beat := { s.beat with beaconRun := true } } (s.beaconsBegun bad) := calm_resetQueues hb
  have hd := Calm.beaconDue (Calm.refl false (s.beaconsBegun bad)) n
  exact ⟨beaconDue_queues ((hc.beaconAllowed hn).trans ha), by rw [hd.beat, hc.beat]⟩

/-- Are the beacons of this beat due? -/
def State.beaconsDue (s : State) : Bool :=
  s.slotsRun && s.time.now == s.beat.start && !s.beat.beaconRun &&
    s.beatIndex % s.cur Fld.TIME_BCN_CFG_PERIOD == s.cur Fld.TIME_BCN_CFG_PHASE

/-- TIME_BEACON_DUE queues the beacons of the enabled ports where they are due. -/
theorem answers_timeBeaconDue {bad : List (Nat × Nat)} {t : Tai} {s : State} {p : State → Prop} (hs : s.up = true)
    (hwf : (Instr.timeBeaconDue bad t).wf = true)
    (hp : p ((if (s.at t).beaconsDue then
      ((List.range 48).filter (s.at t).beaconOn).foldl State.beaconDue ((s.at t).beaconsBegun bad) else s.at t).withQueue
        s.pending)) : answers (exec (.timeBeaconDue bad t) s) p :=
  answers_effect (m := "TIME_BEACON_DUE") hs hwf hp

/-- Settles O38: the step that is asked for is judged (`stepJudged_evaluateSteps`), the pending ones are applied
(`stepApplied_applyStep`), and the beacon of a beat is queued (`beaconsBegun_queues`). -/
theorem stepsAreJudgedAppliedAndOpenTheGap : Obligations.StepsAreJudgedAppliedAndOpenTheGap := by
  intro t s hs
  refine ⟨fun mode hc hm => ?_, fun h => ?_, fun hw hb => ?_, fun bad hwf => ⟨fun hd => ?_, fun hd n hn hf ha => ?_⟩⟩
  · refine answers_effect (m := "TIME_STEP_EVALUATE") hs rfl ?_
    rw [if_pos hc]
    obtain ⟨gone, others, result, taken, refused, regs, keeps⟩ := stepJudged_evaluateSteps (s := s.at t) hm
    exact ⟨gone, others, result, taken, refused, (State.keepsRegs_withQueue ..).2 regs,
      (State.keeps_withQueue ..).2 ((State.keeps_from_at ..).1 keeps)⟩
  · refine answers_effect (m := "TIME_STEP_APPLY") hs rfl ?_
    have hsame : (if (s.at t).beatOver then (s.at t).applyStep else s.at t) = s.at t := by
      split
      · next hb => exact applyStep_of_no_step (s := s.at t) (h.resolve_right (by rw [hb]; decide))
      · rfl
    rw [hsame]
    exact ⟨(State.keepsRegs_withQueue ..).2 (.at s t _), (State.keeps_withQueue ..).2 (.at s t _)⟩
  · refine answers_effect (m := "TIME_STEP_APPLY") hs rfl ?_
    rw [if_pos hb]
    obtain ⟨now, step, lockStep, held, pending, last, realigning, slot, gapFrom, next, host, regs⟩ :=
      stepApplied_applyStep (s := s.at t) hw
    exact ⟨now, step, lockStep, held, pending, last, realigning, slot, gapFrom, next, host, regs⟩
  · refine answers_timeBeaconDue hs hwf ?_
    have hno : (s.at t).beaconsDue = false := hd
    rw [hno]
    exact ⟨(State.keepsRegs_withQueue ..).2 (.at s t _), (State.keeps_withQueue ..).2 (.at s t _)⟩
  · refine answers_timeBeaconDue hs hwf ?_
    have hbad : ∀ e ∈ bad, e.1 < 77 := fun e he => by
      simp only [Instr.wf, decide_eq_true_eq, List.all_eq_true] at hwf
      exact (hwf e he).1
    have hdue : (s.at t).beaconsDue = true := hd
    have hport : (List.range 48).filter (s.at t).beaconOn = [n] := hf
    rw [if_pos hdue, hport]
    exact beaconsBegun_queues (s := s.at t) hbad hn ha

end Sys2Proof.Machine

namespace Sys2Proof.Machine

/-! ### Requests that queue in order (R56, R480) -/

/-- A request waits at the end of the queue of requests. -/
def State.queued (s : State) (c : RegCmd) : State := { s with cmds := s.cmds ++ [c] }

/-- A step of mode 1 or 2 is asked for. -/
theorem regWrite_TIME_STEP_CTRL_queued {s : State} {a : Access} (h : s.takes a) (t : Tai) {mode : Nat} {w : Word}
    (hw : w.toNat.land 0x80000003 = 2 ^ 31 + mode) (hm : mode = 1 ∨ mode = 2) :
    (s.at t).regWrite a Reg.TIME_STEP_CTRL w = (s.at t).queued (.step mode) := by
  rw [regWrite_commandAt _ _ _ (State.takes_at h t) commandAt_TIME_STEP_CTRL, hw]
  rcases hm with rfl | rfl <;> rfl

theorem regWrite_NVM_UPD_CTRL_queued {s : State} {a : Access} (h : s.takes a) (t : Tai) {v : Nat} {w : Word}
    (hw : w.toNat.land 0x31F = v) (hz : v.land 0x1F ≠ 0) :
    (s.at t).regWrite a Reg.NVM_UPD_CTRL w = (s.at t).queued (.nvmUpd v) :=
  regWrite_NVM_UPD_CTRL s v t a h w hw hz

/-- A command whose only work is to queue a request: the request is the last, and nothing else changes. -/
theorem answers_queued {s x : State} {a : Access} (t : Tai) {c : RegCmd} {ok : Bool} {m : String} (h : s.takes a)
    (hok : ok = decide (a.ok = true)) (hx : x = (s.at t).queued c) :
    answers (unlessHeld s (runIf ok m x)) fun u => u.cmds = s.cmds ++ [c] ∧ s.keepsRegs u [] ∧ s.keeps u [.cmds] := by
  obtain ⟨hup, _, _, _, ha, _⟩ := h
  subst hx
  exact answers_effect hup (by rw [hok, ha]; rfl)
    ⟨rfl, (State.keepsRegs_withQueue ..).2 (.at s t _),
      (State.keeps_withQueue ..).2 (State.keeps_cmds _ (.at s t _) (by decide))⟩

/-- Settles O10: each of the commands writes the acting bits of its register, and the request that they start is queued
(`answers_queued`). -/
theorem stepAndUpdateRequestsQueueInOrder : Obligations.StepAndUpdateRequestsQueueInOrder := by
  intro a t s h
  refine ⟨answers_queued t h rfl ?_, answers_queued t h rfl ?_, answers_queued t h rfl ?_,
    fun clean force => answers_queued t h rfl ?_, answers_queued t h rfl ?_, answers_queued t h rfl ?_,
    answers_queued t h rfl ?_⟩
  · exact regWrite_TIME_STEP_CTRL_queued h t (by decide) (.inl rfl)
  · exact regWrite_TIME_STEP_CTRL_queued h t (by decide) (.inr rfl)
  · exact regWrite_NVM_UPD_CTRL_queued h t (by decide) (by decide)
  · exact regWrite_NVM_UPD_CTRL_queued h t (by cases clean <;> cases force <;> decide)
      (by cases clean <;> cases force <;> decide)
  · exact regWrite_NVM_UPD_CTRL_queued h t (by decide) (by decide)
  · exact regWrite_NVM_UPD_CTRL_queued h t (by decide) (by decide)
  · exact regWrite_NVM_UPD_CTRL_queued h t (by decide) (by decide)

end Sys2Proof.Machine

namespace Sys2Proof.Machine

/-! ### A capture source and the registers that show it (R69, R71) -/

theorem capOf_of_time {s u : State} (h : u.time = s.time) (n : Nat) : u.capOf n = s.capOf n := by
  unfold State.capOf
  rw [h]

/-- The registers that show a capture unit. -/
def capRegs (n : Nat) : List Nat := [Reg.TIME_CAPu_STAT n, Reg.TIME_CAPu_LOST n]

theorem mem_capRegs {n o : Nat} (h : o ∈ capRegs n) (hn : n < 16) : 0x20000 ≤ o ∧ o < 0x30000 := by
  simp only [capRegs, List.mem_cons, List.not_mem_nil, or_false, Reg.TIME_CAPu_STAT, Reg.TIME_CAPu_LOST] at h
  omega

theorem State.keeps.setReg {s x : State} {l : List Part} (h : s.keeps x l) (o : Nat) (v : Word) : s.keeps (x.setReg o v) l :=
  State.keeps_back h (State.keeps_setReg x o v) (by simp)

/-- A source is written; no register shows it yet. -/
def State.capKept (s : State) (n : Nat) (c : CapSource) : State :=
  { s with time := { s.time with caps := SMap.set CapSource.fresh s.time.caps n c } }

/-- The registers of a capture unit show a source. -/
def State.capShown (s : State) (n : Nat) (c : CapSource) : State :=
  (((s.put (Fld.TIME_CAPu_STAT_OPEN n) (b2n c.opened.isSome)).put (Fld.TIME_CAPu_STAT_BUF n) c.waiting).put
    (Fld.TIME_CAPu_STAT_SEQ n) c.seq).setReg (Reg.TIME_CAPu_LOST n) (BitVec.ofNat 32 c.total)

theorem setCap_unit (s : State) {n : Nat} (hn : n < 16) (c : CapSource) : s.setCap n c = (s.capKept n c).capShown n c :=
  if_pos hn

theorem time_capShown (s : State) (n : Nat) (c : CapSource) : (s.capShown n c).time = s.time := by
  simp only [State.capShown, State.setReg_time, State.put_time]

/-- OPEN shows whether a pair is open. -/
theorem get_capShown_open (s : State) (n : Nat) (c : CapSource) :
    (s.capShown n c).get (Fld.TIME_CAPu_STAT_OPEN n) = b2n c.opened.isSome := by
  have hlost : Reg.TIME_CAPu_STAT n ≠ Reg.TIME_CAPu_LOST n := by unfold Reg.TIME_CAPu_STAT Reg.TIME_CAPu_LOST; omega
  have hbit : ∀ b : Bool, b2n b < 2 := by decide
  unfold State.capShown
  rw [State.get_of_reg (State.reg_setReg_ne _ _ hlost),
    State.get_put_field _ (Fld.TIME_CAPu_STAT_SEQ n) (Fld.TIME_CAPu_STAT_OPEN n) _ rfl,
    State.get_put_field _ (Fld.TIME_CAPu_STAT_BUF n) (Fld.TIME_CAPu_STAT_OPEN n) _ rfl, State.get_put_fit _ _ _ _ _ (hbit _)] <;>
    simp [Fld.TIME_CAPu_STAT_SEQ, Fld.TIME_CAPu_STAT_BUF, Fld.TIME_CAPu_STAT_OPEN]

theorem keepsRegs_setCap {s x : State} {l : List Nat} (h : s.keepsRegs x l) {n : Nat} (hn : n < 16) (c : CapSource)
    (hl : ∀ o ∈ capRegs n, o ∈ l) : s.keepsRegs (x.setCap n c) l := by
  have hs := hl (Reg.TIME_CAPu_STAT n) (by simp [capRegs])
  rw [setCap_unit x hn]
  exact ((State.keepsRegs.put (State.keepsRegs.put (State.keepsRegs.put (h.same rfl) (Fld.TIME_CAPu_STAT_OPEN n) _ hs)
    (Fld.TIME_CAPu_STAT_BUF n) _ hs) (Fld.TIME_CAPu_STAT_SEQ n) _ hs)).setReg _ (hl _ (by simp [capRegs]))

theorem keeps_setCap {s x : State} {l : List Part} (h : s.keeps x l) {n : Nat} (hn : n < 16) (c : CapSource)
    (hl : Part.time ∈ l) : s.keeps (x.setCap n c) l := by
  rw [setCap_unit x hn]
  exact (((State.keeps_time _ h hl).put _ _).put _ _).put _ _ |>.setReg _ _

/-- What a write of a capture unit's source leaves: the source, OPEN, and every other register and part. -/
structure CapWritten (s u : State) (n : Nat) (c : CapSource) : Prop where
  source : u.capOf n = c
  shown : u.get (Fld.TIME_CAPu_STAT_OPEN n) = b2n c.opened.isSome
  regs : s.keepsRegs u (capRegs n)
  keeps : s.keeps u [.time]

theorem capWritten_setCap {s x : State} {n : Nat} (hr : s.keepsRegs x (capRegs n)) (hk : s.keeps x [.time]) (hn : n < 16)
    (c : CapSource) : CapWritten s (x.setCap n c) n c where
  source := by
    rw [setCap_unit x hn, capOf_of_time (time_capShown ..)]
    exact (SMap.get_set ..).trans (if_pos rfl)
  shown := by rw [setCap_unit x hn, get_capShown_open]
  regs := keepsRegs_setCap hr hn c fun _ h => h
  keeps := keeps_setCap hk hn c (by decide)

/-! ### A closed pair becomes a record (R71) -/

/-- Off the ring's own counter of dropped entries, addressing an entry leaves every register. -/
theorem reg_toRing_below (s : State) (n : Nat) (e : RxEntry) {o : Nat} (ho : o < 0x30000) : (s.toRing n e).reg o = s.reg o := by
  have hd : ∀ k, o ≠ Reg.HIF_RXn_DROP n + k := fun k => by unfold Reg.HIF_RXn_DROP; omega
  have hdrop := State.reg_rxDrop s n o (hd 0) (hd 4)
  unfold State.toRing
  cases e <;> dsimp only <;> split
  exacts [rfl, hdrop, rfl, hdrop]

/-- A running record stream takes an item behind those that wait. -/
theorem queue_toRing_item {s : State} {n : Nat} (hrun : s.get (Fld.HIF_RXn_STAT_STATE n) = 1)
    (hst : (s.rxRing n).stream = true) (type : Nat) (b : Bytes) :
    ((s.toRing n (.item type b)).rxRing n).queue = (s.rxRing n).queue ++ [.item type b] := by
  have h : s.toRing n (.item type b) = s.setRxRing n { s.rxRing n with queue := (s.rxRing n).queue ++ [.item type b] } :=
    if_pos ⟨hrun, fun _ => hst⟩
  rw [h]
  exact congrArg RxRing.queue ((SMap.get_set ..).trans (if_pos rfl))

/-- The capture record of a complete pair (Table 3.5). -/
def capItem (n epoch seq lost start stop : Nat) : RxEntry :=
  .item 0x30 (le 1 n ++ le 1 0 ++ le 2 epoch ++ le 2 seq ++ le 2 (satNat 16 lost) ++ le 8 start ++ le 8 stop ++
    le 8 (stop - start))

/-- Does the ring of the capture records take them? -/
def State.capTaken (s : State) : Bool :=
  s.get (Fld.HIF_RXn_STAT_STATE (s.cur Fld.TIME_CAP_RING_RING)) == 1 && (s.rxRing (s.cur Fld.TIME_CAP_RING_RING)).stream

theorem capTaken_iff (s : State) : s.capTaken = true ↔ s.get (Fld.HIF_RXn_STAT_STATE (s.cur Fld.TIME_CAP_RING_RING)) = 1 ∧
    (s.rxRing (s.cur Fld.TIME_CAP_RING_RING)).stream = true := by
  unfold State.capTaken
  rw [Bool.and_eq_true, beq_iff_eq]

/-- A pair is closed: its source has none open. -/
def State.capClosed (s : State) (n : Nat) : State := s.setCap n { s.capOf n with opened := none }

theorem captureStop_open {s : State} {n : Nat} {start : Tai} (h : (s.capOf n).opened = some start) (t : Tai) :
    s.captureStop n t = (s.capClosed n).capRecord n 0 start t := by
  unfold State.captureStop State.capStop State.capClosed
  rw [h]

theorem captureStart_fresh {s : State} {n : Nat} (h : (s.capOf n).opened = none) (t : Tai) :
    s.captureStart n t false = s.setCap n { s.capOf n with opened := some t } := by
  unfold State.captureStart State.capStart
  rw [h]
  rfl

theorem capRecord_off {s : State} (h : s.on Fld.TIME_CAP_RING_EN = false) (n flags start stop : Nat) :
    s.capRecord n flags start stop = s := if_neg (by rw [h]; decide)

theorem capRecord_full {s : State} (h : s.on Fld.TIME_CAP_RING_EN = true) {n : Nat} (hn : n < 16)
    (hw : 8 ≤ (s.capOf n).waiting) (flags start stop : Nat) :
    s.capRecord n flags start stop =
      (s.setCap n { s.capOf n with lost := (s.capOf n).lost + 1, total := (s.capOf n).total + 1 }).raise 0x0308
        (unitOf 8 n) [n4 n, n4 ((s.capOf n).total + 1)] := by
  unfold State.capRecord
  rw [if_pos h, if_neg (Nat.not_lt.2 hw), if_pos hn]

/-- The source of a unit once its record has been made. -/
def CapSource.recorded (c : CapSource) (taken : Bool) : CapSource :=
  { c with waiting := c.waiting + b2n taken, seq := (c.seq + 1) % 65536, lost := 0 }

theorem capRecord_kept {s : State} (h : s.on Fld.TIME_CAP_RING_EN = true) {n : Nat} (hn : n < 16)
    (hw : (s.capOf n).waiting < 8) (start stop : Nat) :
    s.capRecord n 0 start stop = (s.setCap n ((s.capOf n).recorded s.capTaken)).toRing (s.cur Fld.TIME_CAP_RING_RING)
      (capItem n (s.word (unitOf 2 1)).epoch (s.capOf n).seq (s.capOf n).lost start stop) := by
  have ht : (if s.get (Fld.HIF_RXn_STAT_STATE (s.cur Fld.TIME_CAP_RING_RING)) = 1 ∧
      (s.rxRing (s.cur Fld.TIME_CAP_RING_RING)).stream = true then 1 else 0) = b2n s.capTaken := by
    simp only [← capTaken_iff, b2n]
  unfold State.capRecord
  rw [if_pos h, if_pos hw]
  dsimp only
  rw [ht, if_pos hn, if_pos rfl]
  unfold capItem CapSource.recorded
  rfl

theorem capWritten_capClosed (s : State) {n : Nat} (hn : n < 16) :
    CapWritten s (s.capClosed n) n { s.capOf n with opened := none } :=
  capWritten_setCap (State.keepsRegs_mono (State.keepsRegs_refl s) (by simp))
    (State.keeps_mono (State.keeps_refl s) (by simp)) hn _

theorem answers_captureStart {s : State} {n edge16 width : Nat} {withStop : Bool} {p : State → Prop} (hs : s.up = true)
    (hn : n < 16) (hp : p ((if s.capEnabled n (Fld.TIME_CAPu_CFG_START_EDGE n) && s.capPasses n width then
      (s.at (edge16 / 16)).captureStart n (stampOf 127 edge16) (withStop && s.capEnabled n (Fld.TIME_CAPu_CFG_STOP_EDGE n))
      else s.at (edge16 / 16)).withQueue s.pending)) : answers (exec (.captureStart n edge16 width withStop) s) p :=
  answers_effect (m := "CAPTURE_START") hs (decide_eq_true hn) hp

theorem answers_captureStop {s : State} {n edge16 width : Nat} {p : State → Prop} (hs : s.up = true)
    (hn : n < 16) (hp : p ((if s.capEnabled n (Fld.TIME_CAPu_CFG_STOP_EDGE n) && s.capPasses n width then
      (s.at (edge16 / 16)).captureStop n (stampOf 127 edge16) else s.at (edge16 / 16)).withQueue s.pending)) :
    answers (exec (.captureStop n edge16 width) s) p :=
  answers_effect (m := "CAPTURE_STOP") hs (decide_eq_true hn) hp

/-- A pair is closed into a record: what its source and its ring then hold. -/
structure CapStopped (s u : State) (n start stop : Nat) : Prop where
  opened : (u.capOf n).opened = none
  shown : u.get (Fld.TIME_CAPu_STAT_OPEN n) = 0
  off : s.on Fld.TIME_CAP_RING_EN = false → u.capOf n = { s.capOf n with opened := none } ∧
    s.keepsRegs u (capRegs n) ∧ s.keeps u [.time]
  seq : s.on Fld.TIME_CAP_RING_EN = true → (s.capOf n).waiting < 8 → (u.capOf n).seq = ((s.capOf n).seq + 1) % 65536
  item : s.on Fld.TIME_CAP_RING_EN = true → (s.capOf n).waiting < 8 → s.capTaken = true →
    (u.capOf n).waiting = (s.capOf n).waiting + 1 ∧
      (u.rxRing (s.cur Fld.TIME_CAP_RING_RING)).queue = (s.rxRing (s.cur Fld.TIME_CAP_RING_RING)).queue ++
        [capItem n (s.word (unitOf 2 1)).epoch (s.capOf n).seq (s.capOf n).lost start stop]
  lost : s.on Fld.TIME_CAP_RING_EN = true → 8 ≤ (s.capOf n).waiting → (u.capOf n).lost = (s.capOf n).lost + 1 ∧
    u.told 0x0308 (unitOf 8 n) [n4 n, n4 ((s.capOf n).total + 1)]

/-- Where only a capture unit was written, its ring is as before. -/
theorem CapWritten.ring {s u : State} {n : Nat} {c : CapSource} (h : CapWritten s u n c) (hn : n < 16) :
    u.cur Fld.TIME_CAP_RING_RING = s.cur Fld.TIME_CAP_RING_RING ∧ u.on Fld.TIME_CAP_RING_EN = s.on Fld.TIME_CAP_RING_EN ∧
      (∀ k, u.get (Fld.HIF_RXn_STAT_STATE k) = s.get (Fld.HIF_RXn_STAT_STATE k)) ∧ (∀ k, u.rxRing k = s.rxRing k) ∧
      ∀ k, u.word k = s.word k := by
  have hcur : ∀ f, u.cur f = s.cur f := fun f => by
    unfold State.cur
    rw [State.liveReg_of_live (h.keeps .live (by decide))]
  refine ⟨hcur _, ?_, fun k => h.regs.get fun hm => ?_, fun k => ?_, fun k => ?_⟩
  · unfold State.on
    rw [hcur]
  · have := (mem_capRegs hm hn).2
    simp only [Fld.HIF_RXn_STAT_STATE, Reg.HIF_RXn_STAT] at this
    omega
  · exact congrArg (fun x : HostIf => SMap.get RxRing.fresh x.rx k) (h.keeps .hif (by decide))
  · exact congrArg (fun x : Mgt => SMap.get (wordReset k) x.words k) (h.keeps .mgt (by decide))

theorem CapWritten.capTaken {s u : State} {n : Nat} {c : CapSource} (h : CapWritten s u n c) (hn : n < 16) :
    u.capTaken = s.capTaken := by
  obtain ⟨hring, _, hstat, hrx, _⟩ := h.ring hn
  unfold State.capTaken
  rw [hring, hstat, hrx]

/-- A source that is written once more. -/
theorem CapWritten.setCap {s u : State} {n : Nat} {c : CapSource} (h : CapWritten s u n c) (hn : n < 16) (d : CapSource) :
    CapWritten s (u.setCap n d) n d := capWritten_setCap h.regs h.keeps hn d

/-- With the record's ring off nothing is kept of a pair. -/
theorem capStopped_off {s y : State} {n : Nat} (h : CapWritten s y n { s.capOf n with opened := none })
    (hoff : s.on Fld.TIME_CAP_RING_EN = false) (start stop : Nat) : CapStopped s y n start stop where
  opened := by rw [h.source]
  shown := h.shown
  off _ := ⟨h.source, h.regs, h.keeps⟩
  seq hon := by rw [hoff] at hon; cases hon
  item hon := by rw [hoff] at hon; cases hon
  lost hon := by rw [hoff] at hon; cases hon

/-- A record goes to its ring. -/
theorem capStopped_kept {s y : State} {n : Nat} (hn : n < 16)
    (h : CapWritten s y n ({ s.capOf n with opened := none : CapSource}.recorded s.capTaken))
    (hon : s.on Fld.TIME_CAP_RING_EN = true) (hw : (s.capOf n).waiting < 8) (start stop : Nat) :
    CapStopped s (y.toRing (s.cur Fld.TIME_CAP_RING_RING)
      (capItem n (s.word (unitOf 2 1)).epoch (s.capOf n).seq (s.capOf n).lost start stop)) n start stop := by
  obtain ⟨_, _, hstat, hrx, _⟩ := h.ring hn
  have hc := (capOf_of_time (State.toRing_time y (s.cur Fld.TIME_CAP_RING_RING)
    (capItem n (s.word (unitOf 2 1)).epoch (s.capOf n).seq (s.capOf n).lost start stop)) n).trans h.source
  have hopen : (Fld.TIME_CAPu_STAT_OPEN n).off < 0x30000 := (mem_capRegs (List.mem_cons_self ..) hn).2
  exact
    { opened := by rw [hc]; rfl
      shown := (State.get_of_reg (reg_toRing_below _ _ _ hopen)).trans h.shown
      off := fun hoff => by rw [hoff] at hon; cases hon
      seq := fun _ _ => by rw [hc]; rfl
      item := fun _ _ ht => by
        obtain ⟨hrun, hst⟩ := (capTaken_iff s).1 ht
        refine ⟨by rw [hc, ht]; rfl, ?_⟩
        rw [capItem, queue_toRing_item ((hstat _).trans hrun) (by rw [hrx]; exact hst), hrx]
      lost := fun _ hfull => absurd hw (Nat.not_lt.2 hfull) }

/-- A record that finds 8 waiting is lost. -/
theorem capStopped_lost {s y : State} {n : Nat} (hn : n < 16)
    (h : CapWritten s y n { s.capOf n with opened := none, lost := (s.capOf n).lost + 1, total := (s.capOf n).total + 1 })
    (hon : s.on Fld.TIME_CAP_RING_EN = true) (hw : 8 ≤ (s.capOf n).waiting) (start stop : Nat) :
    CapStopped s (y.raise 0x0308 (unitOf 8 n) [n4 n, n4 ((s.capOf n).total + 1)]) n start stop := by
  have hc := (capOf_of_time (State.raise_time y 0x0308 (unitOf 8 n) [n4 n, n4 ((s.capOf n).total + 1)]) n).trans h.source
  have hopen : (Fld.TIME_CAPu_STAT_OPEN n).off ∉ dropCounters := fun hm =>
    absurd (dropCounters_apart _ hm).1 (Nat.not_le.2 (mem_capRegs (List.mem_cons_self ..) hn).2)
  exact
    { opened := by rw [hc]
      shown := (State.get_raise _ _ _ _ _ hopen).trans h.shown
      off := fun hoff => by rw [hoff] at hon; cases hon
      seq := fun _ hfew => absurd hfew (Nat.not_lt.2 hw)
      item := fun _ hfew => absurd hfew (Nat.not_lt.2 hw)
      lost := fun _ _ => ⟨by rw [hc], State.told_raise ..⟩ }

/-- A closed pair's record reaches its ring, is lost, or is not kept. -/
theorem capStopped_capRecord (s : State) {n : Nat} (hn : n < 16) (start stop : Nat) :
    CapStopped s ((s.capClosed n).capRecord n 0 start stop) n start stop := by
  have h := capWritten_capClosed s hn
  obtain ⟨hring, hen, _, _, hword⟩ := h.ring hn
  cases hon : s.on Fld.TIME_CAP_RING_EN with
  | false =>
    rw [capRecord_off (hen.trans hon)]
    exact capStopped_off h hon start stop
  | true =>
    rcases Nat.lt_or_ge (s.capOf n).waiting 8 with hw | hw
    · rw [capRecord_kept (hen.trans hon) hn (by rw [h.source]; exact hw), h.source, h.capTaken hn, hring, hword]
      exact capStopped_kept hn (h.setCap hn _) hon hw start stop
    · rw [capRecord_full (hen.trans hon) hn (by rw [h.source]; exact hw), h.source]
      exact capStopped_lost hn (h.setCap hn _) hon hw start stop

/-- Settles O39: a start edge opens a pair (`capWritten_setCap`), a stop edge closes it (`capStopped_capRecord`), and an edge
that is not enabled or that the filter ignores does nothing. -/
theorem capturesFormPairs : Obligations.CapturesFormPairs := by
  intro n edge16 width s hs hn
  refine ⟨fun he hf hfresh => ?_, fun hno withStop => ?_, fun hno => ?_, fun he hf start hopen => ?_⟩
  · refine answers_captureStart hs hn ?_
    have hw := capWritten_setCap (State.keepsRegs.at s (edge16 / 16) _) (State.keeps.at s _ _) hn
      { s.capOf n with opened := some (stampOf 127 edge16) }
    rw [he, hf, Bool.and_self, if_pos rfl, Bool.false_and, captureStart_fresh (s := s.at (edge16 / 16)) hfresh]
    exact ⟨congrArg CapSource.opened hw.source, hw.shown, (State.keepsRegs_withQueue ..).2 hw.regs,
      (State.keeps_withQueue ..).2 hw.keeps⟩
  · refine answers_captureStart hs hn ?_
    rw [if_neg (by rcases hno with h | h <;> simp [h])]
    exact ⟨(State.keepsRegs_withQueue ..).2 (.at s _ _), (State.keeps_withQueue ..).2 (.at s _ _)⟩
  · refine answers_captureStop hs hn ?_
    rw [if_neg (by rcases hno with h | h <;> simp [h])]
    exact ⟨(State.keepsRegs_withQueue ..).2 (.at s _ _), (State.keeps_withQueue ..).2 (.at s _ _)⟩
  · refine answers_captureStop hs hn ?_
    rw [he, hf, Bool.and_self, if_pos rfl, captureStop_open (s := s.at (edge16 / 16)) hopen]
    obtain ⟨opened, shown, off, seq, item, lost⟩ :=
      capStopped_capRecord (s.at (edge16 / 16)) hn start (stampOf 127 edge16)
    refine ⟨opened, shown, fun hoff => ?_, fun hon hw => ⟨seq hon hw, fun hrun hst => ?_⟩, fun hon hw => ?_⟩
    · obtain ⟨hc, hr, hk⟩ := off hoff
      exact ⟨hc, (State.keepsRegs_withQueue ..).2 hr, (State.keeps_withQueue ..).2 ((State.keeps_from_at ..).1 hk)⟩
    · exact item hon hw ((capTaken_iff s).2 ⟨hrun, hst⟩)
    · exact lost hon hw

end Sys2Proof.Machine

namespace Sys2Proof.Machine

theorem SMap.look_put {α : Type} (m : List (Nat × α)) (k : Nat) (v : α) : SMap.look (SMap.put m k v) k = some v := by
  unfold SMap.look
  induction m with
  | nil => simp [SMap.put]
  | cons e m ih =>
    obtain ⟨j, w⟩ := e
    simp only [SMap.put]
    split
    · simp
    · split
      · simp
      · next hne _ => rw [List.find?_cons_of_neg (by simpa using Ne.symm hne)]; exact ih

/-! ### PTP messages in clear (R49, R50, R226) -/

/-- The counter TX_OK of an Ethernet-type port (Tables 9.8, 9.11). -/
def okCounter (port : Nat) : Nat := if port < 56 then Reg.T1S_Ss_CNTk (port - 48) 3 else Reg.ETH_Pq_CNTk (port - 56) 8

theorem okCounter_lt {port : Nat} (h : port < 61) : 0x100000 ≤ okCounter port ∧ okCounter port + 4 < 0x190000 := by
  unfold okCounter Reg.T1S_Ss_CNTk Reg.ETH_Pq_CNTk
  split <;> omega

theorem ptpPort_lt (p : Nat) : ptpPort p < 61 := by
  unfold ptpPort
  split
  · omega
  · split <;> omega

/-- Do PTP messages leave a port in clear? -/
def State.ptpClear (s : State) (port : Nat) : Bool := !s.secOn port || s.on (Fld.LSEC_Ll_CTRL_PTP_BYPASS (port - 56))

/-- The registers that a message in clear counts in. -/
def State.sentRegs (s : State) (port : Nat) : List Nat :=
  pair64 (okCounter port) ++ if s.secOn port then pair64 (Reg.LSEC_Ll_CNTk (port - 56) 1) else []

theorem countEth_ok (s : State) (port : Nat) : s.countEth port 8 (some 3) = s.count (okCounter port) := by
  unfold State.countEth okCounter
  split <;> rfl

/-- What the link cipher counts of a frame that has left: TX_PROTECTED or TX_BYPASS. -/
def State.countLane (s : State) (port mark : Nat) : State :=
  if mark = 1 then s.count (Reg.LSEC_Ll_CNTk (port - 56) 0)
  else if mark = 2 then s.count (Reg.LSEC_Ll_CNTk (port - 56) 1)
  else s

theorem countSent_eq (s : State) (port mark : Nat) : s.countSent port mark = (s.count (okCounter port)).countLane port mark := by
  unfold State.countSent
  rw [countEth_ok]
  rfl

theorem count_regs (s : State) (o n : Nat) : s.count o n = { s with regs := (s.count o n).regs } := (rfl)

/-- Counting a frame touches the register file alone. -/
theorem countSent_regs (s : State) (port mark : Nat) : ∃ r, s.countSent port mark = { s with regs := r } := by
  rw [countSent_eq, count_regs s]
  unfold State.countLane
  split
  · exact ⟨_, count_regs _ _ _⟩
  · split
    · exact ⟨_, count_regs _ _ _⟩
    · exact ⟨_, rfl⟩

theorem reg64_countSent (s : State) {port : Nat} (hp : port < 61) (mark : Nat) :
    (s.countSent port mark).reg64 (okCounter port) = (s.reg64 (okCounter port) + 1) % 2 ^ 64 := by
  have hlane : ∀ k, okCounter port + 4 < Reg.LSEC_Ll_CNTk (port - 56) k := fun k =>
    Nat.lt_of_lt_of_le (okCounter_lt hp).2 (by unfold Reg.LSEC_Ll_CNTk; omega)
  rw [countSent_eq]
  unfold State.countLane
  split
  · rw [State.reg64_count_ne _ _ _ _ (.inr (hlane 0)), State.reg64_count]
  · split
    · rw [State.reg64_count_ne _ _ _ _ (.inr (hlane 1)), State.reg64_count]
    · exact State.reg64_count ..

theorem reg_observePort (s : State) (port o : Nat) : (s.observePort port).reg o = s.reg o :=
  State.reg_of_regs (State.observePort_regs s port) o

theorem reg64_observePort (s : State) (port o : Nat) : (s.observePort port).reg64 o = s.reg64 o := by
  unfold State.reg64
  rw [reg_observePort, reg_observePort]

theorem ptpSend_clear {s : State} {port : Nat} (h : s.ptpClear port = true) (kind : Nat) (time : Int) (fields : List Nat) :
    s.ptpSend port kind time fields =
      ((s.emit (.ptp port kind time fields none)).countSent port (SecTx.clear.mark (s.secOn port))).observePort port := by
  have hb : (s.secOn port && !s.on (Fld.LSEC_Ll_CTRL_PTP_BYPASS (port - 56))) = false := by
    rw [State.ptpClear, Bool.or_eq_true] at h
    rcases h with h | h
    · rw [Bool.not_eq_true'] at h
      rw [h, Bool.false_and]
    · rw [h, Bool.not_true, Bool.and_false]
  unfold State.ptpSend State.ptpLeaves State.secSend
  rw [hb]
  rfl

/-- What messages that left a port in clear show: the outputs, TX_OK and TX_BYPASS, and every other register and part. -/
structure PtpSent (s u : State) (port : Nat) (msgs : List Output) : Prop where
  out : u.out = s.out ++ msgs
  ok : u.reg64 (okCounter port) = (s.reg64 (okCounter port) + msgs.length) % 2 ^ 64
  regs : s.keepsRegs u (s.sentRegs port)
  keeps : s.keeps u [.mgt]
  time : u.time = s.time

theorem ptpSent_ptpSend {s : State} {port : Nat} (hp : port < 61) (h : s.ptpClear port = true) (kind : Nat) (time : Int)
    (fields : List Nat) : PtpSent s (s.ptpSend port kind time fields) port [.ptp port kind time fields none] := by
  rw [ptpSend_clear h]
  generalize hx : s.emit (.ptp port kind time fields none) = x
  obtain ⟨r, hr⟩ := countSent_regs x port (SecTx.clear.mark (s.secOn port))
  have hregs : ∀ l, s.keepsRegs x l := fun l => by subst hx; exact fun _ _ => rfl
  have hcount : s.keepsRegs (x.countSent port (SecTx.clear.mark (s.secOn port))) (s.sentRegs port) := by
    rw [countSent_eq]
    unfold State.sentRegs
    cases s.secOn port with
    | false => exact (hregs _).count _ _ (by simp)
    | true => exact ((hregs _).count _ _ fun _ h => List.mem_append_left _ h).count _ _ fun _ h => List.mem_append_right _ h
  refine ⟨?_, ?_, hcount.same (State.observePort_regs ..), ?_, ?_⟩
  · rw [State.observePort_out, hr, ← hx]
    rfl
  · rw [reg64_observePort, reg64_countSent _ hp, ← hx]
    rfl
  · refine State.keeps_back (l := [.mgt]) ?_ (State.keeps_observePort _ port) fun _ h => h
    rw [hr, ← hx]
    exact State.keeps_mono (State.keeps_back (State.keeps_emit s _) (State.keeps_regs _ r) fun _ h => h) (by simp)
  · rw [State.observePort_time, hr, ← hx]
    rfl

theorem secOn_of_live {s u : State} (h : u.live = s.live) (port : Nat) : u.secOn port = s.secOn port := by
  unfold State.secOn State.on State.cur State.liveReg
  rw [h]

theorem PtpSent.live {s u : State} {port : Nat} {msgs : List Output} (h : PtpSent s u port msgs) : u.live = s.live :=
  h.keeps .live (by decide)

theorem PtpSent.clear {s u : State} {port : Nat} {msgs : List Output} (h : PtpSent s u port msgs) :
    u.ptpClear port = s.ptpClear port := by
  unfold State.ptpClear State.secOn State.on State.cur State.liveReg
  rw [h.live]

/-- One message after another. -/
theorem PtpSent.trans {s x u : State} {port : Nat} {a b : List Output} (h : PtpSent s x port a) (g : PtpSent x u port b) :
    PtpSent s u port (a ++ b) where
  out := by rw [g.out, h.out, List.append_assoc]
  ok := by rw [g.ok, h.ok, List.length_append, Nat.mod_add_mod, Nat.add_assoc]
  regs := State.keepsRegs_back h.regs g.regs (by rw [State.sentRegs, secOn_of_live h.live]; exact fun _ h => h)
  keeps := State.keeps_back h.keeps g.keeps fun _ h => h
  time := g.time.trans h.time

/-! ### The statement's words -/

/-- A port has sent some messages, and nothing else has changed but the time unit's marks and the registry. -/
def State.sends (s u : State) (port : Nat) (msgs : List Output) : Prop :=
  u.out = msgs ∧ u.reg64 (okCounter port) = (s.reg64 (okCounter port) + msgs.length) % 2 ^ 64 ∧
    s.keepsRegs u (s.sentRegs port) ∧ s.keeps u [.time, .mgt]

/-- At a command's time a mark may be set, then messages leave. -/
theorem sends_of_ptpSent {s u : State} (t : Tai) {tm : TimeUnit} {port : Nat} {msgs : List Output}
    (h : PtpSent { s.at t with time := tm } u port msgs) (q : List Instr) : s.sends (u.withQueue q) port msgs := by
  obtain ⟨hout, hok, hregs, hkeeps, _⟩ := h
  have hx : s.keeps { s.at t with time := tm } [.time, .mgt] := State.keeps_time _ (.at s t _) (by decide)
  exact ⟨hout, hok, hregs, (State.keeps_withQueue ..).2 (State.keeps_back hx hkeeps (by decide))⟩

/-- What the time unit notes beside is its own. -/
theorem State.sends.timed {s u : State} {port : Nat} {msgs : List Output} (h : s.sends u port msgs) (tm : TimeUnit) :
    s.sends { u with time := tm } port msgs := by
  obtain ⟨hout, hok, hregs, hkeeps⟩ := h
  exact ⟨hout, hok, hregs, State.keeps_time _ hkeeps (by decide)⟩

/-! ### A protected lane (R226, R227) -/

theorem setPn_shows (s : State) (off v : Nat) :
    (s.setPn off v).live64 off = v % 2 ^ 64 ∧ (s.setPn off v).out = s.out ∧ s.keepsRegs (s.setPn off v) (pair64 off) := by
  have hlive : ∀ u : State, u.live = ((s.setLive off (BitVec.ofNat 32 v)).setLive (off + 4) (BitVec.ofNat 32 (v / 2 ^ 32))).live →
      u.live64 off = v % 2 ^ 64 := fun u hu => by
    unfold State.live64
    rw [State.liveReg_of_live hu, State.liveReg_of_live hu, State.liveReg_setLive, State.liveReg_setLive,
      State.liveReg_setLive, if_neg (by omega), if_pos rfl, if_pos rfl, BitVec.toNat_ofNat, BitVec.toNat_ofNat]
    omega
  unfold State.setPn
  dsimp only
  split
  · exact ⟨hlive _ rfl, rfl, fun _ _ => rfl⟩
  · exact ⟨hlive _ rfl, rfl, State.keepsRegs_setReg64 _ off v⟩

/-- The threshold of a transmit SA is told once (R227). -/
def State.pnTold (s : State) (l a pn : Nat) : State :=
  if s.live64 (Reg.LSEC_Ll_PN_THR l) ≤ pn + 1 ∧ s.eth.told.contains (4 * l + a) = false then
    ({ s with eth := { s.eth with told := (4 * l + a) :: s.eth.told } }).raise 0x0D01 (unitOf 1 (56 + l)) [n4 l, n4 a, n8 (pn + 1)]
  else s

/-- The last packet number of a transmit SA exhausts it (R227). -/
def State.pnLast (s : State) (l a pn : Nat) : State :=
  if s.maxPn l ≤ pn then
    (s.put (Fld.LSEC_TXSA_CTRL_EXHAUSTED l a) 1).raise 0x0D02 (unitOf 1 (56 + l)) [n4 l, n4 a]
  else s

theorem secTake_invalid {s : State} {l a : Nat} (ha : s.cur (Fld.LSEC_Ll_CTRL_TX_AN l) = a)
    (h : s.cur (Fld.LSEC_TXSA_CTRL_VALID l a) = 0) (n : Nat) : s.secTake l n = (.refused 2, s) := by
  subst ha
  exact if_pos h

theorem secTake_valid {s : State} {l a pn : Nat} (ha : s.cur (Fld.LSEC_Ll_CTRL_TX_AN l) = a)
    (hv : s.cur (Fld.LSEC_TXSA_CTRL_VALID l a) ≠ 0) (he : s.get (Fld.LSEC_TXSA_CTRL_EXHAUSTED l a) = 0)
    (hpn : s.live64 (Reg.LSEC_TXSA_PN l a) = pn) (n : Nat) : ∃ plan : SecPlan,
      s.secTake l n = (.secured plan, ((s.setPn (Reg.LSEC_TXSA_PN l a) (pn + 1)).pnTold l a pn).pnLast l a pn) ∧
        plan.an = a ∧ plan.pn = pn := by
  subst ha hpn
  unfold State.secTake State.pnLast State.pnTold
  rw [if_neg hv, if_neg (by rw [he]; decide)]
  extract_lets pn sci conf plan x y z
  exact ⟨plan, rfl, rfl, rfl⟩

/-- The registers that a frame changes on its way through a transmit SA. -/
def takenRegs (l a : Nat) : List Nat := Reg.LSEC_TXSA_CTRL l a :: (pair64 (Reg.LSEC_TXSA_PN l a) ++ dropCounters)

/-- A counter of Ethernet frames is none of them. -/
theorem not_mem_takenRegs {l a o : Nat} (hl : l < 4) (ha : a < 4) (ho : 0x100000 ≤ o ∧ o < 0x190000 ∨ 0x194000 ≤ o ∧ o < 0x195000) :
    o ∉ takenRegs l a := fun h => by
  simp only [takenRegs, dropCounters, pair64, List.mem_cons, List.mem_append, List.not_mem_nil, or_false,
    Reg.LSEC_TXSA_CTRL, Reg.LSEC_TXSA_PN, Reg.NVM_CNTk, Reg.HIF_RXn_DROP] at h
  omega

/-- What a frame through a transmit SA leaves. -/
structure PnTaken (s u : State) (l a pn : Nat) : Prop where
  pn : u.live64 (Reg.LSEC_TXSA_PN l a) = (pn + 1) % 2 ^ 64
  out : u.out = s.out
  regs : s.keepsRegs u (takenRegs l a)

theorem PnTaken.raise {s x y : State} {l a pn : Nat} (h : PnTaken s x l a pn) (hl : y.live = x.live) (ho : y.out = x.out)
    (hr : x.keepsRegs y [Reg.LSEC_TXSA_CTRL l a]) (c u : Nat) (d : List Detail) : PnTaken s (y.raise c u d) l a pn where
  pn := by
    have hlive : (y.raise c u d).live = x.live := (State.raise_live ..).trans hl
    rw [← h.pn]
    unfold State.live64
    rw [State.liveReg_of_live hlive, State.liveReg_of_live hlive]
  out := ((State.raise_out ..).trans ho).trans h.out
  regs := (State.keepsRegs_back h.regs hr (by simp [takenRegs])).raise _ _ _ (by simp [takenRegs, dropCounters])

theorem PnTaken.told {s x : State} {l a pn : Nat} (h : PnTaken s x l a pn) : PnTaken s (x.pnTold l a pn) l a pn := by
  unfold State.pnTold
  split
  · refine h.raise ?_ ?_ ?_ _ _ _
    exacts [rfl, rfl, fun _ _ => rfl]
  · exact h

theorem PnTaken.last {s x : State} {l a pn : Nat} (h : PnTaken s x l a pn) : PnTaken s (x.pnLast l a pn) l a pn := by
  unfold State.pnLast
  split
  · exact h.raise (State.put_live ..) (State.put_out ..) (State.keepsRegs_put _ (Fld.LSEC_TXSA_CTRL_EXHAUSTED l a) 1) _ _ _
  · exact h

theorem pnTaken_setPn (s : State) (l a pn : Nat) : PnTaken s (s.setPn (Reg.LSEC_TXSA_PN l a) (pn + 1)) l a pn := by
  obtain ⟨hlive, hout, hregs⟩ := setPn_shows s (Reg.LSEC_TXSA_PN l a) (pn + 1)
  exact ⟨hlive, hout, State.keepsRegs_mono hregs fun _ h => .tail _ (List.mem_append_left _ h)⟩

theorem State.cur_lt (s : State) (f : Fld) : s.cur f < 2 ^ (f.hi + 1 - f.lo) := Nat.mod_lt _ (Nat.two_pow_pos _)

/-- What a protected message leaves. -/
structure PtpSecured (s u : State) (port l a pn : Nat) (msg : Output) : Prop where
  out : u.out = s.out ++ [msg]
  pn : u.live64 (Reg.LSEC_TXSA_PN l a) = (pn + 1) % 2 ^ 64
  ok : u.reg64 (okCounter port) = (s.reg64 (okCounter port) + 1) % 2 ^ 64
  lane : u.reg64 (Reg.LSEC_Ll_CNTk l 0) = (s.reg64 (Reg.LSEC_Ll_CNTk l 0) + 1) % 2 ^ 64

/-- Messages of a protected lane do not leave in clear. -/
theorem secOn_of_not_clear {s : State} {port : Nat} (h : s.ptpClear port = false) :
    56 ≤ port ∧ port < 60 ∧ s.secOn port = true ∧ s.on (Fld.LSEC_Ll_CTRL_PTP_BYPASS (port - 56)) = false := by
  rw [State.ptpClear, Bool.or_eq_false_iff, Bool.not_eq_false'] at h
  obtain ⟨hsec, hby⟩ := h
  have hport := hsec
  unfold State.secOn at hport
  rw [Bool.and_eq_true, decide_eq_true_eq] at hport
  exact ⟨hport.1.1, hport.1.2, hsec, hby⟩

theorem secSend_protected {s : State} {port : Nat} (h : s.ptpClear port = false) (n : Nat) :
    s.secSend port (s.on (Fld.LSEC_Ll_CTRL_PTP_BYPASS (port - 56))) n = s.secTake (port - 56) n := by
  obtain ⟨_, _, hsec, hby⟩ := secOn_of_not_clear h
  unfold State.secSend
  rw [hsec, hby]
  rfl

theorem ptpSend_invalid {s : State} {port a : Nat} (h : s.ptpClear port = false)
    (ha : s.cur (Fld.LSEC_Ll_CTRL_TX_AN (port - 56)) = a) (hv : s.cur (Fld.LSEC_TXSA_CTRL_VALID (port - 56) a) = 0)
    (kind : Nat) (time : Int) (fields : List Nat) :
    s.ptpSend port kind time fields = s.count (Reg.LSEC_Ll_CNTk (port - 56) 2) := by
  unfold State.ptpSend State.ptpLeaves
  rw [secSend_protected h, secTake_invalid ha hv]

theorem ptpSecured_ptpSend {s : State} {port a pn : Nat} (h : s.ptpClear port = false)
    (ha : s.cur (Fld.LSEC_Ll_CTRL_TX_AN (port - 56)) = a) (hv : s.cur (Fld.LSEC_TXSA_CTRL_VALID (port - 56) a) ≠ 0)
    (he : s.get (Fld.LSEC_TXSA_CTRL_EXHAUSTED (port - 56) a) = 0) (hpn : s.live64 (Reg.LSEC_TXSA_PN (port - 56) a) = pn)
    (kind : Nat) (time : Int) (fields : List Nat) :
    PtpSecured s (s.ptpSend port kind time fields) port (port - 56) a pn (.ptp port kind time fields (some (a, pn))) := by
  obtain ⟨hlo, hhi, _, _⟩ := secOn_of_not_clear h
  have hport : port < 61 := by omega
  have hl : port - 56 < 4 := by omega
  have ha4 : a < 4 := by rw [← ha]; exact State.cur_lt s _
  have hokc := okCounter_lt hport
  have hlane : Reg.LSEC_Ll_CNTk (port - 56) 0 = 0x194000 + 0x100 * (port - 56) := rfl
  obtain ⟨plan, htake, hpa, hpp⟩ := secTake_valid ha hv he hpn 48
  have hx := ((pnTaken_setPn s (port - 56) a pn).told).last
  unfold State.ptpSend State.ptpLeaves
  rw [secSend_protected h, htake]
  dsimp only
  rw [hpa, hpp]
  generalize State.pnLast _ _ _ _ = x at hx
  obtain ⟨hxpn, hxout, hxregs⟩ := hx
  obtain ⟨r, hr⟩ := countSent_regs (x.emit (.ptp port kind time fields (some (a, pn)))) port 1
  refine ⟨?_, ?_, ?_, ?_⟩
  · rw [State.observePort_out, hr, ← hxout]
    rfl
  · rw [← hxpn]
    unfold State.live64 State.liveReg
    rw [State.observePort_live, hr]
    rfl
  · rw [reg64_observePort, reg64_countSent _ hport, ← hxregs.reg64 (not_mem_takenRegs hl ha4 (by omega))
      (not_mem_takenRegs hl ha4 (by omega))]
    rfl
  · have hlanes : (x.emit (.ptp port kind time fields (some (a, pn)))).reg64 (Reg.LSEC_Ll_CNTk (port - 56) 0) =
        s.reg64 (Reg.LSEC_Ll_CNTk (port - 56) 0) :=
      hxregs.reg64 (not_mem_takenRegs hl ha4 (by omega)) (not_mem_takenRegs hl ha4 (by omega))
    rw [reg64_observePort, countSent_eq, State.countLane, if_pos rfl, State.reg64_count, State.reg64_count_ne _ _ _ _ (by omega),
      hlanes]

/-! ### The commands -/

/-- The time of a port's last Announce, Sync or delay request. -/
def State.annMarked (s : State) (p : Nat) : State :=
  { s with time := { s.time with annSent := SMap.put s.time.annSent p s.time.now } }
def State.syncMarked (s : State) (p : Nat) : State :=
  { s with time := { s.time with syncSent := SMap.put s.time.syncSent p s.time.now } }
def State.reqMarked (s : State) (p : Nat) : State :=
  { s with time := { s.time with reqSent := SMap.put s.time.reqSent p s.time.now } }

theorem reg64_withQueue (s : State) (q : List Instr) (o : Nat) : (s.withQueue q).reg64 o = s.reg64 o := (rfl)

/-- Is a port's Announce, Sync or delay request due? -/
def State.annDue (s : State) (p : Nat) : Bool :=
  s.intervalOver s.time.annSent p (intervalNs (s.cur (Fld.TIME_PORTp_LOG_ANNOUNCE p)))
def State.syncDue (s : State) (p : Nat) : Bool :=
  s.intervalOver s.time.syncSent p (intervalNs (s.cur (Fld.TIME_PORTp_LOG_SYNC p)))
def State.reqDue (s : State) (p : Nat) : Bool :=
  s.intervalOver s.time.reqSent p (intervalNs (s.cur (Fld.TIME_PORTp_LOG_DELAY p)))

theorem answers_announceTransmit {s : State} {p : Nat} {t : Tai} {P : State → Prop} (hs : s.up = true) (hp : p < 13)
    (h : P ((if s.ptpMaster p ∧ (s.at t).annDue p = true then
      ((s.at t).annMarked p).ptpSend (ptpPort p) 2 t s.announceFields else s.at t).withQueue s.pending)) :
    answers (exec (.announceTransmit p t) s) P :=
  answers_effect (m := "ANNOUNCE_TRANSMIT") hs (decide_eq_true hp) h

/-- A Sync with its own stamp, or a Sync and its Follow_Up (R49). -/
def State.syncSend (s : State) (p : Nat) (out : Int) : State :=
  if p < 4 ∧ s.on (Fld.TIME_PORTp_ONE_STEP p) then s.ptpSend (ptpPort p) 0 out []
  else (s.ptpSend (ptpPort p) 0 0 []).ptpSend (ptpPort p) 1 out []

theorem answers_syncTransmit {s : State} {p edge16 : Nat} {t : Tai} {P : State → Prop} (hs : s.up = true) (hp : p < 13)
    (h : P ((if s.ptpMaster p ∧ (s.at t).syncDue p = true then
      ((s.at t).syncMarked p).syncSend p (s.ptpOut p edge16 : Tai) else s.at t).withQueue s.pending)) :
    answers (exec (.syncTransmit p edge16 t) s) P :=
  answers_effect (m := "SYNC_TRANSMIT") hs (decide_eq_true hp) h

theorem answers_ptpDelayRequest {s : State} {p edge16 : Nat} {t : Tai} {P : State → Prop} (hs : s.up = true) (hp : p < 13)
    (h : P ((if s.on (Fld.TIME_PORTp_P2P p) = true ∧ ¬(4 ≤ p ∧ p ≤ 11) then
        (if s.ptpOn p ∧ s.ptpUp p then (s.at t).ptpSend (ptpPort p) 5 (s.ptpIn p edge16 : Tai) [] else s.at t)
      else if s.ptpMaster p then (s.at t).ptpSend (ptpPort p) 4 (s.ptpIn p edge16 : Tai) [] else s.at t).withQueue s.pending)) :
    answers (exec (.ptpDelayRequest p edge16 t) s) P :=
  answers_effect (m := "PTP_DELAY_REQUEST") hs (decide_eq_true hp) h

/-- The path delay that an answered request measures (Table 3.2): half the round trip less the correction. -/
def meanDelay (peer : Bool) (gap : Option Rat) (sent got : Int) (arrived back : Nat) (corr : Int) : Option Rat :=
  if peer then some ((((got - sent) - ((back : Int) - (arrived : Int)) : Int) - (corr : Rat) / 65536) / 2)
  else gap.map fun (g : Rat) => (g + ((arrived : Int) - sent : Int) - (corr : Rat) / 65536) / 2

/-- A measured path delay is the port's. -/
def State.delayNoted (s : State) (p : Nat) (mean : Option Rat) : State :=
  match mean with
  | none => s
  | some d => { s with time := { s.time with delay := SMap.set 0 s.time.delay p d } }

/-- A delay request's answer, where one came: when the request arrived, when the answer left, the correction and the capture
of its arrival. -/
def State.answered (s : State) (p : Nat) (peer : Bool) (sent : Int) : Option (Nat × Nat × Int × Nat) → State
  | none => s
  | some (arrived, back, corr, in16) =>
    s.delayNoted p (meanDelay peer (SMap.look s.time.syncGap p) sent (s.ptpIn p in16 : Tai) arrived back corr)

/-- Does a port ask for its path delay: enabled, up, no T1S port, and with the peer delay mechanism or of the master? -/
def State.asks (s : State) (p : Nat) : Prop :=
  s.ptpOn p = true ∧ s.ptpUp p = true ∧ ¬(4 ≤ p ∧ p ≤ 11) ∧
    (s.on (Fld.TIME_PORTp_P2P p) = true ∨ s.masterPort = ptpPort p)

theorem answers_delayReqInterval {s : State} {p edge16 : Nat} {resp : Option (Nat × Nat × Int × Nat)} {t : Tai}
    {P : State → Prop} (hs : s.up = true) (hp : p < 13) (ha : s.asks p) (hd : (s.at t).reqDue p = true)
    (h : P (((((s.at t).reqMarked p).ptpSend (ptpPort p) 3 (s.ptpOut p edge16 : Tai) []).answered p
      (s.on (Fld.TIME_PORTp_P2P p)) (s.ptpOut p edge16 : Tai) resp).withQueue s.pending)) :
    answers (exec (.delayReqInterval p edge16 resp t) s) P := by
  obtain ⟨hon, hup, hne, hm⟩ := ha
  refine answers_effect (m := "DELAY_REQ_INTERVAL") hs (decide_eq_true hp) ?_
  have hc : (s.at t).ptpOn p ∧ (s.at t).ptpUp p ∧ ¬(4 ≤ p ∧ p ≤ 11) ∧
      ((s.at t).on (Fld.TIME_PORTp_P2P p) = true ∨ (s.at t).masterPort = ptpPort p) ∧
      (s.at t).intervalOver (s.at t).time.reqSent p (intervalNs ((s.at t).cur (Fld.TIME_PORTp_LOG_DELAY p))) = true :=
    ⟨hon, hup, hne, hm, hd⟩
  rw [if_pos hc]
  cases resp with
  | none => exact h
  | some r => exact h

theorem delayNoted_time (s : State) (p : Nat) (m : Option Rat) : ∃ tm, s.delayNoted p m = { s with time := tm } := by
  cases m with
  | none => exact ⟨_, rfl⟩
  | some d => exact ⟨_, rfl⟩

theorem delay_delayNoted {s : State} {p : Nat} {d : Rat} {m : Option Rat} (h : m = some d) :
    SMap.get 0 (s.delayNoted p m).time.delay p = d := by
  subst h
  exact (SMap.get_set ..).trans (if_pos rfl)

theorem reqSent_delayNoted (s : State) (p : Nat) (m : Option Rat) : (s.delayNoted p m).time.reqSent = s.time.reqSent := by
  cases m <;> rfl

/-- The stamps of a port depend on the values in force and on the asymmetries remembered. -/
theorem PtpSent.ptpIn {s u : State} {port : Nat} {msgs : List Output} (h : PtpSent s u port msgs) (p edge16 : Nat) :
    u.ptpIn p edge16 = s.ptpIn p edge16 := by
  unfold State.ptpIn State.stampIn State.asymAt State.liveReg
  rw [h.time, h.live]

/-- A command that did nothing but bring its time. -/
theorem unchanged_at (s : State) (t : Tai) (q : List Instr) :
    ((s.at t).withQueue q).out = [] ∧ s.keepsRegs ((s.at t).withQueue q) [] ∧ s.keeps ((s.at t).withQueue q) [] :=
  ⟨rfl, (State.keepsRegs_withQueue ..).2 (.at s t _), (State.keeps_withQueue ..).2 (.at s t _)⟩

/-- A Sync leaves in clear, with its stamp or before its Follow_Up. -/
theorem ptpSent_syncSend {s : State} {p : Nat} (h : s.ptpClear (ptpPort p) = true) (out : Int) :
    PtpSent s (s.syncSend p out) (ptpPort p) (if p < 4 ∧ s.on (Fld.TIME_PORTp_ONE_STEP p) then [.ptp (ptpPort p) 0 out [] none]
      else [.ptp (ptpPort p) 0 0 [] none, .ptp (ptpPort p) 1 out [] none]) := by
  unfold State.syncSend
  split
  · exact ptpSent_ptpSend (ptpPort_lt p) h ..
  · have hsync := ptpSent_ptpSend (ptpPort_lt p) h 0 0 []
    exact hsync.trans (ptpSent_ptpSend (ptpPort_lt p) (hsync.clear.trans h) ..)

section
variable {s : State} {p edge16 : Nat} {t : Tai}

theorem announceTransmit_clear (hs : s.up = true) (hp : p < 13) (hm : s.ptpMaster p = true)
    (hc : s.ptpClear (ptpPort p) = true) (hd : (s.at t).annDue p = true) :
    answers (exec (.announceTransmit p t) s) fun u => s.sends u (ptpPort p) [.ptp (ptpPort p) 2 t s.announceFields none] ∧
      SMap.look u.time.annSent p = some (max s.time.now t) := by
  refine answers_announceTransmit hs hp ?_
  have hsent := ptpSent_ptpSend (s := (s.at t).annMarked p) (ptpPort_lt p) hc 2 t s.announceFields
  rw [if_pos ⟨hm, hd⟩]
  exact ⟨sends_of_ptpSent t hsent _, (congrArg (fun x : TimeUnit => SMap.look x.annSent p) hsent.time).trans (SMap.look_put ..)⟩

theorem announceTransmit_invalid (hs : s.up = true) (hp : p < 13) (hm : s.ptpMaster p = true)
    (hc : s.ptpClear (ptpPort p) = false) (hd : (s.at t).annDue p = true)
    (hv : s.cur (Fld.LSEC_TXSA_CTRL_VALID (ptpPort p - 56) (s.cur (Fld.LSEC_Ll_CTRL_TX_AN (ptpPort p - 56)))) = 0) :
    answers (exec (.announceTransmit p t) s) fun u => u.out = [] ∧ u.reg64 (Reg.LSEC_Ll_CNTk (ptpPort p - 56) 2) =
      (s.reg64 (Reg.LSEC_Ll_CNTk (ptpPort p - 56) 2) + 1) % 2 ^ 64 ∧
        s.keepsRegs u (pair64 (Reg.LSEC_Ll_CNTk (ptpPort p - 56) 2)) ∧ s.keeps u [.time] := by
  refine answers_announceTransmit hs hp ?_
  have hk : s.keeps ((s.at t).annMarked p) [.time] := State.keeps_time _ (.at s t _) (by decide)
  rw [if_pos ⟨hm, hd⟩, ptpSend_invalid (s := (s.at t).annMarked p) hc rfl hv]
  have hout : (((s.at t).annMarked p).count (Reg.LSEC_Ll_CNTk (ptpPort p - 56) 2)).out = [] := State.count_out ..
  have hcount := State.reg64_count ((s.at t).annMarked p) (Reg.LSEC_Ll_CNTk (ptpPort p - 56) 2) 1
  have hregs := State.keepsRegs_count ((s.at t).annMarked p) (Reg.LSEC_Ll_CNTk (ptpPort p - 56) 2) 1
  exact ⟨hout, (reg64_withQueue ..).trans hcount, (State.keepsRegs_withQueue ..).2 hregs,
    (State.keeps_withQueue ..).2 (hk.count _ _)⟩

theorem announceTransmit_idle (hs : s.up = true) (hp : p < 13) (h : s.ptpMaster p = false ∨ (s.at t).annDue p = false) :
    answers (exec (.announceTransmit p t) s) fun u => u.out = [] ∧ s.keepsRegs u [] ∧ s.keeps u [] := by
  refine answers_announceTransmit hs hp ?_
  rw [if_neg (by rcases h with h | h <;> simp [h])]
  exact unchanged_at s t _

theorem syncTransmit_clear (hs : s.up = true) (hp : p < 13) (hm : s.ptpMaster p = true)
    (hc : s.ptpClear (ptpPort p) = true) (hd : (s.at t).syncDue p = true) :
    answers (exec (.syncTransmit p edge16 t) s) fun u => s.sends u (ptpPort p)
      (if p < 4 ∧ s.on (Fld.TIME_PORTp_ONE_STEP p) then [.ptp (ptpPort p) 0 (s.ptpOut p edge16 : Tai) [] none]
        else [.ptp (ptpPort p) 0 0 [] none, .ptp (ptpPort p) 1 (s.ptpOut p edge16 : Tai) [] none]) ∧
      SMap.look u.time.syncSent p = some (max s.time.now t) := by
  refine answers_syncTransmit hs hp ?_
  have hsent := ptpSent_syncSend (s := (s.at t).syncMarked p) hc (s.ptpOut p edge16 : Tai)
  rw [if_pos ⟨hm, hd⟩]
  exact ⟨sends_of_ptpSent t hsent _, (congrArg (fun x : TimeUnit => SMap.look x.syncSent p) hsent.time).trans (SMap.look_put ..)⟩

theorem syncTransmit_idle (hs : s.up = true) (hp : p < 13) (h : s.ptpMaster p = false ∨ (s.at t).syncDue p = false) :
    answers (exec (.syncTransmit p edge16 t) s) fun u => u.out = [] ∧ s.keepsRegs u [] ∧ s.keeps u [] := by
  refine answers_syncTransmit hs hp ?_
  rw [if_neg (by rcases h with h | h <;> simp [h])]
  exact unchanged_at s t _

/-- Does a port use the peer delay mechanism? A T1S port does not. -/
def State.peerDelay (s : State) (p : Nat) : Bool := s.on (Fld.TIME_PORTp_P2P p) && !decide (4 ≤ p ∧ p ≤ 11)

theorem peerDelay_iff (s : State) (p : Nat) :
    s.peerDelay p = true ↔ s.on (Fld.TIME_PORTp_P2P p) = true ∧ ¬(4 ≤ p ∧ p ≤ 11) := by
  unfold State.peerDelay
  rw [Bool.and_eq_true, Bool.not_eq_true', decide_eq_false_iff_not]

theorem not_peerDelay {s : State} {p : Nat} (h : s.peerDelay p = false) :
    ¬(s.on (Fld.TIME_PORTp_P2P p) = true ∧ ¬(4 ≤ p ∧ p ≤ 11)) := by
  rw [← peerDelay_iff, h]
  decide

/-- A response that a port sends at once. -/
theorem response_sends (hc : s.ptpClear (ptpPort p) = true) (t : Tai) (kind : Nat) (stamp : Int) (q : List Instr) :
    s.sends (((s.at t).ptpSend (ptpPort p) kind stamp []).withQueue q) (ptpPort p) [.ptp (ptpPort p) kind stamp [] none] :=
  sends_of_ptpSent t (tm := (s.at t).time) (ptpSent_ptpSend (s := s.at t) (ptpPort_lt p) hc kind stamp []) q

theorem ptpDelayRequest_peer (hs : s.up = true) (hp : p < 13) (hpeer : s.peerDelay p = true) (hon : s.ptpOn p = true)
    (hup : s.ptpUp p = true) (hc : s.ptpClear (ptpPort p) = true) :
    answers (exec (.ptpDelayRequest p edge16 t) s) fun u =>
      s.sends u (ptpPort p) [.ptp (ptpPort p) 5 (s.ptpIn p edge16 : Tai) [] none] := by
  refine answers_ptpDelayRequest hs hp ?_
  rw [if_pos ((peerDelay_iff s p).1 hpeer), if_pos ⟨hon, hup⟩]
  exact response_sends hc ..

theorem ptpDelayRequest_master (hs : s.up = true) (hp : p < 13) (hpeer : s.peerDelay p = false) (hm : s.ptpMaster p = true)
    (hc : s.ptpClear (ptpPort p) = true) :
    answers (exec (.ptpDelayRequest p edge16 t) s) fun u =>
      s.sends u (ptpPort p) [.ptp (ptpPort p) 4 (s.ptpIn p edge16 : Tai) [] none] := by
  refine answers_ptpDelayRequest hs hp ?_
  rw [if_neg (not_peerDelay hpeer), if_pos hm]
  exact response_sends hc ..

theorem ptpDelayRequest_idle (hs : s.up = true) (hp : p < 13) (hpeer : s.peerDelay p = false) (hm : s.ptpMaster p = false) :
    answers (exec (.ptpDelayRequest p edge16 t) s) fun u => u.out = [] ∧ s.keepsRegs u [] ∧ s.keeps u [] := by
  refine answers_ptpDelayRequest hs hp ?_
  rw [if_neg (not_peerDelay hpeer), if_neg (by simp [hm])]
  exact unchanged_at s t _

/-- A delay request that has left a port. -/
def State.asked (s : State) (p : Nat) (t : Tai) (sent : Int) : State := ((s.at t).reqMarked p).ptpSend (ptpPort p) 3 sent []

theorem ptpSent_asked (hc : s.ptpClear (ptpPort p) = true) (t : Tai) (sent : Int) :
    PtpSent ((s.at t).reqMarked p) (s.asked p t sent) (ptpPort p) [.ptp (ptpPort p) 3 sent [] none] :=
  ptpSent_ptpSend (s := (s.at t).reqMarked p) (ptpPort_lt p) hc 3 sent []

/-- A request left in clear and is marked, whatever path delay its answer gave. -/
theorem asked_sends (hc : s.ptpClear (ptpPort p) = true) (t : Tai) (sent : Int) (q : List Instr) (m : Option Rat) :
    s.sends (((s.asked p t sent).delayNoted p m).withQueue q) (ptpPort p) [.ptp (ptpPort p) 3 sent [] none] ∧
      SMap.look ((s.asked p t sent).delayNoted p m).time.reqSent p = some (max s.time.now t) := by
  have hsent := ptpSent_asked hc t sent
  obtain ⟨tm, htm⟩ := delayNoted_time (s.asked p t sent) p m
  refine ⟨?_, ?_⟩
  · rw [htm]
    exact (sends_of_ptpSent t hsent q).timed tm
  · rw [reqSent_delayNoted, hsent.time]
    exact SMap.look_put ..

theorem delayReqInterval_unanswered (hs : s.up = true) (hp : p < 13) (ha : s.asks p) (hd : (s.at t).reqDue p = true)
    (hc : s.ptpClear (ptpPort p) = true) :
    answers (exec (.delayReqInterval p edge16 none t) s) fun u =>
      s.sends u (ptpPort p) [.ptp (ptpPort p) 3 (s.ptpOut p edge16 : Tai) [] none] ∧
        SMap.look u.time.reqSent p = some (max s.time.now t) :=
  answers_delayReqInterval hs hp ha hd (asked_sends hc t _ _ none)

theorem delayReqInterval_answered (hs : s.up = true) (hp : p < 13) (ha : s.asks p) (hd : (s.at t).reqDue p = true)
    (hc : s.ptpClear (ptpPort p) = true) (arrived back in16 : Nat) (corr : Int) :
    answers (exec (.delayReqInterval p edge16 (some (arrived, back, corr, in16)) t) s) fun u =>
      s.sends u (ptpPort p) [.ptp (ptpPort p) 3 (s.ptpOut p edge16 : Tai) [] none] ∧
        ∀ d, meanDelay (s.on (Fld.TIME_PORTp_P2P p)) (SMap.look s.time.syncGap p) (s.ptpOut p edge16 : Tai)
          (s.ptpIn p in16 : Tai) arrived back corr = some d → SMap.get 0 u.time.delay p = d := by
  refine answers_delayReqInterval hs hp ha hd ⟨(asked_sends hc t _ _ _).1, fun d h => delay_delayNoted ?_⟩
  have hsent := ptpSent_asked hc t (s.ptpOut p edge16 : Tai)
  have hgap := congrArg TimeUnit.syncGap hsent.time
  rw [← h]
  exact congrArg₂ (fun g (i : Tai) => meanDelay (s.on (Fld.TIME_PORTp_P2P p)) (SMap.look g p) (s.ptpOut p edge16 : Tai)
    i arrived back corr) hgap (hsent.ptpIn p in16)

end

/-- Settles O37: each command sends its messages in clear or through the lane's transmit SA, or does nothing. -/
theorem ptpMessagesCarryTheirTimes : Obligations.PtpMessagesCarryTheirTimes := by
  intro p edge16 t s hs hp
  refine ⟨fun hm hc => ⟨fun hd => announceTransmit_clear hs hp hm hc hd, fun hd => syncTransmit_clear hs hp hm hc hd,
      fun hpeer => ptpDelayRequest_master hs hp hpeer hm hc⟩,
    fun hm hc hd => ⟨fun hv => announceTransmit_invalid hs hp hm hc hd hv, fun hv he => ?_⟩,
    fun hno => announceTransmit_idle hs hp hno, fun hno => syncTransmit_idle hs hp hno,
    fun hpeer hm => ptpDelayRequest_idle hs hp hpeer hm, fun hpeer hon hup hc => ptpDelayRequest_peer hs hp hpeer hon hup hc,
    fun hon hup hne hask hd hc => ⟨delayReqInterval_unanswered hs hp ⟨hon, hup, hne, hask⟩ hd hc,
      fun arrived back in16 corr => ?_⟩⟩
  · refine answers_announceTransmit hs hp ?_
    have hdue : s.ptpMaster p = true ∧ (s.at t).annDue p = true := ⟨hm, hd⟩
    obtain ⟨hout, hpn, hok, hlane⟩ :=
      ptpSecured_ptpSend (s := (s.at t).annMarked p) hc rfl hv he rfl 2 t s.announceFields
    rw [if_pos hdue]
    exact ⟨hout, hpn, hok, hlane⟩
  · refine answers_mono (delayReqInterval_answered hs hp ⟨hon, hup, hne, hask⟩ hd hc arrived back in16 corr)
      fun u ⟨hsends, hdelay⟩ => ⟨hsends, fun hpeer => hdelay _ ?_, fun hpeer gap hgap => hdelay _ ?_⟩
    · rw [hpeer]
      rfl
    · rw [hpeer, hgap]
      rfl

end Sys2Proof.Machine

namespace Sys2Proof.Machine

/-! ### What the time unit's own work leaves -/

/-- The work of the time unit changes registers of a list, itself and what events change; a view of it stays. -/
structure TimeWork {α : Type} (l : List Nat) (view : TimeUnit → α) (s u : State) : Prop where
  regs : s.keepsRegs u l
  keeps : s.keeps u (.time :: eventParts)
  view : view u.time = view s.time

section
variable {α : Type} {l : List Nat} {view : TimeUnit → α} {s x u : State}

theorem TimeWork.refl (l : List Nat) (view : TimeUnit → α) (s : State) : TimeWork l view s s :=
  ⟨fun _ _ => rfl, State.keeps_mono (State.keeps_refl s) (by simp), rfl⟩

theorem TimeWork.trans (h : TimeWork l view s x) (g : TimeWork l view x u) : TimeWork l view s u :=
  ⟨State.keepsRegs_back h.regs g.regs fun _ h => h, State.keeps_back h.keeps g.keeps fun _ h => h, g.view.trans h.view⟩

theorem TimeWork.put (h : TimeWork l view s x) (f : Fld) (v : Nat) (hf : f.off ∈ l) : TimeWork l view s (x.put f v) :=
  ⟨h.regs.put f v hf, h.keeps.put f v, h.view⟩

theorem TimeWork.setReg (h : TimeWork l view s x) {o : Nat} (v : Word) (ho : o ∈ l) : TimeWork l view s (x.setReg o v) :=
  ⟨h.regs.setReg v ho, h.keeps.setReg o v, h.view⟩

theorem TimeWork.setReg64 (h : TimeWork l view s x) (o v : Nat) (ho : ∀ a ∈ pair64 o, a ∈ l) :
    TimeWork l view s (x.setReg64 o v) := ⟨h.regs.setReg64 o v ho, h.keeps.setReg64 o v, h.view⟩

theorem TimeWork.raise (h : TimeWork l view s x) (c u : Nat) (d : List Detail) (hl : ∀ o ∈ dropCounters, o ∈ l) :
    TimeWork l view s (x.raise c u d) :=
  ⟨h.regs.raise c u d hl, h.keeps.raise c u d fun _ h => .tail _ h, by rw [State.raise_time]; exact h.view⟩

theorem TimeWork.time (h : TimeWork l view s x) {tm : TimeUnit} (ht : view tm = view x.time) :
    TimeWork l view s { x with time := tm } := ⟨h.regs, State.keeps_time _ h.keeps (by decide), ht.trans h.view⟩

theorem TimeWork.showServo (h : TimeWork l view s x) (hf : Reg.TIME_FREQ ∈ l) (ht : Reg.TIME_STATUS ∈ l) :
    TimeWork l view s x.showServo := by
  unfold State.showServo
  exact (h.setReg _ hf).put Fld.TIME_STATUS_SLEW_CLAMPED _ ht

theorem TimeWork.servoRun (h : TimeWork l view s x) (hf : Reg.TIME_FREQ ∈ l) (ht : Reg.TIME_STATUS ∈ l)
    (hv : ∀ (t : TimeUnit) r rAt added, view { t with r := r, rAt := rAt, added := added } = view t) :
    TimeWork l view s x.servoRun := (h.time (hv ..)).showServo hf ht

theorem TimeWork.ite {c : Prop} [Decidable c] (h : TimeWork l view s x) (g : TimeWork l view s u) :
    TimeWork l view s (if c then x else u) := by split <;> assumption

theorem TimeWork.setTimeState (h : TimeWork l view s x) (st : Nat) (ht : Reg.TIME_STATUS ∈ l)
    (hv : ∀ (t : TimeUnit) r, view { t with r := r } = view t) : TimeWork l view s (x.setTimeState st) := by
  have hput := h.put Fld.TIME_STATUS_STATE st ht
  unfold State.setTimeState
  dsimp only
  split
  · exact hput
  · exact hput.time (hv ..)

end

/-! ### The state code and the master's port in TIME_STATUS -/

/-- The servo shows itself in SLEW_CLAMPED alone of TIME_STATUS. -/
theorem get_showServo_status (s : State) {f : Fld} (hf : f.off = Reg.TIME_STATUS) (hb : 4 < f.lo ∨ f.hi < 4) :
    s.showServo.get f = s.get f := by
  unfold State.showServo
  dsimp only
  rw [State.get_put_field _ Fld.TIME_STATUS_SLEW_CLAMPED f _ hf (by decide) (by decide) hb]
  exact State.get_of_reg (State.reg_setReg_ne _ _ (by rw [hf]; decide))

theorem timeState_showServo (s : State) : s.showServo.timeState = s.timeState :=
  get_showServo_status s rfl (.inr (by decide))
theorem masterPort_showServo (s : State) : s.showServo.masterPort = s.masterPort :=
  get_showServo_status s rfl (.inl (by decide))
theorem timeState_servoRun (s : State) : s.servoRun.timeState = s.timeState := timeState_showServo _
theorem timeState_raise (s : State) (c u : Nat) (d : List Detail) : (s.raise c u d).timeState = s.timeState :=
  State.get_raise _ _ _ _ _ (by decide)
theorem masterPort_raise (s : State) (c u : Nat) (d : List Detail) : (s.raise c u d).masterPort = s.masterPort :=
  State.get_raise _ _ _ _ _ (by decide)

theorem get_setTimeState (s : State) (st : Nat) (f : Fld) : (s.setTimeState st).get f = (s.put Fld.TIME_STATUS_STATE st).get f := by
  unfold State.setTimeState
  dsimp only
  split <;> rfl
theorem timeState_setTimeState (s : State) {st : Nat} (h : st < 8) : (s.setTimeState st).timeState = st :=
  (get_setTimeState ..).trans (State.get_put_fit _ _ _ (by decide) (by decide) h)
theorem masterPort_setTimeState (s : State) (st : Nat) : (s.setTimeState st).masterPort = s.masterPort :=
  (get_setTimeState ..).trans (State.get_put_field _ _ _ _ rfl (by decide) (by decide) (by decide))

/-! ### The master is lost, or another is followed (R46, R50, R520) -/

/-- The registers that a change of master may change. -/
def chosenRegs : List Nat := Reg.TIME_STATUS :: Reg.TIME_FREQ :: dropCounters

/-- A change of master leaves the foreign masters, and MASTER_PORT shows the new one's port. -/
structure Follows (s u : State) (port : Nat) : Prop where
  work : TimeWork chosenRegs TimeUnit.foreign s u
  port : u.masterPort = port

/-- The master's port is shown, and nothing of the former master is kept. -/
def State.turned (s : State) (port sender gm : Nat) : State :=
  ((s.put Fld.TIME_STATUS_MASTER_PORT port).dropMeasurements).follow_ sender gm

section
variable {s x : State} {port : Nat}

theorem follows_turned (h : TimeWork chosenRegs TimeUnit.foreign s x) (hp : port < 128) (sender gm : Nat) :
    Follows s (x.turned port sender gm) port :=
  ⟨((h.put Fld.TIME_STATUS_MASTER_PORT port (by decide)).time rfl).time rfl,
    State.get_put_fit _ Fld.TIME_STATUS_MASTER_PORT _ (by decide) (by decide) hp⟩

theorem Follows.showServo (h : Follows s x port) : Follows s x.showServo port :=
  ⟨h.work.showServo (by decide) (by decide), (masterPort_showServo x).trans h.port⟩
theorem Follows.setTimeState (h : Follows s x port) (st : Nat) : Follows s (x.setTimeState st) port :=
  ⟨h.work.setTimeState st (by decide) fun _ _ => rfl, (masterPort_setTimeState x st).trans h.port⟩
theorem Follows.raise (h : Follows s x port) (c u : Nat) (d : List Detail) : Follows s (x.raise c u d) port :=
  ⟨h.work.raise c u d (by decide), (masterPort_raise x c u d).trans h.port⟩
end

theorem timeWork_servoRun (s : State) : TimeWork chosenRegs TimeUnit.foreign s s.servoRun :=
  (TimeWork.refl chosenRegs TimeUnit.foreign s).servoRun (by decide) (by decide) fun _ _ _ _ => rfl

theorem follows_masterLost (s : State) : Follows s s.masterLost 0x7F := by
  unfold State.masterLost
  split
  · next h => exact ⟨.refl _ _ s, h⟩
  · have hgone : Follows s (s.servoRun.turned 0x7F 0 0) 0x7F := follows_turned (timeWork_servoRun s) (by decide) 0 0
    dsimp only
    split
    · exact (hgone.setTimeState 0).showServo
    · split
      · exact ((hgone.setTimeState 3).showServo).raise _ _ _
      · exact hgone.showServo

/-- The port of the best qualified sender; 0x7F with none. -/
def State.bestPort (s : State) : Nat :=
  match s.bestForeign with
  | some f => ptpPort f.port
  | none => 0x7F

theorem follows_bmca (s : State) : Follows s s.bmca s.bestPort := by
  have hport : ∀ p, ptpPort p < 128 := fun p => by
    unfold ptpPort
    split
    · omega
    · split <;> omega
  unfold State.bmca State.bestPort
  cases s.bestForeign with
  | none => exact follows_masterLost s
  | some f =>
    dsimp only
    split
    · have hnew : Follows s (s.turned (ptpPort f.port) f.sender f.gmId) (ptpPort f.port) :=
        follows_turned (.refl _ _ s) (hport _) _ _
      refine Follows.showServo ?_
      split
      · exact hnew.setTimeState 1
      · exact hnew
    · split
      · next h => exact ⟨.refl _ _ s, h.1⟩
      · exact ((follows_turned (timeWork_servoRun s) (hport _) f.sender f.gmId).showServo).raise _ _ _

/-- What the choice of a master reads: the values in force and the foreign masters. -/
theorem bestPort_congr {s u : State} (hl : u.live = s.live) (hf : u.time.foreign = s.time.foreign) : u.bestPort = s.bestPort := by
  have hq : u.qualified = s.qualified := by
    unfold State.qualified State.ptpSlaveable State.ptpOn State.ownRank State.on State.cur State.liveReg
    rw [hl]
  unfold State.bestPort State.bestForeign
  rw [hf, hq]

/-- After a choice MASTER_PORT shows the port of the best sender. -/
theorem best_bmca (s : State) : s.bmca.masterPort = s.bmca.bestPort := by
  obtain ⟨hwork, hport⟩ := follows_bmca s
  rw [hport, bestPort_congr (hwork.keeps .live (by decide)) hwork.view]

/-- The choice of a master leaves, beside the time unit, what a command's time leaves. -/
theorem chosen_of_work {s x u : State} {t : Tai} {f : List Foreign}
    (hx : x = { s.at t with time := { (s.at t).time with foreign := f } }) (h : TimeWork chosenRegs TimeUnit.foreign x u) :
    s.keepsRegs u chosenRegs ∧ s.keeps u (.time :: eventParts) := by
  subst hx
  exact ⟨h.regs, State.keeps_back (State.keeps_time _ (.at s t _) (by decide)) h.keeps fun _ h => h⟩

/-! ### An Announce is heard -/

/-- How often a sender has been heard, with this Announce. -/
def State.heardNow (s : State) (p : Nat) (a : Announce) : Nat :=
  match s.time.foreign.find? (fun (f : Foreign) => f.port == p && f.sender == a.sender) with
  | some f => if s.time.now - f.last ≤ 4 * intervalNs (s.cur (Fld.TIME_PORTp_LOG_ANNOUNCE p)) then f.heard + 1 else 1
  | none => 1

theorem one_le_heardNow (s : State) (p : Nat) (a : Announce) : 1 ≤ s.heardNow p a := by
  unfold State.heardNow
  split
  · split <;> omega
  · exact Nat.le_refl 1

/-- The sender of an Announce as it is recorded. -/
def State.heardFrom (s : State) (p : Nat) (a : Announce) : Foreign :=
  { port := p, sender := a.sender, gmId := a.gmId, prio1 := a.prio1, cls := a.cls, acc := a.acc, oslv := a.oslv,
    prio2 := a.prio2, steps := a.steps, heard := s.heardNow p a, last := s.time.now, path := a.path }

/-- The foreign masters that stay beside it. -/
def State.stillHeard (s : State) (p : Nat) (a : Announce) : List Foreign :=
  s.time.foreign.filter fun (f : Foreign) =>
    !(f.port == p && f.sender == a.sender) && (f.sender == s.time.sender && ptpPort f.port == s.masterPort ||
    decide (s.time.now - f.last ≤
      s.cur (Fld.TIME_PORTp_ANN_TMO f.port) * intervalNs (s.cur (Fld.TIME_PORTp_LOG_ANNOUNCE f.port))))

theorem announce_own (s : State) (p : Nat) {a : Announce} (h : a.path.contains Config.uid.toNat = true) : s.announce p a = s :=
  if_pos h

theorem announce_other (s : State) (p : Nat) {a : Announce} (h : a.path.contains Config.uid.toNat = false) :
    s.announce p a = ({ s with time := { s.time with foreign := s.heardFrom p a :: s.stillHeard p a } } : State).bmca :=
  if_neg (by rw [h]; decide)

/-! ### A time-out of the master -/

/-- The foreign masters but the present one. -/
def State.withoutMaster (s : State) : List Foreign :=
  s.time.foreign.filter fun (f : Foreign) => !(f.port == ptpOf s.masterPort && f.sender == s.time.sender)

theorem masterTimeout_idle {s : State} {late : Bool} (h : s.masterPort = 0x7F ∨ late = false) : s.masterTimeout late = s :=
  if_pos h

theorem masterTimeout_late {s : State} (h : s.masterPort ≠ 0x7F) :
    s.masterTimeout true = ({ s with time := { s.time with foreign := s.withoutMaster } } : State).masterLost.bmca :=
  if_neg (by rintro (h' | h'); exacts [h h', absurd h' (by decide)])

/-- The command of a time-out of the master, as its meaning says. -/
theorem answers_masterTimeout {c : Instr} {s : State} {t : Tai} {late : Bool} {P : State → Prop} (hs : s.up = true)
    (hc : c = .announceReceiptTimeout t ∧ late = (s.at t).announceLate ∨ c = .syncReceiptTimeout t ∧ late = (s.at t).syncLate)
    (h : P (((s.at t).masterTimeout late).withQueue s.pending)) : answers (exec c s) P := by
  rcases hc with ⟨rfl, rfl⟩ | ⟨rfl, rfl⟩
  · exact answers_effect (m := "ANNOUNCE_RECEIPT_TIMEOUT") hs rfl h
  · exact answers_effect (m := "SYNC_RECEIPT_TIMEOUT") hs rfl h

/-! ### A Sync is judged (Table 3.1, R54, R55) -/

/-- The registers that a measurement may change. -/
def judgedSyncRegs : List Nat :=
  Reg.TIME_STATUS :: Reg.TIME_FREQ :: Reg.TIME_OFFSET :: Reg.BEAT_STATUS ::
    (pair64 Reg.TIME_JUMP_CNT ++ pair64 Reg.TIME_LAST_JUMP ++ dropCounters)

/-- What of the time unit the judgement of a measurement leaves. -/
def TimeUnit.syncView (t : TimeUnit) : List (Nat × Rat) × Option (Tai × Int) × List Rat := (t.syncGap, t.sync, t.held)

/-- The judgement of a measurement. -/
abbrev Judges (s u : State) : Prop := TimeWork judgedSyncRegs TimeUnit.syncView s u

section
variable {s x : State}

theorem Judges.showServo (h : Judges s x) : Judges s x.showServo := TimeWork.showServo h (by decide) (by decide)
theorem Judges.setTimeState (h : Judges s x) (st : Nat) : Judges s (x.setTimeState st) :=
  TimeWork.setTimeState h st (by decide) fun _ _ => rfl
theorem Judges.accept (h : Judges s x) (raw m : Rat) (t : Tai) : Judges s (x.accept raw m t) := by
  unfold State.accept
  refine Judges.showServo (TimeWork.setReg (TimeWork.time h ?_) _ (by decide))
  rfl

theorem Judges.firstLock (h : Judges s x) : Judges s x.firstLock := by
  have hlock := ((h.setTimeState 2).put Fld.TIME_STATUS_EVER_LOCKED 1 (by decide)).put Fld.BEAT_STATUS_TIME_LOCKED 1 (by decide)
  unfold State.firstLock State.pendStep
  refine TimeWork.raise (TimeWork.put (TimeWork.time hlock ?_) Fld.TIME_STATUS_STEP_PENDING 1 (by decide)) _ _ _ (by decide)
  rfl

/-- A jump is counted and shown. -/
def State.jumpCounted (s : State) (m : Rat) : State :=
  (s.count Reg.TIME_JUMP_CNT).setReg64 Reg.TIME_LAST_JUMP (ofInt 8 (satSigned 64 (roundFree m)))

/-- The unit is in REFUSING, and tells. -/
def State.refusingNow (s : State) (m : Rat) : State :=
  ((({ s with time := { s.time with refusedAt := s.time.now } } : State).setTimeState 4).showServo).raise 0x0301 0
    [.d8 (roundFree m), n4 s.masterPort]

theorem refuseJump_eq (s : State) (m : Rat) :
    s.refuseJump m = if (s.jumpCounted m).timeState = 4 then s.jumpCounted m else (s.jumpCounted m).refusingNow m := by
  unfold State.refuseJump State.refusingNow State.jumpCounted
  rfl

theorem Judges.refusingNow (h : Judges s x) (m : Rat) : Judges s (x.refusingNow m) := by
  unfold State.refusingNow
  refine TimeWork.raise (Judges.showServo (Judges.setTimeState (TimeWork.time h ?_) 4)) _ _ _ (by decide)
  rfl

theorem Judges.refuseJump (h : Judges s x) (m : Rat) : Judges s (x.refuseJump m) := by
  have hcount : Judges s (x.jumpCounted m) := (h.setReg64 _ _ (by decide)).setReg64 _ _ (by decide)
  rw [refuseJump_eq]
  split
  · exact hcount
  · exact hcount.refusingNow m

end

theorem timeState_refusingNow (s : State) (m : Rat) : (s.refusingNow m).timeState = 4 := by
  unfold State.refusingNow
  rw [timeState_raise, timeState_showServo, timeState_setTimeState _ (by decide)]

/-- A refused jump leaves the unit in REFUSING and is counted. -/
theorem refuseJump_shows (s : State) (m : Rat) : (s.refuseJump m).timeState = 4 ∧
    (s.refuseJump m).reg64 Reg.TIME_JUMP_CNT = (s.reg64 Reg.TIME_JUMP_CNT + 1) % 2 ^ 64 := by
  have hcount : (s.jumpCounted m).reg64 Reg.TIME_JUMP_CNT = (s.reg64 Reg.TIME_JUMP_CNT + 1) % 2 ^ 64 :=
    (State.keepsRegs.reg64 (State.keepsRegs_setReg64 _ _ _) (by decide) (by decide)).trans (State.reg64_count ..)
  rw [refuseJump_eq]
  split
  · next h => exact ⟨h, hcount⟩
  · refine ⟨timeState_refusingNow _ m, ?_⟩
    have hwork : (s.jumpCounted m).keepsRegs ((s.jumpCounted m).refusingNow m) chosenRegs := by
      unfold State.refusingNow
      exact ((((TimeWork.refl chosenRegs TimeUnit.foreign (s.jumpCounted m)).time (by rfl)).setTimeState 4 (by decide)
        fun _ _ => rfl).showServo (by decide) (by decide)).raise _ _ _ (by decide) |>.regs
    rw [hwork.reg64 (by decide) (by decide), hcount]

/-- A measurement is the first of the last 8. -/
def State.heldNoted (s : State) (m : Rat) : State := { s with time := { s.time with held := (m :: s.time.held).take 8 } }

theorem judges_judge (s : State) (raw : Rat) (t : Tai) : Judges (s.heldNoted (raw - (s.stepSum : Rat))) (s.judge raw t) := by
  have h : Judges (s.heldNoted (raw - (s.stepSum : Rat))) (s.heldNoted (raw - (s.stepSum : Rat))) := TimeWork.refl _ _ _
  unfold State.judge
  extract_lets m y z
  split
  · split
    · exact (h.accept raw m t).firstLock
    · exact h.accept raw m t
  · split
    · exact h
    · split
      · exact h.refuseJump m
      · exact Judges.accept (TimeWork.ite h (h.setTimeState 2)) raw m t

theorem judge_refuses {s : State} (hst : s.timeState = 2 ∨ s.timeState = 3 ∨ s.timeState = 4) {raw : Rat}
    (h : ((s.cur Fld.TIME_JUMP_THR_NS : Nat) : Rat) < absRat (raw - (s.stepSum : Rat))) (t : Tai) :
    s.judge raw t = (s.heldNoted (raw - (s.stepSum : Rat))).refuseJump (raw - (s.stepSum : Rat)) := by
  have h1 : (s.heldNoted (raw - (s.stepSum : Rat))).timeState ≠ 1 := fun e => by
    have he : s.timeState = 1 := e
    omega
  have h0 : (s.heldNoted (raw - (s.stepSum : Rat))).timeState ≠ 0 := fun e => by
    have he : s.timeState = 0 := e
    omega
  unfold State.judge
  exact (if_neg h1).trans ((if_neg h0).trans (if_pos h))

theorem time_servoRun (s : State) : ∃ r rAt added, s.servoRun.time = { s.time with r := r, rAt := rAt, added := added } := by
  unfold State.servoRun
  rw [time_showServo]
  exact ⟨_, _, _, rfl⟩

/-- A Sync's receive time less its origin, with its correction (R47). -/
def State.syncGapOf (s : State) (p origin : Nat) (corr : Int) (edge16 : Nat) : Rat :=
  (((s.ptpIn p edge16 : Nat) : Int) - (origin : Int) : Int) - (corr : Rat) / 65536

/-- The offset that a Sync measures, before the pending steps (R47). -/
def State.syncRaw (s : State) (p : Nat) (gap : Rat) : Rat :=
  SMap.get 0 s.time.delay p + (toSigned 24 (s.cur (Fld.TIME_ASYM_LINKn_LINK (ptpPort p))) : Rat) / 16 - gap

/-- A usable Sync is noted. -/
def State.syncNoted (s : State) (p : Nat) (gap : Rat) (log : Int) : State :=
  { s with time := { s.time with syncGap := SMap.put s.time.syncGap p gap, sync := some (s.time.now, log) } }

theorem answers_syncReceived {s : State} {p sender origin edge16 : Nat} {corr log : Int} {t : Tai} {P : State → Prop}
    (hs : s.up = true) (hp : p < 13) (hslave : s.ptpSlaveable p = true) (hm : s.masterPort = ptpPort p)
    (hsender : s.time.sender = sender) (h : ∀ x, x = ((s.at t).syncNoted p (s.syncGapOf p origin corr edge16) log).servoRun →
      P ((x.judge (x.syncRaw p (s.syncGapOf p origin corr edge16)) (s.ptpIn p edge16)).withQueue s.pending)) :
    answers (exec (.syncReceived p sender origin corr log edge16 t) s) P := by
  refine answers_effect (m := "SYNC_RECEIVED") hs (decide_eq_true hp) ?_
  have hc : (s.at t).ptpSlaveable p ∧ (s.at t).masterPort = ptpPort p ∧ (s.at t).time.sender = sender := ⟨hslave, hm, hsender⟩
  rw [if_pos hc]
  exact h _ rfl

/-- The servo's run between a Sync's arrival and its judgement leaves what the judgement reads. -/
theorem syncNoted_servoRun {s x : State} {p : Nat} {gap : Rat} {log : Int} (hx : x = (s.syncNoted p gap log).servoRun) :
    x.syncRaw p gap = s.syncRaw p gap ∧ x.stepSum = s.stepSum ∧ x.timeState = s.timeState ∧
      SMap.look x.time.syncGap p = some gap ∧ x.time.sync = some (s.time.now, log) ∧ x.time.held = s.time.held ∧
      x.live = s.live ∧ s.keepsRegs x chosenRegs ∧ s.keeps x (.time :: eventParts) := by
  obtain ⟨r, rAt, added, ht⟩ := time_servoRun (s.syncNoted p gap log)
  obtain ⟨hregs, hkeeps, _⟩ := timeWork_servoRun (s.syncNoted p gap log)
  have hlive : (s.syncNoted p gap log).servoRun.live = s.live := hkeeps .live (by decide)
  have hnoted : s.keeps (s.syncNoted p gap log) (.time :: eventParts) :=
    State.keeps_time _ (State.keeps_mono (State.keeps_refl s) (by simp)) (by decide)
  subst hx
  refine ⟨?_, ?_, timeState_servoRun _, ?_, ?_, ?_, hlive, hregs, State.keeps_back hnoted hkeeps fun _ h => h⟩
  · unfold State.syncRaw State.cur State.liveReg
    rw [hlive, ht]
    rfl
  · unfold State.stepSum
    rw [ht]
    rfl
  · rw [ht]
    exact SMap.look_put ..
  · rw [ht]
    rfl
  · rw [ht]
    rfl

/-- A Sync of the master on its port is noted, held and judged. -/
theorem syncReceived_judged {s : State} {p sender origin edge16 : Nat} {corr log : Int} {t : Tai} (hs : s.up = true)
    (hp : p < 13) (hslave : s.ptpSlaveable p = true) (hm : s.masterPort = ptpPort p) (hsender : s.time.sender = sender)
    {gap m : Rat} (hgap : gap = s.syncGapOf p origin corr edge16) (hmeas : m = s.syncRaw p gap - (s.stepSum : Rat)) :
    answers (exec (.syncReceived p sender origin corr log edge16 t) s) fun u =>
      SMap.look u.time.syncGap p = some gap ∧ u.time.sync = some (max s.time.now t, log) ∧
        u.time.held = (m :: s.time.held).take 8 ∧
        (s.timeState = 2 ∨ s.timeState = 3 ∨ s.timeState = 4 → ((s.cur Fld.TIME_JUMP_THR_NS : Nat) : Rat) < absRat m →
          u.timeState = 4 ∧ u.reg64 Reg.TIME_JUMP_CNT = (s.reg64 Reg.TIME_JUMP_CNT + 1) % 2 ^ 64) ∧
        s.keepsRegs u judgedSyncRegs ∧ s.keeps u (.time :: eventParts) := by
  subst hgap
  refine answers_syncReceived hs hp hslave hm hsender fun x hx => ?_
  obtain ⟨hraw, hsum, hstate, hlook, hsync, hheld, hlive, hregs, hkeeps⟩ := syncNoted_servoRun hx
  have hm' : x.syncRaw p (s.syncGapOf p origin corr edge16) - (x.stepSum : Rat) = m := by rw [hraw, hsum, hmeas]; rfl
  have hrefuse := judge_refuses (s := x) (raw := x.syncRaw p (s.syncGapOf p origin corr edge16)) (t := s.ptpIn p edge16)
  have hjudge := judges_judge x (x.syncRaw p (s.syncGapOf p origin corr edge16)) (s.ptpIn p edge16)
  rw [hm'] at hrefuse hjudge
  generalize x.judge (x.syncRaw p (s.syncGapOf p origin corr edge16)) (s.ptpIn p edge16) = u at hrefuse hjudge ⊢
  obtain ⟨huregs, hukeeps, hview⟩ := hjudge
  simp only [TimeUnit.syncView, State.heldNoted, Prod.mk.injEq] at hview
  obtain ⟨hugap, husync, huheld⟩ := hview
  refine ⟨?_, ?_, ?_, fun hst hthr => ?_, ?_, ?_⟩
  · exact (congrArg (SMap.look · p) hugap).trans hlook
  · exact husync.trans hsync
  · exact huheld.trans (by rw [hheld]; rfl)
  · have hthr' : ((x.cur Fld.TIME_JUMP_THR_NS : Nat) : Rat) < absRat m := by
      unfold State.cur
      rw [State.liveReg_of_live hlive]
      exact hthr
    obtain ⟨hstate', hcount⟩ := refuseJump_shows (x.heldNoted m) m
    rw [hrefuse (by rw [hstate]; exact hst) hthr']
    exact ⟨hstate', hcount.trans (congrArg (fun n => (n + 1) % 2 ^ 64) (hregs.reg64 (by decide) (by decide)))⟩
  · exact (State.keepsRegs_withQueue ..).2 (State.keepsRegs_back (State.keepsRegs_mono hregs (by decide)) huregs fun _ h => h)
  · have hheldNoted := State.keeps_time (x.heldNoted m).time hkeeps (by decide)
    exact (State.keeps_withQueue ..).2 ((State.keeps_from_at ..).1 (State.keeps_back hheldNoted hukeeps fun _ h => h))

/-! ### The clauses of the statement -/

section
variable {s : State} {p : Nat} {a : Announce} {t : Tai}

theorem answers_announceReceived {P : State → Prop} (hs : s.up = true) (hp : p < 13)
    (h : P ((if s.ptpSlaveable p then (s.at t).announce p a else s.at t).withQueue s.pending)) :
    answers (exec (.announceReceived p a t) s) P :=
  answers_effect (m := "ANNOUNCE_RECEIVED") hs (decide_eq_true hp) h

/-- A command that found nothing to do. -/
theorem keeps_all_at (s : State) (t : Tai) (q : List Instr) :
    s.keepsRegs ((s.at t).withQueue q) [] ∧ s.keeps ((s.at t).withQueue q) [] :=
  ⟨(State.keepsRegs_withQueue ..).2 (.at s t _), (State.keeps_withQueue ..).2 (.at s t _)⟩

/-- After a choice among other foreign masters: MASTER_PORT shows the best, and only the time unit and the events changed. -/
theorem bmca_chosen {x : State} {f : List Foreign}
    (h : TimeWork chosenRegs TimeUnit.foreign { s.at t with time := { (s.at t).time with foreign := f } } x) (q : List Instr) :
    (x.bmca.withQueue q).time.foreign = f ∧ (x.bmca.withQueue q).masterPort = (x.bmca.withQueue q).bestPort ∧
      s.keepsRegs (x.bmca.withQueue q) chosenRegs ∧ s.keeps (x.bmca.withQueue q) (.time :: eventParts) := by
  have hwork := h.trans (follows_bmca x).work
  obtain ⟨hregs, hkeeps⟩ := chosen_of_work rfl hwork
  exact ⟨hwork.view, best_bmca x, (State.keepsRegs_withQueue ..).2 hregs, (State.keeps_withQueue ..).2 hkeeps⟩

/-- A time-out of the statement's list, with its lateness. -/
theorem timeout_cases {c : Instr × Bool} (h : c ∈ [(Instr.announceReceiptTimeout t, (s.at t).announceLate),
    (Instr.syncReceiptTimeout t, (s.at t).syncLate)]) :
    c.1 = .announceReceiptTimeout t ∧ c.2 = (s.at t).announceLate ∨
      c.1 = .syncReceiptTimeout t ∧ c.2 = (s.at t).syncLate := by
  simp only [List.mem_cons, List.not_mem_nil, or_false] at h
  rcases h with rfl | rfl
  · exact .inl ⟨rfl, rfl⟩
  · exact .inr ⟨rfl, rfl⟩

/-- The time of the last TIME_JUMP_REFUSED is noted. -/
def State.refusedMarked (s : State) : State := { s with time := { s.time with refusedAt := s.time.now } }

/-- TIME_JUMP_REFUSED is raised again. -/
def State.refusedTold (s : State) : State :=
  s.refusedMarked.raise 0x0301 0 [.d8 (toSigned 64 (s.reg64 Reg.TIME_LAST_JUMP)), n4 s.masterPort]

/-- What it tells and leaves. -/
theorem refusedTold_at (s : State) (t : Tai) (q : List Instr) :
    ((s.at t).refusedTold.withQueue q).told 0x0301 0 [.d8 (toSigned 64 (s.reg64 Reg.TIME_LAST_JUMP)), n4 s.masterPort] ∧
      ((s.at t).refusedTold.withQueue q).time.refusedAt = max s.time.now t ∧
      s.keepsRegs ((s.at t).refusedTold.withQueue q) dropCounters ∧
      s.keeps ((s.at t).refusedTold.withQueue q) (.time :: eventParts) := by
  have hregs : s.keepsRegs (s.at t).refusedMarked dropCounters := fun _ _ => rfl
  have hkeeps : s.keeps (s.at t).refusedMarked (.time :: eventParts) := State.keeps_time _ (.at s t _) (by decide)
  refine ⟨(State.told_withQueue ..).2 (State.told_raise ..), ?_, ?_, ?_⟩
  · exact congrArg TimeUnit.refusedAt (State.raise_time ..)
  · exact (State.keepsRegs_withQueue ..).2 (hregs.raise _ _ _ fun _ h => h)
  · exact (State.keeps_withQueue ..).2 (hkeeps.raise _ _ _ fun _ h => .tail _ h)

theorem answers_timeJumpRefusedRepeat {P : State → Prop} (hs : s.up = true)
    (h : P ((if s.timeState = 4 ∧ s.time.refusedAt + 60000000000 ≤ max s.time.now t then
      (s.at t).refusedTold else s.at t).withQueue s.pending)) :
    answers (exec (.timeJumpRefusedRepeat t) s) P := answers_effect (m := "TIME_JUMP_REFUSED_REPEAT") hs rfl h

end

/-- Settles O36: an Announce and a time-out end in a choice of the best master (`bmca_chosen`), a Sync is judged
(`syncReceived_judged`), and a refused jump is told again once a minute. -/
theorem theBestMasterIsFollowedUntilItIsLost : Obligations.TheBestMasterIsFollowedUntilItIsLost := by
  intro p sender origin a corr log edge16 t s hs hp
  refine ⟨fun hslave hpath => ?_, fun hno => ?_, fun c hc => ⟨fun hidle => ?_, fun hm hlate => ?_⟩,
    fun hslave hm hsender => ?_, fun hst hdue => ?_, fun hno => ?_⟩
  · refine answers_announceReceived hs hp ?_
    rw [if_pos hslave, announce_other _ _ hpath]
    obtain ⟨hforeign, hbest, hchosen⟩ := bmca_chosen (s := s) (t := t) (.refl chosenRegs _ _) s.pending
    exact ⟨⟨(s.at t).heardFrom p a, by rw [hforeign]; exact List.mem_cons_self .., rfl, rfl, rfl, rfl, rfl, rfl, rfl, rfl, rfl,
      rfl, one_le_heardNow _ p a, rfl⟩, hbest, hchosen⟩
  · refine answers_announceReceived hs hp ?_
    have hsame : (if s.ptpSlaveable p then (s.at t).announce p a else s.at t) = s.at t := by
      split
      · next h => exact announce_own _ p (hno.resolve_left (by rw [h]; decide))
      · rfl
    rw [hsame]
    exact keeps_all_at s t _
  · refine answers_masterTimeout hs (timeout_cases hc) ?_
    rw [masterTimeout_idle (s := s.at t) hidle]
    exact keeps_all_at s t _
  · refine answers_masterTimeout hs (timeout_cases hc) ?_
    rw [hlate, masterTimeout_late (s := s.at t) hm]
    exact bmca_chosen (s := s) (t := t) (follows_masterLost _).work s.pending
  · exact syncReceived_judged hs hp hslave hm hsender rfl rfl
  · refine answers_timeJumpRefusedRepeat hs ?_
    have hdue' : s.timeState = 4 ∧ s.time.refusedAt + 60000000000 ≤ max s.time.now t := ⟨hst, hdue⟩
    rw [if_pos hdue']
    exact refusedTold_at s t s.pending
  · refine answers_timeJumpRefusedRepeat hs ?_
    rw [if_neg fun ⟨hst, hdue⟩ => hno.elim (fun h => h hst) fun h => Nat.not_le.2 h hdue]
    exact keeps_all_at s t _

end Sys2Proof.Machine

namespace Sys2Proof.Machine

/-! ### A ring and a word after one write -/

theorem txRing_setTxRing (s : State) (n m : Nat) (r : TxRing) :
    (s.setTxRing n r).txRing m = if m = n then r else s.txRing m := SMap.get_set ..
@[simp] theorem txRing_setTxRing_self (s : State) (n : Nat) (r : TxRing) : (s.setTxRing n r).txRing n = r :=
  (txRing_setTxRing ..).trans (if_pos rfl)
theorem rxRing_setRxRing (s : State) (n m : Nat) (r : RxRing) :
    (s.setRxRing n r).rxRing m = if m = n then r else s.rxRing m := SMap.get_set ..
@[simp] theorem rxRing_setRxRing_self (s : State) (n : Nat) (r : RxRing) : (s.setRxRing n r).rxRing n = r :=
  (rxRing_setRxRing ..).trans (if_pos rfl)


theorem txRing_of_hif {s u : State} (h : u.hif.tx = s.hif.tx) (n : Nat) : u.txRing n = s.txRing n := by
  unfold State.txRing
  rw [h]
theorem rxRing_of_hif {s u : State} (h : u.hif.rx = s.hif.rx) (n : Nat) : u.rxRing n = s.rxRing n := by
  unfold State.rxRing
  rw [h]

/-- A transition that reaches the registry stands in the unit's word (R422). -/
theorem code_message (s : State) (unit code : Nat) : ((s.message unit code).word unit).code = code := by
  have h : (s.message unit code).word unit = { code := code, epoch := nextEpoch (s.word unit).epoch } := by
    unfold State.message State.word
    rw [if_neg (by decide)]
    dsimp only
    rw [State.log_mgt]
    exact (SMap.get_set ..).trans (if_pos rfl)
  rw [h]

theorem keepsRegs_message (s : State) (unit code : Nat) : s.keepsRegs (s.message unit code) dropCounters := by
  intro o ho
  unfold State.message
  rw [if_neg (by decide)]
  exact State.reg_log _ _ _ _ ho

theorem get_message (s : State) {f : Fld} (hf : f.off ∉ dropCounters) (unit code : Nat) :
    (s.message unit code).get f = s.get f := State.get_of_reg (keepsRegs_message s unit code _ hf)

theorem State.keepsRegs.message {s x : State} {l : List Nat} (h : s.keepsRegs x l) (unit code : Nat)
    (hl : ∀ o ∈ dropCounters, o ∈ l) : s.keepsRegs (x.message unit code) l :=
  State.keepsRegs_back h (keepsRegs_message x unit code) hl
theorem State.keeps.message {s x : State} {l : List Part} (h : s.keeps x l) (unit code : Nat)
    (hl : ∀ p ∈ Part.mgt :: eventParts, p ∈ l) : s.keeps (x.message unit code) l :=
  State.keeps_back h (State.keeps_message x unit code false) hl

/-- A field of the value in force beside one that was put in force. -/
theorem State.cur_putBoth_field (s : State) (f g : Fld) (v : Nat) (h : g.off = f.off) (hh : f.hi < 32) (hl : f.lo ≤ f.hi)
    (hd : f.hi < g.lo ∨ g.hi < f.lo) : (s.putBoth f v).cur g = s.cur g := by
  simp only [State.cur, State.putBoth, State.putCur, h, State.liveReg_setLive, if_true, BitVec.toNat_ofNat]
  rw [Nat.mod_eq_of_lt (setBits_lt _ _ _ _ (State.liveReg _ _).isLt hh hl)]
  rcases hd with hd | hd
  · exact bits_setBits_above _ _ _ _ _ _ hd hl
  · exact bits_setBits_below _ _ _ _ _ _ hd

/-! ### What a journal entry and an event leave of the host interface (R100, R398) -/

/-- The host interface beside its RX rings. -/
def State.hifCore (s : State) : HostIf := { s.hif with rx := [] }

/-- An RX ring beside what waits in it and what it has lost. -/
def RxRing.core (r : RxRing) : RxRing := { r with queue := [], lost := 0 }

/-- The journal or the event stream has been told of something: of the host interface only RX ring 63 can change, while it is
RUNNING, in what waits in it and what it has lost. -/
structure HifTold (s u : State) : Prop where
  core : u.hifCore = s.hifCore
  stat : u.get (Fld.HIF_RXn_STAT_STATE 63) = s.get (Fld.HIF_RXn_STAT_STATE 63)
  ring : ∀ n, (u.rxRing n).core = (s.rxRing n).core
  other : ∀ n, n ≠ 63 ∨ s.get (Fld.HIF_RXn_STAT_STATE 63) ≠ 1 → u.rxRing n = s.rxRing n
  idle : s.get (Fld.HIF_RXn_STAT_STATE 63) ≠ 1 → s.keepsRegs u (pair64 (Reg.NVM_CNTk 1))

section
variable {s x u : State}

theorem HifTold.trans (h : HifTold s x) (g : HifTold x u) : HifTold s u where
  core := g.core.trans h.core
  stat := g.stat.trans h.stat
  ring n := (g.ring n).trans (h.ring n)
  other n hn := (g.other n (hn.imp_right fun hs => by rwa [h.stat])).trans (h.other n hn)
  idle hs := State.keepsRegs_back (h.idle hs) (g.idle (by rwa [h.stat])) fun _ ho => ho

/-- Work that leaves the host interface, and of the registers at most the counter of dropped journal entries. -/
theorem HifTold.of_hif (hh : u.hif = s.hif) (hr : s.keepsRegs u (pair64 (Reg.NVM_CNTk 1))) : HifTold s u where
  core := by unfold State.hifCore; rw [hh]
  stat := hr.get (by decide)
  ring n := congrArg RxRing.core (rxRing_of_hif (congrArg HostIf.rx hh) n)
  other n _ := rxRing_of_hif (congrArg HostIf.rx hh) n
  idle _ := hr

theorem HifTold.of_regs (hh : u.hif = s.hif) (hr : u.regs = s.regs) : HifTold s u :=
  .of_hif hh (State.keepsRegs_mono (State.keepsRegs_of_regs hr) (by simp))

theorem HifTold.refl (s : State) : HifTold s s := .of_regs rfl rfl

theorem HifTold.tx (h : HifTold s u) : u.hif.tx = s.hif.tx := (congrArg HostIf.tx h.core :)
theorem HifTold.fetched (h : HifTold s u) : u.hif.fetched = s.hif.fetched := (congrArg HostIf.fetched h.core :)
theorem HifTold.finals (h : HifTold s u) : u.hif.finals = s.hif.finals := (congrArg HostIf.finals h.core :)
theorem HifTold.txRing (h : HifTold s u) (n : Nat) : u.txRing n = s.txRing n := txRing_of_hif h.tx n

theorem hifTold_buffer (s : State) (e : JEntry) : HifTold s (s.buffer e) := by
  refine .of_hif (State.buffer_hif ..) ?_
  unfold State.buffer
  extract_lets due size
  split
  · split
    · exact fun _ _ => rfl
    · exact State.keepsRegs_count { s with nvm := { s.nvm with lost := s.nvm.lost + 1 } } (Reg.NVM_CNTk 1) 1
  · exact fun _ _ => rfl

/-- An entry addressed to RX ring 63 while it is RUNNING. -/
theorem hifTold_toRing {s : State} (hs : s.get (Fld.HIF_RXn_STAT_STATE 63) = 1) (e : RxEntry) : HifTold s (s.toRing 63 e) where
  core := by
    unfold State.toRing
    extract_lets r stream
    split
    · rfl
    · exact congrArg (fun h : HostIf => { h with rx := [] }) (State.count_hif s (Reg.HIF_RXn_DROP 63) 1)
  stat := State.get_of_reg (State.reg_toRing _ _ _ (by decide))
  ring n := by
    unfold State.toRing
    extract_lets r stream
    split
    · rw [rxRing_setRxRing]
      split
      · next h => rw [h]; rfl
      · rfl
    · unfold State.rxDrop
      dsimp only
      rw [rxRing_setRxRing]
      split
      · next h => rw [h]; rfl
      · rw [rxRing_of_hif (congrArg HostIf.rx (State.count_hif ..))]
  other n hn := by
    have hne : n ≠ 63 := hn.resolve_right fun h => h hs
    unfold State.toRing
    extract_lets r stream
    split
    · rw [rxRing_setRxRing, if_neg hne]
    · unfold State.rxDrop
      dsimp only
      rw [rxRing_setRxRing, if_neg hne, rxRing_of_hif (congrArg HostIf.rx (State.count_hif ..))]
  idle h := absurd hs h

theorem hifTold_spread (s : State) (e : Event) : HifTold s (s.spread e) := by
  unfold State.spread
  refine HifTold.trans ?_ (hifTold_buffer _ _)
  split
  · next h => exact hifTold_toRing h _
  · exact .refl _

theorem hifTold_raiseWith (s : State) (p c v : Nat) (d : List Detail) : HifTold s (s.raiseWith p c v d) := by
  unfold State.raiseWith
  extract_lets e v y b
  have hy : HifTold s y := .of_regs rfl rfl
  split
  · split
    · exact hy.trans (.of_regs rfl rfl)
    · exact hy
  · exact hy.trans (hifTold_spread _ _)

theorem hifTold_spoke (s : State) (k : Nat) : HifTold s (s.spoke k) := .of_regs (State.spoke_hif ..) (State.spoke_regs ..)

theorem hifTold_lossCheck (s x : State) : HifTold x (State.lossCheck s x) := by
  unfold State.lossCheck
  split
  · exact (hifTold_spoke ..).trans (hifTold_raiseWith ..)
  · exact .refl _

theorem hifTold_raise (s : State) (c v : Nat) (d : List Detail) : HifTold s (s.raise c v d) :=
  (hifTold_raiseWith ..).trans (hifTold_lossCheck ..)

theorem hifTold_raiseOnce (s : State) (k c v : Nat) (d : List Detail) : HifTold s (s.raiseOnce k c v d) := by
  unfold State.raiseOnce
  split
  · exact (hifTold_spoke ..).trans (hifTold_raise ..)
  · exact .refl _

theorem hifTold_log (s : State) (n : Nat) (b : Bytes) : HifTold s (s.log n b) :=
  (hifTold_buffer ..).trans (hifTold_lossCheck ..)

theorem hifTold_message (s : State) (unit code : Nat) : HifTold s (s.message unit code) := by
  unfold State.message
  rw [if_neg (by decide)]
  extract_lets w e y m z
  have hz : HifTold s z := .of_regs rfl rfl
  exact hz.trans (hifTold_log ..)

end

end Sys2Proof.Machine

namespace Sys2Proof.Machine

/-! ### A unit of the host interface changes state (R103, R421) -/

/-- The registers of the host interface below the counter of RX ring 63 take no part in raising an event. -/
theorem not_mem_dropCounters {o : Nat} (h : o < 0x327F8) : o ∉ dropCounters := by
  simp only [dropCounters, List.mem_cons, List.not_mem_nil, or_false, Reg.NVM_CNTk, Reg.HIF_RXn_DROP]
  omega

theorem txStat_lt {n : Nat} (hn : n < 64) : Reg.HIF_TXn_STAT n < 0x327F8 := by unfold Reg.HIF_TXn_STAT; omega
theorem txCfg_lt {n : Nat} (hn : n < 64) : Reg.HIF_TXn_CFG n < 0x327F8 := by unfold Reg.HIF_TXn_CFG; omega
theorem rxStat_lt {n : Nat} (hn : n < 64) : Reg.HIF_RXn_STAT n < 0x327F8 := by unfold Reg.HIF_RXn_STAT; omega
theorem rxCfg_lt {n : Nat} (hn : n < 64) : Reg.HIF_RXn_CFG n < 0x327F8 := by unfold Reg.HIF_RXn_CFG; omega
theorem txCfg_ne_txStat (n : Nat) : Reg.HIF_TXn_CFG n ≠ Reg.HIF_TXn_STAT n := by
  unfold Reg.HIF_TXn_CFG Reg.HIF_TXn_STAT; omega
theorem rxCfg_ne_rxStat (n : Nat) : Reg.HIF_RXn_CFG n ≠ Reg.HIF_RXn_STAT n := by
  unfold Reg.HIF_RXn_CFG Reg.HIF_RXn_STAT; omega

/-- A unit shows a state in a field, and its word follows. -/
structure UnitMoves (s u : State) (shown : Fld) (unit code : Nat) : Prop where
  word : (u.word unit).code = code
  regs : s.keepsRegs u (shown.off :: dropCounters)
  keeps : s.keeps u (.mgt :: eventParts)

theorem unitMoves_message {s x : State} {shown : Fld} (hr : s.keepsRegs x [shown.off]) (hk : s.keeps x [.hif])
    (unit code : Nat) : UnitMoves s (x.message unit code) shown unit code where
  word := code_message ..
  regs := (State.keepsRegs_mono hr (by simp)).message _ _ fun _ h => .tail _ h
  keeps := (State.keeps_mono hk (by decide)).message _ _ fun _ h => h

/-- What a field shows after it was written and the registry was told. -/
theorem get_put_message (s : State) {f : Fld} (hf : f.off < 0x327F8) (hh : f.hi < 32) (hl : f.lo ≤ f.hi) {v : Nat}
    (hv : v < 2 ^ (f.hi + 1 - f.lo)) (unit code : Nat) : ((s.put f v).message unit code).get f = v :=
  (get_message _ (not_mem_dropCounters hf) _ _).trans (State.get_put_fit _ _ _ hh hl hv)

/-- RUNNING and the word of port 78 (Table 17.1). -/
theorem setRunning_moves (s : State) (run : Bool) :
    (s.setRunning run).get Fld.HIF_STATUS_RUNNING = b2n run ∧
      UnitMoves s (s.setRunning run) Fld.HIF_STATUS_RUNNING (unitOf 1 78) (if run then 2 else 0) := by
  have hput := State.keepsRegs_put s Fld.HIF_STATUS_RUNNING (b2n run)
  have hbit : b2n run < 2 := by cases run <;> decide
  unfold State.setRunning
  generalize (if run = true then 2 else 0) = code
  dsimp only
  split
  · next h =>
    exact ⟨State.get_put_fit s Fld.HIF_STATUS_RUNNING _ (by decide) (by decide) hbit,
      { word := h
        regs := State.keepsRegs_mono hput (by simp)
        keeps := State.keeps_mono (State.keeps_put s _ _) (by simp) }⟩
  · exact ⟨get_put_message _ (by decide) (by decide) (by decide) hbit _ _,
      unitMoves_message hput (State.keeps_mono (State.keeps_put s _ _) (by simp)) _ _⟩

theorem hifEnable_off {s : State} (h : s.get Fld.HIF_STATUS_RUNNING ≠ 1) :
    s.hifEnable = { s.setRunning true with hif := { s.hif with wbSeq := 0 } } := if_neg h

theorem txState_setTxState (s : State) {n st : Nat} (hn : n < 64) (hst : st < 4) : (s.setTxState n st).txState n = st :=
  get_put_message s (txStat_lt hn) (by simp [Fld.HIF_TXn_STAT_STATE]) (by simp [Fld.HIF_TXn_STAT_STATE]) hst _ _
theorem rxState_setRxState (s : State) {n st : Nat} (hn : n < 64) (hst : st < 4) : (s.setRxState n st).rxState n = st :=
  get_put_message s (rxStat_lt hn) (by simp [Fld.HIF_RXn_STAT_STATE]) (by simp [Fld.HIF_RXn_STAT_STATE]) hst _ _

theorem setTxState_moves {s x : State} {n : Nat} (hr : s.keepsRegs x [Reg.HIF_TXn_STAT n]) (hk : s.keeps x [.hif]) (st : Nat) :
    UnitMoves s (x.setTxState n st) (Fld.HIF_TXn_STAT_STATE n) (unitOf 3 n) st :=
  unitMoves_message (hr.put _ _ (.head _)) (hk.put _ _) _ _
theorem setRxState_moves {s x : State} {n : Nat} (hr : s.keepsRegs x [Reg.HIF_RXn_STAT n]) (hk : s.keeps x [.hif]) (st : Nat) :
    UnitMoves s (x.setRxState n st) (Fld.HIF_RXn_STAT_STATE n) (unitOf 4 n) st :=
  unitMoves_message (hr.put _ _ (.head _)) (hk.put _ _) _ _

theorem hifTold_setTxState (s : State) (n st : Nat) :
    HifTold (s.put (Fld.HIF_TXn_STAT_STATE n) st) (s.setTxState n st) := hifTold_message ..
theorem hifTold_setRxState (s : State) (n st : Nat) :
    HifTold (s.put (Fld.HIF_RXn_STAT_STATE n) st) (s.setRxState n st) := hifTold_message ..

theorem txRing_setTxState (s : State) (n st m : Nat) : (s.setTxState n st).txRing m = s.txRing m :=
  (hifTold_setTxState ..).txRing m

/-- A field of a ring's state register beside STATE after a change of STATE. -/
theorem get_setTxState_field (s : State) {n : Nat} (hn : n < 64) (st : Nat) {f : Fld} (hf : f.off = Reg.HIF_TXn_STAT n)
    (hd : 1 < f.lo) : (s.setTxState n st).get f = s.get f :=
  (get_message _ (not_mem_dropCounters (by rw [hf]; exact txStat_lt hn)) _ _).trans
    (State.get_put_field _ _ _ _ hf (by simp [Fld.HIF_TXn_STAT_STATE]) (by simp [Fld.HIF_TXn_STAT_STATE]) (.inl hd))
theorem get_setRxState_field (s : State) {n : Nat} (hn : n < 64) (st : Nat) {f : Fld} (hf : f.off = Reg.HIF_RXn_STAT n)
    (hd : 1 < f.lo) : (s.setRxState n st).get f = s.get f :=
  (get_message _ (not_mem_dropCounters (by rw [hf]; exact rxStat_lt hn)) _ _).trans
    (State.get_put_field _ _ _ _ hf (by simp [Fld.HIF_RXn_STAT_STATE]) (by simp [Fld.HIF_RXn_STAT_STATE]) (.inl hd))

/-- A command writes a field and its value in force, and a unit moves: what the statement's `follows` asks. -/
theorem UnitMoves.follows {s x : State} {f shown : Fld} {v unit code : Nat} {t : Tai} {q : List Instr}
    (h : UnitMoves ((s.at t).putBoth f v) x shown unit code) :
    s.keepsRegs (x.withQueue q) ([f.off, shown.off] ++ dropCounters) ∧
      s.keeps (x.withQueue q) (.live :: .mgt :: eventParts) := by
  have hr : s.keepsRegs ((s.at t).putBoth f v) (f.off :: shown.off :: dropCounters) :=
    State.keepsRegs.putBoth (.at s t _) _ _ (.head _)
  have hk : s.keeps ((s.at t).putBoth f v) (.live :: .mgt :: eventParts) := State.keeps.putBoth (.at s t _) _ _ (.head _)
  exact ⟨(State.keepsRegs_withQueue ..).2 (State.keepsRegs_back hr h.regs fun _ ho => .tail _ ho),
    (State.keeps_withQueue ..).2 (State.keeps_back hk h.keeps fun _ hp => .tail _ hp)⟩

/-- A unit that moves leaves the field that the command wrote. -/
theorem UnitMoves.written {y x : State} {f shown : Fld} {v unit code : Nat} (h : UnitMoves (y.putBoth f v) x shown unit code)
    (hne : f.off ≠ shown.off) (hf : f.off < 0x327F8) (hh : f.hi < 32) (hl : f.lo ≤ f.hi) (hv : v < 2 ^ (f.hi + 1 - f.lo)) :
    x.get f = v ∧ x.cur f = v := by
  have hlive : x.live = (y.putBoth f v).live := h.keeps .live (by decide)
  constructor
  · rw [h.regs.get (List.not_mem_cons_of_ne_of_not_mem hne (not_mem_dropCounters hf)), State.get_putBoth, State.get_put_fit _ _ _ hh hl hv]
  · unfold State.cur
    rw [State.liveReg_of_live hlive]
    exact (State.cur_putBoth_self y f v hh hl).trans (Nat.mod_eq_of_lt hv)

/-! ### The life cycle of a ring (R103) -/

/-- A TX ring without a fault and with nothing outstanding. -/
def State.txIdle (s : State) (n : Nat) : State :=
  (s.put (Fld.HIF_TXn_STAT_FAULT n) 0).put (Fld.HIF_TXn_STAT_OUTSTANDING n) 0

/-- A TX ring as its enable starts it: every index 0. -/
def TxRing.started (log2 gen : Nat) : TxRing := { TxRing.fresh with log2 := log2, gen := gen }

theorem cur_txIdle (s : State) (n : Nat) (f : Fld) : (s.txIdle n).cur f = s.cur f := by
  rw [State.txIdle, State.cur_put, State.cur_put]
theorem txRing_txIdle (s : State) (n : Nat) : (s.txIdle n).txRing n = s.txRing n :=
  txRing_of_hif (by rw [State.txIdle, State.put_hif, State.put_hif]) n

theorem txEnable_off {s : State} {n : Nat} (h : s.txState n = 0) :
    s.txEnable n = ((s.txIdle n).setTxRing n
      (.started ((s.txIdle n).cur (Fld.HIF_TXn_CFG_LOG2 n)) (((s.txIdle n).txRing n).gen + 1))).setTxState n 1 := by
  unfold State.txEnable
  rw [if_pos h]
  rfl
theorem txDisable_on {s : State} {n : Nat} (h : s.txState n = 1 ∨ s.txState n = 3) : s.txDisable n = s.setTxState n 2 := by
  unfold State.txDisable
  rw [if_pos h]

theorem get_txIdle (s : State) (n : Nat) :
    (s.txIdle n).get (Fld.HIF_TXn_STAT_FAULT n) = 0 ∧ (s.txIdle n).get (Fld.HIF_TXn_STAT_OUTSTANDING n) = 0 := by
  unfold State.txIdle
  constructor
  · rw [State.get_put_field _ (Fld.HIF_TXn_STAT_OUTSTANDING n) (Fld.HIF_TXn_STAT_FAULT n) _ rfl, State.get_put_zero] <;>
      simp [Fld.HIF_TXn_STAT_FAULT, Fld.HIF_TXn_STAT_OUTSTANDING]
  · rw [State.get_put_zero] <;> simp [Fld.HIF_TXn_STAT_OUTSTANDING]

theorem txIdle_frame (s : State) (n : Nat) :
    s.keepsRegs (s.txIdle n) [Reg.HIF_TXn_STAT n] ∧ s.keeps (s.txIdle n) [] :=
  ⟨State.keepsRegs.put (State.keepsRegs_put s (Fld.HIF_TXn_STAT_FAULT n) 0) (Fld.HIF_TXn_STAT_OUTSTANDING n) 0 (.head _),
    (State.keeps_put s _ _).put _ _⟩

/-- An RX ring as its enable starts it; a stream owes its idle item. -/
def State.rxStarted (s : State) (n : Nat) : RxRing :=
  { RxRing.fresh with stream := s.cur (Fld.HIF_RXn_CFG_KIND n) == 1, log2 := s.cur (Fld.HIF_RXn_CFG_LOG2 n),
                      idleDue := s.cur (Fld.HIF_RXn_CFG_KIND n) == 1 }

theorem rxEnable_off {s : State} {n : Nat} (h : s.rxState n = 0) :
    s.rxEnable n = ((s.put (Fld.HIF_RXn_STAT_FAULT n) 0).setRxRing n (s.rxStarted n)).setRxState n 1 := by
  unfold State.rxEnable
  rw [if_pos h]
  rfl
theorem rxDisable_on {s : State} {n : Nat} (h : s.rxState n ≠ 0) :
    s.rxDisable n = ((s.rxFlush n).setRxRing n RxRing.fresh).setRxState n 0 := by
  unfold State.rxDisable
  rw [if_neg h]

/-- A ring other than 63, or one that is not RUNNING, stays what it was set to when it changes state. -/
theorem rxRing_setRxRing_setRxState (s : State) {n : Nat} (hn : n < 64) (r : RxRing) :
    ((s.setRxRing n r).setRxState n 0).rxRing n = r := by
  have hring := (hifTold_setRxState (s.setRxRing n r) n 0).other n ?_
  · exact hring.trans (rxRing_setRxRing_self s n r)
  · by_cases h : n = 63
    · subst h
      refine .inr fun h1 => ?_
      rw [State.get_put_zero _ _ (by decide) (by decide)] at h1
      cases h1
    · exact .inl h

/-! ### The clauses of the statement -/

section
variable {n : Nat} {t : Tai} {s : State}

theorem txState_putBoth_cfg (s : State) (n v : Nat) : (s.putBoth (Fld.HIF_TXn_CFG_EN n) v).txState n = s.txState n :=
  State.get_put_reg s (Fld.HIF_TXn_CFG_EN n) (Fld.HIF_TXn_STAT_STATE n) v (txCfg_ne_txStat n).symm
theorem rxState_putBoth_cfg (s : State) (n v : Nat) : (s.putBoth (Fld.HIF_RXn_CFG_EN n) v).rxState n = s.rxState n :=
  State.get_put_reg s (Fld.HIF_RXn_CFG_EN n) (Fld.HIF_RXn_STAT_STATE n) v (rxCfg_ne_rxStat n).symm

theorem hostInterfaceEnable_starts (hs : s.up = true) (h : s.get Fld.HIF_STATUS_RUNNING = 0) :
    answers (exec (.hostInterfaceEnable t) s) fun u =>
      u.get Fld.HIF_STATUS_RUNNING = 1 ∧ u.get Fld.HIF_CTRL_EN = 1 ∧ u.cur Fld.HIF_CTRL_EN = 1 ∧ u.hif.wbSeq = 0 ∧
        (u.word (unitOf 1 78)).code = 2 ∧ s.keepsRegs u ([Reg.HIF_CTRL, Reg.HIF_STATUS] ++ dropCounters) ∧
        s.keeps u (.live :: .mgt :: eventParts) := by
  refine answers_effect (m := "HOST_INTERFACE_ENABLE") hs rfl ?_
  have hoff : ((s.at t).putBoth Fld.HIF_CTRL_EN 1).get Fld.HIF_STATUS_RUNNING ≠ 1 := by
    rw [State.get_putBoth, State.get_put_reg _ _ _ _ (by decide), State.get_at, h]
    decide
  rw [hifEnable_off hoff]
  obtain ⟨hrun, hmove⟩ := setRunning_moves ((s.at t).putBoth Fld.HIF_CTRL_EN 1) true
  generalize hh : ({ ((s.at t).putBoth Fld.HIF_CTRL_EN 1).hif with wbSeq := 0 } : HostIf) = h0
  generalize ((s.at t).putBoth Fld.HIF_CTRL_EN 1).setRunning true = x at *
  have hzero : UnitMoves ((s.at t).putBoth Fld.HIF_CTRL_EN 1) { x with hif := h0 }
      Fld.HIF_STATUS_RUNNING (unitOf 1 78) 2 :=
    { word := hmove.word, regs := hmove.regs, keeps := State.keeps_hif _ hmove.keeps (by decide) }
  obtain ⟨hget, hcur⟩ := hzero.written (by decide) (by decide) (by decide) (by decide) (by decide)
  exact ⟨hrun, hget, hcur, by subst hh; rfl, hzero.word, hzero.follows⟩

theorem hostInterfaceDisable_stops (hs : s.up = true) :
    answers (exec (.hostInterfaceDisable t) s) fun u =>
      u.get Fld.HIF_STATUS_RUNNING = 0 ∧ u.get Fld.HIF_CTRL_EN = 0 ∧ u.cur Fld.HIF_CTRL_EN = 0 ∧
        (u.word (unitOf 1 78)).code = 0 ∧ s.keepsRegs u ([Reg.HIF_CTRL, Reg.HIF_STATUS] ++ dropCounters) ∧
        s.keeps u (.live :: .mgt :: eventParts) := by
  refine answers_effect (m := "HOST_INTERFACE_DISABLE") hs rfl ?_
  obtain ⟨hrun, hmove⟩ := setRunning_moves ((s.at t).putBoth Fld.HIF_CTRL_EN 0) false
  generalize ((s.at t).putBoth Fld.HIF_CTRL_EN 0).setRunning false = x at *
  obtain ⟨hget, hcur⟩ := hmove.written (by decide) (by decide) (by decide) (by decide) (by decide)
  exact ⟨hrun, hget, hcur, hmove.word, hmove.follows⟩

theorem txRingEnable_runs (hs : s.up = true) (hn : n < 64) (h : s.txState n = 0) :
    answers (exec (.txRingEnable n t) s) fun u =>
      u.txState n = 1 ∧ u.get (Fld.HIF_TXn_STAT_FAULT n) = 0 ∧ u.get (Fld.HIF_TXn_STAT_OUTSTANDING n) = 0 ∧
        u.txRing n = { TxRing.fresh with log2 := s.cur (Fld.HIF_TXn_CFG_LOG2 n), gen := (s.txRing n).gen + 1 } ∧
        u.get (Fld.HIF_TXn_CFG_EN n) = 1 ∧ (u.word (unitOf 3 n)).code = 1 ∧
        s.keepsRegs u ([Reg.HIF_TXn_CFG n, Reg.HIF_TXn_STAT n] ++ dropCounters) ∧
        s.keeps u (.live :: .mgt :: eventParts) := by
  refine answers_effect (m := "TX_RING_ENABLE") hs (decide_eq_true hn) ?_
  rw [txEnable_off ((txState_putBoth_cfg (s.at t) n 1).trans h)]
  have hlog : ((s.at t).putBoth (Fld.HIF_TXn_CFG_EN n) 1).cur (Fld.HIF_TXn_CFG_LOG2 n) =
      s.cur (Fld.HIF_TXn_CFG_LOG2 n) :=
    State.cur_putBoth_field (s.at t) (Fld.HIF_TXn_CFG_EN n) (Fld.HIF_TXn_CFG_LOG2 n) 1 rfl (by simp [Fld.HIF_TXn_CFG_EN])
      (by simp [Fld.HIF_TXn_CFG_EN]) (.inl (by simp [Fld.HIF_TXn_CFG_EN, Fld.HIF_TXn_CFG_LOG2]))
  have hgen : ((s.at t).putBoth (Fld.HIF_TXn_CFG_EN n) 1).txRing n = s.txRing n := rfl
  rw [cur_txIdle, txRing_txIdle, hlog, hgen]
  obtain ⟨hfault, hout⟩ := get_txIdle ((s.at t).putBoth (Fld.HIF_TXn_CFG_EN n) 1) n
  obtain ⟨hregs, hkeeps⟩ := txIdle_frame ((s.at t).putBoth (Fld.HIF_TXn_CFG_EN n) 1) n
  generalize ((s.at t).putBoth (Fld.HIF_TXn_CFG_EN n) 1).txIdle n = y at *
  have hmove := setTxState_moves (x := y.setTxRing n (.started (s.cur (Fld.HIF_TXn_CFG_LOG2 n)) ((s.txRing n).gen + 1))) (hregs.same rfl)
    (State.keeps_hif _ (State.keeps_mono hkeeps (by simp)) (by decide)) 1
  obtain ⟨hen, -⟩ := hmove.written (txCfg_ne_txStat n) (txCfg_lt hn) (by simp [Fld.HIF_TXn_CFG_EN])
    (by simp [Fld.HIF_TXn_CFG_EN]) (by simp [Fld.HIF_TXn_CFG_EN])
  exact ⟨txState_setTxState _ hn (by decide),
    (get_setTxState_field _ hn 1 rfl (by simp [Fld.HIF_TXn_STAT_FAULT])).trans hfault,
    (get_setTxState_field _ hn 1 rfl (by simp [Fld.HIF_TXn_STAT_OUTSTANDING])).trans hout,
    (txRing_setTxState ..).trans (txRing_setTxRing_self ..), hen, hmove.word, hmove.follows⟩

theorem txRingDisable_drains (hs : s.up = true) (hn : n < 64) (h : s.txState n = 1 ∨ s.txState n = 3) :
    answers (exec (.txRingDisable n t) s) fun u =>
      u.txState n = 2 ∧ u.get (Fld.HIF_TXn_CFG_EN n) = 0 ∧ (u.word (unitOf 3 n)).code = 2 ∧ u.txRing n = s.txRing n ∧
        s.keepsRegs u ([Reg.HIF_TXn_CFG n, Reg.HIF_TXn_STAT n] ++ dropCounters) ∧
        s.keeps u (.live :: .mgt :: eventParts) := by
  refine answers_effect (m := "TX_RING_DISABLE") hs (decide_eq_true hn) ?_
  rw [txDisable_on (s := (s.at t).putBoth (Fld.HIF_TXn_CFG_EN n) 0) (by rw [txState_putBoth_cfg]; exact h)]
  have hring : ((s.at t).putBoth (Fld.HIF_TXn_CFG_EN n) 0).txRing n = s.txRing n := rfl
  have hmove := setTxState_moves (n := n)
    (State.keepsRegs_mono (State.keepsRegs_refl ((s.at t).putBoth (Fld.HIF_TXn_CFG_EN n) 0)) (by simp))
    (State.keeps_mono (State.keeps_refl _) (by simp)) 2
  obtain ⟨hen, -⟩ := hmove.written (txCfg_ne_txStat n) (txCfg_lt hn) (by simp [Fld.HIF_TXn_CFG_EN])
    (by simp [Fld.HIF_TXn_CFG_EN]) (by simp [Fld.HIF_TXn_CFG_EN])
  exact ⟨txState_setTxState _ hn (by decide), hen, hmove.word, (txRing_setTxState ..).trans hring, hmove.follows⟩

theorem txRingDrained_ends (hs : s.up = true) (hn : n < 64) (h : s.txState n = 2)
    (ho : s.get (Fld.HIF_TXn_STAT_OUTSTANDING n) = 0) :
    answers (exec (.txRingDrained n t) s) fun u =>
      u.txState n = 0 ∧ (u.word (unitOf 3 n)).code = 0 ∧ s.keepsRegs u ([Reg.HIF_TXn_STAT n] ++ dropCounters) ∧
        s.keeps u (.live :: .mgt :: eventParts) := by
  refine answers_effect (m := "TX_RING_DRAINED") hs (decide_eq_true hn) ?_
  have hdone : (s.at t).txState n = 2 ∧ (s.at t).get (Fld.HIF_TXn_STAT_OUTSTANDING n) = 0 := ⟨h, ho⟩
  unfold State.txDrained
  rw [if_pos hdone]
  have hmove := setTxState_moves (n := n) (.at s t _) (.at s t _) 0
  exact ⟨txState_setTxState _ hn (by decide), hmove.word, (State.keepsRegs_withQueue ..).2 hmove.regs,
    (State.keeps_withQueue ..).2 (State.keeps_mono hmove.keeps fun _ hp => .tail _ hp)⟩

theorem txRingDrained_waits (hs : s.up = true) (hn : n < 64)
    (h : s.txState n ≠ 2 ∨ s.get (Fld.HIF_TXn_STAT_OUTSTANDING n) ≠ 0) :
    answers (exec (.txRingDrained n t) s) fun u => s.keepsRegs u [] ∧ s.keeps u [] := by
  refine answers_effect (m := "TX_RING_DRAINED") hs (decide_eq_true hn) ?_
  have hno : ¬((s.at t).txState n = 2 ∧ (s.at t).get (Fld.HIF_TXn_STAT_OUTSTANDING n) = 0) := fun ⟨h2, h0⟩ =>
    h.elim (fun g => g h2) fun g => g h0
  unfold State.txDrained
  rw [if_neg hno]
  exact keeps_all_at s t _

theorem rxRingEnable_runs (hs : s.up = true) (hn : n < 64) (h : s.rxState n = 0) :
    answers (exec (.rxRingEnable n t) s) fun u =>
      u.rxState n = 1 ∧ u.get (Fld.HIF_RXn_STAT_FAULT n) = 0 ∧ (u.rxRing n).prod = 0 ∧ (u.rxRing n).ack = 0 ∧
        (u.rxRing n).stream = (s.cur (Fld.HIF_RXn_CFG_KIND n) == 1) ∧
        (u.rxRing n).idleDue = (s.cur (Fld.HIF_RXn_CFG_KIND n) == 1) ∧
        (u.rxRing n).log2 = s.cur (Fld.HIF_RXn_CFG_LOG2 n) ∧ u.get (Fld.HIF_RXn_CFG_EN n) = 1 ∧
        (u.word (unitOf 4 n)).code = 1 ∧ s.keepsRegs u ([Reg.HIF_RXn_CFG n, Reg.HIF_RXn_STAT n] ++ dropCounters) ∧
        s.keeps u (.live :: .mgt :: eventParts) := by
  refine answers_effect (m := "RX_RING_ENABLE") hs (decide_eq_true hn) ?_
  rw [rxEnable_off ((rxState_putBoth_cfg (s.at t) n 1).trans h)]
  have hcur : ∀ f : Fld, f.off = Reg.HIF_RXn_CFG n → 0 < f.lo → ((s.at t).putBoth (Fld.HIF_RXn_CFG_EN n) 1).cur f = s.cur f :=
    fun f hf hlo => State.cur_putBoth_field (s.at t) (Fld.HIF_RXn_CFG_EN n) f 1 hf (by simp [Fld.HIF_RXn_CFG_EN])
      (by simp [Fld.HIF_RXn_CFG_EN]) (.inl hlo)
  have hkind := hcur (Fld.HIF_RXn_CFG_KIND n) rfl (by simp [Fld.HIF_RXn_CFG_KIND])
  have hlog := hcur (Fld.HIF_RXn_CFG_LOG2 n) rfl (by simp [Fld.HIF_RXn_CFG_LOG2])
  unfold State.rxStarted
  rw [hkind, hlog]
  have hfault := State.get_put_zero ((s.at t).putBoth (Fld.HIF_RXn_CFG_EN n) 1) (Fld.HIF_RXn_STAT_FAULT n)
    (by simp [Fld.HIF_RXn_STAT_FAULT]) (by simp [Fld.HIF_RXn_STAT_FAULT])
  have hregs := State.keepsRegs_put ((s.at t).putBoth (Fld.HIF_RXn_CFG_EN n) 1) (Fld.HIF_RXn_STAT_FAULT n) 0
  have hkeeps := State.keeps_put ((s.at t).putBoth (Fld.HIF_RXn_CFG_EN n) 1) (Fld.HIF_RXn_STAT_FAULT n) 0
  generalize ((s.at t).putBoth (Fld.HIF_RXn_CFG_EN n) 1).put (Fld.HIF_RXn_STAT_FAULT n) 0 = y at *
  generalize hr : ({ RxRing.fresh with
      stream := s.cur (Fld.HIF_RXn_CFG_KIND n) == 1, log2 := s.cur (Fld.HIF_RXn_CFG_LOG2 n),
      idleDue := s.cur (Fld.HIF_RXn_CFG_KIND n) == 1 } : RxRing) = r
  have hmove := setRxState_moves (x := y.setRxRing n r) (hregs.same rfl)
    (State.keeps_hif _ (State.keeps_mono hkeeps (by simp)) (by decide)) 1
  obtain ⟨hen, -⟩ := hmove.written (rxCfg_ne_rxStat n) (rxCfg_lt hn) (by simp [Fld.HIF_RXn_CFG_EN])
    (by simp [Fld.HIF_RXn_CFG_EN]) (by simp [Fld.HIF_RXn_CFG_EN])
  have hcore : (((y.setRxRing n r).setRxState n 1).rxRing n).core = r.core :=
    ((hifTold_setRxState _ n 1).ring n).trans (congrArg RxRing.core (rxRing_setRxRing_self y n r))
  subst hr
  exact ⟨rxState_setRxState _ hn (by decide),
    (get_setRxState_field _ hn 1 rfl (by simp [Fld.HIF_RXn_STAT_FAULT])).trans hfault,
    (congrArg RxRing.prod hcore :), (congrArg RxRing.ack hcore :), (congrArg RxRing.stream hcore :),
    (congrArg RxRing.idleDue hcore :), (congrArg RxRing.log2 hcore :), hen, hmove.word, hmove.follows⟩

theorem rxRingDisable_empties (hs : s.up = true) (hn : n < 64) (h : s.rxState n ≠ 0) :
    answers (exec (.rxRingDisable n t) s) fun u =>
      u.rxState n = 0 ∧ u.rxRing n = RxRing.fresh ∧ (u.word (unitOf 4 n)).code = 0 := by
  refine answers_effect (m := "RX_RING_DISABLE") hs (decide_eq_true hn) ?_
  rw [rxDisable_on (s := (s.at t).putBoth (Fld.HIF_RXn_CFG_EN n) 0) (by rw [rxState_putBoth_cfg]; exact h)]
  exact ⟨rxState_setRxState _ hn (by decide), rxRing_setRxRing_setRxState _ hn _, code_message ..⟩

theorem pcieLink_shows (hs : s.up = true) :
    (answers (exec (.pcieLinkDown t) s) fun u =>
      u.get Fld.HIF_STATUS_LINK_UP = 0 ∧ u.hif = { s.hif with linkReady := false } ∧
        s.keepsRegs u [Reg.HIF_STATUS] ∧ s.keeps u [.hif]) ∧
    (answers (exec (.pcieLinkUp t) s) fun u =>
      u.get Fld.HIF_STATUS_LINK_UP = 1 ∧ s.keepsRegs u [Reg.HIF_STATUS] ∧ s.keeps u []) := by
  have hregs := fun v => State.keepsRegs.put (.at s t _) Fld.HIF_STATUS_LINK_UP v (.head [])
  constructor
  · refine answers_effect (m := "PCIE_LINK_DOWN") hs rfl ⟨?_, rfl, (State.keepsRegs_withQueue ..).2 (hregs 0),
      (State.keeps_withQueue ..).2 (State.keeps_hif _ (State.keeps.put (.at s t _) _ _) (by decide))⟩
    exact State.get_put_zero (s.at t) Fld.HIF_STATUS_LINK_UP (by decide) (by decide)
  · refine answers_effect (m := "PCIE_LINK_UP") hs rfl ⟨?_, (State.keepsRegs_withQueue ..).2 (hregs 1),
      (State.keeps_withQueue ..).2 (State.keeps.put (.at s t _) _ _)⟩
    exact State.get_put_fit (s.at t) Fld.HIF_STATUS_LINK_UP 1 (by decide) (by decide) (by decide)

end

end Sys2Proof.Machine

namespace Sys2Proof.Machine

section
variable {n v : Nat} {s : State}

theorem State.keepsRegs.begin (s : State) (l : List Nat) : s.keepsRegs s.begin l := fun _ _ => rfl
theorem State.keeps.begin (s : State) (l : List Part) : s.keeps s.begin l := State.keeps_mono (State.keeps_begin s) (by simp)

/-- The entries of a ring have waited as long as its timer asks (R102). -/
theorem msixCoalescingTimer_waits (hs : s.up = true) (hn : n < 64) :
    (0 < (s.txRing n).since → answers (exec (.msixCoalescingTimer true n) s) fun u =>
      u.txRing n = { s.txRing n with wait := max (s.txRing n).wait (s.cur (Fld.HIF_TXn_IRQ_BEATS n)) } ∧
        s.keepsRegs u [] ∧ s.keeps u [.hif]) ∧
    (0 < (s.rxRing n).since → answers (exec (.msixCoalescingTimer false n) s) fun u =>
      u.rxRing n = { s.rxRing n with wait := max (s.rxRing n).wait (s.cur (Fld.HIF_RXn_IRQ_BEATS n)) } ∧
        s.keepsRegs u [] ∧ s.keeps u [.hif]) := by
  constructor
  · intro h
    refine answers_effect (m := "MSIX_COALESCING_TIMER") hs (decide_eq_true hn) ?_
    have hsince : 0 < (s.begin.txRing n).since := h
    rw [if_pos rfl, if_pos hsince]
    exact ⟨txRing_setTxRing_self .., (State.keepsRegs_withQueue ..).2 (.begin s _),
      (State.keeps_withQueue ..).2 (State.keeps_hif _ (.begin s _) (by decide))⟩
  · intro h
    refine answers_effect (m := "MSIX_COALESCING_TIMER") hs (decide_eq_true hn) ?_
    have hsince : 0 < (s.begin.rxRing n).since := h
    rw [if_neg (by decide)]
    dsimp only
    rw [if_pos hsince]
    exact ⟨rxRing_setRxRing_self .., (State.keepsRegs_withQueue ..).2 (.begin s _),
      (State.keeps_withQueue ..).2 (State.keeps_hif _ (.begin s _) (by decide))⟩

/-- The mask bit of a vector's entry (R102). -/
def vectorMask (v : Nat) : Fld := ⟨Reg.MSIX_ENTRY v 3, 0, 0⟩

/-- Clearing the mask of a vector: a pending one waits for the next writeback. -/
theorem unmask_shows (s : State) (v : Nat) :
    (s.unmask v).get (vectorMask v) = 0 ∧
      (bit (s.reg (Reg.MSIX_PBA (v / 32))).toNat (v % 32) = true → v ∈ (s.unmask v).hif.pbaVecs) ∧
      s.keepsRegs (s.unmask v) [Reg.MSIX_ENTRY v 3] ∧ s.keeps (s.unmask v) [.hif] := by
  have hpba : (s.put (vectorMask v) 0).reg (Reg.MSIX_PBA (v / 32)) = s.reg (Reg.MSIX_PBA (v / 32)) :=
    State.reg_put _ _ _ _ (by simp only [vectorMask, Reg.MSIX_PBA, Reg.MSIX_ENTRY]; omega)
  have hmask : (s.put (vectorMask v) 0).get (vectorMask v) = 0 := State.get_put_zero _ _ (by simp [vectorMask]) (by simp [vectorMask])
  have hregs : s.keepsRegs (s.put (vectorMask v) 0) [Reg.MSIX_ENTRY v 3] := State.keepsRegs_put s (vectorMask v) 0
  have hkeeps : s.keeps (s.put (vectorMask v) 0) [.hif] := State.keeps_mono (State.keeps_put s _ _) (by simp)
  have heq : s.unmask v = if bit ((s.put (vectorMask v) 0).reg (Reg.MSIX_PBA (v / 32))).toNat (v % 32) ∧
      ¬(s.put (vectorMask v) 0).hif.pbaVecs.contains v then
      { s.put (vectorMask v) 0 with
        hif := { (s.put (vectorMask v) 0).hif with pbaVecs := (s.put (vectorMask v) 0).hif.pbaVecs ++ [v] } }
      else s.put (vectorMask v) 0 := rfl
  rw [heq, hpba]
  generalize s.put (vectorMask v) 0 = x at *
  split
  · exact ⟨hmask, fun _ => List.mem_append_right _ (List.mem_singleton_self v), hregs.same rfl, State.keeps_hif _ hkeeps (by decide)⟩
  · next h =>
    refine ⟨hmask, fun hb => ?_, hregs, hkeeps⟩
    rw [not_and, not_not] at h
    exact List.contains_iff_mem.1 (h hb)

theorem msixUnmask_clears (hs : s.up = true) (hv : v < 256) :
    answers (exec (.msixUnmask v) s) fun u =>
      u.get ⟨Reg.MSIX_ENTRY v 3, 0, 0⟩ = 0 ∧
        (bit (s.reg (Reg.MSIX_PBA (v / 32))).toNat (v % 32) = true → v ∈ u.hif.pbaVecs) ∧
        s.keepsRegs u [Reg.MSIX_ENTRY v 3] ∧ s.keeps u [.hif] := by
  refine answers_effect (m := "MSIX_UNMASK") hs (decide_eq_true hv) ?_
  obtain ⟨hmask, hpend, hregs, hkeeps⟩ := unmask_shows s.begin v
  exact ⟨hmask, hpend, (State.keepsRegs_withQueue ..).2 hregs,
    (State.keeps_withQueue ..).2 (State.keeps_back (.begin s _) hkeeps fun _ h => h)⟩

end

/-- Settles O40: the enables and disables of the interface (`setRunning_moves`) and of its rings (`setTxState_moves`,
`setRxState_moves`), the link, and the two MSI-X commands, each by its own lemma. -/
theorem hostRingsFollowTheirEnables : Obligations.HostRingsFollowTheirEnables := by
  intro n v t s hs hn hv
  obtain ⟨hdown, hup⟩ := pcieLink_shows (t := t) hs
  obtain ⟨htx, hrx⟩ := msixCoalescingTimer_waits hs hn
  exact ⟨hostInterfaceEnable_starts hs, hostInterfaceDisable_stops hs, txRingEnable_runs hs hn, txRingDisable_drains hs hn,
    txRingDrained_ends hs hn, txRingDrained_waits hs hn, rxRingEnable_runs hs hn, rxRingDisable_empties hs hn, hdown, hup, htx,
    hrx, msixUnmask_clears hs hv⟩

end Sys2Proof.Machine

namespace Sys2Proof.Machine

/-! ### A descriptor's outcome is final (R89, R92) -/

/-- A completion waits for the next writeback. -/
def State.completed (s : State) (c : Completion) : State :=
  { s with hif := { s.hif with finals := s.hif.finals ++ [c] } }

/-- A completion that tells a ring's descriptor by its tag how it ended. -/
structure Completion.tells (c : Completion) (ring tag status : Nat) : Prop where
  ring : c.ring = ring
  tag : c.tag = tag
  status : c.status = status

/-- A descriptor with CMPL, fetched since its ring's last enable, of a ring that no fault has struck, completes; where it has a
flow, SEQ_GAP has been told. -/
theorem hostFinal_completes {s : State} {h : HostTag} (hc : h.cmpl = true) (hg : h.gen = (s.txRing h.ring).gen)
    (hd : (s.txRing h.ring).dead = false) (status unit total fails : Nat) (time : Tai) (flow : Option Nat) (replay : Bool) :
    ∃ c : Completion, s.hostFinal h status unit total fails time flow replay = (flow.elim s s.clearGap).completed c ∧
      c.tells h.ring h.tag status := by
  have hlive : (h.cmpl && h.gen == (s.txRing h.ring).gen && !(s.txRing h.ring).dead) = true := by simp [hc, hg, hd]
  unfold State.hostFinal
  dsimp only
  rw [if_pos hlive]
  cases flow with
  | none => exact ⟨_, rfl, rfl, rfl, rfl⟩
  | some fl => exact ⟨_, rfl, rfl, rfl, rfl⟩

/-! ### One descriptor is fetched (R83, R89) -/

/-- A ring after the fetch of a descriptor: the fetch index moves by one, and with CMPL a completion is owed. -/
def TxRing.fetched (r : TxRing) (x : Desc) : TxRing := { r with fetch := (r.fetch + 1) % 2 ^ 32, owed := r.owed + b2n x.cmpl }

/-- A descriptor of a ring has been fetched. -/
def State.fetchNoted (s : State) (n : Nat) (x : Desc) : State :=
  ((s.setTxRing n ((s.txRing n).fetched x)).put
    (Fld.HIF_TXn_STAT_OUTSTANDING n) (s.get (Fld.HIF_TXn_STAT_OUTSTANDING n) + 1)).observe (unitOf 3 n)

/-- What a fetch leaves and shows. -/
structure FetchNoted (s u : State) (n : Nat) (x : Desc) : Prop where
  ring : u.txRing n = (s.txRing n).fetched x
  fetched : u.hif.fetched = s.hif.fetched
  finals : u.hif.finals = s.hif.finals
  regs : s.keepsRegs u [Reg.HIF_TXn_STAT n]
  keeps : s.keeps u [.hif, .mgt]

theorem fetchNoted_fetchNoted (s : State) (n : Nat) (x : Desc) : FetchNoted s (s.fetchNoted n x) n x := by
  have hhif : (s.fetchNoted n x).hif = (s.setTxRing n ((s.txRing n).fetched x)).hif := by
    rw [State.fetchNoted, State.observe_hif, State.put_hif]
  have hregs := State.keepsRegs_put (s.setTxRing n ((s.txRing n).fetched x)) (Fld.HIF_TXn_STAT_OUTSTANDING n)
    (s.get (Fld.HIF_TXn_STAT_OUTSTANDING n) + 1)
  have hkeeps : s.keeps (s.setTxRing n ((s.txRing n).fetched x)) [.hif, .mgt] :=
    State.keeps_hif _ (State.keeps_mono (State.keeps_refl s) (by simp)) (by decide)
  exact
    { ring := (txRing_of_hif (congrArg HostIf.tx hhif) n).trans (txRing_setTxRing_self ..)
      fetched := by rw [hhif]; rfl
      finals := by rw [hhif]; rfl
      regs := State.keepsRegs.same hregs (State.observe_regs _ (unitOf 3 n))
      keeps := State.keeps_back (hkeeps.put _ _) (State.keeps_observe _ (unitOf 3 n)) (by simp) }

theorem FetchNoted.freeBlocks {s u : State} {n : Nat} {x : Desc} (h : FetchNoted s u n x) (hn : n < 64) :
    u.freeBlocks = s.freeBlocks :=
  h.regs.get (by simp only [Fld.FAB_FREE_BLOCKS, Reg.FAB_FREE, Reg.HIF_TXn_STAT, List.mem_singleton]; omega)

/-- May a ring take a descriptor: is there room for its completion? -/
def TxRing.roomFor (r : TxRing) (x : Desc) : Prop := x.cmpl = true → r.owed + 1 + idxSub r.cprod r.cack ≤ 2 ^ r.log2

theorem TxRing.roomFor.not_full {r : TxRing} {x : Desc} (h : r.roomFor x) :
    ¬(x.cmpl ∧ 2 ^ r.log2 < r.owed + 1 + idxSub r.cprod r.cack) := fun ⟨hc, hfull⟩ => absurd (h hc) (Nat.not_le.2 hfull)

theorem descRefused_nop {x : Desc} (h : x.opcode = 3) (s : State) : s.descRefused x = false := if_pos h

/-- A NOP with CMPL is final at its fetch, with OK. -/
theorem fetchOne_nop {s : State} {n : Nat} {b : Bytes} {payload : Option Bytes} (hop : (parseDesc b payload).opcode = 3)
    (hc : (parseDesc b payload).cmpl = true) (hd : (s.txRing n).dead = false) (hr : (s.txRing n).roomFor (parseDesc b payload)) :
    ∃ c : Completion, s.fetchOne n { ring := n, bytes := some b, payload := payload } =
      (.taken, (s.fetchNoted n (parseDesc b payload)).completed c) ∧ c.tells n (parseDesc b payload).tag 0 := by
  have hring := (fetchNoted_fetchNoted s n (parseDesc b payload)).ring
  obtain ⟨c, heq, htells⟩ := hostFinal_completes (s := s.fetchNoted n (parseDesc b payload))
    (h := { ring := n, tag := (parseDesc b payload).tag, cmpl := (parseDesc b payload).cmpl, oneShot := false, dest := 0,
            gen := (s.txRing n).gen }) hc (by rw [hring]; rfl) (by rw [hring]; exact hd) 0 (unitOf 3 n) 0 0 0 none false
  refine ⟨c, ?_, htells⟩
  rw [Option.elim_none] at heq
  rw [← heq]
  unfold State.fetchOne
  dsimp only
  have hnone : (false = true ∨ (parseDesc b payload).opcode = 3) := .inr hop
  rw [if_neg hr.not_full, descRefused_nop hop, if_pos hnone, if_neg (Nat.not_lt_zero _), if_neg Bool.false_ne_true, if_pos hop]
  rfl

/-- A frame descriptor waits for its submission. -/
def State.frameFetched (s : State) (n : Nat) (x : Desc) (blocks : Nat) : State :=
  { (s.fetchNoted n x).put Fld.FAB_FREE_BLOCKS (s.freeBlocks - blocks) with
    hif := { (s.fetchNoted n x).hif with
      fetched := (s.fetchNoted n x).hif.fetched ++ [{ ring := n, gen := (s.txRing n).gen, desc := x }] } }

/-- An accepted inline frame, with room in packet memory, is taken and waits for its submission. -/
theorem fetchOne_frame {s : State} {n : Nat} (hn : n < 64) {b : Bytes} {payload : Option Bytes}
    (hop : (parseDesc b payload).opcode = 1) (hi : (parseDesc b payload).inline = true)
    (hok : s.descRefused (parseDesc b payload) = false) (hr : (s.txRing n).roomFor (parseDesc b payload))
    (hfree : (parseDesc b payload).blocks 0 ≤ s.freeBlocks) :
    s.fetchOne n { ring := n, bytes := some b, payload := payload } =
      (.taken, s.frameFetched n (parseDesc b payload) ((parseDesc b payload).blocks 0)) := by
  have h3 : ¬((parseDesc b payload).opcode = 3) := by rw [hop]; decide
  have h2 : ¬((parseDesc b payload).opcode = 2) := by rw [hop]; decide
  have hkept := (fetchNoted_fetchNoted s n (parseDesc b payload)).freeBlocks hn
  unfold State.frameFetched
  rw [← hkept]
  unfold State.fetchOne
  dsimp only
  have hsome : ¬(false = true ∨ (parseDesc b payload).opcode = 3) := by simpa using h3
  rw [if_neg hr.not_full, hok, if_neg hsome, if_neg h2, if_neg (Nat.not_lt.2 hfree), if_neg Bool.false_ne_true, if_neg h3,
    if_pos hop, hi, if_neg (by simp), if_pos hop]
  rfl

/-! ### The descriptors of one ring (R83) -/

/-- May a ring fetch: is it RUNNING, with a descriptor up to its producer index? -/
def State.owes (s : State) (n : Nat) : Prop := s.txState n = 1 ∧ (s.txRing n).fetch ≠ (s.txRing n).prod

theorem fetchRing_taken {s x : State} {n : Nat} (h : s.owes n) {d : DescRead} (hx : s.fetchOne n d = (.taken, x)) (k : Nat) :
    State.fetchRing n (k + 1) [d] s = (false, x) := by
  unfold State.fetchRing
  have howes : s.txState n = 1 ∧ (s.txRing n).fetch ≠ (s.txRing n).prod := h
  rw [if_pos howes, hx]
  cases k <;> rfl

theorem fetchRing_idle {s : State} {n : Nat} (h : ¬s.owes n) (k : Nat) (d : DescRead) (l : List DescRead) :
    State.fetchRing n (k + 1) (d :: l) s = (false, s) := if_neg h

theorem fetchRing_nil (s : State) (n k : Nat) : State.fetchRing n k [] s = (false, s) := by cases k <;> rfl

end Sys2Proof.Machine

namespace Sys2Proof.Machine

/-! ### A TX ring is put in FAULT (R81) -/

section
variable {n : Nat}

theorem gapBack_same (s : State) (c : Completion) : (s.gapBack c).hif = s.hif ∧ (s.gapBack c).regs = s.regs := by
  unfold State.gapBack
  split
  · split <;> exact ⟨rfl, rfl⟩
  · exact ⟨rfl, rfl⟩

/-- The discarded completions leave OUTSTANDING, and of the registers nothing else. -/
theorem regs_txFlush (s : State) (n : Nat) : ∃ v, (s.txFlush n).regs = (s.put (Fld.HIF_TXn_STAT_OUTSTANDING n) v).regs :=
  ⟨_, foldl_same State.regs (fun y c => (gapBack_same y c).2) _ _⟩

theorem keepsRegs_txFlush (s : State) (n : Nat) : s.keepsRegs (s.txFlush n) [Reg.HIF_TXn_STAT n] := by
  obtain ⟨v, hv⟩ := regs_txFlush s n
  exact (State.keepsRegs_put s (Fld.HIF_TXn_STAT_OUTSTANDING n) v).same hv

theorem txState_txFlush (s : State) (n : Nat) : (s.txFlush n).txState n = s.txState n := by
  obtain ⟨v, hv⟩ := regs_txFlush s n
  rw [State.txState, State.get_of_regs hv]
  exact State.get_put_field _ _ _ _ rfl (by simp [Fld.HIF_TXn_STAT_OUTSTANDING]) (by simp [Fld.HIF_TXn_STAT_OUTSTANDING])
    (.inr (by simp [Fld.HIF_TXn_STAT_OUTSTANDING, Fld.HIF_TXn_STAT_STATE]))

/-- What a fault of a TX ring shows and leaves. -/
structure TxFaults (s u : State) (n : Nat) : Prop where
  state : u.txState n = 3
  dead : (u.txRing n).dead = true
  told : ∃ d, u.told 0x0401 (unitOf 3 n) d
  regs : s.keepsRegs u (Reg.HIF_TXn_STAT n :: Reg.HIF_TXFAULT0 :: Reg.HIF_TXFAULT1 :: dropCounters)

/-- A TX ring in FAULT with its code, its completions discarded. -/
def State.txStopped (s : State) (n code : Nat) : State :=
  ((s.setTxState n 3).put (Fld.HIF_TXn_STAT_FAULT n) code).txFlush n

theorem txState_txStopped (s : State) (hn : n < 64) (code : Nat) : (s.txStopped n code).txState n = 3 := by
  unfold State.txStopped
  rw [txState_txFlush]
  exact (State.get_put_field _ (Fld.HIF_TXn_STAT_FAULT n) (Fld.HIF_TXn_STAT_STATE n) code rfl (by simp [Fld.HIF_TXn_STAT_FAULT])
    (by simp [Fld.HIF_TXn_STAT_FAULT]) (.inr (by simp [Fld.HIF_TXn_STAT_FAULT, Fld.HIF_TXn_STAT_STATE]))).trans
    (txState_setTxState s hn (by decide))

theorem keepsRegs_txStopped (s : State) (n code : Nat) :
    s.keepsRegs (s.txStopped n code) (Reg.HIF_TXn_STAT n :: dropCounters) := by
  have hmoves := setTxState_moves (n := n) (s := s) (x := s) (fun _ _ => rfl) (State.keeps_mono (State.keeps_refl s) (by simp)) 3
  exact State.keepsRegs_back (hmoves.regs.put (Fld.HIF_TXn_STAT_FAULT n) code (.head _)) (keepsRegs_txFlush _ n) (by simp)

/-- A TX ring whose completions are void until its next enable. -/
def State.txDead (s : State) (n : Nat) : State := s.setTxRing n { s.txRing n with dead := true }

/-- The register that flags a TX ring's fault. -/
def txFaultReg (n : Nat) : Nat := if n < 32 then Reg.HIF_TXFAULT0 else Reg.HIF_TXFAULT1

theorem txFaultReg_mem (n : Nat) : txFaultReg n ∈ [Reg.HIF_TXFAULT0, Reg.HIF_TXFAULT1] := by
  unfold txFaultReg
  split <;> simp

theorem txStat_ne_txFaultReg (n m : Nat) : Reg.HIF_TXn_STAT m ≠ txFaultReg n := by
  unfold txFaultReg Reg.HIF_TXn_STAT Reg.HIF_TXFAULT0 Reg.HIF_TXFAULT1
  split <;> omega

theorem ringFault_tx (s : State) (hn : n < 64) (code : Nat) : TxFaults s (s.ringFault 0 n code) n := by
  have hstate : ((s.txStopped n code).txDead n).txState n = 3 := txState_txStopped s hn code
  have hdead : (((s.txStopped n code).txDead n).txRing n).dead = true := congrArg TxRing.dead (txRing_setTxRing_self ..)
  have hregs : s.keepsRegs ((s.txStopped n code).txDead n) (Reg.HIF_TXn_STAT n :: dropCounters) :=
    (keepsRegs_txStopped s n code).same rfl
  have heq : s.ringFault 0 n code = ({ ((s.txStopped n code).txDead n).orReg (txFaultReg n) (2 ^ (n % 32)) with
      hif := { ((s.txStopped n code).txDead n).hif with errVec := true } }).raise 0x0401 (unitOf 3 n) [n4 0, n4 n, n4 code] := rfl
  rw [heq]
  generalize (s.txStopped n code).txDead n = x at *
  have hor := State.keepsRegs_orReg x (txFaultReg n) (2 ^ (n % 32))
  refine { state := ?_, dead := ?_, told := ⟨_, State.told_raise ..⟩, regs := State.keepsRegs.raise ?_ _ _ _ ?_ }
  · unfold State.txState
    rw [State.get_raise _ _ _ _ _ (not_mem_dropCounters (txStat_lt hn))]
    exact (hor.get (f := Fld.HIF_TXn_STAT_STATE n) fun h => txStat_ne_txFaultReg n n (List.mem_singleton.1 h)).trans hstate
  · rw [(hifTold_raise ..).txRing]
    exact hdead
  · refine State.keepsRegs_back (State.keepsRegs_mono hregs ?_) hor ?_
    · rintro o (_ | ⟨_, ho⟩)
      · exact .head _
      · exact .tail _ (.tail _ (.tail _ ho))
    · rintro o ho
      rw [List.mem_singleton.1 ho]
      exact .tail _ (List.mem_append_left dropCounters (txFaultReg_mem n))
  · exact fun o ho => .tail _ (.tail _ (.tail _ ho))

end

end Sys2Proof.Machine

namespace Sys2Proof.Machine

/-! ### Work over the rings, of which one has any -/

section
variable {α β : Type} {g : α → β → α} {l : List β} {a c : α} {b : β}

theorem foldl_idle (h : ∀ d ∈ l, g a d = a) : l.foldl g a = a := by
  induction l with
  | nil => rfl
  | cons d l ih =>
    rw [List.foldl_cons, h d (.head _)]
    exact ih fun e he => h e (.tail _ he)

theorem foldl_once (hl : l.Nodup) (hb : b ∈ l) (before : ∀ d ∈ l, d ≠ b → g a d = a) (hit : g a b = c)
    (after : ∀ d ∈ l, d ≠ b → g c d = c) : l.foldl g a = c := by
  obtain ⟨p, q, rfl⟩ := List.append_of_mem hb
  obtain ⟨-, hq, hdisj⟩ := List.nodup_append.1 hl
  have hp : ∀ d ∈ p, d ≠ b := fun d hd h => hdisj d hd b (.head _) h
  have hq : ∀ d ∈ q, d ≠ b := fun d hd h => (List.nodup_cons.1 hq).1 (h ▸ hd)
  rw [List.foldl_append, List.foldl_cons, foldl_idle fun d hd => before d (List.mem_append_left _ hd) (hp d hd), hit]
  exact foldl_idle fun d hd => after d (List.mem_append_right _ (.tail _ hd)) (hq d hd)

end

/-! ### The doorbell page (R79, R80, R81) -/

section
variable {s x : State} {n : Nat}

/-- No RX ring is RUNNING, and no TX ring but one shows another state than OFF. -/
structure State.servesOnly (s : State) (n : Nat) : Prop where
  tx : ∀ m < 64, m ≠ n → s.txState m = 0
  rx : ∀ m < 64, s.rxState m = 0

theorem State.servesOnly.of_regs (h : s.servesOnly n) {l : List Nat} (hr : s.keepsRegs x l)
    (htx : ∀ m < 64, m ≠ n → Reg.HIF_TXn_STAT m ∉ l) (hrx : ∀ m < 64, Reg.HIF_RXn_STAT m ∉ l) : x.servesOnly n where
  tx m hm hne := (hr.get (f := Fld.HIF_TXn_STAT_STATE m) (htx m hm hne)).trans (h.tx m hm hne)
  rx m hm := (hr.get (f := Fld.HIF_RXn_STAT_STATE m) (hrx m hm)).trans (h.rx m hm)

theorem txDoorbell_off {m : Nat} (h : s.txState m = 0) (prod cack : Nat) : s.txDoorbell m prod cack = s := by
  unfold State.txDoorbell
  simp [h]

theorem rxDoorbell_off {m : Nat} (h : s.rxState m = 0) (ack : Nat) : s.rxDoorbell m ack = s := by
  unfold State.rxDoorbell
  simp [h]

/-- Indices that stay within the ring and within what was written are taken. -/
theorem txDoorbell_taken (h : s.txState n = 1) {prod cack : Nat} (hp : wraps prod (s.txRing n).prod = false)
    (hroom : idxSub prod (s.txRing n).fetch ≤ 2 ^ (s.txRing n).log2) (hc : wraps cack (s.txRing n).cack = false)
    (hw : idxSub cack (s.txRing n).cack ≤ idxSub (s.txRing n).cprod (s.txRing n).cack) :
    s.txDoorbell n prod cack = s.setTxRing n { s.txRing n with prod := prod, cack := cack } := by
  unfold State.txDoorbell
  simp [h, hp, hc, Nat.not_lt.2 hroom, Nat.not_lt.2 hw]

/-- A producer index that runs back, or leaves more than the ring holds, puts the ring in FAULT. -/
theorem txDoorbell_fault (h : s.txState n = 1) {prod : Nat} (hp : wraps prod (s.txRing n).prod = true ∨
    2 ^ (s.txRing n).log2 < idxSub prod (s.txRing n).fetch) (cack : Nat) :
    ∃ code, s.txDoorbell n prod cack = s.ringFault 0 n code := by
  unfold State.txDoorbell
  by_cases hw : wraps prod (s.txRing n).prod = true
  · exact ⟨1, if_pos ⟨h, hw⟩⟩
  · exact ⟨2, (if_neg fun g => hw g.2).trans (if_pos ⟨h, hp.resolve_left hw⟩)⟩

/-- Where only one ring is served, the page is that ring's doorbell. -/
theorem doorbells_one (hn : n < 64) (h : s.servesOnly n) {p : PageWords}
    (hx : s.txDoorbell n (pageWord p (pageTxProd n) (s.txRing n).prod) (pageWord p (pageTxCack n) (s.txRing n).cack) = x)
    (hxs : x.servesOnly n) : s.doorbells p = x := by
  unfold State.doorbells
  have htx : (List.range 64).foldl (fun (y : State) m => y.txDoorbell m (pageWord p (pageTxProd m) (y.txRing m).prod)
      (pageWord p (pageTxCack m) (y.txRing m).cack)) s = x :=
    foldl_once List.nodup_range (List.mem_range.2 hn)
      (fun m hm hne => txDoorbell_off (h.tx m (List.mem_range.1 hm) hne) _ _) hx
      (fun m hm hne => txDoorbell_off (hxs.tx m (List.mem_range.1 hm) hne) _ _)
  dsimp only
  rw [htx]
  exact foldl_idle fun m hm => rxDoorbell_off (hxs.rx m (List.mem_range.1 hm)) _

end

/-! ### The words of a page -/

theorem pageWord_nil {v : Nat} (off : Nat) (hv : v < 2 ^ 32) : pageWord [] off v = v := Nat.mod_eq_of_lt hv

theorem idxSub_self {v : Nat} (h : v < 2 ^ 32) : idxSub v v = 0 := by
  unfold idxSub
  rw [Nat.mod_eq_of_lt h]
  omega

theorem wraps_self {v : Nat} (h : v < 2 ^ 32) : wraps v v = false := by
  unfold wraps
  rw [idxSub_self h]
  decide

theorem look_hit (k v : Nat) (p : PageWords) : SMap.look ((k, v) :: p) k = some v := by
  unfold SMap.look
  simp

theorem look_miss {k j : Nat} (h : k ≠ j) (v : Nat) (p : PageWords) : SMap.look ((k, v) :: p) j = SMap.look p j := by
  unfold SMap.look
  simp [h]

theorem pageWord_prod (n last : Nat) {prod : Nat} (h : prod < 2 ^ 32) (l : PageWords) :
    pageWord ((0x40 + 4 * n, prod) :: l) (pageTxProd n) last = prod := by
  unfold pageWord pageTxProd
  rw [look_hit, Option.getD_some, Nat.mod_eq_of_lt h]

theorem pageWord_cack (n last prod : Nat) {cack : Nat} (h : cack < 2 ^ 32) :
    pageWord [(0x40 + 4 * n, prod), (0x140 + 4 * n, cack)] (pageTxCack n) last = cack := by
  unfold pageWord pageTxCack
  rw [look_miss (by omega), look_hit, Option.getD_some, Nat.mod_eq_of_lt h]

/-! ### The intake of a beat -/

/-- The link has been seen up since the last writeback. -/
def State.linked (s : State) : State := { s with hif := { s.hif with linkReady := true } }

/-- The page has been asked for. -/
def State.pageAsked (s : State) : State := s.linked.count Reg.HIF_DB_FETCH_CNT

section
variable {s x : State} {n : Nat}

/-- A page that could not be read sets DB_ERR and counts. -/
def State.pageMissed (s : State) : State := (s.pageAsked.put Fld.HIF_STATUS_DB_ERR 1).count32 Reg.HIF_DB_ERR_CNT

theorem intake_unread (hrun : s.get Fld.HIF_STATUS_RUNNING = 1) (hup : s.hostUp = true) (reads : List DescRead) :
    s.intake none reads = s.pageMissed.raise 0x0403 0
      [n8 (s.pageMissed.addr64 Reg.HIF_DB_BASE_LO Reg.HIF_DB_BASE_HI), n4 0] := by
  have hgo : s.linked.get Fld.HIF_STATUS_RUNNING = 1 ∧ s.linked.hostUp = true := ⟨hrun, hup⟩
  unfold State.intake
  rw [if_pos hup]
  exact if_pos hgo

theorem intake_stopped (hrun : s.get Fld.HIF_STATUS_RUNNING = 0) (page : Option PageWords) (reads : List DescRead) :
    s.intake page reads = s ∨ s.intake page reads = s.linked := by
  unfold State.intake
  dsimp only
  split
  · exact .inr (if_neg fun h => absurd (hrun.symm.trans h.1) (by decide))
  · exact .inl (if_neg fun h => absurd (hrun.symm.trans h.1) (by decide))

/-- A page that was read clears DB_ERR. -/
def State.pageRead (s : State) : State := s.pageAsked.put Fld.HIF_STATUS_DB_ERR 0

/-- The state after the doorbells of a page that was read. -/
def State.rung (s : State) (p : PageWords) : State := s.pageRead.doorbells p

/-- Without a descriptor read the intake is its doorbells. -/
theorem intake_page (hrun : s.get Fld.HIF_STATUS_RUNNING = 1) (hup : s.hostUp = true) (p : PageWords) :
    s.intake (some p) [] = s.rung p := by
  have hgo : s.linked.get Fld.HIF_STATUS_RUNNING = 1 ∧ s.linked.hostUp = true := ⟨hrun, hup⟩
  unfold State.intake
  rw [if_pos hup]
  refine (if_pos hgo).trans ?_
  have hnone : (List.range 64).foldl (fun (a : Bool × State) m =>
      ((a.1 || (State.fetchRing m (a.2.cur (Fld.HIF_TXn_CFG_QUOTA m)) [] a.2).1),
        (State.fetchRing m (a.2.cur (Fld.HIF_TXn_CFG_QUOTA m)) [] a.2).2)) (false, s.rung p) = (false, s.rung p) :=
    foldl_idle fun m _ => by rw [fetchRing_nil]; rfl
  exact congrArg (fun a : Bool × State => if a.1 then a.2.count Reg.FAB_HOSTBUF_WAIT else a.2) hnone

/-- The one descriptor read of a ring that owes it is fetched. -/
theorem intake_fetch (hrun : s.get Fld.HIF_STATUS_RUNNING = 1) (hup : s.hostUp = true) {p : PageWords} (hn : n < 64)
    (howes : (s.rung p).owes n) (hq : 1 ≤ (s.rung p).cur (Fld.HIF_TXn_CFG_QUOTA n)) {d : DescRead} (hd : d.ring = n)
    (hx : (s.rung p).fetchOne n d = (.taken, x)) : s.intake (some p) [d] = x := by
  have hgo : s.linked.get Fld.HIF_STATUS_RUNNING = 1 ∧ s.linked.hostUp = true := ⟨hrun, hup⟩
  unfold State.intake
  rw [if_pos hup]
  refine (if_pos hgo).trans ?_
  have hone : (List.range 64).foldl (fun (a : Bool × State) m =>
      ((a.1 || (State.fetchRing m (a.2.cur (Fld.HIF_TXn_CFG_QUOTA m)) ([d].filter fun e => e.ring == m) a.2).1),
        (State.fetchRing m (a.2.cur (Fld.HIF_TXn_CFG_QUOTA m)) ([d].filter fun e => e.ring == m) a.2).2))
      (false, s.rung p) = (false, x) := by
    have hother : ∀ m, m ≠ n → [d].filter (fun e => e.ring == m) = [] := fun m hm => by
      simp [hd, Ne.symm hm]
    have hself : [d].filter (fun e => e.ring == n) = [d] := by simp [hd]
    refine foldl_once (b := n) List.nodup_range (List.mem_range.2 hn) (fun m _ hm => ?_) ?_ (fun m _ hm => ?_)
    · rw [hother m hm, fetchRing_nil]; rfl
    · obtain ⟨k, hk⟩ := Nat.exists_eq_add_of_le' hq
      dsimp only
      rw [hself, hk, fetchRing_taken howes hx]
      rfl
    · rw [hother m hm, fetchRing_nil]; rfl
  exact congrArg (fun a : Bool × State => if a.1 then a.2.count Reg.FAB_HOSTBUF_WAIT else a.2) hone

end

end Sys2Proof.Machine

namespace Sys2Proof.Machine

/-! ### INTAKE_SLOT -/

/-- The state in which the intake of a beat works. -/
def State.intakeBegun (s : State) (t : Tai) : State := { s.at t with beat := { s.beat with intakeRun := true } }

/-- The intake slot of a running unit is open, and the beat's intake is not done. -/
structure State.intakeDue (s : State) (t : Tai) : Prop where
  up : s.up = true
  slot : (s.at t).slotOpen 0 = true
  fresh : s.beat.intakeRun = false
  running : s.glb.phase = .running

section
variable {n : Nat} {t : Tai} {s : State}

theorem keepsRegs_intakeBegun (s : State) (t : Tai) (l : List Nat) : s.keepsRegs (s.intakeBegun t) l := fun _ _ => rfl
theorem keeps_intakeBegun (s : State) (t : Tai) : s.keeps (s.intakeBegun t) [.beat] :=
  State.keeps_beat _ (.at s t _) (by decide)

theorem answers_intakeSlot (h : s.intakeDue t) {page : Option PageWords} {reads : List DescRead} {p : State → Prop}
    (hpage : page.all pageOk = true) (hreads : (reads.all fun d => decide (d.ring < 64)) = true)
    (hp : p (((s.intakeBegun t).intake page (if s.updState = 5 then [] else reads)).withQueue s.pending)) :
    answers (exec (.intakeSlot page reads t) s) p := by
  refine answers_effect (m := "INTAKE_SLOT") h.up (decide_eq_true ⟨hpage, hreads⟩) ?_
  have hdue : (s.at t).slotOpen 0 = true ∧ (s.at t).beat.intakeRun = false := ⟨h.slot, h.fresh⟩
  have hrunning : (s.intakeBegun t).glb.phase = .running := h.running
  rw [if_pos hdue]
  exact (congrArg (fun x : State => p (x.withQueue s.pending)) (if_pos hrunning)).mpr hp

/-- A slot that is not open, or whose intake is done, changes nothing. -/
theorem intakeSlot_closed (hs : s.up = true) {page : Option PageWords} {reads : List DescRead}
    (hpage : page.all pageOk = true) (hreads : (reads.all fun d => decide (d.ring < 64)) = true)
    (h : (s.at t).slotOpen 0 = false ∨ s.beat.intakeRun = true) :
    answers (exec (.intakeSlot page reads t) s) fun u => s.keepsRegs u [] ∧ s.keeps u [] := by
  refine answers_effect (m := "INTAKE_SLOT") hs (decide_eq_true ⟨hpage, hreads⟩) ?_
  have hno : ¬((s.at t).slotOpen 0 = true ∧ (s.at t).beat.intakeRun = false) := fun ⟨ho, hi⟩ =>
    h.elim (fun g => absurd (g.symm.trans ho) (by decide)) fun g => absurd (g.symm.trans hi) (by decide)
  rw [if_neg hno]
  exact keeps_all_at s t _

/-- With the host interface stopped the slot is done and no ring moves. -/
theorem intakeSlot_stopped (h : s.intakeDue t) (hrun : s.get Fld.HIF_STATUS_RUNNING = 0) :
    answers (exec (.intakeSlot (some []) [] t) s) fun u =>
      u.beat = { s.beat with intakeRun := true } ∧ s.keepsRegs u [] ∧ s.keeps u [.beat, .hif] := by
  refine answers_intakeSlot h rfl rfl ?_
  rw [ite_self]
  have hkeeps : s.keeps (s.intakeBegun t) [.beat, .hif] := State.keeps_mono (keeps_intakeBegun s t) (by simp)
  rcases intake_stopped (s := s.intakeBegun t) hrun (some []) [] with heq | heq
  · rw [heq]
    exact ⟨rfl, (State.keepsRegs_withQueue ..).2 (keepsRegs_intakeBegun s t _), (State.keeps_withQueue ..).2 hkeeps⟩
  · rw [heq]
    exact ⟨rfl, (State.keepsRegs_withQueue ..).2 (keepsRegs_intakeBegun s t _),
      (State.keeps_withQueue ..).2 (State.keeps_hif _ hkeeps (by decide))⟩

/-- What asking for the page and the bit DB_ERR leave. -/
theorem pageAsked_put_frame (s : State) (v : Nat) :
    s.keepsRegs (s.pageAsked.put Fld.HIF_STATUS_DB_ERR v) (Reg.HIF_STATUS :: pair64 Reg.HIF_DB_FETCH_CNT) ∧
      s.keeps (s.pageAsked.put Fld.HIF_STATUS_DB_ERR v) [.hif] := by
  have hregs : s.keepsRegs s.pageAsked (pair64 Reg.HIF_DB_FETCH_CNT) := State.keepsRegs_count s.linked _ _
  have hlinked : s.keeps s.linked [.hif] := State.keeps_hif _ (State.keeps_mono (State.keeps_refl s) (by simp)) (by decide)
  exact ⟨(State.keepsRegs_mono hregs fun _ ho => .tail _ ho).put _ _ (.head _), (hlinked.count _ _).put _ _⟩

theorem pageAsked_put_hif (s : State) (v : Nat) :
    (s.pageAsked.put Fld.HIF_STATUS_DB_ERR v).hif = { s.hif with linkReady := true } := by
  rw [State.put_hif, State.pageAsked, State.count_hif]
  rfl

/-- A page that could not be read (R80). -/
theorem intakeSlot_unread (h : s.intakeDue t) (hrun : s.get Fld.HIF_STATUS_RUNNING = 1) (hup : s.hostUp = true) :
    answers (exec (.intakeSlot none [] t) s) fun u =>
      u.get Fld.HIF_STATUS_DB_ERR = 1 ∧ u.reg Reg.HIF_DB_ERR_CNT = s.reg Reg.HIF_DB_ERR_CNT + 1 ∧
        (∃ d, u.told 0x0403 0 d) ∧ u.beat = { s.beat with intakeRun := true } ∧
        s.keepsRegs u (Reg.HIF_STATUS :: Reg.HIF_DB_ERR_CNT :: (pair64 Reg.HIF_DB_FETCH_CNT ++ dropCounters)) ∧
        s.keeps u (.beat :: eventParts) := by
  refine answers_intakeSlot h rfl rfl ?_
  rw [ite_self, intake_unread (s := s.intakeBegun t) hrun hup]
  obtain ⟨hregs, hkeeps⟩ := pageAsked_put_frame (s.intakeBegun t) 1
  have herr := State.get_put_fit (s.intakeBegun t).pageAsked Fld.HIF_STATUS_DB_ERR 1 (by decide) (by decide) (by decide)
  unfold State.pageMissed
  generalize (s.intakeBegun t).pageAsked.put Fld.HIF_STATUS_DB_ERR 1 = x at *
  have hcount := State.keepsRegs_count32 x Reg.HIF_DB_ERR_CNT 1
  have hcnt : (x.count32 Reg.HIF_DB_ERR_CNT).reg Reg.HIF_DB_ERR_CNT = s.reg Reg.HIF_DB_ERR_CNT + 1 := by
    rw [State.count32, State.reg_setReg_self, hregs _ (by decide)]
    rfl
  have hbeat : (x.count32 Reg.HIF_DB_ERR_CNT).beat = { s.beat with intakeRun := true } := hkeeps .beat (by decide)
  have hx : s.keeps x (.beat :: eventParts) :=
    State.keeps_back (State.keeps_mono (keeps_intakeBegun s t) (by simp)) hkeeps (by decide)
  have hy := State.keeps_back hx (State.keeps_count32 x Reg.HIF_DB_ERR_CNT 1) (by simp)
  refine ⟨?_, ?_, ⟨_, State.told_raise ..⟩, ?_, (State.keepsRegs_withQueue ..).2 (State.keepsRegs.raise ?_ _ _ _ (by simp +contextual)),
    (State.keeps_withQueue ..).2 (hy.raise _ _ _ (by simp +contextual))⟩
  · exact (State.get_raise _ _ _ _ _ (by decide)).trans ((hcount.get (by decide)).trans herr)
  · exact (State.reg_raise _ _ _ _ _ (by decide)).trans hcnt
  · exact (State.raise_beat ..).trans hbeat
  · exact State.keepsRegs_back (State.keepsRegs_mono hregs (by simp [pair64])) hcount (by simp)

/-- What of the state the page's read has left when its doorbells are looked at. -/
structure PageRead (s y : State) : Prop where
  regs : s.keepsRegs y (Reg.HIF_STATUS :: pair64 Reg.HIF_DB_FETCH_CNT)
  keeps : s.keeps y [.beat, .hif]
  ring : ∀ m, y.txRing m = s.txRing m
  fetched : y.hif.fetched = s.hif.fetched
  finals : y.hif.finals = s.hif.finals
  count : y.reg64 Reg.HIF_DB_FETCH_CNT = (s.reg64 Reg.HIF_DB_FETCH_CNT + 1) % 2 ^ 64

theorem pageRead_pageRead (s : State) (t : Tai) : PageRead s (s.intakeBegun t).pageRead := by
  obtain ⟨hregs, hkeeps⟩ := pageAsked_put_frame (s.intakeBegun t) 0
  have hhif := pageAsked_put_hif (s.intakeBegun t) 0
  have hput := State.keepsRegs_put (s.intakeBegun t).pageAsked Fld.HIF_STATUS_DB_ERR 0
  have hcount : (s.intakeBegun t).pageAsked.reg64 Reg.HIF_DB_FETCH_CNT = (s.reg64 Reg.HIF_DB_FETCH_CNT + 1) % 2 ^ 64 :=
    State.reg64_count (s.intakeBegun t).linked Reg.HIF_DB_FETCH_CNT 1
  unfold State.pageRead
  generalize (s.intakeBegun t).pageAsked.put Fld.HIF_STATUS_DB_ERR 0 = y at *
  exact
    { regs := hregs
      keeps := State.keeps_back (State.keeps_mono (keeps_intakeBegun s t) (by simp)) hkeeps (by decide)
      ring := txRing_of_hif (by rw [hhif]; rfl)
      fetched := by rw [hhif]; rfl
      finals := by rw [hhif]; rfl
      count := (hput.reg64 (by decide) (by decide)).trans hcount }

theorem PageRead.servesOnly {y : State} (h : PageRead s y) (hone : s.servesOnly n) : y.servesOnly n :=
  hone.of_regs h.regs
    (fun m _ _ => by
      simp only [pair64, List.mem_cons, List.not_mem_nil, or_false, Reg.HIF_TXn_STAT, Reg.HIF_STATUS, Reg.HIF_DB_FETCH_CNT]; omega)
    (fun m _ => by
      simp only [pair64, List.mem_cons, List.not_mem_nil, or_false, Reg.HIF_RXn_STAT, Reg.HIF_STATUS, Reg.HIF_DB_FETCH_CNT]; omega)

theorem PageRead.txState {y : State} (h : PageRead s y) (m : Nat) : y.txState m = s.txState m :=
  h.regs.get (f := Fld.HIF_TXn_STAT_STATE m) (by
    simp only [pair64, List.mem_cons, List.not_mem_nil, or_false, Fld.HIF_TXn_STAT_STATE, Reg.HIF_TXn_STAT, Reg.HIF_STATUS,
      Reg.HIF_DB_FETCH_CNT]
    omega)

/-- The one ring that is served runs. -/
structure State.serves (s : State) (n : Nat) : Prop where
  ring : n < 64
  runs : s.txState n = 1
  only : s.servesOnly n

/-- Doorbell indices within the ring (R81). -/
structure TxRing.admits (r : TxRing) (prod cack : Nat) : Prop where
  ahead : wraps prod r.prod = false
  fits : idxSub prod r.fetch ≤ 2 ^ r.log2
  acked : wraps cack r.cack = false
  written : idxSub cack r.cack ≤ idxSub r.cprod r.cack

/-- A TX ring with the indices of its doorbell. -/
def TxRing.rung (r : TxRing) (prod cack : Nat) : TxRing := { r with prod := prod, cack := cack }

theorem doorbells_taken {y : State} (hone : y.serves n) {p : PageWords} {prod cack : Nat}
    (hprod : pageWord p (pageTxProd n) (y.txRing n).prod = prod) (hcack : pageWord p (pageTxCack n) (y.txRing n).cack = cack)
    (ha : (y.txRing n).admits prod cack) : y.doorbells p = y.setTxRing n ((y.txRing n).rung prod cack) := by
  refine doorbells_one hone.ring hone.only ?_ (hone.only.of_regs (l := []) (fun _ _ => rfl) (by simp) (by simp))
  rw [hprod, hcack]
  exact txDoorbell_taken hone.runs ha.ahead ha.fits ha.acked ha.written

theorem PageRead.serves {y : State} (h : PageRead s y) (hone : s.serves n) : y.serves n :=
  ⟨hone.ring, (h.txState n).trans hone.runs, h.servesOnly hone.only⟩

/-- Indices that stay within the ring are taken (R80, R81). -/
theorem intakeSlot_takes (h : s.intakeDue t) (hrun : s.get Fld.HIF_STATUS_RUNNING = 1) (hup : s.hostUp = true)
    (hone : s.serves n) {prod cack : Nat} (hp : prod < 2 ^ 32) (hc : cack < 2 ^ 32) (ha : (s.txRing n).admits prod cack) :
    answers (exec (.intakeSlot (some [(0x40 + 4 * n, prod), (0x140 + 4 * n, cack)]) [] t) s) fun u =>
      u.txRing n = { s.txRing n with prod := prod, cack := cack } ∧ u.txState n = 1 ∧
        u.reg64 Reg.HIF_DB_FETCH_CNT = (s.reg64 Reg.HIF_DB_FETCH_CNT + 1) % 2 ^ 64 ∧
        s.keepsRegs u (Reg.HIF_STATUS :: pair64 Reg.HIF_DB_FETCH_CNT) ∧ s.keeps u [.beat, .hif] := by
  have hn := hone.ring
  refine answers_intakeSlot h ?_ rfl ?_
  · simp only [Option.all_some, pageOk, List.all_cons, List.all_nil, Bool.and_true, Bool.and_eq_true, decide_eq_true_eq]
    omega
  rw [ite_self, intake_page (s := s.intakeBegun t) hrun hup]
  unfold State.rung
  have hread := pageRead_pageRead s t
  generalize (s.intakeBegun t).pageRead = y at *
  rw [doorbells_taken (hread.serves hone) (pageWord_prod n _ hp _) (pageWord_cack n _ prod hc) (by rw [hread.ring]; exact ha),
    hread.ring]
  exact ⟨txRing_setTxRing_self .., (hread.serves hone).runs, hread.count, (State.keepsRegs_withQueue ..).2 (hread.regs.same rfl),
    (State.keeps_withQueue ..).2 (State.keeps_hif _ hread.keeps (by decide))⟩

/-- An index out of range is a fault. -/
theorem intakeSlot_faults (h : s.intakeDue t) (hrun : s.get Fld.HIF_STATUS_RUNNING = 1) (hup : s.hostUp = true)
    (hone : s.serves n) {prod : Nat} (hp : prod < 2 ^ 32)
    (hbad : wraps prod (s.txRing n).prod = true ∨ 2 ^ (s.txRing n).log2 < idxSub prod (s.txRing n).fetch) :
    answers (exec (.intakeSlot (some [(0x40 + 4 * n, prod)]) [] t) s) fun u =>
      u.txState n = 3 ∧ (u.txRing n).dead = true ∧ ∃ d, u.told 0x0401 (unitOf 3 n) d := by
  have hn := hone.ring
  refine answers_intakeSlot h ?_ rfl ?_
  · simp only [Option.all_some, pageOk, List.all_cons, List.all_nil, Bool.and_true, decide_eq_true_eq]
    omega
  rw [ite_self, intake_page (s := s.intakeBegun t) hrun hup]
  unfold State.rung
  have hread := pageRead_pageRead s t
  generalize (s.intakeBegun t).pageRead = y at *
  have hserves := hread.serves hone
  rw [← hread.ring] at hbad
  obtain ⟨code, hcode⟩ := txDoorbell_fault hserves.runs hbad (pageWord [(0x40 + 4 * n, prod)] (pageTxCack n) (y.txRing n).cack)
  have hfault := ringFault_tx y hn code
  have hlist : y.keepsRegs (y.ringFault 0 n code) ([Reg.HIF_TXn_STAT n, Reg.HIF_TXFAULT0, Reg.HIF_TXFAULT1] ++ dropCounters) :=
    hfault.regs
  rw [doorbells_one hn hserves.only (x := y.ringFault 0 n code) (by rw [pageWord_prod n _ hp, hcode]) ?_]
  · exact ⟨hfault.state, hfault.dead, hfault.told⟩
  · refine hserves.only.of_regs hlist (fun m hm hne => ?_) (fun m hm => ?_)
    · have hfar : Reg.HIF_TXn_STAT m ∉ [Reg.HIF_TXn_STAT n, Reg.HIF_TXFAULT0, Reg.HIF_TXFAULT1] := by
        simp only [List.mem_cons, List.not_mem_nil, or_false, Reg.HIF_TXn_STAT, Reg.HIF_TXFAULT0, Reg.HIF_TXFAULT1]
        omega
      exact fun ho => (List.mem_append.1 ho).elim hfar (not_mem_dropCounters (txStat_lt hm))
    · have hfar : Reg.HIF_RXn_STAT m ∉ [Reg.HIF_TXn_STAT n, Reg.HIF_TXFAULT0, Reg.HIF_TXFAULT1] := by
        simp only [List.mem_cons, List.not_mem_nil, or_false, Reg.HIF_RXn_STAT, Reg.HIF_TXn_STAT, Reg.HIF_TXFAULT0,
          Reg.HIF_TXFAULT1]
        omega
      exact fun ho => (List.mem_append.1 ho).elim hfar (not_mem_dropCounters (rxStat_lt hm))

end

end Sys2Proof.Machine

namespace Sys2Proof.Machine

/-! ### INTAKE_SLOT fetches a descriptor (R83) -/

section
variable {n : Nat} {t : Tai} {s : State}

/-- Whether R84 refuses a descriptor depends on the values in force alone. -/
theorem descRefused_of_live {s z : State} (h : z.live = s.live) (x : Desc) : z.descRefused x = s.descRefused x := by
  have hcan : z.canKind x.dest = s.canKind x.dest := by
    rw [State.canKind, State.canKind, State.cur, State.cur, State.liveReg_of_live h]
  unfold State.descRefused State.kindOf
  rw [hcan]

/-- The state in which a ring's descriptor is fetched: its doorbells, as last read, are taken. -/
structure FetchReady (s z : State) (n : Nat) : Prop where
  ring : z.txRing n = s.txRing n
  live : z.live = s.live
  free : z.freeBlocks = s.freeBlocks
  fetched : z.hif.fetched = s.hif.fetched
  finals : z.hif.finals = s.hif.finals

/-- A ring whose descriptor is due, within what the ring holds and with a quota. -/
structure State.fetchDue (s : State) (n : Nat) : Prop where
  serves : s.serves n
  prod : (s.txRing n).prod < 2 ^ 32
  cack : (s.txRing n).cack < 2 ^ 32
  owed : (s.txRing n).fetch ≠ (s.txRing n).prod
  fits : idxSub (s.txRing n).prod (s.txRing n).fetch ≤ 2 ^ (s.txRing n).log2
  quota : 1 ≤ s.cur (Fld.HIF_TXn_CFG_QUOTA n)

theorem State.fetchDue.admits (h : s.fetchDue n) : (s.txRing n).admits (s.txRing n).prod (s.txRing n).cack where
  ahead := wraps_self h.prod
  fits := h.fits
  acked := wraps_self h.cack
  written := by rw [idxSub_self h.cack]; exact Nat.zero_le _

theorem PageRead.ready {y : State} (hread : PageRead s y) (hdue : s.fetchDue n) :
    ∃ z, FetchReady s z n ∧ y.doorbells [] = z ∧ z.owes n ∧ 1 ≤ z.cur (Fld.HIF_TXn_CFG_QUOTA n) := by
  have hserves := hread.serves hdue.serves
  have hring := hread.ring n
  have hlive : y.live = s.live := hread.keeps .live (by decide)
  have hcur : (y.setTxRing n (s.txRing n)).cur (Fld.HIF_TXn_CFG_QUOTA n) = s.cur (Fld.HIF_TXn_CFG_QUOTA n) := by
    rw [State.cur, State.cur, State.liveReg_of_live (s := y.setTxRing n (s.txRing n)) (t := s) hlive]
  have hself : (y.setTxRing n (s.txRing n)).txRing n = s.txRing n := txRing_setTxRing_self ..
  refine ⟨y.setTxRing n (s.txRing n), ?_, ?_, ⟨hserves.runs, by rw [hself]; exact hdue.owed⟩, by rw [hcur]; exact hdue.quota⟩
  · exact
      { ring := hself, live := hlive, free := hread.regs.get (by decide), fetched := hread.fetched, finals := hread.finals }
  · rw [doorbells_taken (prod := (s.txRing n).prod) (cack := (s.txRing n).cack) hserves
      (by rw [hring]; exact pageWord_nil _ hdue.prod) (by rw [hring]; exact pageWord_nil _ hdue.cack)
      (by rw [hring]; exact hdue.admits), hring]
    rfl

theorem intake_serves (hrun : s.get Fld.HIF_STATUS_RUNNING = 1) (hup : s.hostUp = true) (hdue : s.fetchDue n) (t : Tai) :
    ∃ z, FetchReady s z n ∧ ∀ d : DescRead, d.ring = n → ∀ x, z.fetchOne n d = (.taken, x) →
      (s.intakeBegun t).intake (some []) [d] = x := by
  obtain ⟨z, hz, hrung, howes, hquota⟩ := (pageRead_pageRead s t).ready hdue
  refine ⟨z, hz, fun d hd x hx => ?_⟩
  have heq : (s.intakeBegun t).rung [] = z := hrung
  rw [← heq] at howes hquota hx
  exact intake_fetch (s := s.intakeBegun t) hrun hup hdue.serves.ring howes hquota hd hx

/-- The command that reads one descriptor of a ring, with no new index. -/
def descIntake (n : Nat) (b : Bytes) (t : Tai) : Instr :=
  .intakeSlot (some []) [{ ring := n, bytes := some b, payload := none }] t

theorem answers_descIntake (h : s.intakeDue t) (hupd : s.updState ≠ 5) (hn : n < 64) {b : Bytes} {p : State → Prop}
    (hp : p (((s.intakeBegun t).intake (some []) [{ ring := n, bytes := some b, payload := none }]).withQueue s.pending)) :
    answers (exec (descIntake n b t) s) p := by
  refine answers_intakeSlot h rfl (by simp [hn]) ?_
  rw [if_neg hupd]
  exact hp

/-- A NOP that wants a completion is final with OK. -/
theorem intakeSlot_nop (h : s.intakeDue t) (hrun : s.get Fld.HIF_STATUS_RUNNING = 1) (hup : s.hostUp = true)
    (hupd : s.updState ≠ 5) (hdue : s.fetchDue n) {b : Bytes} (hroom : (s.txRing n).roomFor (parseDesc b none))
    (hop : (parseDesc b none).opcode = 3) (hc : (parseDesc b none).cmpl = true) (hd : (s.txRing n).dead = false) :
    answers (exec (descIntake n b t) s) fun u =>
      (∃ c, u.hif.finals = s.hif.finals ++ [c] ∧ c.ring = n ∧ c.tag = (parseDesc b none).tag ∧ c.status = 0) ∧
        u.hif.fetched = s.hif.fetched ∧ (u.txRing n).fetch = ((s.txRing n).fetch + 1) % 2 ^ 32 := by
  refine answers_descIntake h hupd hdue.serves.ring ?_
  obtain ⟨z, hz, hintake⟩ := intake_serves hrun hup hdue t
  obtain ⟨c, htaken, hc⟩ := fetchOne_nop (s := z) (n := n) hop hc (by rw [hz.ring]; exact hd) (by rw [hz.ring]; exact hroom)
  have hnoted := fetchNoted_fetchNoted z n (parseDesc b none)
  rw [hintake _ rfl _ htaken]
  refine ⟨⟨c, ?_, hc.ring, hc.tag, hc.status⟩, hnoted.fetched.trans hz.fetched, ?_⟩
  · exact congrArg (· ++ [c]) (hnoted.finals.trans hz.finals)
  · exact (congrArg TxRing.fetch hnoted.ring).trans (by rw [hz.ring]; rfl)

/-- An accepted inline frame waits for its submission. -/
theorem intakeSlot_frame (h : s.intakeDue t) (hrun : s.get Fld.HIF_STATUS_RUNNING = 1) (hup : s.hostUp = true)
    (hupd : s.updState ≠ 5) (hdue : s.fetchDue n) {b : Bytes} (hroom : (s.txRing n).roomFor (parseDesc b none))
    (hop : (parseDesc b none).opcode = 1) (hi : (parseDesc b none).inline = true)
    (hok : s.descRefused (parseDesc b none) = false) (hfree : (parseDesc b none).blocks 0 ≤ s.freeBlocks) :
    answers (exec (descIntake n b t) s) fun u =>
      u.hif.fetched = s.hif.fetched ++ [{ ring := n, gen := (s.txRing n).gen, desc := parseDesc b none }] ∧
        u.hif.finals = s.hif.finals ∧ u.freeBlocks = s.freeBlocks - (parseDesc b none).blocks 0 ∧
          (u.txRing n).fetch = ((s.txRing n).fetch + 1) % 2 ^ 32 := by
  refine answers_descIntake h hupd hdue.serves.ring ?_
  obtain ⟨z, hz, hintake⟩ := intake_serves hrun hup hdue t
  have htaken := fetchOne_frame (s := z) hdue.serves.ring hop hi (by rw [descRefused_of_live hz.live]; exact hok)
    (by rw [hz.ring]; exact hroom) (by rw [hz.free]; exact hfree)
  have hnoted := fetchNoted_fetchNoted z n (parseDesc b none)
  rw [hintake _ rfl _ htaken]
  have hfit : z.freeBlocks - (parseDesc b none).blocks 0 < 2 ^ 17 :=
    (Nat.sub_le ..).trans_lt (State.get_lt z Fld.FAB_FREE_BLOCKS)
  have hput := State.get_put_fit (z.fetchNoted n (parseDesc b none)) Fld.FAB_FREE_BLOCKS _ (by decide) (by decide) hfit
  refine ⟨?_, hnoted.finals.trans hz.finals, hput.trans (by rw [hz.free]), ?_⟩
  · exact (congrArg₂ (fun l g => l ++ [{ ring := n, gen := g, desc := parseDesc b none }]) (hnoted.fetched.trans hz.fetched)
      (congrArg TxRing.gen hz.ring) :)
  · exact (congrArg TxRing.fetch hnoted.ring).trans (by rw [hz.ring]; rfl)

end

/-- Settles O41, by the intake of a page in which one ring is served: its doorbells are taken or it faults, and one descriptor of
it is fetched. -/
theorem theIntakeReadsDoorbellsAndDescriptors : Obligations.TheIntakeReadsDoorbellsAndDescriptors := by
  intro n prod cack b t s hs hn hprod hcack
  refine ⟨fun _ _ hpage hreads hclosed => intakeSlot_closed hs hpage hreads hclosed, fun hslot hfresh hrunning => ?_⟩
  have h : s.intakeDue t := ⟨hs, hslot, hfresh, hrunning⟩
  refine ⟨intakeSlot_stopped h, fun hrun hup => ⟨intakeSlot_unread h hrun hup, fun h1 htx hrx => ?_⟩⟩
  have hone : s.serves n := ⟨hn, h1, htx, hrx⟩
  refine ⟨fun hp hf hc hw => intakeSlot_takes h hrun hup hone hprod hcack ⟨hp, hf, hc, hw⟩,
    intakeSlot_faults h hrun hup hone hprod, fun hp hc howed hfits hroom hquota hupd => ?_⟩
  have hdue : s.fetchDue n := ⟨hone, hp, hc, howed, hfits, hquota⟩
  exact ⟨fun hop hcm hd => intakeSlot_nop h hrun hup hupd hdue hroom hop hcm hd,
    fun hop hi hok hfree => intakeSlot_frame h hrun hup hupd hdue hroom hop hi hok hfree⟩

end Sys2Proof.Machine

namespace Sys2Proof.Machine

/-! ### TX_NOP (R83, R89) -/

section
variable {n : Nat} {t : Tai} {s : State}

/-- Does a further descriptor of a ring pass through the intake slot in progress? -/
structure State.nopDue (s : State) (n : Nat) (t : Tai) : Prop where
  slot : (s.at t).slotOpen 0 = true
  phase : s.glb.phase = .running
  update : s.get Fld.NVM_UPD_STATUS_STATE ≠ 5
  running : s.get Fld.HIF_STATUS_RUNNING = 1
  link : s.hostUp = true
  owes : s.owes n

theorem nop_due (h : s.nopDue n t) {d : DescRead} (hd : d.ring = n) :
    (s.at t).nop d = (State.fetchRing n 1 [d] (s.at t)).2 := by
  have hgo : (s.at t).slotOpen 0 = true ∧ (s.at t).glb.phase = .running ∧ (s.at t).get Fld.NVM_UPD_STATUS_STATE ≠ 5 ∧
      (s.at t).get Fld.HIF_STATUS_RUNNING = 1 ∧ (s.at t).hostUp = true := ⟨h.slot, h.phase, h.update, h.running, h.link⟩
  unfold State.nop
  rw [if_pos hgo, hd]

theorem nop_idle (h : ¬s.nopDue n t) {d : DescRead} (hd : d.ring = n) : (s.at t).nop d = s.at t := by
  unfold State.nop
  split
  · next hgo =>
    obtain ⟨hslot, hphase, hupdate, hrun, hlink⟩ := hgo
    have howes : ¬(s.at t).owes n := fun ho => h ⟨hslot, hphase, hupdate, hrun, hlink, ho⟩
    rw [hd, fetchRing_idle howes]
  · rfl

theorem txNop_idle (hs : s.up = true) (hn : n < 64) {b : Option Bytes} (payload : Option Bytes)
    (hb : (b.all fun l => l.headD 0#8 == 3#8) = true) (h : ¬s.nopDue n t) :
    answers (exec (.txNop { ring := n, bytes := b, payload := payload } t) s) fun u => s.keepsRegs u [] ∧ s.keeps u [] := by
  refine answers_effect (m := "TX_NOP") hs (decide_eq_true ⟨hn, hb⟩) ?_
  rw [nop_idle h rfl]
  exact keeps_all_at s t _

/-- A descriptor's operation is its first byte. -/
theorem headD_of_opcode {b : Bytes} {payload : Option Bytes} (h : (parseDesc b payload).opcode = 3) : b.headD 0#8 = 3#8 := by
  cases b with
  | nil => exact absurd (show 0 = 3 from h) (by decide)
  | cons x l =>
    have hx : x.toNat = 3 := by simpa [parseDesc, unLe] using h
    exact BitVec.eq_of_toNat_eq hx

/-- The NOP that a ring owes completes OK. -/
theorem txNop_completes (hs : s.up = true) (hn : n < 64) (h : s.nopDue n t) {b : Bytes} {payload : Option Bytes}
    (hop : (parseDesc b payload).opcode = 3) (hc : (parseDesc b payload).cmpl = true) (hd : (s.txRing n).dead = false)
    (hroom : (s.txRing n).owed + 1 + idxSub (s.txRing n).cprod (s.txRing n).cack ≤ 2 ^ (s.txRing n).log2) :
    answers (exec (.txNop { ring := n, bytes := some b, payload := payload } t) s) fun u =>
      (∃ c, u.hif.finals = s.hif.finals ++ [c] ∧ c.ring = n ∧ c.tag = (parseDesc b payload).tag ∧ c.status = 0) ∧
        (u.txRing n).fetch = ((s.txRing n).fetch + 1) % 2 ^ 32 ∧ u.hif.fetched = s.hif.fetched ∧
        s.keepsRegs u [Reg.HIF_TXn_STAT n] ∧ s.keeps u [.hif, .mgt] := by
  refine answers_effect (m := "TX_NOP") hs (decide_eq_true ⟨hn, ?_⟩) ?_
  · exact beq_iff_eq.2 (headD_of_opcode hop)
  · obtain ⟨c, htaken, hc⟩ := fetchOne_nop (s := s.at t) (n := n) hop hc hd fun _ => hroom
    have howes : (s.at t).owes n := h.owes
    rw [nop_due h rfl, fetchRing_taken howes htaken 0]
    have hnoted := fetchNoted_fetchNoted (s.at t) n (parseDesc b payload)
    exact ⟨⟨c, congrArg (· ++ [c]) hnoted.finals, hc.ring, hc.tag, hc.status⟩, congrArg TxRing.fetch hnoted.ring, hnoted.fetched,
      (State.keepsRegs_withQueue ..).2 (hnoted.regs.same rfl),
      (State.keeps_withQueue ..).2 (State.keeps_hif _ ((State.keeps_from_at ..).1 hnoted.keeps) (by decide))⟩

/-! ### TX_FRAME without a frame -/

theorem submit_none {y : State} (h : takeFetched n 1 y.hif.fetched = none) (bad : List (Nat × Nat)) : y.submit n bad = y := by
  unfold State.submit
  rw [h]

theorem answers_txFrame (hs : s.up = true) (hn : n < 64) {p : State → Prop}
    (hp : p (((s.at t).submit n []).withQueue s.pending)) : answers (exec (.txFrame n [] t) s) p :=
  answers_effect (m := "TX_FRAME") hs (decide_eq_true ⟨hn, rfl⟩) hp

theorem txFrame_none (hs : s.up = true) (hn : n < 64) (h : takeFetched n 1 s.hif.fetched = none) :
    answers (exec (.txFrame n [] t) s) fun u => s.keepsRegs u [] ∧ s.keeps u [] := by
  refine answers_txFrame hs hn ?_
  rw [submit_none (y := s.at t) h]
  exact keeps_all_at s t _

end

/-! ### A reset of the host interface clears its registers (R104, R451) -/

/-- What a reset of the host interface leaves: reset values, in force as stored, and nothing that waits. -/
structure HifCleared (u : State) : Prop where
  reg : ∀ o, 0x30000 ≤ o → o < 0x40000 → u.reg o = RegMap.resetOf o ∧ u.liveReg o = RegMap.resetOf o ∧ o ∉ u.paced
  finals : u.hif.finals = []
  linkReady : u.hif.linkReady = false
  wbSeq : u.hif.wbSeq = 0

theorem get_filter_none {α : Type} (d : α) {p : Nat × α → Bool} {x : Nat} (h : ∀ v, p (x, v) = false) (m : List (Nat × α)) :
    SMap.get d (m.filter p) x = d := by
  induction m with
  | nil => rfl
  | cons e m ih =>
    obtain ⟨k, w⟩ := e
    by_cases hk : x = k
    · subst hk
      rw [List.filter_cons_of_neg (by simp [h w]), ih]
    · by_cases hp : p (k, w) = true
      · rw [List.filter_cons_of_pos hp, SMap.get, if_neg hk, ih]
      · rw [List.filter_cons_of_neg hp, ih]

/-- A ring pair is emptied and OFF. -/
def State.ringReset (s : State) (n : Nat) : State :=
  let x := (s.rxFlush n).setRxRing n RxRing.fresh
  let y := if x.rxState n = 0 then x else x.setRxState n 0
  let z := y.setTxRing n { TxRing.fresh with gen := (y.txRing n).gen + 1 }
  if z.txState n = 0 then z else z.setTxState n 0

/-- Every ring is OFF, the host interface stopped, and what its completions would have shown goes back to their flows. -/
def State.hifStopped (s : State) : State :=
  let x := ((List.range 64).foldl State.ringReset s).setRunning false
  x.hif.finals.foldl (fun (y : State) (c : Completion) => y.gapBack c) x

/-- Is a register none of the host interface's? -/
def outsideHif (e : Nat × Word) : Bool := !decide (0x30000 ≤ e.1 ∧ e.1 < 0x40000)

theorem hifReset_eq (s : State) : s.hifReset =
    { s.hifStopped with
      regs := s.hifStopped.regs.filter outsideHif, live := s.hifStopped.live.filter outsideHif,
      paced := s.hifStopped.paced.filter fun o => !decide (0x30000 ≤ o ∧ o < 0x40000),
      hif := { s.hifStopped.hif with
        finals := [], passGap := [], passReplay := [], errVec := false, pbaVecs := [], wbSeq := 0, outputs := [],
        linkReady := false } } := rfl

theorem hifReset_clears (s : State) : HifCleared s.hifReset := by
  rw [hifReset_eq]
  generalize s.hifStopped = x
  have hout : ∀ o, 0x30000 ≤ o → o < 0x40000 → ∀ v, outsideHif (o, v) = false := fun o hlo hhi v =>
    congrArg (!·) (decide_eq_true (And.intro hlo hhi))
  refine { reg := fun o hlo hhi => ⟨?_, ?_, ?_⟩, finals := rfl, linkReady := rfl, wbSeq := rfl }
  · rw [State.reg_get]
    exact get_filter_none _ (hout o hlo hhi) _
  · rw [State.liveReg_get]
    exact get_filter_none _ (hout o hlo hhi) _
  · simp [hlo, hhi]

/-- The registers of other units read as they did when the rings stopped. -/
theorem reg_hifReset (s : State) {o : Nat} (ho : o < 0x30000 ∨ 0x40000 ≤ o) : s.hifReset.reg o = s.hifStopped.reg o := by
  rw [hifReset_eq, State.reg_get, State.reg_get]
  refine SMap.get_filter _ _ _ _ fun v => congrArg (!·) (decide_eq_false fun h : 0x30000 ≤ o ∧ o < 0x40000 => ?_)
  omega

/-! ### A reset of the host interface leaves NVM_UPD_STATUS -/

/-- NVM_UPD_STATUS reads the same. -/
def State.sameUpdate (s u : State) : Prop := u.reg Reg.NVM_UPD_STATUS = s.reg Reg.NVM_UPD_STATUS

section
variable {s x : State}

theorem State.sameUpdate.regs (h : s.sameUpdate x) {y : State} (hr : y.regs = x.regs) : s.sameUpdate y :=
  (State.reg_of_regs hr _).trans h

theorem State.sameUpdate.hif (h : s.sameUpdate x) (u : HostIf) : s.sameUpdate { x with hif := u } := h.regs rfl
theorem State.sameUpdate.fab (h : s.sameUpdate x) (u : Fabric) : s.sameUpdate { x with fab := u } := h.regs rfl

theorem State.sameUpdate.keepsRegs (h : s.sameUpdate x) {y : State} {l : List Nat} (hr : x.keepsRegs y l)
    (hl : Reg.NVM_UPD_STATUS ∉ l) : s.sameUpdate y := (hr _ hl).trans h

theorem State.sameUpdate.put (h : s.sameUpdate x) (f : Fld) (v : Nat) (hf : f.off ≠ Reg.NVM_UPD_STATUS) :
    s.sameUpdate (x.put f v) := (State.reg_put _ _ _ _ hf.symm).trans h

theorem txStat_ne_updStatus (n : Nat) : Reg.HIF_TXn_STAT n ≠ Reg.NVM_UPD_STATUS := by
  unfold Reg.HIF_TXn_STAT Reg.NVM_UPD_STATUS
  omega

theorem rxStat_ne_updStatus {n : Nat} (hn : n < 64) : Reg.HIF_RXn_STAT n ≠ Reg.NVM_UPD_STATUS := by
  unfold Reg.HIF_RXn_STAT Reg.NVM_UPD_STATUS
  omega

theorem State.sameUpdate.foldl (h : s.sameUpdate x) {α : Type} {g : State → α → State} {l : List α}
    (hg : ∀ a ∈ l, ∀ y, s.sameUpdate y → s.sameUpdate (g y a)) : s.sameUpdate (l.foldl g x) := by
  induction l generalizing x with
  | nil => exact h
  | cons a l ih => exact ih (hg a (.head _) x h) fun c hc => hg c (.tail _ hc)

theorem State.sameUpdate.release (h : s.sameUpdate x) (fid : Nat) : s.sameUpdate (x.release fid) := by
  unfold State.release
  split
  · exact h
  · next f _ =>
    have hput := h.put Fld.FAB_FREE_BLOCKS (x.freeBlocks + f.blocks) (by decide)
    unfold State.fifosEmpty
    split
    · exact hput.regs rfl
    · exact hput.regs rfl

theorem State.sameUpdate.hostFinal (h : s.sameUpdate x) (t : HostTag) (st u et ef : Nat) (time : Tai) (flow : Option Nat)
    (r : Bool) : s.sameUpdate (x.hostFinal t st u et ef time flow r) := by
  unfold State.hostFinal
  extract_lets r live gap c z _ w
  split
  · have hz : s.sameUpdate z := by
      unfold z
      split
      · exact h.fab _
      · exact h
    exact hz.hif _
  · have hw : s.sameUpdate w := by
      unfold w
      split
      · exact (h.hif _).put _ _ (txStat_ne_updStatus _)
      · exact h
    split
    · exact hw
    · exact (hw.fab _).hif _

theorem State.sameUpdate.frameFinal (h : s.sameUpdate x) (fid : Nat) (f : Frame) : s.sameUpdate (x.frameFinal fid f) := by
  unfold State.frameFinal
  extract_lets own y fails _ z w
  have hy : s.sameUpdate y := by
    unfold y
    split
    · exact h.regs rfl
    · exact h
  have hz : s.sameUpdate z := by
    unfold z
    clear_value fails
    split
    · exact hy
    · dsimp only
      split
      · have hdrawn : s.sameUpdate y.draw.2 := hy.regs rfl
        exact hdrawn.hostFinal _ _ _ _ _ _ _ _
      · exact hy.hostFinal _ _ _ _ _ _ _ _
  have hw : s.sameUpdate w := by
    unfold w
    split
    · exact hz.regs rfl
    · exact hz
  exact hw.release _

theorem regs_lose (s : State) (fid : Nat) : (s.lose fid).regs = s.regs := by
  unfold State.lose
  split <;> rfl

theorem regs_marker (s : State) (f : Frame) (p st : Nat) : (s.marker f p st).regs = s.regs := by
  unfold State.marker
  split <;> rfl

theorem State.sameUpdate.copyFinal (h : s.sameUpdate x) (fid p st : Nat) (t : Tai) (l : Bool) :
    s.sameUpdate (x.copyFinal fid p st t l) := by
  unfold State.copyFinal
  extract_lets y
  have hy : s.sameUpdate y := by
    unfold y
    split
    · exact h.regs (regs_lose ..)
    · exact h
  split
  · exact hy
  · next f _ =>
    extract_lets m _ r g
    have hm : s.sameUpdate m := hy.regs (regs_marker ..)
    have hr : s.sameUpdate r := by
      unfold r
      split
      · exact hm.regs rfl
      · exact hm
    split
    · exact hr.frameFinal _ _
    · exact hr.regs rfl

theorem State.sameUpdate.setCap (h : s.sameUpdate x) (n : Nat) (c : CapSource) : s.sameUpdate (x.setCap n c) := by
  by_cases hn : n < 16
  · refine h.keepsRegs (keepsRegs_setCap (fun _ _ => rfl) hn c fun _ ho => ho) ?_
    simp only [capRegs, List.mem_cons, List.not_mem_nil, or_false, Reg.TIME_CAPu_STAT, Reg.TIME_CAPu_LOST, Reg.NVM_UPD_STATUS]
    omega
  · unfold State.setCap
    rw [if_neg hn]
    exact h.regs rfl

theorem State.sameUpdate.entryLost (h : s.sameUpdate x) (e : RxEntry) : s.sameUpdate (x.entryLost e) := by
  unfold State.entryLost
  split
  · refine State.sameUpdate.copyFinal ?_ _ _ _ _ _
    split
    · split
      · exact h.regs rfl
      · exact h
    · exact h
  · exact h.setCap _ _
  · exact h

theorem State.sameUpdate.rxDrop (h : s.sameUpdate x) (n : Nat) : s.sameUpdate (x.rxDrop n) := by
  refine (State.reg_rxDrop _ _ _ ?_ ?_).trans h
  · unfold Reg.NVM_UPD_STATUS Reg.HIF_RXn_DROP
    omega
  · unfold Reg.NVM_UPD_STATUS Reg.HIF_RXn_DROP
    omega

theorem State.sameUpdate.rxFlush (h : s.sameUpdate x) {n : Nat} (hn : n < 64) : s.sameUpdate (x.rxFlush n) := by
  have hring : s.sameUpdate (x.setRxRing n { x.rxRing n with queue := [], held := 0 }) := h.regs rfl
  exact (hring.put (Fld.HIF_RXn_STAT_HELD n) 0 (rxStat_ne_updStatus hn)).foldl fun e _ y hy => (hy.rxDrop n).entryLost e

theorem State.sameUpdate.message (h : s.sameUpdate x) (unit code : Nat) : s.sameUpdate (x.message unit code) :=
  h.keepsRegs (keepsRegs_message x unit code) (by decide)

theorem State.sameUpdate.ringReset (h : s.sameUpdate x) {n : Nat} (hn : n < 64) : s.sameUpdate (x.ringReset n) := by
  unfold State.ringReset
  extract_lets a b r c
  have ha : s.sameUpdate a := (h.rxFlush hn).regs rfl
  have hb : s.sameUpdate b := by
    unfold b
    split
    · exact ha
    · exact (ha.put _ _ (rxStat_ne_updStatus hn)).message _ _
  have hc : s.sameUpdate c := hb.regs rfl
  split
  · exact hc
  · exact (hc.put _ _ (txStat_ne_updStatus n)).message _ _

theorem State.sameUpdate.setRunning (h : s.sameUpdate x) (run : Bool) : s.sameUpdate (x.setRunning run) :=
  h.keepsRegs (setRunning_moves x run).2.regs (by decide)

theorem sameUpdate_hifReset (s : State) : s.sameUpdate s.hifReset := by
  refine (reg_hifReset s (.inr (by decide))).trans ?_
  have hrings : s.sameUpdate ((List.range 64).foldl State.ringReset s) :=
    State.sameUpdate.foldl rfl fun n hn y hy => hy.ringReset (List.mem_range.1 hn)
  exact (hrings.setRunning false).foldl fun c _ y hy => hy.regs (gapBack_same y c).2

end

/-! ### FUNCTION_LEVEL_RESET and PERST_RESET -/

section
variable {s x : State} {t : Tai}

theorem HifCleared.withQueue (h : HifCleared x) (q : List Instr) : HifCleared (x.withQueue q) :=
  ⟨h.reg, h.finals, h.linkReady, h.wbSeq⟩

/-- NVM_UPD_STATUS after a transition of the update sequence. -/
def State.updShown (s : State) (new result : Nat) : State :=
  (s.put Fld.NVM_UPD_STATUS_STATE new).put Fld.NVM_UPD_STATUS_RESULT result

theorem updShown_frame (s : State) (new result : Nat) :
    s.keepsRegs (s.updShown new result) [Reg.NVM_UPD_STATUS] ∧ s.keeps (s.updShown new result) [] :=
  ⟨State.keepsRegs.put (State.keepsRegs_put s Fld.NVM_UPD_STATUS_STATE new) _ _ (.head _), (State.keeps_put s _ _).put _ _⟩

theorem get_updShown (s : State) {new result : Nat} (hn : new < 16) (hr : result < 16) :
    (s.updShown new result).get Fld.NVM_UPD_STATUS_STATE = new ∧ (s.updShown new result).get Fld.NVM_UPD_STATUS_RESULT = result :=
  ⟨(State.get_put_field _ Fld.NVM_UPD_STATUS_RESULT Fld.NVM_UPD_STATUS_STATE _ rfl (by decide) (by decide)
      (.inr (by decide))).trans (State.get_put_fit _ _ _ (by decide) (by decide) hn),
    State.get_put_fit _ _ _ (by decide) (by decide) hr⟩

/-- A transition of the update sequence is shown, journaled and told. -/
theorem updMove_eq (s : State) (new result : Nat) : ∃ b d,
    s.updMove new result = ((s.updShown new result).log 8 b).raise 0x1208 0 d := ⟨_, _, rfl⟩

theorem get_updMove (s : State) {new result : Nat} (hn : new < 16) (hr : result < 16) :
    (s.updMove new result).get Fld.NVM_UPD_STATUS_STATE = new ∧ (s.updMove new result).get Fld.NVM_UPD_STATUS_RESULT = result ∧
      ∃ d, (s.updMove new result).told 0x1208 0 d := by
  obtain ⟨b, d, heq⟩ := updMove_eq s new result
  obtain ⟨hstate, hresult⟩ := get_updShown s hn hr
  rw [heq]
  generalize s.updShown new result = y at *
  have hkept := State.keepsRegs_back (State.keepsRegs_log y 8 b) (State.keepsRegs_raise (y.log 8 b) 0x1208 0 d) fun _ ho => ho
  exact ⟨(hkept.get (by decide)).trans hstate, (hkept.get (by decide)).trans hresult, _, State.told_raise ..⟩

/-- While RX ring 63 is OFF a transition of the update sequence leaves the host interface. -/
theorem HifCleared.updMove (h : HifCleared x) (new result : Nat) : HifCleared (x.updMove new result) := by
  obtain ⟨b, d, heq⟩ := updMove_eq x new result
  obtain ⟨hregs, hkeeps⟩ := updShown_frame x new result
  rw [heq]
  generalize x.updShown new result = y at *
  have hlow : ∀ o, 0x30000 ≤ o → o < 0x40000 → o ∉ [Reg.NVM_UPD_STATUS] ∧ o ∉ pair64 (Reg.NVM_CNTk 1) := fun o _ _ => by
    simp only [pair64, List.mem_cons, List.not_mem_nil, or_false, Reg.NVM_UPD_STATUS, Reg.NVM_CNTk]
    omega
  have hoff : y.get (Fld.HIF_RXn_STAT_STATE 63) ≠ 1 := by
    rw [hregs.get (by decide), State.get, (h.reg _ (by decide) (by decide)).1]
    decide
  have htold := (hifTold_log y 8 b).trans (hifTold_raise (y.log 8 b) 0x1208 0 d)
  have hhif : y.hif = x.hif := hkeeps .hif (by simp)
  have hlive : ((y.log 8 b).raise 0x1208 0 d).live = x.live :=
    (State.raise_live ..).trans ((State.log_live ..).trans (hkeeps .live (by simp)))
  have hpaced : ((y.log 8 b).raise 0x1208 0 d).paced = x.paced :=
    (State.raise_paced ..).trans ((State.log_paced ..).trans (hkeeps .paced (by simp)))
  refine { reg := fun o hlo hhi => ?_, finals := ?_, linkReady := ?_, wbSeq := ?_ }
  · obtain ⟨hreg, hforce, hstored⟩ := h.reg o hlo hhi
    obtain ⟨hupd, hcnt⟩ := hlow o hlo hhi
    exact ⟨((htold.idle hoff o hcnt).trans (hregs o hupd)).trans hreg, (State.liveReg_of_live hlive o).trans hforce, by rwa [hpaced]⟩
  · exact htold.finals.trans ((congrArg HostIf.finals hhif).trans h.finals)
  · exact (congrArg HostIf.linkReady htold.core :).trans ((congrArg HostIf.linkReady hhif).trans h.linkReady)
  · exact (congrArg HostIf.wbSeq htold.core :).trans ((congrArg HostIf.wbSeq hhif).trans h.wbSeq)

theorem perst_clears (s : State) : HifCleared s.perst := by
  unfold State.perst State.transferFails
  split
  · exact (hifReset_clears s).updMove 0 2
  · exact hifReset_clears s

/-- The image transfer in progress ends with RESULT 2. -/
theorem perst_endsTransfer (h : s.get Fld.NVM_UPD_STATUS_STATE = 1) :
    s.perst.get Fld.NVM_UPD_STATUS_STATE = 0 ∧ s.perst.get Fld.NVM_UPD_STATUS_RESULT = 2 ∧ ∃ d, s.perst.told 0x1208 0 d := by
  have hreg : s.hifReset.reg Fld.NVM_UPD_STATUS_STATE.off = s.reg Fld.NVM_UPD_STATUS_STATE.off := sameUpdate_hifReset s
  have hkept : s.hifReset.get Fld.NVM_UPD_STATUS_STATE = 1 := (State.get_of_reg hreg).trans h
  unfold State.perst State.transferFails
  rw [if_pos hkept]
  exact get_updMove s.hifReset (by decide) (by decide)

theorem functionLevelReset_clears (hs : s.up = true) : answers (exec (.functionLevelReset t) s) HifCleared :=
  answers_effect (m := "FUNCTION_LEVEL_RESET") hs rfl ((hifReset_clears (s.at t)).withQueue _)

theorem perstReset_clears (hs : s.up = true) : answers (exec (.perstReset t) s) fun u =>
    HifCleared u ∧ (s.get Fld.NVM_UPD_STATUS_STATE = 1 → u.get Fld.NVM_UPD_STATUS_STATE = 0 ∧
      u.get Fld.NVM_UPD_STATUS_RESULT = 2 ∧ ∃ d, u.told 0x1208 0 d) := by
  refine answers_effect (m := "PERST_RESET") hs rfl ?_
  have hup : (s.at t).glb.phase ≠ .powerOnReset := bne_iff_ne.1 hs
  rw [if_neg hup]
  exact ⟨(perst_clears (s.at t)).withQueue _, fun h => perst_endsTransfer (s := s.at t) h⟩

end

end Sys2Proof.Machine

namespace Sys2Proof.Machine

/-! ### A host frame is looked up (R88, R113) -/

section
variable {n : Nat} {t : Tai} {s y : State} {x : Fetched} {rest : List Fetched}

/-- A fetched frame has left the list, and its blocks are free again. -/
def State.fetchTaken (s : State) (x : Fetched) (rest : List Fetched) : State :=
  { s with hif := { s.hif with fetched := rest } }.put Fld.FAB_FREE_BLOCKS (s.freeBlocks + blocksFor x.desc.len)

/-- The frame that a descriptor describes. -/
def Fetched.wire (x : Fetched) : Wire := x.desc.wire (x.desc.payload.getD [])

/-- The tag that ties a frame to its descriptor. -/
def Fetched.hostTag (x : Fetched) (n : Nat) : HostTag :=
  { ring := n, tag := x.desc.tag, cmpl := x.desc.cmpl, oneShot := bit x.desc.flags 1, dest := x.desc.dest, gen := x.gen }

/-- The frame as it comes from the host. -/
def Fetched.inbound (x : Fetched) (n : Nat) : Inbound :=
  { ingress := 78, wire := x.wire, stamp := 0, dur := none, replay := false, woken := false, outWin := false,
    host := some (x.hostTag n), mkey := x.desc.tag + 65536 * n }

/-- The lookup of a host frame. -/
def State.hostLookup (s : State) (n : Nat) (t : Tai) (x : Fetched) (rest : List Fetched) : Looked × State :=
  ((s.fetchTaken x rest).at t).looked 78 (some (n, x.desc.dest)) x.wire

theorem submit_some (h : takeFetched n 1 s.hif.fetched = some (x, rest)) :
    (s.at t).submit n [] = (s.hostLookup n t x rest).2.enter (x.inbound n) (s.hostLookup n t x rest).1 := by
  have hat : takeFetched n 1 (s.at t).hif.fetched = some (x, rest) := h
  unfold State.submit
  rw [hat]
  rfl

/-- What the lookup of a host frame leaves. -/
structure LookedUp (s y : State) (rest : List Fetched) : Prop where
  reg : ∀ o, o ≠ Reg.FAB_FREE → o < 0x50000 ∨ 0x58000 ≤ o → y.reg o = s.reg o
  hif : y.hif = { s.hif with fetched := rest }
  live : y.live = s.live
  fab : y.fab = s.fab

theorem LookedUp.at (h : LookedUp s y rest) (t : Tai) : LookedUp s (y.at t) rest := ⟨h.reg, h.hif, h.live, h.fab⟩

theorem lookedUp_fetchTaken (s : State) (x : Fetched) (rest : List Fetched) : LookedUp s (s.fetchTaken x rest) rest := by
  have hregs := State.keepsRegs_put { s with hif := { s.hif with fetched := rest } } Fld.FAB_FREE_BLOCKS
    (s.freeBlocks + blocksFor x.desc.len)
  refine { reg := fun o ho _ => hregs o (fun h => ho (List.mem_singleton.1 h)), hif := ?_, live := ?_, fab := ?_ }
  · rw [State.fetchTaken, State.put_hif]
  · rw [State.fetchTaken, State.put_live]
  · rw [State.fetchTaken, State.put_fab]

theorem index_lt_of_mem_liveRoutes {s : State} {r : Route} (h : r ∈ s.liveRoutes) : r.index < 4096 := by
  unfold State.liveRoutes State.validRoutes at h
  obtain ⟨j, hj, rfl⟩ := List.mem_map.1 h
  obtain ⟨e, -, he⟩ := List.mem_filterMap.1 hj
  split at he
  · next hin =>
    obtain ⟨hlo, hhi, -, -⟩ := hin
    obtain rfl := Option.some.inj he
    show (e.1 - 0xC0000) / 32 < 4096
    omega
  · cases he

theorem looked_miss {st : State} {i : Nat} {host : Option (Nat × Nat)} {w : Wire} (h : (st.looked i host w).1 = .miss) :
    (st.looked i host w).2 = st := by
  unfold State.looked at h ⊢
  generalize st.lookup i host w = l at *
  cases l with
  | miss => rfl
  | route r => cases h

theorem looked_route {st : State} {i : Nat} {host : Option (Nat × Nat)} {w : Wire} {r : Route}
    (h : (st.looked i host w).1 = .route r) : (st.looked i host w).2 = st.count (Reg.FAB_HITj r.index) ∧ r.index < 4096 := by
  unfold State.looked at h ⊢
  cases hl : st.lookup i host w with
  | miss => rw [hl] at h; cases h
  | route r' =>
    rw [hl] at h
    obtain rfl : r' = r := by injection h
    refine ⟨rfl, index_lt_of_mem_liveRoutes (s := st) ?_⟩
    unfold State.lookup at hl
    split at hl
    · next hf =>
      injection hl with hr
      exact hr ▸ List.mem_of_find?_eq_some hf
    · cases hl

theorem lookedUp_miss (h : (s.hostLookup n t x rest).1 = .miss) : LookedUp s (s.hostLookup n t x rest).2 rest := by
  have heq : (s.hostLookup n t x rest).2 = (s.fetchTaken x rest).at t := looked_miss h
  rw [heq]
  exact (lookedUp_fetchTaken s x rest).at t

theorem lookedUp_route {r : Route} (h : (s.hostLookup n t x rest).1 = .route r) : LookedUp s (s.hostLookup n t x rest).2 rest := by
  obtain ⟨heq, hindex⟩ := looked_route h
  have heq : (s.hostLookup n t x rest).2 = ((s.fetchTaken x rest).at t).count (Reg.FAB_HITj r.index) := heq
  have hq := (lookedUp_fetchTaken s x rest).at t
  rw [heq]
  generalize (s.fetchTaken x rest).at t = z at *
  exact
    { reg := fun o ho hout => (State.reg_count _ _ _ _ (by unfold Reg.FAB_HITj; omega) (by unfold Reg.FAB_HITj; omega)).trans
        (hq.reg o ho hout)
      hif := (State.count_hif ..).trans hq.hif
      live := (State.count_live ..).trans hq.live
      fab := (State.count_fab ..).trans hq.fab }

theorem LookedUp.txRing (h : LookedUp s y rest) (m : Nat) : y.txRing m = s.txRing m := txRing_of_hif (by rw [h.hif]) m

theorem LookedUp.reg64_port (h : LookedUp s y rest) {k : Nat} (hk : k < 16) :
    y.reg64 (Reg.FAB_PCNTp_k 78 k) = s.reg64 (Reg.FAB_PCNTp_k 78 k) := by
  unfold State.reg64
  have hoff : Reg.FAB_PCNTp_k 78 k = 0x45700 + 8 * k := rfl
  rw [hoff, h.reg _ (by unfold Reg.FAB_FREE; omega) (by omega), h.reg _ (by unfold Reg.FAB_FREE; omega) (by omega)]

/-! ### A host frame completes without a copy (R89, R92, Table 4.8) -/

/-- The descriptor was fetched since its ring's last enable, wants a completion, and its ring has not been in FAULT. -/
structure Fetched.lives (x : Fetched) (r : TxRing) : Prop where
  cmpl : x.desc.cmpl = true
  gen : x.gen = r.gen
  dead : r.dead = false

/-- What stands after a host frame that completes with a status and counts at port 78. -/
structure HostEnds (s u : State) (n : Nat) (x : Fetched) (rest : List Fetched) (status k : Nat) : Prop where
  completes : ∃ c, u.hif.finals = s.hif.finals ++ [c] ∧ c.ring = n ∧ c.tag = x.desc.tag ∧ c.status = status
  fetched : u.hif.fetched = rest
  counts : u.reg64 (Reg.FAB_PCNTp_k 78 k) = (s.reg64 (Reg.FAB_PCNTp_k 78 k) + 1) % 2 ^ 64

/-- A descriptor's outcome after the count of its frame. -/
theorem hostEnds_hostFinal {z : State} (h : LookedUp s y rest) {k : Nat} (hk : k < 16) (htold : HifTold (y.countPort 78 k) z)
    (hcount : z.reg64 (Reg.FAB_PCNTp_k 78 k) = (y.countPort 78 k).reg64 (Reg.FAB_PCNTp_k 78 k)) (hlive : x.lives (s.txRing n))
    (status unit total fails : Nat) (time : Tai) (flow : Option Nat) (replay : Bool) :
    HostEnds s (z.hostFinal (x.hostTag n) status unit total fails time flow replay) n x rest status k := by
  have hhif : (y.countPort 78 k).hif = { s.hif with fetched := rest } := (State.count_hif ..).trans h.hif
  have hfinals : (y.countPort 78 k).hif.finals = s.hif.finals := by rw [hhif]
  have hfetched : (y.countPort 78 k).hif.fetched = rest := by rw [hhif]
  have hring : z.txRing n = s.txRing n := (htold.txRing n).trans (txRing_of_hif (by rw [hhif]) n)
  obtain ⟨c, heq, htells⟩ := hostFinal_completes (s := z) (h := x.hostTag n) hlive.cmpl
    (hlive.gen.trans (congrArg TxRing.gen hring.symm)) ((congrArg TxRing.dead hring).trans hlive.dead)
    status unit total fails time flow replay
  have hz : (flow.elim z z.clearGap).hif = z.hif ∧ (flow.elim z z.clearGap).regs = z.regs := by cases flow <;> exact ⟨rfl, rfl⟩
  rw [heq]
  obtain ⟨hzhif, hzregs⟩ := hz
  generalize flow.elim z z.clearGap = w at *
  refine { completes := ⟨c, ?_, htells.ring, htells.tag, htells.status⟩, fetched := ?_, counts := ?_ }
  · exact congrArg (· ++ [c]) (((congrArg HostIf.finals hzhif).trans htold.finals).trans hfinals)
  · exact ((congrArg HostIf.fetched hzhif).trans htold.fetched).trans hfetched
  · have hw : (w.completed c).reg64 (Reg.FAB_PCNTp_k 78 k) = z.reg64 (Reg.FAB_PCNTp_k 78 k) := by
      unfold State.reg64
      rw [State.reg_of_regs (s := w.completed c) (t := z) hzregs, State.reg_of_regs (s := w.completed c) (t := z) hzregs]
    rw [hw, hcount, State.countPort, State.reg64_count, h.reg64_port hk]

theorem hostEnds_miss (h : LookedUp s y rest) (hlive : x.lives (s.txRing n)) :
    HostEnds s (y.enter (x.inbound n) .miss) n x rest 1 2 :=
  hostEnds_hostFinal h (k := 2) (by decide) (hifTold_raiseOnce ..) (State.reg64_raiseOnce _ _ _ _ _ _ (by decide) (by decide)) hlive
    1 (unitOf 3 n) 0 0 0 none false

theorem hostEnds_filtered (h : LookedUp s y rest) (hlive : x.lives (s.txRing n)) {r : Route} (hr : r.egress = []) :
    HostEnds s (y.enter (x.inbound n) (.route r)) n x rest 0 3 := by
  have heq : y.enter (x.inbound n) (.route r) =
      (y.countPort 78 3).hostFinal (x.hostTag n) 0 (unitOf 3 n) 0 0 0 (some (r.index * 64 + n)) false :=
    congrArg Prod.snd (if_pos hr)
  rw [heq]
  exact hostEnds_hostFinal h (by decide) (.refl _) rfl hlive _ _ _ _ _ _ _

theorem HostEnds.withQueue {u : State} {status k : Nat} (h : HostEnds s u n x rest status k) (q : List Instr) :
    HostEnds s (u.withQueue q) n x rest status k := ⟨h.completes, h.fetched, h.counts⟩

theorem txFrame_misses (hs : s.up = true) (hn : n < 64) (h : takeFetched n 1 s.hif.fetched = some (x, rest))
    (hlive : x.lives (s.txRing n)) (hfound : (s.hostLookup n t x rest).1 = .miss) :
    answers (exec (.txFrame n [] t) s) fun u => HostEnds s u n x rest 1 2 := by
  refine answers_txFrame hs hn ?_
  rw [submit_some h, hfound]
  exact (hostEnds_miss (lookedUp_miss hfound) hlive).withQueue _

theorem txFrame_filtered (hs : s.up = true) (hn : n < 64) (h : takeFetched n 1 s.hif.fetched = some (x, rest))
    (hlive : x.lives (s.txRing n)) {r : Route} (hfound : (s.hostLookup n t x rest).1 = .route r) (hr : r.egress = []) :
    answers (exec (.txFrame n [] t) s) fun u => HostEnds s u n x rest 0 3 := by
  refine answers_txFrame hs hn ?_
  rw [submit_some h, hfound]
  exact (hostEnds_filtered (lookedUp_route hfound) hlive hr).withQueue _

end

end Sys2Proof.Machine

namespace Sys2Proof.Machine

/-! ### A copy is queued at a CAN port (R131) -/

section
variable {s z : State}

theorem keepsRegs_showQueues (s : State) (p : Nat) : s.keepsRegs (s.showQueues p) [Reg.FAB_QSTATp p] := by
  unfold State.showQueues
  dsimp only
  exact ((State.keepsRegs_put s (Fld.FAB_QSTATp_NONEMPTY p) _).put (Fld.FAB_QSTATp_HELD p) _ (.head _)).put
    (Fld.FAB_QSTATp_FRAMES p) _ (.head _)

theorem keepsRegs_enqueue (s : State) (c : Copy) (cls : Nat) : s.keepsRegs (s.enqueue c cls) [Reg.FAB_QSTATp c.port] := by
  have hfab : ∀ u : Fabric, s.keepsRegs { s with fab := u } [Reg.FAB_QSTATp c.port] := fun _ _ _ => rfl
  exact State.keepsRegs_back (hfab _) (keepsRegs_showQueues _ c.port) fun _ ho => ho

/-- The queue of a port's class, and the frames, after a copy was queued. -/
theorem fab_enqueue (s : State) (c : Copy) (cls : Nat) : (s.enqueue c cls).fab =
    { s.fab with queues := SMap.set [] s.fab.queues (8 * c.port + cls) (s.queue c.port cls ++ [c]) } := by
  unfold State.enqueue State.setQueue State.showQueues
  dsimp only
  rw [State.put_fab, State.put_fab, State.put_fab]

theorem hif_enqueue (s : State) (c : Copy) (cls : Nat) : (s.enqueue c cls).hif = s.hif := by
  unfold State.enqueue State.setQueue State.showQueues
  dsimp only
  rw [State.put_hif, State.put_hif, State.put_hif]

theorem queue_enqueue (s : State) (c : Copy) (cls : Nat) : (s.enqueue c cls).queue c.port cls = s.queue c.port cls ++ [c] := by
  unfold State.queue
  rw [fab_enqueue]
  exact (SMap.get_set ..).trans (if_pos rfl)

/-- A CAN port that takes copies: the fabric and the port's domain are ON, its outputs claimed, the port running, neither
listening nor asleep. -/
structure State.takesCopies (s : State) (p : Nat) : Prop where
  can : p < 48
  fabric : s.domain 4 = 2
  claimed : s.claimed = true
  powered : s.domain (domainOf p) = 2
  state : s.canState p = 2
  talks : s.on (Fld.CANP_MODE_LISTEN p) = false
  awake : s.get (Fld.REEF_PORTn_STAT_STATE p) ≠ 2

/-- A frame of the host waits last in its class. -/
theorem offer_host {c : Copy} {f : Frame} (h : s.takesCopies c.port) (hf : f.ingress = 78) :
    s.offer c f = s.enqueue c f.cls := by
  have hstate : s.get (Fld.CANP_STATUS_STATE c.port) = 2 := h.state
  have hopen : ¬(c.port < 48 ∧ (s.get (Fld.CANP_STATUS_STATE c.port) = 0 ∨ s.on (Fld.CANP_MODE_LISTEN c.port) = true)) := by
    rintro ⟨-, ho⟩
    rw [hstate, h.talks] at ho
    exact ho.elim (by decide) (by decide)
  have hbus : ¬(c.port < 48 ∧ s.get (Fld.CANP_STATUS_STATE c.port) = 4 ∧
      s.cur (Fld.FAB_QCFGp_c_HOLD c.port f.cls) ≤ (s.queue c.port f.cls).length) := by
    rintro ⟨-, ho, -⟩
    rw [hstate] at ho
    exact absurd ho (by decide)
  have hdepth : ¬(true = true ∧ f.ingress ≠ 78 ∧ s.cur (Fld.FAB_QCFGp_c_DEPTH c.port f.cls) ≤ s.queueLen c.port f.cls) :=
    fun ⟨_, hi, _⟩ => hi hf
  have hlink : ∀ y : State, y.linkDrops c.port = y := fun y => by
    unfold State.linkDrops
    exact if_neg fun hp => absurd h.can (by omega)
  have hawake : ¬(c.port < 48 ∧ (s.enqueue c f.cls).get (Fld.REEF_PORTn_STAT_STATE c.port) = 2) := by
    rintro ⟨hp, ho⟩
    rw [(keepsRegs_enqueue s c f.cls).get (by
      simp only [Fld.REEF_PORTn_STAT_STATE, Reg.REEF_PORTn_STAT, Reg.FAB_QSTATp, List.mem_singleton]; omega)] at ho
    exact h.awake ho
  unfold State.offer
  dsimp only
  rw [if_neg (not_not.2 h.fabric), if_neg hopen, h.claimed, Bool.not_true, Bool.false_and, if_neg Bool.false_ne_true,
    if_neg (not_not.2 h.powered)]
  unfold State.place
  dsimp only
  rw [if_neg hopen, if_neg hbus, if_neg hdepth, hlink, if_neg hawake]

end

/-! ### A host frame is admitted (R126, R130) -/

section
variable {s y : State} {i : Inbound} {r : Route}

/-- An admitted frame counts at its ingress and takes the next number of its route. -/
def State.counted (y : State) (i : Inbound) (r : Route) : State :=
  let z := (y.countPort i.ingress 0).observePort i.ingress
  { z with fab := { z.fab with fseqs := SMap.set 0 z.fab.fseqs r.index ((SMap.get 0 y.fab.fseqs r.index + 1) % 65536) } }

/-- The frame as it is kept in packet memory. -/
def State.entering (y : State) (i : Inbound) (r : Route) : Frame :=
  i.frame (some r) r.egress 0 ((SMap.get 0 y.fab.fseqs r.index + 1) % 65536) (Config.block (y.counted i r).free % 65536)

/-- Packet memory holds the frame. -/
def State.stored (y : State) (i : Inbound) (r : Route) : State :=
  let z := ((y.counted i r).alloc (y.entering i r)).2
  { z with free := z.free + 1 }

/-- The copy of the frame for a port. -/
def State.copyFor (y : State) (i : Inbound) (r : Route) (p : Nat) : Copy :=
  { fid := (y.counted i r).fab.nextFid, port := p, wire := i.wire, ready := true, addAfa := false, ahead := false, attempts := 0 }

/-- A route to one CAN port, with no limiter, authentication or translation. -/
structure Route.plain (r : Route) (p : Nat) : Prop where
  egress : r.egress = [p]
  can : p < 48
  limiter : 1024 ≤ r.limiter
  check : r.afaCheck = false
  add : r.afaAdd = false
  xlate : r.xlate = 0

theorem Route.plain.external {p : Nat} (h : r.plain p) : r.external = [p] := by
  have hp : p < 77 := by have := h.can; omega
  simp [Route.external, h.egress, hp]

theorem translate_plain {p : Nat} (h : r.plain p) (z : State) (w : Wire) (q : Nat) : z.translate r w q = w := by
  unfold State.translate
  simp [h.xlate]

theorem xlateDrop_plain {p : Nat} (h : r.plain p) (z : State) (w : Wire) : z.xlateDrop r w = false := by
  unfold State.xlateDrop
  simp [h.xlate]

theorem police_plain {p : Nat} (h : r.plain p) (z : State) (len : Nat) : z.police r len = (true, z) :=
  if_pos (by have := h.limiter; omega)

/-- The frame that packet memory holds. -/
theorem frame?_stored (y : State) (i : Inbound) (r : Route) :
    (y.stored i r).frame? (y.counted i r).fab.nextFid = some (y.entering i r) := SMap.look_put ..

/-- A frame for CAN ports alone has no internal copy. -/
theorem deliverInternal_none {z : State} {fid : Nat} {f : Frame} (h : z.frame? fid = some f)
    (hports : f.opened.filter (77 ≤ ·) = []) :
    ({ z with free := z.free + 1 }).deliverInternal fid = { z with free := z.free + 1 } := by
  have hdrawn : ({ z with free := z.free + 1 }).frame? fid = some f := h
  unfold State.deliverInternal
  rw [hdrawn]
  dsimp only
  rw [hports]
  rfl

/-- The frame of a route to one CAN port is stored and its copy queued. -/
theorem enter_plain {p : Nat} (h : r.plain p) (hi : i.ingress = 78) (hquiet : i.quiet = false)
    (hport : (y.stored i r).takesCopies p) :
    y.enter i (.route r) = { (y.stored i r).enqueue (y.copyFor i r p) r.cls with
      free := ((y.stored i r).enqueue (y.copyFor i r p) r.cls).free + 1 } := by
  have hne : r.egress ≠ [] := by rw [h.egress]; exact List.cons_ne_nil _ _
  have hroom : y.roomFor i = true := decide_eq_true (.inl hi)
  have hoffer := offer_host (c := y.copyFor i r p) (f := y.entering i r) hport hi
  have hopened : (y.entering i r).opened = [p] := h.egress
  have hports : (y.entering i r).opened.filter (77 ≤ ·) = [] := by
    have := h.can
    rw [hopened]
    simp
    omega
  have hframe : ((y.stored i r).enqueue (y.copyFor i r p) r.cls).frame? (y.counted i r).fab.nextFid = some (y.entering i r) := by
    unfold State.frame?
    rw [fab_enqueue]
    exact frame?_stored y i r
  unfold State.enter State.admitWith
  simp only [if_neg hne, police_plain h, hroom, xlateDrop_plain h, h.add, h.check, h.external, hquiet, Bool.not_true, Bool.false_and,
    Bool.false_eq_true, if_false, Bool.not_false, Bool.and_true, List.foldl_cons, List.foldl_nil, translate_plain h]
  exact (congrArg (fun z : State => State.deliverInternal { z with free := z.free + 1 } (y.counted i r).fab.nextFid) hoffer).trans
    (deliverInternal_none hframe hports)

end

end Sys2Proof.Machine

namespace Sys2Proof.Machine

/-! ### TX_FRAME with a frame that a CAN port takes (R88, R131) -/

section
variable {n p : Nat} {t : Tai} {s y : State} {x : Fetched} {rest : List Fetched} {r : Route}

/-- What packet memory's new frame leaves. -/
structure HostStored (s z : State) (rest : List Fetched) : Prop where
  reg : ∀ o, 0x100000 ≤ o → z.reg o = s.reg o
  live : z.live = s.live
  queues : z.fab.queues = s.fab.queues
  fetched : z.hif.fetched = rest
  counts : z.reg64 (Reg.FAB_PCNTp_k 78 0) = (s.reg64 (Reg.FAB_PCNTp_k 78 0) + 1) % 2 ^ 64

/-- Counting a frame and observing its port leave the rest. -/
theorem counted_same (y : State) (i : Inbound) (r : Route) :
    (y.counted i r).regs = (y.countPort i.ingress 0).regs ∧ (y.counted i r).hif = y.hif ∧ (y.counted i r).live = y.live ∧
      (y.counted i r).fab.queues = y.fab.queues := by
  have hfab : ((y.countPort i.ingress 0).observePort i.ingress).fab = y.fab :=
    (State.observePort_fab ..).trans (State.count_fab ..)
  exact ⟨State.observePort_regs (y.countPort i.ingress 0) i.ingress, (State.observePort_hif ..).trans (State.count_hif ..),
    (State.observePort_live ..).trans (State.count_live ..), (congrArg Fabric.queues hfab :)⟩

/-- Storing a frame takes its blocks. -/
theorem stored_same (y : State) (i : Inbound) (r : Route) :
    (∃ v, (y.stored i r).regs = ((y.counted i r).put Fld.FAB_FREE_BLOCKS v).regs) ∧ (y.stored i r).hif = (y.counted i r).hif ∧
      (y.stored i r).live = (y.counted i r).live ∧ (y.stored i r).fab.queues = (y.counted i r).fab.queues := by
  unfold State.stored
  generalize y.entering i r = f
  generalize y.counted i r = z
  exact ⟨⟨_, rfl⟩, rfl, rfl,
    (congrArg Fabric.queues (State.put_fab z Fld.FAB_FREE_BLOCKS (z.freeBlocks - f.blocks)) :)⟩

theorem hostStored_stored (h : LookedUp s y rest) {i : Inbound} (hi : i.ingress = 78) (r : Route) :
    HostStored s (y.stored i r) rest := by
  obtain ⟨hcr, hch, hcl, hcq⟩ := counted_same y i r
  obtain ⟨⟨v, hsr⟩, hsh, hsl, hsq⟩ := stored_same y i r
  rw [hi] at hcr
  have hstored : ∀ o, o ≠ Reg.FAB_FREE → (y.stored i r).reg o = (y.countPort 78 0).reg o := fun o ho =>
    (State.reg_of_regs hsr o).trans ((State.reg_put _ _ _ _ ho).trans (State.reg_of_regs hcr o))
  have hfetched : (y.stored i r).hif.fetched = rest := by rw [hsh, hch, h.hif]
  refine { reg := fun o ho => ?_, live := ?_, queues := ?_, fetched := hfetched, counts := ?_ }
  · have hne : o ≠ Reg.FAB_FREE ∧ o ≠ Reg.FAB_PCNTp_k 78 0 ∧ o ≠ Reg.FAB_PCNTp_k 78 0 + 4 := by
      unfold Reg.FAB_FREE Reg.FAB_PCNTp_k
      omega
    rw [hstored o hne.1, State.countPort, State.reg_count _ _ _ _ hne.2.1 hne.2.2]
    exact h.reg o hne.1 (by omega)
  · rw [hsl, hcl, h.live]
  · rw [hsq, hcq, h.fab]
  · have hcount : (y.stored i r).reg64 (Reg.FAB_PCNTp_k 78 0) = (y.countPort 78 0).reg64 (Reg.FAB_PCNTp_k 78 0) := by
      unfold State.reg64
      rw [hstored _ (by decide), hstored _ (by decide)]
    rw [hcount, State.countPort, State.reg64_count, h.reg64_port (by decide)]

theorem HostStored.get {z : State} (h : HostStored s z rest) {f : Fld} (hf : 0x100000 ≤ f.off) : z.get f = s.get f :=
  State.get_of_reg (h.reg _ hf)

theorem HostStored.takesCopies {z : State} (h : HostStored s z rest) (hp : s.takesCopies p) : z.takesCopies p where
  can := hp.can
  fabric := (h.get (f := Fld.PWR_Dd_STAT_STATE 4) (by decide)).trans hp.fabric
  claimed := by
    have hclaim := h.get (f := Fld.HAL_STATUS_CLAIMED) (by decide)
    rw [State.claimed, hclaim]
    exact hp.claimed
  powered := (h.get (f := Fld.PWR_Dd_STAT_STATE (domainOf p)) (by
    simp only [Fld.PWR_Dd_STAT_STATE, Reg.PWR_Dd_STAT]; omega)).trans hp.powered
  state := (h.get (f := Fld.CANP_STATUS_STATE p) (by simp only [Fld.CANP_STATUS_STATE, Reg.CANP_STATUS]; omega)).trans hp.state
  talks := by
    rw [State.on, State.cur, State.liveReg_of_live h.live]
    exact hp.talks
  awake := by
    rw [h.get (by simp only [Fld.REEF_PORTn_STAT_STATE, Reg.REEF_PORTn_STAT]; omega)]
    exact hp.awake

/-- A frame of ring `n` stands in packet memory, and its copy waits last in its class at a port. -/
structure HostQueued (s u : State) (n : Nat) (x : Fetched) (rest : List Fetched) (r : Route) (p : Nat) : Prop where
  fetched : u.hif.fetched = rest
  counts : u.reg64 (Reg.FAB_PCNTp_k 78 0) = (s.reg64 (Reg.FAB_PCNTp_k 78 0) + 1) % 2 ^ 64
  waits : ∃ (c : Copy) (f : Frame), u.queue p r.cls = s.queue p r.cls ++ [c] ∧ c.port = p ∧ c.wire = x.wire ∧
    c.ready = true ∧ u.frame? c.fid = some f ∧ f.ingress = 78 ∧ f.wire = x.wire ∧ f.opened = [p] ∧
    ∃ h, f.host = some h ∧ h.ring = n ∧ h.tag = x.desc.tag

theorem hostQueued_enqueue {z : State} (h : HostStored s z rest) {c : Copy} {f : Frame} (hport : c.port = p) (hp : p < 48)
    (hwire : c.wire = x.wire) (hready : c.ready = true) (hframe : z.frame? c.fid = some f) (hi : f.ingress = 78)
    (hfw : f.wire = x.wire) (ho : f.opened = [p]) (hh : f.host = some (x.hostTag n)) (r : Route) :
    HostQueued s (z.enqueue c r.cls) n x rest r p where
  fetched := by rw [hif_enqueue, h.fetched]
  counts := by
    refine ((keepsRegs_enqueue z c r.cls).reg64 ?_ ?_).trans h.counts
    · rw [hport]
      simp only [List.mem_singleton, Reg.FAB_QSTATp, Reg.FAB_PCNTp_k]
      omega
    · rw [hport]
      simp only [List.mem_singleton, Reg.FAB_QSTATp, Reg.FAB_PCNTp_k]
      omega
  waits := by
    refine ⟨c, f, ?_, hport, hwire, hready, ?_, hi, hfw, ho, _, hh, rfl, rfl⟩
    · have hqueue : z.queue p r.cls = s.queue p r.cls := by rw [State.queue, h.queues]; rfl
      rw [← hqueue, ← hport]
      exact queue_enqueue ..
    · unfold State.frame?
      rw [fab_enqueue]
      exact hframe

theorem HostQueued.drawn {u : State} (h : HostQueued s u n x rest r p) : HostQueued s { u with free := u.free + 1 } n x rest r p :=
  ⟨h.fetched, h.counts, h.waits⟩

theorem HostQueued.withQueue {u : State} (h : HostQueued s u n x rest r p) (q : List Instr) :
    HostQueued s (u.withQueue q) n x rest r p := ⟨h.fetched, h.counts, h.waits⟩

theorem hostQueued_enter (h : LookedUp s y rest) (hr : r.plain p) (hp : s.takesCopies p) :
    HostQueued s (y.enter (x.inbound n) (.route r)) n x rest r p := by
  have hstored := hostStored_stored h (i := x.inbound n) rfl r
  rw [enter_plain hr rfl rfl (hstored.takesCopies hp)]
  exact (hostQueued_enqueue (c := y.copyFor (x.inbound n) r p) (f := y.entering (x.inbound n) r) hstored rfl hr.can rfl rfl
    (frame?_stored y _ r) rfl rfl hr.egress rfl r).drawn

theorem txFrame_queued (hs : s.up = true) (hn : n < 64) (h : takeFetched n 1 s.hif.fetched = some (x, rest))
    (hfound : (s.hostLookup n t x rest).1 = .route r) (hr : r.plain p) (hp : s.takesCopies p) :
    answers (exec (.txFrame n [] t) s) fun u => HostQueued s u n x rest r p := by
  refine answers_txFrame hs hn ?_
  rw [submit_some h, hfound]
  exact (hostQueued_enter (lookedUp_route hfound) hr hp).withQueue _

end

/-- Settles O43: a NOP that is owed completes (`txNop_completes`), a host frame is looked up and ends or is queued
(`hostEnds_hostFinal`, `hostQueued_enqueue`), and a reset clears the interface's registers (`hifReset_clears`). -/
theorem hostFramesEnterTheFabricOrComplete : Obligations.HostFramesEnterTheFabricOrComplete := by
  intro n t s hs hn
  refine ⟨fun b payload hb hno => txNop_idle hs hn payload hb fun h =>
      hno ⟨h.slot, h.phase, h.update, h.running, h.link, h.owes.1, h.owes.2⟩,
    fun b payload ⟨hslot, hphase, hupd, hrun, hlink, hstate, howed⟩ hop hc hd hroom =>
      txNop_completes hs hn ⟨hslot, hphase, hupd, hrun, hlink, hstate, howed⟩ hop hc hd hroom,
    txFrame_none hs hn, fun x rest hx => ⟨?_, ?_, ?_⟩, ?_⟩
  · rintro ⟨hc, hg, hd⟩ hfound
    exact answers_mono (txFrame_misses hs hn hx ⟨hc, hg, hd⟩ hfound) fun u h => ⟨h.completes, h.fetched, h.counts⟩
  · rintro ⟨hc, hg, hd⟩ r hfound hr
    exact answers_mono (txFrame_filtered hs hn hx ⟨hc, hg, hd⟩ hfound hr) fun u h => ⟨h.completes, h.fetched, h.counts⟩
  · intro r p hfound he hp hlim hchk hadd hxl h4 hclaim hdom hstate hlisten hreef
    exact answers_mono (txFrame_queued hs hn hx hfound ⟨he, hp, hlim, hchk, hadd, hxl⟩
      ⟨hp, h4, hclaim, hdom, hstate, hlisten, hreef⟩) fun u h => ⟨h.fetched, h.counts, h.waits⟩
  · intro c hc
    rcases List.mem_cons.1 hc with rfl | hc
    · exact answers_mono (functionLevelReset_clears hs) fun u h =>
        ⟨h.reg, h.finals, h.linkReady, h.wbSeq, fun hne => nomatch hne⟩
    · obtain rfl := List.mem_singleton.1 hc
      exact answers_mono (perstReset_clears hs) fun u ⟨h, htransfer⟩ =>
        ⟨h.reg, h.finals, h.linkReady, h.wbSeq, fun _ => htransfer⟩

end Sys2Proof.Machine

namespace Sys2Proof.Machine

/-! ### Requests that a status shows (R116, R169, R480) -/

/-- A request that its status shows as pending: the PENDING bit reads one, and the request waits for the commit slot. -/
def State.requested (s : State) (f : Fld) (c : RegCmd) : State := (s.put f 1).command c

/-- The PENDING bit of a request, of one bit. -/
theorem get_requested (s : State) {f : Fld} (hf : f.hi = f.lo) (hh : f.hi < 32) (c : RegCmd) : (s.requested f c).get f = 1 :=
  (State.get_command ..).trans (State.get_put_fit s f 1 hh hf.ge (by simp [hf]))

/-- A command whose only work is a request that its status shows: nothing else changes. -/
theorem answers_requested {s x : State} {a : Access} (t : Tai) {f : Fld} {c : RegCmd} {ok : Bool} {m : String}
    (h : s.takes a) (hok : ok = true) (hf : f.hi = f.lo) (hh : f.hi < 32) (hx : x = (s.at t).requested f c) :
    answers (unlessHeld s (runIf ok m x)) fun u =>
      u.get f = 1 ∧ s.waitsFor u c ∧ s.keepsRegs u [f.off] ∧ s.keeps u [.cmds] := by
  obtain ⟨hup, _⟩ := h
  subst hx
  refine answers_effect hup hok ⟨get_requested _ hf hh c, ?_, ?_, ?_⟩
  · exact State.waitsFor_pending (State.waitsFor_command ((s.at t).put f 1) c) s.pending
  · exact (State.keepsRegs_withQueue ..).2
      (State.keepsRegs_back (State.keepsRegs.put (.at s t _) f 1 (by simp)) (State.keepsRegs_command _ c) (by simp))
  · exact (State.keeps_withQueue ..).2
      (State.keeps_back (State.keeps.put (.at s t _) f 1) (State.keeps_command _ c) (by simp))

section
variable {s : State} {a : Access}

theorem regWrite_CANP_TIMING_GO (h : s.takes a) (t : Tai) {n : Nat} (hn : n < 48) :
    (s.at t).regWrite a (Reg.CANP_TIMING_GO n) 0x80000000#32 =
      (s.at t).requested (Fld.CANP_STATUS_TIMING_PENDING n) (.canTiming n) :=
  (regWrite_commandAt _ _ _ (State.takes_at h t) (commandAt_CANP_TIMING_GO ⟨n, hn⟩)).trans (trigger_CANP_TIMING_GO _ n hn)

theorem regWrite_REEF_COMMIT (h : s.takes a) (t : Tai) :
    (s.at t).regWrite a Reg.REEF_COMMIT 0x80000000#32 = (s.at t).requested Fld.REEF_STATUS_PENDING .reefCommit :=
  regWrite_commandAt _ _ _ (State.takes_at h t) commandAt_REEF_COMMIT

theorem regWrite_NEST_COMMIT (h : s.takes a) (t : Tai) :
    (s.at t).regWrite a Reg.NEST_COMMIT 0x80000000#32 = (s.at t).requested Fld.NEST_STATUS_PENDING .nestCommit :=
  regWrite_commandAt _ _ _ (State.takes_at h t) commandAt_NEST_COMMIT

theorem regWrite_MGT_SNAP_GO (h : s.takes a) (t : Tai) (hp : s.get Fld.MGT_SNAP_STAT_PENDING ≠ 1) :
    (s.at t).regWrite a Reg.MGT_SNAP_GO 0x80000000#32 = (s.at t).requested Fld.MGT_SNAP_STAT_PENDING .snapGo :=
  calc (s.at t).regWrite a Reg.MGT_SNAP_GO 0x80000000#32 = (s.at t).snapGo :=
        regWrite_commandAt _ _ _ (State.takes_at h t) commandAt_MGT_SNAP_GO
    _ = _ := if_neg hp

theorem regWrite_FAB_COMMIT (h : s.takes a) (t : Tai) :
    (s.at t).regWrite a Reg.FAB_COMMIT 1#32 = (s.at t).commitGo :=
  regWrite_commandAt _ _ _ (State.takes_at h t) commandAt_FAB_COMMIT

/-- A route commit begins to be validated (R116). -/
theorem commitGo_idle (h : s.get Fld.FAB_STATUS_COMMIT = 0) :
    s.commitGo.get Fld.FAB_STATUS_COMMIT = 1 ∧ s.commitGo.reg Reg.FAB_COMMIT_RES = 1#32 ∧
      s.keepsRegs s.commitGo [Reg.FAB_STATUS, Reg.FAB_COMMIT_RES] ∧ s.keeps s.commitGo [] := by
  rw [State.commitGo, if_pos h]
  refine ⟨?_, ?_, ?_, ?_⟩
  · rw [State.get_of_reg (State.reg_setReg_ne _ _ (by decide))]
    exact State.get_put_fit s _ 1 (by decide) (by decide) (by decide)
  · rw [State.reg_setReg, if_pos rfl]
  · exact State.keepsRegs.setReg (State.keepsRegs_mono (State.keepsRegs_put s _ 1) (by decide)) _ (by decide)
  · exact State.keeps.setReg (State.keeps_put s _ 1) _ _

end

/-- Settles O11: each GO writes the acting bit of its register, which shows the request (`answers_requested`) or begins a
route commit (`commitGo_idle`). -/
theorem commitRequestsShowPending : Obligations.CommitRequestsShowPending := by
  intro a t s h
  obtain ⟨hup, _, _, _, ha, _⟩ := id h
  refine ⟨fun n hn => answers_requested t h (decide_eq_true ⟨ha, hn⟩) rfl (by simp [Fld.CANP_STATUS_TIMING_PENDING])
      (regWrite_CANP_TIMING_GO h t hn),
    answers_requested t h (decide_eq_true ha) rfl (by decide) (regWrite_REEF_COMMIT h t),
    answers_requested t h (decide_eq_true ha) rfl (by decide) (regWrite_NEST_COMMIT h t),
    fun hp => answers_requested t h (decide_eq_true ha) rfl (by decide) (regWrite_MGT_SNAP_GO h t hp),
    fun hc => answers_effect hup (decide_eq_true ha) ?_, fun hc => answers_effect hup (decide_eq_true ha) ?_⟩
  · rw [regWrite_FAB_COMMIT h t]
    simpa using commitGo_idle (s := s.at t) hc
  · have hsame : (s.at t).commitGo = s.at t := if_neg hc
    rw [regWrite_FAB_COMMIT h t, hsame]
    exact ⟨(State.keepsRegs_withQueue ..).2 (.at s t _), (State.keeps_withQueue ..).2 (.at s t _)⟩

end Sys2Proof.Machine

namespace Sys2Proof.Machine

/-! ### A route commit and a limiter beyond the table (R115, R127) -/

/-- A limiter far beyond the 1024 of the table: its token count falls on the last word of the live window. -/
def strayLimiter : Nat := (0xFFFFC - Reg.FAB_LIMi_TOK 0) / 4

/-- A beat in progress with the route memory on and a commit validated; the last shadow word is not zero, and the stray
limiter is held as live. -/
def strayCommit : State :=
  let s := { State.reset with
    glb := { State.reset.glb with phase := .running },
    beat := { State.reset.beat with started := true, start := 1000000000, next := 1000250000 } }
  let s := ((s.put (Fld.PWR_Dd_STAT_STATE 4) 2).put Fld.FAB_STATUS_COMMIT 2).setReg 0xBFFFC 1#32
  { s with fab := { s.fab with validated := true, limLive := [(strayLimiter, true)] } }

/-- The last word of the live window after a commit. -/
def lastLiveWord (o : Host.Outcome State Fault Refusal) : Word :=
  match o with
  | .next u => u.reg 0xFFFFC
  | _ => 0#32

theorem lastLiveWord_strayCommit : lastLiveWord (exec (.fabCommitApplied 1000025000) strayCommit) = 0#32 := by decide +kernel

/-- What the statement asks of the state, and the shadow word that should go live. -/
theorem strayCommit_meets : strayCommit.up = true ∧ strayCommit.fab.validated = true ∧
    (strayCommit.at 1000025000).commitDue = true ∧ strayCommit.domain 4 = 2 ∧ strayCommit.reg 0xBFFFC = 1#32 := by
  and_intros <;> decide +kernel

/-- Refutes O35: a commit copies the shadow window whole and then clips the token counts of the limiters that are live. The
statement speaks of every state, so of one that holds a limiter beyond the table among the live ones: the word of its token
count lies in the live window, and the clipping overwrites what was copied there. No command leads there (a commit marks only
limiters of the table as live); where every live limiter lies in the table, the token counts and the live window are apart. -/
theorem not_routeCommitsAreValidatedAndGoLiveWhole : ¬ Obligations.RouteCommitsAreValidatedAndGoLiveWhole := by
  intro h
  obtain ⟨hup, hvalid, hdue, hpower, hshadow⟩ := strayCommit_meets
  obtain ⟨_, hcommit, _⟩ := h 0 1000025000 strayCommit hup (by decide)
  obtain ⟨u, hu, hlive, _⟩ := hcommit hvalid hdue hpower
  have hword : u.reg 0xFFFFC = 0#32 := by
    have hw := lastLiveWord_strayCommit
    rw [hu] at hw
    exact hw
  have hcopied := hlive 0xBFFFC (by decide) (by decide)
  rw [hword, hshadow] at hcopied
  exact absurd hcopied (by decide)

end Sys2Proof.Machine

namespace Sys2Proof.Machine

/-! ### Work on a CAN port (R163-R207)

A frame on the bus of a CAN port moves the port's state and its Reef controller, its captures and its muster records. None of
this touches packet memory, the values in force, the host's TX rings or the other ports. -/

/-- The registers that work on CAN port `n` can change: the port's status and error counters, the view of its queues, the losses
of the RX rings and of the journal, and the Reef controller beside the states of the other ports. -/
def portNoise (n o : Nat) : Prop :=
  o = Reg.CANP_STATUS n ∨ o = Reg.CANP_ECNT n ∨ o = Reg.FAB_QSTATp n ∨ (0x32000 ≤ o ∧ o < 0x33000) ∨
    o = Reg.NVM_CNTk 1 ∨ o = Reg.NVM_CNTk 1 + 4 ∨
    (0x141000 ≤ o ∧ o < 0x150000 ∧ ∀ p < 48, p ≠ n → o ≠ Reg.REEF_PORTn_STAT p)

/-- What work on CAN port `n` leaves. -/
structure PortWork (n : Nat) (s u : State) : Prop where
  fab : u.fab = s.fab
  live : u.live = s.live
  core : u.hifCore = s.hifCore
  out : s.out <+: u.out
  tec : u.get (Fld.CANP_ECNT_TEC n) = s.get (Fld.CANP_ECNT_TEC n)
  reg : ∀ o, ¬ portNoise n o → u.reg o = s.reg o

theorem PortWork.refl (n : Nat) (s : State) : PortWork n s s := ⟨rfl, rfl, rfl, List.prefix_rfl, rfl, fun _ _ => rfl⟩

section
variable {n : Nat} {s x y : State}

theorem PortWork.trans (h : PortWork n s x) (g : PortWork n x y) : PortWork n s y where
  fab := g.fab.trans h.fab
  live := g.live.trans h.live
  core := g.core.trans h.core
  out := h.out.trans g.out
  tec := g.tec.trans h.tec
  reg o ho := (g.reg o ho).trans (h.reg o ho)

theorem PortWork.finals (h : PortWork n s x) : x.hif.finals = s.hif.finals := (congrArg HostIf.finals h.core :)

theorem PortWork.txRing (h : PortWork n s x) (m : Nat) : x.txRing m = s.txRing m :=
  txRing_of_hif (congrArg HostIf.tx h.core :) m

theorem PortWork.get (h : PortWork n s x) {f : Fld} (hf : ¬ portNoise n f.off) : x.get f = s.get f :=
  State.get_of_reg (h.reg _ hf)

theorem PortWork.reg64 (h : PortWork n s x) {o : Nat} (ho : ¬ portNoise n o) (h4 : ¬ portNoise n (o + 4)) :
    x.reg64 o = s.reg64 o := by
  unfold State.reg64
  rw [h.reg _ ho, h.reg _ h4]

/-- A step of the work that changes some of these registers, and not the error counters. -/
theorem PortWork.step (h : PortWork n s x) (hf : y.fab = x.fab) (hl : y.live = x.live) (hc : y.hifCore = x.hifCore)
    (ho : x.out <+: y.out) {l : List Nat} (hr : x.keepsRegs y l) (hn : ∀ o ∈ l, portNoise n o ∧ o ≠ Reg.CANP_ECNT n) :
    PortWork n s y :=
  h.trans ⟨hf, hl, hc, ho, hr.get fun hm => (hn _ hm).2 rfl, fun o hno => hr o fun hm => hno (hn o hm).1⟩

/-- Other parts may change. -/
theorem PortWork.parts (h : PortWork n s x) (hf : y.fab = x.fab) (hl : y.live = x.live) (hc : y.hif = x.hif)
    (ho : x.out <+: y.out) (hr : y.regs = x.regs) : PortWork n s y :=
  h.step hf hl (by unfold State.hifCore; rw [hc]) ho (State.keepsRegs_of_regs hr) nofun

theorem PortWork.ite {c : Prop} [Decidable c] (h : PortWork n s x) (g : PortWork n s y) :
    PortWork n s (if c then x else y) := by
  split <;> assumption

theorem PortWork.put (h : PortWork n s x) (f : Fld) (v : Nat) (hf : portNoise n f.off) (hne : f.off ≠ Reg.CANP_ECNT n) :
    PortWork n s (x.put f v) :=
  h.step (State.put_fab ..) (State.put_live ..) (by unfold State.hifCore; rw [State.put_hif])
    (by rw [State.put_out]) (State.keepsRegs_put x f v) (by simpa using ⟨hf, hne⟩)

theorem PortWork.setReg (h : PortWork n s x) (o : Nat) (v : Word) (ho : portNoise n o) (hne : o ≠ Reg.CANP_ECNT n) :
    PortWork n s (x.setReg o v) :=
  h.step rfl rfl rfl List.prefix_rfl (l := [o]) (fun a ha => State.reg_setReg_ne _ _ (by simpa using ha))
    (by simpa using ⟨ho, hne⟩)

theorem PortWork.setReg64 (h : PortWork n s x) (o v : Nat)
    (ho : ∀ a ∈ pair64 o, portNoise n a ∧ a ≠ Reg.CANP_ECNT n) : PortWork n s (x.setReg64 o v) :=
  h.step rfl rfl rfl List.prefix_rfl (State.keepsRegs_setReg64 x o v) ho

theorem PortWork.count (h : PortWork n s x) (o k : Nat) (ho : ∀ a ∈ pair64 o, portNoise n a ∧ a ≠ Reg.CANP_ECNT n) :
    PortWork n s (x.count o k) := h.setReg64 o _ ho

/-- The losses of an RX ring are among these registers. -/
theorem portNoise_rxDrop {r : Nat} (hr : r < 64) :
    ∀ a ∈ pair64 (Reg.HIF_RXn_DROP r), portNoise n a ∧ a ≠ Reg.CANP_ECNT n := by
  intro a ha
  simp only [pair64, List.mem_cons, List.not_mem_nil, or_false, Reg.HIF_RXn_DROP] at ha
  exact ⟨.inr (.inr (.inr (.inl (by omega)))), by unfold Reg.CANP_ECNT; omega⟩

theorem portNoise_dropCounters : ∀ a ∈ dropCounters, portNoise n a ∧ a ≠ Reg.CANP_ECNT n := by
  intro a ha
  simp only [dropCounters, List.mem_cons, List.not_mem_nil, or_false] at ha
  rcases ha with rfl | rfl | h | h
  · exact ⟨.inr (.inr (.inr (.inr (.inl rfl)))), by unfold Reg.NVM_CNTk Reg.CANP_ECNT; omega⟩
  · exact ⟨.inr (.inr (.inr (.inr (.inr (.inl rfl))))), by unfold Reg.NVM_CNTk Reg.CANP_ECNT; omega⟩
  · exact portNoise_rxDrop (r := 63) (by decide) a (by simp [h, pair64])
  · exact portNoise_rxDrop (r := 63) (by decide) a (by simp [h, pair64])

/-- The registers of the Reef controller of port `n`, beside the ports' states, are among these. -/
theorem portNoise_reef {o : Nat} (h : 0x141000 ≤ o) (h' : o < 0x150000)
    (hne : ∀ p < 48, p ≠ n → o ≠ Reg.REEF_PORTn_STAT p) : portNoise n o := .inr (.inr (.inr (.inr (.inr (.inr ⟨h, h', hne⟩)))))

theorem portNoise_reefAbove {o : Nat} (hn : n < 48) (h : 0x142000 ≤ o) (h' : o < 0x150000) :
    portNoise n o ∧ o ≠ Reg.CANP_ECNT n :=
  ⟨portNoise_reef (by omega) h' fun p hp _ => by unfold Reg.REEF_PORTn_STAT; omega, by unfold Reg.CANP_ECNT; omega⟩

theorem portNoise_pair64 {o : Nat} (hn : n < 48) (h : 0x142000 ≤ o) (h' : o + 4 < 0x150000) :
    ∀ a ∈ pair64 o, portNoise n a ∧ a ≠ Reg.CANP_ECNT n := by
  intro a ha
  simp only [pair64, List.mem_cons, List.not_mem_nil, or_false] at ha
  exact portNoise_reefAbove hn (by omega) (by omega)

theorem PortWork.putStatus (h : PortWork n s x) (f : Fld) (v : Nat) (hf : f.off = Reg.CANP_STATUS n) : PortWork n s (x.put f v) :=
  h.put f v (.inl hf) (by rw [hf]; unfold Reg.CANP_STATUS Reg.CANP_ECNT; omega)

theorem PortWork.putReefStat (h : PortWork n s x) (hn : n < 48) (f : Fld) (v : Nat) (hf : f.off = Reg.REEF_PORTn_STAT n) :
    PortWork n s (x.put f v) :=
  h.put f v
    (portNoise_reef (by rw [hf]; unfold Reg.REEF_PORTn_STAT; omega) (by rw [hf]; unfold Reg.REEF_PORTn_STAT; omega)
      fun p _ hp => by rw [hf]; unfold Reg.REEF_PORTn_STAT; omega)
    (by rw [hf]; unfold Reg.REEF_PORTn_STAT Reg.CANP_ECNT; omega)

/-! Events and records. -/

theorem PortWork.told (h : PortWork n s x) (hf : y.fab = x.fab) (hl : y.live = x.live) (ht : HifTold x y) (ho : y.out = x.out)
    (hr : x.keepsRegs y dropCounters) : PortWork n s y :=
  h.step hf hl ht.core (by rw [ho]) hr portNoise_dropCounters

theorem PortWork.raise (h : PortWork n s x) (c u : Nat) (d : List Detail) : PortWork n s (x.raise c u d) :=
  h.told (State.raise_fab ..) (State.raise_live ..) (hifTold_raise ..) (State.raise_out ..) (State.keepsRegs_raise x c u d)

theorem PortWork.raiseOnce (h : PortWork n s x) (k c u : Nat) (d : List Detail) : PortWork n s (x.raiseOnce k c u d) := by
  unfold State.raiseOnce
  exact ((h.parts rfl rfl rfl List.prefix_rfl (State.spoke_regs ..) : PortWork n s (x.spoke k)).raise c u d).ite h

theorem PortWork.message (h : PortWork n s x) (unit code : Nat) : PortWork n s (x.message unit code) :=
  h.told (State.message_fab ..) (State.message_live ..) (hifTold_message ..) (State.message_out ..) (keepsRegs_message x unit code)

theorem PortWork.toRing (h : PortWork n s x) {r : Nat} (hr : r < 64) (e : RxEntry) : PortWork n s (x.toRing r e) := by
  unfold State.toRing State.rxDrop
  refine PortWork.ite ?_ ?_
  · exact h.step rfl rfl rfl List.prefix_rfl (State.keepsRegs_of_regs rfl) nofun
  · exact (h.count _ _ (portNoise_rxDrop hr)).step rfl rfl rfl List.prefix_rfl (State.keepsRegs_of_regs rfl) nofun

theorem PortWork.halSend (h : PortWork n s x) (t : Nat) (e : Bool) (p : Bytes) : PortWork n s (x.halSend t e p) :=
  h.parts rfl rfl rfl (List.prefix_append ..) rfl

theorem PortWork.setCan (h : PortWork n s x) (m : Nat) (p : CanPort) : PortWork n s (x.setCan m p) :=
  h.parts rfl rfl rfl List.prefix_rfl rfl
theorem PortWork.setReef (h : PortWork n s x) (m : Nat) (p : ReefPort) : PortWork n s (x.setReef m p) :=
  h.parts rfl rfl rfl List.prefix_rfl rfl

theorem PortWork.frameBegins (h : PortWork n s x) (m : Nat) : PortWork n s (x.frameBegins m) := by
  unfold State.frameBegins
  exact (h.setCan _ _).ite h

theorem PortWork.showQueues (h : PortWork n s x) : PortWork n s (x.showQueues n) := by
  have hput : ∀ {z : State} (f : Fld) (v : Nat), f.off = Reg.FAB_QSTATp n → PortWork n s z → PortWork n s (z.put f v) :=
    fun f v hf hz => hz.put f v (.inr (.inr (.inl hf))) (by rw [hf]; unfold Reg.FAB_QSTATp Reg.CANP_ECNT; omega)
  unfold State.showQueues
  exact hput _ _ rfl (hput _ _ rfl (hput _ _ rfl h))

/-! ### States and error counters (R172, R180) -/

/-- A port that takes part in its bus stays on it or integrates anew. -/
theorem PortWork.setCanState (h : PortWork n s x) (hold : x.canState n = 2 ∨ x.canState n = 3) {st : Nat}
    (hst : st = 1 ∨ st = 2 ∨ st = 3) : PortWork n s (x.setCanState n st) := by
  unfold State.setCanState
  extract_lets old a b c d e _ f _ g
  have hb : PortWork n s b := by
    have hb : b = a := if_neg fun ⟨_, ho⟩ => by omega
    rw [hb]
    exact h.putStatus _ _ rfl
  have hd : PortWork n s d := by
    have hd : d = c := if_neg (by simp only [musterVoid, Bool.or_eq_true, beq_iff_eq]; omega)
    rw [hd]
    exact hb.message _ _
  have he : PortWork n s e := by
    have he : e = d := (if_neg fun ⟨ho, _⟩ => by omega).trans (if_neg fun ⟨ho, _⟩ => by omega)
    rw [he]
    exact hd
  have hf : PortWork n s f := (he.setReef _ _).ite he
  have hg : PortWork n s g := hf.ite (hf.setCan _ _)
  exact (hg.putStatus _ _ rfl : PortWork n s (g.canShow n)).showQueues

theorem PortWork.errorState (h : PortWork n s x) (htec : s.get (Fld.CANP_ECNT_TEC n) ≤ 255) : PortWork n s (x.errorState n) := by
  have htec : x.get (Fld.CANP_ECNT_TEC n) ≤ 255 := by rw [h.tec]; exact htec
  unfold State.errorState
  extract_lets tec rec_ st passive
  rw [if_neg fun ⟨_, ho⟩ => by omega]
  split
  · next hs => exact (h.setCanState (.inl hs.1) (.inr (.inr rfl))).raiseOnce _ _ _ _
  · split
    · next hs => exact (h.setCanState (.inr hs.1) (.inr (.inl rfl))).raiseOnce _ _ _ _
    · exact h

theorem PortWork.frameEnds (h : PortWork n s x) : PortWork n s (x.frameEnds n) := by
  unfold State.frameEnds
  split
  · dsimp only
    split
    · next hs => exact (h.setCan _ _).setCanState hs (.inl rfl)
    · exact h.setCan _ _
  · exact h

theorem PortWork.setRec (h : PortWork n s x) (v : Nat) : PortWork n s (x.setRec n v) := by
  refine h.trans ⟨State.put_fab .., State.put_live .., ?_, ?_, ?_, fun o ho => ?_⟩
  · unfold State.setRec State.hifCore
    rw [State.put_hif]
  · unfold State.setRec
    rw [State.put_out]
  · exact State.get_put_field _ _ _ _ rfl (by simp [Fld.CANP_ECNT_REC]) (by simp [Fld.CANP_ECNT_REC])
      (.inr (by simp [Fld.CANP_ECNT_REC, Fld.CANP_ECNT_TEC]))
  · exact State.reg_put _ _ _ _ fun he => ho (.inr (.inl he))

theorem PortWork.recValid (h : PortWork n s x) : PortWork n s (x.recValid n) := by
  unfold State.recValid
  extract_lets r
  split
  · exact h
  · split
    · exact (h.parts rfl rfl rfl List.prefix_rfl rfl : PortWork n s x.draw.2).setRec _
    · exact h.setRec _

/-! ### Duration pairs (R64, R69-R71) -/

theorem PortWork.setCap (h : PortWork n s x) (k : Nat) (c : CapSource) : PortWork n s (x.setCap (0x80 + k) c) := by
  unfold State.setCap
  rw [if_neg (by omega)]
  exact h.parts rfl rfl rfl List.prefix_rfl rfl

theorem PortWork.capRecord (h : PortWork n s x) (k flags : Nat) (a b : Tai) : PortWork n s (x.capRecord (0x80 + k) flags a b) := by
  unfold State.capRecord
  extract_lets c ring epoch dur body open_ y
  refine PortWork.ite (PortWork.ite ?_ ?_) h
  · exact (h.setCap _ _).toRing (State.cur_lt x Fld.TIME_CAP_RING_RING) _
  · exact (h.setCap _ _).raise _ _ _

theorem PortWork.capStart (h : PortWork n s x) (k : Nat) (t : Tai) : PortWork n s (x.capStart (0x80 + k) t) := by
  unfold State.capStart
  extract_lets y
  have hy : PortWork n s y := by
    unfold y
    split
    · exact h.capRecord _ _ _ _
    · exact h
  exact hy.setCap _ _

theorem PortWork.capStop (h : PortWork n s x) (k : Nat) (t : Tai) : PortWork n s (x.capStop (0x80 + k) t).2 := by
  unfold State.capStop
  split
  · exact h.setCap _ _
  · exact h.capRecord _ _ _ _

theorem PortWork.canPair (h : PortWork n s x) (m : Nat) (sof eof : Tai) : PortWork n s (x.canPair m sof eof).2 := by
  unfold State.canPair
  extract_lets src
  split
  · split
    · exact h.capStop m eof
    · exact (h.capStart m sof).capStop m eof
  · exact h

end

end Sys2Proof.Machine

namespace Sys2Proof.Machine

section
variable {n : Nat} {s x y : State}

/-! ### The Reef controller of a port (R193, R200-R207) -/

theorem PortWork.idleRestart (h : PortWork n s x) (hn : n < 48) (t : Tai) (r : Bool) : PortWork n s (x.idleRestart n t r) := by
  unfold State.idleRestart
  exact PortWork.ite (h.setReef _ _) ((h.setReef _ _).putReefStat hn _ _ rfl)

theorem PortWork.setKeeper (h : PortWork n s x) (hn : n < 48) {i : Nat} (hi : i < 4) (key cnt : Nat) (own : Bool) (t : Tai) :
    PortWork n s (x.setKeeper n i key cnt own t) := by
  have hkey := portNoise_reefAbove (o := Reg.REEF_KPn_i_KEY n i) hn (by unfold Reg.REEF_KPn_i_KEY; omega)
    (by unfold Reg.REEF_KPn_i_KEY; omega)
  have hinfo := portNoise_reefAbove (o := Reg.REEF_KPn_i_INFO n i) hn (by unfold Reg.REEF_KPn_i_INFO; omega)
    (by unfold Reg.REEF_KPn_i_INFO; omega)
  exact ((((h.setReg _ _ hkey.1 hkey.2).put _ _ hinfo.1 hinfo.2).put _ _ hinfo.1 hinfo.2).put _ _ hinfo.1 hinfo.2).setReg64 _ _
    (portNoise_pair64 hn (by unfold Reg.REEF_KPn_i_TIME; omega) (by unfold Reg.REEF_KPn_i_TIME; omega))

theorem keeperVictim_lt (s : State) (n : Nat) : s.keeperVictim n < 4 := by
  unfold State.keeperVictim
  extract_lets score
  refine List.foldlRecOn (motive := (· < 4)) _ _ (by decide) fun b hb i hi => ?_
  have hi : i < 4 := by
    simp only [List.mem_cons, List.not_mem_nil, or_false] at hi
    omega
  split
  · exact hi
  · exact hb

theorem PortWork.keeper (h : PortWork n s x) (hn : n < 48) (key : Nat) (own : Bool) (t : Tai) :
    PortWork n s (x.keeper n key own t) := by
  unfold State.keeper
  extract_lets hit y hal
  have hhit : ∀ i, hit = some i → i < 4 := fun i hi => List.mem_range.1 (List.mem_of_find?_eq_some hi)
  clear_value hit
  have hy : PortWork n s y := by
    unfold y
    split
    · next i => exact h.setKeeper hn (hhit i rfl) _ _ _ _
    · exact h.setKeeper hn (keeperVictim_lt _ _) _ _ _ _
  exact hy.parts rfl rfl rfl List.prefix_rfl rfl

/-- A muster entry is one of the 1024 of the table. -/
theorem musterEntry_lt {w : Wire} {m : Nat} (h : s.musterEntry n w = some m) : m < 1024 := by
  unfold State.musterEntry at h
  split at h
  · next k hk =>
    have hm : k = m := by
      split at h
      · exact Option.some.inj h
      · cases h
    obtain ⟨e, -, he⟩ := List.mem_filterMap.1 (List.mem_of_mem_filter (List.mem_of_find?_eq_some hk))
    split at he
    · next hin =>
      have := Option.some.inj he
      omega
    · cases he
  · cases h

theorem PortWork.putMuster (h : PortWork n s x) (hn : n < 48) {m : Nat} (hm : m < 1024) (f : Fld) (v : Nat)
    (hf : f.off = Reg.REEF_MUSm_STAT m) : PortWork n s (x.put f v) :=
  have hin := portNoise_reefAbove (o := f.off) hn (by rw [hf]; unfold Reg.REEF_MUSm_STAT; omega)
    (by rw [hf]; unfold Reg.REEF_MUSm_STAT; omega)
  h.put f v hin.1 hin.2

theorem PortWork.countReef (h : PortWork n s x) (hn : n < 48) {k : Nat} (hk : k < 8) :
    PortWork n s (x.count (Reg.REEF_CNTn_k n k)) :=
  h.count _ _ (portNoise_pair64 hn (by unfold Reg.REEF_CNTn_k; omega) (by unfold Reg.REEF_CNTn_k; omega))

theorem PortWork.keepWin (h : PortWork n s x) (m : Nat) (w : MusterWin) : PortWork n s (x.keepWin m w) := by
  unfold State.keepWin
  exact PortWork.ite (h.parts rfl rfl rfl List.prefix_rfl rfl) (h.parts rfl rfl rfl List.prefix_rfl rfl)

theorem PortWork.queueCorr (h : PortWork n s x) (hn : n < 48) (node : Nat) (c : Int) : PortWork n s (x.queueCorr n node c).2 := by
  unfold State.queueCorr
  dsimp only
  split
  · split
    · exact h.setReef _ _
    · split
      · exact h.setReef _ _
      · exact (h.setReef _ _).countReef hn (by decide)
  · exact h.countReef hn (by decide)

theorem PortWork.musterRecord (h : PortWork n s x) (m o f : Nat) (a b : Tai) (c : Int) :
    PortWork n s (x.musterRecord m o f a b c) := by
  unfold State.musterRecord
  exact (h.toRing (State.cur_lt x Fld.REEF_MUS_RING_RING) _).ite h

theorem PortWork.musterDelta (h : PortWork n s x) (m : Nat) : PortWork n s (x.musterDelta m) := by
  unfold State.musterDelta State.delta
  exact (h.halSend _ _ _).ite h

theorem PortWork.musterReport (h : PortWork n s x) (hn : n < 48) (w : Wire) (sof : Tai) (woken : Bool) :
    PortWork n s (x.musterReport n w sof woken).2 := by
  unfold State.musterReport
  split
  · exact h
  · next m hm =>
    have hm : m < 1024 := musterEntry_lt hm
    extract_lets win expected offset lost inWin late a b c mag guard was d e thr
    split
    · exact h
    have ha : PortWork n s a := (h.countReef hn (by decide)).keepWin _ _
    have hc : PortWork n s c := ((ha.putMuster hn hm _ _ rfl).putMuster hn hm _ _ rfl).putMuster hn hm _ _ rfl
    have hd : PortWork n s d := hc.putMuster hn hm _ _ rfl
    have he : PortWork n s e := (hd.ite (hd.raise _ _ _)).ite ((hc.putMuster hn hm _ _ rfl).ite hc)
    have hcorr : ∀ (q : Bool) (node : Nat) (v : Int), PortWork n s (if q then e.queueCorr n node v else (false, e)).2 := by
      intro q node v
      split
      · exact he.queueCorr hn _ _
      · exact he
    split
    next queued z hz =>
    have hz : PortWork n s z := by
      obtain rfl : _ = z := congrArg Prod.snd hz
      exact hcorr _ _ _
    exact (((hz.raise _ _ _).ite hz).musterRecord _ _ _ _ _ _).musterDelta _

theorem PortWork.reefSees (h : PortWork n s x) (hn : n < 48) (w : Wire) (sof t : Tai) (woken : Bool) :
    PortWork n s (x.reefSees n w sof t woken).2 := by
  unfold State.reefSees
  have hm := h.musterReport hn w sof woken
  exact ((hm.idleRestart hn _ _).keeper hn _ _ _).ite hm

/-! ### Transmission (R168, R199) -/

theorem PortWork.loopDelay (h : PortWork n s x) (tdcv : Option Nat) : PortWork n s (x.loopDelay n tdcv) := by
  unfold State.loopDelay
  dsimp only
  split
  · exact (h.putStatus _ _ rfl).ite h
  · exact h

theorem PortWork.originDone (h : PortWork n s x) (hn : n < 48) (f : Frame) (w : Wire) (stamp t : Tai) :
    PortWork n s (x.originDone n f w stamp t) := by
  unfold State.originDone
  split
  · exact (h.idleRestart hn _ _).keeper hn _ _ _
  · dsimp only
    split
    · exact h.parts rfl rfl rfl List.prefix_rfl rfl
    · exact h
  · exact h.setReef _ _
  · exact h

end

end Sys2Proof.Machine

namespace Sys2Proof.Machine

/-! ### A frame is looked up (R112, R183, R184) -/

/-- May a CAN port receive a frame of this kind: it is ACTIVE or PASSIVE, enabled for the kind, and waits after no protocol
exception? -/
structure State.receives (s : State) (n : Nat) (w : Wire) : Prop where
  state : s.canState n = 2 ∨ s.canState n = 3
  kind : w.kind ≤ s.canKind n
  plain : (s.canOf n).excepted = false

section
variable {n port sof16 : Nat} {t : Tai} {s y : State} {w : Wire} {stamp : Tai}

/-- What a frame that begins on a CAN bus leaves: all but the CAN ports' own part. -/
theorem frameBegins_eq (s : State) (n : Nat) : ∃ c, s.frameBegins n = { s with can := c } := by
  unfold State.frameBegins
  split
  · exact ⟨_, rfl⟩
  · exact ⟨s.can, rfl⟩

/-- The arrival of a frame that no route, frame or error has met. -/
def State.arriving (s : State) (w : Wire) (stamp : Tai) : Arrival :=
  { looked := .miss, rejected := false, fid := none, gone := false, wire := w, stamp := stamp, at_ := s.time.now }

theorem startArrival_rejected (hn : n < 48) (h : s.accRejects n w = true) :
    s.startArrival n w stamp = ({ s.arriving w stamp with rejected := true }, s) := if_pos ⟨hn, h⟩

theorem startArrival_looked (h : ¬(port < 48 ∧ s.accRejects port w = true)) :
    s.startArrival port w stamp =
      ({ s.arriving w stamp with looked := s.lookup port none w }, (s.looked port none w).2) := by
  unfold State.startArrival State.looked
  rw [if_neg h]
  cases s.lookup port none w <;> rfl

/-- What a lookup leaves: it counts the hit of the route that it chose. -/
theorem looked_counts (s : State) (port : Nat) (w : Wire) :
    (match s.lookup port none w with
      | .route r => (s.looked port none w).2.reg64 (Reg.FAB_HITj r.index) = (s.reg64 (Reg.FAB_HITj r.index) + 1) % 2 ^ 64 ∧
          s.keepsRegs (s.looked port none w).2 (pair64 (Reg.FAB_HITj r.index))
      | .miss => s.keepsRegs (s.looked port none w).2 []) ∧
    s.keeps (s.looked port none w).2 [] := by
  unfold State.looked
  cases s.lookup port none w with
  | miss => exact ⟨fun _ _ => rfl, State.keeps_refl s⟩
  | route r => exact ⟨⟨State.reg64_count .., State.keepsRegs_count s _ _⟩, State.keeps_count s _ _⟩

/-- The state in which a lookup begins. -/
def State.lookupBegins (s : State) (port : Nat) (t : Tai) : State :=
  if port < 48 then (s.at t).frameBegins port else s.at t

theorem lookupBegins_eq (s : State) (port : Nat) (t : Tai) : ∃ c, s.lookupBegins port t = { s.at t with can := c } := by
  unfold State.lookupBegins
  split
  · exact frameBegins_eq _ _
  · exact ⟨s.can, rfl⟩

/-- The arrival of a port waits for its frame. -/
def State.arrivalKept (s : State) (port : Nat) (a : Arrival) : State :=
  { s with fab := { s.fab with arrivals := SMap.put s.fab.arrivals port a } }

theorem routeLookup_answers (hs : s.up = true) (hport : port < 77) (hr : port < 48 → s.receives port w) {p : State → Prop}
    (hp : let q := (s.lookupBegins port t).startArrival port w (s.stampIn port sof16)
      p ((q.2.arrivalKept port q.1).withQueue s.pending)) :
    answers (exec (.routeLookup port w sof16 t) s) p := by
  refine answers_effect (m := "ROUTE_LOOKUP") hs (decide_eq_true hport) ?_
  have hreceives : ¬(port < 48 ∧ ¬(((s.at t).canState port = 2 ∨ (s.at t).canState port = 3) ∧
      w.kind ≤ (s.at t).canKind port ∧ ((s.at t).canOf port).excepted = false)) := fun ⟨hc, hno⟩ => hno ⟨(hr hc).state, (hr hc).kind, (hr hc).plain⟩
  rw [if_neg hreceives]
  obtain ⟨c, hc⟩ := lookupBegins_eq s port t
  have hstamp : (s.lookupBegins port t).stampIn port sof16 = s.stampIn port sof16 := by rw [hc]; rfl
  rw [← hstamp] at hp
  exact hp

theorem routeLookup_keeps (hs : s.up = true) (hport : port < 77) (hr : port < 48 → s.receives port w) :
    answers (exec (.routeLookup port w sof16 t) s) fun u =>
      let a : Arrival := { looked := .miss, rejected := false, fid := none, gone := false, wire := w,
                           stamp := s.stampIn port sof16, at_ := max s.time.now t }
      if port < 48 ∧ s.accRejects port w = true then
        SMap.look u.fab.arrivals port = some { a with rejected := true } ∧ s.keepsRegs u [] ∧ s.keeps u [.fab, .can]
      else
        SMap.look u.fab.arrivals port = some { a with looked := s.lookup port none w } ∧
          (match s.lookup port none w with
           | .route r => u.reg64 (Reg.FAB_HITj r.index) = (s.reg64 (Reg.FAB_HITj r.index) + 1) % 2 ^ 64 ∧
               s.keepsRegs u (pair64 (Reg.FAB_HITj r.index))
           | .miss => s.keepsRegs u []) ∧ s.keeps u [.fab, .can] := by
  refine routeLookup_answers hs hport hr ?_
  obtain ⟨c, hc⟩ := lookupBegins_eq s port t
  rw [hc]
  have hkeeps : s.keeps { s.at t with can := c } [.fab, .can] := State.keeps_can c (State.keeps.at s t _) (by decide)
  have hfab : ∀ {z : State} {q : List Instr} (a : Arrival), s.keeps z [.fab, .can] →
      s.keeps ((z.arrivalKept port a).withQueue q) [.fab, .can] := fun a hz =>
    (State.keeps_withQueue ..).2 (State.keeps_fab _ hz (by decide))
  dsimp only
  split
  · next hrej =>
    rw [startArrival_rejected (s := { s.at t with can := c }) hrej.1 hrej.2]
    exact ⟨SMap.look_put .., fun _ _ => rfl, hfab _ hkeeps⟩
  · next hrej =>
    rw [startArrival_looked (s := { s.at t with can := c }) hrej]
    obtain ⟨hcounts, hk⟩ := looked_counts { s.at t with can := c } port w
    refine ⟨SMap.look_put .., ?_, hfab _ (State.keeps_back hkeeps hk (by simp))⟩
    exact hcounts

end

end Sys2Proof.Machine

namespace Sys2Proof.Machine

/-! ### The end of a copy (R89-R92, R132)

Where a copy ends, its frame may leave packet memory and its descriptor complete. The queues and the copies in transmission stay,
and of the registers only those of free memory and of the TX rings change. -/

/-- Can the end of a copy not change a register: is it neither that of free memory nor the status of a TX ring? -/
def ringless (o : Nat) : Prop := o % 32 ≠ 24 ∧ o ≠ Reg.FAB_FREE

/-- What the end of a copy leaves; `l`: registers that are watched. -/
structure CopyEnds (l : List Nat) (s u : State) : Prop where
  queues : u.fab.queues = s.fab.queues
  sending : u.fab.sending = s.fab.sending
  out : s.out <+: u.out
  reg : ∀ o ∈ l, u.reg o = s.reg o

theorem CopyEnds.refl (l : List Nat) (s : State) : CopyEnds l s s := ⟨rfl, rfl, List.prefix_rfl, fun _ _ => rfl⟩

section
variable {l : List Nat} {s x y : State}

theorem CopyEnds.trans (h : CopyEnds l s x) (g : CopyEnds l x y) : CopyEnds l s y :=
  ⟨g.queues.trans h.queues, g.sending.trans h.sending, h.out.trans g.out, fun o ho => (g.reg o ho).trans (h.reg o ho)⟩

/-- Other parts of the state and of the fabric may change. -/
theorem CopyEnds.parts (h : CopyEnds l s x) (hq : y.fab.queues = x.fab.queues) (hs : y.fab.sending = x.fab.sending)
    (ho : x.out <+: y.out) (hr : y.regs = x.regs) : CopyEnds l s y :=
  h.trans ⟨hq, hs, ho, fun o _ => State.reg_of_regs hr o⟩

theorem CopyEnds.ite {c : Prop} [Decidable c] (h : CopyEnds l s x) (g : CopyEnds l s y) : CopyEnds l s (if c then x else y) := by
  split <;> assumption

theorem CopyEnds.put (h : CopyEnds l s x) (f : Fld) (v : Nat) (hf : f.off ∉ l) : CopyEnds l s (x.put f v) :=
  h.trans ⟨rfl, rfl, List.prefix_rfl, fun _ ho => State.reg_put _ _ _ _ fun he => hf (by rwa [← he])⟩

theorem CopyEnds.count (h : CopyEnds l s x) (o k : Nat) (ho : o ∉ l) (h4 : o + 4 ∉ l) : CopyEnds l s (x.count o k) :=
  h.trans ⟨rfl, rfl, List.prefix_rfl, fun _ ha =>
    State.reg_count _ _ _ _ (fun he => ho (by rwa [← he])) fun he => h4 (by rwa [← he])⟩

theorem CopyEnds.setReg (h : CopyEnds l s x) (o : Nat) (v : Word) (ho : o ∉ l) : CopyEnds l s (x.setReg o v) :=
  h.trans ⟨rfl, rfl, List.prefix_rfl, fun _ ha => State.reg_setReg_ne _ _ fun he => ho (by rwa [← he])⟩

theorem CopyEnds.foldl {α : Type} {g : State → α → State} (hg : ∀ z a, CopyEnds l s z → CopyEnds l s (g z a))
    (as : List α) (h : CopyEnds l s x) : CopyEnds l s (as.foldl g x) := by
  induction as generalizing x with
  | nil => exact h
  | cons a as ih => exact ih (hg x a h)

theorem CopyEnds.setFrame (h : CopyEnds l s x) (fid : Nat) (f : Frame) : CopyEnds l s (x.setFrame fid f) :=
  h.parts rfl rfl List.prefix_rfl rfl
theorem CopyEnds.gap (h : CopyEnds l s x) (fl : Nat) : CopyEnds l s (x.gap fl) := h.parts rfl rfl List.prefix_rfl rfl
theorem CopyEnds.clearGap (h : CopyEnds l s x) (fl : Nat) : CopyEnds l s (x.clearGap fl) := h.parts rfl rfl List.prefix_rfl rfl
theorem CopyEnds.hif (h : CopyEnds l s x) (u : HostIf) : CopyEnds l s { x with hif := u } := h.parts rfl rfl List.prefix_rfl rfl

theorem CopyEnds.draw (h : CopyEnds l s x) : CopyEnds l s x.draw.2 := h.parts rfl rfl List.prefix_rfl rfl
theorem CopyEnds.halSend (h : CopyEnds l s x) (t : Nat) (e : Bool) (p : Bytes) : CopyEnds l s (x.halSend t e p) :=
  h.parts rfl rfl (List.prefix_append ..) rfl
theorem CopyEnds.fifosEmpty (h : CopyEnds l s x) : CopyEnds l s x.fifosEmpty := by
  unfold State.fifosEmpty
  split
  · exact h.parts rfl rfl List.prefix_rfl rfl
  · exact h

theorem CopyEnds.lose (h : CopyEnds l s x) (fid : Nat) : CopyEnds l s (x.lose fid) := by
  unfold State.lose
  split
  · exact (h.setFrame _ _).gap _
  · exact h

theorem CopyEnds.marker (h : CopyEnds l s x) (f : Frame) (p st : Nat) : CopyEnds l s (x.marker f p st) := by
  unfold State.marker
  exact (h.draw.halSend _ _ _).ite h

section
variable (hl : ∀ o ∈ l, ringless o)
include hl

theorem CopyEnds.release (h : CopyEnds l s x) (fid : Nat) : CopyEnds l s (x.release fid) := by
  unfold State.release
  split
  · exact h
  · exact (h.put Fld.FAB_FREE_BLOCKS _ fun hm => (hl _ hm).2 rfl).fifosEmpty.parts rfl rfl List.prefix_rfl rfl

theorem CopyEnds.hostFinal (h : CopyEnds l s x) (t : HostTag) (st u et ef : Nat) (time : Tai) (flow : Option Nat) (r : Bool) :
    CopyEnds l s (x.hostFinal t st u et ef time flow r) := by
  have hring : (Fld.HIF_TXn_STAT_OUTSTANDING t.ring).off ∉ l := fun hm =>
    (hl _ hm).1 (by simp only [Fld.HIF_TXn_STAT_OUTSTANDING, Reg.HIF_TXn_STAT]; omega)
  unfold State.hostFinal
  extract_lets r live gap c z _ w
  split
  · refine CopyEnds.hif ?_ _
    cases flow with
    | none => exact h
    | some fl => exact h.clearGap fl
  · have hw : CopyEnds l s w := ((h.hif _).put _ _ hring).ite h
    split
    · exact hw
    · exact (hw.clearGap _).hif _

theorem CopyEnds.frameFinal (h : CopyEnds l s x) (fid : Nat) (f : Frame) : CopyEnds l s (x.frameFinal fid f) := by
  unfold State.frameFinal
  extract_lets own y fails _ z w
  have hy : CopyEnds l s y := (h.clearGap _).ite h
  have hz : CopyEnds l s z := by
    unfold z
    clear_value fails
    split
    · exact hy
    · dsimp only
      split
      · exact hy.draw.hostFinal hl _ _ _ _ _ _ _ _
      · exact hy.hostFinal hl _ _ _ _ _ _ _ _
  exact ((hz.gap _).ite hz).release hl _

theorem CopyEnds.copyFinal (h : CopyEnds l s x) (fid p st : Nat) (t : Tai) (lost : Bool) :
    CopyEnds l s (x.copyFinal fid p st t lost) := by
  unfold State.copyFinal
  extract_lets y
  have hy : CopyEnds l s y := (h.lose _).ite h
  split
  · exact hy
  · extract_lets m _ r g
    have hr : CopyEnds l s r := CopyEnds.ite ((hy.marker _ _ _).parts rfl rfl List.prefix_rfl rfl) (hy.marker _ _ _)
    exact (hr.frameFinal hl _ _).ite (hr.setFrame _ _)

/-- A dropped copy counts at its port besides. -/
theorem CopyEnds.dropCopy (hlow : ∀ o ∈ l, o < 0x43000) (h : CopyEnds l s x) (c : Copy) (k st : Nat) :
    CopyEnds l s (x.dropCopy c k st) := by
  have hk : Reg.FAB_PCNTp_k c.port k ∉ l ∧ Reg.FAB_PCNTp_k c.port k + 4 ∉ l :=
    ⟨fun hm => absurd (hlow _ hm) (by unfold Reg.FAB_PCNTp_k; omega),
      fun hm => absurd (hlow _ hm) (by unfold Reg.FAB_PCNTp_k; omega)⟩
  exact (h.count _ _ hk.1 hk.2 : CopyEnds l s (x.countPort c.port k)).copyFinal hl _ _ _ _ _

end

end

/-! ### A port's queue and its copy in transmission -/

section
variable {s : State} {n cls : Nat}

@[simp] theorem fab_showQueues (s : State) (p : Nat) : (s.showQueues p).fab = s.fab := by
  unfold State.showQueues
  dsimp only
  rw [State.put_fab, State.put_fab, State.put_fab]

@[simp] theorem out_showQueues (s : State) (p : Nat) : (s.showQueues p).out = s.out := by
  unfold State.showQueues
  dsimp only
  rw [State.put_out, State.put_out, State.put_out]

theorem keeps_showQueues (s : State) (p : Nat) : s.keeps (s.showQueues p) [] := by
  unfold State.showQueues
  dsimp only
  exact ((State.keeps_put s (Fld.FAB_QSTATp_NONEMPTY p) _).put _ _).put _ _

theorem queue_setQueue (s : State) (p c : Nat) (q : List Copy) : (s.setQueue p c q).queue p c = q := by
  unfold State.setQueue State.queue
  rw [fab_showQueues]
  exact (SMap.get_set ..).trans (if_pos rfl)

theorem keepsRegs_setQueue (s : State) (p c : Nat) (q : List Copy) : s.keepsRegs (s.setQueue p c q) [Reg.FAB_QSTATp p] :=
  fun o ho => keepsRegs_showQueues _ p o ho

theorem keepsRegs_setSending (s : State) (p : Nat) (c : Option Copy) : s.keepsRegs (s.setSending p c) [Reg.FAB_QSTATp p] :=
  fun o ho => keepsRegs_showQueues _ p o ho

theorem keeps_fabShown (s : State) (u : Fabric) (p : Nat) : s.keeps ({ s with fab := u }.showQueues p) [.fab] :=
  State.keeps_back (State.keeps_fab u (State.keeps_mono (State.keeps_refl s) (by simp)) (by decide)) (keeps_showQueues _ p)
    (by simp)

theorem keeps_setQueue (s : State) (p c : Nat) (q : List Copy) : s.keeps (s.setQueue p c q) [.fab] := keeps_fabShown s _ p
theorem keeps_setSending (s : State) (p : Nat) (c : Option Copy) : s.keeps (s.setSending p c) [.fab] := keeps_fabShown s _ p

theorem frames_setSending (s : State) (p : Nat) (c : Option Copy) : (s.setSending p c).fab.frames = s.fab.frames := by
  unfold State.setSending
  dsimp only
  rw [fab_showQueues]

theorem out_setQueue (s : State) (p c : Nat) (q : List Copy) : (s.setQueue p c q).out = s.out := out_showQueues _ p

theorem out_setSending (s : State) (p : Nat) (c : Option Copy) : (s.setSending p c).out = s.out := out_showQueues _ p

theorem queue_setSending (s : State) (p : Nat) (c : Option Copy) (m k : Nat) : (s.setSending p c).queue m k = s.queue m k := by
  unfold State.setSending State.queue
  dsimp only
  rw [fab_showQueues]

theorem sending_setSending_some (s : State) (p : Nat) (c : Copy) : (s.setSending p (some c)).sending p = some c := by
  unfold State.setSending State.sending
  dsimp only
  rw [fab_showQueues]
  exact SMap.look_put ..

theorem SMap.look_del {α : Type} (m : List (Nat × α)) (k : Nat) : SMap.look (SMap.del m k) k = none := by
  unfold SMap.look SMap.del
  rw [List.find?_eq_none.2 fun e he => by simpa using (List.mem_filter.1 he).2]
  rfl

theorem sending_setSending_none (s : State) (p : Nat) : (s.setSending p none).sending p = none := by
  unfold State.setSending State.sending
  dsimp only
  rw [fab_showQueues]
  exact SMap.look_del ..

/-! ### CAN_TX_START (R128, R132, R186) -/

/-- What stands after a copy was put into transmission. -/
structure Started (s u : State) (n cls : Nat) (c : Copy) : Prop where
  sending : u.sending n = some c
  queue : u.queue n cls = (s.queue n cls).drop 1
  out : u.out = s.out
  regs : s.keepsRegs u [Reg.FAB_QSTATp n]
  keeps : s.keeps u [.fab, .mgt]

theorem started_startCopy (s : State) (n cls : Nat) (c : Copy) : Started s (s.startCopy n cls c) n cls c := by
  have hq := queue_setQueue s n cls ((s.queue n cls).drop 1)
  have hregs := State.keepsRegs_back (keepsRegs_setQueue s n cls ((s.queue n cls).drop 1)) (keepsRegs_setSending _ n (some c))
    fun _ ho => ho
  have hkeeps := State.keeps_back (keeps_setQueue s n cls ((s.queue n cls).drop 1)) (keeps_setSending _ n (some c))
    fun _ ho => ho
  have hstart : Started s ((s.setQueue n cls ((s.queue n cls).drop 1)).setSending n (some c)) n cls c :=
    { sending := sending_setSending_some ..
      queue := (queue_setSending ..).trans hq
      out := (out_setSending ..).trans (out_setQueue ..)
      regs := hregs
      keeps := State.keeps_mono hkeeps (by simp) }
  unfold State.startCopy
  dsimp only
  split
  · exact hstart
  · have hfab := State.observePort_fab ((s.setQueue n cls ((s.queue n cls).drop 1)).setSending n (some c)) n
    exact
      { sending := (congrArg (fun x : Fabric => SMap.look x.sending n) hfab).trans hstart.sending
        queue := (congrArg (fun x : Fabric => SMap.get [] x.queues (8 * n + cls)) hfab).trans hstart.queue
        out := (State.observePort_out ..).trans hstart.out
        regs := State.keepsRegs.same hstart.regs (State.observePort_regs ..)
        keeps := State.keeps_back hstart.keeps (State.keeps_observePort _ n) (by simp) }

/-- What stands after a queue's reset. -/
structure QueueEmptied (s u : State) (n cls : Nat) : Prop where
  queue : u.queue n cls = []
  sending : u.sending n = s.sending n
  counts : u.reg64 Reg.FAB_QRESET_CNT = (s.reg64 Reg.FAB_QRESET_CNT + (s.queue n cls).length) % 2 ^ 64
  told : u.told 0x0503 (unitOf 1 n) [n4 n, n4 cls, n4 (s.queue n cls).length]

theorem queueEmptied_queueReset (hn : n < 77) (hs : s.sending n = none) : QueueEmptied s (s.queueReset n cls) n cls := by
  have hlow : ∀ o ∈ pair64 Reg.FAB_QRESET_CNT, ringless o ∧ o < 0x40060 := by unfold ringless; decide
  have hlast : s.lastTry n cls = s := by
    unfold State.lastTry
    rw [hs]
  unfold State.queueReset
  rw [hlast]
  extract_lets q len _ z x y w
  have hz : CopyEnds (pair64 Reg.FAB_QRESET_CNT) s z := by
    unfold z
    split
    · exact .refl _ _
    · split
      · exact .refl _ _
      · refine CopyEnds.foldl (fun v e hv => hv.setReg _ _ fun hm => absurd (hlow _ hm).2 ?_) _ (.refl _ _)
        unfold Reg.FAB_LAST_DISCARDk
        omega
  have hxz : CopyEnds (pair64 Reg.FAB_QRESET_CNT) x y :=
    CopyEnds.foldl (fun v c hv => hv.dropCopy (fun o ho => (hlow o ho).1)
      (fun o ho => lt_trans (hlow o ho).2 (by decide)) c _ _) _ (.refl _ _)
  have hx : ∀ o ∈ pair64 Reg.FAB_QRESET_CNT, x.reg o = z.reg o := fun o ho =>
    keepsRegs_setQueue z n cls [] o (by
      simp only [pair64, Reg.FAB_QRESET_CNT, Reg.FAB_QSTATp, List.mem_cons, List.not_mem_nil, or_false] at ho ⊢
      omega)
  have hreg : y.reg64 Reg.FAB_QRESET_CNT = s.reg64 Reg.FAB_QRESET_CNT := by
    have hr : ∀ o ∈ pair64 Reg.FAB_QRESET_CNT, y.reg o = s.reg o := fun o ho =>
      (hxz.reg o ho).trans ((hx o ho).trans (hz.reg o ho))
    unfold State.reg64
    rw [hr _ (by simp [pair64]), hr _ (by simp [pair64])]
  have hfab : ((w.raise 0x0503 (unitOf 1 n) [n4 n, n4 cls, n4 len]).fab : Fabric) = y.fab := State.raise_fab ..
  refine { queue := ?_, sending := ?_, counts := ?_, told := State.told_raise .. }
  · have hq : y.queue n cls = [] := (congrArg (fun m => SMap.get [] m (8 * n + cls)) hxz.queues).trans (queue_setQueue z n cls [])
    exact (congrArg (fun x : Fabric => SMap.get [] x.queues (8 * n + cls)) hfab).trans hq
  · exact (congrArg (fun x : Fabric => SMap.look x.sending n) hfab).trans
      (congrArg (fun m => SMap.look m n) (hxz.sending.trans hz.sending))
  · have hraise := (State.keepsRegs_raise w 0x0503 (unitOf 1 n) [n4 n, n4 cls, n4 len]).reg64 (o := Reg.FAB_QRESET_CNT) (by decide)
      (by decide)
    exact hraise.trans ((State.reg64_count ..).trans (by rw [hreg]))

/-- May a CAN port start a copy (R186)? -/
structure State.mayStart (s : State) (n : Nat) : Prop where
  drives : s.canDrives n = true
  plain : (s.canOf n).excepted = false
  free : s.sending n = none
  holds : s.hal.yielding = false
  powered : s.domain (domainOf n) ≠ 4

variable {t : Tai} {fault : Bool} {c : Copy}

theorem answers_canTxStart (hs : s.up = true) (hn : n < 48) {p : State → Prop}
    (hp : p (((s.at t).canTxStart n fault).withQueue s.pending)) : answers (exec (.canTxStart n fault t) s) p :=
  answers_effect (m := "CAN_TX_START") hs (decide_eq_true hn) hp

theorem canTxStart_silent (h : s.canDrives n = false ∨ (s.canOf n).excepted = true) : s.canTxStart n fault = s := by
  refine if_neg fun ⟨hd, he, _⟩ => ?_
  rcases h with h | h
  · exact Bool.false_ne_true (h.symm.trans hd)
  · exact Bool.false_ne_true (he.symm.trans h)

theorem canTxStart_faulty (h : s.mayStart n) (hp : s.pick n = some (cls, c)) : s.canTxStart n true = s.queueReset n cls := by
  unfold State.canTxStart
  rw [if_pos ⟨h.drives, h.plain, by rw [h.free]; rfl, h.holds, h.powered⟩, hp]
  rfl

theorem canTxStart_starts (h : s.mayStart n) (hp : s.pick n = some (cls, c)) (hw : s.txWakeAllows n c = true) :
    s.canTxStart n false = ((s.frameBegins n).startCopy n cls { c with attempts := c.attempts + 1 }).emit
      (.frameStart n (s.onBus n c.wire) false) := by
  have honBus : (s.frameBegins n).onBus n c.wire = s.onBus n c.wire := by
    obtain ⟨x, hx⟩ := frameBegins_eq s n
    rw [hx]
    rfl
  unfold State.canTxStart
  rw [if_pos ⟨h.drives, h.plain, by rw [h.free]; rfl, h.holds, h.powered⟩, hp]
  dsimp only
  rw [if_neg Bool.false_ne_true, if_pos hw]

theorem canTxStart_leaves (hs : s.up = true) (hn : n < 48) (h : s.canDrives n = false ∨ (s.canOf n).excepted = true) :
    answers (exec (.canTxStart n fault t) s) fun u => u.out = [] ∧ s.keepsRegs u [] ∧ s.keeps u [] := by
  refine answers_canTxStart hs hn ?_
  rw [canTxStart_silent (s := s.at t) h]
  exact unchanged_at s t s.pending

theorem canTxStart_sends (hs : s.up = true) (hn : n < 48) (h : s.mayStart n) (hp : s.pick n = some (cls, c))
    (hw : s.txWakeAllows n c = true) : answers (exec (.canTxStart n false t) s) fun u =>
      u.sending n = some { c with attempts := c.attempts + 1 } ∧ u.queue n cls = (s.queue n cls).drop 1 ∧
        u.out = [.frameStart n (s.onBus n c.wire) false] ∧ s.keepsRegs u [Reg.FAB_QSTATp n] ∧ s.keeps u [.fab, .can, .mgt] := by
  refine answers_canTxStart hs hn ?_
  rw [canTxStart_starts (s := s.at t) ⟨h.drives, h.plain, h.free, h.holds, h.powered⟩ hp hw]
  obtain ⟨x, hx⟩ := frameBegins_eq (s.at t) n
  have hstart := started_startCopy ((s.at t).frameBegins n) n cls { c with attempts := c.attempts + 1 }
  generalize ((s.at t).frameBegins n).startCopy n cls { c with attempts := c.attempts + 1 } = z at *
  rw [hx] at hstart
  have hkeeps : s.keeps { s.at t with can := x } [.can] := State.keeps_can x (State.keeps.at s t _) (by decide)
  refine ⟨hstart.sending, hstart.queue, ?_, hstart.regs, ?_⟩
  · exact congrArg (· ++ [Output.frameStart n (s.onBus n c.wire) false]) hstart.out
  · exact (State.keeps_withQueue ..).2 (State.keeps_back (State.keeps_back (State.keeps_mono hkeeps (by simp))
      (State.keeps_mono hstart.keeps (by simp)) fun _ h => h) (State.keeps_emit z _) (by simp))

theorem canTxStart_resets (hs : s.up = true) (hn : n < 48) (h : s.mayStart n) (hp : s.pick n = some (cls, c)) :
    answers (exec (.canTxStart n true t) s) fun u => u.queue n cls = [] ∧ u.sending n = none ∧
      u.reg64 Reg.FAB_QRESET_CNT = (s.reg64 Reg.FAB_QRESET_CNT + (s.queue n cls).length) % 2 ^ 64 ∧
      u.told 0x0503 (unitOf 1 n) [n4 n, n4 cls, n4 (s.queue n cls).length] := by
  refine answers_canTxStart hs hn ?_
  rw [canTxStart_faulty (s := s.at t) ⟨h.drives, h.plain, h.free, h.holds, h.powered⟩ hp]
  have hreset := queueEmptied_queueReset (s := s.at t) (cls := cls) (by omega : n < 77) h.free
  exact ⟨hreset.queue, hreset.sending.trans h.free, hreset.counts, hreset.told⟩

end

end Sys2Proof.Machine

namespace Sys2Proof.Machine

/-! ### The last copy of a host frame ends (R89, R92) -/

section
variable {s x : State} {n fid : Nat} {f : Frame} {h : HostTag} {stamp : Tai}

theorem hif_fifosEmpty (s : State) : s.fifosEmpty.hif = s.hif := by
  unfold State.fifosEmpty
  split <;> rfl

/-- A frame that leaves packet memory leaves the host interface. -/
theorem hif_release (s : State) (fid : Nat) : (s.release fid).hif = s.hif := by
  unfold State.release
  split
  · rfl
  · exact (hif_fifosEmpty _).trans (State.put_hif ..)

theorem frame?_release (s : State) (fid : Nat) : (s.release fid).frame? fid = none := by
  unfold State.release
  split
  · assumption
  · exact SMap.look_del _ _

theorem hif_marker (s : State) (f : Frame) (p st : Nat) : (s.marker f p st).hif = s.hif := by
  unfold State.marker
  split <;> rfl

/-- A descriptor that completes carries the time of its outcome. -/
theorem hostFinal_stamps (hc : h.cmpl = true) (hg : h.gen = (s.txRing h.ring).gen) (hd : (s.txRing h.ring).dead = false)
    (status unit total fails : Nat) (time : Tai) (fl : Nat) (replay : Bool) :
    ∃ c : Completion, s.hostFinal h status unit total fails time (some fl) replay = (s.clearGap fl).completed c ∧
      c.tells h.ring h.tag status ∧ c.time = time := by
  have hlive : (h.cmpl && h.gen == (s.txRing h.ring).gen && !(s.txRing h.ring).dead) = true := by simp [hc, hg, hd]
  unfold State.hostFinal
  dsimp only
  rw [if_pos hlive]
  exact ⟨_, rfl, ⟨rfl, rfl, rfl⟩, rfl⟩

/-- The descriptor of a frame wants a completion, and was fetched since its ring's last enable, on which no fault has struck. -/
structure State.owesFrame (s : State) (f : Frame) (h : HostTag) : Prop where
  host : f.host = some h
  cmpl : h.cmpl = true
  gen : h.gen = (s.txRing h.ring).gen
  dead : (s.txRing h.ring).dead = false

theorem State.owesFrame.of_hif (hs : s.owesFrame f h) (hx : x.hif.tx = s.hif.tx) {g : Frame} (hg : g.host = f.host) :
    x.owesFrame g h :=
  have hr := txRing_of_hif hx h.ring
  ⟨hg.trans hs.host, hs.cmpl, by rw [hr]; exact hs.gen, by rw [hr]; exact hs.dead⟩

/-- A host frame has left packet memory with a completion that tells OK and a stamp. -/
structure CompletedAt (u : State) (fid : Nat) (h : HostTag) (stamp : Tai) : Prop where
  frame : u.frame? fid = none
  told : ∃ e ∈ u.hif.finals, e.ring = h.ring ∧ e.status = 0 ∧ e.tag = h.tag ∧ e.time = stamp

/-- A frame whose copies all went out completes with OK and the stamp of its first. -/
theorem completedAt_frameFinal (hs : s.owesFrame f h) {o : CopyOutcome} (hdone : f.done = [o]) (ho : o.status = 0) :
    CompletedAt (s.frameFinal fid f) fid h o.stamp := by
  have hfails : f.done.filter (fun o => o.status != 0) = [] := by rw [hdone]; simp [ho]
  unfold State.frameFinal
  extract_lets own y fails first z w
  have hfirst : first = o := by
    unfold first
    rw [hdone]
    rfl
  have hy : y.hif = s.hif := by
    unfold y
    split <;> rfl
  have hz : ∃ e ∈ z.hif.finals, e.ring = h.ring ∧ e.status = 0 ∧ e.tag = h.tag ∧ e.time = o.stamp := by
    have howes : y.owesFrame f h := hs.of_hif (by rw [hy]) rfl
    have hz : z = y.hostFinal h 0 (unitOf 1 o.port) f.total 0 o.stamp (some f.flow) f.replay := by
      unfold z fails
      rw [hs.host]
      dsimp only
      rw [hfails]
      exact congrArg (fun q : CopyOutcome => y.hostFinal h 0 (unitOf 1 q.port) f.total 0 q.stamp (some f.flow) f.replay) hfirst
    obtain ⟨c, heq, htells, htime⟩ := hostFinal_stamps howes.cmpl howes.gen howes.dead 0 (unitOf 1 o.port) f.total 0 o.stamp
      f.flow f.replay
    rw [hz, heq]
    exact ⟨c, List.mem_append_right _ (.head _), htells.ring, htells.status, htells.tag, htime⟩
  have hw : w.hif = z.hif := by
    unfold w
    split <;> rfl
  exact ⟨frame?_release w fid, by rw [hif_release, hw]; exact hz⟩

/-- The only copy of a host frame went out. -/
theorem completedAt_copyFinal (hs : s.owesFrame f h) (hf : s.frame? fid = some f) (ho : f.opened = [n]) (hd : f.done = [])
    (ha : f.auth ≠ 3) : CompletedAt (s.copyFinal fid n 0 stamp false) fid h stamp := by
  unfold State.copyFinal
  dsimp only
  rw [if_neg Bool.false_ne_true, hf]
  dsimp only
  have hnotWake : ¬(f.origin = .wakeFrame ∧ 0 ≠ 0) := fun ⟨_, hne⟩ => hne rfl
  rw [if_neg hnotWake, ho, hd, if_pos ⟨by simp, ha⟩]
  refine completedAt_frameFinal (o := { port := n, status := 0, stamp := stamp }) ?_ ?_ rfl
  · exact hs.of_hif (by rw [hif_marker s f n 0]) rfl
  · rfl

end

/-! ### CAN_TX_COMPLETE (R165, R180) -/

section
variable {s x y : State} {n : Nat} {c : Copy} {stamp t : Tai} {tdcv : Option Nat}

/-- A port's transmission is over: it is free, and its fabric port counts the frame. -/
def State.sendingOver (s : State) (n : Nat) : State :=
  (((s.setSending n none).countPort n 1).emit (.frameEnd n false)).frameBegins n

/-- A port's attempt has succeeded: TEC is one less unless it is frozen. -/
def State.attemptEnds (s : State) (n : Nat) (tdcv : Option Nat) : State :=
  let y := (s.loopDelay n tdcv).sendingOver n
  if y.frozen n then y else y.setTec n (y.get (Fld.CANP_ECNT_TEC n) - 1)

/-- What the port and the frame's origin see of a frame that went out. -/
def State.sentSeen (s : State) (n : Nat) (c : Copy) (stamp eof t : Tai) : State :=
  let s := ((s.errorState n).canPair n stamp eof).2
  let s := s.setCan n { s.canOf n with noRetry := false }
  let s := match s.frame? c.fid with
    | some f => s.originDone n f c.wire stamp t
    | none => s
  match s.raOf c.fid with
  | some x => if c.ahead then s.setRa c.fid { x with completed := x.completed ++ [n] } else s
  | none => s

theorem PortWork.sentSeen (h : PortWork n s x) (hn : n < 48) (htec : s.get (Fld.CANP_ECNT_TEC n) ≤ 255) (c : Copy)
    (stamp eof t : Tai) : PortWork n s (x.sentSeen n c stamp eof t) := by
  unfold State.sentSeen
  extract_lets y _ z w
  have hz : PortWork n s z := ((h.errorState htec).canPair _ _ _).setCan _ _
  have hw : PortWork n s w := by
    unfold w
    split
    · exact hz.originDone hn _ _ _ _
    · exact hz
  split
  · split
    · exact hw.parts rfl rfl rfl List.prefix_rfl rfl
    · exact hw
  · exact hw

/-- The end of an attempt, what it shows and the end of its copy, one after the other. -/
theorem canTxDone_eq (h : s.sending n = some c) (sof16 eof16 : Nat) : ∃ eof,
    s.canTxDone n sof16 eof16 tdcv t = (((s.attemptEnds n tdcv).sentSeen n c (s.stampOut n sof16) eof t).copyFinal c.fid n 0
      (s.stampOut n sof16) false).frameEnds n := by
  unfold State.canTxDone
  rw [h]
  exact ⟨_, rfl⟩

/-- What stands after an attempt that succeeded. -/
structure AttemptEnded (s u : State) (n : Nat) : Prop where
  sending : u.sending n = none
  out : Output.frameEnd n false ∈ u.out
  counts : u.reg64 (Reg.FAB_PCNTp_k n 1) = (s.reg64 (Reg.FAB_PCNTp_k n 1) + 1) % 2 ^ 64
  tec : u.get (Fld.CANP_ECNT_TEC n) =
    if s.frozen n then s.get (Fld.CANP_ECNT_TEC n) else s.get (Fld.CANP_ECNT_TEC n) - 1

theorem AttemptEnded.same {u : State} (h : AttemptEnded s x n) (hs : u.sending n = x.sending n) (ho : x.out <+: u.out)
    (hc : u.reg64 (Reg.FAB_PCNTp_k n 1) = x.reg64 (Reg.FAB_PCNTp_k n 1))
    (ht : u.get (Fld.CANP_ECNT_TEC n) = x.get (Fld.CANP_ECNT_TEC n)) : AttemptEnded s u n :=
  ⟨hs.trans h.sending, ho.subset h.out, hc.trans h.counts, ht.trans h.tec⟩

theorem not_portNoise_portCount (hn : n < 48) {k : Nat} (hk : k < 16) :
    ∀ a ∈ pair64 (Reg.FAB_PCNTp_k n k), ¬ portNoise n a := by
  intro a ha
  simp only [pair64, List.mem_cons, List.not_mem_nil, or_false, Reg.FAB_PCNTp_k] at ha
  unfold portNoise Reg.CANP_STATUS Reg.CANP_ECNT Reg.FAB_QSTATp Reg.NVM_CNTk
  omega

theorem PortWork.portCount (h : PortWork n x y) (hn : n < 48) {k : Nat} (hk : k < 16) :
    y.reg64 (Reg.FAB_PCNTp_k n k) = x.reg64 (Reg.FAB_PCNTp_k n k) :=
  h.reg64 (not_portNoise_portCount hn hk _ (.head _)) (not_portNoise_portCount hn hk _ (.tail _ (.head _)))

theorem AttemptEnded.work {u : State} (h : AttemptEnded s x n) (hn : n < 48) (hw : PortWork n x u) : AttemptEnded s u n :=
  h.same (congrArg (fun x : Fabric => SMap.look x.sending n) hw.fab) hw.out (hw.portCount hn (by decide)) hw.tec

theorem AttemptEnded.copyFinal (h : AttemptEnded s x n) (fid st : Nat) (t : Tai) (lost : Bool) :
    AttemptEnded s (x.copyFinal fid n st t lost) n := by
  have hl : ∀ o ∈ Reg.CANP_ECNT n :: pair64 (Reg.FAB_PCNTp_k n 1), ringless o := by
    intro o ho
    simp only [pair64, List.mem_cons, List.not_mem_nil, or_false, Reg.FAB_PCNTp_k, Reg.CANP_ECNT] at ho
    unfold ringless Reg.FAB_FREE
    omega
  have hend := (CopyEnds.refl _ x).copyFinal hl fid n st t lost
  refine h.same (congrArg (fun m => SMap.look m n) hend.sending) hend.out ?_ (State.get_of_reg (hend.reg _ (.head _)))
  unfold State.reg64
  rw [hend.reg _ (.tail _ (.head _)), hend.reg _ (.tail _ (.tail _ (.head _)))]

/-- What stands when a transmission is over. -/
structure SendingOver (s u : State) (n : Nat) : Prop where
  sending : u.sending n = none
  out : Output.frameEnd n false ∈ u.out
  counts : u.reg64 (Reg.FAB_PCNTp_k n 1) = (s.reg64 (Reg.FAB_PCNTp_k n 1) + 1) % 2 ^ 64
  frames : u.fab.frames = s.fab.frames
  core : u.hifCore = s.hifCore
  live : u.live = s.live
  regs : s.keepsRegs u (Reg.FAB_QSTATp n :: pair64 (Reg.FAB_PCNTp_k n 1))

theorem sendingOver_sendingOver (s : State) (n : Nat) : SendingOver s (s.sendingOver n) n := by
  have hq : ∀ {o : Nat}, o ∈ pair64 (Reg.FAB_PCNTp_k n 1) → o ∉ [Reg.FAB_QSTATp n] := fun ho => by
    simp only [pair64, List.mem_cons, List.not_mem_nil, or_false, Reg.FAB_PCNTp_k, Reg.FAB_QSTATp] at ho ⊢
    omega
  have hreg64 := (keepsRegs_setSending s n none).reg64 (hq (.head _)) (hq (.tail _ (.head _)))
  have hsending := sending_setSending_none s n
  have hframes := frames_setSending s n none
  have hkeeps := keeps_setSending s n none
  have hregs := keepsRegs_setSending s n none
  unfold State.sendingOver
  generalize s.setSending n none = z at *
  obtain ⟨c, hc⟩ := frameBegins_eq ((z.countPort n 1).emit (.frameEnd n false)) n
  have hcount := State.keepsRegs_count z (Reg.FAB_PCNTp_k n 1) 1
  rw [hc]
  exact
    { sending := hsending
      out := List.mem_append_right _ (.head _)
      counts := (State.reg64_count ..).trans (by rw [hreg64])
      frames := hframes
      core := (congrArg (fun x : HostIf => { x with rx := [] }) (hkeeps .hif (by decide)) :)
      live := hkeeps .live (by decide)
      regs := State.keepsRegs_back (State.keepsRegs_mono hregs (by simp)) hcount (by simp [pair64]) }

theorem frozen_of_regs {u : State} (hl : u.live = s.live) (hr : u.reg Reg.HAL_STATUS = s.reg Reg.HAL_STATUS) :
    u.frozen n = s.frozen n := by
  unfold State.frozen State.on State.cur State.claimed
  rw [State.liveReg_of_live hl, State.get_of_reg (f := Fld.HAL_STATUS_CLAIMED) hr]

/-- An attempt that has succeeded leaves the frames, and the host interface beside its RX rings. -/
structure AttemptLeaves (s u : State) : Prop where
  frames : u.fab.frames = s.fab.frames
  core : u.hifCore = s.hifCore

theorem attemptEnded_attemptEnds (hn : n < 48) (tdcv : Option Nat) (htec : s.get (Fld.CANP_ECNT_TEC n) ≤ 255) :
    AttemptEnded s (s.attemptEnds n tdcv) n ∧ AttemptLeaves s (s.attemptEnds n tdcv) := by
  have hloop := (PortWork.refl n s).loopDelay tdcv
  have hover := sendingOver_sendingOver (s.loopDelay n tdcv) n
  unfold State.attemptEnds
  generalize s.loopDelay n tdcv = x at *
  generalize x.sendingOver n = y at *
  have hcounts : y.reg64 (Reg.FAB_PCNTp_k n 1) = (s.reg64 (Reg.FAB_PCNTp_k n 1) + 1) % 2 ^ 64 := by
    rw [hover.counts, hloop.portCount hn (by decide)]
  have hy : y.get (Fld.CANP_ECNT_TEC n) = s.get (Fld.CANP_ECNT_TEC n) :=
    (hover.regs.get (by
      simp only [pair64, List.mem_cons, List.not_mem_nil, or_false, Fld.CANP_ECNT_TEC, Reg.CANP_ECNT, Reg.FAB_QSTATp,
        Reg.FAB_PCNTp_k]
      omega)).trans hloop.tec
  have hfrozen : y.frozen n = s.frozen n := by
    refine frozen_of_regs (hover.live.trans hloop.live) ((hover.regs _ ?_).trans (hloop.reg _ ?_))
    · simp only [pair64, List.mem_cons, List.not_mem_nil, or_false, Reg.HAL_STATUS, Reg.FAB_QSTATp, Reg.FAB_PCNTp_k]
      omega
    · unfold portNoise Reg.CANP_STATUS Reg.CANP_ECNT Reg.FAB_QSTATp Reg.NVM_CNTk Reg.HAL_STATUS
      omega
  have hleaves : AttemptLeaves s y := ⟨hover.frames.trans (congrArg Fabric.frames hloop.fab), hover.core.trans hloop.core⟩
  dsimp only
  rw [hfrozen]
  split
  · next hf => exact ⟨⟨hover.sending, hover.out, hcounts, by rw [hy, if_pos hf]⟩, hleaves⟩
  · next hf =>
    rw [hy]
    have hput : ∀ o ∈ pair64 (Reg.FAB_PCNTp_k n 1), (y.setTec n (s.get (Fld.CANP_ECNT_TEC n) - 1)).reg o = y.reg o :=
      fun o ho => State.reg_put _ _ _ _ (by
        simp only [pair64, List.mem_cons, List.not_mem_nil, or_false, Reg.FAB_PCNTp_k] at ho
        simp only [Fld.CANP_ECNT_TEC, Reg.CANP_ECNT]
        omega)
    refine ⟨⟨hover.sending, hover.out, ?_, ?_⟩, ⟨hleaves.frames, hleaves.core⟩⟩
    · rw [← hcounts]
      unfold State.reg64
      rw [hput _ (.head _), hput _ (.tail _ (.head _))]
    · rw [if_neg hf]
      exact State.get_put_fit _ _ _ (by simp [Fld.CANP_ECNT_TEC]) (by simp [Fld.CANP_ECNT_TEC])
        (by show s.get (Fld.CANP_ECNT_TEC n) - 1 < 2 ^ 9; omega)

theorem AttemptEnded.tec_le {u : State} (h : AttemptEnded s u n) (htec : s.get (Fld.CANP_ECNT_TEC n) ≤ 255) :
    u.get (Fld.CANP_ECNT_TEC n) ≤ 255 := by
  rw [h.tec]
  split <;> omega

/-- What CAN_TX_COMPLETE leaves of an attempt, and of the host frame whose only copy it was. -/
theorem canTxDone_ends (hn : n < 48) (h : s.sending n = some c) (htec : s.get (Fld.CANP_ECNT_TEC n) ≤ 255) (sof16 eof16 : Nat)
    (tdcv : Option Nat) (t : Tai) :
    let u := s.canTxDone n sof16 eof16 tdcv t
    AttemptEnded s u n ∧ ∀ (f : Frame) (h : HostTag), s.frame? c.fid = some f → s.owesFrame f h → f.opened = [n] →
      f.done = [] → f.auth ≠ 3 → CompletedAt u c.fid h (s.stampOut n sof16) := by
  obtain ⟨eof, heq⟩ := canTxDone_eq h sof16 eof16 (tdcv := tdcv) (t := t)
  dsimp only
  rw [heq]
  obtain ⟨hended, hleaves⟩ := attemptEnded_attemptEnds hn tdcv htec
  have hseen := (PortWork.refl n _).sentSeen hn (hended.tec_le htec) c (s.stampOut n sof16) eof t
  generalize s.stampOut n sof16 = stamp at *
  generalize s.attemptEnds n tdcv = y at *
  generalize y.sentSeen n c stamp eof t = z at *
  have hends := (PortWork.refl n (z.copyFinal c.fid n 0 stamp false)).frameEnds
  refine ⟨((hended.work hn hseen).copyFinal ..).work hn hends, fun f h hf howes hopened hdone hauth => ?_⟩
  have hframe : z.frame? c.fid = some f := by
    unfold State.frame?
    rw [hseen.fab, hleaves.frames]
    exact hf
  have howes : z.owesFrame f h := howes.of_hif (congrArg HostIf.tx (hseen.core.trans hleaves.core) :) rfl
  obtain ⟨hgone, htold⟩ := completedAt_copyFinal (stamp := stamp) howes hframe hopened hdone hauth
  refine ⟨?_, by rw [hends.finals]; exact htold⟩
  unfold State.frame? at hgone ⊢
  rw [hends.fab, hgone]

end

end Sys2Proof.Machine

namespace Sys2Proof.Machine

/-! ### A frame of a port is admitted (R126, R130, R131) -/

section
variable {s y z : State} {i : Inbound} {r : Route} {p n : Nat}

/-- A frame with room in its queue reaches its port as one of the host's does, for which there is no limit. -/
theorem place_of_room {c : Copy} {f : Frame} (h : s.queueLen c.port f.cls < s.cur (Fld.FAB_QCFGp_c_DEPTH c.port f.cls)) :
    s.place c f true = s.place c { f with ingress := 78 } true := by
  have hroom : ¬(true = true ∧ f.ingress ≠ 78 ∧ s.cur (Fld.FAB_QCFGp_c_DEPTH c.port f.cls) ≤ s.queueLen c.port f.cls) :=
    fun ⟨_, _, hd⟩ => absurd hd (by omega)
  have hhost : ¬(true = true ∧ 78 ≠ 78 ∧ s.cur (Fld.FAB_QCFGp_c_DEPTH c.port f.cls) ≤ s.queueLen c.port f.cls) :=
    fun ⟨_, hi, _⟩ => hi rfl
  unfold State.place
  dsimp only
  rw [if_neg hroom, if_neg hhost]

/-- A frame of any port waits last in its class where its queue has room. -/
theorem offer_of_room {c : Copy} {f : Frame} (h : s.takesCopies c.port)
    (hroom : s.queueLen c.port f.cls < s.cur (Fld.FAB_QCFGp_c_DEPTH c.port f.cls)) : s.offer c f = s.enqueue c f.cls := by
  refine Eq.trans ?_ (offer_host (f := { f with ingress := 78 }) h rfl)
  unfold State.offer
  dsimp only
  rw [place_of_room hroom]
  rfl

/-- An admitted frame counts at its ingress, is observed there unless it was captured, and takes the next number of its route. -/
def State.countedIn (y : State) (i : Inbound) (r : Route) : State :=
  let z := y.countPort i.ingress 0
  let z := if i.quiet then z else z.observePort i.ingress
  { z with fab := { z.fab with fseqs := SMap.set 0 z.fab.fseqs r.index ((SMap.get 0 y.fab.fseqs r.index + 1) % 65536) } }

/-- The frame as packet memory keeps it. -/
def State.enteringIn (y : State) (i : Inbound) (r : Route) : Frame :=
  i.frame (some r) r.egress 0 ((SMap.get 0 y.fab.fseqs r.index + 1) % 65536) (Config.block (y.countedIn i r).free % 65536)

/-- Packet memory holds the frame. -/
def State.storedIn (y : State) (i : Inbound) (r : Route) : State :=
  let z := ((y.countedIn i r).alloc (y.enteringIn i r)).2
  { z with free := z.free + 1 }

/-- The copy of the frame for a port. -/
def State.copyIn (y : State) (i : Inbound) (r : Route) (p : Nat) : Copy :=
  { fid := (y.countedIn i r).fab.nextFid, port := p, wire := i.wire, ready := true, addAfa := false, ahead := false, attempts := 0 }

theorem frame?_storedIn (y : State) (i : Inbound) (r : Route) :
    (y.storedIn i r).frame? (y.countedIn i r).fab.nextFid = some (y.enteringIn i r) := SMap.look_put ..

/-- The frame of a route to one CAN port that has room is stored and its copy queued. -/
theorem enter_of_room (h : r.plain p) (hmem : y.roomFor i = true) (hport : (y.storedIn i r).takesCopies p)
    (hroom : (y.storedIn i r).queueLen p r.cls < (y.storedIn i r).cur (Fld.FAB_QCFGp_c_DEPTH p r.cls)) :
    y.enter i (.route r) = { (y.storedIn i r).enqueue (y.copyIn i r p) r.cls with
      free := ((y.storedIn i r).enqueue (y.copyIn i r p) r.cls).free + 1 } := by
  have hne : r.egress ≠ [] := by rw [h.egress]; exact List.cons_ne_nil _ _
  have hoffer := offer_of_room (c := y.copyIn i r p) (f := y.enteringIn i r) hport hroom
  have hports : (y.enteringIn i r).opened.filter (77 ≤ ·) = [] := by
    have := h.can
    have hopened : (y.enteringIn i r).opened = [p] := h.egress
    rw [hopened]
    simp
    omega
  have hframe : ((y.storedIn i r).enqueue (y.copyIn i r p) r.cls).frame? (y.countedIn i r).fab.nextFid =
      some (y.enteringIn i r) := by
    unfold State.frame?
    rw [fab_enqueue]
    exact frame?_storedIn y i r
  unfold State.enter State.admitWith
  simp only [if_neg hne, police_plain h, hmem, xlateDrop_plain h, h.add, h.check, h.external, Bool.not_true, Bool.false_and,
    Bool.false_eq_true, if_false, Bool.not_false, Bool.and_true, List.foldl_cons, List.foldl_nil, translate_plain h]
  exact (congrArg (fun z : State => State.deliverInternal { z with free := z.free + 1 } (y.countedIn i r).fab.nextFid) hoffer).trans
    (deliverInternal_none hframe hports)

/-- What packet memory's new frame leaves: the queues, the copies in transmission, the values in force, and all registers but the
count of its ingress and the free blocks. -/
structure PortStored (y z : State) (i : Inbound) : Prop where
  queues : z.fab.queues = y.fab.queues
  sending : z.fab.sending = y.fab.sending
  live : z.live = y.live
  counts : z.reg64 (Reg.FAB_PCNTp_k i.ingress 0) = (y.reg64 (Reg.FAB_PCNTp_k i.ingress 0) + 1) % 2 ^ 64
  free : z.freeBlocks = y.freeBlocks - blocksFor i.wire.data.length
  regs : y.keepsRegs z (Reg.FAB_FREE :: pair64 (Reg.FAB_PCNTp_k i.ingress 0))

theorem countedIn_same (y : State) (i : Inbound) (r : Route) :
    (y.countedIn i r).regs = (y.countPort i.ingress 0).regs ∧ (y.countedIn i r).live = y.live ∧
      (y.countedIn i r).fab.queues = y.fab.queues ∧ (y.countedIn i r).fab.sending = y.fab.sending := by
  have hseen : ∀ z : State, z = y.countPort i.ingress 0 ∨ z = (y.countPort i.ingress 0).observePort i.ingress →
      z.regs = (y.countPort i.ingress 0).regs ∧ z.live = y.live ∧ z.fab = y.fab := by
    rintro z (rfl | rfl)
    · exact ⟨rfl, State.count_live .., State.count_fab ..⟩
    · exact ⟨State.observePort_regs .., (State.observePort_live ..).trans (State.count_live ..),
        (State.observePort_fab ..).trans (State.count_fab ..)⟩
  unfold State.countedIn
  extract_lets x z
  obtain ⟨hregs, hlive, hfab⟩ := hseen z (by unfold z; split <;> simp [x])
  exact ⟨hregs, hlive, (congrArg Fabric.queues hfab :), (congrArg Fabric.sending hfab :)⟩

theorem portStored_storedIn (y : State) (i : Inbound) (r : Route) : PortStored y (y.storedIn i r) i := by
  obtain ⟨hregs, hlive, hqueues, hsending⟩ := countedIn_same y i r
  have hcount : y.keepsRegs (y.countedIn i r) (pair64 (Reg.FAB_PCNTp_k i.ingress 0)) :=
    State.keepsRegs.same (State.keepsRegs_count y _ 1) hregs
  have hreg64 : (y.countedIn i r).reg64 (Reg.FAB_PCNTp_k i.ingress 0) = (y.reg64 (Reg.FAB_PCNTp_k i.ingress 0) + 1) % 2 ^ 64 :=
    (State.keepsRegs_of_regs hregs).reg64 (l := []) (by simp) (by simp) |>.trans (State.reg64_count ..)
  have hblocks : (y.countedIn i r).freeBlocks = y.freeBlocks :=
    hcount.get (f := Fld.FAB_FREE_BLOCKS) (by
      simp only [pair64, List.mem_cons, List.not_mem_nil, or_false, Fld.FAB_FREE_BLOCKS, Reg.FAB_FREE, Reg.FAB_PCNTp_k]
      omega)
  have hput := State.keepsRegs_put (y.countedIn i r) Fld.FAB_FREE_BLOCKS
    ((y.countedIn i r).freeBlocks - blocksFor i.wire.data.length)
  have hfree := State.get_put_fit (y.countedIn i r) Fld.FAB_FREE_BLOCKS
    ((y.countedIn i r).freeBlocks - blocksFor i.wire.data.length) (by decide) (by decide)
    (Nat.lt_of_le_of_lt (Nat.sub_le ..) (State.get_lt _ Fld.FAB_FREE_BLOCKS))
  have hcnt : ∀ o ∈ Reg.FAB_PCNTp_k i.ingress 0 :: [Reg.FAB_PCNTp_k i.ingress 0 + 4], o ∉ [Fld.FAB_FREE_BLOCKS.off] := by
    intro o ho
    simp only [List.mem_cons, List.not_mem_nil, or_false, Fld.FAB_FREE_BLOCKS, Reg.FAB_FREE, Reg.FAB_PCNTp_k] at ho ⊢
    omega
  exact
    { queues := hqueues
      sending := hsending
      live := hlive
      counts := (hput.reg64 (hcnt _ (.head _)) (hcnt _ (.tail _ (.head _)))).trans hreg64
      free := hfree.trans (by rw [hblocks])
      regs := fun o ho => (hput o fun hm => ho (List.mem_cons.2 (.inl (List.mem_singleton.1 hm)))).trans
        (hcount o fun hm => ho (.tail _ hm)) }

end

end Sys2Proof.Machine

namespace Sys2Proof.Machine

/-! ### CAN_FRAME_VALID (R183, R184) -/

/-- What a CAN port has heard of a valid frame: the duration of its pair, whether it woke the port, and whether it is a muster
report out of its window. -/
structure CanHeard where
  dur : Option Nat
  woken : Bool
  outWin : Bool

/-- The frame as acceptance hands it on. -/
def CanHeard.inbound (h : CanHeard) (n : Nat) (w : Wire) (sof : Tai) : Inbound :=
  { ingress := n, wire := w, stamp := sof, dur := h.dur, replay := false, woken := h.woken, outWin := h.outWin, host := none,
    mkey := sof, quiet := h.woken }

/-- A port in operation hears a valid frame. -/
def State.hear (s : State) (n : Nat) (w : Wire) (sof eof t : Tai) : CanHeard × State :=
  let s := (s.frameBegins n).count (Reg.CANP_CNTk n 0)
  let s := if s.on Fld.HAL_EVID_CAN_BCN && s.beaconOn n && s.beaconId w then s.partnerEvidence else s
  let s := (s.recValid n).errorState n
  let pair := s.canPair n sof eof
  let woken := (pair.2.reefOf n).woke
  let seen := (pair.2.setReef n { pair.2.reefOf n with woke := false }).reefSees n w sof t woken
  ({ dur := pair.1, woken := woken, outWin := seen.1 }, seen.2)

section
variable {s x y : State} {n sof16 eof16 : Nat} {w : Wire} {t sof eof : Tai} {a : Arrival} {r : Route} {p : Nat}

theorem portWork_hear (hn : n < 48) (htec : s.get (Fld.CANP_ECNT_TEC n) ≤ 255) (w : Wire) (sof eof t : Tai) :
    PortWork n (s.count (Reg.CANP_CNTk n 0)) (s.hear n w sof eof t).2 := by
  have htec : (s.count (Reg.CANP_CNTk n 0)).get (Fld.CANP_ECNT_TEC n) ≤ 255 := by
    rw [(State.keepsRegs_count s (Reg.CANP_CNTk n 0) 1).get (by
      simp only [pair64, List.mem_cons, List.not_mem_nil, or_false, Fld.CANP_ECNT_TEC, Reg.CANP_ECNT, Reg.CANP_CNTk]
      omega)]
    exact htec
  obtain ⟨c, hc⟩ := frameBegins_eq s n
  have hbegin : PortWork n (s.count (Reg.CANP_CNTk n 0)) ((s.frameBegins n).count (Reg.CANP_CNTk n 0)) := by
    rw [hc]
    exact (PortWork.refl n _).parts rfl rfl rfl List.prefix_rfl rfl
  unfold State.hear
  generalize (s.frameBegins n).count (Reg.CANP_CNTk n 0) = z at *
  generalize s.count (Reg.CANP_CNTk n 0) = b at *
  extract_lets _ z' v pair woken _ seen
  have hz : PortWork n b z' := by
    unfold z'
    split
    · exact hbegin.parts rfl rfl rfl List.prefix_rfl rfl
    · exact hbegin
  have hpair : PortWork n b pair.2 := (hz.recValid.errorState htec).canPair n sof eof
  exact (hpair.setReef _ _).reefSees hn w sof t _

theorem canFrameValid_eq (hr : s.receives n w) : s.canFrameValid n w sof16 eof16 [] t =
    (let h := s.hear n w (s.stampIn n sof16) (s.stampIn n eof16) t
     let q := h.2.takeArrival n w (s.stampIn n sof16)
     (q.2.received (h.1.inbound n w (s.stampIn n sof16)) q.1).frameEnds n) := by
  unfold State.canFrameValid
  exact if_pos ⟨hr.state, hr.kind, hr.plain⟩

theorem answers_canFrameValid (hs : s.up = true) (hn : n < 48) (hk : w.kind ≤ 2) {p : State → Prop}
    (hp : p (((s.at t).canFrameValid n w sof16 eof16 [] t).withQueue s.pending)) :
    answers (exec (.canFrameValid n w sof16 eof16 [] t) s) p :=
  answers_effect (m := "CAN_FRAME_VALID") hs (decide_eq_true ⟨hn, hk, rfl⟩) hp

/-- The counters of a port's valid and rejected frames are apart from what the work on the port changes. -/
theorem not_portNoise_canCount (hn : n < 48) {k : Nat} (hk : k < 2) : ∀ o ∈ pair64 (Reg.CANP_CNTk n k), ¬ portNoise n o := by
  intro o ho
  simp only [pair64, List.mem_cons, List.not_mem_nil, or_false, Reg.CANP_CNTk] at ho
  unfold portNoise Reg.CANP_STATUS Reg.CANP_ECNT Reg.FAB_QSTATp Reg.NVM_CNTk
  omega

theorem PortWork.canCount (h : PortWork n x y) (hn : n < 48) {k : Nat} (hk : k < 2) :
    y.reg64 (Reg.CANP_CNTk n k) = x.reg64 (Reg.CANP_CNTk n k) :=
  h.reg64 (not_portNoise_canCount hn hk _ (.head _)) (not_portNoise_canCount hn hk _ (.tail _ (.head _)))

/-! A rejected frame. -/

theorem accRejects_of_live (h : x.live = s.live) (n : Nat) (w : Wire) : x.accRejects n w = s.accRejects n w := by
  unfold State.accRejects State.on State.cur
  simp only [State.liveReg_of_live h]

theorem canFrameValid_rejects (hn : n < 48) (hr : s.receives n w) (htec : s.get (Fld.CANP_ECNT_TEC n) ≤ 255)
    (hnone : SMap.look s.fab.arrivals n = none) (hrej : s.accRejects n w = true) :
    let u := s.canFrameValid n w sof16 eof16 [] t
    u.reg64 (Reg.CANP_CNTk n 0) = (s.reg64 (Reg.CANP_CNTk n 0) + 1) % 2 ^ 64 ∧
      u.reg64 (Reg.CANP_CNTk n 1) = (s.reg64 (Reg.CANP_CNTk n 1) + 1) % 2 ^ 64 ∧ u.fab = s.fab := by
  have hheard := portWork_hear hn htec w (s.stampIn n sof16) (s.stampIn n eof16) t
  rw [canFrameValid_eq hr]
  generalize s.hear n w (s.stampIn n sof16) (s.stampIn n eof16) t = h at *
  have hfab : h.2.fab = s.fab := hheard.fab.trans (State.count_fab ..)
  have hstart : h.2.takeArrival n w (s.stampIn n sof16) =
      ({ h.2.arriving w (s.stampIn n sof16) with rejected := true }, h.2) := by
    unfold State.takeArrival
    rw [hfab, hnone]
    exact startArrival_rejected hn ((accRejects_of_live (hheard.live.trans (State.count_live ..)) n w).trans hrej)
  have hends := (PortWork.refl n (h.2.count (Reg.CANP_CNTk n 1))).frameEnds
  have hapart : (Reg.CANP_CNTk n 0 + 4 < Reg.CANP_CNTk n 1) := by unfold Reg.CANP_CNTk; omega
  have hcount : h.2.received (h.1.inbound n w (s.stampIn n sof16))
      { h.2.arriving w (s.stampIn n sof16) with rejected := true } = h.2.count (Reg.CANP_CNTk n 1) := if_pos rfl
  dsimp only
  rw [hstart, hcount]
  refine ⟨?_, ?_, hends.fab.trans ((State.count_fab ..).trans hfab)⟩
  · exact (hends.canCount hn (by decide)).trans ((State.reg64_count_ne _ _ _ _ (.inr hapart)).trans
      ((hheard.canCount hn (by decide)).trans (State.reg64_count ..)))
  · refine (hends.canCount hn (by decide)).trans ((State.reg64_count ..).trans ?_)
    rw [hheard.canCount hn (by decide), State.reg64_count_ne _ _ _ _ (.inl hapart)]

/-! An admitted frame. -/

/-- The arrival of a port has been taken up. -/
def State.arrivalTaken (s : State) (n : Nat) : State :=
  { s with fab := { s.fab with arrivals := SMap.del s.fab.arrivals n } }

theorem takeArrival_some (h : SMap.look s.fab.arrivals n = some a) : s.takeArrival n w sof = (a, s.arrivalTaken n) := by
  unfold State.takeArrival
  rw [h]
  rfl

/-- An arrival that neither acceptance nor an error has struck, of which no copy has run ahead, is admitted by its route. -/
theorem received_route {i : Inbound} (hlook : a.looked = .route r) (hrej : a.rejected = false) (hgone : a.gone = false)
    (hfid : a.fid = none) : s.received i a = s.enter i (.route r) := by
  unfold State.received
  rw [hrej, hgone, hfid, hlook]
  rfl

/-- A register that a frame's reception at port `n` does not change, other than to count the frame. -/
def receptionKeeps (n o : Nat) : Prop :=
  ¬ portNoise n o ∧ o ∉ pair64 (Reg.CANP_CNTk n 0) ∧ o ∉ Reg.FAB_FREE :: pair64 (Reg.FAB_PCNTp_k n 0)

/-- The route's egress port takes copies in every state that reads these registers alike. -/
theorem State.takesCopies.of_reception (h : s.takesCopies p) (hn : n < 48) (hpn : p ≠ n) (hl : x.live = s.live)
    (hreg : ∀ o, receptionKeeps n o → x.reg o = s.reg o) : x.takesCopies p := by
  have hp := h.can
  have hget : ∀ f : Fld, receptionKeeps n f.off → x.get f = s.get f := fun f hf => State.get_of_reg (hreg _ hf)
  have hhigh : ∀ o, 0x1C0000 ≤ o → o ≠ Reg.NVM_CNTk 1 → o ≠ Reg.NVM_CNTk 1 + 4 → receptionKeeps n o := by
    intro o ho h1 h2
    simp only [receptionKeeps, portNoise, pair64, List.mem_cons, List.not_mem_nil, or_false, Reg.CANP_STATUS, Reg.CANP_ECNT,
      Reg.FAB_QSTATp, Reg.CANP_CNTk, Reg.FAB_FREE, Reg.FAB_PCNTp_k]
    omega
  have hdomain : ∀ d, x.domain d = s.domain d := fun d =>
    hget _ (hhigh _ (by simp only [Fld.PWR_Dd_STAT_STATE, Reg.PWR_Dd_STAT]; omega)
      (by simp only [Fld.PWR_Dd_STAT_STATE, Reg.PWR_Dd_STAT, Reg.NVM_CNTk]; omega)
      (by simp only [Fld.PWR_Dd_STAT_STATE, Reg.PWR_Dd_STAT, Reg.NVM_CNTk]; omega))
  exact
    { can := hp
      fabric := (hdomain 4).trans h.fabric
      claimed := by
        rw [State.claimed, hget Fld.HAL_STATUS_CLAIMED (hhigh _ (by decide) (by decide) (by decide))]
        exact h.claimed
      powered := (hdomain _).trans h.powered
      state := (hget _ (by
        simp only [receptionKeeps, portNoise, pair64, List.mem_cons, List.not_mem_nil, or_false, Fld.CANP_STATUS_STATE,
          Reg.CANP_STATUS, Reg.CANP_ECNT, Reg.FAB_QSTATp, Reg.CANP_CNTk, Reg.FAB_FREE, Reg.FAB_PCNTp_k, Reg.NVM_CNTk]
        omega)).trans h.state
      talks := by
        rw [State.on, State.cur, State.liveReg_of_live hl]
        exact h.talks
      awake := by
        rw [hget _ ⟨?_, ?_⟩]
        · exact h.awake
        · rintro (ho | ho | ho | ho | ho | ho | ⟨_, _, ho⟩)
          · simp only [Fld.REEF_PORTn_STAT_STATE, Reg.REEF_PORTn_STAT, Reg.CANP_STATUS] at ho; omega
          · simp only [Fld.REEF_PORTn_STAT_STATE, Reg.REEF_PORTn_STAT, Reg.CANP_ECNT] at ho; omega
          · simp only [Fld.REEF_PORTn_STAT_STATE, Reg.REEF_PORTn_STAT, Reg.FAB_QSTATp] at ho; omega
          · simp only [Fld.REEF_PORTn_STAT_STATE, Reg.REEF_PORTn_STAT] at ho; omega
          · simp only [Fld.REEF_PORTn_STAT_STATE, Reg.REEF_PORTn_STAT, Reg.NVM_CNTk] at ho; omega
          · simp only [Fld.REEF_PORTn_STAT_STATE, Reg.REEF_PORTn_STAT, Reg.NVM_CNTk] at ho; omega
          · exact ho p hp hpn rfl
        · simp only [pair64, List.mem_cons, List.not_mem_nil, or_false, Fld.REEF_PORTn_STAT_STATE, Reg.REEF_PORTn_STAT,
            Reg.CANP_CNTk, Reg.FAB_FREE, Reg.FAB_PCNTp_k]
          omega }

/-- What the frame's reception shows once its copy is queued. -/
structure Admitted (s u : State) (n : Nat) (w : Wire) (stamp : Tai) (p cls : Nat) : Prop where
  received : u.reg64 (Reg.CANP_CNTk n 0) = (s.reg64 (Reg.CANP_CNTk n 0) + 1) % 2 ^ 64
  counts : u.reg64 (Reg.FAB_PCNTp_k n 0) = (s.reg64 (Reg.FAB_PCNTp_k n 0) + 1) % 2 ^ 64
  free : u.freeBlocks = s.freeBlocks - blocksFor w.data.length
  waits : ∃ (c : Copy) (f : Frame), u.queue p cls = s.queue p cls ++ [c] ∧ c.port = p ∧ c.wire = w ∧ c.ready = true ∧
    u.frame? c.fid = some f ∧ f.ingress = n ∧ f.wire = w ∧ f.stamp = stamp ∧ f.opened = [p]

theorem Admitted.drawn {cls : Nat} {stamp : Tai} (h : Admitted s x n w stamp p cls) :
    Admitted s { x with free := x.free + 1 } n w stamp p cls := ⟨h.received, h.counts, h.free, h.waits⟩

/-- Work on the ingress port leaves what its reception shows. -/
theorem Admitted.work {u : State} {cls : Nat} {stamp : Tai} (h : Admitted s x n w stamp p cls) (hn : n < 48) (hw : PortWork n x u) :
    Admitted s u n w stamp p cls where
  received := (hw.canCount hn (by decide)).trans h.received
  counts := (hw.portCount hn (by decide)).trans h.counts
  free := (hw.get (f := Fld.FAB_FREE_BLOCKS) (by
    simp only [portNoise, Fld.FAB_FREE_BLOCKS, Reg.FAB_FREE, Reg.CANP_STATUS, Reg.CANP_ECNT, Reg.FAB_QSTATp, Reg.NVM_CNTk]
    omega)).trans h.free
  waits := by
    unfold State.queue State.frame?
    rw [hw.fab]
    exact h.waits

/-- The state in which a frame that was looked up is admitted. -/
structure Received (s y : State) (n : Nat) : Prop where
  fab : y.fab.queues = s.fab.queues ∧ y.fab.sending = s.fab.sending
  live : y.live = s.live
  received : y.reg64 (Reg.CANP_CNTk n 0) = (s.reg64 (Reg.CANP_CNTk n 0) + 1) % 2 ^ 64
  reg : ∀ o, ¬ portNoise n o → o ∉ pair64 (Reg.CANP_CNTk n 0) → y.reg o = s.reg o

theorem received_arrivalTaken (hn : n < 48) (h : PortWork n (s.count (Reg.CANP_CNTk n 0)) x) : Received s (x.arrivalTaken n) n where
  fab := ⟨(congrArg Fabric.queues h.fab :), (congrArg Fabric.sending h.fab :)⟩
  live := h.live.trans (State.count_live ..)
  received := (h.canCount hn (by decide)).trans (State.reg64_count ..)
  reg o ho hc := (h.reg o ho).trans (State.keepsRegs_count s _ 1 o hc)

theorem Received.freeBlocks (h : Received s y n) : y.freeBlocks = s.freeBlocks :=
  State.get_of_reg (f := Fld.FAB_FREE_BLOCKS) (h.reg _ (by
    simp only [portNoise, Fld.FAB_FREE_BLOCKS, Reg.FAB_FREE, Reg.CANP_STATUS, Reg.CANP_ECNT, Reg.FAB_QSTATp, Reg.NVM_CNTk]
    omega) (by
    simp only [pair64, List.mem_cons, List.not_mem_nil, or_false, Fld.FAB_FREE_BLOCKS, Reg.FAB_FREE, Reg.CANP_CNTk]
    omega))

theorem Received.portCount (h : Received s y n) (hn : n < 48) :
    y.reg64 (Reg.FAB_PCNTp_k n 0) = s.reg64 (Reg.FAB_PCNTp_k n 0) := by
  have hreg : ∀ o ∈ pair64 (Reg.FAB_PCNTp_k n 0), y.reg o = s.reg o := fun o ho =>
    h.reg o (not_portNoise_portCount hn (by decide) o ho) (by
      simp only [pair64, List.mem_cons, List.not_mem_nil, or_false, Reg.FAB_PCNTp_k, Reg.CANP_CNTk] at ho ⊢
      omega)
  unfold State.reg64
  rw [hreg _ (.head _), hreg _ (.tail _ (.head _))]

/-- A port that sends nothing has in a queue what waits there. -/
theorem queueLen_of_idle {cls : Nat} (hs : s.sending p = none) : s.queueLen p cls = (s.queue p cls).length := by
  unfold State.queueLen
  rw [hs]
  rfl

theorem enteringIn_frame (y : State) (i : Inbound) (r : Route) : (y.enteringIn i r).ingress = i.ingress ∧
    (y.enteringIn i r).wire = i.wire ∧ (y.enteringIn i r).stamp = i.stamp ∧ (y.enteringIn i r).opened = r.egress :=
  ⟨rfl, rfl, rfl, rfl⟩

/-- A received frame whose route has one CAN egress port that can take it waits last in its class. -/
theorem admitted_enter {i : Inbound} (h : Received s y i.ingress) (hn : i.ingress < 48) (hr : r.plain p)
    (hp : s.takesCopies p) (hpn : p ≠ i.ingress)
    (hmem : s.cur Fld.FAB_HOSTBUF_BLOCKS < s.freeBlocks) (hidle : s.sending p = none)
    (hroom : s.queueLen p r.cls < s.cur (Fld.FAB_QCFGp_c_DEPTH p r.cls)) :
    Admitted s (y.enter i (.route r)) i.ingress i.wire i.stamp p r.cls := by
  have hstored := portStored_storedIn y i r
  have hframe := frame?_storedIn y i r
  have hlive : (y.storedIn i r).live = s.live := hstored.live.trans h.live
  have hqueue : (y.storedIn i r).queue p r.cls = s.queue p r.cls :=
    congrArg (fun m => SMap.get [] m (8 * p + r.cls)) (hstored.queues.trans h.fab.1)
  have hsending : (y.storedIn i r).sending p = none :=
    (congrArg (fun m => SMap.look m p) (hstored.sending.trans h.fab.2)).trans hidle
  have htakes := hp.of_reception hn hpn hlive fun o ho => (hstored.regs o ho.2.2).trans (h.reg o ho.1 ho.2.1)
  have hcur : ∀ {z : State}, z.live = s.live → ∀ f : Fld, z.cur f = s.cur f := fun hz f => by
    rw [State.cur, State.liveReg_of_live hz]
    rfl
  rw [enter_of_room hr (decide_eq_true (.inr (by rw [hcur h.live, h.freeBlocks]; exact hmem))) htakes (by
    rw [queueLen_of_idle hsending, hqueue, hcur hlive, ← queueLen_of_idle hidle]
    exact hroom)]
  have hport : (y.copyIn i r p).port = p := rfl
  have henq := keepsRegs_enqueue (y.storedIn i r) (y.copyIn i r p) r.cls
  rw [hport] at henq
  obtain ⟨hingress, hwire, hstamp, hopened⟩ := enteringIn_frame y i r
  have hp48 := hr.can
  refine Admitted.drawn { received := ?_, counts := ?_, free := ?_, waits := ⟨y.copyIn i r p, y.enteringIn i r, ?_, rfl, rfl,
    rfl, ?_, hingress, hwire, hstamp, hopened.trans hr.egress⟩ }
  · refine (henq.reg64 ?_ ?_).trans ((hstored.regs.reg64 ?_ ?_).trans h.received)
    all_goals
      simp only [pair64, List.mem_cons, List.not_mem_nil, or_false, Reg.CANP_CNTk, Reg.FAB_QSTATp, Reg.FAB_FREE, Reg.FAB_PCNTp_k]
      omega
  · refine (henq.reg64 ?_ ?_).trans (hstored.counts.trans ?_)
    · simp only [List.mem_singleton, Reg.FAB_QSTATp, Reg.FAB_PCNTp_k]
      omega
    · simp only [List.mem_singleton, Reg.FAB_QSTATp, Reg.FAB_PCNTp_k]
      omega
    · exact congrArg (fun k => (k + 1) % 2 ^ 64) (h.portCount hn)
  · refine (henq.get (f := Fld.FAB_FREE_BLOCKS) ?_).trans (hstored.free.trans ?_)
    · simp only [List.mem_singleton, Fld.FAB_FREE_BLOCKS, Reg.FAB_FREE, Reg.FAB_QSTATp]
      omega
    · rw [h.freeBlocks]
  · exact (queue_enqueue ..).trans (congrArg (· ++ [y.copyIn i r p]) hqueue)
  · unfold State.frame?
    rw [fab_enqueue]
    exact hframe

theorem canFrameValid_admits (hn : n < 48) (hr : s.receives n w) (htec : s.get (Fld.CANP_ECNT_TEC n) ≤ 255)
    (harrived : SMap.look s.fab.arrivals n = some a) (hlook : a.looked = .route r) (hrej : a.rejected = false)
    (hgone : a.gone = false) (hfid : a.fid = none) (hroute : r.plain p) (hp : s.takesCopies p) (hpn : p ≠ n)
    (hmem : s.cur Fld.FAB_HOSTBUF_BLOCKS < s.freeBlocks) (hidle : s.sending p = none)
    (hroom : s.queueLen p r.cls < s.cur (Fld.FAB_QCFGp_c_DEPTH p r.cls)) :
    Admitted s (s.canFrameValid n w sof16 eof16 [] t) n w (s.stampIn n sof16) p r.cls := by
  have hheard := portWork_hear hn htec w (s.stampIn n sof16) (s.stampIn n eof16) t
  rw [canFrameValid_eq hr]
  generalize s.hear n w (s.stampIn n sof16) (s.stampIn n eof16) t = h at *
  have hfab : h.2.fab = s.fab := hheard.fab.trans (State.count_fab ..)
  have htaken : h.2.takeArrival n w (s.stampIn n sof16) = (a, h.2.arrivalTaken n) :=
    takeArrival_some (by rw [hfab]; exact harrived)
  dsimp only
  rw [htaken]
  dsimp only
  rw [received_route hlook hrej hgone hfid]
  exact (admitted_enter (i := h.1.inbound n w (s.stampIn n sof16)) (received_arrivalTaken hn hheard) hn hroute hp hpn hmem hidle
    hroom).work hn (PortWork.refl n _).frameEnds

end

/-- Settles O46: the frame is looked up (`routeLookup_keeps`), rejected or admitted (`canFrameValid_rejects`,
`canFrameValid_admits`), started by priority (`canTxStart_sends`, `canTxStart_resets`) and completed (`canTxDone_ends`). Work on
the ports between touches neither packet memory nor the host's completions (`PortWork`). -/
theorem canFramesAreLookedUpQueuedAndSent : Obligations.CanFramesAreLookedUpQueuedAndSent := by
  intro n w sof16 eof16 t s hs hn
  refine ⟨fun port hport hr => routeLookup_keeps hs hport fun hc => ?_, fun ⟨hstate, hkind, hplain⟩ hk htec => ⟨?_, ?_⟩,
    fun fault => ⟨canTxStart_leaves hs hn, fun hdrives hplain hfree hholds hpower cls c hpick => ⟨?_, ?_⟩⟩, ?_⟩
  · obtain ⟨⟨hstate, hkind, hplain⟩, rfl⟩ := hr hc
    exact ⟨hstate, hkind, hplain⟩
  · intro hnone hrej
    exact answers_canFrameValid hs hn hk (canFrameValid_rejects (s := s.at t) hn ⟨hstate, hkind, hplain⟩ htec hnone hrej)
  · intro a r p harrived hlook hrej hgone hfid hegress hp hpn hlim hchk hadd hxl hmem hfabric hclaim hpower hcan htalks hawake
      hidle hroom
    refine answers_canFrameValid hs hn hk ?_
    have hadmit := canFrameValid_admits (s := s.at t) (w := w) (sof16 := sof16) (eof16 := eof16) (t := t) hn
      ⟨hstate, hkind, hplain⟩ htec harrived hlook hrej hgone hfid ⟨hegress, hp, hlim, hchk, hadd, hxl⟩
      ⟨hp, hfabric, hclaim, hpower, hcan, htalks, hawake⟩ hpn hmem hidle hroom
    exact ⟨hadmit.received, hadmit.counts, hadmit.free, hadmit.waits⟩
  · rintro rfl hwake
    exact canTxStart_sends hs hn ⟨hdrives, hplain, hfree, hholds, hpower⟩ hpick hwake
  · rintro rfl
    exact canTxStart_resets hs hn ⟨hdrives, hplain, hfree, hholds, hpower⟩ hpick
  · intro c tdcv hsend htec
    refine answers_effect (m := "CAN_TX_COMPLETE") hs (decide_eq_true hn) ?_
    obtain ⟨hended, hcompletes⟩ := canTxDone_ends (s := s.at t) hn hsend htec sof16 eof16 tdcv t
    refine ⟨hended.sending, hended.out, hended.counts, hended.tec, ?_⟩
    intro f h hf hhost _ hopened hdone hauth hcmpl hgen hdead
    obtain ⟨hgone, htold⟩ := hcompletes f h hf ⟨hhost, hcmpl, hgen, hdead⟩ hopened hdone hauth
    exact ⟨hgone, htold⟩

end Sys2Proof.Machine

namespace Sys2Proof.Machine

/-! ### A late run-ahead copy of a route beyond the table (R147, R151, R156) -/

/-- A route beyond the 4096 of the table, whose status word would be FAB_RA_LAST: its count of cancellations covers the reason. -/
def strayRoute : Nat := (Reg.FAB_RA_LAST - Reg.FAB_RA_STATj 0) / 4

/-- A frame of the stray route that arrives on port 1, with its verdict unknown. -/
def strayFrame : RaFrame :=
  { route := strayRoute, ingress := 1, started := [0], completed := [], past := [], valid := false, cancelled := false }

/-- Its copy, in transmission ahead of the verdict. -/
def strayCopy : Copy :=
  { fid := 0, port := 0, ready := false, addAfa := false, ahead := true, attempts := 1,
    wire := { kind := 0, ide := false, brs := false, rtr := false, esi := false, id := 0, af := 0, data := [] } }

/-- The running part with that copy on CAN port 0. -/
def strayAhead : State :=
  { State.reset with
    glb := { State.reset.glb with phase := .running },
    fab := { State.reset.fab with sending := [(0, strayCopy)] },
    ra := [(0, strayFrame)] }

/-- The reason that FAB_RA_LAST shows after a command. -/
def reasonAfter (o : Host.Outcome State Fault Refusal) : Nat :=
  match o with
  | .next u => u.get Fld.FAB_RA_LAST_REASON
  | _ => 0

/-- The deadline writes LATE (4), and counting the cancellation adds one to it. -/
theorem reasonAfter_strayAhead : reasonAfter (exec (.abortDeadline 0 0) strayAhead) = 5 := by decide +kernel

/-- What the statement asks of the state, of its copy and of its frame. -/
theorem strayAhead_meets : strayAhead.up = true ∧ strayAhead.sending 0 = some strayCopy ∧ strayCopy.ahead = true ∧
    strayAhead.raOf strayCopy.fid = some strayFrame ∧ strayFrame.valid = false ∧ strayFrame.cancelled = false := by
  and_intros <;> decide

/-- Refutes O47: a copy that is late is cancelled, which writes LATE (4) to FAB_RA_LAST and then counts the cancellation in the
status word of the frame's route. The statement speaks of every state, so of one with a frame whose route lies beyond the
table: its status word is FAB_RA_LAST itself (`strayRoute`), and the count turns LATE into RETRACTED (5). No command
leads there (a frame's route comes from a lookup, which finds only routes of the table, `index_lt_of_mem_liveRoutes`); where
the route lies in the table, its status word and FAB_RA_LAST are apart. -/
theorem not_runAheadCopiesStartAndMeetTheirDeadline : ¬ Obligations.RunAheadCopiesStartAndMeetTheirDeadline := by
  intro h
  obtain ⟨hup, hsending, hahead, hframe, hvalid, hfirst⟩ := strayAhead_meets
  obtain ⟨_, _, _, _, hdeadline⟩ := h 0 0 0 strayAhead hup (by decide) (by decide)
  obtain ⟨_, hjudged⟩ := hdeadline strayCopy hsending
  obtain ⟨_, hlate⟩ := hjudged strayFrame hahead hframe
  obtain ⟨u, hu, _, _, htold⟩ := hlate hvalid
  obtain ⟨_, hfour, _⟩ := htold hfirst
  have hfive : u.get Fld.FAB_RA_LAST_REASON = 5 := by
    have hr := reasonAfter_strayAhead
    rw [hu] at hr
    exact hr
  rw [hfive] at hfour
  exact absurd hfour (by decide)

end Sys2Proof.Machine

namespace Sys2Proof.Machine

/-! ### A bus-off that drops a frame of a ring beyond the table (R92, R136, R181) -/

/-- A TX ring far beyond the 64 of the table: its status word is CANP_STATUS of port 1. -/
def strayRing : Nat := (Reg.CANP_STATUS 1 - Reg.HIF_TXn_STAT 0) / 0x20

/-- A host frame of the stray ring, without CMPL, that waits for CAN port 0. -/
def strayHostFrame : Frame :=
  { origin := .routed, ingress := 78, wire := strayCopy.wire, stamp := 0, dur := none, route := none, cls := 0, auth := 0,
    fseq := 0, blk := 0, blocks := 1, replay := false, woken := false, outWin := false,
    host := some { ring := strayRing, tag := 0, cmpl := false, oneShot := false, dest := 0, gen := 0 },
    mkey := 0, mroute := 0, opened := [0], total := 1, done := [], prior := none }

/-- Port 0 is one error short of bus-off, and its class 0 holds no frame through one; port 1 is bus-off and has counted one
recessive sequence. The frame of the stray ring waits in the queue of port 0. -/
def strayQueued : State :=
  let s := { State.reset with glb := { State.reset.glb with phase := .running } }
  let s := ((s.put Fld.HAL_STATUS_CLAIMED 1).put (Fld.CANP_STATUS_STATE 0) 3).put (Fld.CANP_ECNT_TEC 0) 255
  let s := (s.put (Fld.CANP_STATUS_STATE 1) 4).put (Fld.CANP_STATUS_BOFF_SEQ 1) 1
  let s := s.putCur (Fld.FAB_QCFGp_c_HOLD 0 0) 0
  { s with fab := { s.fab with
      frames := [(0, strayHostFrame)], queues := [(0, [{ strayCopy with ahead := false, attempts := 0 }])] } }

/-- CANP_STATUS of port 1 after a command. -/
def neighbourStatus (o : Host.Outcome State Fault Refusal) : Word :=
  match o with
  | .next u => u.reg (Reg.CANP_STATUS 1)
  | _ => 0#32

/-- The outcome of the dropped frame takes one from what port 1 has counted. -/
theorem neighbourStatus_strayQueued :
    neighbourStatus (exec (.canErrorDetected 0 1 0 true .transmitter none none false 0) strayQueued) = 4#32 := by
  decide +kernel

/-- What the statement asks of the state, and what port 1 shows before the error. -/
theorem strayQueued_meets : strayQueued.up = true ∧ strayQueued.canState 0 = 3 ∧ strayQueued.get (Fld.CANP_ECNT_TEC 0) ≤ 255 ∧
    strayQueued.sending 0 = none ∧ SMap.look strayQueued.fab.arrivals 0 = none ∧
    strayQueued.reg (Reg.CANP_STATUS 1) = 0x10004#32 := by
  and_intros <;> decide +kernel

/-- Refutes O44: an error takes a port to BUS_OFF, which drops the frames that its queues do not hold, and the outcome of a host
frame without CMPL counts OUTSTANDING of its ring down. The statement speaks of every state, so of one with a frame whose
ring lies beyond the table: its status word is CANP_STATUS of port 1 (`strayRing`), and the count takes one from BOFF_SEQ of
that other port. No command leads there (TX_FRAME and the intake name only rings of the table); where the ring lies in the
table, its status word lies below the CAN registers. -/
theorem not_canErrorsAreCountedAndMoveTheState : ¬ Obligations.CanErrorsAreCountedAndMoveTheState := by
  intro h
  obtain ⟨hup, hpassive, htec, hidle, hquiet, hbefore⟩ := strayQueued_meets
  obtain ⟨herrors, _⟩ := h 0 0 strayQueued hup (by decide)
  obtain ⟨hdetected, _⟩ := herrors (.inr hpassive) htec hidle hquiet
  obtain ⟨u, hu, _, _, _, _, _, _, _, _, hothers⟩ :=
    hdetected 1 0 true .transmitter none none false (by decide) (by decide) (by decide)
  obtain ⟨hkept, _⟩ := hothers 1 (by decide) (by decide)
  have hafter : u.reg (Reg.CANP_STATUS 1) = 4#32 := by
    have hn := neighbourStatus_strayQueued
    rw [hu] at hn
    exact hn
  rw [hafter, hbefore] at hkept
  exact absurd hkept (by decide)

end Sys2Proof.Machine

namespace Sys2Proof.Machine

/-! ### A disabled port whose arriving frame has a copy for a port beyond the table (R146, R179) -/

/-- A port far beyond the 80 of the part: its queue status word is CANP_MODE of CAN port 0. -/
def strayPort : Nat := (Reg.CANP_MODE 0 - Reg.FAB_QSTATp 0) / 4

/-- Copies of two frames that wait for the stray port. -/
def strayPair : List Copy :=
  [0, 1].map fun fid => { strayCopy with fid := fid, port := strayPort, ahead := false, attempts := 0 }

/-- CAN port 0 is enabled and ACTIVE, and the first of the two frames still arrives on it. -/
def strayArriving : State :=
  let s := { State.reset with glb := { State.reset.glb with phase := .running } }
  let s := (s.putBoth (Fld.CANP_MODE_EN 0) 1).put (Fld.CANP_STATUS_STATE 0) 2
  { s with fab := { s.fab with
      frames := [0, 1].map fun fid =>
        (fid, { strayHostFrame with ingress := 0, host := none, opened := [strayPort] }),
      queues := [(8 * strayPort, strayPair)],
      arrivals := [(0, { looked := .miss, rejected := false, fid := some 0, gone := false, wire := strayCopy.wire,
                         stamp := 0, at_ := 0 })] } }

/-- CANP_MODE.EN of port 0 after a command. -/
def enabledAfter (o : Host.Outcome State Fault Refusal) : Nat :=
  match o with
  | .next u => u.get (Fld.CANP_MODE_EN 0)
  | _ => 0

/-- The class 0 of the stray port still has a frame, and shows it where EN stands. -/
theorem enabledAfter_strayArriving : enabledAfter (exec (.canPortDisable 0 0) strayArriving) = 1 := by decide +kernel

/-- Refutes O45: disabling a port destroys the frame that it receives, withdraws the waiting copies of that frame and shows the
queues of the ports they were for. The statement speaks of every state, so of one with a copy for a port beyond the part's: its
queue status word is CANP_MODE of port 0 (`strayPort`), and NONEMPTY of the frame that still waits there sets EN again. No
command leads there (the copies that are made are for the part's own ports: those of a route of the table, of a beacon or of a wake frame);
for those the queue status words lie below the CAN registers. -/
theorem not_canPortsFollowTheirModesAndTiming : ¬ Obligations.CanPortsFollowTheirModesAndTiming := by
  intro h
  obtain ⟨_, hdisable, _⟩ := h 0 0 strayArriving (by decide) (by decide)
  obtain ⟨u, hu, hzero, _⟩ := hdisable
  have hone : u.get (Fld.CANP_MODE_EN 0) = 1 := by
    have he := enabledAfter_strayArriving
    rw [hu] at he
    exact he
  rw [hone] at hzero
  exact absurd hzero (by decide)

end Sys2Proof.Machine

namespace Sys2Proof.Machine

/-! ### A port's Reef controller, and a command that acts under a condition -/

section
variable {s x : State} {l : List Part} {n : Nat}

@[simp] theorem reefOf_setReef (s : State) (n : Nat) (p : ReefPort) : (s.setReef n p).reefOf n = p :=
  (SMap.get_set ..).trans (if_pos rfl)

@[simp] theorem reefState_setReef (s : State) (n : Nat) (p : ReefPort) (m : Nat) : (s.setReef n p).reefState m = s.reefState m :=
  rfl
@[simp] theorem reg64_setReef (s : State) (n : Nat) (p : ReefPort) (o : Nat) : (s.setReef n p).reg64 o = s.reg64 o := rfl

theorem reefOf_of_reef (h : x.reef = s.reef) (n : Nat) : x.reefOf n = s.reefOf n := by
  unfold State.reefOf
  rw [h]

theorem State.keeps.setReef (h : s.keeps x l) (n : Nat) (p : ReefPort) (hl : Part.reef ∈ l) : s.keeps (x.setReef n p) l :=
  State.keeps_reef _ h hl

theorem State.keepsRegs.setReef {l : List Nat} (h : s.keepsRegs x l) (n : Nat) (p : ReefPort) :
    s.keepsRegs (x.setReef n p) l := h.same rfl

/-- A 64-bit register reads the same through a frame that lists neither of its doublewords. -/
theorem State.keepsRegs.reg64_pair {l : List Nat} (h : s.keepsRegs x l) {o : Nat} (ho : ∀ a ∈ pair64 o, a ∉ l) :
    x.reg64 o = s.reg64 o := h.reg64 (ho o (by simp [pair64])) (ho (o + 4) (by simp [pair64]))

/-- No counter of drops lies between the rings and the journal. -/
theorem not_mem_dropCounters_between {o : Nat} (h : 0x32800 ≤ o) (h' : o < 0x1F0000) : o ∉ dropCounters := by
  simp only [dropCounters, List.mem_cons, List.not_mem_nil, or_false, Reg.NVM_CNTk, Reg.HIF_RXn_DROP]
  omega

/-- A timed command that has an effect under a condition, and else leaves the state. -/
theorem answers_when {ok : Bool} {m : String} {d : Prop} [Decidable d] {A : State → Prop} (hs : s.up = true) (hok : ok = true)
    (t : Tai) (hdo : d → ∃ y, x = y ∧ A (y.withQueue s.pending)) (helse : ¬ d → x = s.at t) :
    answers (unlessHeld s (runIf ok m x)) fun u => if d then A u else s.keepsRegs u [] ∧ s.keeps u [] := by
  refine answers_effect hs hok ?_
  split
  · next hd =>
    obtain ⟨y, rfl, hA⟩ := hdo hd
    exact hA
  · next hd =>
    rw [helse hd]
    exact keeps_all_at s t _

end

/-! ### A sleeping port wakes (R190, Table 8.1) -/

section
variable {s x y : State} {n reason : Nat} {t : Tai}

/-- What stands of port `n` after a wake for a reason that owes no wake transmission. -/
def State.wokenFor (s u : State) (n reason : Nat) : Prop :=
  u.reefState n = 3 ∧ u.get (Fld.REEF_PORTn_STAT_LAST_REASON n) = reason ∧ u.get (Fld.REEF_PORTn_STAT_CAP n) = 0 ∧
    u.reg64 (Reg.REEF_CNTn_k n 1) = (s.reg64 (Reg.REEF_CNTn_k n 1) + 1) % 2 ^ 64 ∧ (u.reefOf n).capturing = true ∧
    (u.reefOf n).txWake = .none

/-- The wake, and nothing beside. -/
def State.wokenAlone (s u : State) (n reason : Nat) : Prop :=
  s.wokenFor u n reason ∧ s.keepsRegs u (Reg.REEF_PORTn_STAT n :: pair64 (Reg.REEF_CNTn_k n 1)) ∧ s.keeps u [.reef]

theorem reefWake_awake (h : s.reefState n ≠ 2) : s.reefWake n reason = s := if_neg h

/-- REEF_PORTn_STAT shows a wake. -/
def State.statWoken (s : State) (n reason : Nat) : State :=
  ((s.put (Fld.REEF_PORTn_STAT_STATE n) 3).put (Fld.REEF_PORTn_STAT_LAST_REASON n) reason).put (Fld.REEF_PORTn_STAT_CAP n) 0

theorem get_statWoken (s : State) (n : Nat) {reason : Nat} (hr : reason < 8) :
    (s.statWoken n reason).reefState n = 3 ∧ (s.statWoken n reason).get (Fld.REEF_PORTn_STAT_LAST_REASON n) = reason ∧
      (s.statWoken n reason).get (Fld.REEF_PORTn_STAT_CAP n) = 0 := by
  have hcap : ∀ (y : State) (g : Fld), g.off = Reg.REEF_PORTn_STAT n → g.hi < 8 →
      (y.put (Fld.REEF_PORTn_STAT_CAP n) 0).get g = y.get g := fun y g ho hg =>
    State.get_put_field y (Fld.REEF_PORTn_STAT_CAP n) g 0 ho (by simp [Fld.REEF_PORTn_STAT_CAP])
      (by simp [Fld.REEF_PORTn_STAT_CAP]) (.inr hg)
  refine ⟨(hcap _ (Fld.REEF_PORTn_STAT_STATE n) rfl (by simp [Fld.REEF_PORTn_STAT_STATE])).trans ?_,
    (hcap _ (Fld.REEF_PORTn_STAT_LAST_REASON n) rfl (by simp [Fld.REEF_PORTn_STAT_LAST_REASON])).trans ?_,
    State.get_put_zero _ _ (by simp [Fld.REEF_PORTn_STAT_CAP]) (by simp [Fld.REEF_PORTn_STAT_CAP])⟩
  · refine (State.get_put_field _ (Fld.REEF_PORTn_STAT_LAST_REASON n) (Fld.REEF_PORTn_STAT_STATE n) _ rfl
      (by simp [Fld.REEF_PORTn_STAT_LAST_REASON]) (by simp [Fld.REEF_PORTn_STAT_LAST_REASON])
      (.inr (by decide : 1 < 4))).trans ?_
    exact State.get_put_fit _ _ _ (by simp [Fld.REEF_PORTn_STAT_STATE]) (by simp [Fld.REEF_PORTn_STAT_STATE])
      (by simp [Fld.REEF_PORTn_STAT_STATE])
  · exact State.get_put_fit _ _ _ (by simp [Fld.REEF_PORTn_STAT_LAST_REASON]) (by simp [Fld.REEF_PORTn_STAT_LAST_REASON])
      (by simpa [Fld.REEF_PORTn_STAT_LAST_REASON] using hr)

theorem keepsRegs_statWoken (s : State) (n reason : Nat) : s.keepsRegs (s.statWoken n reason) [Reg.REEF_PORTn_STAT n] :=
  ((State.keepsRegs_put s (Fld.REEF_PORTn_STAT_STATE n) 3).put (Fld.REEF_PORTn_STAT_LAST_REASON n) reason
    (List.mem_singleton.2 rfl)).put (Fld.REEF_PORTn_STAT_CAP n) 0 (List.mem_singleton.2 rfl)

theorem keeps_statWoken (s : State) (n reason : Nat) : s.keeps (s.statWoken n reason) [] :=
  (((State.keeps_refl s).put _ _).put _ _).put _ _

theorem wokenAlone_reefWake (h : s.reefState n = 2) (hr : reason < 8) (h3 : reason ≠ 3) (h5 : reason ≠ 5) :
    s.wokenAlone (s.reefWake n reason) n reason := by
  have hcnt : ∀ o ∈ pair64 (Reg.REEF_CNTn_k n 1), o ∉ [Reg.REEF_PORTn_STAT n] := by
    simp only [pair64, List.mem_cons, List.not_mem_nil, or_false, Reg.REEF_PORTn_STAT, Reg.REEF_CNTn_k]
    omega
  obtain ⟨hstate, hreason, hcap⟩ := get_statWoken s n hr
  have hregs := keepsRegs_statWoken s n reason
  have hkeeps := keeps_statWoken s n reason
  have heq : ∃ p : ReefPort, p.capturing = true ∧ p.txWake = .none ∧
      s.reefWake n reason = ((s.statWoken n reason).count (Reg.REEF_CNTn_k n 1)).setReef n p :=
    ⟨_, rfl, if_neg fun ⟨hn, _⟩ => hn.elim h3 h5, if_pos h⟩
  generalize s.statWoken n reason = a at *
  obtain ⟨p, hp, htx, heq⟩ := heq
  rw [heq]
  have hstat : Reg.REEF_PORTn_STAT n ∉ pair64 (Reg.REEF_CNTn_k n 1) := fun ho => hcnt _ ho (.head _)
  have hcount := State.keepsRegs_count a (Reg.REEF_CNTn_k n 1) 1
  have hreg64 : a.reg64 (Reg.REEF_CNTn_k n 1) = s.reg64 (Reg.REEF_CNTn_k n 1) :=
    hregs.reg64_pair hcnt
  refine ⟨⟨(hcount.get hstat).trans hstate, (hcount.get hstat).trans hreason, (hcount.get hstat).trans hcap, ?_, ?_, ?_⟩,
    ?_, ?_⟩
  · rw [reg64_setReef, State.reg64_count, hreg64]
  · rw [reefOf_setReef, hp]
  · rw [reefOf_setReef, htx]
  · exact (State.keepsRegs_back (State.keepsRegs_mono hregs (by simp)) hcount fun _ => .tail _).setReef _ _
  · exact ((State.keeps_mono hkeeps (by simp)).count _ _).setReef _ _ (.head _)

/-- The wake of a state that differs in its Reef controllers alone. -/
theorem State.wokenAlone.of_reef (h : y.wokenAlone x n reason) (hr : y.regs = s.regs) (hk : s.keeps y [.reef]) :
    s.wokenAlone x n reason := by
  obtain ⟨⟨hstate, hreason, hcap, hcount, hcapturing, htx⟩, hregs, hkeeps⟩ := h
  have hreg : ∀ o, y.reg o = s.reg o := State.reg_of_regs hr
  refine ⟨⟨hstate, hreason, hcap, ?_, hcapturing, htx⟩, fun o ho => (hregs o ho).trans (hreg o),
    State.keeps_back hk hkeeps fun _ hp => hp⟩
  have hreg64 : y.reg64 (Reg.REEF_CNTn_k n 1) = s.reg64 (Reg.REEF_CNTn_k n 1) := by simp only [State.reg64, hreg]
  rw [← hreg64]
  exact hcount

theorem wokenAlone_at (h : s.reefState n = 2) (hr : reason < 8) (h3 : reason ≠ 3) (h5 : reason ≠ 5) (t : Tai) :
    s.wokenAlone ((s.at t).reefWake n reason) n reason :=
  (wokenAlone_reefWake (s := s.at t) h hr h3 h5).of_reef rfl (.at s t _)

theorem wokenAlone_withQueue (h : s.wokenAlone x n reason) (q : List Instr) : s.wokenAlone (x.withQueue q) n reason := by
  obtain ⟨hwoken, hregs, hkeeps⟩ := h
  exact ⟨hwoken, hregs, (State.keeps_withQueue ..).2 hkeeps⟩

theorem answers_wakePattern (hs : s.up = true) (hn : n < 48) (dom1 rc dom2 : Nat) :
    let filt := s.cur (Fld.REEF_PORTn_CFG_FILT n) * 250
    answers (exec (.wakePattern n dom1 rc dom2 t) s) fun u =>
      if s.reefState n = 2 ∧ s.cur (Fld.REEF_PORTn_CFG_WAKE_MODE n) = 1 ∧ filt ≤ min dom1 (min rc dom2) ∧
          dom1 + rc + filt ≤ s.cur (Fld.REEF_PORTn_CFG_WUP_TMO n) * 1000 then s.wokenAlone u n 1
      else s.keepsRegs u [] ∧ s.keeps u [] := by
  intro filt
  refine answers_when (m := "WAKE_PATTERN") hs (decide_eq_true hn) t (fun h => ?_) fun h => ?_
  · obtain ⟨hstate, hmode, hfilt, htmo⟩ := h
    obtain ⟨h1, h2, h3⟩ : filt ≤ dom1 ∧ filt ≤ rc ∧ filt ≤ dom2 := by simpa only [le_min_iff] using hfilt
    exact ⟨_, if_pos ⟨hmode, h1, h2, h3, htmo⟩,
      wokenAlone_withQueue (wokenAlone_at hstate (by decide) (by decide) (by decide) t) _⟩
  · refine ite_eq_right_iff.2 fun ⟨hmode, h1, h2, h3, htmo⟩ => reefWake_awake fun hstate => h ?_
    exact ⟨hstate, hmode, le_min h1 (le_min h2 h3), htmo⟩

/-- The decoder of a port has read a frame without error (R196). -/
def State.decoded (s : State) (n : Nat) : State := s.setReef n { s.reefOf n with decErrs := 0 }

theorem answers_wakeFrame (hs : s.up = true) (hn : n < 48) (w : Wire) (hw : w.kind ≤ 2) :
    answers (exec (.wakeFrame n w t) s) fun u =>
      if s.reefState n = 2 ∧ s.cur (Fld.REEF_PORTn_CFG_WAKE_MODE n) = 2 then
        (if w.kind ≠ 0 then u.reg64 (Reg.REEF_CNTn_k n 2) = (s.reg64 (Reg.REEF_CNTn_k n 2) + 1) % 2 ^ 64 ∧
           s.keepsRegs u (pair64 (Reg.REEF_CNTn_k n 2)) ∧ s.keeps u []
         else if s.wakeAny n w then s.wokenAlone u n 2
         else (u.reefOf n).decErrs = 0 ∧ s.keepsRegs u [] ∧ s.keeps u [.reef])
      else s.keepsRegs u [] ∧ s.keeps u [] := by
  refine answers_when (m := "WAKE_FRAME") hs (decide_eq_true ⟨hn, hw⟩) t (fun h => ?_) fun h => if_neg h
  by_cases hkind : w.kind ≠ 0
  · refine ⟨_, (if_pos h).trans (if_pos hkind), ?_⟩
    rw [if_pos hkind]
    have hcount : ((s.at t).count (Reg.REEF_CNTn_k n 2) 1).reg64 (Reg.REEF_CNTn_k n 2) = _ := State.reg64_count ..
    exact ⟨(reg64_withQueue ..).trans hcount, (State.keepsRegs_withQueue ..).2 (State.keepsRegs_count (s.at t) _ 1),
      (State.keeps_withQueue ..).2 ((State.keeps.at s t _).count _ _)⟩
  · have hkeeps : s.keeps ((s.at t).decoded n) [.reef] := State.keeps.setReef (.at s t _) _ _ (.head _)
    have herrs : (((s.at t).decoded n).reefOf n).decErrs = 0 := congrArg ReefPort.decErrs (reefOf_setReef ..)
    by_cases hmatch : s.wakeAny n w = true
    · refine ⟨_, (if_pos h).trans ((if_neg hkind).trans (if_pos hmatch)), ?_⟩
      rw [if_neg hkind, if_pos hmatch]
      have hwoken := wokenAlone_reefWake (s := (s.at t).decoded n) (reason := 2) h.1 (by decide) (by decide) (by decide)
      exact wokenAlone_withQueue (hwoken.of_reef (s := s) rfl hkeeps) _
    · refine ⟨_, (if_pos h).trans ((if_neg hkind).trans (if_neg hmatch)), ?_⟩
      rw [if_neg hkind, if_neg hmatch]
      exact ⟨herrs, State.keepsRegs_refl s, (State.keeps_withQueue ..).2 hkeeps⟩

theorem answers_musterPreWake (hs : s.up = true) (hn : n < 48) :
    answers (exec (.musterPreWake n t) s) fun u =>
      if s.reefState n = 2 ∧ s.spanOverlaps n t (t + 1) = true then s.wokenAlone u n 4
      else s.keepsRegs u [] ∧ s.keeps u [] := by
  refine answers_when (m := "MUSTER_PRE_WAKE") hs (decide_eq_true hn) t (fun ⟨hstate, hspan⟩ => ?_) fun h => ?_
  · exact ⟨_, if_pos hspan, wokenAlone_withQueue (wokenAlone_at hstate (by decide) (by decide) (by decide) t) _⟩
  · exact ite_eq_right_iff.2 fun hspan => reefWake_awake fun hstate => h ⟨hstate, hspan⟩

/-- A wake that an event tells of. -/
theorem wokenFor_raise (h : s.wokenAlone x n reason) (hn : n < 48) (c u : Nat) (d : List Detail) :
    s.wokenFor (x.raise c u d) n reason ∧
      s.keepsRegs (x.raise c u d) (Reg.REEF_PORTn_STAT n :: (pair64 (Reg.REEF_CNTn_k n 1) ++ dropCounters)) ∧
      s.keeps (x.raise c u d) (.reef :: eventParts) := by
  obtain ⟨⟨hstate, hreason, hcap, hcount, hcapturing, htx⟩, hregs, hkeeps⟩ := h
  have hr := State.keepsRegs_raise x c u d
  have hstat : Reg.REEF_PORTn_STAT n ∉ dropCounters :=
    not_mem_dropCounters_between (by unfold Reg.REEF_PORTn_STAT; omega) (by unfold Reg.REEF_PORTn_STAT; omega)
  have hreef : (x.raise c u d).reefOf n = x.reefOf n := reefOf_of_reef (State.raise_reef ..) n
  refine ⟨⟨(hr.get hstat).trans hstate, (hr.get hstat).trans hreason, (hr.get hstat).trans hcap,
    (hr.reg64_pair ?_).trans hcount, ?_, ?_⟩, ?_, ?_⟩
  · intro a ha
    simp only [pair64, List.mem_cons, List.not_mem_nil, or_false, Reg.REEF_CNTn_k] at ha
    exact not_mem_dropCounters_between (by omega) (by omega)
  · rw [hreef, hcapturing]
  · rw [hreef, htx]
  · exact State.keepsRegs_mono (State.keepsRegs_trans hregs hr) (by simp)
  · exact State.keeps_mono (State.keeps_trans hkeeps (State.keeps_raise x c u d)) (by simp)

theorem answers_reefDecWake (hs : s.up = true) (hn : n < 48) :
    answers (exec (.reefDecWake n t) s) fun u =>
      if s.reefState n = 2 ∧ s.cur (Fld.REEF_PORTn_CFG_WAKE_MODE n) = 2 ∧ s.on (Fld.REEF_PORTn_CFG_DEC_WAKE_EN n) = true ∧
          32 ≤ (s.reefOf n).decErrs then
        s.wokenFor u n 6 ∧ u.told 0x0805 (unitOf 1 n) [n8 (s.reg64 (Reg.REEF_CNTn_k n 3))] ∧
          s.keepsRegs u (Reg.REEF_PORTn_STAT n :: (pair64 (Reg.REEF_CNTn_k n 1) ++ dropCounters)) ∧
          s.keeps u (.reef :: eventParts)
      else s.keepsRegs u [] ∧ s.keeps u [] := by
  refine answers_when (m := "REEF_DEC_WAKE") hs (decide_eq_true hn) t (fun h => ⟨_, if_pos h, ?_⟩) fun h => if_neg h
  have hwoken := wokenAlone_at h.1 (reason := 6) (by decide) (by decide) (by decide) t
  obtain ⟨hshown, hregs, hkeeps⟩ := wokenFor_raise hwoken hn 0x0805 (unitOf 1 n) [n8 (s.reg64 (Reg.REEF_CNTn_k n 3))]
  exact ⟨hshown, State.told_raise .., hregs, (State.keeps_withQueue ..).2 hkeeps⟩

end

end Sys2Proof.Machine

namespace Sys2Proof.Machine

/-! ### Wake transmissions (R199) and insomnia (R201) -/

section
variable {s : State} {n : Nat} {t : Tai}

@[simp] theorem reefOf_withQueue (s : State) (q : List Instr) (n : Nat) : (s.withQueue q).reefOf n = s.reefOf n := rfl

@[simp] theorem queue_withQueue (s : State) (q : List Instr) (p c : Nat) : (s.withQueue q).queue p c = s.queue p c := rfl
@[simp] theorem reefOf_emit (s : State) (x : Output) (n : Nat) : (s.emit x).reefOf n = s.reefOf n := rfl

/-- A field that is written as it reads leaves the register. -/
theorem setBits_bits (v hi lo : Nat) : setBits v hi lo (bits v hi lo) = v := by
  have hle : bits v hi lo * 2 ^ lo ≤ v :=
    (Nat.mul_le_mul_right _ (Nat.mod_le _ _)).trans (Nat.div_mul_le_self _ _)
  have hmod : bits v hi lo % 2 ^ (hi + 1 - lo) = bits v hi lo := Nat.mod_mod _ _
  unfold setBits
  rw [hmod, Nat.sub_add_cancel hle]

theorem keepsRegs_put_get (s : State) (f : Fld) : s.keepsRegs (s.put f (s.get f)) [] := by
  intro o _
  unfold State.put State.get
  rw [State.reg_setReg, setBits_bits, BitVec.ofNat_toNat, BitVec.setWidth_eq]
  split
  · next h => rw [h]
  · rfl

/-- A frame outside packet memory's blocks takes none of them. -/
theorem keepsRegs_alloc (s : State) {f : Frame} (hf : f.blocks = 0) : s.keepsRegs (s.alloc f).2 [] := by
  have hput := keepsRegs_put_get s Fld.FAB_FREE_BLOCKS
  unfold State.alloc State.freeBlocks
  rw [hf]
  exact hput

theorem keeps_alloc (s : State) (f : Frame) : s.keeps (s.alloc f).2 [.fab] :=
  State.keeps_fab _ ((State.keeps_mono (State.keeps_refl s) (by simp)).put _ _) (.head _)

theorem queue_alloc (s : State) (f : Frame) (p c : Nat) : (s.alloc f).2.queue p c = s.queue p c := rfl

/-- The wake frame is the one in force. -/
theorem wakeWire_of_live {x : State} (h : x.live = s.live) (n : Nat) : x.wakeWire n = s.wakeWire n := by
  unfold State.wakeWire State.on State.cur
  simp only [State.liveReg_of_live h]

/-- The wake frame of a port goes ahead of its class 7. -/
def State.wakeQueued (s : State) (n : Nat) : State :=
  let z := s.setReef n { s.reefOf n with txWake := .running }
  let y := z.alloc (deviceFrame .wakeFrame n 7 (z.wakeWire n))
  y.2.setQueue n 7 ({ fid := y.1, port := n, wire := y.2.wakeWire n, ready := true, addAfa := false, ahead := false,
                      attempts := 0 } :: y.2.queue n 7)

theorem wakeQueued_queues (s : State) (n : Nat) :
    (((s.wakeQueued n).reefOf n).txWake = .running) ∧
      (∃ c : Copy, (s.wakeQueued n).queue n 7 = c :: s.queue n 7 ∧ c.wire = s.wakeWire n ∧ c.ready = true ∧ c.port = n) ∧
      s.keepsRegs (s.wakeQueued n) [Reg.FAB_QSTATp n] ∧ s.keeps (s.wakeQueued n) [.reef, .fab] := by
  unfold State.wakeQueued
  extract_lets p z y
  have hreef : (z.reefOf n).txWake = .running := by rw [reefOf_setReef]
  have hregs : s.keepsRegs z [] := (State.keepsRegs_refl s).setReef _ _
  have hkeeps : s.keeps z [.reef, .fab] := (State.keeps_mono (State.keeps_refl s) (by simp)).setReef _ _ (.head _)
  have hy : z.keepsRegs y.2 [] := keepsRegs_alloc z rfl
  have hk : z.keeps y.2 [.fab] := keeps_alloc z _
  have hqueue : y.2.queue n 7 = s.queue n 7 := queue_alloc z _ n 7
  have hwire : y.2.wakeWire n = s.wakeWire n := wakeWire_of_live rfl n
  clear_value y z
  rw [hqueue, hwire]
  obtain ⟨fid, x⟩ := y
  dsimp only at hy hk ⊢
  have hset := keeps_setQueue x n 7
  refine ⟨?_, ⟨_, queue_setQueue .., rfl, rfl, rfl⟩, ?_, ?_⟩
  · rw [reefOf_of_reef ((hset _ .reef (by decide)).trans (hk .reef (by decide)))]
    exact hreef
  · exact State.keepsRegs_mono (State.keepsRegs_trans hregs (State.keepsRegs_trans hy (keepsRegs_setQueue x n 7 _))) (by simp)
  · exact State.keeps_back hkeeps (State.keeps_trans hk (hset _)) (by simp)

theorem answers_reefTxWake (hs : s.up = true) (hn : n < 48) :
    answers (exec (.reefTxWake n [] t) s) fun u =>
      if (s.reefOf n).txWake = .due ∧ s.canDrives n = true ∧ s.sending n = none then
        (if s.cur (Fld.REEF_PORTn_TXWAKE_MODE n) = 1 then
           u.out = [.wakePattern n (s.cur (Fld.REEF_PORTn_TXWAKE_PHASE_US n))] ∧ (u.reefOf n).txWake = .delay ∧
             (u.reefOf n).delayFrom = max s.time.now t + 3 * s.cur (Fld.REEF_PORTn_TXWAKE_PHASE_US n) * 1000 ∧
             s.keepsRegs u [] ∧ s.keeps u [.reef]
         else if s.cur (Fld.REEF_PORTn_TXWAKE_MODE n) = 2 then
           (u.reefOf n).txWake = .running ∧ (∃ c : Copy, u.queue n 7 = c :: s.queue n 7 ∧ c.wire = s.wakeWire n ∧
             c.ready = true ∧ c.port = n) ∧ s.keepsRegs u [Reg.FAB_QSTATp n] ∧ s.keeps u [.reef, .fab]
         else (u.reefOf n).txWake = .none ∧ s.keepsRegs u [] ∧ s.keeps u [.reef])
      else s.keepsRegs u [] ∧ s.keeps u [] := by
  have hreef : ∀ p : ReefPort, s.keeps ((s.at t).setReef n p) [.reef] := fun p => State.keeps.setReef (.at s t _) _ _ (.head _)
  refine answers_when (m := "REEF_TX_WAKE") hs (decide_eq_true ⟨hn, rfl⟩) t (fun h => ?_) fun h =>
    if_neg fun ⟨hdue, hdrives, hfree⟩ => h ⟨hdue, hdrives, Option.isNone_iff_eq_none.1 hfree⟩
  have hwhen : (s.reefOf n).txWake = .due ∧ s.canDrives n = true ∧ (s.sending n).isNone = true :=
    ⟨h.1, h.2.1, Option.isNone_iff_eq_none.2 h.2.2⟩
  by_cases hpattern : s.cur (Fld.REEF_PORTn_TXWAKE_MODE n) = 1
  · refine ⟨_, (if_pos hwhen).trans (if_pos hpattern), ?_⟩
    rw [if_pos hpattern]
    rw [reefOf_withQueue, reefOf_emit, reefOf_setReef]
    refine ⟨rfl, rfl, rfl, State.keepsRegs_refl s, ?_⟩
    exact (State.keeps_withQueue ..).2 (State.keeps_back (hreef _) (State.keeps_emit _ _) (by simp))
  · by_cases hframe : s.cur (Fld.REEF_PORTn_TXWAKE_MODE n) = 2
    · refine ⟨(s.at t).wakeQueued n, (if_pos hwhen).trans ((if_neg hpattern).trans (if_pos hframe)), ?_⟩
      rw [if_neg hpattern, if_pos hframe]
      obtain ⟨hrunning, ⟨c, hqueue, hwire, hc⟩, hregs, hkeeps⟩ := wakeQueued_queues (s.at t) n
      rw [wakeWire_of_live (x := s.at t) (s := s) rfl n] at hwire
      generalize (s.at t).wakeQueued n = x at *
      rw [reefOf_withQueue, queue_withQueue]
      exact ⟨hrunning, ⟨c, hqueue, hwire, hc⟩, (State.keepsRegs_withQueue ..).2 ((State.keepsRegs_from_at ..).1 hregs),
        (State.keeps_withQueue ..).2 ((State.keeps_from_at ..).1 hkeeps)⟩
    · refine ⟨_, (if_pos hwhen).trans ((if_neg hpattern).trans (if_neg hframe)), ?_⟩
      rw [if_neg hpattern, if_neg hframe]
      rw [reefOf_withQueue, reefOf_setReef]
      exact ⟨rfl, State.keepsRegs_refl s, (State.keeps_withQueue ..).2 (hreef _)⟩

theorem answers_reefTxWakeDelay (hs : s.up = true) (hn : n < 48) :
    answers (exec (.reefTxWakeDelay n t) s) fun u =>
      if (s.reefOf n).txWake = .delay ∧
          (s.reefOf n).delayFrom + s.cur (Fld.REEF_PORTn_TXWAKE_DELAY_US n) * 1000 ≤ max s.time.now t then
        (u.reefOf n).txWake = .none ∧ s.keepsRegs u [] ∧ s.keeps u [.reef]
      else s.keepsRegs u [] ∧ s.keeps u [] := by
  refine answers_when (m := "REEF_TX_WAKE_DELAY") hs (decide_eq_true hn) t (fun h => ⟨_, if_pos h, ?_⟩) fun h => if_neg h
  rw [reefOf_withQueue, reefOf_setReef]
  exact ⟨rfl, State.keepsRegs_refl s, (State.keeps_withQueue ..).2 (State.keeps.setReef (.at s t _) _ _ (.head _))⟩

/-- The awake time of a port is told with its top keeper, and its keepers are journaled. -/
def State.insomniaTold (s : State) (n : Nat) (t : Tai) : State :=
  let (key, count) := match s.topKeeper n with
    | some i => (s.w (Reg.REEF_KPn_i_KEY n i), s.get (Fld.REEF_KPn_i_INFO_COUNT n i))
    | none => (0, 0)
  let y := s.raise 0x0801 (unitOf 1 n) [n4 key, n4 count, n8 (s.awakeNs n t)]
  y.log 4 (le 4 (Reg.REEF_KPn_i_KEY n 0) ++ le 2 64 ++ le 2 0 ++ y.keeperBytes n)

theorem insomniaTold_eq (s : State) (n : Nat) (t : Tai) : ∃ key count b,
    s.insomniaTold n t = (s.raise 0x0801 (unitOf 1 n) [n4 key, n4 count, n8 (s.awakeNs n t)]).log 4 b := by
  unfold State.insomniaTold
  split
  exact ⟨_, _, _, rfl⟩

theorem insomniaTold_tells (s : State) (n : Nat) (t : Tai) :
    (∃ e ∈ (s.insomniaTold n t).ev.raised, e.code = 0x0801 ∧ e.unit = unitOf 1 n ∧
      e.detail.getLast? = some (n8 (s.awakeNs n t))) ∧ (s.insomniaTold n t).reef = s.reef ∧
      s.keepsRegs (s.insomniaTold n t) dropCounters ∧ s.keeps (s.insomniaTold n t) eventParts := by
  obtain ⟨key, count, b, heq⟩ := insomniaTold_eq s n t
  rw [heq]
  have hregs := State.keepsRegs_raise s 0x0801 (unitOf 1 n) [n4 key, n4 count, n8 (s.awakeNs n t)]
  have hkeeps := State.keeps_raise s 0x0801 (unitOf 1 n) [n4 key, n4 count, n8 (s.awakeNs n t)]
  obtain ⟨e, he, hcode, hunit, hdetail⟩ := State.told_raise s 0x0801 (unitOf 1 n) [n4 key, n4 count, n8 (s.awakeNs n t)]
  have hreef := State.raise_reef s 0x0801 (unitOf 1 n) [n4 key, n4 count, n8 (s.awakeNs n t)]
  generalize s.raise 0x0801 (unitOf 1 n) [n4 key, n4 count, n8 (s.awakeNs n t)] = y at *
  refine ⟨⟨e, (raised_log ..).subset he, hcode, hunit, by rw [hdetail]; rfl⟩, (State.log_reef ..).trans hreef, ?_, ?_⟩
  · exact State.keepsRegs_back hregs (State.keepsRegs_log y 4 b) fun _ ho => ho
  · exact State.keeps_back hkeeps (State.keeps_log y 4 b) fun _ hp => hp

/-- A multiple of INSOMNIA_S is dealt with. -/
def State.insomniaAt (s : State) (n due : Nat) : State := s.setReef n { s.reefOf n with insom := due }

theorem awakeNs_insomniaAt (s : State) (n due : Nat) (t : Tai) : (s.insomniaAt n due).awakeNs n t = s.awakeNs n t := by
  have h : ((s.insomniaAt n due).reefOf n).awakeFrom = (s.reefOf n).awakeFrom := by
    unfold State.insomniaAt
    rw [reefOf_setReef]
  unfold State.awakeNs
  rw [h]
  rfl

theorem answers_reefInsomnia (hs : s.up = true) (hn : n < 48) :
    let every := s.cur (Fld.REEF_PORTn_INSOM_INSOMNIA_S n)
    let due := ((s.reefOf n).insom / every + 1) * every
    answers (exec (.reefInsomnia n t) s) fun u =>
      if 0 < every ∧ due * 1000000000 ≤ s.awakeNs n t then
        (u.reefOf n).insom = due ∧ (∃ e ∈ u.ev.raised, e.code = 0x0801 ∧ e.unit = unitOf 1 n ∧
          e.detail.getLast? = some (n8 (s.awakeNs n t))) ∧ s.keepsRegs u dropCounters ∧ s.keeps u (.reef :: eventParts)
      else s.keepsRegs u [] ∧ s.keeps u [] := by
  intro every due
  refine answers_when (m := "REEF_INSOMNIA") hs (decide_eq_true hn) t
    (fun h => ⟨((s.at t).insomniaAt n due).insomniaTold n t, if_pos h, ?_⟩) fun h => if_neg h
  have hkeeps : s.keeps ((s.at t).insomniaAt n due) [.reef] := State.keeps.setReef (.at s t _) _ _ (.head _)
  have hdue : (((s.at t).insomniaAt n due).reefOf n).insom = due := by
    unfold State.insomniaAt
    rw [reefOf_setReef]
  have hregs : s.keepsRegs ((s.at t).insomniaAt n due) [] := State.keepsRegs_refl s
  have hawake : ((s.at t).insomniaAt n due).awakeNs n t = s.awakeNs n t := awakeNs_insomniaAt (s.at t) n due t
  generalize (s.at t).insomniaAt n due = x at *
  obtain ⟨htold, hreef, hr, hk⟩ := insomniaTold_tells x n t
  rw [hawake] at htold
  generalize x.insomniaTold n t = y at *
  exact ⟨by rw [reefOf_withQueue, reefOf_of_reef hreef, hdue], htold, State.keepsRegs_trans hregs hr,
    (State.keeps_withQueue ..).2 (State.keeps_trans hkeeps hk)⟩

end

end Sys2Proof.Machine

namespace Sys2Proof.Machine

/-! ### Work on the Reef controllers -/

/-- What work on the Reef controllers leaves: the values in force, the requests, and the registers of every other block. -/
structure ReefWork (s u : State) : Prop where
  live : u.live = s.live
  cmds : u.cmds = s.cmds
  reg : ∀ o, o < 0x140010 ∨ 0x150000 ≤ o → u.reg o = s.reg o

section
variable {s x y : State} {n : Nat}

theorem ReefWork.refl (s : State) : ReefWork s s := ⟨rfl, rfl, fun _ _ => rfl⟩

theorem ReefWork.trans (h : ReefWork s x) (g : ReefWork x y) : ReefWork s y :=
  ⟨g.live.trans h.live, g.cmds.trans h.cmds, fun o ho => (g.reg o ho).trans (h.reg o ho)⟩

theorem ReefWork.get (h : ReefWork s x) {f : Fld} (hf : f.off < 0x140010) : x.get f = s.get f :=
  State.get_of_reg (h.reg _ (.inl hf))

theorem ReefWork.ite {c : Prop} [Decidable c] (h : ReefWork s x) (g : ReefWork s y) : ReefWork s (if c then x else y) := by
  split <;> assumption

/-- Other parts of the state may change. -/
theorem ReefWork.parts (h : ReefWork s x) (hl : y.live = x.live) (hc : y.cmds = x.cmds) (hr : y.regs = x.regs) : ReefWork s y :=
  h.trans ⟨hl, hc, fun o _ => State.reg_of_regs hr o⟩

theorem ReefWork.setReef (h : ReefWork s x) (m : Nat) (p : ReefPort) : ReefWork s (x.setReef m p) := h.parts rfl rfl rfl

theorem ReefWork.setReg (h : ReefWork s x) {o : Nat} (v : Word) (ho : 0x140010 ≤ o) (ho' : o < 0x150000) :
    ReefWork s (x.setReg o v) :=
  h.trans ⟨rfl, rfl, fun a ha => State.reg_setReg_ne _ _ (by omega)⟩

theorem ReefWork.put (h : ReefWork s x) (f : Fld) (v : Nat) (ho : 0x140010 ≤ f.off) (ho' : f.off < 0x150000) :
    ReefWork s (x.put f v) := h.setReg _ ho ho'

theorem ReefWork.setReg64 (h : ReefWork s x) {o : Nat} (v : Nat) (ho : 0x140010 ≤ o) (ho' : o + 4 < 0x150000) :
    ReefWork s (x.setReg64 o v) := (h.setReg _ ho (by omega)).setReg _ (by omega) ho'

theorem ReefWork.foldl {α : Type} {as : List α} {g : State → α → State} (h : ReefWork s x)
    (hg : ∀ z, ∀ a ∈ as, ReefWork s z → ReefWork s (g z a)) : ReefWork s (as.foldl g x) :=
  List.foldlRecOn (motive := ReefWork s) as g h fun z hz a ha => hg z a ha hz

/-- The registers that show a port's Reef state. -/
def reefShown (n : Nat) : List Nat :=
  [Reg.REEF_PORTn_AWAKE n, Reg.REEF_PORTn_STAT n, Reg.REEF_SLEEP_MAP0, Reg.REEF_SLEEP_MAP1]

theorem mem_reefShown {o : Nat} (hn : n < 48) (h : o ∈ reefShown n) : 0x140010 ≤ o ∧ o < 0x142000 := by
  simp only [reefShown, List.mem_cons, List.not_mem_nil, or_false, Reg.REEF_PORTn_AWAKE, Reg.REEF_PORTn_STAT,
    Reg.REEF_SLEEP_MAP0, Reg.REEF_SLEEP_MAP1] at h
  omega

theorem keepsRegs_setReefState (s : State) (n st : Nat) : s.keepsRegs (s.setReefState n st) (reefShown n) := by
  have hs : s.keepsRegs s (reefShown n) := State.keepsRegs_mono (State.keepsRegs_refl s) (by simp)
  unfold State.setReefState
  extract_lets ms y z b
  have hy : s.keepsRegs y (reefShown n) := State.keepsRegs_ite (hs.setReg _ (by simp [reefShown])) hs
  have hz : s.keepsRegs z (reefShown n) := hy.put (Fld.REEF_PORTn_STAT_STATE n) _
    (by simp [reefShown, Fld.REEF_PORTn_STAT_STATE])
  exact State.keepsRegs_ite (hz.setReg _ (by simp [reefShown])) (hz.setReg _ (by simp [reefShown]))

theorem keeps_setReefState (s : State) (n st : Nat) : s.keeps (s.setReefState n st) [] := by
  unfold State.setReefState
  extract_lets ms y z b
  have hy : s.keeps y [] := State.keeps_ite ((State.keeps_refl s).setReg _ _) (State.keeps_refl s)
  exact State.keeps_ite ((hy.put _ _).setReg _ _) ((hy.put _ _).setReg _ _)

theorem reefState_setReefState (s : State) (n : Nat) {st : Nat} (hst : st < 4) : (s.setReefState n st).reefState n = st := by
  have hmap : ∀ (z : State) (o : Nat) (v : Word), o ∈ [Reg.REEF_SLEEP_MAP0, Reg.REEF_SLEEP_MAP1] →
      (z.setReg o v).reefState n = z.reefState n := fun z o v ho =>
    State.get_of_reg (State.reg_setReg_ne _ _ (by
      simp only [List.mem_cons, List.not_mem_nil, or_false, Reg.REEF_SLEEP_MAP0, Reg.REEF_SLEEP_MAP1] at ho
      simp only [Fld.REEF_PORTn_STAT_STATE, Reg.REEF_PORTn_STAT]
      omega))
  unfold State.setReefState
  extract_lets ms y z b
  have hz : z.reefState n = st := State.get_put_fit _ _ _ (by simp [Fld.REEF_PORTn_STAT_STATE])
    (by simp [Fld.REEF_PORTn_STAT_STATE]) (by simpa [Fld.REEF_PORTn_STAT_STATE] using hst)
  split
  · rw [hmap _ _ _ (by simp), hz]
  · rw [hmap _ _ _ (by simp), hz]

theorem ReefWork.of_keeps {p : List Part} {l : List Nat} (h : ReefWork s x) (hk : x.keeps y p)
    (hp : Part.live ∉ p ∧ Part.cmds ∉ p) (hr : x.keepsRegs y l) (hl : ∀ o ∈ l, 0x140010 ≤ o ∧ o < 0x150000) :
    ReefWork s y :=
  h.trans ⟨hk .live hp.1, hk .cmds hp.2, fun o ho => hr o fun hm => by have := hl o hm; omega⟩

theorem ReefWork.setReefState (h : ReefWork s x) (hn : n < 48) (st : Nat) : ReefWork s (x.setReefState n st) :=
  h.of_keeps (keeps_setReefState x n st) (by simp) (keepsRegs_setReefState x n st) fun o ho => by
    have := mem_reefShown hn ho
    omega

/-! ### Keeper tables -/

theorem ReefWork.keeperClear (h : ReefWork s x) (hn : n < 48) : ReefWork s (x.keeperClear n) :=
  h.foldl fun z i hi hz => by
    have hi := List.mem_range.1 hi
    have hkey : 0x140010 ≤ Reg.REEF_KPn_i_KEY n i ∧ Reg.REEF_KPn_i_KEY n i < 0x150000 := by
      unfold Reg.REEF_KPn_i_KEY
      omega
    have hinfo : 0x140010 ≤ Reg.REEF_KPn_i_INFO n i ∧ Reg.REEF_KPn_i_INFO n i < 0x150000 := by
      unfold Reg.REEF_KPn_i_INFO
      omega
    exact ((hz.setReg _ hkey.1 hkey.2).setReg _ hinfo.1 hinfo.2).setReg64 _ (by unfold Reg.REEF_KPn_i_TIME; omega)
      (by unfold Reg.REEF_KPn_i_TIME; omega)

/-- A port's state is no part of its keeper table. -/
theorem reefState_keeperClear (s : State) (hn : n < 48) : (s.keeperClear n).reefState n = s.reefState n := by
  refine List.foldlRecOn (motive := fun z : State => z.reefState n = s.reefState n) _ _ rfl fun z hz i _ => ?_
  refine Eq.trans (State.get_of_reg ?_) hz
  have hstat : (Fld.REEF_PORTn_STAT_STATE n).off < 0x142000 := by
    simp only [Fld.REEF_PORTn_STAT_STATE, Reg.REEF_PORTn_STAT]
    omega
  rw [State.reg_setReg64 _ _ _ _ (by unfold Reg.REEF_KPn_i_TIME; omega) (by unfold Reg.REEF_KPn_i_TIME; omega),
    State.reg_setReg_ne _ _ (by unfold Reg.REEF_KPn_i_INFO; omega), State.reg_setReg_ne _ _ (by unfold Reg.REEF_KPn_i_KEY; omega)]

theorem ReefWork.reefAwake (h : ReefWork s x) (hn : n < 48) : ReefWork s (x.reefAwake n) :=
  ((h.setReefState hn 1).setReef _ _).keeperClear hn

theorem ReefWork.reefUnmanaged (h : ReefWork s x) (hn : n < 48) : ReefWork s (x.reefUnmanaged n) :=
  (h.setReefState hn 0).setReef _ _

theorem reefState_reefAwake (s : State) (hn : n < 48) : (s.reefAwake n).reefState n = 1 :=
  (reefState_keeperClear _ hn).trans (reefState_setReefState s n (by decide))

theorem reefState_reefUnmanaged (s : State) (n : Nat) : (s.reefUnmanaged n).reefState n = 0 :=
  reefState_setReefState s n (by decide)

/-! ### A CAN port changes state (Table 7.5, R172) -/

/-- The state word of a port, with the error counters of one that comes onto its bus anew. -/
def State.canEntered (s : State) (n st : Nat) : State :=
  let y := s.put (Fld.CANP_STATUS_STATE n) st
  if st = 1 ∧ (s.canState n = 0 ∨ s.canState n = 5 ∨ s.canState n = 6) then (y.setTec n 0).setRec n 0 else y

theorem keepsRegs_canEntered (s : State) (n st : Nat) :
    s.keepsRegs (s.canEntered n st) [Reg.CANP_STATUS n, Reg.CANP_ECNT n] := by
  have hput : s.keepsRegs (s.put (Fld.CANP_STATUS_STATE n) st) [Reg.CANP_STATUS n, Reg.CANP_ECNT n] :=
    State.keepsRegs_mono (State.keepsRegs_put s (Fld.CANP_STATUS_STATE n) st) (by simp [Fld.CANP_STATUS_STATE])
  unfold State.canEntered
  exact State.keepsRegs_ite ((hput.put (Fld.CANP_ECNT_TEC n) 0 (by simp [Fld.CANP_ECNT_TEC])).put (Fld.CANP_ECNT_REC n) _
    (by simp [Fld.CANP_ECNT_REC])) hput

theorem keeps_canEntered (s : State) (n st : Nat) : s.keeps (s.canEntered n st) [] := by
  unfold State.canEntered
  exact State.keeps_ite ((((State.keeps_refl s).put _ _).put _ _).put _ _) ((State.keeps_refl s).put _ _)

theorem canState_canEntered (s : State) (n : Nat) {st : Nat} (hst : st < 8) : (s.canEntered n st).canState n = st := by
  have hput : (s.put (Fld.CANP_STATUS_STATE n) st).canState n = st :=
    State.get_put_fit _ _ _ (by simp [Fld.CANP_STATUS_STATE]) (by simp [Fld.CANP_STATUS_STATE])
      (by simpa [Fld.CANP_STATUS_STATE] using hst)
  have hcnt : ∀ (z : State) (f : Fld) (v : Nat), f.off = Reg.CANP_ECNT n → (z.put f v).canState n = z.canState n :=
    fun z f v hf => State.get_put_reg _ _ _ _ (by
      rw [hf]
      simp only [Fld.CANP_STATUS_STATE, Reg.CANP_STATUS, Reg.CANP_ECNT]
      omega)
  unfold State.canEntered
  dsimp only
  split
  · exact ((hcnt _ (Fld.CANP_ECNT_REC n) _ rfl).trans (hcnt _ (Fld.CANP_ECNT_TEC n) _ rfl)).trans hput
  · exact hput

theorem counters_canEntered (h : s.canState n = 5) :
    (s.canEntered n 1).get (Fld.CANP_ECNT_TEC n) = 0 ∧ (s.canEntered n 1).get (Fld.CANP_ECNT_REC n) = 0 := by
  unfold State.canEntered
  dsimp only
  rw [if_pos ⟨rfl, .inr (.inl h)⟩]
  constructor
  · refine (State.get_put_field _ (Fld.CANP_ECNT_REC n) (Fld.CANP_ECNT_TEC n) _ rfl ?_ ?_ ?_).trans
      (State.get_put_zero _ _ ?_ ?_) <;> simp [Fld.CANP_ECNT_TEC, Fld.CANP_ECNT_REC]
  · exact State.get_put_zero _ _ (by simp [Fld.CANP_ECNT_REC]) (by simp [Fld.CANP_ECNT_REC])

/-- What a port's new state shows of its transmitter and its queues. -/
theorem canState_shown (s : State) (n : Nat) : ((s.canShow n).showQueues n).canState n = s.canState n := by
  refine ((keepsRegs_showQueues _ n).get ?_).trans (State.get_put_field _ (Fld.CANP_STATUS_TX_ENABLED n) _ _ rfl ?_ ?_ (.inr ?_))
  · simp only [Fld.CANP_STATUS_STATE, Reg.CANP_STATUS, Reg.FAB_QSTATp, List.mem_singleton]
    omega
  all_goals simp [Fld.CANP_STATUS_TX_ENABLED, Fld.CANP_STATUS_STATE]

theorem canStatus_between (hn : n < 48) : 0x100000 ≤ Reg.CANP_STATUS n ∧ Reg.CANP_STATUS n < 0x130000 := by
  unfold Reg.CANP_STATUS
  omega

/-- A port is in the state that it entered, wherever it came from. -/
theorem canState_setCanState (s : State) (hn : n < 48) {st : Nat} (hst : st < 8) : (s.setCanState n st).canState n = st := by
  have hoff : (Fld.CANP_STATUS_STATE n).off < 0x140010 ∧ (Fld.CANP_STATUS_STATE n).off ∉ dropCounters := by
    obtain ⟨hlo, hhi⟩ : 0x100000 ≤ (Fld.CANP_STATUS_STATE n).off ∧ (Fld.CANP_STATUS_STATE n).off < 0x130000 :=
      canStatus_between hn
    exact ⟨by omega, not_mem_dropCounters_between (by omega) (by omega)⟩
  have hb := canState_canEntered s n hst
  unfold State.setCanState
  extract_lets old a b c d e _ f _ g
  have hb : b.canState n = st := hb
  have hc : c.canState n = st := (get_message b hoff.2 (unitOf 1 n) st).trans hb
  have hd : d.canState n = st := by
    unfold d
    split
    · exact hc
    · exact hc
  have he : e.canState n = st := by
    unfold e
    split
    · exact ((ReefWork.refl d).reefUnmanaged hn).get hoff.1 |>.trans hd
    · split
      · exact ((ReefWork.refl d).reefAwake hn).get hoff.1 |>.trans hd
      · exact hd
  have hf : f.canState n = st := by
    unfold f
    split
    · exact he
    · exact he
  have hg : g.canState n = st := by
    unfold g
    split
    · exact hf
    · exact hf
  exact (canState_shown g n).trans hg

/-- The registers that follow a port's state where its Reef controller and its muster spans do not. -/
def stateShown (n : Nat) : List Nat := Reg.CANP_STATUS n :: Reg.FAB_QSTATp n :: dropCounters

/-- A port that neither leaves nor enters OFF, BUS_OFF or DOWN keeps its Reef state. -/
theorem setCanState_follows (s : State) (n : Nat) {st : Nat} (hold : musterVoid (s.canState n) = false) (hst : st = 1 ∨ st = 5) :
    (s.canEntered n st).keepsRegs (s.setCanState n st) (stateShown n) ∧
      (s.canEntered n st).keeps (s.setCanState n st) (.can :: .mgt :: eventParts) := by
  have hvoid : musterVoid st = false := by
    rcases hst with rfl | rfl <;> rfl
  unfold State.setCanState
  extract_lets old a b c d e _ f _ g
  have hentered : s.canEntered n st = b := rfl
  have hd : d = c := if_neg (by simp [hvoid, show musterVoid old = false from hold])
  have he : e = d := by
    refine (if_neg fun ⟨h, _⟩ => by omega).trans (if_neg fun ⟨h, _⟩ => ?_)
    rw [show musterVoid (s.canState n) = musterVoid old from rfl] at hold
    rcases h with h | h <;> rw [h] at hold <;> exact absurd hold (by decide)
  have hf : f = e := if_neg (by omega)
  obtain ⟨p, hg⟩ : ∃ p, g = f.setCan n p := ⟨_, if_neg (by omega)⟩
  have hc : b.keepsRegs c (stateShown n) := State.keepsRegs_mono (keepsRegs_message b _ st) fun _ ho => .tail _ (.tail _ ho)
  have hk : b.keeps c (.can :: .mgt :: eventParts) := State.keeps_mono (State.keeps_message b _ st false) fun _ => .tail _
  rw [hentered, hg, hf, he, hd]
  clear_value c
  have hshow : b.keepsRegs ((c.setCan n p).canShow n) (stateShown n) :=
    (hc.same rfl).put (Fld.CANP_STATUS_TX_ENABLED n) _ (by simp [stateShown, Fld.CANP_STATUS_TX_ENABLED])
  exact ⟨State.keepsRegs_back hshow (keepsRegs_showQueues _ n) (by simp [stateShown]),
    State.keeps_back ((State.keeps_can _ hk (.head _)).put _ _) (keeps_showQueues _ n) (by simp)⟩

end

end Sys2Proof.Machine

namespace Sys2Proof.Machine

/-! ### A port falls asleep (R192) and ends its wake (Table 8.1) -/

section
variable {s : State} {n : Nat} {t : Tai}

theorem setDom_leaves (s : State) (d : Nat) (x : Domain) :
    s.keepsRegs (s.setDom d x) [Reg.PWR_Dd_STAT d] ∧ s.keeps (s.setDom d x) [.pwr] :=
  ⟨State.keepsRegs_put { s with pwr := _ } (Fld.PWR_Dd_STAT_HELD d) _,
    (State.keeps_pwr _ (State.keeps_mono (State.keeps_refl s) (by simp)) (.head _)).put _ _⟩

/-- The port's domain can become idle with its last port that is awake (R360). -/
def State.idleSeen (s : State) (d : Nat) : State :=
  if (s.dom d).idle = 0 ∧ s.domain d = 2 ∧ s.idleCondition d = true then s.setDom d { s.dom d with idle := 1 } else s

/-- A port is asleep: its CAN and its Reef state, counted. -/
def State.sleepShown (s : State) (n : Nat) : State := ((s.setCanState n 5).setReefState n 2).count (Reg.REEF_CNTn_k n 0)

/-- The Reef controller of a port that falls asleep. -/
def ReefPort.asleep (p : ReefPort) : ReefPort := { p with decErrs := 0, txWake := .none, capturing := false }

/-- A port falls asleep. -/
def State.fallsAsleep (s : State) (n : Nat) : State :=
  ((s.sleepShown n).setReef n ((s.sleepShown n).reefOf n).asleep).idleSeen (domainOf n)

theorem idleSeen_leaves (s : State) (d : Nat) :
    s.keepsRegs (s.idleSeen d) [Reg.PWR_Dd_STAT d] ∧ s.keeps (s.idleSeen d) [.pwr] := by
  unfold State.idleSeen
  split
  · exact setDom_leaves ..
  · exact ⟨State.keepsRegs_mono (State.keepsRegs_refl s) (by simp), State.keeps_mono (State.keeps_refl s) (by simp)⟩

/-- Between states on the bus, or from one to SLEEP or back, no register of the Reef controllers follows. -/
theorem reg_setCanState_reef (hn : n < 48) {st : Nat} (hold : musterVoid (s.canState n) = false) (hst : st = 1 ∨ st = 5) {o : Nat}
    (ho : 0x140000 ≤ o) (ho' : o < 0x1F0000) : (s.setCanState n st).reg o = s.reg o := by
  have hstatus := canStatus_between hn
  have hshown : o ∉ stateShown n := by
    have hdrop := not_mem_dropCounters_between (o := o) (by omega) ho'
    simp only [stateShown, List.mem_cons, not_or, Reg.FAB_QSTATp]
    exact ⟨by omega, by omega, hdrop⟩
  refine ((setCanState_follows s n hold hst).1 o hshown).trans (keepsRegs_canEntered s n st o ?_)
  simp only [List.mem_cons, List.not_mem_nil, or_false, not_or, Reg.CANP_ECNT]
  exact ⟨by omega, by omega⟩

theorem reef_setCanState {st : Nat} (hold : musterVoid (s.canState n) = false) (hst : st = 1 ∨ st = 5) :
    (s.setCanState n st).reef = s.reef :=
  ((setCanState_follows s n hold hst).2 .reef (by decide)).trans (keeps_canEntered s n st .reef (by decide))

theorem sleepShown_shows (s : State) (hn : n < 48) (hold : musterVoid (s.canState n) = false) :
    (s.sleepShown n).canState n = 5 ∧ (s.sleepShown n).reefState n = 2 ∧
      (s.sleepShown n).reg64 (Reg.REEF_CNTn_k n 0) = (s.reg64 (Reg.REEF_CNTn_k n 0) + 1) % 2 ^ 64 := by
  have hstatus := canStatus_between hn
  have hcnt : ∀ a ∈ pair64 (Reg.REEF_CNTn_k n 0), 0x145000 ≤ a ∧ a < 0x146000 := by
    simp only [pair64, List.mem_cons, List.not_mem_nil, or_false, Reg.REEF_CNTn_k]
    omega
  have hcan := canState_setCanState s hn (st := 5) (by decide)
  have hreg : ∀ a ∈ pair64 (Reg.REEF_CNTn_k n 0), (s.setCanState n 5).reg a = s.reg a := fun a ha =>
    reg_setCanState_reef hn hold (.inr rfl) (by have := hcnt a ha; omega) (by have := hcnt a ha; omega)
  unfold State.sleepShown
  generalize s.setCanState n 5 = x at *
  have hreef := reefState_setReefState x n (st := 2) (by decide)
  have hshown := keepsRegs_setReefState x n 2
  generalize x.setReefState n 2 = y at *
  have hcount := State.keepsRegs_count y (Reg.REEF_CNTn_k n 0) 1
  have hstat : ∀ a ∈ pair64 (Reg.REEF_CNTn_k n 0), a ∉ reefShown n := fun a ha hm => by
    have := hcnt a ha
    have := mem_reefShown hn hm
    omega
  have hout : ∀ f : Fld, f.off < 0x145000 → (y.count (Reg.REEF_CNTn_k n 0) 1).get f = y.get f := fun f hf =>
    hcount.get fun hm => by have := hcnt _ hm; omega
  refine ⟨(hout _ ?_).trans ((hshown.get fun hm => ?_).trans hcan), (hout _ ?_).trans hreef, ?_⟩
  · simp only [Fld.CANP_STATUS_STATE]
    omega
  · have := mem_reefShown hn hm
    simp only [Fld.CANP_STATUS_STATE] at this
    omega
  · simp only [Fld.REEF_PORTn_STAT_STATE, Reg.REEF_PORTn_STAT]
    omega
  · rw [State.reg64_count, hshown.reg64_pair hstat]
    have hreg64 : x.reg64 (Reg.REEF_CNTn_k n 0) = s.reg64 (Reg.REEF_CNTn_k n 0) := by
      unfold State.reg64
      rw [hreg _ (by simp [pair64]), hreg _ (by simp [pair64])]
    rw [hreg64]

theorem fallsAsleep_sleeps (s : State) (hn : n < 48) (hold : musterVoid (s.canState n) = false) :
    let u := s.fallsAsleep n
    u.canState n = 5 ∧ u.reefState n = 2 ∧ u.reg64 (Reg.REEF_CNTn_k n 0) = (s.reg64 (Reg.REEF_CNTn_k n 0) + 1) % 2 ^ 64 ∧
      (u.reefOf n).decErrs = 0 ∧ (u.reefOf n).capturing = false := by
  obtain ⟨hcan, hstate, hcount⟩ := sleepShown_shows s hn hold
  have hstatus := canStatus_between hn
  unfold State.fallsAsleep
  generalize s.sleepShown n = y at *
  have hport := reefOf_setReef y n (y.reefOf n).asleep
  obtain ⟨hregs, hkeeps⟩ := idleSeen_leaves (y.setReef n (y.reefOf n).asleep) (domainOf n)
  have hreg : ∀ o < 0x150000, ((y.setReef n (y.reefOf n).asleep).idleSeen (domainOf n)).reg o = y.reg o := fun o ho =>
    hregs o (by simp only [List.mem_singleton, Reg.PWR_Dd_STAT]; omega)
  have hreef := reefOf_of_reef (hkeeps .reef (by decide)) n
  rw [hport] at hreef
  generalize (y.setReef n (y.reefOf n).asleep).idleSeen (domainOf n) = u at *
  refine ⟨(State.get_of_reg (hreg _ ?_)).trans hcan, (State.get_of_reg (hreg _ ?_)).trans hstate, ?_, ?_, ?_⟩
  · simp only [Fld.CANP_STATUS_STATE]
    omega
  · simp only [Fld.REEF_PORTn_STAT_STATE, Reg.REEF_PORTn_STAT]
    omega
  · rw [← hcount]
    unfold State.reg64
    rw [hreg _ (by unfold Reg.REEF_CNTn_k; omega), hreg _ (by unfold Reg.REEF_CNTn_k; omega)]
  · rw [hreef]
    rfl
  · rw [hreef]
    rfl

theorem maySleep_onBus {busy : Bool} (h : s.maySleep n busy = true) : musterVoid (s.canState n) = false := by
  unfold State.maySleep at h
  simp only [Bool.and_eq_true, Bool.or_eq_true, beq_iff_eq] at h
  obtain ⟨⟨⟨⟨⟨⟨_, hstate⟩, _⟩, _⟩, _⟩, _⟩, _⟩ := h
  rcases hstate with (h | h) | h <;> rw [h] <;> rfl

theorem answers_reefSleep (hs : s.up = true) (hn : n < 48) (busy : Bool) :
    answers (exec (.reefSleep n busy t) s) fun u =>
      if (s.at t).atBoundary = true ∧ s.maySleep n busy = true then
        u.canState n = 5 ∧ u.reefState n = 2 ∧ u.reg64 (Reg.REEF_CNTn_k n 0) = (s.reg64 (Reg.REEF_CNTn_k n 0) + 1) % 2 ^ 64 ∧
          (u.reefOf n).decErrs = 0 ∧ (u.reefOf n).capturing = false
      else s.keepsRegs u [] ∧ s.keeps u [] := by
  refine answers_when (m := "REEF_SLEEP") hs (decide_eq_true hn) t
    (fun h => ⟨(s.at t).fallsAsleep n, if_pos h, ?_⟩) fun h => if_neg h
  have hsleeps := fallsAsleep_sleeps (s.at t) hn (maySleep_onBus h.2)
  dsimp only at hsleeps
  rw [State.reg64_at] at hsleeps
  generalize (s.at t).fallsAsleep n = u at *
  exact hsleeps

/-! ### REEF_WAKE_COMPLETE -/

/-- The Reef controller of a port that ends its wake: its transmission and its woken frame stay due. -/
def State.reefEntered (s : State) (n : Nat) : State :=
  let y := if s.on (Fld.REEF_PORTn_CFG_SLEEP_EN n) then s.reefAwake n else s.reefUnmanaged n
  y.setReef n { y.reefOf n with capturing := true, txWake := (s.reefOf n).txWake, woke := (s.reefOf n).woke }

theorem reefEntered_shows (s : State) (hn : n < 48) : (s.reefEntered n).canState n = s.canState n ∧
    (s.reefEntered n).reefState n = b2n (s.on (Fld.REEF_PORTn_CFG_SLEEP_EN n)) ∧
    ((s.reefEntered n).reefOf n).capturing = true := by
  have hstatus := canStatus_between hn
  unfold State.reefEntered
  extract_lets y p
  refine ⟨?_, ?_, ?_⟩
  · have hy : ReefWork s y := ((ReefWork.refl s).reefAwake hn).ite ((ReefWork.refl s).reefUnmanaged hn)
    exact hy.get (by simp only [Fld.CANP_STATUS_STATE]; omega)
  · rw [reefState_setReef]
    unfold y
    split
    · next h => rw [reefState_reefAwake s hn, h]; rfl
    · next h => rw [reefState_reefUnmanaged s n, Bool.eq_false_iff.2 h]; rfl
  · rw [reefOf_setReef]

/-- A port that enters INTEGRATING from SLEEP keeps its Reef controller, and its error counters are 0 (R172). -/
theorem setCanState_wakes (hn : n < 48) (h : s.canState n = 5) :
    (s.setCanState n 1).reefState n = s.reefState n ∧ (s.setCanState n 1).get (Fld.CANP_ECNT_TEC n) = 0 ∧
      (s.setCanState n 1).get (Fld.CANP_ECNT_REC n) = 0 ∧ (s.setCanState n 1).reefOf n = s.reefOf n := by
  have hvoid : musterVoid (s.canState n) = false := by
    rw [h]
    rfl
  have hone : (1 : Nat) = 1 ∨ (1 : Nat) = 5 := .inl rfl
  obtain ⟨htec, hrec⟩ := counters_canEntered h
  obtain ⟨hfollows, -⟩ := setCanState_follows s n hvoid hone
  have hecnt : Reg.CANP_ECNT n ∉ stateShown n := by
    have hdrop := not_mem_dropCounters_between (o := Reg.CANP_ECNT n) (by unfold Reg.CANP_ECNT; omega)
      (by unfold Reg.CANP_ECNT; omega)
    simp only [stateShown, List.mem_cons, not_or]
    exact ⟨by unfold Reg.CANP_ECNT Reg.CANP_STATUS; omega, by unfold Reg.CANP_ECNT Reg.FAB_QSTATp; omega, hdrop⟩
  refine ⟨State.get_of_reg (reg_setCanState_reef hn hvoid hone ?_ ?_), (hfollows.get hecnt).trans htec,
    (hfollows.get hecnt).trans hrec, reefOf_of_reef (reef_setCanState hvoid hone) n⟩
  all_goals
    simp only [Fld.REEF_PORTn_STAT_STATE, Reg.REEF_PORTn_STAT]
    omega

@[simp] theorem canState_at (s : State) (t : Tai) (n : Nat) : (s.at t).canState n = s.canState n := rfl
@[simp] theorem canState_withQueue (s : State) (q : List Instr) (n : Nat) : (s.withQueue q).canState n = s.canState n := rfl
@[simp] theorem reefState_withQueue (s : State) (q : List Instr) (n : Nat) : (s.withQueue q).reefState n = s.reefState n := rfl

theorem answers_reefWakeComplete (hs : s.up = true) (hn : n < 48) :
    answers (exec (.reefWakeComplete n t) s) fun u =>
      if s.reefState n = 3 then
        u.canState n = 1 ∧ (s.canState n = 5 → u.reefState n = b2n (s.on (Fld.REEF_PORTn_CFG_SLEEP_EN n)) ∧
          u.get (Fld.CANP_ECNT_TEC n) = 0 ∧ u.get (Fld.CANP_ECNT_REC n) = 0 ∧ (u.reefOf n).capturing = true)
      else s.keepsRegs u [] ∧ s.keeps u [] := by
  refine answers_when (m := "REEF_WAKE_COMPLETE") hs (decide_eq_true hn) t
    (fun h => ⟨((s.at t).reefEntered n).setCanState n 1, if_pos h, ?_⟩) fun h => if_neg h
  obtain ⟨hcan, hstate, hcapturing⟩ := reefEntered_shows (s.at t) hn
  rw [canState_at] at hcan
  rw [State.on_at] at hstate
  generalize (s.at t).reefEntered n = x at *
  have hone := canState_setCanState x hn (st := 1) (by decide)
  have hlater := setCanState_wakes (s := x) hn
  generalize x.setCanState n 1 = u at *
  rw [canState_withQueue, reefState_withQueue, State.get_withQueue, State.get_withQueue, reefOf_withQueue]
  refine ⟨hone, fun hsleep => ?_⟩
  obtain ⟨hreef, htec, hrec, hport⟩ := hlater (hcan.trans hsleep)
  exact ⟨hreef.trans hstate, htec, hrec, by rw [hport, hcapturing]⟩

end

end Sys2Proof.Machine

namespace Sys2Proof.Machine

/-! ### The end of an awake span (R210, R211, R214) -/

/-- What a record, an event or an item of the shadow leaves: the Reef controllers, the values in force, and every register between
those of the rings and those of the journal. -/
structure Recorded (s u : State) : Prop where
  reef : u.reef = s.reef
  live : u.live = s.live
  reg : ∀ o, 0x33000 ≤ o → o < 0x1F0000 → u.reg o = s.reg o

section
variable {s x y : State} {m n : Nat} {w : MusterWin}

theorem Recorded.refl (s : State) : Recorded s s := ⟨rfl, rfl, fun _ _ _ => rfl⟩

theorem Recorded.trans (h : Recorded s x) (g : Recorded x y) : Recorded s y :=
  ⟨g.reef.trans h.reef, g.live.trans h.live, fun o ho ho' => (g.reg o ho ho').trans (h.reg o ho ho')⟩

theorem Recorded.get (h : Recorded s x) {f : Fld} (hf : 0x33000 ≤ f.off) (hf' : f.off < 0x1F0000) : x.get f = s.get f :=
  State.get_of_reg (h.reg _ hf hf')

theorem Recorded.winsOf (h : Recorded s x) (m : Nat) : x.winsOf m = s.winsOf m := by
  unfold State.winsOf
  rw [h.reef]

theorem Recorded.cur (h : Recorded s x) (f : Fld) : x.cur f = s.cur f := by
  unfold State.cur
  rw [State.liveReg_of_live h.live]

theorem recorded_toRing (s : State) {r : Nat} (hr : r < 64) (e : RxEntry) : Recorded s (s.toRing r e) := by
  unfold State.toRing
  extract_lets q stream
  split
  · exact ⟨rfl, rfl, fun _ _ _ => rfl⟩
  · exact ⟨rfl, rfl, fun o ho _ => State.reg_rxDrop s r o
      (by unfold Reg.HIF_RXn_DROP; omega) (by unfold Reg.HIF_RXn_DROP; omega)⟩

theorem recorded_musterRecord (s : State) (m o f : Nat) (a b : Tai) (c : Int) : Recorded s (s.musterRecord m o f a b c) := by
  unfold State.musterRecord
  extract_lets n
  split
  · exact recorded_toRing s (State.cur_lt s Fld.REEF_MUS_RING_RING) _
  · exact .refl s

theorem recorded_raise (s : State) (c u : Nat) (d : List Detail) : Recorded s (s.raise c u d) :=
  ⟨State.raise_reef .., State.raise_live .., fun o ho ho' =>
    State.reg_raise s c u d o (not_mem_dropCounters_between (by omega) ho')⟩

theorem musterDelta_leaves (s : State) (m : Nat) : Recorded s (s.musterDelta m) ∧ (s.musterDelta m).ev = s.ev := by
  unfold State.musterDelta State.delta
  extract_lets node corr
  split
  · exact ⟨⟨State.halSend_reef .., State.halSend_live .., fun o _ _ => State.reg_of_regs (State.halSend_regs ..) o⟩,
      State.halSend_ev ..⟩
  · exact ⟨.refl s, rfl⟩

/-! ### Windows on record -/

theorem winsOf_setWins (s : State) (m : Nat) (l : List MusterWin) : (s.setWins m l).winsOf m = l :=
  (SMap.get_set ..).trans (if_pos rfl)

theorem keepWin_eq (s : State) (m : Nat) (w : MusterWin) : ∃ l, w ∈ l ∧ s.keepWin m w = s.setWins m l := by
  unfold State.keepWin
  extract_lets l
  split
  · next h =>
    obtain ⟨x, hx, hstart⟩ := List.any_eq_true.1 h
    exact ⟨l.map fun x => if x.start = w.start then w else x, List.mem_map.2 ⟨x, hx, if_pos (beq_iff_eq.1 hstart)⟩, rfl⟩
  · exact ⟨_, .head _, rfl⟩

theorem mem_keepWin (s : State) (m : Nat) (w : MusterWin) : w ∈ (s.keepWin m w).winsOf m := by
  obtain ⟨l, hw, heq⟩ := keepWin_eq s m w
  rw [heq, winsOf_setWins]
  exact hw

theorem keepWin_leaves (s : State) (m : Nat) (w : MusterWin) : (s.keepWin m w).regs = s.regs ∧ (s.keepWin m w).live = s.live := by
  obtain ⟨l, -, heq⟩ := keepWin_eq s m w
  rw [heq]
  exact ⟨rfl, rfl⟩

/-! ### A miss -/

/-- MISSES and MULT_LOG of an entry after a miss. -/
def State.missCounted (s : State) (m misses : Nat) : State :=
  (s.put (Fld.REEF_MUSm_STAT_MISSES m) misses).put (Fld.REEF_MUSm_STAT_MULT_LOG m) (min 4 (misses / 2))

theorem missCounted_shows (s : State) (m misses : Nat) :
    (s.missCounted m misses).get (Fld.REEF_MUSm_STAT_MISSES m) = misses % 16 ∧
      (s.missCounted m misses).get (Fld.REEF_MUSm_STAT_MULT_LOG m) = min 4 (misses / 2) := by
  constructor
  · refine (State.get_put_field _ (Fld.REEF_MUSm_STAT_MULT_LOG m) (Fld.REEF_MUSm_STAT_MISSES m) _ rfl ?_ ?_ ?_).trans
      (State.get_put_self _ _ _ ?_ ?_) <;> simp [Fld.REEF_MUSm_STAT_MISSES, Fld.REEF_MUSm_STAT_MULT_LOG]
  · refine State.get_put_fit _ (Fld.REEF_MUSm_STAT_MULT_LOG m) (min 4 (misses / 2)) ?_ ?_ ?_ <;> simp [Fld.REEF_MUSm_STAT_MULT_LOG]

theorem missCounted_leaves (s : State) (m misses : Nat) :
    s.keepsRegs (s.missCounted m misses) [Reg.REEF_MUSm_STAT m] ∧ s.keeps (s.missCounted m misses) [] :=
  ⟨(State.keepsRegs_put s (Fld.REEF_MUSm_STAT_MISSES m) misses).put (Fld.REEF_MUSm_STAT_MULT_LOG m) _ (List.mem_singleton.2 rfl),
    ((State.keeps_refl s).put _ _).put _ _⟩

/-- The tenth miss loses the card. -/
def State.cardLost (s : State) (m port drift : Nat) (start : Tai) : State :=
  let y := (s.put (Fld.REEF_MUSm_STAT_CARD_LOST m) 1).musterRecord m 6 drift start 0 0
  y.raise 0x0803 (unitOf 1 port) [n4 m, n4 (y.cur (Fld.REEF_MUSm_CTRL_NODE m))]

/-- What the loss of a card, if it is lost, shows: of the entry's STAT it changes CARD_LOST alone. -/
structure LosesCard (s u : State) (m port : Nat) (lost : Prop) : Prop where
  shown : lost → u.get (Fld.REEF_MUSm_STAT_CARD_LOST m) = 1
  told : lost → u.told 0x0803 (unitOf 1 port) [n4 m, n4 (s.cur (Fld.REEF_MUSm_CTRL_NODE m))]
  reef : u.reef = s.reef
  reg : ∀ o, 0x33000 ≤ o → o < 0x1F0000 → o ≠ Reg.REEF_MUSm_STAT m → u.reg o = s.reg o
  field : ∀ f : Fld, f.off = Reg.REEF_MUSm_STAT m → f.hi < 9 → u.get f = s.get f

theorem muster_between (hm : m < 1024) : 0x33000 ≤ Reg.REEF_MUSm_STAT m ∧ Reg.REEF_MUSm_STAT m < 0x1F0000 := by
  unfold Reg.REEF_MUSm_STAT
  omega

theorem losesCard_cardLost (s : State) (hm : m < 1024) (port drift : Nat) (start : Tai) :
    LosesCard s (s.cardLost m port drift start) m port True := by
  obtain ⟨hlo, hhi⟩ := muster_between hm
  have hput : (s.put (Fld.REEF_MUSm_STAT_CARD_LOST m) 1).get (Fld.REEF_MUSm_STAT_CARD_LOST m) = 1 := by
    refine State.get_put_fit s (Fld.REEF_MUSm_STAT_CARD_LOST m) 1 ?_ ?_ ?_ <;> simp [Fld.REEF_MUSm_STAT_CARD_LOST]
  have hother : ∀ f : Fld, f.off = Reg.REEF_MUSm_STAT m → f.hi < 9 →
      (s.put (Fld.REEF_MUSm_STAT_CARD_LOST m) 1).get f = s.get f := fun f hf hhi =>
    State.get_put_field s (Fld.REEF_MUSm_STAT_CARD_LOST m) f 1 hf (by simp [Fld.REEF_MUSm_STAT_CARD_LOST])
      (by simp [Fld.REEF_MUSm_STAT_CARD_LOST]) (.inr hhi)
  have hregs := State.keepsRegs_put s (Fld.REEF_MUSm_STAT_CARD_LOST m) 1
  have hlive := State.put_live s (Fld.REEF_MUSm_STAT_CARD_LOST m) 1
  have hreef := State.put_reef s (Fld.REEF_MUSm_STAT_CARD_LOST m) 1
  unfold State.cardLost
  generalize s.put (Fld.REEF_MUSm_STAT_CARD_LOST m) 1 = x at *
  have hrecord := recorded_musterRecord x m 6 drift start 0 0
  generalize x.musterRecord m 6 drift start 0 0 = y at *
  have hnode : y.cur (Fld.REEF_MUSm_CTRL_NODE m) = s.cur (Fld.REEF_MUSm_CTRL_NODE m) := by
    rw [hrecord.cur]
    unfold State.cur
    rw [State.liveReg_of_live hlive]
  dsimp only
  rw [hnode]
  have hraise := hrecord.trans (recorded_raise y 0x0803 (unitOf 1 port) [n4 m, n4 (s.cur (Fld.REEF_MUSm_CTRL_NODE m))])
  exact
    { shown := fun _ => (hraise.get hlo hhi).trans hput
      told := fun _ => State.told_raise ..
      reef := hraise.reef.trans hreef
      reg := fun o ho ho' hne => (hraise.reg o ho ho').trans (hregs o (by simpa [Fld.REEF_MUSm_STAT_CARD_LOST] using hne))
      field := fun f hf hfhi => (hraise.get (hf ▸ hlo) (hf ▸ hhi)).trans (hother f hf hfhi) }

theorem losesCard_ite (s : State) (hm : m < 1024) (port drift : Nat) (start : Tai) (lost : Prop) [Decidable lost] :
    LosesCard s (if lost then s.cardLost m port drift start else s) m port lost := by
  split
  · next h =>
    have hcard := losesCard_cardLost s hm port drift start
    exact ⟨fun _ => hcard.shown trivial, fun _ => hcard.told trivial, hcard.reef, hcard.reg, hcard.field⟩
  · next h => exact ⟨fun hl => absurd hl h, fun hl => absurd hl h, rfl, fun _ _ _ _ => rfl, fun _ _ _ => rfl⟩

/-- A span without a report is a miss, by which the entry counts to `misses`. -/
def State.spanMissed (s : State) (m port : Nat) (start : Tai) (misses : Nat) : State :=
  let y := s.missCounted m misses
  let drift := y.get (Fld.REEF_MUSm_STAT_DRIFT_SUSPECT m)
  let z := y.musterRecord m 3 drift start 0 0
  (if misses = 10 then z.cardLost m port drift start else z).musterDelta m

/-- What a miss shows. -/
structure Misses (s u : State) (m port misses : Nat) : Prop where
  counted : u.get (Fld.REEF_MUSm_STAT_MISSES m) = misses % 16
  mult : u.get (Fld.REEF_MUSm_STAT_MULT_LOG m) = min 4 (misses / 2)
  lost : misses = 10 → u.get (Fld.REEF_MUSm_STAT_CARD_LOST m) = 1 ∧
    u.told 0x0803 (unitOf 1 port) [n4 m, n4 (s.cur (Fld.REEF_MUSm_CTRL_NODE m))]
  reef : u.reef = s.reef
  reg : ∀ o, 0x33000 ≤ o → o < 0x1F0000 → o ≠ Reg.REEF_MUSm_STAT m → u.reg o = s.reg o

theorem misses_spanMissed (s : State) (hm : m < 1024) (port : Nat) (start : Tai) (misses : Nat) :
    Misses s (s.spanMissed m port start misses) m port misses := by
  obtain ⟨hlo, hhi⟩ := muster_between hm
  unfold State.spanMissed
  extract_lets a drift b
  obtain ⟨hmisses, hmult⟩ := missCounted_shows s m misses
  obtain ⟨hregs, hkeeps⟩ := missCounted_leaves s m misses
  have hrecord : Recorded a b := recorded_musterRecord a m 3 drift start 0 0
  have hcard := losesCard_ite b hm port drift start (misses = 10)
  generalize (if misses = 10 then b.cardLost m port drift start else b) = c at *
  obtain ⟨hdelta, hev⟩ := musterDelta_leaves c m
  have hfield : ∀ f : Fld, f.off = Reg.REEF_MUSm_STAT m → f.hi < 9 → (c.musterDelta m).get f = a.get f := fun f hf hfhi =>
    (hdelta.get (hf ▸ hlo) (hf ▸ hhi)).trans ((hcard.field f hf hfhi).trans (hrecord.get (hf ▸ hlo) (hf ▸ hhi)))
  have hnode : b.cur (Fld.REEF_MUSm_CTRL_NODE m) = s.cur (Fld.REEF_MUSm_CTRL_NODE m) := by
    rw [hrecord.cur]
    unfold State.cur
    rw [State.liveReg_of_live (hkeeps .live (by simp))]
  exact
    { counted := (hfield (Fld.REEF_MUSm_STAT_MISSES m) rfl (by simp [Fld.REEF_MUSm_STAT_MISSES])).trans hmisses
      mult := (hfield (Fld.REEF_MUSm_STAT_MULT_LOG m) rfl (by simp [Fld.REEF_MUSm_STAT_MULT_LOG])).trans hmult
      lost := fun h => ⟨(hdelta.get hlo hhi).trans (hcard.shown h), by
        rw [← hnode]
        exact State.told_of_raised (congrArg EventUnit.raised hev) (hcard.told h)⟩
      reef := hdelta.reef.trans (hcard.reef.trans (hrecord.reef.trans (hkeeps .reef (by simp))))
      reg := fun o ho ho' hne => (hdelta.reg o ho ho').trans ((hcard.reg o ho ho' hne).trans ((hrecord.reg o ho ho').trans
        (hregs o (by simpa using hne)))) }

/-! ### MUSTER_SPAN_END -/

/-- A window that ends without a report is void: no miss is counted. -/
abbrev State.spanSilent (s : State) (w : MusterWin) : Prop :=
  w.void = true ∨ w.ran = false ∨ musterVoid (s.get (Fld.CANP_STATUS_STATE w.port)) = true

/-- What MUSTER_SPAN_END leaves of a window that is settled. -/
def SpanEnds (s u : State) (m : Nat) (w : MusterWin) : Prop :=
  let miss := s.get (Fld.REEF_MUSm_STAT_MISSES m) + 1
  { w with settled := some (match w.report with
      | some o => o
      | none => if s.spanSilent w then 5 else 3) } ∈ u.winsOf m ∧
  (w.report ≠ none ∨ s.spanSilent w → u.reg (Reg.REEF_MUSm_STAT m) = s.reg (Reg.REEF_MUSm_STAT m)) ∧
  (w.report = none → ¬ s.spanSilent w →
    u.get (Fld.REEF_MUSm_STAT_MISSES m) = miss % 16 ∧ u.get (Fld.REEF_MUSm_STAT_MULT_LOG m) = min 4 (miss / 2) ∧
    (miss = 10 → u.get (Fld.REEF_MUSm_STAT_CARD_LOST m) = 1 ∧
      u.told 0x0803 (unitOf 1 w.port) [n4 m, n4 (s.cur (Fld.REEF_MUSm_CTRL_NODE m))]))

/-- The outcome of a window whose entry still holds it. -/
def State.spanSettled (s : State) (m : Nat) (w : MusterWin) : State :=
  let void := w.void || !w.ran || musterVoid (s.get (Fld.CANP_STATUS_STATE w.port))
  match w.report with
  | some o => s.keepWin m { w with settled := some o }
  | none =>
    if void then
      (s.keepWin m { w with settled := some 5 }).musterRecord m 5 (s.get (Fld.REEF_MUSm_STAT_DRIFT_SUSPECT m)) w.start 0 0
    else
      (s.keepWin m { w with settled := some 3 }).spanMissed m w.port w.start (s.get (Fld.REEF_MUSm_STAT_MISSES m) + 1)

theorem spanSilent_iff (s : State) (w : MusterWin) :
    (w.void || !w.ran || musterVoid (s.get (Fld.CANP_STATUS_STATE w.port))) = true ↔ s.spanSilent w := by
  rw [Bool.or_eq_true, Bool.or_eq_true, Bool.not_eq_true', or_assoc]

theorem spanSettled_reported {o : Nat} (hr : w.report = some o) :
    s.spanSettled m w = s.keepWin m { w with settled := some o } := by
  unfold State.spanSettled
  rw [hr]

theorem spanSettled_void (hr : w.report = none) (hv : s.spanSilent w) :
    s.spanSettled m w = (s.keepWin m { w with settled := some 5 }).musterRecord m 5
      (s.get (Fld.REEF_MUSm_STAT_DRIFT_SUSPECT m)) w.start 0 0 := by
  unfold State.spanSettled
  rw [hr]
  exact if_pos ((spanSilent_iff s w).2 hv)

theorem spanSettled_missed (hr : w.report = none) (hv : ¬ s.spanSilent w) :
    s.spanSettled m w = (s.keepWin m { w with settled := some 3 }).spanMissed m w.port w.start
      (s.get (Fld.REEF_MUSm_STAT_MISSES m) + 1) := by
  unfold State.spanSettled
  rw [hr]
  exact if_neg (mt (spanSilent_iff s w).1 hv)

theorem spanSettled_ends (s : State) (hm : m < 1024) (w : MusterWin) : SpanEnds s (s.spanSettled m w) m w ∧
    ∀ o, 0x33000 ≤ o → o < 0x1F0000 → o ≠ Reg.REEF_MUSm_STAT m → (s.spanSettled m w).reg o = s.reg o := by
  obtain ⟨hlo, hhi⟩ := muster_between hm
  have hregs : ∀ (k : MusterWin) (o : Nat), (s.keepWin m k).reg o = s.reg o := fun k o =>
    State.reg_of_regs (keepWin_leaves s m k).1 o
  have hmem : ∀ k k' : MusterWin, k = k' → k ∈ (s.keepWin m k').winsOf m := fun k _ h => h ▸ mem_keepWin s m k
  unfold SpanEnds
  cases hr : w.report with
  | some o =>
    rw [spanSettled_reported hr]
    exact ⟨⟨hmem _ _ (by rw [hr]), fun _ => hregs .., nofun⟩, fun o _ _ _ => hregs _ o⟩
  | none =>
    by_cases hv : s.spanSilent w
    · rw [spanSettled_void hr hv]
      have hrecord := recorded_musterRecord (s.keepWin m { w with settled := some 5 }) m 5
        (s.get (Fld.REEF_MUSm_STAT_DRIFT_SUSPECT m)) w.start 0 0
      refine ⟨⟨?_, fun _ => (hrecord.reg _ hlo hhi).trans (hregs ..), fun _ h => absurd hv h⟩,
        fun o ho ho' _ => (hrecord.reg o ho ho').trans (hregs ..)⟩
      rw [hrecord.winsOf]
      dsimp only
      rw [if_pos hv]
      exact hmem _ _ (by rw [hr])
    · rw [spanSettled_missed hr hv]
      have hmiss := misses_spanMissed (s.keepWin m { w with settled := some 3 }) hm w.port w.start
        (s.get (Fld.REEF_MUSm_STAT_MISSES m) + 1)
      have hnode : (s.keepWin m { w with settled := some 3 }).cur (Fld.REEF_MUSm_CTRL_NODE m) =
          s.cur (Fld.REEF_MUSm_CTRL_NODE m) := by
        unfold State.cur
        rw [State.liveReg_of_live (keepWin_leaves ..).2]
      refine ⟨⟨?_, fun h => absurd h (by simp [hv]), fun _ _ => ⟨hmiss.counted, hmiss.mult, fun h => ?_⟩⟩,
        fun o ho ho' hne => (hmiss.reg o ho ho' hne).trans (hregs ..)⟩
      · unfold State.winsOf
        rw [hmiss.reef]
        dsimp only
        rw [if_neg hv]
        exact hmem _ _ (by rw [hr])
      · rw [← hnode]
        exact hmiss.lost h

/-- The end of a window: one whose entry is valid no more, or at another port, is only removed (R214). -/
def State.spanClosed (s : State) (m : Nat) (w : MusterWin) : State :=
  if !(s.on (Fld.REEF_MUSm_CTRL_VALID m) && s.cur (Fld.REEF_MUSm_CTRL_PORT m) == w.port) then
    s.setWins m ((s.winsOf m).filter (· != w))
  else s.spanSettled m w

/-- A span's end is the end of the oldest window that is due. -/
theorem musterSettle_eq {t : Tai}
    (h : ((s.winsOf m).filter fun (x : MusterWin) => x.settled.isNone && decide (x.closes ≤ t)).getLast? = some w) :
    s.musterSettle m t = (s.put (Fld.REEF_PORTn_STAT_POST_MUS w.port) 1).spanClosed m w := by
  unfold State.musterSettle
  rw [h]
  dsimp only
  generalize s.put (Fld.REEF_PORTn_STAT_POST_MUS w.port) 1 = y
  rfl

/-- The entry of a window is valid no more, or at another port. -/
abbrev State.spanGone (s : State) (m : Nat) (w : MusterWin) : Prop :=
  s.on (Fld.REEF_MUSm_CTRL_VALID m) = false ∨ s.cur (Fld.REEF_MUSm_CTRL_PORT m) ≠ w.port

theorem spanGone_iff (s : State) (m : Nat) (w : MusterWin) :
    (!(s.on (Fld.REEF_MUSm_CTRL_VALID m) && s.cur (Fld.REEF_MUSm_CTRL_PORT m) == w.port)) = true ↔ s.spanGone m w := by
  rw [Bool.not_eq_true', Bool.and_eq_false_iff, beq_eq_false_iff_ne]

theorem spanClosed_gone (h : s.spanGone m w) : s.spanClosed m w = s.setWins m ((s.winsOf m).filter (· != w)) :=
  if_pos ((spanGone_iff s m w).2 h)

theorem spanClosed_stays (h : ¬ s.spanGone m w) : s.spanClosed m w = s.spanSettled m w :=
  if_neg (mt (spanGone_iff s m w).1 h)

theorem portPost_shown (s : State) (p : Nat) :
    (s.put (Fld.REEF_PORTn_STAT_POST_MUS p) 1).get (Fld.REEF_PORTn_STAT_POST_MUS p) = 1 := by
  refine State.get_put_fit s (Fld.REEF_PORTn_STAT_POST_MUS p) 1 ?_ ?_ ?_ <;> simp [Fld.REEF_PORTn_STAT_POST_MUS]

/-- A window of an entry that is still at its port is of one of 64 ports: its STAT is no other register the outcome looks at. -/
theorem portStat_apart {p : Nat} (hp : p < 64) : 0x33000 ≤ Reg.REEF_PORTn_STAT p ∧ Reg.REEF_PORTn_STAT p < 0x1F0000 ∧
    Reg.REEF_MUSm_STAT m ≠ Reg.REEF_PORTn_STAT p ∧ Reg.CANP_STATUS p ≠ Reg.REEF_PORTn_STAT p := by
  unfold Reg.REEF_PORTn_STAT Reg.REEF_MUSm_STAT Reg.CANP_STATUS
  omega

/-- SpanEnds speaks of the starting state through the entry's STAT, the port's CAN state and the values in force. -/
theorem SpanEnds.of_shown (h : SpanEnds x y m w) (hreg : x.reg (Reg.REEF_MUSm_STAT m) = s.reg (Reg.REEF_MUSm_STAT m))
    (hcan : x.reg (Reg.CANP_STATUS w.port) = s.reg (Reg.CANP_STATUS w.port))
    (hnode : x.cur (Fld.REEF_MUSm_CTRL_NODE m) = s.cur (Fld.REEF_MUSm_CTRL_NODE m)) : SpanEnds s y m w := by
  have hmiss : x.get (Fld.REEF_MUSm_STAT_MISSES m) = s.get (Fld.REEF_MUSm_STAT_MISSES m) := State.get_of_reg hreg
  have hstate : x.get (Fld.CANP_STATUS_STATE w.port) = s.get (Fld.CANP_STATUS_STATE w.port) := State.get_of_reg hcan
  unfold SpanEnds State.spanSilent at *
  rwa [hmiss, hstate, hreg, hnode] at h

theorem spanClosed_ends (s : State) (hm : m < 1024) (w : MusterWin) :
    let u := (s.put (Fld.REEF_PORTn_STAT_POST_MUS w.port) 1).spanClosed m w
    u.get (Fld.REEF_PORTn_STAT_POST_MUS w.port) = 1 ∧ if s.spanGone m w then w ∉ u.winsOf m else SpanEnds s u m w := by
  have hregs : ∀ o, o ≠ Reg.REEF_PORTn_STAT w.port → (s.put (Fld.REEF_PORTn_STAT_POST_MUS w.port) 1).reg o = s.reg o :=
    fun _ h => State.reg_put _ _ _ _ h
  have hshown := portPost_shown s w.port
  have hgone : (s.put (Fld.REEF_PORTn_STAT_POST_MUS w.port) 1).spanGone m w ↔ s.spanGone m w := by
    unfold State.spanGone
    rw [State.on_put, State.cur_put]
  have hnode := State.cur_put s (Fld.REEF_PORTn_STAT_POST_MUS w.port) (Fld.REEF_MUSm_CTRL_NODE m) 1
  generalize s.put (Fld.REEF_PORTn_STAT_POST_MUS w.port) 1 = y at *
  by_cases h : s.spanGone m w
  · dsimp only
    rw [spanClosed_gone (hgone.2 h), if_pos h]
    refine ⟨hshown, ?_⟩
    rw [winsOf_setWins, List.mem_filter]
    simp
  · have hport : w.port < 64 := by
      rw [← Decidable.not_not.1 (not_or.1 h).2]
      exact State.cur_lt s (Fld.REEF_MUSm_CTRL_PORT m)
    obtain ⟨hlo, hhi, hmus, hcan⟩ := portStat_apart (m := m) hport
    obtain ⟨hends, hother⟩ := spanSettled_ends y hm w
    dsimp only
    rw [spanClosed_stays (mt hgone.1 h), if_neg h]
    exact ⟨(State.get_of_reg (hother _ hlo hhi hmus.symm)).trans hshown,
      hends.of_shown (hregs _ hmus) (hregs _ hcan) hnode⟩

theorem answers_musterSpanEnd {t : Tai} (hs : s.up = true) (hm : m < 1024)
    (h : ((s.winsOf m).filter fun (x : MusterWin) => x.settled.isNone && decide (x.closes ≤ t)).getLast? = some w) :
    answers (exec (.musterSpanEnd m t) s) fun u => u.get (Fld.REEF_PORTn_STAT_POST_MUS w.port) = 1 ∧
      if s.spanGone m w then w ∉ u.winsOf m else SpanEnds s u m w := by
  refine answers_effect (m := "MUSTER_SPAN_END") hs (decide_eq_true hm) ?_
  rw [musterSettle_eq (s := s.at t) h]
  obtain ⟨hpost, hends⟩ := spanClosed_ends (s.at t) hm w
  generalize ((s.at t).put (Fld.REEF_PORTn_STAT_POST_MUS w.port) 1).spanClosed m w = u at *
  exact ⟨hpost, hends⟩

end

end Sys2Proof.Machine

namespace Sys2Proof.Machine

/-! ### The staged REEF set (R214) -/

section
variable {s x y : State} {m n : Nat}

/-- Entries of other keys before a map leave a key's value. -/
theorem SMap.get_prepend {α : Type} (d : α) (m r : List (Nat × α)) (x : Nat) (h : ∀ e ∈ m, e.1 ≠ x) :
    SMap.get d (m ++ r) x = SMap.get d r x := by
  induction m with
  | nil => rfl
  | cons e m ih =>
    obtain ⟨k, w⟩ := e
    rw [List.cons_append, SMap.get, if_neg fun hx => h (k, w) (.head _) hx.symm]
    exact ih fun e he => h e (.tail _ he)

/-- Writing a key leaves the entries of all others. -/
theorem SMap.filter_set {α : Type} [DecidableEq α] (d : α) (m : List (Nat × α)) (x : Nat) (v : α) :
    (SMap.set d m x v).filter (fun e => e.1 != x) = m.filter fun e => e.1 != x := by
  unfold SMap.set
  split
  · rw [SMap.del, List.filter_filter]
    simp only [Bool.and_self]
  · induction m with
    | nil => simp [SMap.put]
    | cons e m ih =>
      obtain ⟨k, w⟩ := e
      simp only [SMap.put]
      split
      · next h => simp [h]
      · split
        · rw [List.filter_cons_of_neg (by simp)]
        · rw [List.filter_cons, List.filter_cons, ih]

/-- A configuration register in the range has its staged value in force. -/
theorem liveReg_goLive (s : State) {lo hi off : Nat} {r : RegRow} (hlo : lo ≤ off) (hhi : off < hi)
    (hrow : RegMap.find off = some r) (hst : r.st ≠ 0) : (s.goLive lo hi).liveReg off = s.reg off := by
  rw [State.liveReg_get, State.reg_get]
  unfold State.goLive
  dsimp only
  rw [SMap.get_append, SMap.get_prepend, SMap.get_filter]
  · intro v
    simp [hlo, hhi, hrow, hst]
  · intro e he
    have := of_decide_eq_true (List.mem_filter.1 he).2
    omega
  · intro e he
    have := of_decide_eq_true (List.mem_filter.1 he).2
    omega

/-- What a list's entries of one key add nothing to, a change of those entries keeps. -/
theorem filterMap_of_rest {α β : Type} {l r : List (Nat × α)} {k : Nat} {g : Nat × α → Option β}
    (h : (l.filter fun e => e.1 != k) = r.filter fun e => e.1 != k) (hg : ∀ e : Nat × α, e.1 = k → g e = none) :
    l.filterMap g = r.filterMap g := by
  have hskip : ∀ l : List (Nat × α), l.filterMap g = (l.filter fun e => e.1 != k).filterMap g := fun l => by
    rw [List.filterMap_filter]
    refine congrArg (List.filterMap · l) (funext fun e => ?_)
    split
    · rfl
    · next hk => exact hg e (by simpa using hk)
  rw [hskip l, hskip r, h]

theorem any_of_rest {α : Type} {l r : List (Nat × α)} {k : Nat} {q : Nat × α → Bool}
    (h : (l.filter fun e => e.1 != k) = r.filter fun e => e.1 != k) (hq : ∀ e : Nat × α, e.1 = k → q e = false) :
    l.any q = r.any q := by
  have hskip : ∀ l : List (Nat × α), l.any q = (l.filter fun e => e.1 != k).any q := fun l => by
    rw [List.any_filter]
    refine congrArg l.any (funext fun e => ?_)
    by_cases hk : e.1 = k
    · simp [hk, hq e hk]
    · simp [hk]
  rw [hskip l, hskip r, h]

/-- The checks of the staged set look at no entry of REEF_STATUS. -/
theorem reefErrors_congr (hlive : y.live = s.live) (hregs : s.keepsRegs y [Reg.REEF_STATUS])
    (hrest : (y.regs.filter fun e => e.1 != Reg.REEF_STATUS) = s.regs.filter fun e => e.1 != Reg.REEF_STATUS) :
    y.reefErrors = s.reefErrors := by
  have hreg : ∀ o, o ≠ Reg.REEF_STATUS → y.reg o = s.reg o := fun o ho => hregs o (by simpa using ho)
  have hw : ∀ o, o ≠ Reg.REEF_STATUS → y.w o = s.w o := fun o ho => congrArg BitVec.toNat (hreg o ho)
  have hget : ∀ f : Fld, f.off ≠ Reg.REEF_STATUS → y.get f = s.get f := fun f hf => State.get_of_reg (hreg _ hf)
  have hcur : ∀ f, y.cur f = s.cur f := fun f => by
    unfold State.cur
    rw [State.liveReg_of_live hlive]
  have hrange : ∀ e : Nat × Word, e.1 = Reg.REEF_STATUS →
      (decide (0x140000 ≤ e.1 ∧ e.1 < 0x150000) && !reefInRange e.1 e.2.toNat) = false := fun e he => by
    rw [he]
    rfl
  have hvalid : ∀ e : Nat × Word, e.1 = Reg.REEF_STATUS →
      (if decide (0x140000 ≤ e.1 ∧ e.1 < 0x150000) = true then
        if 0x148000 ≤ e.1 ∧ e.1 % 32 = 0 ∧ bit e.2.toNat 0 then some ((e.1 - 0x148000) / 32) else none else none) = none :=
    fun e he => by
      rw [he]
      rfl
  unfold State.reefErrors State.beatLen
  dsimp only
  rw [List.any_filter, List.any_filter, List.filterMap_filter, List.filterMap_filter, any_of_rest hrest hrange,
    filterMap_of_rest hrest hvalid]
  simp (disch := (simp only [Fld.BEAT_STATUS_LEN_CUR, Fld.REEF_MUS_RING_RING, Fld.REEF_MUS_RING_EN, Fld.REEF_MUSm_PERIOD_BEATS,
    Fld.REEF_MUSm_PHASE_BEATS, Fld.REEF_MUSm_WIN_LEN, Fld.REEF_MUSm_WIN_SLOT_OFS, Fld.REEF_MUSm_GUARD_GUARD,
    Fld.REEF_MUSm_CTRL_PORT, Fld.REEF_PORTn_CFG_WAKE_MODE, Fld.REEF_WKn_w_CTRL_VALID, Reg.BEAT_STATUS, Reg.REEF_STATUS,
    Reg.REEF_MUS_RING, Reg.REEF_MUSm_PERIOD, Reg.REEF_MUSm_PHASE, Reg.REEF_MUSm_WIN, Reg.REEF_MUSm_GUARD, Reg.REEF_MUSm_CTRL,
    Reg.REEF_MUSm_KEY, Reg.REEF_MUSm_MASK, Reg.REEF_PORTn_CFG, Reg.REEF_WKn_w_CTRL, Reg.REEF_WKn_w_KEY,
    Reg.REEF_WKn_w_MASK] <;> omega)) only [hget, hw, hcur]

/-! ### The set in force has changed -/

theorem mem_natInsert {a b : Nat} {l : List Nat} (h : b ∈ natInsert a l) : b = a ∨ b ∈ l := by
  induction l with
  | nil => simpa [natInsert] using h
  | cons c l ih =>
    unfold natInsert at h
    split at h
    · simpa using h
    · rcases List.mem_cons.1 h with rfl | h
      · exact .inr (.head _)
      · exact (ih h).imp_right (.tail _)

theorem mem_natSort {b : Nat} {l : List Nat} (h : b ∈ natSort l) : b ∈ l := by
  induction l with
  | nil => exact h
  | cons a l ih =>
    rcases mem_natInsert h with rfl | h
    · exact .head _
    · exact .tail _ (ih h)

theorem mem_natDedup {b : Nat} {l : List Nat} (h : b ∈ natDedup l) : b ∈ l := by
  refine List.foldlRecOn (motive := fun z : List Nat => b ∈ z → b ∈ l) l _ (fun h => absurd h List.not_mem_nil)
    (fun z hz a ha => ?_) h
  split
  · exact hz
  · intro hb
    rcases List.mem_append.1 hb with hb | hb
    · exact hz hb
    · exact List.mem_singleton.1 hb ▸ ha

theorem ReefWork.musterDelta (h : ReefWork s x) (m : Nat) : ReefWork s (x.musterDelta m) := by
  unfold State.musterDelta State.delta
  extract_lets node corr
  split
  · exact h.parts (State.halSend_live ..) (State.halSend_cmds ..) (State.halSend_regs ..)
  · exact h

theorem ReefWork.musterRestart (h : ReefWork s x) (hm : m < 1024) : ReefWork s (x.musterRestart m) := by
  have hlo : 0x140010 ≤ Reg.REEF_MUSm_STAT m := by unfold Reg.REEF_MUSm_STAT; omega
  have hhi : Reg.REEF_MUSm_STAT m < 0x150000 := by unfold Reg.REEF_MUSm_STAT; omega
  have hput := (((h.put (Fld.REEF_MUSm_STAT_MISSES m) 0 hlo hhi).put (Fld.REEF_MUSm_STAT_MULT_LOG m) 0 hlo hhi).put
    (Fld.REEF_MUSm_STAT_DRIFT_SUSPECT m) 0 hlo hhi).put (Fld.REEF_MUSm_STAT_CARD_LOST m) 0 hlo hhi
  unfold State.musterRestart
  extract_lets a b c
  have hb : ReefWork s b := hput
  have hc : ReefWork s c := by
    unfold c
    clear_value b
    exact hb.parts rfl rfl rfl
  exact hc.musterDelta m

theorem ReefWork.reefWake (h : ReefWork s x) (hn : n < 48) (reason : Nat) : ReefWork s (x.reefWake n reason) := by
  have hlo : 0x140010 ≤ Reg.REEF_PORTn_STAT n := by unfold Reg.REEF_PORTn_STAT; omega
  have hhi : Reg.REEF_PORTn_STAT n < 0x150000 := by unfold Reg.REEF_PORTn_STAT; omega
  have hcnt : 0x140010 ≤ Reg.REEF_CNTn_k n 1 ∧ Reg.REEF_CNTn_k n 1 + 4 < 0x150000 := by
    unfold Reg.REEF_CNTn_k
    omega
  have hput := ((h.put (Fld.REEF_PORTn_STAT_STATE n) 3 hlo hhi).put (Fld.REEF_PORTn_STAT_LAST_REASON n) reason hlo hhi).put
    (Fld.REEF_PORTn_STAT_CAP n) 0 hlo hhi
  exact ((hput.setReg64 _ hcnt.1 hcnt.2).setReef _ _).ite h

theorem ReefWork.reefReconfigure (old : State) (h : ReefWork s x) (hn : n < 48) :
    ReefWork s (State.reefReconfigure old x n) := by
  unfold State.reefReconfigure
  exact ((h.reefAwake hn).ite h).ite (((h.reefUnmanaged hn).ite ((h.setReef _ _).ite ((h.setReef _ _).ite h))).ite
    ((h.reefWake hn 7).ite h))

theorem reefWork_reefFollow (old s : State) : ReefWork s (State.reefFollow old s) := by
  unfold State.reefFollow
  extract_lets touched y
  have hy : ReefWork s y := (ReefWork.refl s).foldl fun z m hm hz => hz.musterRestart (by
    obtain ⟨e, he, rfl⟩ := List.mem_map.1 (mem_natDedup (mem_natSort (List.mem_filter.1 hm).1))
    have := of_decide_eq_true (List.mem_filter.1 he).2
    omega)
  exact hy.foldl fun z n hn hz => hz.reefReconfigure old (List.mem_range.1 hn)

/-! ### REEF_COMMIT_APPLY -/

/-- The request of a REEF commit is dealt with. -/
def State.reefTaken (s : State) : State :=
  { s with cmds := s.cmds.filter fun c => c != RegCmd.reefCommit }.put Fld.REEF_STATUS_PENDING 0

theorem reefTaken_shows (s : State) : s.reefTaken.get Fld.REEF_STATUS_PENDING = 0 ∧
    s.reefTaken.cmds = (s.cmds.filter fun c => c != RegCmd.reefCommit) :=
  ⟨State.get_put_zero _ _ (by decide) (by decide), rfl⟩

theorem reefTaken_leaves (s : State) : s.keepsRegs s.reefTaken [Reg.REEF_STATUS] ∧ s.keeps s.reefTaken [.cmds] := by
  have hk : s.keeps { s with cmds := s.cmds.filter fun c => c != RegCmd.reefCommit } [.cmds] :=
    State.keeps_cmds _ (State.keeps_mono (State.keeps_refl s) (by simp)) (.head _)
  exact ⟨State.keepsRegs_put { s with cmds := s.cmds.filter fun c => c != RegCmd.reefCommit } Fld.REEF_STATUS_PENDING 0,
    hk.put _ _⟩

theorem reefTaken_errors (s : State) : s.reefTaken.reefErrors = s.reefErrors :=
  reefErrors_congr ((reefTaken_leaves s).2 .live (by decide)) (reefTaken_leaves s).1 (SMap.filter_set ..)

/-- A rejected set: its faults are shown and reported, and the set in force stays. -/
def State.reefRejected (s : State) (e : Nat) : State :=
  let y := s.orReg Reg.REEF_CFG_ERR e
  y.raise 0x0806 0 [n4 (y.w Reg.REEF_CFG_ERR)]

theorem reefCommitApply_eq (h : s.cmds.contains .reefCommit = true) : s.reefCommitApply =
    if s.reefErrors ≠ 0 then s.reefTaken.reefRejected s.reefErrors
    else State.reefFollow s.reefTaken (s.reefTaken.goLive 0x140000 0x150000) := by
  rw [← reefTaken_errors s]
  exact if_pos h

/-- An accepted set is in force, every configuration register of it (R214). -/
theorem reefAccepted_shows (s : State) :
    let u := State.reefFollow s.reefTaken (s.reefTaken.goLive 0x140000 0x150000)
    u.cmds = (s.cmds.filter fun c => c != RegCmd.reefCommit) ∧ u.get Fld.REEF_STATUS_PENDING = 0 ∧
      ∀ (off : Nat) (r : RegRow), 0x140000 ≤ off → off < 0x150000 → RegMap.find off = some r → r.st ≠ 0 →
        off ≠ Reg.REEF_STATUS → u.liveReg off = s.reg off := by
  obtain ⟨hpending, hcmds⟩ := reefTaken_shows s
  obtain ⟨hregs, -⟩ := reefTaken_leaves s
  generalize s.reefTaken = y at *
  have hwork := reefWork_reefFollow y (y.goLive 0x140000 0x150000)
  generalize State.reefFollow y (y.goLive 0x140000 0x150000) = u at *
  refine ⟨hwork.cmds.trans hcmds, (hwork.get (f := Fld.REEF_STATUS_PENDING) (by decide)).trans hpending, ?_⟩
  intro off r hlo hhi hrow hst hne
  calc u.liveReg off = (y.goLive 0x140000 0x150000).liveReg off := State.liveReg_of_live hwork.live off
    _ = y.reg off := liveReg_goLive y hlo hhi hrow hst
    _ = s.reg off := hregs off (by simpa using hne)

theorem reefRejected_shows (s : State) (e : Nat) :
    let u := s.reefTaken.reefRejected e
    u.cmds = (s.cmds.filter fun c => c != RegCmd.reefCommit) ∧ u.get Fld.REEF_STATUS_PENDING = 0 ∧
      u.reg Reg.REEF_CFG_ERR = s.reg Reg.REEF_CFG_ERR ||| BitVec.ofNat 32 e ∧
      u.told 0x0806 0 [n4 (u.w Reg.REEF_CFG_ERR)] ∧
      s.keepsRegs u (Reg.REEF_STATUS :: Reg.REEF_CFG_ERR :: dropCounters) ∧ s.keeps u (.cmds :: eventParts) := by
  obtain ⟨hpending, hcmds⟩ := reefTaken_shows s
  obtain ⟨hregs, hkeeps⟩ := reefTaken_leaves s
  generalize s.reefTaken = y at *
  have herr : Reg.REEF_CFG_ERR ∉ dropCounters := by decide
  have hstatus : Reg.REEF_STATUS ∉ dropCounters := by decide
  have hset : (y.orReg Reg.REEF_CFG_ERR e).reg Reg.REEF_CFG_ERR = y.reg Reg.REEF_CFG_ERR ||| BitVec.ofNat 32 e :=
    State.reg_setReg_self ..
  have hshown : (y.orReg Reg.REEF_CFG_ERR e).get Fld.REEF_STATUS_PENDING = y.get Fld.REEF_STATUS_PENDING :=
    State.get_of_reg (State.reg_setReg_ne _ _ (by decide))
  have hkept : s.keepsRegs (y.orReg Reg.REEF_CFG_ERR e) (Reg.REEF_STATUS :: Reg.REEF_CFG_ERR :: dropCounters) :=
    State.keepsRegs.orReg (State.keepsRegs_mono hregs (by simp)) _ _ (by simp)
  have hkeeps : s.keeps (y.orReg Reg.REEF_CFG_ERR e) (.cmds :: eventParts) := (State.keeps_mono hkeeps (by simp)).orReg _ _
  have hcmds : (y.orReg Reg.REEF_CFG_ERR e).cmds = _ := hcmds
  unfold State.reefRejected
  dsimp only
  generalize y.orReg Reg.REEF_CFG_ERR e = z at *
  have hraise := State.reg_raise z 0x0806 0 [n4 (z.w Reg.REEF_CFG_ERR)]
  have htold := State.told_raise z 0x0806 0 [n4 (z.w Reg.REEF_CFG_ERR)]
  have hw : (z.raise 0x0806 0 [n4 (z.w Reg.REEF_CFG_ERR)]).w Reg.REEF_CFG_ERR = z.w Reg.REEF_CFG_ERR :=
    congrArg BitVec.toNat (hraise _ herr)
  refine ⟨(State.raise_cmds ..).trans hcmds, (State.get_of_reg (hraise _ hstatus)).trans (hshown.trans hpending),
    (hraise _ herr).trans (hset.trans ?_), by rwa [hw], hkept.raise _ _ _ fun _ h => .tail _ (.tail _ h),
    hkeeps.raise _ _ _ fun _ => .tail _⟩
  rw [hregs _ (by decide)]

theorem answers_reefCommitApply {t : Tai} (hs : s.up = true) :
    answers (exec (.reefCommitApply t) s) fun u =>
      if (s.at t).commitDue = true ∧ s.cmds.contains .reefCommit = true then
        u.cmds = s.cmds.filter (fun c => c != RegCmd.reefCommit) ∧ u.get Fld.REEF_STATUS_PENDING = 0 ∧
          (if s.reefErrors = 0 then
             ∀ (off : Nat) (r : RegRow), 0x140000 ≤ off → off < 0x150000 → RegMap.find off = some r → r.st ≠ 0 →
               off ≠ Reg.REEF_STATUS → u.liveReg off = s.reg off
           else
             u.reg Reg.REEF_CFG_ERR = s.reg Reg.REEF_CFG_ERR ||| BitVec.ofNat 32 s.reefErrors ∧
               u.told 0x0806 0 [n4 (u.w Reg.REEF_CFG_ERR)] ∧
               s.keepsRegs u (Reg.REEF_STATUS :: Reg.REEF_CFG_ERR :: dropCounters) ∧ s.keeps u (.cmds :: eventParts))
      else s.keepsRegs u [] ∧ s.keeps u [] := by
  refine answers_when (m := "REEF_COMMIT_APPLY") hs rfl t
    (fun ⟨hdue, hreq⟩ => ⟨_, (if_pos hdue).trans (reefCommitApply_eq (s := s.at t) hreq), ?_⟩)
    fun h => ite_eq_right_iff.2 fun hdue => if_neg fun hreq => h ⟨hdue, hreq⟩
  have herrors : (s.at t).reefErrors = s.reefErrors := rfl
  rw [herrors]
  by_cases h : s.reefErrors = 0
  · have hshows := reefAccepted_shows (s.at t)
    rw [if_neg (not_not_intro h), if_pos h]
    generalize State.reefFollow (s.at t).reefTaken ((s.at t).reefTaken.goLive 0x140000 0x150000) = u at *
    exact hshows
  · have hshows := reefRejected_shows (s.at t) s.reefErrors
    rw [if_pos h, if_neg h]
    generalize (s.at t).reefTaken.reefRejected s.reefErrors = u at *
    rw [State.keeps_withQueue, State.keepsRegs_withQueue, State.get_withQueue]
    simp only [State.keeps_from_at, State.keepsRegs_from_at] at hshows
    exact hshows

end

end Sys2Proof.Machine

namespace Sys2Proof.Machine

/-- Settles O48: each command of the Reef controller has an equation for the case in which its cause holds and one for the case in
which it does not; the rules above say what the state of each equation shows and leaves. -/
theorem portsSleepAndWakeForTheirCauses : Obligations.PortsSleepAndWakeForTheirCauses := by
  unfold Obligations.PortsSleepAndWakeForTheirCauses
  intro n t s hs hn
  exact ⟨fun busy => answers_reefSleep hs hn busy, fun dom1 rc dom2 => answers_wakePattern hs hn dom1 rc dom2,
    fun w hw => answers_wakeFrame hs hn w hw, answers_musterPreWake hs hn, answers_reefDecWake hs hn,
    answers_reefWakeComplete hs hn, answers_reefTxWake hs hn, answers_reefTxWakeDelay hs hn, answers_reefInsomnia hs hn,
    fun _ _ hm h => answers_musterSpanEnd hs hm h, answers_reefCommitApply hs⟩

end Sys2Proof.Machine

namespace Sys2Proof.Machine

/-! ### The SMBus target (R242, R243) -/

section
variable {s : State} {t : Tai}

/-- A read sends nothing out by itself. -/
theorem out_regRead (s : State) (path be off : Nat) : (s.regRead path be off).2.out = s.out := by
  unfold State.regRead
  (repeat' split) <;> rfl

/-- Outside a pause and recovery mode a doubleword of 32 bits that no read clears is answered as it stands (R483). -/
theorem regRead_plain (hp : s.glb.phase ≠ .pause) (hr : s.glb.phase ≠ .recovery) {be off : Nat} (path : Nat) (hbe : be ≠ 0)
    {r : RegRow} (hrow : RegMap.find off = some r) (hwin : ¬(0x220000 ≤ off ∧ off < 0x230000)) (hrc : r.rc = false)
    (hwide : r.wide = false) :
    s.regRead path be off = (BitVec.ofNat 32 (s.present off) &&& r.half off r.rd, s) := by
  have hinstead : s.readInstead off = none := by
    simp only [State.readInstead, if_neg hwin, hrow]
    cases hphase : s.glb.phase
    case pause => exact absurd hphase hp
    case recovery => exact absurd hphase hr
    all_goals rfl
  simp only [State.regRead, if_neg hbe, hinstead, hrow, hrc, hwide, Bool.false_eq_true, if_false]

theorem smbUp_of (hs : s.up = true) (hr : s.glb.phase ≠ .recovery) (hd : s.domain 22 = 2) : s.smbUp = true := by
  have hup : s.glb.phase ≠ .powerOnReset := (State.up_iff s).1 hs
  simp [State.smbUp, hd, hup, hr]

theorem smbBadAddr_iff (addr : Nat) : smbBadAddr addr = true ↔ addr % 4 ≠ 0 ∨ 0x4000000 ≤ addr := by
  simp [smbBadAddr]

theorem smbBadAddr_of_good {addr : Nat} (ha : addr % 4 = 0) (hlt : addr < 0x4000000) : smbBadAddr addr = false := by
  simp [smbBadAddr, ha, hlt]

/-- What a refusal shows: NAK, and one more in ETH_SMB_NAK. -/
def State.refusesSmb (s u : State) (l : List Part) : Prop :=
  u.out = [.smbus true []] ∧ u.reg Reg.ETH_SMB_NAK = s.reg Reg.ETH_SMB_NAK + 1 ∧ s.keepsRegs u [Reg.ETH_SMB_NAK] ∧ s.keeps u l

theorem reg_count32_self (s : State) (o : Nat) : (s.count32 o).reg o = s.reg o + 1 := State.reg_setReg_self ..

theorem refusesSmb_smbNak {x : State} {l : List Part} (hk : s.keeps x l) (hout : x.out = []) (hregs : x.regs = s.regs) :
    s.refusesSmb x.smbNak l := by
  have hsame : s.keepsRegs x [Reg.ETH_SMB_NAK] := .same (fun _ _ => rfl) hregs
  refine ⟨by simp [State.smbNak, hout], ?_, ?_, ?_⟩
  · rw [State.smbNak, State.reg_emit, reg_count32_self, State.reg_of_regs hregs]
  · exact (State.keepsRegs_back hsame (State.keepsRegs_count32 x _ _) (by simp)).same rfl
  · exact State.keeps_back (State.keeps_back hk (State.keeps_count32 x Reg.ETH_SMB_NAK 1) (by simp)) (State.keeps_emit _ _)
      (by simp)

/-- A register write on the target's path, as REGISTER_WRITE performs it. -/
theorem exec_registerWrite_smb (hs : s.up = true) {addr : Nat} (ha : addr % 4 = 0) (hlt : addr < 0x4000000) (v : Word) :
    exec (.registerWrite smbAccess addr v t) s = .next (((s.at t).regWrite smbAccess addr v).withQueue s.pending) :=
  next_of_up hs (by simp [Instr.wf, Access.ok, smbAccess, bar0, ha, hlt])

/-- A read of the register on the target's path, as REGISTER_READ_64 performs it. -/
theorem exec_registerRead64_smb (hs : s.up = true) {addr : Nat} (ha : addr % 4 = 0) (hlt : addr < 0x4000000) (pads : Nat) :
    exec (.registerRead64 1 15 addr false pads t) s =
      .next ((((s.at t).sampleNet pads).answerRead 1 15 addr).withQueue s.pending) :=
  next_of_up hs (by simp [Instr.wf, bar0, ha, hlt])

/-- The rows of the two registers that ID answers. -/
def rowGlbId : RegRow := { base := 0x0, rd := 0xFFFFFFFF, reset := 0x1B04830 }
def rowBeatStatus : RegRow := { base := 0x10000, rd := 0x1FFF077F, reset := 0x1 }

theorem find_glbId : RegMap.find Reg.GLB_ID = some rowGlbId := by decide
theorem find_beatStatus : RegMap.find Reg.BEAT_STATUS = some rowBeatStatus := by decide

theorem smbId_eq {x : State} (hs : x.up = true) (hr : x.glb.phase ≠ .recovery) (hp : x.glb.phase ≠ .pause)
    (hd : x.domain 22 = 2) :
    x.smbCommand 0x12 = x.emit (.smbus false (le 4 (x.reg Reg.GLB_ID &&& BitVec.ofNat 32 rowGlbId.rd).toNat ++
      le 4 (x.reg Reg.BEAT_STATUS &&& BitVec.ofNat 32 rowBeatStatus.rd).toNat)) := by
  have hup : x.glb.phase ≠ .powerOnReset := (State.up_iff x).1 hs
  have hpresent : ∀ off, off = Reg.GLB_ID ∨ off = Reg.BEAT_STATUS → BitVec.ofNat 32 (x.present off) = x.reg off := by
    rintro off (rfl | rfl) <;> exact BitVec.ofNat_toNat ..
  rw [State.smbCommand, if_pos rfl, State.smbId, if_pos ⟨hd, hup⟩,
    regRead_plain hp hr 1 (by decide) find_glbId (by decide) rfl rfl]
  dsimp only
  rw [regRead_plain hp hr 1 (by decide) find_beatStatus (by decide) rfl rfl, hpresent _ (.inl rfl), hpresent _ (.inr rfl)]
  rfl

theorem smbId_answers (hs : s.up = true) (hr : s.glb.phase ≠ .recovery) (hp : s.glb.phase ≠ .pause) (hd : s.domain 22 = 2) :
    answers (exec (.smbId 0x12 t) s) fun u =>
      (∃ id status : RegRow, RegMap.find Reg.GLB_ID = some id ∧ RegMap.find Reg.BEAT_STATUS = some status ∧
        u.out = [.smbus false (le 4 (s.reg Reg.GLB_ID &&& BitVec.ofNat 32 id.rd).toNat ++
          le 4 (s.reg Reg.BEAT_STATUS &&& BitVec.ofNat 32 status.rd).toNat)]) ∧ s.keepsRegs u [] ∧ s.keeps u [] := by
  have hok : (Instr.smbId 0x12 t).wf = true := rfl
  refine answers_effect (m := "SMB_ID") hs hok ?_
  rw [smbId_eq (x := s.at t) hs hr hp hd, State.keepsRegs_withQueue, State.keeps_withQueue]
  exact ⟨⟨_, _, find_glbId, find_beatStatus, rfl⟩, State.keepsRegs.at s t [],
    State.keeps_back (.at s t []) (State.keeps_emit _ _) (by simp)⟩

/-- A refusal, as a command of the target answers it. -/
theorem State.refusesSmb.withQueue {u : State} {l : List Part} (h : s.refusesSmb u l) (q : List Instr) :
    s.refusesSmb (u.withQueue q) l := by
  obtain ⟨hout, hnak, hregs, hparts⟩ := h
  exact ⟨hout, hnak, hregs, (State.keeps_withQueue ..).2 hparts⟩

theorem smbId_refuses (hs : s.up = true) (hr : s.glb.phase ≠ .recovery) (hd : s.domain 22 = 2) {code : Nat}
    (hcode : code < 256 ∧ code ≠ 0x10 ∧ code ≠ 0x11) (hid : code ≠ 0x12) :
    answers (exec (.smbId code t) s) (s.refusesSmb · []) := by
  refine answers_effect hs (decide_eq_true hcode) ?_
  have hup : (s.at t).smbUp = true := smbUp_of hs hr hd
  rw [State.smbCommand, if_neg hid, if_pos hup]
  exact (refusesSmb_smbNak (State.keeps.at s t []) rfl rfl).withQueue _

theorem smbRead32_refuses (hs : s.up = true) (hr : s.glb.phase ≠ .recovery) (hd : s.domain 22 = 2) {addr : Nat}
    (haddr : addr < 2 ^ 32) (pads : Nat) (hbad : addr % 4 ≠ 0 ∨ 0x4000000 ≤ addr) :
    answers (exec (.smbRead32 addr pads t) s) (s.refusesSmb · [.pin]) := by
  refine answers_effect hs (decide_eq_true haddr) ?_
  have hup : ((s.at t).sampleNet pads).smbUp = true := smbUp_of hs hr hd
  rw [State.smbRead, if_neg (by simp [hup]), if_pos ((smbBadAddr_iff addr).2 hbad)]
  have hkept : s.keeps ((s.at t).sampleNet pads) [.pin] := State.keeps_pin _ (.at s t _) (by simp)
  exact (refusesSmb_smbNak hkept rfl rfl).withQueue _

theorem smbRead32_answers (hs : s.up = true) (hr : s.glb.phase ≠ .recovery) (hd : s.domain 22 = 2) {addr : Nat}
    (ha : addr % 4 = 0) (hlt : addr < 0x4000000) (pads : Nat) :
    answers (exec (.smbRead32 addr pads t) s) fun u =>
      ∃ (w : Word) (z : State), exec (.registerRead64 1 15 addr false pads t) s = .next z ∧ z.out = [.readData w] ∧
        u = { z with out := [.smbus false (le 4 w.toNat)] } := by
  have hup : ((s.at t).sampleNet pads).smbUp = true := smbUp_of hs hr hd
  have hout : (((s.at t).sampleNet pads).regRead 1 15 addr).2.out = [] := out_regRead ..
  have hread := exec_registerRead64_smb (t := t) hs ha hlt pads
  refine answers_effect hs (decide_eq_true (by omega)) ?_
  rw [State.smbRead, if_neg (by simp [hup]), if_neg (by simp [smbBadAddr_of_good ha hlt])]
  unfold State.answerRead at hread
  generalize ((s.at t).sampleNet pads).regRead 1 15 addr = r at *
  exact ⟨r.1, _, hread, congrArg (· ++ [_]) hout, by simp [State.withQueue, State.emit, hout]⟩

theorem smbWrite32_refuses (hs : s.up = true) (hr : s.glb.phase ≠ .recovery) (hd : s.domain 22 = 2) {addr pec : Nat}
    (haddr : addr < 2 ^ 32) (hpec : pec < 3) (v : Word)
    (hbad : addr % 4 ≠ 0 ∨ 0x4000000 ≤ addr ∨ s.on Fld.ETH_SMB_CFG_WRITE_EN = false) :
    answers (exec (.smbWrite32 addr v pec t) s) (s.refusesSmb · []) := by
  refine answers_effect hs (decide_eq_true ⟨haddr, hpec⟩) ?_
  have hup : (s.at t).smbUp = true := smbUp_of hs hr hd
  have hrefused : (s.at t).on Fld.ETH_SMB_CFG_WRITE_EN = false ∨ smbBadAddr addr = true := by
    rw [smbBadAddr_iff]
    exact hbad.elim (.inr ∘ .inl) (·.elim (.inr ∘ .inr) .inl)
  rw [State.smbWrite, if_neg (by simp [hup]), if_pos hrefused]
  exact (refusesSmb_smbNak (State.keeps.at s t []) rfl rfl).withQueue _

/-- A write of an address that the target takes, once writes are enabled. -/
theorem smbWrite_taken {x : State} (hup : x.smbUp = true) (hen : x.on Fld.ETH_SMB_CFG_WRITE_EN = true) {addr : Nat}
    (ha : addr % 4 = 0) (hlt : addr < 0x4000000) (v : Word) (pec : Nat) :
    x.smbWrite addr v pec = if x.on Fld.ETH_SMB_CFG_PEC_REQ = true ∧ pec ≠ 1 then x.count32 Reg.ETH_SMB_PEC_ERR
      else x.regWrite smbAccess addr v := by
  rw [State.smbWrite, if_neg (by simp [hup]), if_neg (by simp [hen, smbBadAddr_of_good ha hlt])]

theorem smbWrite32_discards (hs : s.up = true) (hr : s.glb.phase ≠ .recovery) (hd : s.domain 22 = 2) {addr pec : Nat}
    (hpec : pec < 3) (v : Word) (ha : addr % 4 = 0) (hlt : addr < 0x4000000) (hen : s.on Fld.ETH_SMB_CFG_WRITE_EN = true)
    (hwrong : s.on Fld.ETH_SMB_CFG_PEC_REQ = true ∧ pec ≠ 1) :
    answers (exec (.smbWrite32 addr v pec t) s) fun u =>
      u.reg Reg.ETH_SMB_PEC_ERR = s.reg Reg.ETH_SMB_PEC_ERR + 1 ∧ s.keepsRegs u [Reg.ETH_SMB_PEC_ERR] ∧ s.keeps u [] := by
  refine answers_effect hs (decide_eq_true ⟨by omega, hpec⟩) ?_
  rw [smbWrite_taken (x := s.at t) (smbUp_of hs hr hd) hen ha hlt,
    if_pos (c := (s.at t).on Fld.ETH_SMB_CFG_PEC_REQ = true ∧ pec ≠ 1) hwrong, State.keepsRegs_withQueue,
    State.keeps_withQueue, State.reg_withQueue]
  exact ⟨reg_count32_self .., State.keepsRegs_count32 (s.at t) _ _,
    State.keeps_back (.at s t []) (State.keeps_count32 _ _ _) (by simp)⟩

theorem smbWrite32_writes (hs : s.up = true) (hr : s.glb.phase ≠ .recovery) (hd : s.domain 22 = 2) {addr pec : Nat}
    (hpec : pec < 3) (v : Word) (ha : addr % 4 = 0) (hlt : addr < 0x4000000) (hen : s.on Fld.ETH_SMB_CFG_WRITE_EN = true)
    (hright : s.on Fld.ETH_SMB_CFG_PEC_REQ = false ∨ pec = 1) :
    answers (exec (.smbWrite32 addr v pec t) s) fun u => exec (.registerWrite smbAccess addr v t) s = .next u := by
  refine answers_effect hs (decide_eq_true ⟨by omega, hpec⟩) ?_
  have htaken : ¬((s.at t).on Fld.ETH_SMB_CFG_PEC_REQ = true ∧ pec ≠ 1) := fun ⟨hreq, hpec⟩ =>
    hright.elim (fun h => Bool.false_ne_true (h.symm.trans hreq)) hpec
  rw [smbWrite_taken (x := s.at t) (smbUp_of hs hr hd) hen ha hlt, if_neg htaken]
  exact exec_registerWrite_smb hs ha hlt v

end

end Sys2Proof.Machine

namespace Sys2Proof.Machine

/-- Settles O29: what the target refuses, what ID answers, and where READ32 and WRITE32 are REGISTER_READ_64 and REGISTER_WRITE
on path 1. -/
theorem smbusServesOneRegisterAtATime : Obligations.SmbusServesOneRegisterAtATime := by
  unfold Obligations.SmbusServesOneRegisterAtATime
  intro addr pads pec code v t s hs hr hd haddr hpec hcode hwrite hread
  exact ⟨fun hid hp => hid ▸ smbId_answers hs hr hp hd, smbId_refuses hs hr hd ⟨hcode, hwrite, hread⟩,
    smbRead32_refuses hs hr hd haddr pads, smbWrite32_refuses hs hr hd haddr hpec v, fun ha hlt =>
      ⟨smbRead32_answers hs hr hd ha hlt pads, fun hen =>
        ⟨smbWrite32_discards hs hr hd hpec v ha hlt hen, smbWrite32_writes hs hr hd hpec v ha hlt hen⟩⟩⟩

end Sys2Proof.Machine


namespace Sys2Proof.Machine

/-! ### A frame sent on a T1S segment for a ring beyond the table (R92, R222) -/

/-- A TX ring far beyond the 64 of the table: its status word is the low half of TX_OK of T1S segment 0. -/
def straySender : Nat := (Reg.T1S_Ss_CNTk 0 3 - Reg.HIF_TXn_STAT 0) / 0x20

/-- A host frame of the stray ring, without CMPL, that port 48 sends. -/
def straySent : Frame :=
  { strayHostFrame with
    wire := { strayCopy.wire with kind := 4 }, opened := [48],
    host := some { ring := straySender, tag := 0, cmpl := false, oneShot := false, dest := 0, gen := 0 } }

/-- Its copy, in transmission on port 48. -/
def straySentCopy : Copy := { strayCopy with port := 48, wire := straySent.wire, ahead := false }

/-- Segment 0 is UP and has sent 65535 frames; its next is the one of the stray ring. -/
def straySending : State :=
  let s := { State.reset with glb := { State.reset.glb with phase := .running } }
  let s := (s.put (Fld.T1S_Ss_STATUS_STATE 0) 2).setReg64 (Reg.T1S_Ss_CNTk 0 3) 0xFFFF
  { s with fab := { s.fab with frames := [(0, straySent)], sending := [(48, straySentCopy)] } }

/-- TX_OK of segment 0 after a command. -/
def framesSentAfter (o : Host.Outcome State Fault Refusal) : Nat :=
  match o with
  | .next u => u.reg64 (Reg.T1S_Ss_CNTk 0 3)
  | _ => 0

/-- The count of the frame, 65536, is undone by the count of OUTSTANDING, whose field stands in the same word. -/
theorem framesSentAfter_straySending : framesSentAfter (exec (.ethTxComplete 48 0 1000 0) straySending) = 0 := by
  decide +kernel

/-- What the statement asks of the state, and what segment 0 has counted before. -/
theorem straySending_meets : straySending.up = true ∧ straySending.sending 48 = some straySentCopy ∧
    straySending.reg64 (Reg.T1S_Ss_CNTk 0 3) = 0xFFFF := by
  and_intros <;> decide +kernel

/-- Refutes O49: the end of a frame counts TX_OK of its port, and the outcome of a host frame without CMPL counts OUTSTANDING of
its ring down. The statement speaks of every state, so of one with a frame whose ring lies beyond the table: its status word
is the low half of TX_OK of T1S segment 0 (`straySender`), and the two counts cancel. No command leads there (TX_FRAME and the
intake name only rings of the table); where the ring lies in the table, its status word lies below the counters of the ports. -/
theorem not_ethernetFramesLinksAndPlcaFollowTheManual : ¬ Obligations.EthernetFramesLinksAndPlcaFollowTheManual := by
  intro h
  obtain ⟨hup, hsending, hbefore⟩ := straySending_meets
  obtain ⟨_, _, hcomplete, _⟩ := h 48 0 0 0 straySending hup (by decide) (by decide) (by decide) (by decide)
  obtain ⟨u, hu, _, _, _, hsent⟩ := hcomplete 0 1000 straySentCopy hsending
  have hcount : u.reg64 (Reg.T1S_Ss_CNTk 0 3) = (straySending.reg64 (Reg.T1S_Ss_CNTk 0 3) + 1) % 2 ^ 64 := hsent
  have hafter : u.reg64 (Reg.T1S_Ss_CNTk 0 3) = 0 := by
    have hn := framesSentAfter_straySending
    rw [hu] at hn
    exact hn
  rw [hafter, hbefore] at hcount
  exact absurd hcount (by decide)

end Sys2Proof.Machine


namespace Sys2Proof.Machine

/-! ### A listed key beside the one that changes -/

theorem SMap.look_put_ne {α : Type} (m : List (Nat × α)) {k j : Nat} (v : α) (h : j ≠ k) :
    SMap.look (SMap.put m k v) j = SMap.look m j := by
  unfold SMap.look
  congr 1
  induction m with
  | nil => simp [SMap.put, h.symm]
  | cons e m ih =>
    obtain ⟨i, w⟩ := e
    simp only [SMap.put]
    split
    · next hki => simp [← hki, h.symm]
    · split
      · rw [List.find?_cons_of_neg (by simpa using h.symm)]
      · simp only [List.find?_cons, ih]

theorem SMap.look_del_ne {α : Type} (m : List (Nat × α)) {k j : Nat} (h : j ≠ k) :
    SMap.look (SMap.del m k) j = SMap.look m j := by
  unfold SMap.look SMap.del
  rw [List.find?_filter]
  congr 2
  funext e
  by_cases he : e.1 = j
  · simp [he, h]
  · simp [he]

/-! ### Two fields of one register -/

theorem get_put_bits (s : State) (o : Nat) {hi lo v : Nat} (hh : hi < 32) (hl : lo ≤ hi) (hv : v < 2 ^ (hi + 1 - lo)) :
    (s.put ⟨o, hi, lo⟩ v).get ⟨o, hi, lo⟩ = v := State.get_put_fit s ⟨o, hi, lo⟩ v hh hl hv

theorem get_put_bits_beside (s : State) (o v : Nat) {hi lo hi' lo' : Nat} (hh : hi < 32) (hl : lo ≤ hi)
    (hd : hi < lo' ∨ hi' < lo) : (s.put ⟨o, hi, lo⟩ v).get ⟨o, hi', lo'⟩ = s.get ⟨o, hi', lo'⟩ :=
  State.get_put_field s ⟨o, hi, lo⟩ ⟨o, hi', lo'⟩ v rfl hh hl hd

/-! ### Work that meets one element of a list -/

/-- Work over a list reaches what it does at one element, when the work before leads there and the work behind keeps it. -/
theorem foldl_reaches {α : Type} {g : State → α → State} {as : List α} {a : α} {x : State} {before P : State → Prop}
    (ha : a ∈ as) (hx : before x) (hbefore : ∀ y, before y → ∀ b ∈ as, before (g y b)) (hmeets : ∀ y, before y → P (g y a))
    (hkeeps : ∀ y, P y → ∀ b ∈ as, P (g y b)) : P (as.foldl g x) := by
  obtain ⟨l, r, rfl⟩ := List.append_of_mem ha
  rw [List.foldl_append, List.foldl_cons]
  have hl : before (l.foldl g x) := List.foldlRecOn l g hx fun y hy b hb => hbefore y hy b (by simp [hb])
  exact List.foldlRecOn r g (hmeets _ hl) fun y hy b hb => hkeeps y hy b (by simp [hb])

/-! ### Events beside one that has been told -/

/-- What has been told stays told when another event is raised. -/
theorem State.told.raise {s : State} {c u : Nat} {d : List Detail} (h : s.told c u d) (c' u' : Nat) (d' : List Detail) :
    (s.raise c' u' d').told c u d := by
  obtain ⟨e, he, hshown⟩ := h
  obtain ⟨l, hl⟩ := State.raised_raise s c' u' d'
  exact ⟨e, by rw [hl]; exact List.mem_append_left _ he, hshown⟩

/-! ### A load goes live (R268) -/

section
variable {s x u : State} {l : KeyLoad}

/-- The registers of a key slot that a load writes. -/
def keySlotRegs (n : Nat) : List Nat :=
  [Reg.CIPH_KSn_STAT n, Reg.CIPH_KSn_LIMIT n, Reg.CIPH_KSn_USED n, Reg.CIPH_KSn_USED n + 4]

theorem not_mem_keySlotRegs {n m o : Nat} (h : n ≠ m) (ho : o ∈ keySlotRegs n) : o ∉ keySlotRegs m := by
  simp only [keySlotRegs, List.mem_cons, List.not_mem_nil, or_false, Reg.CIPH_KSn_STAT, Reg.CIPH_KSn_LIMIT,
    Reg.CIPH_KSn_USED] at ho ⊢
  omega

theorem keySlotRegs_between {n o : Nat} (hn : n < 64) (ho : o ∈ keySlotRegs n) : 0x180100 ≤ o ∧ o < 0x180900 := by
  simp only [keySlotRegs, List.mem_cons, List.not_mem_nil, or_false, Reg.CIPH_KSn_STAT, Reg.CIPH_KSn_LIMIT,
    Reg.CIPH_KSn_USED] at ho
  omega

theorem keySlotRegs_untold {n o : Nat} (hn : n < 64) (ho : o ∈ keySlotRegs n) : o ∉ dropCounters :=
  have h := keySlotRegs_between hn ho
  not_mem_dropCounters_between (by omega) (by omega)

/-- The key and its attributes stand in the slot with USED 0. -/
structure KeyShown (u : State) (l : KeyLoad) : Prop where
  key : u.keyOf l.slot = some { key := l.key, resv := 0 }
  state : u.keyState l.slot = 1
  size : u.get (Fld.CIPH_KSn_STAT_SIZE l.slot) = l.size
  attr : u.get (Fld.CIPH_KSn_STAT_ATTR l.slot) = l.attr
  limit : u.reg (Reg.CIPH_KSn_LIMIT l.slot) = BitVec.ofNat 32 l.limit
  used : u.keyUsed l.slot = 0

theorem KeyShown.of_frame (h : KeyShown x l) (hkey : u.keyOf l.slot = x.keyOf l.slot) {r : List Nat} (hregs : x.keepsRegs u r)
    (hr : ∀ o ∈ keySlotRegs l.slot, o ∉ r) : KeyShown u l where
  key := hkey.trans h.key
  state := (hregs.get (hr _ (by simp [keySlotRegs, Fld.CIPH_KSn_STAT_STATE]))).trans h.state
  size := (hregs.get (hr _ (by simp [keySlotRegs, Fld.CIPH_KSn_STAT_SIZE]))).trans h.size
  attr := (hregs.get (hr _ (by simp [keySlotRegs, Fld.CIPH_KSn_STAT_ATTR]))).trans h.attr
  limit := (hregs _ (hr _ (by simp [keySlotRegs]))).trans h.limit
  used := (hregs.reg64 (hr _ (by simp [keySlotRegs])) (hr _ (by simp [keySlotRegs]))).trans h.used

/-- STAT of a slot as a load that goes live writes it. -/
def State.statLoaded (s : State) (l : KeyLoad) : State :=
  (((s.put (Fld.CIPH_KSn_STAT_STATE l.slot) 1).put (Fld.CIPH_KSn_STAT_SIZE l.slot) l.size).put
    (Fld.CIPH_KSn_STAT_ATTR l.slot) l.attr).put (Fld.CIPH_KSn_STAT_REASON l.slot) 0

theorem statLoaded_shows (s : State) (hattr : l.attr < 64) (hsize : l.size < 4) :
    (s.statLoaded l).get (Fld.CIPH_KSn_STAT_STATE l.slot) = 1 ∧ (s.statLoaded l).get (Fld.CIPH_KSn_STAT_SIZE l.slot) = l.size ∧
      (s.statLoaded l).get (Fld.CIPH_KSn_STAT_ATTR l.slot) = l.attr := by
  unfold State.statLoaded
  refine ⟨?_, ?_, ?_⟩
  · calc _ = _ := get_put_bits_beside _ _ 0 (by decide) (by decide) (by decide)
      _ = _ := get_put_bits_beside _ _ l.attr (by decide) (by decide) (by decide)
      _ = _ := get_put_bits_beside _ _ l.size (by decide) (by decide) (by decide)
      _ = _ := get_put_bits s _ (by decide) (by decide) (by decide)
  · calc _ = _ := get_put_bits_beside _ _ 0 (by decide) (by decide) (by decide)
      _ = _ := get_put_bits_beside _ _ l.attr (by decide) (by decide) (by decide)
      _ = _ := get_put_bits _ _ (by decide) (by decide) hsize
  · calc _ = _ := get_put_bits_beside _ _ 0 (by decide) (by decide) (by decide)
      _ = _ := get_put_bits _ _ (by decide) (by decide) hattr

theorem keepsRegs_statLoaded (s : State) (l : KeyLoad) : s.keepsRegs (s.statLoaded l) [Reg.CIPH_KSn_STAT l.slot] :=
  have hmem : Reg.CIPH_KSn_STAT l.slot ∈ [Reg.CIPH_KSn_STAT l.slot] := List.mem_singleton.2 rfl
  (((State.keepsRegs_put s (Fld.CIPH_KSn_STAT_STATE l.slot) 1).put (Fld.CIPH_KSn_STAT_SIZE l.slot) l.size hmem).put
    (Fld.CIPH_KSn_STAT_ATTR l.slot) l.attr hmem).put (Fld.CIPH_KSn_STAT_REASON l.slot) 0 hmem

/-- The vault with a load taken into its slot. -/
def State.keyTaken (s : State) (l : KeyLoad) : State :=
  let persist := bit l.attr attrPersist
  { s with ciph := { s.ciph with
      keys := SMap.put s.ciph.keys l.slot { key := l.key, resv := 0 },
      loads := s.ciph.loads.filter (fun x => x.slot != l.slot),
      backing := if persist then SMap.put s.ciph.backing l.slot l else SMap.del s.ciph.backing l.slot,
      backingUsed := if persist then SMap.put s.ciph.backingUsed l.slot (min (limitOf l.limit) 1048576)
        else SMap.del s.ciph.backingUsed l.slot } }

/-- A load as its slot shows it, before it is told. -/
def State.loadShown (s : State) (l : KeyLoad) : State :=
  (((s.keyTaken l).statLoaded l).setReg (Reg.CIPH_KSn_LIMIT l.slot) (BitVec.ofNat 32 l.limit)).setReg64
    (Reg.CIPH_KSn_USED l.slot) 0

theorem loadLive_eq (s : State) (l : KeyLoad) :
    s.loadLive l = (s.loadShown l).raise 0x0C05 (unitOf 7 l.slot) [n4 l.attr, n4 l.limit] := rfl

theorem ev_loadShown (s : State) (l : KeyLoad) : (s.loadShown l).ev = s.ev := by
  simp only [State.loadShown, State.statLoaded, State.setReg64_ev, State.setReg_ev, State.put_ev]
  rfl

theorem ciph_loadLive (s : State) (l : KeyLoad) : (s.loadLive l).ciph = (s.keyTaken l).ciph := by
  rw [loadLive_eq, State.raise_ciph]
  rfl

theorem keepsRegs_loadShown (s : State) (l : KeyLoad) : s.keepsRegs (s.loadShown l) (keySlotRegs l.slot) :=
  have hstat : s.keepsRegs ((s.keyTaken l).statLoaded l) (keySlotRegs l.slot) :=
    State.keepsRegs_mono (s := s) (keepsRegs_statLoaded (s.keyTaken l) l) (by simp [keySlotRegs])
  (hstat.setReg _ (by simp [keySlotRegs])).setReg64 _ _ (by simp [keySlotRegs, pair64])

theorem keepsRegs_loadLive (s : State) (l : KeyLoad) : s.keepsRegs (s.loadLive l) (keySlotRegs l.slot ++ dropCounters) :=
  State.keepsRegs_trans (keepsRegs_loadShown s l) (State.keepsRegs_raise _ _ _ _)

theorem keyShown_loadShown (s : State) (hattr : l.attr < 64) (hsize : l.size < 4) : KeyShown (s.loadShown l) l := by
  obtain ⟨hstate, hsized, hattrs⟩ := statLoaded_shows (s.keyTaken l) hattr hsize
  have hlimit := State.keepsRegs_setReg ((s.keyTaken l).statLoaded l) (Reg.CIPH_KSn_LIMIT l.slot) (BitVec.ofNat 32 l.limit)
  have hstat : ((s.keyTaken l).statLoaded l).keepsRegs (s.loadShown l)
      (Reg.CIPH_KSn_LIMIT l.slot :: pair64 (Reg.CIPH_KSn_USED l.slot)) :=
    State.keepsRegs_trans hlimit (State.keepsRegs_setReg64 _ _ _)
  have hoff : Reg.CIPH_KSn_STAT l.slot ∉ Reg.CIPH_KSn_LIMIT l.slot :: pair64 (Reg.CIPH_KSn_USED l.slot) := by
    simp only [pair64, List.mem_cons, List.not_mem_nil, or_false, Reg.CIPH_KSn_STAT, Reg.CIPH_KSn_LIMIT, Reg.CIPH_KSn_USED]
    omega
  exact {
    key := SMap.look_put ..
    state := (hstat.get hoff).trans hstate
    size := (hstat.get hoff).trans hsized
    attr := (hstat.get hoff).trans hattrs
    limit := by
      have hbelow : Reg.CIPH_KSn_LIMIT l.slot < Reg.CIPH_KSn_USED l.slot := by
        simp only [Reg.CIPH_KSn_LIMIT, Reg.CIPH_KSn_USED]
        omega
      rw [State.loadShown, State.reg_setReg64 _ _ _ _ (by omega) (by omega), State.reg_setReg_self]
    used := State.reg64_setReg64 .. }

/-- The slot of a load shows its key, and CIPH_KEY_LIVE has been told of it. -/
def State.tellsKey (u : State) (l : KeyLoad) : Prop :=
  KeyShown u l ∧ u.told 0x0C05 (unitOf 7 l.slot) [n4 l.attr, n4 l.limit]

theorem tellsKey_loadLive (s : State) (hslot : l.slot < 64) (hattr : l.attr < 64) (hsize : l.size < 4) :
    (s.loadLive l).tellsKey l :=
  ⟨(keyShown_loadShown s hattr hsize).of_frame (by rw [State.keyOf, loadLive_eq, State.raise_ciph]; rfl)
    (State.keepsRegs_raise _ _ _ _) fun _ => keySlotRegs_untold hslot, State.told_raise ..⟩

/-- A load of another slot leaves it. -/
theorem State.tellsKey.loadLive (h : x.tellsKey l) (hslot : l.slot < 64) {m : KeyLoad} (hm : l.slot ≠ m.slot) :
    (x.loadLive m).tellsKey l := by
  obtain ⟨hshown, htold⟩ := h
  have hkey : (x.loadLive m).keyOf l.slot = x.keyOf l.slot := by
    rw [State.keyOf, ciph_loadLive]
    exact SMap.look_put_ne _ _ hm
  have hraised : (x.loadShown m).ev.raised = x.ev.raised := congrArg EventUnit.raised (ev_loadShown x m)
  have hbefore : (x.loadShown m).told 0x0C05 (unitOf 7 l.slot) [n4 l.attr, n4 l.limit] := State.told_of_raised hraised htold
  refine ⟨hshown.of_frame hkey (keepsRegs_loadLive x m) fun o ho => ?_, hbefore.raise _ _ _⟩
  rw [List.mem_append, not_or]
  exact ⟨not_mem_keySlotRegs hm ho, keySlotRegs_untold hslot ho⟩

theorem loads_loadsLive (s : State) : s.loadsLive.ciph.loads = [] := by
  have hsub : ∀ y : State, y.ciph.loads ⊆ s.ciph.loads → ∀ m : KeyLoad, (y.loadLive m).ciph.loads ⊆ s.ciph.loads :=
    fun y hy m k hk => hy (by rw [ciph_loadLive] at hk; exact (List.mem_filter.1 hk).1)
  refine List.eq_nil_iff_forall_not_mem.2 fun k hk => ?_
  have hwas : k ∈ s.ciph.loads :=
    List.foldlRecOn (motive := fun y : State => y.ciph.loads ⊆ s.ciph.loads) s.ciph.loads State.loadLive (fun _ h => h)
      (fun y hy m _ => hsub y hy m) hk
  have hgone : ∀ j ∈ s.loadsLive.ciph.loads, j.slot ≠ k.slot :=
    foldl_reaches (before := fun _ => True) (P := fun y : State => ∀ j ∈ y.ciph.loads, j.slot ≠ k.slot) hwas trivial
      (fun _ _ _ _ => trivial)
      (fun y _ j hj => by rw [ciph_loadLive] at hj; simpa using (List.mem_filter.1 hj).2)
      (fun y hy m _ j hj => hy j (by rw [ciph_loadLive] at hj; exact (List.mem_filter.1 hj).1))
  exact hgone k hk rfl

theorem tellsKey_loadsLive (hl : l ∈ s.ciph.loads) (hone : ∀ x ∈ s.ciph.loads, x.slot < 64 ∧ (x.slot = l.slot → x = l))
    (hattr : l.attr < 64) (hsize : l.size < 4) : s.loadsLive.tellsKey l := by
  obtain ⟨hslot, _⟩ := hone l hl
  refine foldl_reaches (g := State.loadLive) (before := fun _ => True) (P := fun y => y.tellsKey l) hl trivial (fun _ _ _ _ => trivial)
    (fun y _ => tellsKey_loadLive y hslot hattr hsize) fun y hy m hm => ?_
  by_cases h : m.slot = l.slot
  · rw [(hone m hm).2 h]
    exact tellsKey_loadLive y hslot hattr hsize
  · exact hy.loadLive hslot (Ne.symm h)

end

/-! ### A slot retires (R269, R271) -/

section
variable {s x u : State} {n : Nat} {t : Tai}

/-- The vault without the key of a slot; a load that waits for the slot finds it RETIRED. -/
def State.keyGone (s : State) (n : Nat) : State :=
  { s with ciph := { s.ciph with
      keys := SMap.del s.ciph.keys n,
      loads := s.ciph.loads.map fun (l : KeyLoad) => if l.slot = n then { l with prior := 2 } else l } }

/-- A slot as it shows its retirement, before it is told. -/
def State.retireShown (s : State) (n reason : Nat) : State :=
  (if (s.keyGone n).ciph.loads.any fun l => l.slot == n then s.keyGone n
   else (s.keyGone n).put (Fld.CIPH_KSn_STAT_STATE n) 2).put (Fld.CIPH_KSn_STAT_REASON n) reason

theorem retireKey_eq (s : State) (n reason : Nat) :
    s.retireKey n reason = (s.retireShown n reason).raise 0x0C04 (unitOf 7 n) [n4 reason] := rfl

theorem ciph_retireKey (s : State) (n reason : Nat) : (s.retireKey n reason).ciph = (s.keyGone n).ciph := by
  rw [retireKey_eq, State.raise_ciph, State.retireShown, State.put_ciph]
  split
  · rfl
  · exact State.put_ciph ..

@[simp] theorem cmds_withQueue (s : State) (q : List Instr) : (s.withQueue q).cmds = s.cmds := rfl

theorem cmds_retireKey (s : State) (n reason : Nat) : (s.retireKey n reason).cmds = s.cmds := by
  rw [retireKey_eq, State.raise_cmds, State.retireShown, State.put_cmds]
  split
  · rfl
  · exact State.put_cmds ..

theorem keyOf_retireKey (s : State) (n reason : Nat) : (s.retireKey n reason).keyOf n = none := by
  rw [State.keyOf, ciph_retireKey]
  exact SMap.look_del ..

theorem keyOf_retireKey_ne (s : State) {m : Nat} (reason : Nat) (h : n ≠ m) : (s.retireKey m reason).keyOf n = s.keyOf n := by
  rw [State.keyOf, ciph_retireKey]
  exact SMap.look_del_ne _ h

theorem loads_retireKey_nil (h : s.ciph.loads = []) (reason : Nat) : (s.retireKey n reason).ciph.loads = [] := by
  rw [ciph_retireKey]
  exact List.map_eq_nil_iff.2 h

theorem keepsRegs_retireShown (s : State) (n reason : Nat) : s.keepsRegs (s.retireShown n reason) [Reg.CIPH_KSn_STAT n] := by
  have hmem : Reg.CIPH_KSn_STAT n ∈ [Reg.CIPH_KSn_STAT n] := List.mem_singleton.2 rfl
  have hgone : s.keepsRegs (s.keyGone n) [Reg.CIPH_KSn_STAT n] := .same (fun _ _ => rfl) rfl
  exact (State.keepsRegs_ite hgone (hgone.put (Fld.CIPH_KSn_STAT_STATE n) 2 hmem)).put (Fld.CIPH_KSn_STAT_REASON n) reason hmem

theorem keepsRegs_retireKey (s : State) (n reason : Nat) :
    s.keepsRegs (s.retireKey n reason) (Reg.CIPH_KSn_STAT n :: dropCounters) :=
  State.keepsRegs_trans (keepsRegs_retireShown s n reason) (State.keepsRegs_raise _ _ _ _)

theorem keySlotStat_untold (hn : n < 64) : Reg.CIPH_KSn_STAT n ∉ dropCounters := keySlotRegs_untold hn (by simp [keySlotRegs])

/-- No load waits for the slot. -/
def State.noLoadFor (s : State) (n : Nat) : Prop := ∀ l ∈ s.ciph.loads, l.slot ≠ n

theorem retireShown_idle (h : s.noLoadFor n) (reason : Nat) : s.retireShown n reason =
    ((s.keyGone n).put (Fld.CIPH_KSn_STAT_STATE n) 2).put (Fld.CIPH_KSn_STAT_REASON n) reason := by
  have hany : ¬((s.keyGone n).ciph.loads.any fun l => l.slot == n) = true := by
    rw [List.any_eq_true]
    rintro ⟨k, hk, hslot⟩
    obtain ⟨l, hl, rfl⟩ := List.mem_map.1 hk
    rw [if_neg (h l hl)] at hslot
    exact h l hl (beq_iff_eq.1 hslot)
  rw [State.retireShown, if_neg hany]

theorem reason_retireKey (s : State) (hn : n < 64) {reason : Nat} (hr : reason < 16) :
    (s.retireKey n reason).get (Fld.CIPH_KSn_STAT_REASON n) = reason := by
  rw [retireKey_eq, State.get_raise _ _ _ _ _ (keySlotStat_untold hn)]
  exact get_put_bits _ _ (by decide) (by decide) hr

theorem keyState_retireKey (hn : n < 64) (h : s.noLoadFor n) (reason : Nat) : (s.retireKey n reason).keyState n = 2 := by
  rw [State.keyState, retireKey_eq, State.get_raise _ _ _ _ _ (keySlotStat_untold hn), retireShown_idle h]
  calc _ = _ := get_put_bits_beside _ _ reason (by decide) (by decide) (by decide)
    _ = _ := get_put_bits _ _ (by decide) (by decide) (by decide)

/-- What a retirement shows: no key, its reason, RETIRED unless a load waits for the slot, and event 0x0C04. -/
def State.retires (s u : State) (n reason : Nat) : Prop :=
  u.keyOf n = none ∧ u.get (Fld.CIPH_KSn_STAT_REASON n) = reason ∧ u.told 0x0C04 (unitOf 7 n) [n4 reason] ∧
    ((∀ l ∈ s.ciph.loads, l.slot ≠ n) → u.keyState n = 2) ∧ s.keepsRegs u (Reg.CIPH_KSn_STAT n :: dropCounters)

theorem retires_retireKey (s : State) (hn : n < 64) {reason : Nat} (hr : reason < 16) : s.retires (s.retireKey n reason) n reason :=
  ⟨keyOf_retireKey .., reason_retireKey s hn hr, State.told_raise .., fun h => keyState_retireKey hn h reason,
    keepsRegs_retireKey _ _ _⟩

theorem State.retires.answered {reason : Nat} (h : x.retires u n reason) (hl : x.ciph.loads = s.ciph.loads)
    (hr : x.regs = s.regs) (q : List Instr) : s.retires (u.withQueue q) n reason := by
  obtain ⟨hkey, hreason, htold, hstate, hregs⟩ := h
  exact ⟨hkey, hreason, htold, fun hnone => hstate (hl ▸ hnone), fun o ho => (hregs o ho).trans (State.reg_of_regs hr o)⟩

/-! ### KEY_LOAD_LIVE, KEY_RETIRE_APPLY, KEY_LIMIT_REACHED and CIPH_KEY_LOW -/

theorem answers_keyLoadLive (hs : s.up = true) (hdue : (s.at t).commitDue = true) (hd : s.domain 3 = 2) {l : KeyLoad}
    (hl : l ∈ s.ciph.loads) (hone : ∀ x ∈ s.ciph.loads, x.slot < 64 ∧ (x.slot = l.slot → x = l)) (hattr : l.attr < 64)
    (hsize : l.size < 4) : answers (exec (.keyLoadLive t) s) fun u =>
      u.keyOf l.slot = some { key := l.key, resv := 0 } ∧ u.keyState l.slot = 1 ∧
        u.get (Fld.CIPH_KSn_STAT_SIZE l.slot) = l.size ∧ u.get (Fld.CIPH_KSn_STAT_ATTR l.slot) = l.attr ∧
        u.reg (Reg.CIPH_KSn_LIMIT l.slot) = BitVec.ofNat 32 l.limit ∧ u.keyUsed l.slot = 0 ∧
        u.told 0x0C05 (unitOf 7 l.slot) [n4 l.attr, n4 l.limit] ∧ u.ciph.loads = [] := by
  refine answers_effect (m := "KEY_LOAD_LIVE") hs rfl ?_
  rw [if_pos (c := (s.at t).commitDue = true ∧ (s.at t).domain 3 = 2) ⟨hdue, hd⟩]
  obtain ⟨hshown, htold⟩ := tellsKey_loadsLive (s := s.at t) hl hone hattr hsize
  exact ⟨hshown.key, hshown.state, hshown.size, hshown.attr, hshown.limit, hshown.used, htold, loads_loadsLive (s.at t)⟩

/-- The request for the retirement of a slot is served. -/
def State.retireServed (s : State) (n : Nat) : State := { s with cmds := s.cmds.filter fun c => c != RegCmd.keyRetire n }

theorem retireApply_eq (h : s.cmds.contains (.keyRetire n) = true) : s.retireApply n =
    if (s.keyOf n).isSome then (s.retireServed n).retireKey n 3 else s.retireServed n := if_pos h

theorem answers_keyRetireApply (hs : s.up = true) (hn : n < 64) : answers (exec (.keyRetireApply n t) s) fun u =>
    if (s.at t).commitDue = true ∧ s.cmds.contains (.keyRetire n) = true then
      u.cmds = s.cmds.filter (fun c => c != RegCmd.keyRetire n) ∧
        (if (s.keyOf n).isSome then s.retires u n 3 else s.keepsRegs u [] ∧ s.keeps u [.cmds])
    else s.keepsRegs u [] ∧ s.keeps u [] := by
  refine answers_when hs (decide_eq_true hn) t
    (fun ⟨hdue, hreq⟩ => ⟨_, (if_pos hdue).trans (retireApply_eq (s := s.at t) hreq), ?_⟩)
    fun h => ite_eq_right_iff.2 fun hdue => if_neg fun hreq => h ⟨hdue, hreq⟩
  have hcmds : ((s.at t).retireServed n).cmds = s.cmds.filter (fun c => c != RegCmd.keyRetire n) := rfl
  by_cases hkey : (s.keyOf n).isSome = true
  · rw [if_pos (c := ((s.at t).keyOf n).isSome = true) hkey, if_pos hkey]
    refine ⟨?_, (retires_retireKey _ hn (by decide)).answered rfl rfl _⟩
    rw [cmds_withQueue, cmds_retireKey, hcmds]
  · rw [if_neg (c := ((s.at t).keyOf n).isSome = true) hkey, if_neg hkey, State.keepsRegs_withQueue, State.keeps_withQueue]
    exact ⟨hcmds, .same (.at s t _) rfl, State.keeps_cmds _ (.at s t _) (List.mem_singleton.2 rfl)⟩

theorem answers_keyLimitReached (hs : s.up = true) (hn : n < 64) : answers (exec (.keyLimitReached n t) s) fun u =>
    if (s.keyOf n).isSome = true ∧ s.keyLimit n ≤ s.keyUsed n then s.retires u n 1
    else s.keepsRegs u [] ∧ s.keeps u [] :=
  answers_when hs (decide_eq_true hn) t
    (fun h => ⟨_, if_pos h, (retires_retireKey (s.at t) hn (by decide)).answered rfl rfl _⟩) fun h => if_neg h

theorem answers_ciphKeyLow (hs : s.up = true) (hn : n < 64) : answers (exec (.ciphKeyLow n t) s) fun u =>
    let warn := (s.liveReg (Reg.CIPH_KSn_WARN n)).toNat
    if (s.keyOf n).isSome = true ∧ warn ≠ 0 ∧ s.keyUsed n + warn = s.keyLimit n then
      u.told 0x0C03 (unitOf 7 n) [n4 warn] ∧ s.keepsRegs u dropCounters ∧ s.keeps u eventParts
    else s.keepsRegs u [] ∧ s.keeps u [] := by
  refine answers_when hs (decide_eq_true hn) t (fun h => ⟨_, if_pos h, ?_⟩) fun h => if_neg h
  rw [State.keepsRegs_withQueue, State.keeps_withQueue, State.told_withQueue]
  exact ⟨State.told_raise .., .raise (.at s t _) _ _ _ (fun _ h => h), .raise (.at s t _) _ _ _ fun _ h => h⟩

end

/-! ### The alarm erases every slot (R274) -/

section
variable {s x u : State} {n : Nat} {t : Tai}

/-- What work outside the vault leaves of it: the keys, the loads, the key backing and the cipher registers. A status word of a
TX ring is none of those, wherever its ring lies. -/
structure VaultKept (s u : State) : Prop where
  keys : u.ciph.keys = s.ciph.keys
  loads : u.ciph.loads = s.ciph.loads
  backing : u.ciph.backing = s.ciph.backing
  reg : ∀ o, 0x180000 ≤ o → o < 0x190000 → o % 32 ≠ 24 → u.reg o = s.reg o

theorem VaultKept.trans (h : VaultKept s x) (g : VaultKept x u) : VaultKept s u :=
  ⟨g.keys.trans h.keys, g.loads.trans h.loads, g.backing.trans h.backing,
    fun o hlo hhi hmod => (g.reg o hlo hhi hmod).trans (h.reg o hlo hhi hmod)⟩

theorem VaultKept.of_ciph (hc : u.ciph = s.ciph) (hr : ∀ o, 0x180000 ≤ o → o < 0x190000 → o % 32 ≠ 24 → u.reg o = s.reg o) :
    VaultKept s u := ⟨by rw [hc], by rw [hc], by rw [hc], hr⟩

theorem vaultKept_raise (s : State) (c v : Nat) (d : List Detail) : VaultKept s (s.raise c v d) :=
  .of_ciph (State.raise_ciph ..) fun _ _ _ _ => State.reg_raise _ _ _ _ _ (not_mem_dropCounters_between (by omega) (by omega))

/-- The slot is RETIRED by the alarm, no load waits, and the key that it held is gone. -/
structure SlotErased (s u : State) (n : Nat) : Prop where
  loads : u.ciph.loads = []
  backing : u.ciph.backing = []
  state : u.keyState n = 2
  reason : u.get (Fld.CIPH_KSn_STAT_REASON n) = 2
  key : s.keyState n ≠ 2 → u.keyOf n = none

theorem SlotErased.kept (h : SlotErased s x n) (hn : n < 64) (g : VaultKept x u) : SlotErased s u n := by
  have hstat : u.reg (Reg.CIPH_KSn_STAT n) = x.reg (Reg.CIPH_KSn_STAT n) :=
    g.reg _ (by simp only [Reg.CIPH_KSn_STAT]; omega) (by simp only [Reg.CIPH_KSn_STAT]; omega)
      (by simp only [Reg.CIPH_KSn_STAT]; omega)
  exact { loads := g.loads.trans h.loads
          backing := g.backing.trans h.backing
          state := (State.get_of_reg (f := Fld.CIPH_KSn_STAT_STATE n) hstat).trans h.state
          reason := (State.get_of_reg (f := Fld.CIPH_KSn_STAT_REASON n) hstat).trans h.reason
          key := fun hne => by rw [State.keyOf, g.keys]; exact h.key hne }

/-- The alarm erases one slot; one RETIRED already shows the new reason. -/
def State.slotAlarmed (s : State) (n : Nat) : State :=
  if s.keyState n = 2 then s.put (Fld.CIPH_KSn_STAT_REASON n) 2 else s.retireKey n 2

/-- The vault without its loads and its key backing. -/
def State.loadsErased (s : State) : State := { s with ciph := { s.ciph with loads := [], backing := [], backingUsed := [] } }

/-- While the alarm goes through the slots: no load waits, and a slot that held a key has it or shows no key. -/
structure SlotAwaits (s y : State) (n : Nat) : Prop where
  loads : y.ciph.loads = []
  backing : y.ciph.backing = []
  key : s.keyState n ≠ 2 → y.keyState n ≠ 2 ∨ y.keyOf n = none

@[simp] theorem keyOf_put (s : State) (f : Fld) (v m : Nat) : (s.put f v).keyOf m = s.keyOf m := by
  rw [State.keyOf, State.put_ciph, State.keyOf]

theorem slotAlarmed_retired (h : s.keyState n = 2) : s.slotAlarmed n = s.put (Fld.CIPH_KSn_STAT_REASON n) 2 := if_pos h
theorem slotAlarmed_retires (h : s.keyState n ≠ 2) : s.slotAlarmed n = s.retireKey n 2 := if_neg h

theorem loads_slotAlarmed (h : s.ciph.loads = []) (m : Nat) : (s.slotAlarmed m).ciph.loads = [] := by
  unfold State.slotAlarmed
  split
  · rwa [State.put_ciph]
  · exact loads_retireKey_nil h 2

theorem backing_slotAlarmed (s : State) (m : Nat) : (s.slotAlarmed m).ciph.backing = s.ciph.backing := by
  unfold State.slotAlarmed
  split
  · rw [State.put_ciph]
  · rw [ciph_retireKey]
    rfl

theorem keepsRegs_slotAlarmed (s : State) (m : Nat) : s.keepsRegs (s.slotAlarmed m) (Reg.CIPH_KSn_STAT m :: dropCounters) :=
  State.keepsRegs_ite (State.keepsRegs_mono (State.keepsRegs_put s (Fld.CIPH_KSn_STAT_REASON m) 2) (by simp [Fld.CIPH_KSn_STAT_REASON]))
    (keepsRegs_retireKey s m 2)

theorem keyOf_slotAlarmed_ne (s : State) {m : Nat} (h : n ≠ m) : (s.slotAlarmed m).keyOf n = s.keyOf n := by
  unfold State.slotAlarmed
  split
  · exact keyOf_put ..
  · exact keyOf_retireKey_ne s 2 h

/-- The alarm leaves STAT of every other slot. -/
theorem stat_slotAlarmed_ne (s : State) (hn : n < 64) {m : Nat} (h : n ≠ m) :
    (s.slotAlarmed m).reg (Reg.CIPH_KSn_STAT n) = s.reg (Reg.CIPH_KSn_STAT n) := by
  refine keepsRegs_slotAlarmed s m _ ?_
  rw [List.mem_cons, not_or]
  exact ⟨by simp only [Reg.CIPH_KSn_STAT]; omega, keySlotStat_untold hn⟩

theorem SlotAwaits.alarmed (h : SlotAwaits s x n) (hn : n < 64) (m : Nat) : SlotAwaits s (x.slotAlarmed m) n where
  loads := loads_slotAlarmed h.loads m
  backing := (backing_slotAlarmed x m).trans h.backing
  key hne := by
    by_cases hm : n = m
    · subst hm
      by_cases hst : x.keyState n = 2
      · rw [slotAlarmed_retired hst, keyOf_put]
        exact .inr ((h.key hne).resolve_left (not_not_intro hst))
      · rw [slotAlarmed_retires hst]
        exact .inr (keyOf_retireKey ..)
    · rw [keyOf_slotAlarmed_ne x hm, State.keyState, State.get_of_reg (f := Fld.CIPH_KSn_STAT_STATE n) (stat_slotAlarmed_ne x hn hm)]
      exact h.key hne

theorem SlotAwaits.erased (h : SlotAwaits s x n) (hn : n < 64) : SlotErased s (x.slotAlarmed n) n := by
  have hloads := loads_slotAlarmed h.loads n
  have hbacking := (backing_slotAlarmed x n).trans h.backing
  by_cases hst : x.keyState n = 2
  · rw [slotAlarmed_retired hst] at *
    exact { loads := hloads, backing := hbacking
            state := (get_put_bits_beside x _ 2 (by decide) (by decide) (by decide)).trans hst
            reason := get_put_bits _ _ (by decide) (by decide) (by decide)
            key := fun hne => (keyOf_put ..).trans ((h.key hne).resolve_left (not_not_intro hst)) }
  · rw [slotAlarmed_retires hst] at *
    exact { loads := hloads, backing := hbacking
            state := keyState_retireKey hn (fun l hl => by rw [h.loads] at hl; exact absurd hl List.not_mem_nil) 2
            reason := reason_retireKey x hn (by decide)
            key := fun _ => keyOf_retireKey .. }

theorem SlotErased.alarmed (h : SlotErased s x n) (hn : n < 64) (m : Nat) : SlotErased s (x.slotAlarmed m) n := by
  by_cases hm : n = m
  · subst hm
    exact SlotAwaits.erased ⟨h.loads, h.backing, fun hne => .inr (h.key hne)⟩ hn
  · have hstat := stat_slotAlarmed_ne x hn hm
    exact { loads := loads_slotAlarmed h.loads m
            backing := (backing_slotAlarmed x m).trans h.backing
            state := (State.get_of_reg (f := Fld.CIPH_KSn_STAT_STATE n) hstat).trans h.state
            reason := (State.get_of_reg (f := Fld.CIPH_KSn_STAT_REASON n) hstat).trans h.reason
            key := fun hne => (keyOf_slotAlarmed_ne x hm).trans (h.key hne) }

/-- Every slot after the alarm. -/
def State.slotsAlarmed (s : State) : State := (List.range 64).foldl State.slotAlarmed s.loadsErased

theorem slotErased_slotsAlarmed (s : State) (hn : n < 64) : SlotErased s s.slotsAlarmed n :=
  foldl_reaches (before := fun y => SlotAwaits s y n) (P := fun y => SlotErased s y n) (List.mem_range.2 hn)
    ⟨rfl, rfl, fun h => .inl h⟩ (fun _ hy m _ => hy.alarmed hn m) (fun _ hy => hy.erased hn) fun _ hy m _ => hy.alarmed hn m

theorem alarmReg_slotsAlarmed (s : State) : s.slotsAlarmed.reg Reg.CIPH_ALARM = s.reg Reg.CIPH_ALARM :=
  foldl_same (fun y : State => y.reg Reg.CIPH_ALARM) (fun y m => keepsRegs_slotAlarmed y m _ (by
    rw [List.mem_cons, not_or]
    exact ⟨by simp only [Reg.CIPH_ALARM, Reg.CIPH_KSn_STAT]; omega,
      not_mem_dropCounters_between (by decide) (by decide)⟩)) _ s.loadsErased

end

end Sys2Proof.Machine


namespace Sys2Proof.Machine

/-! ### The link cipher's keys and VALID bits are cleared (R225) -/

section
variable {s x u : State} {n : Nat} {t : Tai}

/-- Does a doubleword hold a key or a salt of the link cipher? -/
def lsecSecret (off : Nat) : Bool :=
  let r := off % 0x1000
  decide (0x190000 ≤ off ∧ off < 0x194000) &&
    ((decide (0x100 ≤ r ∧ r < 0x300) && decide (r % 0x80 < 0x2C)) ||
     (decide (0x400 ≤ r) && decide (0x40 ≤ (r - 0x400) % 0x180) && decide ((r - 0x400) % 0x40 < 0x2C)))

/-- The VALID bits of every lane. -/
def lsecValids : List Fld :=
  (List.range 4).flatMap fun l =>
    (List.range 4).map (fun a => Fld.LSEC_TXSA_CTRL_VALID l a) ++
    (List.range 8).flatMap fun c =>
      Fld.LSEC_RXSC_CTRL_VALID l c :: (List.range 4).map fun a => Fld.LSEC_RXSA_CTRL_VALID l c a

/-- The register file without the keys and salts of the link cipher. -/
def State.secretsErased (s : State) : State :=
  { s with regs := s.regs.filter fun e => !lsecSecret e.1, live := s.live.filter fun e => !lsecSecret e.1 }

theorem lsecErase_eq (s : State) : s.lsecErase = lsecValids.foldl (fun (y : State) f => y.putBoth f 0) s.secretsErased := rfl

/-- A VALID bit is bit 0 of a register of a lane. -/
theorem lsecValids_bit0 : ∀ f ∈ lsecValids, f = ⟨f.off, 0, 0⟩ ∧ 0x190000 ≤ f.off := by decide +kernel

theorem lsecValids_below : ∀ f ∈ lsecValids, f.off < 0x194000 := by decide +kernel

theorem mem_lsecValids {l a : Nat} (hl : l < 4) (ha : a < 4) : Fld.LSEC_TXSA_CTRL_VALID l a ∈ lsecValids ∧
    ∀ c < 8, Fld.LSEC_RXSC_CTRL_VALID l c ∈ lsecValids ∧ Fld.LSEC_RXSA_CTRL_VALID l c a ∈ lsecValids := by
  have hlane : ∀ {f : Fld}, f ∈ (List.range 4).map (fun a => Fld.LSEC_TXSA_CTRL_VALID l a) ++
      ((List.range 8).flatMap fun c =>
        Fld.LSEC_RXSC_CTRL_VALID l c :: (List.range 4).map fun a => Fld.LSEC_RXSA_CTRL_VALID l c a) → f ∈ lsecValids :=
    fun hf => List.mem_flatMap.2 ⟨l, List.mem_range.2 hl, hf⟩
  have hassoc : a ∈ List.range 4 := List.mem_range.2 ha
  exact ⟨hlane (List.mem_append_left _ (List.mem_map_of_mem hassoc)), fun c hc =>
    ⟨hlane (List.mem_append_right _ (List.mem_flatMap.2 ⟨c, List.mem_range.2 hc, .head _⟩)),
      hlane (List.mem_append_right _ (List.mem_flatMap.2 ⟨c, List.mem_range.2 hc, .tail _ (List.mem_map_of_mem hassoc)⟩))⟩⟩

/-- No association and no channel of the link cipher is valid. -/
def State.noneValid (s : State) : Prop := ∀ f ∈ lsecValids, s.get f = 0

/-- A field of a VALID bit's register that another bit 0 is cleared beside. -/
theorem get_putBoth_valid {f g : Fld} (hf : f ∈ lsecValids) (hg : g ∈ lsecValids) (h : f = g ∨ x.get f = 0) :
    (x.putBoth g 0).get f = 0 := by
  obtain ⟨hfbit, _⟩ := lsecValids_bit0 f hf
  obtain ⟨hgbit, _⟩ := lsecValids_bit0 g hg
  by_cases hoff : f.off = g.off
  · rw [State.get_putBoth, hfbit, hoff, ← hgbit]
    have hhi : g.hi = 0 := congrArg Fld.hi hgbit
    have hlo : g.lo = 0 := congrArg Fld.lo hgbit
    exact State.get_put_zero x g (by omega) (by omega)
  · rw [State.get_putBoth, State.get_put_reg _ _ _ _ hoff]
    exact h.resolve_left fun hfg => hoff (hfg ▸ rfl)

theorem noneValid_lsecErase (s : State) : s.lsecErase.noneValid := by
  intro f hf
  rw [lsecErase_eq]
  exact foldl_reaches (g := fun y g => y.putBoth g 0) (before := fun _ => True) (P := fun y => y.get f = 0) hf trivial
    (fun _ _ _ _ => trivial) (fun _ _ => get_putBoth_valid hf hf (.inl rfl)) fun _ hy _ hg => get_putBoth_valid hf hg (.inr hy)

theorem vaultKept_lsecErase (s : State) : VaultKept s s.lsecErase := by
  have herased : VaultKept s s.secretsErased := .of_ciph rfl fun o _ hhi _ => by
    rw [State.reg_get, State.reg_get]
    refine SMap.get_filter _ _ _ _ fun v => ?_
    have hlow : lsecSecret o = false := by simp [lsecSecret, Nat.not_le.2 hhi]
    rw [hlow]
    rfl
  rw [lsecErase_eq]
  refine List.foldlRecOn (motive := VaultKept s) _ _ herased fun y hy f hf => hy.trans (.of_ciph (State.putBoth_ciph ..) fun o _ hhi _ => ?_)
  obtain ⟨_, hlo⟩ := lsecValids_bit0 f hf
  exact State.reg_put y f 0 o (by omega)

/-! ### The running job ends (R274) -/

/-- Without a flow an outcome touches one field of the registers at most: OUTSTANDING of the descriptor's ring. -/
theorem hostFinal_alone (s : State) (h : HostTag) (status unit total fail : Nat) (time : Tai) (replay : Bool) :
    (s.hostFinal h status unit total fail time none replay).ciph = s.ciph ∧
      ∃ v, (s.hostFinal h status unit total fail time none replay).regs = s.regs ∨
        (s.hostFinal h status unit total fail time none replay).regs = (s.put (Fld.HIF_TXn_STAT_OUTSTANDING h.ring) v).regs := by
  unfold State.hostFinal
  rw [ite_self]
  dsimp only
  split
  · exact ⟨rfl, 0, .inl rfl⟩
  · split
    · exact ⟨(State.put_ciph ..).trans (State.setTxRing_ciph ..), _, .inr rfl⟩
    · exact ⟨rfl, 0, .inl rfl⟩

/-- What the end of a cipher job leaves: the vault, and the lower half of every register of a cipher. -/
structure JobEnds (s u : State) : Prop where
  vault : VaultKept s u
  low : ∀ f : Fld, 0x180000 ≤ f.off → f.hi < 16 → u.get f = s.get f

theorem jobEnds_put_outstanding (s : State) (ring v : Nat) : JobEnds s (s.put (Fld.HIF_TXn_STAT_OUTSTANDING ring) v) where
  vault := .of_ciph (State.put_ciph ..) fun o _ _ hmod => State.reg_put _ _ _ _ (by
    simp only [Fld.HIF_TXn_STAT_OUTSTANDING, Reg.HIF_TXn_STAT]
    omega)
  low f _ hhi := by
    by_cases hoff : f.off = Reg.HIF_TXn_STAT ring
    · exact State.get_put_field s (Fld.HIF_TXn_STAT_OUTSTANDING ring) f v hoff (by simp [Fld.HIF_TXn_STAT_OUTSTANDING])
        (by simp [Fld.HIF_TXn_STAT_OUTSTANDING]) (.inr hhi)
    · exact State.get_put_reg _ _ _ _ hoff

theorem JobEnds.trans (h : JobEnds s x) (g : JobEnds x u) : JobEnds s u :=
  ⟨h.vault.trans g.vault, fun f hlo hhi => (g.low f hlo hhi).trans (h.low f hlo hhi)⟩

theorem JobEnds.same (h : JobEnds s x) (hk : u.ciph.keys = x.ciph.keys) (hl : u.ciph.loads = x.ciph.loads)
    (hb : u.ciph.backing = x.ciph.backing) (hr : u.regs = x.regs) : JobEnds s u :=
  h.trans ⟨⟨hk, hl, hb, fun _ _ _ _ => State.reg_of_regs hr _⟩, fun _ _ _ => State.get_of_regs hr _⟩

theorem JobEnds.refl (s : State) : JobEnds s s := ⟨⟨rfl, rfl, rfl, fun _ _ _ _ => rfl⟩, fun _ _ _ => rfl⟩

theorem jobEnds_hostFinal (s : State) (h : HostTag) (status unit total fail : Nat) (time : Tai) (replay : Bool) :
    JobEnds s (s.hostFinal h status unit total fail time none replay) := by
  obtain ⟨hc, v, hr | hr⟩ := hostFinal_alone s h status unit total fail time replay
  · exact (JobEnds.refl s).same (by rw [hc]) (by rw [hc]) (by rw [hc]) hr
  · exact (jobEnds_put_outstanding s h.ring v).same (by rw [hc, State.put_ciph]) (by rw [hc, State.put_ciph])
      (by rw [hc, State.put_ciph]) hr

theorem JobEnds.putFree (h : JobEnds s x) (v : Nat) : JobEnds s (x.put Fld.FAB_FREE_BLOCKS v) := by
  have hoff : ∀ o, 0x180000 ≤ o → o ≠ Fld.FAB_FREE_BLOCKS.off := by
    intro o ho
    simp only [Fld.FAB_FREE_BLOCKS, Reg.FAB_FREE]
    omega
  exact h.trans ⟨.of_ciph (State.put_ciph ..) fun o hlo _ _ => State.reg_put x _ v o (hoff o hlo),
    fun f hlo _ => State.get_put_reg x _ f v (hoff _ hlo)⟩

theorem jobEnds_jobFinal (s : State) (j : Job) (status : Nat) : JobEnds s (s.jobFinal j status) := by
  have htaken : JobEnds s { s with ciph := { s.ciph with jobs := s.ciph.jobs.drop 1 } } := (JobEnds.refl s).same rfl rfl rfl rfl
  exact (htaken.putFree _).trans (jobEnds_hostFinal ..)

/-- The head host job is ended by the alarm, if it runs. -/
def State.jobAlarmed (s : State) : State :=
  match s.ciph.jobs with
  | j :: _ => if j.running then s.jobFinal j 0x26 else s
  | [] => s

theorem jobEnds_jobAlarmed (s : State) : JobEnds s s.jobAlarmed := by
  unfold State.jobAlarmed
  split
  · split
    · exact jobEnds_jobFinal ..
    · exact .refl s
  · exact .refl s

/-! ### CIPH_ALARM (R274, Table 11.4) -/

/-- The keys of the vault and of the link cipher are gone, and the running job has ended. -/
def State.allErased (s : State) : State :=
  (s.slotsAlarmed.lsecErase.raise 0x0D03 0 [n8 s.slotsAlarmed.lsecErase.time.now]).jobAlarmed

/-- The source of an alarm is latched. -/
def State.alarmLatched (s : State) (source : Nat) : State :=
  (s.orReg Reg.CIPH_ALARM (2 ^ source)).put Fld.CIPH_STATUS_ALARM_LATCHED 1

/-- The alarm is told, and the key backing area is to be erased. -/
def State.alarmTold (s : State) : State :=
  let y := s.raise 0x0C01 0 [n4 (s.w Reg.CIPH_ALARM)]
  { y with ciph := { y.ciph with erasing := true } }

theorem alarm_eq (s : State) (source : Nat) : s.alarm source = (s.allErased.alarmLatched source).alarmTold := rfl

theorem vaultKept_allErased (s : State) : VaultKept s.slotsAlarmed s.allErased :=
  ((vaultKept_lsecErase s.slotsAlarmed).trans (vaultKept_raise ..)).trans (jobEnds_jobAlarmed _).vault

theorem noneValid_allErased (s : State) : s.allErased.noneValid := by
  intro f hf
  obtain ⟨hbit, hlo⟩ := lsecValids_bit0 f hf
  have hhi : f.hi = 0 := congrArg Fld.hi hbit
  have hoff : f.off < 0x194000 := lsecValids_below f hf
  rw [State.allErased, (jobEnds_jobAlarmed _).low f (by omega) (by omega),
    State.get_raise _ _ _ _ _ (not_mem_dropCounters_between (by omega) (by omega))]
  exact noneValid_lsecErase _ f hf

/-- What an alarm shows (R225, R274). -/
structure Alarmed (s u : State) (n source : Nat) : Prop where
  erased : SlotErased s u n
  valid : u.noneValid
  latched : u.reg Reg.CIPH_ALARM = s.reg Reg.CIPH_ALARM ||| BitVec.ofNat 32 (2 ^ source)
  latch : u.get Fld.CIPH_STATUS_ALARM_LATCHED = 1
  told : u.told 0x0C01 0 [n4 (u.w Reg.CIPH_ALARM)]

theorem keepsRegs_alarmLatched (s : State) (source : Nat) :
    s.keepsRegs (s.alarmLatched source) [Reg.CIPH_ALARM, Reg.CIPH_STATUS] :=
  (State.keepsRegs_mono (State.keepsRegs_orReg s _ _) (by simp)).put _ _ (by simp [Fld.CIPH_STATUS_ALARM_LATCHED])

theorem alarmLatched_shows (s : State) (source : Nat) :
    (s.alarmLatched source).reg Reg.CIPH_ALARM = s.reg Reg.CIPH_ALARM ||| BitVec.ofNat 32 (2 ^ source) ∧
      (s.alarmLatched source).get Fld.CIPH_STATUS_ALARM_LATCHED = 1 :=
  ⟨(State.reg_put _ _ _ _ (by decide)).trans (State.reg_setReg_self ..),
    State.get_put_fit _ _ _ (by decide) (by decide) (by decide)⟩

/-- A slot's erasure stands while the cause of the alarm is latched and told. -/
theorem SlotErased.told (h : SlotErased s x n) (hn : n < 64) (source : Nat) :
    SlotErased s (x.alarmLatched source).alarmTold n := by
  have hlatched := keepsRegs_alarmLatched x source
  have htold := State.keepsRegs_raise (x.alarmLatched source) 0x0C01 0 [n4 ((x.alarmLatched source).w Reg.CIPH_ALARM)]
  have hstat : (x.alarmLatched source).alarmTold.reg (Reg.CIPH_KSn_STAT n) = x.reg (Reg.CIPH_KSn_STAT n) :=
    (htold _ (keySlotStat_untold hn)).trans (hlatched _ (by
      simp only [List.mem_cons, List.not_mem_nil, or_false, Reg.CIPH_KSn_STAT, Reg.CIPH_ALARM, Reg.CIPH_STATUS]
      omega))
  have hciph : (x.alarmLatched source).alarmTold.ciph = { x.ciph with erasing := true } :=
    congrArg (fun c : Ciph => { c with erasing := true }) (State.raise_ciph ..)
  exact { loads := (congrArg Ciph.loads hciph).trans h.loads
          backing := (congrArg Ciph.backing hciph).trans h.backing
          state := (State.get_of_reg (f := Fld.CIPH_KSn_STAT_STATE n) hstat).trans h.state
          reason := (State.get_of_reg (f := Fld.CIPH_KSn_STAT_REASON n) hstat).trans h.reason
          key := fun hne => (congrArg (fun c : Ciph => SMap.look c.keys n) hciph).trans (h.key hne) }

theorem alarmed_alarm (s : State) (hn : n < 64) (source : Nat) : Alarmed s (s.alarm source) n source := by
  rw [alarm_eq]
  have herased := (slotErased_slotsAlarmed s hn).kept hn (vaultKept_allErased s)
  have hvalid := noneValid_allErased s
  have hbefore : s.allErased.reg Reg.CIPH_ALARM = s.reg Reg.CIPH_ALARM :=
    ((vaultKept_allErased s).reg _ (by decide) (by decide) (by decide)).trans (alarmReg_slotsAlarmed s)
  generalize s.allErased = y at *
  have hregs := keepsRegs_alarmLatched y source
  obtain ⟨hlatched, hlatch⟩ := alarmLatched_shows y source
  have hkept : ∀ o, 0x180000 ≤ o → o < 0x194000 → (y.alarmLatched source).alarmTold.reg o = (y.alarmLatched source).reg o :=
    fun o hlo hhi => State.reg_raise _ _ _ _ o (not_mem_dropCounters_between (by omega) (by omega))
  have halarm := hkept Reg.CIPH_ALARM (by decide) (by decide)
  refine {
    erased := herased.told hn source
    valid := fun f hf => ?_
    latched := by rw [halarm, hlatched, hbefore]
    latch := (State.get_of_reg (f := Fld.CIPH_STATUS_ALARM_LATCHED) (hkept _ (by decide) (by decide))).trans hlatch
    told := ?_ }
  · have hlo := (lsecValids_bit0 f hf).2
    rw [State.get_of_reg (hkept f.off (by omega) (lsecValids_below f hf)), hregs.get (by
      simp only [List.mem_cons, List.not_mem_nil, or_false, Reg.CIPH_ALARM, Reg.CIPH_STATUS]
      omega)]
    exact hvalid f hf
  · rw [State.w, halarm]
    exact State.told_raise (y.alarmLatched source) _ _ _

/-- The conditions that stay present are noted. -/
def State.withPresent (s : State) (present : Nat) : State := { s with ciph := { s.ciph with present := present } }

theorem answers_ciphAlarm (hs : s.up = true) (hn : n < 64) {source : Nat} (hsource : source < 5) (present : Nat) (value : Int)
    (high : Bool) : answers (exec (.ciphAlarm source present value high t) s) fun u =>
      if (s.at t).ciphAlarmHolds source value high = false then s.keepsRegs u [] ∧ s.keeps u [.ciph]
      else
        u.ciph.loads = [] ∧ u.ciph.backing = [] ∧ u.keyState n = 2 ∧ u.get (Fld.CIPH_KSn_STAT_REASON n) = 2 ∧
          (s.keyState n ≠ 2 → u.keyOf n = none) ∧
          (∀ l < 4, ∀ a < 4, u.get (Fld.LSEC_TXSA_CTRL_VALID l a) = 0 ∧
            ∀ c < 8, u.get (Fld.LSEC_RXSC_CTRL_VALID l c) = 0 ∧ u.get (Fld.LSEC_RXSA_CTRL_VALID l c a) = 0) ∧
          u.reg Reg.CIPH_ALARM = s.reg Reg.CIPH_ALARM ||| BitVec.ofNat 32 (2 ^ source) ∧
          u.get Fld.CIPH_STATUS_ALARM_LATCHED = 1 ∧ u.told 0x0C01 0 [n4 (u.w Reg.CIPH_ALARM)] := by
  refine answers_effect (x := if ((s.at t).withPresent present).ciphAlarmHolds source value high then
    ((s.at t).withPresent present).alarm source else (s.at t).withPresent present) hs (decide_eq_true hsource) ?_
  have hsame : ((s.at t).withPresent present).ciphAlarmHolds source value high = (s.at t).ciphAlarmHolds source value high := rfl
  by_cases hholds : (s.at t).ciphAlarmHolds source value high = true
  · rw [if_neg (by simp [hholds]), if_pos (hsame.trans hholds)]
    obtain ⟨herased, hvalid, hlatched, hlatch, htold⟩ := alarmed_alarm ((s.at t).withPresent present) hn source
    exact ⟨herased.loads, herased.backing, herased.state, herased.reason, herased.key, fun l hl a ha =>
      have hmem := mem_lsecValids hl ha
      ⟨hvalid _ hmem.1, fun c hc => ⟨hvalid _ (hmem.2 c hc).1, hvalid _ (hmem.2 c hc).2⟩⟩, hlatched, hlatch, htold⟩
  · rw [if_pos (by simpa using hholds), if_neg (hsame ▸ hholds), State.keepsRegs_withQueue, State.keeps_withQueue]
    exact ⟨.same (.at s t _) rfl, State.keeps_ciph _ (.at s t _) (List.mem_singleton.2 rfl)⟩

/-! ### CIPH_ALARM_CLEAR (R275) -/

@[simp] theorem w_withQueue (s : State) (q : List Instr) (o : Nat) : (s.withQueue q).w o = s.w o := rfl

/-- The latched bits that a write of ones leaves. -/
def State.alarmLeft (s : State) (ones present : Nat) : Nat :=
  (s.w Reg.CIPH_ALARM).land (2 ^ 32 - 1 - ones % 2 ^ 32) ||| (s.w Reg.CIPH_ALARM).land present

theorem bit_eq_testBit (v n : Nat) : bit v n = v.testBit n := by
  rw [Nat.testBit_eq_decide_div_mod_eq, bit]
  rfl

theorem alarmLeft_lt (s : State) (ones present : Nat) : s.alarmLeft ones present < 2 ^ 32 :=
  Nat.or_lt_two_pow (Nat.lt_of_le_of_lt Nat.and_le_left (s.reg _).isLt) (Nat.lt_of_le_of_lt Nat.and_le_left (s.reg _).isLt)

theorem bit_alarmLeft (s : State) (ones present : Nat) {b : Nat} (hb : b < 32) : bit (s.alarmLeft ones present) b =
    (bit (s.w Reg.CIPH_ALARM) b && (!bit ones b || bit present b)) := by
  have hmask : (2 ^ 32 - 1 - ones % 2 ^ 32).testBit b = !ones.testBit b := by
    rw [Nat.sub_sub, Nat.add_comm 1, Nat.testBit_two_pow_sub_succ (Nat.mod_lt _ (by decide)), Nat.testBit_mod_two_pow]
    simp [hb]
  simp only [bit_eq_testBit, State.alarmLeft, Nat.testBit_or]
  rw [show Nat.land = HAnd.hAnd from rfl, Nat.testBit_and, Nat.testBit_and, hmask, Bool.and_or_distrib_left]

/-- CIPH_ALARM after a write of ones. -/
def State.alarmRewritten (s : State) (ones : Nat) : State :=
  s.setReg Reg.CIPH_ALARM (BitVec.ofNat 32 (s.alarmLeft ones s.ciph.present))

theorem alarmClear_eq (s : State) (ones : Nat) : s.alarmClear ones =
    if s.alarmLeft ones s.ciph.present = 0 then (s.alarmRewritten ones).put Fld.CIPH_STATUS_ALARM_LATCHED 0
    else s.alarmRewritten ones := rfl

theorem w_alarmRewritten (s : State) (ones : Nat) :
    (s.alarmRewritten ones).w Reg.CIPH_ALARM = s.alarmLeft ones s.ciph.present := by
  rw [State.w, State.alarmRewritten, State.reg_setReg_self, BitVec.toNat_ofNat, Nat.mod_eq_of_lt (alarmLeft_lt ..)]

/-- What is left of the alarm in its register, and in the latch. -/
theorem alarmClear_shows (s : State) (ones : Nat) :
    (s.alarmClear ones).w Reg.CIPH_ALARM = s.alarmLeft ones s.ciph.present ∧
      (s.alarmClear ones).get Fld.CIPH_STATUS_ALARM_LATCHED =
        (if s.alarmLeft ones s.ciph.present = 0 then 0 else s.get Fld.CIPH_STATUS_ALARM_LATCHED) := by
  have hlatch : (s.alarmRewritten ones).get Fld.CIPH_STATUS_ALARM_LATCHED = s.get Fld.CIPH_STATUS_ALARM_LATCHED :=
    (State.keepsRegs_setReg s _ _).get (by decide)
  rw [alarmClear_eq]
  split
  · refine ⟨?_, State.get_put_zero _ _ (by decide) (by decide)⟩
    rw [State.w, State.reg_put _ _ _ _ (by decide)]
    exact w_alarmRewritten s ones
  · exact ⟨w_alarmRewritten s ones, hlatch⟩

theorem alarmClear_frame (s : State) (ones : Nat) :
    s.keepsRegs (s.alarmClear ones) [Reg.CIPH_ALARM, Reg.CIPH_STATUS] ∧ s.keeps (s.alarmClear ones) [] := by
  have hregs : s.keepsRegs (s.alarmRewritten ones) [Reg.CIPH_ALARM, Reg.CIPH_STATUS] :=
    State.keepsRegs_mono (State.keepsRegs_setReg s _ _) (by simp)
  have hparts : s.keeps (s.alarmRewritten ones) [] := State.keeps_setReg s _ _
  rw [alarmClear_eq]
  exact ⟨State.keepsRegs_ite (hregs.put Fld.CIPH_STATUS_ALARM_LATCHED 0 (by simp [Fld.CIPH_STATUS_ALARM_LATCHED])) hregs,
    State.keeps_ite (hparts.put Fld.CIPH_STATUS_ALARM_LATCHED 0) hparts⟩

theorem answers_ciphAlarmClear (hs : s.up = true) (ones present : Nat) :
    answers (exec (.ciphAlarmClear ones present) s) fun u =>
      (∀ b < 32, bit (u.w Reg.CIPH_ALARM) b = (bit (s.w Reg.CIPH_ALARM) b && (!bit ones b || bit present b))) ∧
        u.get Fld.CIPH_STATUS_ALARM_LATCHED =
          (if u.w Reg.CIPH_ALARM = 0 then 0 else s.get Fld.CIPH_STATUS_ALARM_LATCHED) ∧
        s.keepsRegs u [Reg.CIPH_ALARM, Reg.CIPH_STATUS] ∧ s.keeps u [.ciph] := by
  refine answers_effect (x := (s.begin.withPresent present).alarmClear ones) (m := "CIPH_ALARM_CLEAR") hs rfl ?_
  have hbegun : s.keeps (s.begin.withPresent present) [.ciph] := State.keeps_ciph _ (.begin s _) (List.mem_singleton.2 rfl)
  obtain ⟨hleft, hlatch⟩ := alarmClear_shows (s.begin.withPresent present) ones
  obtain ⟨hregs, hparts⟩ := alarmClear_frame (s.begin.withPresent present) ones
  rw [State.keepsRegs_withQueue, State.keeps_withQueue, State.get_withQueue, w_withQueue, hleft]
  exact ⟨fun b hb => bit_alarmLeft s ones present hb, hlatch, hregs, State.keeps_back hbegun hparts (by simp)⟩

/-! ### FV_WRITE_APPLY (R286) -/

/-- The counter of a freshness value: of a lane, of a port's beacons, of its retractions. -/
def State.fvOf (s : State) (table index : Nat) : Nat :=
  if table = 0 then s.lane index else if table = 1 then s.beaconFv index else s.retractFv index

/-- One staged freshness value takes its counter. -/
def State.fvTaken (s : State) (e : Nat × Nat × Nat) : State :=
  let s := { s with ciph := { s.ciph with invalid := s.ciph.invalid.filter fun (k : Nat) => k != 65536 * e.1 + e.2.1 } }
  if e.1 = 0 then
    (let s := s.setLane e.2.1 e.2.2
     if (s.liveRoute (e.2.1 / 16)).afaAdd then s.delta 1 e.2.1 (le 8 e.2.2) else s)
  else if e.1 = 1 then s.setBeaconFv e.2.1 e.2.2
  else s.setRetractFv e.2.1 e.2.2

/-- The freshness values that requests stage, in their order. -/
def stagedFv (l : List RegCmd) : List (Nat × Nat × Nat) := l.filterMap fun c => match c with
  | .fvWrite t i v => some (t, i, v)
  | _ => none

/-- The requests that stage no freshness value. -/
def State.fvServed (s : State) : State :=
  { s with cmds := s.cmds.filter fun c => match c with
    | .fvWrite .. => false
    | _ => true }

theorem fvApply_eq (s : State) :
    s.fvApply = ((stagedFv s.cmds).foldl State.fvTaken s.fvServed).put Fld.CIPH_FV_STAT_PENDING 0 := rfl

/-- What the taking of a freshness value leaves. -/
structure FvLeaves (s u : State) : Prop where
  regs : u.regs = s.regs
  cmds : u.cmds = s.cmds
  keeps : s.keeps u [.ciph, .hal]

theorem FvLeaves.refl (s : State) : FvLeaves s s := ⟨rfl, rfl, State.keeps_mono (State.keeps_refl s) (by simp)⟩

theorem FvLeaves.ciph (h : FvLeaves s x) (c : Ciph) : FvLeaves s { x with ciph := c } :=
  ⟨h.regs, h.cmds, State.keeps_ciph _ h.keeps (by simp)⟩

theorem ciph_delta (s : State) (c i : Nat) (b : Bytes) : (s.delta c i b).ciph = s.ciph := by
  unfold State.delta
  split
  · exact State.halSend_ciph ..
  · rfl

theorem FvLeaves.delta (h : FvLeaves s x) (c i : Nat) (b : Bytes) : FvLeaves s (x.delta c i b) := by
  unfold State.delta
  split
  · exact ⟨(State.halSend_regs ..).trans h.regs, (State.halSend_cmds ..).trans h.cmds,
      State.keeps_back (State.keeps_hal _ h.keeps (by simp)) (State.keeps_emit _ _) (by simp)⟩
  · exact h

theorem FvLeaves.taken (h : FvLeaves s x) (e : Nat × Nat × Nat) : FvLeaves s (x.fvTaken e) := by
  unfold State.fvTaken
  dsimp only
  split
  · split
    · exact ((h.ciph _).ciph _).delta _ _ _
    · exact (h.ciph _).ciph _
  · split
    · exact ((h.ciph _).ciph _).delta _ _ _
    · exact ((h.ciph _).ciph _).delta _ _ _

/-- A counter shows the value that it took. -/
theorem fvOf_fvTaken (s : State) (table index v : Nat) : (s.fvTaken (table, index, v)).fvOf table index = v := by
  have hset : ∀ m : List (Nat × Nat), SMap.get 0 (SMap.set 0 m index v) index = v := fun m =>
    (SMap.get_set ..).trans (if_pos rfl)
  unfold State.fvTaken State.fvOf
  dsimp only
  split
  · split
    · rw [State.lane, ciph_delta]
      exact hset _
    · exact hset _
  · split
    · rw [State.beaconFv, State.setBeaconFv, State.originDelta, ciph_delta]
      exact hset _
    · rw [State.retractFv, State.setRetractFv, State.originDelta, ciph_delta]
      exact hset _

theorem mem_stagedFv {l : List RegCmd} {table index v : Nat} :
    (table, index, v) ∈ stagedFv l ↔ RegCmd.fvWrite table index v ∈ l := by
  rw [stagedFv, List.mem_filterMap]
  constructor
  · rintro ⟨c, hc, he⟩
    cases c
    case fvWrite tb i x =>
      obtain ⟨rfl, rfl, rfl⟩ := Option.some.inj he
      exact hc
    all_goals cases he
  · exact fun h => ⟨_, h, rfl⟩

theorem fvOf_fvApply {table index v : Nat} (h : RegCmd.fvWrite table index v ∈ s.cmds)
    (hone : ∀ tb i x, RegCmd.fvWrite tb i x ∈ s.cmds → tb = table ∧ i = index ∧ x = v) :
    s.fvApply.fvOf table index = v := by
  have htaken : ((stagedFv s.cmds).foldl State.fvTaken s.fvServed).fvOf table index = v :=
    foldl_reaches (before := fun _ => True) (P := fun y => y.fvOf table index = v) (mem_stagedFv.2 h) trivial
      (fun _ _ _ _ => trivial) (fun y _ => fvOf_fvTaken y table index v) fun y _ ⟨tb, i, x⟩ he => by
        obtain ⟨rfl, rfl, rfl⟩ := hone tb i x (mem_stagedFv.1 he)
        exact fvOf_fvTaken ..
  rw [fvApply_eq]
  exact htaken

theorem fvApply_leaves (s : State) : (∀ tb i x, RegCmd.fvWrite tb i x ∉ s.fvApply.cmds) ∧
    s.fvApply.get Fld.CIPH_FV_STAT_PENDING = 0 ∧ s.keepsRegs s.fvApply [Reg.CIPH_FV_STAT] ∧
    s.keeps s.fvApply [.cmds, .ciph, .hal] := by
  have hserved : s.keeps s.fvServed [.cmds, .ciph, .hal] :=
    State.keeps_cmds _ (State.keeps_mono (State.keeps_refl s) (by simp)) (by simp)
  have hleaves : FvLeaves s.fvServed ((stagedFv s.cmds).foldl State.fvTaken s.fvServed) :=
    List.foldlRecOn _ _ (.refl _) fun _ hy e _ => hy.taken e
  rw [fvApply_eq]
  generalize (stagedFv s.cmds).foldl State.fvTaken s.fvServed = y at *
  refine ⟨fun tb i x hx => ?_, State.get_put_zero _ _ (by decide) (by decide), ?_, ?_⟩
  · rw [State.put_cmds, hleaves.cmds] at hx
    exact Bool.false_ne_true (List.mem_filter.1 hx).2
  · exact State.keepsRegs.put (State.keepsRegs.same (fun _ _ => rfl) hleaves.regs) _ _ (by simp [Fld.CIPH_FV_STAT_PENDING])
  · exact (State.keeps_back hserved hleaves.keeps (by simp)).put _ _

theorem answers_fvWriteApply (hs : s.up = true) (hdue : (s.at t).commitDue = true) (hd : s.domain 3 = 2) {table index v : Nat}
    (h : RegCmd.fvWrite table index v ∈ s.cmds)
    (hone : ∀ tb i x, RegCmd.fvWrite tb i x ∈ s.cmds → tb = table ∧ i = index ∧ x = v) :
    answers (exec (.fvWriteApply t) s) fun u =>
      (if table = 0 then u.lane index else if table = 1 then u.beaconFv index else u.retractFv index) = v ∧
        (∀ tb i x, RegCmd.fvWrite tb i x ∉ u.cmds) ∧ u.get Fld.CIPH_FV_STAT_PENDING = 0 ∧
        s.keepsRegs u [Reg.CIPH_FV_STAT] ∧ s.keeps u [.cmds, .ciph, .hal] := by
  refine answers_effect (m := "FV_WRITE_APPLY") hs rfl ?_
  rw [if_pos (c := (s.at t).commitDue = true ∧ (s.at t).domain 3 = 2) ⟨hdue, hd⟩, State.keepsRegs_withQueue, State.keeps_withQueue,
    State.get_withQueue, cmds_withQueue]
  have hvalue := fvOf_fvApply (s := s.at t) h hone
  have hleaves := fvApply_leaves (s.at t)
  simp only [State.keeps_from_at, State.keepsRegs_from_at] at hleaves
  exact ⟨hvalue, hleaves⟩

/-! ### Outside the commit slot -/

theorem answers_noCommit (hs : s.up = true) (hn : n < 64) (hdue : ¬(s.at t).commitDue = true) :
    ∀ c ∈ [Instr.keyLoadLive t, .keyRetireApply n t, .fvWriteApply t], answers (exec c s) fun u =>
      s.keepsRegs u [] ∧ s.keeps u [] := by
  have hidle := keeps_all_at s t s.pending
  intro c hc
  simp only [List.mem_cons, List.not_mem_nil, or_false] at hc
  rcases hc with rfl | rfl | rfl
  · refine answers_effect (m := "KEY_LOAD_LIVE") hs rfl ?_
    rwa [if_neg fun h => hdue h.1]
  · refine answers_effect (m := "KEY_RETIRE_APPLY") hs (decide_eq_true hn) ?_
    rwa [if_neg hdue]
  · refine answers_effect (m := "FV_WRITE_APPLY") hs rfl ?_
    rwa [if_neg fun h => hdue h.1]

end

end Sys2Proof.Machine

namespace Sys2Proof.Machine

/-- Settles O51: each command of the vault has an equation for the case in which its cause holds; the rules above say what the
state of each equation shows, and what every other one of its steps leaves of it. -/
theorem keysGoLiveRetireAndAreErased : Obligations.KeysGoLiveRetireAndAreErased := by
  unfold Obligations.KeysGoLiveRetireAndAreErased
  intro n t s hs hn
  exact ⟨answers_noCommit hs hn, fun hdue hd l hl hone hattr hsize => answers_keyLoadLive hs hdue hd hl hone hattr hsize,
    answers_keyRetireApply hs hn, answers_keyLimitReached hs hn, answers_ciphKeyLow hs hn,
    fun source hsource present value high => answers_ciphAlarm hs hn hsource present value high, answers_ciphAlarmClear hs,
    fun table index v _ hdue hd h hone => answers_fvWriteApply hs hdue hd h hone⟩

end Sys2Proof.Machine
